-- ==== Sys2Proof/Word.lean ====
section
/-! DEFINITION. The word types of the KRT-9640 terminal (R7): BAR0 and time port registers are
32 bits wide; packets and overhead are sequences of bytes. -/

namespace Sys2Proof

/-- One byte of a packet, a header or a frame (R7). -/
abbrev Byte := BitVec 8

/-- One 32-bit BAR0 or time port register (R7); bit 0 is the least significant bit. -/
abbrev Word := BitVec 32

/-- A 48-bit Ethernet address (R192). -/
abbrev MacAddr := BitVec 48

/-- The first 16 bytes of an identity digest (R82, R104, R217). -/
abbrev Ident := BitVec 128

/-- A whole SHA-384 digest (R215, R216). -/
abbrev Digest := BitVec 384

/-- An instant or a span of time, counted in 2^-16 ns, the grain of the 96-bit line time of R24. -/
abbrev Instant := Nat

end Sys2Proof
end

