-- ==== Sys2Proof/Config.lean ====
section
/-! DEFINITION. What the manual leaves open. Every `opaque` constant here is a FREE VALUE: it has no
body, so no proof can see a number behind it. Each is named in the assumption log. -/

namespace Sys2Proof.Config

/-- A fresh value for the n-th draw: random nonces, challenges, back-off draws, sampling periods and
results the manual leaves open. The machine counts the draws in `Clock.draws` (log entry 3). -/
opaque fresh : Nat → Nat

/-- The servo's frequency correction, in 2^-32 ns for each tick, after the n-th accepted superframe
(R25, R32): the manual gives no loop filter (log entry 4). -/
opaque servoCorrection : Nat → Int

/-- The servo's own estimate of its time error in TRACK, in ns (Table 2-6, ERR_EST; R34, E0), at the
n-th reading (log entry 4). -/
opaque servoError : Nat → Nat

/-- The two candidate buckets of a key, 0 and 1 (R130): the hashes are not in the manual. -/
opaque flowHash : Nat → List Byte → Nat

/-- Byte i of the key stream of a suite under a key reference and a 96-bit nonce, and the 16-byte tag over additional
data and ciphertext (R229 to R232): AES-GCM and AES-GMAC are standards outside the manual. -/
opaque keystream : Nat → Nat → Nat → Nat → BitVec 8
opaque gcmTag : Nat → Nat → Nat → List Byte → List Byte → BitVec 128

/-- The items of a handshake message (R222, R225) by kind, index and generation, at the n-th sending: keys, signatures
and HMACs are outside the manual. -/
opaque handshakeBody : Nat → Nat → Nat → Nat → List Byte

/-- AES-256-GMAC of a burst header under a line control key (R112). -/
opaque gmac : Nat → Nat → List Byte → List Byte

/-- Ephemeral keys and signatures of the n-th ranging burst (R85): item 3 the ECDH P-384 key, 4 the ML-KEM-1024 encapsulation
key, 5 and 6 the two identity signatures: the algorithms are standards outside the manual (log entry 5). -/
opaque rangingItem : Nat → Nat → List Byte

/-- A raised-cosine ramp (Table 3-8) after `k` of its `m` updates, in 1/4,095 of ON − OFF: the manual gives no rounding
(log entry 77). -/
opaque raisedCosine : Nat → Nat → Nat

/-- SHA-384 of a byte string (R82, R214, R217, R338). -/
opaque sha384 : List Byte → Digest

/-- The identity key pair's public halves derived from a seed (R215): ECDSA P-384, then ML-DSA-87. -/
opaque identityKeys : Nat → List Byte × List Byte

/-- Data a front-end part returns to the n-th raw transfer (R71): the parts are outside the manual. -/
opaque frontEndData : Nat → Nat

/-- The checksum that carrier.fe.load and trib.page.write reply (Tables 3-10, 5-7): no rule defines it. -/
opaque checksum : List Nat → Nat

/-- The boot ROM's version that device.info replies (R257). -/
opaque bootRomVersion : Nat

/-- The bytes of a reply's DATA, from the opcode and the values its table names (log entry 6). -/
opaque replyBytes : Nat → List Nat → List Byte

/-- DETAIL of a 0x01xx status (Table 11-2): the byte offset of the offending field in the parameters of an
opcode, at the n-th refusal; the parameters' byte layout is not in the manual (log entry 14). -/
opaque fieldOffset : Nat → Nat → Nat

/-- How many of the n-th packet's cells lie in a counter's address range (Tables 14-1 and 14-2): where cells stand
in HBM is not in the manual (log entry 19). -/
opaque cellsInRange : Nat → Nat

/-- Where mirror session n sends its copies (R137): whether to a host queue, else the client port, the queue and the
length a copy is cut to; no command sets the sessions (log entry 25). -/
opaque mirrorToHost : Nat → Bool
opaque mirrorPort : Nat → Nat
opaque mirrorQueue : Nat → Nat
opaque mirrorLength : Nat → Nat

/-- The default Tw_sys_tx and Receive Tw of a port mode, by its rate in Gb/s, in microseconds (R206). -/
opaque defaultTw : Nat → Nat

/-- The chassis ID TLV's value and the port ID TLV's of a port (R206): the manual gives neither (log entry 94). -/
opaque chassisId : List Byte
opaque portId : Nat → List Byte

/-- CRC-32 of a retention bank's image at the n-th entry (R326): the image's bits are not in the manual. -/
opaque bankCrc : Nat → Nat

end Sys2Proof.Config
end

