-- ==== Sys2Proof/Syntax.lean ====
section
/-! DEFINITION. The commands of the terminal as data: the rows of the opcode table (`Instr`), and the
names and parameter records they are written with. Numbers are plain `Nat` where a rule checks a range
(so that an out-of-range value can be written down and is rejected by the rule); bytes and register
words are bit vectors. -/

namespace Sys2Proof

/-! ### Names -/

/-- Line profiles of Table 3-1. -/
inductive Profile where | p1600 | p1200 | p800 | p400
deriving DecidableEq, Repr

/-- Band type of the line (R51). -/
inductive Band where | c | cl
deriving DecidableEq, Repr

/-- Carrier states of Table 3-4. -/
inductive CarrierState where | off | tune | acquire | locked | lost | mismatch
deriving DecidableEq, Repr

/-- Causes recorded with carrier.gate_fault and carrier.fe_fault (R52, R67, R71, Tables 3-4 and 3-9). -/
inductive FaultCause where
  | none | ceiling | window | maxOn | laserOffset | tuneTimeout | spiTimeout | bias | rx | alarm | shutdown
deriving DecidableEq, Repr

/-- Ramp shapes of Table 3-8. -/
inductive RampShape where | linear | raisedCosine | table
deriving DecidableEq, Repr

/-- Servo modes of Table 2-2; ACQUIRE remembers where it was entered from. -/
inductive Servo where | free | acquireFree | acquireHoldover | track | holdover
deriving DecidableEq, Repr

/-- Registration states of Table 4-1. -/
inductive RegState where | off | listen | discover | ranging | operating | holdover | fenced
deriving DecidableEq, Repr

/-- Security lifecycle of Table 10-1. -/
inductive Lifecycle where | blank | unowned | owned
deriving DecidableEq, Repr

/-- Suites of Table 10-6. -/
inductive Suite where | gcm256 | gcm128 | gmac256 | gmac128
deriving DecidableEq, Repr

/-- Power states of Table 15-3. -/
inductive PowerState where | active | trim | lull | doldrums
deriving DecidableEq, Repr

/-- Domain levels of R320. -/
inductive Level where | off | ret | on
deriving DecidableEq, Repr

/-- Time outputs (R40). -/
inductive TimeOut where | pps | freq | tout (n : Nat)
deriving DecidableEq, Repr

/-- Reference sources of R171. -/
inductive RefSource where | line | board0 | board1
deriving DecidableEq, Repr

/-- Client lane modes and patterns of R178. -/
inductive LaneMode where | monitor | prbs9 | prbs13 | prbs31 | ssprq
deriving DecidableEq, Repr

/-- Client lane rates of Table 8-1. -/
inductive LaneRate where | g212 | g106 | g53 | g25
deriving DecidableEq, Repr

/-- Pause modes of R197. -/
inductive PauseMode where | none | pause | pfc
deriving DecidableEq, Repr

/-- Policer modes of Table 7-2. -/
inductive PolicerMode where | srtcm | trtcm | trtcm4115
deriving DecidableEq, Repr

/-- Packet colours of the metadata block (Table 12-2). -/
inductive Colour where | green | yellow | red
deriving DecidableEq, Repr

/-- AUTH of the metadata block (R236, Table 12-2). -/
inductive Auth where | none | pending | pass | fail
deriving DecidableEq, Repr

/-- Transports of the command channel (R249): the rings, the SPI slave, in-band on a client port. -/
inductive Transport where | ring | spi | inband (port : Nat)
deriving DecidableEq, Repr

/-- Status codes of Table 11-7 and Table 10-12. -/
inductive Status where
  | ok | staged
  | headerInvalid | paramRange | actionInvalid | lengthLimit | opcodeUnknown | paramLength | versionUnsupported
  | tableFull | placeFail | stageFull | noGroup | unitAbsent | queueExists | snapshotBusy | dmaError
  | notReady | slotDuplicate | carrierNotOff | regNotOff | noHeadList | tribSwapPending | entryExists | entryAbsent
  | queueNotEmpty | lpiUnsupported | lanesInUse | assocState | groupState | notConfigured | gateTestFail
  | tokenInvalid | noOwner | ownerEnrolled | peerAuthFail | peerTimeout | securityFault | debugUnlocked
  | keygenExhausted
  | instantPassed | timeInvalid | instantTooFar
  | notStageable | lockConflict | instantMisaligned | generationNotReady | blockNotReady | targetChanged
  | groupLapsed | hostAbort | integrity | dieSplit
deriving DecidableEq, Repr

/-! ### Command headers and tokens -/

/-- An owner-signed token (Table 10-2, R217): its bytes 0 to 87, and what the security block's SHA-384 and signature checks make
of the rest (log entry 5): the digest of the two owner keys in it, whether PARAM_DIGEST is that of the parameters, and whether
each signature verifies. -/
structure Token where
  head          : List Byte
  ownerDigest   : Digest
  paramDigestOk : Bool
  sigEcOk       : Bool
  sigMldsaOk    : Bool
deriving DecidableEq, Repr

/-- What a command carries besides its parameters once its header has passed R247: transport, TAG, SEQ,
GROUP, PARAM_LEN, the owner token, the size of a ring's reply buffer (R251; none: it fits), and the addresses
an in-band reply needs (R255). -/
structure Hdr where
  transport : Transport := .ring
  tag       : BitVec 16 := 0
  seq       : BitVec 24 := 0
  group     : Nat := 0
  token     : Option Token := none
  len       : Nat := 0
  cap       : Option Nat := none
  src       : MacAddr := 0
  dst       : MacAddr := 0
  vlan      : Option (BitVec 16) := none
deriving DecidableEq, Repr

/-! ### Parameter records -/

/-- time.output.set (Table 2-7): the fields of the output's registers (Table 2-6) and the PPS_IN threshold. -/
structure OutputParams where
  out       : TimeOut
  enable    : Bool
  activeLow : Bool := false
  mode      : Nat := 0
  period    : Nat := 1000000000
  width     : Nat := 100000000
  phase     : Nat := 0
  comp      : BitVec 16 := 0
  threshold : Option Nat := none
deriving DecidableEq, Repr

/-- carrier.config (R51, R56, R73): delays in 0.25 ns, tune timeout in seconds, degrade threshold in 10^-7. -/
structure CarrierParams where
  band      : Band := .c
  slot      : Nat
  profile   : Profile := .p1200
  rxDelay   : Nat := 0
  txDelay   : Nat := 0
  threshold : Nat := 0
  tuneTime  : Nat := 60
  degrade   : Nat := 150000
deriving DecidableEq, Repr

/-- Gate-drive parameters other than GATE_CEIL (Table 3-8): currents in 0.1 mA, RAMP in ns, GATE_SKEW in
0.25 ns, GATE_MAX_ON in microseconds. SHAPE_TABLE is linear at reset; an empty list keeps the table in force. -/
structure GateParams where
  on       : Nat := 0
  off      : Nat := 0
  ramp     : Nat := 100
  shape    : RampShape := .raisedCosine
  table    : List Nat := (List.range 32).map fun i => i * 4095 / 31
  skew     : Int := 0
  maxOn    : Nat := 125
deriving DecidableEq, Repr

/-- One transfer of a front-end script and its allow-list entry (R71): chip select 0 to 2, device address,
register, data, and the transfer's bits (8 to 32, R70). -/
structure FeTransfer where
  cs   : Nat
  dev  : Nat
  reg  : Nat
  data : Nat := 0
  bits : Nat := 8
deriving DecidableEq, Repr

/-- An allow-list range of R71: a device address and a register range on one chip select. -/
structure FeAllow where
  cs : Nat
  dev : Nat
  regLo : Nat
  regHi : Nat
deriving DecidableEq, Repr

/-- A front-end script (R71): sequences by duty number of Table 3-9, and the allow-list. -/
structure FeScript where
  duties : List (Nat × List FeTransfer) := []
  allow  : List FeAllow := []
  len    : Nat := 0
deriving DecidableEq, Repr

/-- One line-head identity of the head list (R95), named by its digest and its two public keys. -/
structure Head where
  ident : Ident
  keyEc : List Byte := []
  keyMl : List Byte := []
deriving DecidableEq, Repr

/-- One tributary page entry (R116). -/
structure TribEntry where
  upCarrier : Nat := 0
  downMask  : BitVec 4 := 0b0001
  enable    : Bool := true
deriving DecidableEq, Repr

/-- Flow entry and ternary control word as the host writes it (Table 6-4). -/
structure EntryWord where
  valid     : Bool := true
  override  : Bool := false
  profile   : Nat := 0
  actionSet : Nat := 0
  cookie    : Word := 0
  counter   : Word := 0xFFFFFFFF
deriving DecidableEq, Repr

/-- Actions of Table 6-5. SET_META fields are numbered as in `Meta.setField`. -/
inductive Action where
  | setClass (cls : Nat) (keepRed : Bool)
  | police (idx : Nat)
  | rewrite (entry offset : Nat) (value mask : List Byte)
  | pushVlan (tpid : BitVec 16) (tci : BitVec 16)
  | popVlan
  | pushMpls (label tc ttl : Nat) (etype : BitVec 16)
  | popMpls (next : BitVec 16)
  | decTtl
  | setMeta (field : Nat) (value : Nat)
  | count (idx : Nat)
  | mirror (session : Nat)
  | runProgram (prog : Nat)
  | forwardAssoc (idx : Nat)
  | forwardPort (port queue : Nat)
  | toHost (queue reason : Nat)
  | recirculate (profile : Nat)
  | drop (reason : Nat)
deriving DecidableEq, Repr

/-- The length of a user node (R124): fixed, or (field × scale) + base. -/
inductive NodeLen where
  | fixed (bytes : Nat)
  | field (offset bits scale base : Nat)
deriving DecidableEq, Repr

/-- A user parse node (R124). `entries` are the edges from fixed nodes: (fixed node, selector value). -/
structure UserNode where
  len     : NodeLen
  selOff  : Nat
  selBits : Nat
  edges   : List (Nat × Nat) := []
  entries : List (Nat × Nat) := []
deriving DecidableEq, Repr

/-- One selection of a key profile (R128). `header` takes node, instance (1, 2, … from the outermost, −1,
−2, … from the innermost), offset and length; the others are the metadata fields R128 names. -/
inductive Selection where
  | header (node : Nat) (inst : Int) (offset len : Nat)
  | ingressPort | passNumber | cls | assoc
deriving DecidableEq, Repr

/-- Shaper parameters (R158): RATE in kb/s, BURST in bytes, ADJUST in bytes. -/
structure ShaperParams where
  rate   : Nat
  burst  : Nat
  adjust : Int := 0
deriving DecidableEq, Repr

/-- queue.create and queue.set settings (R149): omitted ones are `none`. -/
structure QueueParams where
  weight     : Option Nat := none
  limit      : Option Nat := none
  ylim       : Option Nat := none
  maxSojourn : Option Nat := none
deriving DecidableEq, Repr

/-- One client egress queue's settings (R159). -/
structure EgressQ where
  strict : Bool := false
  weight : Nat := 1
  shaper : Option ShaperParams := none
  limit  : Nat := 50331648
  ylim   : Nat := 50331648
deriving DecidableEq, Repr

/-- policer.set (R160, R161): rates in kb/s, sizes in bytes; the second pair is PIR/PBS, EIR/EBS or EBS. -/
structure PolicerParams where
  mode   : PolicerMode := .srtcm
  aware  : Bool := false
  cir    : Nat := 0
  cbs    : Nat := 0
  xir    : Nat := 0
  xbs    : Nat := 0
  adjust : Int := 0
deriving DecidableEq, Repr

/-- A gate list (R162): base instant, cycle in ns, entries (GATES, INTERVAL in ns), FALLBACK. -/
structure GateList where
  base     : Instant
  cycle    : Nat
  entries  : List (BitVec 8 × Nat)
  fallback : BitVec 8 := 0xFF
deriving DecidableEq, Repr

/-- barometer.watch settings (R166). -/
structure WatchParams where
  queue     : Nat
  period    : Nat
  depthBase : Nat
  sojBase   : Nat
  alarm     : Nat := 0
deriving DecidableEq, Repr

/-- port.config (R188, R190, R194, R200): `rs` is RS(528,514) or RS(544,514) as the mode has it, `none` no FEC. -/
structure PortParams where
  lanes     : Nat
  rate      : LaneRate
  fec       : Bool := true
  maxFrame  : Nat := 9600
  storeFwd  : Bool := false
  defPrio   : Nat := 0
  inband    : Bool := false
deriving DecidableEq, Repr

/-- port.filter.set (R192): flags and the (index, address, enable) entries it writes. -/
structure FilterParams where
  promisc : Bool
  bcast   : Bool
  mcast   : Bool
  entries : List (Nat × MacAddr × Bool) := []
deriving DecidableEq, Repr

/-- port.pause.set (R197 to R200): the PFC map gives each priority's queue; XOFF and XON in KiB per account;
pause time in quanta; watchdog in ms. -/
structure PauseParams where
  mode     : PauseMode := .none
  map      : List Nat := [0, 1, 2, 3, 4, 5, 6, 7]
  xoff     : List Nat := []
  xon      : List Nat := []
  time     : BitVec 16 := 0xFFFF
  watchdog : Nat := 100
deriving DecidableEq, Repr

/-- sec.assoc.create (R221). `initiate` is the role; arm time in seconds for RESPOND. -/
structure AssocParams where
  initiate  : Bool
  peer      : Digest
  peerNum   : Nat := 0
  suite     : Suite := .gcm256
  trib      : Nat := 0
  classMask : BitVec 8 := 0xFF
  armTime   : Nat := 60
deriving DecidableEq, Repr

/-- A firmware image (Table 15-10, R338): bytes 0 to 95 of its header, and whether BODY_DIGEST is its body's SHA-384 and both
signatures verify (log entry 5). -/
structure FwImage where
  header   : List Byte
  digestOk : Bool
  sigsOk   : Bool
deriving DecidableEq, Repr

/-- A program image (Table 12-6): its 32-byte header, code and read-only data, and the verifier's verdict (the instruction set
is in the Queni toolkit reference, Table 0-1). -/
structure ProgImage where
  header : List Byte
  code   : List Byte := []
  data   : List Byte := []
  legal  : Bool := true
deriving DecidableEq, Repr

/-- sample.config (R313). -/
structure SampleParams where
  down      : Bool
  enable    : Bool
  clusters  : BitVec 4 := 0xF
  engines   : BitVec 16 := 0xFFFF
  period    : Nat := 256
  watermark : Nat := 4096
deriving DecidableEq, Repr

/-- trace.config (R315, R316). -/
structure TraceParams where
  up        : Bool
  down      : Bool
  enable    : Bool
  k         : Nat := 0
  ports     : BitVec 36 := 0
  classes   : BitVec 8 := 0xFF
  assoc     : Option Nat := none
  wrap      : Bool := false
  watermark : Nat := 65536
deriving DecidableEq, Repr

/-- Targets of trace.read (Table 14-8). -/
inductive TraceSel where | trace | sampleUp | sampleDown
deriving DecidableEq, Repr

/-- device.reset (R334). -/
inductive ResetKind where | warm | domain (n : Nat)
deriving DecidableEq, Repr

/-- lane.refclk.set (R171). -/
inductive RefTarget where
  | quad (q : Nat) (src : RefSource)
  | output (n : Nat) (src : RefSource) (enable : Bool)
deriving DecidableEq, Repr

/-! ### Palgil commands (Table 11-5), without their header -/

/-- A Palgil command and its parameters. -/
inductive Cmd where
  -- time (Table 2-7)
  | timeStatus
  | timeCapture (input max : Nat)
  | timeCaptureConfig (input : Nat) (enable falling : Bool)
  | timeOutputSet (p : OutputParams)
  | timeSplitSet (alpha : Nat)
  | timeAsymmetrySet (a : Int) (clear : Bool)
  | timeHoldoverSet (y d limit : Nat) (squelch : Bool)
  | timePtpSet (port : Nat) (enable : Bool) (domain : Nat) (altAddr twoStep : Bool)
  | timeSynceSet (port : Nat) (enable : Bool) (qlTrack qlHold : Nat)
  | timeCarrierSet (carrier : Option Nat)
  -- carrier (Table 3-10)
  | carrierConfig (n : Nat) (p : CarrierParams)
  | carrierEnable (n : Nat)
  | carrierDisable (n : Nat)
  | carrierStatus (n : Nat)
  | carrierGateSet (n : Nat) (p : GateParams)
  | carrierGateCeiling (n ceil : Nat)
  | carrierFeLoad (n : Nat) (script : FeScript)
  | carrierFeAccess (n : Nat) (t : FeTransfer)
  | carrierMonitor (n : Nat)
  | carrierHintClear (n : Nat)
  -- registration (Table 4-9)
  | regEnable
  | regDisable
  | regStatus
  | regConfig (carrier : Option Nat) (tResume : Nat)
  | regHeadlistSet (heads : List Head)
  | regEpochReset
  | grantStats (n : Nat)
  | forecastConfig (n a b : Nat)
  | forecastRead (n : Nat)
  -- frames, cells, channels, tributaries (Table 5-7)
  | frameStatus (n : Nat)
  | cellStats (n : Nat)
  | cellGroupsSet (bitmap : BitVec 64)
  | mchConfig (ch : Nat) (enable : Bool) (carrier rate : Nat)
  | mchStats (ch : Nat)
  | tribPageWrite (first : Nat) (entries : List TribEntry)
  | tribPageSwap (instant : Instant) (fence : Option Nat)
  | tribPageRead (active : Bool)
  | tribStatus
  -- classification (Table 6-7)
  | flowInsert (e : EntryWord) (key : List Byte)
  | flowModify (profile : Nat) (key : List Byte) (e : EntryWord)
  | flowDelete (profile : Nat) (key : List Byte)
  | flowLookup (profile : Nat) (key : List Byte)
  | flowActionWrite (idx : Nat) (acts : List Action)
  | ternaryWrite (idx : Nat) (e : EntryWord) (value mask : List Byte)
  | ternaryDelete (idx : Nat)
  | parseNodeSet (node : Nat) (d : Option UserNode)
  | classProfileSet (profile : Nat) (exact ternary : List Selection)
  | classDefaultSet (port actionSet profile : Nat)
  | classStatus
  | flowScan (first count : Nat)
  -- queues (Table 7-5)
  | queueCreate (q assoc cls group : Nat) (p : QueueParams)
  | queueDelete (q : Nat)
  | queueSet (q : Nat) (p : QueueParams)
  | queueStatus (q : Nat)
  | queueFlush (q : Nat)
  | schedNodeSet (assoc : Nat) (cls : Option Nat) (weight : Nat) (shaper : Option ShaperParams) (expedite : Bool)
  | egressConfig (port : Nat) (queues : List EgressQ) (shaper : Option ShaperParams)
  | policerSet (idx : Nat) (p : PolicerParams) (refill : Bool)
  | policerRead (idx : Nat) (clear : Bool)
  | gateListSet (port : Nat) (g : GateList)
  | gateStatus (port : Nat)
  | barometerWatch (slot : Nat) (p : Option WatchParams)
  | barometerRead (slot : Nat) (clear : Bool)
  | storeStatus
  -- lanes and die link (Table 8-5)
  | laneConfig (lane : Nat) (txInv rxInv : Bool) (preset : Nat)
  | laneRefclkSet (t : RefTarget)
  | laneStatus (lane : Nat)
  | laneMonitorSet (lane : Nat) (m : LaneMode)
  | lanePatternRead (lane : Nat) (clear : Bool)
  | dieStatus
  | dieRetrain (widen : Bool)
  -- ports (Table 9-5)
  | portConfig (port : Nat) (p : Option PortParams)
  | portStatus (port : Nat)
  | portFilterSet (port : Nat) (p : FilterParams)
  | portPauseSet (port : Nat) (p : PauseParams)
  | portTsConfig (port rx tx : Nat)
  | portTsRead (port max : Nat)
  | portLpiSet (port : Nat) (enable : Bool) (idleHold rxTw : Nat)
  | portSleep (port : Nat) (sleep wakeOnTx : Bool)
  | statsSnapshot (instant : Instant) (ports : BitVec 32)
  | statsRead (buffer : Nat) (release : Bool)
  | portStatsRead (port : Nat) (clear : Bool)
  -- security (Table 10-11)
  | secStatus
  | secIdentity
  | secChallenge
  | secOwnerEnrol (challenge : Ident) (digest : Digest) (sigEcOk sigMldsaOk : Bool)
  | secAssocCreate (idx : Nat) (p : AssocParams)
  | secAssocRekey (idx : Nat)
  | secAssocDelete (idx : Nat)
  | secAssocStatus (idx : Nat)
  | secAssocConfig (idx threshold hold : Nat)
  | secAssocResume (idx : Nat)
  | secSidechannelSet (dmax : Nat)
  | secDebugUnlock
  | secCompatSet (enable : Bool)
  | cipherJob (isSeal : Bool) (idx addr len : Nat) (urgent : Bool)
  -- device (Table 11-6)
  | deviceInfo
  | deviceStatus
  | deviceReset (k : ResetKind)
  | deviceFwLoad (offset len : Nat) (last : Option FwImage)
  | devicePing (bytes : List Byte)
  -- commit (Table 11-11)
  | commitOpen (timeout : Nat)
  | commitApply (g : Nat) (instant : Instant)
  | commitAbort (g : Nat)
  | commitStatus (g : Nat)
  -- power (Table 15-12)
  | powerStatus
  | powerVote (word : Word)
  | powerSchedule (target : PowerState) (instant : Instant) (carriers : BitVec 4) (wakeAt : Option Instant)
  | powerRetentionStatus
  -- engines (Table 12-8)
  | engineProgramLoad (img : ProgImage) (limit : Nat)
  | engineProgramUnload (prog : Nat)
  | engineStatus
  | engineExceptionRead (down : Bool) (max : Nat)
  -- performance and trace (Table 14-8)
  | pmcConfig (n : Nat) (evsel filt : Word) (ranges : List (Nat × Word × Word))
  | sampleConfig (p : SampleParams)
  | traceConfig (p : TraceParams)
  | traceRead (sel : TraceSel) (max : Nat)
deriving DecidableEq, Repr

/-! ### What the environment's commands carry -/

/-- A command packet as it arrives (Table 11-1): the 16 bytes of its header, the token its parameters end with, and the command
its opcode and parameters spell, `none` where the parameters fit no command of that opcode. -/
structure Packet where
  header : List Byte
  token  : Option Token := none
  cmd    : Option Cmd := none
deriving DecidableEq, Repr

/-- A submission ring entry (R251): its 32 bytes. -/
structure SubEntry where
  bytes : List Byte
deriving DecidableEq, Repr

/-- An in-band command frame's addressing (R255): addresses, C-tag, and the bytes the frame holds after
the EtherType. -/
structure InbandReq where
  dst   : MacAddr
  src   : MacAddr
  vlan  : Option (BitVec 16) := none
  bytes : Nat
deriving DecidableEq, Repr

/-- A downstream frame of one carrier as the decoder gives it, descrambled (R101 to R104): the 256 sign bits at the
expected FAW position, PRBS bit 0 first, and while the hunt runs the sign bits of the symbol positions of this frame's
span that look like it (position, 256 bits); the numbers of the codewords that cannot be corrected; the overhead's raw
bytes (Table 5-2); and the cell positions that do not hold calm cells, with their raw bytes, in rising order. -/
structure DownFrame where
  faw      : BitVec 256
  signs    : List (Nat × BitVec 256) := []
  badCw    : List Nat := []
  overhead : List Byte
  cells    : List (Nat × List Byte) := []
deriving DecidableEq, Repr

/-- One second's monitor values of a carrier (R74): the values of the list under Monitors, in its order. -/
structure MonitorSample where
  preFec    : Nat
  corrected : Nat
  uncorr    : Nat
  iters     : Nat := 0
  snr       : Nat := 0
  disp      : Int := 0
  dgd       : Nat := 0
  freqOff   : Int := 0
  laserOff  : Int := 0
  rxPower   : Int := 0
  gateCur   : Nat := 0
deriving DecidableEq, Repr

/-- Front-end duties of Table 3-9 that run periodically. -/
inductive FeDuty where | bias | receiver | alarms
deriving DecidableEq, Repr

/-- A received client frame (R190): its bytes from the destination address to the end of its data (FCS left
out), verdicts of the FCS and the PCS, and the sub-tick of its stamp in 0.25 ns. -/
structure RxFrame where
  bytes : List Byte
  fcsOk : Bool := true
  pcsErr : Bool := false
  sub   : Nat := 0
deriving DecidableEq, Repr

/-- The packet a pass is started on (R122): a waiting recirculation of a direction, the head of a client
port's ingress FIFO, or the oldest released downstream packet. -/
inductive PassFrom where | recirc (down : Bool) | port (p : Nat) | line
deriving DecidableEq, Repr

/-- What one stretch of an action program does between two switches of its context (R272 to R278): the
instructions issued, then a call, a verdict or a broken rule. The instruction set is outside the manual. -/
inductive RunStep where
  | lookupExact (profile : Nat) (key : List Byte)
  | lookupTernary (profile : Nat) (key : List Byte)
  | count (idx : Nat)
  | police (idx : Nat)
  | mirror (session : Nat)
  | timeRead
  | waitAuth
  | edit (offset : Nat) (bytes : List Byte)
  | push (mpls : Bool) (bytes : List Byte)
  | pop (mpls : Bool) (next : BitVec 16)
  | setMeta (field value : Nat)
  | exitContinue
  | exitSkip
  | exitReplace (a : Action)
  | illegal
  | memory
  | integrity
deriving DecidableEq, Repr

/-- HELLO (Table 10-5): the identity digest of the public keys it carries, its items, and its verification verdicts (log entry 5). -/
structure HelloMsg where
  sender    : Digest
  senderNum : Nat
  responder : Digest
  idx       : Nat
  suite     : Suite
  trib      : Nat
  classMask : BitVec 8
  gen       : Nat
  nonce     : Nat
  sigsOk    : Bool := true
  itemsOk   : Bool := true
deriving DecidableEq, Repr

/-- REPLY (Table 10-5). -/
structure ReplyMsg where
  sender  : Digest
  idx     : Nat
  peerIdx : Nat
  gen     : Nat
  nonce   : Nat
  sigsOk  : Bool := true
  itemsOk : Bool := true
deriving DecidableEq, Repr

/-- CONFIRM_I, CONFIRM_R and CLOSE (Table 10-5, R228): the receiver's index and the HMAC's verdict. -/
structure ConfirmMsg where
  idx    : Nat
  gen    : Nat
  hmacOk : Bool := true
deriving DecidableEq, Repr

/-- A host frame for transmission (R195, R203). -/
structure HostFrame where
  port  : Nat
  queue : Nat
  bytes : List Byte
  csum  : Bool := false
  tsReq : Bool := false
  tsTag : BitVec 16 := 0
deriving DecidableEq, Repr

/-- How a boot stage ends (R337). For SEED `seedOk` tells whether a new seed was programmed before power
failed; for IMAGE_VERIFY the two slots' images. -/
structure StageResult where
  ok       : Bool := true
  selfTest : Bool := true
  seedOk   : Bool := true
  images   : List (Option FwImage) := []
deriving DecidableEq, Repr

/-- Sources of a wake (R327). -/
inductive WakeSource where | request | schedule | doorbell | port (p : Nat) | spi
deriving DecidableEq, Repr

/-- Switched rails (R348). -/
inductive Rail where | swCore | lnCore | conv | serdes | hbm
deriving DecidableEq, Repr

/-- What the scrubber or an access finds (R300, R301): kind of EVC_INTEG_POP, unit of Table 13-6, die, index. -/
structure Finding where
  kind : Nat
  unit : Nat
  lineDie : Bool := false
  index : Nat := 0
deriving DecidableEq, Repr

/-- What a wake step reports besides being ready (Table 15-5): banks that fail their check (R333), die lanes. -/
structure StepReport where
  badBanks : BitVec 16 := 0
  lanesUp   : Nat := 24
  lanesDown : Nat := 24
deriving DecidableEq, Repr

/-- What a lane's hunt has received when it locks (R175, R176): the last 64 sync headers at the candidate, or by how many common
marker bits the candidate and the marker one period after it differ from the expected value. -/
inductive LockSeen where
  | headers (l : List (BitVec 2))
  | markers (first second : Nat)
deriving DecidableEq, Repr

/-- What a lane has received when it loses lock (R175 to R177): a window of 64 sync headers, the differences of four consecutive
markers, or how far in ps the port's lanes differ. -/
inductive LossSeen where
  | headers (l : List (BitVec 2))
  | markers (l : List Nat)
  | skew (ps : Nat)
deriving DecidableEq, Repr

/-! ### The rows of the opcode table -/

/-- The commands of the terminal, one constructor for each row of spec/opcode_table.json, in the table's
grouping. The first 117 are Palgil commands as they start after their header has passed R247; the others are
register accesses, pin and line events, and the instants of the terminal's own clocks. -/
inductive Instr where
  -- time (Table 2-7)
  | timeStatus (h : Hdr)
  | timeCapture (h : Hdr) (input max : Nat)
  | timeCaptureConfig (h : Hdr) (input : Nat) (enable falling : Bool)
  | timeOutputSet (h : Hdr) (p : OutputParams)
  | timeSplitSet (h : Hdr) (alpha : Nat)
  | timeAsymmetrySet (h : Hdr) (a : Int) (clear : Bool)
  | timeHoldoverSet (h : Hdr) (y d limit : Nat) (squelch : Bool)
  | timePtpSet (h : Hdr) (port : Nat) (enable : Bool) (domain : Nat) (altAddr twoStep : Bool)
  | timeSynceSet (h : Hdr) (port : Nat) (enable : Bool) (qlTrack qlHold : Nat)
  | timeCarrierSet (h : Hdr) (carrier : Option Nat)
  -- carrier (Table 3-10)
  | carrierConfig (h : Hdr) (n : Nat) (p : CarrierParams)
  | carrierEnable (h : Hdr) (n : Nat)
  | carrierDisable (h : Hdr) (n : Nat)
  | carrierStatus (h : Hdr) (n : Nat)
  | carrierGateSet (h : Hdr) (n : Nat) (p : GateParams)
  | carrierGateCeiling (h : Hdr) (n ceil : Nat)
  | carrierFeLoad (h : Hdr) (n : Nat) (script : FeScript)
  | carrierFeAccess (h : Hdr) (n : Nat) (t : FeTransfer)
  | carrierMonitor (h : Hdr) (n : Nat)
  | carrierHintClear (h : Hdr) (n : Nat)
  -- registration (Table 4-9)
  | regEnable (h : Hdr)
  | regDisable (h : Hdr)
  | regStatus (h : Hdr)
  | regConfig (h : Hdr) (carrier : Option Nat) (tResume : Nat)
  | regHeadlistSet (h : Hdr) (heads : List Head)
  | regEpochReset (h : Hdr)
  | grantStats (h : Hdr) (n : Nat)
  | forecastConfig (h : Hdr) (n a b : Nat)
  | forecastRead (h : Hdr) (n : Nat)
  -- frames, cells, channels, tributaries (Table 5-7)
  | frameStatus (h : Hdr) (n : Nat)
  | cellStats (h : Hdr) (n : Nat)
  | cellGroupsSet (h : Hdr) (bitmap : BitVec 64)
  | mchConfig (h : Hdr) (ch : Nat) (enable : Bool) (carrier rate : Nat)
  | mchStats (h : Hdr) (ch : Nat)
  | tribPageWrite (h : Hdr) (first : Nat) (entries : List TribEntry)
  | tribPageSwap (h : Hdr) (instant : Instant) (fence : Option Nat)
  | tribPageRead (h : Hdr) (active : Bool)
  | tribStatus (h : Hdr)
  -- classification (Table 6-7)
  | flowInsert (h : Hdr) (e : EntryWord) (key : List Byte)
  | flowModify (h : Hdr) (profile : Nat) (key : List Byte) (e : EntryWord)
  | flowDelete (h : Hdr) (profile : Nat) (key : List Byte)
  | flowLookup (h : Hdr) (profile : Nat) (key : List Byte)
  | flowActionWrite (h : Hdr) (idx : Nat) (acts : List Action)
  | ternaryWrite (h : Hdr) (idx : Nat) (e : EntryWord) (value mask : List Byte)
  | ternaryDelete (h : Hdr) (idx : Nat)
  | parseNodeSet (h : Hdr) (node : Nat) (d : Option UserNode)
  | classProfileSet (h : Hdr) (profile : Nat) (exact ternary : List Selection)
  | classDefaultSet (h : Hdr) (port actionSet profile : Nat)
  | classStatus (h : Hdr)
  | flowScan (h : Hdr) (first count : Nat)
  -- queues (Table 7-5)
  | queueCreate (h : Hdr) (q assoc cls group : Nat) (p : QueueParams)
  | queueDelete (h : Hdr) (q : Nat)
  | queueSet (h : Hdr) (q : Nat) (p : QueueParams)
  | queueStatus (h : Hdr) (q : Nat)
  | queueFlush (h : Hdr) (q : Nat)
  | schedNodeSet (h : Hdr) (assoc : Nat) (cls : Option Nat) (weight : Nat) (shaper : Option ShaperParams) (expedite : Bool)
  | egressConfig (h : Hdr) (port : Nat) (queues : List EgressQ) (shaper : Option ShaperParams)
  | policerSet (h : Hdr) (idx : Nat) (p : PolicerParams) (refill : Bool)
  | policerRead (h : Hdr) (idx : Nat) (clear : Bool)
  | gateListSet (h : Hdr) (port : Nat) (g : GateList)
  | gateStatus (h : Hdr) (port : Nat)
  | barometerWatch (h : Hdr) (slot : Nat) (p : Option WatchParams)
  | barometerRead (h : Hdr) (slot : Nat) (clear : Bool)
  | storeStatus (h : Hdr)
  -- lanes and die link (Table 8-5)
  | laneConfig (h : Hdr) (lane : Nat) (txInv rxInv : Bool) (preset : Nat)
  | laneRefclkSet (h : Hdr) (t : RefTarget)
  | laneStatus (h : Hdr) (lane : Nat)
  | laneMonitorSet (h : Hdr) (lane : Nat) (m : LaneMode)
  | lanePatternRead (h : Hdr) (lane : Nat) (clear : Bool)
  | dieStatus (h : Hdr)
  | dieRetrain (h : Hdr) (widen : Bool)
  -- ports (Table 9-5)
  | portConfig (h : Hdr) (port : Nat) (p : Option PortParams)
  | portStatus (h : Hdr) (port : Nat)
  | portFilterSet (h : Hdr) (port : Nat) (p : FilterParams)
  | portPauseSet (h : Hdr) (port : Nat) (p : PauseParams)
  | portTsConfig (h : Hdr) (port rx tx : Nat)
  | portTsRead (h : Hdr) (port max : Nat)
  | portLpiSet (h : Hdr) (port : Nat) (enable : Bool) (idleHold rxTw : Nat)
  | portSleep (h : Hdr) (port : Nat) (sleep wakeOnTx : Bool)
  | statsSnapshot (h : Hdr) (instant : Instant) (ports : BitVec 32)
  | statsRead (h : Hdr) (buffer : Nat) (release : Bool)
  | portStatsRead (h : Hdr) (port : Nat) (clear : Bool)
  -- security (Table 10-11)
  | secStatus (h : Hdr)
  | secIdentity (h : Hdr)
  | secChallenge (h : Hdr)
  | secOwnerEnrol (h : Hdr) (challenge : Ident) (digest : Digest) (sigEcOk sigMldsaOk : Bool)
  | secAssocCreate (h : Hdr) (idx : Nat) (p : AssocParams)
  | secAssocRekey (h : Hdr) (idx : Nat)
  | secAssocDelete (h : Hdr) (idx : Nat)
  | secAssocStatus (h : Hdr) (idx : Nat)
  | secAssocConfig (h : Hdr) (idx threshold hold : Nat)
  | secAssocResume (h : Hdr) (idx : Nat)
  | secSidechannelSet (h : Hdr) (dmax : Nat)
  | secDebugUnlock (h : Hdr)
  | secCompatSet (h : Hdr) (enable : Bool)
  | cipherJob (h : Hdr) (isSeal : Bool) (idx addr len : Nat) (urgent : Bool)
  -- device (Table 11-6)
  | deviceInfo (h : Hdr)
  | deviceStatus (h : Hdr)
  | deviceReset (h : Hdr) (k : ResetKind)
  | deviceFwLoad (h : Hdr) (offset len : Nat) (last : Option FwImage)
  | devicePing (h : Hdr) (bytes : List Byte)
  -- commit (Table 11-11)
  | commitOpen (h : Hdr) (timeout : Nat)
  | commitApply (h : Hdr) (g : Nat) (instant : Instant)
  | commitAbort (h : Hdr) (g : Nat)
  | commitStatus (h : Hdr) (g : Nat)
  -- power (Table 15-12)
  | powerStatus (h : Hdr)
  | powerVote (h : Hdr) (word : Word)
  | powerSchedule (h : Hdr) (target : PowerState) (instant : Instant) (carriers : BitVec 4) (wakeAt : Option Instant)
  | powerRetentionStatus (h : Hdr)
  -- engines (Table 12-8)
  | engineProgramLoad (h : Hdr) (img : ProgImage) (limit : Nat)
  | engineProgramUnload (h : Hdr) (prog : Nat)
  | engineStatus (h : Hdr)
  | engineExceptionRead (h : Hdr) (down : Bool) (max : Nat)
  -- performance and trace (Table 14-8)
  | pmcConfig (h : Hdr) (n : Nat) (evsel filt : Word) (ranges : List (Nat × Word × Word))
  | sampleConfig (h : Hdr) (p : SampleParams)
  | traceConfig (h : Hdr) (p : TraceParams)
  | traceRead (h : Hdr) (sel : TraceSel) (max : Nat)
  -- command channel (R249 to R255)
  | cmdSqTailWrite (v : Word)
  | cmdRqHeadWrite (v : Word)
  | cmdCtrlEnWrite (v : Word)
  | ringSubmissionFetch (e : SubEntry) (p : Packet) (dmaError : Bool)
  | writeCmd (p : Packet)
  | readReply
  | readStatus
  | inbandCommandFrame (port : Nat) (f : InbandReq) (p : Packet)
  -- registers (R8, R45 to R48, R292 to R298, R310, R341)
  | registerWrite (offset : Nat) (v : Word)
  | timeNowLoRead (edge : Nat)
  | timeNowHiRead (sec : Bool) (edge : Nat)
  | tpWrite (addr : BitVec 6) (v : Word)
  | tptTimeNowLoRead
  | capLoRead (n : Nat)
  | capLostRead (n : Nat)
  | evcClaim (t : Nat)
  | evcComplete (t : Nat) (v : Word)
  | evcTrigger (v : Word)
  | evcDiscard (v : Word)
  | evcPendingWrite (w : Nat) (v : Word)
  | evcMaskWrite (w : Nat) (v : Word)
  | evcIntegPop
  | evcIntegLostRead
  | evcIntegCorrRead
  | pmcCntLoRead (n : Nat)
  | pmcCntWrite (n : Nat) (hi : Bool) (v : Word)
  | pmcFreezeWrite (v : Word)
  | aonWakeReq (v : Word)
  | aonVoteHostWrite (v : Word)
  | aonHoldNsRead
  -- resets, boot, faults (R334 to R340, R349 to R352)
  | porstAssert
  | resetNAssert
  | bootStart
  | bootStageComplete (r : StageResult)
  | watchdogReset
  | commandResetStart
  | pciePerstAssert
  | pcieLinkChange (width rate state : Nat)
  | supplyFault (rail : Rail)
  | thermalWarn (die : Bool) (above : Bool)
  | thermalTrip (lineDie : Bool)
  | hardwareStop
  -- line time (R32 to R44)
  | ocxoFail
  | refclkRecovered
  | laneRefFault (input : Nat)
  | tcapEdge (n : Nat) (falling : Bool) (sub : Nat)
  | ppsInEdge (sub : Nat)
  | servoTrackEntry
  | servoStampTimeout
  | holdoverLimit
  -- downstream control (R85 to R107)
  | downstreamFrame (n : Nat) (f : DownFrame)
  | superframeVerified (n : Nat) (signer : Option Ident)
  | rangeAssign (n : Nat) (signer : Option Ident)
  | regConfirm (n : Nat) (signer : Option Ident) (unwraps : Bool)
  | rangeUpdate (n : Nat) (signer : Option Ident)
  | resume (n : Nat) (signer : Option Ident)
  | deregister (n : Nat) (signer : Option Ident)
  | keyRoll (n : Nat) (signer : Option Ident) (unwraps : Bool)
  | msgTimeout (n : Nat) (msgId : BitVec 16)
  -- registration, gusts, bursts (R78 to R94)
  | regEvaluation
  | rangingTimeout
  | tResume
  | gust
  | gustUnanswered
  | rangingBurst
  | burstDraw (n : Nat)
  | burstEmission (n : Nat)
  | forecastUpdate
  -- carriers (R52 to R74)
  | tuneComplete (n : Nat)
  | tuneTimeout (n : Nat)
  | carrierLocked (n power : Nat) (dispersion : Int) (first second : List Byte)
  | acqTimeout (n : Nat)
  | carrierLost (n power : Nat)
  | lostTimeout (n : Nat)
  | laserFineTune (n : Nat) (offsetMhz : Int)
  | feDuty (n : Nat) (d : FeDuty) (ok : Bool) (alarms : BitVec 16)
  | spiTimeout (n duty : Nat) (t : FeTransfer)
  | gateFault (n sensed held : Nat)
  | carrierSecond (n : Nat) (m : MonitorSample)
  -- management channels, tributaries (R114 to R118)
  | mchPortFrame (ch : Nat) (bits : List Bool)
  | mchUpstreamCell (ch : Nat)
  | tribSwap
  | fenceTimeout (trib : Nat)
  -- client ports and the pipeline (R121 to R147, R190 to R208, R272 to R282)
  | frameReceive (port : Nat) (f : RxFrame)
  | pauseTimerExpiry (port q : Nat)
  | pauseWatchdog (port q : Nat)
  | pauseWatchdogRecovery (port q : Nat)
  | pauseRefresh (port acct : Nat)
  | pipelinePass (src : PassFrom) (miss : Bool)
  | flowCacheFill (down : Bool)
  | programDispatch (down : Bool) (engine : Nat)
  | dispatchTimeout (down : Bool)
  | callReturn (ctx : Nat) (issued pc : Nat) (st : RunStep)
  | waitAuth (ctx : Nat)
  | programTimeException (ctx : Nat)
  | engineReload (engine : Nat)
  | engineRestart (control : Bool) (engine : Nat)
  | generationDrain
  | writeInComplete
  -- sealing, segmentation, unsealing (R150 to R153, R229 to R238)
  | sealPacket
  | segmentation
  | ageCheck
  | unsealPacket
  | tagResult (id : Nat) (ok : Bool)
  | reassemblyTimeout (carrier assoc cls : Nat)
  -- key agreement (R218 to R228, R240)
  | hello (m : HelloMsg)
  | reply (m : ReplyMsg)
  | confirmI (m : ConfirmMsg)
  | confirmR (m : ConfirmMsg)
  | close (m : ConfirmMsg)
  | helloRetry (idx : Nat)
  | confirmTimeout (idx : Nat)
  | peerTimeout (idx : Nat)
  | armExpired (idx : Nat)
  | oldKeyHold (idx : Nat)
  | challengeLapse
  | rngFail
  -- egress and port events (R159, R189, R195 to R208, R269)
  | egressFrameStart (port : Nat)
  | egressAge (port q : Nat)
  | hostFrameSend (f : HostFrame)
  | portUp (port : Nat)
  | portDown (port : Nat) (remote : Bool)
  | lpiEntry (port : Nat)
  | lpiWake (port : Nat)
  | lldpTransmit (port : Nat)
  | portWake (port : Nat)
  -- lanes and the die link (R172 to R185, R304 to R306)
  | laneLos (lane : Nat)
  | laneLol (lane : Nat)
  | laneAlignLock (lane : Nat) (e : LockSeen)
  | laneAlignLost (lane : Nat) (e : LossSeen)
  | laneBerHigh (lane : Nat) (high : Bool)
  | lanePatternLock (lane : Nat) (gained : Bool) (window bits errors : Nat)
  | dieLaneSpared (down : Bool) (lane : Nat)
  | dieLaneLoss (down : Bool) (lane : Nat)
  | dieRetrainComplete (goodUp goodDown : Nat)
  | dieSplit
  | splitRetrainAttempt (goodUp goodDown : Nat)
  -- commit groups and instants (R162 to R166, R210, R259 to R265, R325)
  | commitReadinessCheck (g : Nat)
  | commitInstant (g : Nat)
  | groupLapsed (g : Nat)
  | groupFree (g : Nat)
  | gateListStart (port : Nat)
  | gateEvent (port : Nat)
  | wheelSlot
  | barometerSample (slot : Nat)
  | snapshotDue (buffer : Nat)
  | powerScheduleDue
  | wakeRequest (src : WakeSource)
  | wakeStepReady (r : StepReport)
  | wakeStepTimeout (cause : Nat)
  | coalescingTimer (t : Nat)
  | scrub (f : Finding)
  | timeOutputEdge (o : TimeOut)
  | carrierDisableComplete (n : Nat)
  | mchPortTransmit (ch : Nat)
  | partnerLpi (port : Nat) (enter : Bool)
  | laneSignalDetect (lane : Nat)
  | laneCdrLock (lane : Nat)
  | rngRecovered
  | msixVectorUnmask (v : Nat)
  | pmcCounterWrap (n : Nat)
  | thermalTripClear
  | ptpMessageTransmit (port : Nat) (announce : Bool)
  | esmcTransmit (port : Nat)
deriving DecidableEq, Repr

end Sys2Proof
end

