-- ==== Sys2Proof/Machine/Tables.lean ====
section
/-! DEFINITION. Sparse tables: what the terminal holds by number (carriers, lanes, ports, queues, flow
counters, associations, …). A table lists (number, value) pairs in rising order and lists no value equal to
what an unlisted number reads as, so equal tables are equal data. -/

namespace Sys2Proof.Machine

/-- A sparse table; what an unlisted key reads as is the `d` given to each operation. -/
abbrev Tbl (α : Type) := List (Nat × α)

/-- The value at key `k`, `d` where the table lists none. -/
def Tbl.get {α : Type} (d : α) : Tbl α → Nat → α
  | [], _ => d
  | (j, a) :: t, k => if k = j then a else Tbl.get d t k

/-- The table without key `k`. -/
def Tbl.erase {α : Type} : Tbl α → Nat → Tbl α
  | [], _ => []
  | (j, a) :: t, k => if k = j then Tbl.erase t k else (j, a) :: Tbl.erase t k

/-- The table with `a` at key `k`, in key order. -/
def Tbl.insert {α : Type} : Tbl α → Nat → α → Tbl α
  | [], k, a => [(k, a)]
  | (j, b) :: t, k, a =>
    if k = j then (k, a) :: t
    else if k < j then (k, a) :: (j, b) :: t
    else (j, b) :: Tbl.insert t k a

/-- Write `a` at key `k`, keeping the canonical form: writing what an unlisted key reads as removes the key. -/
def Tbl.set {α : Type} [DecidableEq α] (d : α) (t : Tbl α) (k : Nat) (a : α) : Tbl α :=
  if a = d then Tbl.erase t k else Tbl.insert t k a

/-- Change the value at key `k`. -/
def Tbl.modify {α : Type} [DecidableEq α] (d : α) (t : Tbl α) (k : Nat) (f : α → α) : Tbl α :=
  Tbl.set d t k (f (Tbl.get d t k))

/-- The canonical form: keys strictly rising from `lo` on, and no listed value equal to `d`. -/
def Tbl.wfFrom {α : Type} [DecidableEq α] (d : α) : Nat → Tbl α → Bool
  | _, [] => true
  | lo, (k, a) :: t => decide (lo ≤ k) && decide (a ≠ d) && Tbl.wfFrom d (k + 1) t

/-- The canonical form of a whole table. -/
def Tbl.wf {α : Type} [DecidableEq α] (d : α) (t : Tbl α) : Bool := Tbl.wfFrom d 0 t

/-- The keys a table lists. -/
def Tbl.keys {α : Type} (t : Tbl α) : List Nat := t.map (·.1)

/-- Keep the listed pairs that satisfy `p`. -/
def Tbl.keep {α : Type} (p : Nat → α → Bool) (t : Tbl α) : Tbl α := t.filter (fun x => p x.1 x.2)

end Sys2Proof.Machine
end

