-- ==== Sys2Proof/Machine/State.lean ====
section
/-! DEFINITION. The state of the terminal as plain data: every register, FIFO, buffer, counter, mode and pin
the manual gives the block, and the queue of waiting commands. Each field's line names its rule, its width or
range, and the value after power-on reset where the manual states one; "DC" marks a value the manual does not
state, zero or empty here (log entry 2). Spans and instants are in 2^-16 ns unless a line says otherwise;
`local` instants are local time (R9). -/

namespace Sys2Proof.Machine

/-! ### Fuses and identity -/

/-- The three ordering numbers of Table 0-2. -/
inductive Variant where | krt9640 | krt9620 | krt9610
deriving DecidableEq, Repr

/-- One bank of the identity seed store (R214). -/
inductive SeedBank where | unused | abandoned | valid (seed : Nat)
deriving DecidableEq, Repr

/-- Fuses and the lifecycle (R1 to R3, R213 to R216, R338): no reset or power state changes them. -/
structure Fuses where
  /-- [R1] ordering number, 16 bits in DEV_ID; reset fuse, DC KRT-9640 -/
  variant : Variant := .krt9640
  /-- [R2] STEP_MAJOR, 8 bits; reset fuse, DC -/
  stepMajor : BitVec 8 := 0
  /-- [R2] STEP_MINOR, 8 bits; reset fuse, DC -/
  stepMinor : BitVec 8 := 0
  /-- [R214] the 4 seed banks, 32 bytes and SEED_VALID each; DC: none used -/
  seedBanks : List SeedBank := [.unused, .unused, .unused, .unused]
  /-- [R216] fused owner digest, 48 bytes; reset none -/
  owner : Option Digest := none
  /-- [R338] fused minimum security version, 0 to 64; DC -/
  minSec : Nat := 0
  /-- [R213] lifecycle state; reset BLANK on leaving manufacture -/
  lifecycle : Lifecycle := .blank
deriving DecidableEq, Repr

/-- Boot, firmware and host-link status (R2, R257, R337 to R340). -/
structure Device where
  /-- [R337] boot stage, 4 bits, 0x8 READY, 0xF recovery; reset 0x0 -/
  bootStage : Nat := 0
  /-- [R254] the boot ROM runs (from BOOT_START until READY); reset false -/
  booting : Bool := false
  /-- [R2] LINK_WIDTH, 4 bits; reset 0x0 -/
  linkWidth : Nat := 0
  /-- [R2] LINK_RATE, 4 bits; reset 0x0 -/
  linkRate : Nat := 0
  /-- [R2] LINK_STATE, 3 bits; reset 0b000 -/
  linkState : Nat := 0
  /-- [R257] local instant of the last reset; reset 0 -/
  resetAt : Instant := 0
  /-- [R338] the two flash image slots as last read, `none` where empty; DC -/
  slots : List (Option FwImage) := [none, none]
  /-- [R338] IMAGE_VERSION booted, and its slot; DC -/
  booted : Option (Nat × Nat) := none
  /-- [R340] firmware copy in HBM and its digest kept; DC -/
  fwCopy : Bool := false
  /-- [R339] bytes of an image received by device.fw.load; DC -/
  fwBytes : Nat := 0
  /-- [R334] a reset that device.reset scheduled, and its local instant; DC none -/
  resetDue : Option (ResetKind × Instant) := none
  /-- [R337] a boot stage has failed and the boot has stopped there; DC false -/
  bootStopped : Bool := false
deriving DecidableEq, Repr

/-- Local time and the model's own counter of free draws (R9). -/
structure Clock where
  /-- [R9] local time since power-on reset; reset 0 -/
  now : Instant := 0
  /-- the MODEL'S OWN counter of free values drawn (log entry 3); DESIGN CHOICE 0 -/
  draws : Nat := 0
  /-- [R355] changes of line-time validity so far, each starting a new second; reset 0 -/
  validChanges : Nat := 0
  /-- [R355] per event key, the second it was last raised in: validity count and second; DC -/
  lastRaise : Tbl (Nat × Nat) := []
deriving DecidableEq, Repr

/-! ### Line time (chapter 02) -/

/-- A slew in progress (R29): when it began, local, and the whole change, signed. -/
structure Slew where
  start : Instant
  total : Int
deriving DecidableEq, Repr

/-- The line time unit (R24 to R38, R357). -/
structure TimeUnit where
  /-- [R25] received time in 2^-32 ns, 32 fractional bits held; DC 0 -/
  rx : Nat := 0
  /-- [R25] servo correction per tick in 2^-32 ns, signed; DC 0 -/
  corr : Int := 0
  /-- [R32] servo mode; reset FREE -/
  servo : Servo := .free
  /-- [R36] REFCLK_156 is within 20 ppm; DC true -/
  refOk : Bool := true
  /-- [R36] the servo is held in FREE after an oscillator fault; DC false -/
  refHeld : Bool := false
  /-- [R26] d_down in force, 2^-16 ns, signed, none until ranged; reset none -/
  dDown : Option Int := none
  /-- [R29] slew in progress; DC none -/
  slew : Option Slew := none
  /-- [R30] α in units of 2^-16; reset 0x8000 -/
  alpha : Nat := 0x8000
  /-- [R30] asymmetry constant in force, signed, 0.25 ns; reset 0 -/
  asym : Int := 0
  /-- [R30] host override set; reset 0 -/
  asymOvr : Bool := false
  /-- [R30] announced asymmetry constant, signed; DC 0 -/
  asymAnn : Int := 0
  /-- [R104] announced HEAD_DELAY, 28 bits, 0.25 ns; DC 0 -/
  headDelay : Nat := 0
  /-- [R104] announced T_EQ, 28 bits, 0.25 ns; DC 0 -/
  tEq : Nat := 0
  /-- [R104] UTC_OFFSET, 16 bits, and LEAP bits, as last heard; DC 0 -/
  utc : BitVec 24 := 0
  /-- [R47] ranged round trip of the time carrier, 0.25 ns, 28 bits; reset 0 -/
  rtt : Nat := 0
  /-- [R34] y in 0.01 ppb; reset 50 -/
  y : Nat := 50
  /-- [R34] D in 0.01 ppb per day; reset 100 -/
  drift : Nat := 100
  /-- [R34] holdover limit, ns; reset 1000 -/
  limit : Nat := 1000
  /-- [R34] squelch flag; DC false -/
  squelch : Bool := false
  /-- [R34] E0, ns, and the local instant of entry to HOLDOVER; DC none -/
  holdover : Option (Nat × Instant) := none
  /-- [R34] E(t) is beyond the limit in force; DC false -/
  beyond : Bool := false
  /-- [R302] local instant of the last mismatch of a line-time update; reset none -/
  mismatch : Option Instant := none
  /-- [R32] local instant of the last authenticated stamps; DC none -/
  stampAt : Option Instant := none
  /-- [R32] local instant since which the phase error is under 50 ns; DC none -/
  phaseOk : Option Instant := none
  /-- [R32] offset of the separate estimator in an ACQUIRE entered from HOLDOVER; DC 0 -/
  estimate : Int := 0
  /-- [R27] time carrier; DC none -/
  carrier : Option Nat := none
  /-- [R27] carrier the host named; DC none -/
  hostCarrier : Option Nat := none
  /-- [R27] the time carrier whose RTT d_down was last taken from; DC none -/
  rangedFrom : Option Nat := none
  /-- [R23] the switch-die copy is aligned, TP_STATUS.D2D_ALIGNED; reset 0 -/
  aligned : Bool := false
  /-- [R23, R304] during a split the switch die's copy of line time, counting on alone, and its validity; reset none -/
  copy : Option Instant := none
  copyValid : Bool := false
deriving DecidableEq, Repr

/-- One capture entry (R44). -/
structure CapEntry where
  time  : Instant := 0
  valid : Bool := false
  gap   : Bool := false
deriving DecidableEq, Repr

/-- One capture input (R44, Table 2-6). -/
structure Capture where
  /-- [R47] EN; reset 0 -/
  en : Bool := false
  /-- [R47] EDGE, 1 = falling; reset 0 -/
  falling : Bool := false
  /-- [R44] FIFO, 16 entries; reset empty -/
  fifo : List CapEntry := []
  /-- [R44] LOST, 16 bits, saturating; reset 0 -/
  lost : Nat := 0
  /-- [R44] the next stamp stored carries GAP; reset 0 -/
  gapNext : Bool := false
  /-- [R44] entry most recently popped, by CAPn_LO or time.capture: the flags of CAPn_STAT; reset 0 -/
  popped : CapEntry := {}
  /-- [R44] time of the entry that the last read of CAPn_LO popped, held in CAPn_HI and CAPn_SEC; reset 0 -/
  shown : Instant := 0
  /-- [R44] local instant of the previous accepted edge; DC none -/
  lastEdge : Option Instant := none
deriving DecidableEq, Repr

/-- One TOUT output's registers (Table 2-6). -/
structure Tout where
  /-- [R47] EN; reset 0 -/
  en : Bool := false
  /-- [R47] POL; reset 0 -/
  low : Bool := false
  /-- [R47] MODE, 2 bits; reset 0b00 PULSE -/
  mode : Nat := 0
  /-- [R47] PERIOD, ns; reset 0x3B9A_CA00 -/
  period : Nat := 1000000000
  /-- [R47] WIDTH, ns; reset 0x05F5_E100 -/
  width : Nat := 100000000
  /-- [R47] PHASE, ns; reset 0 -/
  phase : Nat := 0
deriving DecidableEq, Repr

/-- PTP service of a port (R42). -/
structure Ptp where
  /-- [R42] enabled; DC false -/
  en : Bool := false
  /-- [R42] domain 24 to 43; reset 24 -/
  domain : Nat := 24
  /-- [R42] address 01-80-C2-00-00-0E instead of 01-1B-19-00-00-00; DC false -/
  altAddr : Bool := false
  /-- [R42] two-step; reset one-step -/
  twoStep : Bool := false
  /-- [R42] Announce messages received, counted and discarded; DC 0 -/
  announceRx : Nat := 0
  /-- [R42] sequence numbers of the next Sync and of the next Announce, 16 bits each; DC 0 -/
  seqId : Nat := 0
  annId : Nat := 0
  /-- [R42] local instants of the last Sync and of the last Announce: 16 and 8 a second; DC none -/
  syncAt : Option Instant := none
  annAt : Option Instant := none
deriving DecidableEq, Repr

/-- SyncE of a port (R41, Table 2-7): QL codes sent in ESMC. -/
structure Synce where
  /-- [R49] enabled; DC false -/
  en : Bool := false
  /-- [R41] QL in TRACK; reset QL-PRC (code 2) -/
  qlTrack : Nat := 2
  /-- [R41] QL in HOLDOVER within the limit; reset QL-SEC (code 11) -/
  qlHold : Nat := 11
deriving DecidableEq, Repr

/-- Time outputs, inputs and the time port (R40 to R48). -/
structure TimeIo where
  /-- [R47] PPS_CTRL.EN; reset 1 -/
  ppsEn : Bool := true
  /-- [R47] PPS_CTRL.POL; reset 0 -/
  ppsLow : Bool := false
  /-- [R47] PPS_CTRL.WIDTH, ns, 30 bits; reset 0x05F5_E100 -/
  ppsWidth : Nat := 100000000
  /-- [R47] PPS_OUT_COMP, 16 bits signed, 0.25 ns; reset 0 -/
  ppsComp : BitVec 16 := 0
  /-- [R47] FREQ_CTRL.EN; reset 1 -/
  freqEn : Bool := true
  /-- [R47] the four TOUT register sets; reset as in Table 2-6 -/
  tout : Tbl Tout := []
  /-- [R40] settings the outputs run on since the last second that took them (TOUT); reset as the registers -/
  toutRun : Tbl Tout := []
  /-- [R40] PPS_OUT enable, POL, WIDTH and COMP in effect; DC as the registers -/
  ppsRun : Bool := true
  ppsRunLow : Bool := false
  ppsRunWidth : Nat := 100000000
  ppsRunComp : BitVec 16 := 0
  /-- [R40] FREQ_OUT enable in effect; DC as the register -/
  freqRun : Bool := true
  /-- [R40] the line-time second in which the outputs last took their settings; DC 0 -/
  outSec : Nat := 0
  /-- [R39, R41] line time up to which the outputs have been held inactive: edges up to it never act; DC 0 -/
  outHeld : Instant := 0
  /-- [R39] by output (0 PPS, 1 FREQ, 2 + n TOUTn), the instant of the last edge that has acted; DC none -/
  outEdge : Tbl (Option Instant) := []
  /-- [R40] by output, its last edge was a leading one; reset inactive -/
  outOn : Tbl Bool := []
  /-- [R43] PPSIN_OFFSET, 32 bits; reset 0x8000_0000 -/
  ppsOffset : Word := 0x80000000
  /-- [R43] PPS_IN threshold, ns; reset 100 -/
  ppsThreshold : Nat := 100
  /-- [R47] TP_FLAGS [5:0]; reset 0 -/
  flags : BitVec 6 := 0
  /-- [R44] capture inputs 0 to 3 -/
  cap : Tbl Capture := []
  /-- [R46] latch of the time port; reset 0 -/
  latch : Instant := 0
  /-- [R46] TP_CLK edge on which the latch was loaded by a TIME_NOW_LO read; DC none -/
  latchEdge : Option Nat := none
  /-- [R48] the mirror's own latch; reset 0 -/
  mirror : Instant := 0
  /-- [R42] PTP service by port -/
  ptp : Tbl Ptp := []
  /-- [R49] SyncE by port -/
  synce : Tbl Synce := []
deriving DecidableEq, Repr

/-! ### Line carriers, grants, bursts (chapters 03 to 05) -/

/-- A held grant (R89, R90): start at the line head in line time, codewords, emission instant in received time. -/
structure Grant where
  ranging  : Bool := false
  id       : Nat
  start    : Instant
  len      : Nat
  emit     : Instant
  window   : Nat
  arrival  : Instant
  check    : Bool := false
  standing : Option Nat := none
deriving DecidableEq, Repr

/-- A standing grant in force (R91): start of its next repetition, repetitions left (none: until cancelled),
and the RAMP in force when it was accepted, which its windows keep (R63). A cancelled one with none left stays in force until the repetition at which the cancel takes effect. -/
structure Standing where
  id     : Nat
  start  : Instant
  len    : Nat
  period : Nat
  left   : Option Nat
  ramp   : Nat := 100
  cancel : Bool := false
deriving DecidableEq, Repr

/-- A burst that has been drawn and whose ramp-up has not begun (R112, R118): its grant, the codewords' bytes, the
header's draw-time fields, the data cells in it by queue, the tagged packets whose last cell it carries (R316), the remainder
it completes, whether it ends inside a cell (R113), and the tributaries of the cells whose last byte it carries (R118). -/
structure Burst where
  grant    : Grant
  payload  : List Byte
  offset   : Nat := 0
  calmOnly : Bool := false
  report   : List Byte := []
  backlog  : List Nat := []
  cells    : List (Nat × Nat) := []
  traces   : List Nat := []
  remIn    : List Byte := []
  remTribIn : Option Nat := none
  cut      : Bool := false
  tribs    : List Nat := []
deriving DecidableEq, Repr

/-- Forecast history of one class on one carrier (R93, R94), volumes in units of 1,024 bytes, scaled by 2^16. -/
structure Forecast where
  /-- [R94] history runs; DC false -/
  on : Bool := false
  /-- [R94] full intervals taken -/
  intervals : Nat := 0
  /-- [R93] L, scaled by 2^16, signed -/
  level : Int := 0
  /-- [R93] B, scaled by 2^16, signed -/
  trend : Int := 0
  /-- [R93] cells of the first full interval, and all cells in history so far -/
  first : Nat := 0
  total : Nat := 0
  /-- [R93] cells that joined in the running superframe, and in the last full interval -/
  cells : Nat := 0
  last : Nat := 0
  /-- [R93] absolute errors of the last 8 comparable interval-1 forecasts, newest first, scaled by 2^16 -/
  errs : List Nat := []
  /-- [R94] instant history began, line time -/
  since : Instant := 0
deriving DecidableEq, Repr

/-- The running superframe of a carrier (R106): frames passed, agreement, stamps with the received instants, newest first,
the signature parts and the signed bytes 0 to 59 of its frames, in frame order. -/
structure SfAcc where
  frames  : Nat := 0
  epoch   : BitVec 32 := 0
  head    : Ident := 0
  agree   : Bool := true
  absent  : Bool := false
  stamps  : List (Instant × Instant) := []
  asym    : Int := 0
  tEq     : Nat := 0
  headDelay : Nat := 0
  utc     : BitVec 24 := 0
  signature : List Byte := []
  signed    : List Byte := []
deriving DecidableEq, Repr

/-- A message being collected from segments (R107). -/
structure MsgCtx where
  msgId : BitVec 16
  type  : Nat
  next  : Nat
  count : Nat
  age   : Nat := 0
  body  : List Byte := []
deriving DecidableEq, Repr

/-- A complete message that waits for its signature check (R85, R90, R107): type, body, and EPOCH, HEAD_ID and stamp of the
frame that completed it. -/
structure Message where
  type  : Nat
  body  : List Byte
  epoch : BitVec 32 := 0
  head  : Ident := 0
  stamp : Instant := 0
deriving DecidableEq, Repr

/-- A grant map held until the signatures of the RANGE_ASSIGN that its frame completed are checked (R90). -/
structure MapWait where
  msg     : Message
  stamp   : Instant
  arrival : Instant
  entries : List (List Byte)
deriving DecidableEq, Repr

/-- Gate drive in force and the parameter change waiting for its first window (R65). -/
structure GateWait where
  from_ : Instant
  p     : GateParams
deriving DecidableEq, Repr

/-- A line carrier (R51 to R76, R112, R356). -/
structure Carrier where
  /-- [R356] slot, 0 to 63; reset none -/
  slot : Option Nat := none
  /-- [R356] band; reset C -/
  band : Band := .c
  /-- [R356] profile; reset P-1200 -/
  profile : Profile := .p1200
  /-- [R356] rx_fe_delay, 0.25 ns; reset 0 -/
  rxDelay : Nat := 0
  /-- [R356] tx_fe_delay, 0.25 ns; reset 0 -/
  txDelay : Nat := 0
  /-- [R73] signal threshold; DC 0 -/
  threshold : Nat := 0
  /-- [R356] tune timeout, s; reset 60 -/
  tuneTime : Nat := 60
  /-- [R356] degrade threshold, 10^-7; reset 1.5e-2 -/
  degrade : Nat := 150000
  /-- [R57] carrier state; reset OFF -/
  state : CarrierState := .off
  /-- [R65] gate-drive parameters; reset as in Table 3-8 -/
  gate : GateParams := {}
  /-- [R65] a gate change waiting for its first window; DC none -/
  gateWait : List GateWait := []
  /-- [R65] GATE_CEIL, 0.1 mA, 0 to 4000; reset 0 -/
  ceil : Nat := 0
  /-- [R67] upstream inhibited by the gate hardware, with its cause; kept in DOLDRUMS; DC none -/
  gateInhibit : Option FaultCause := none
  /-- [R52] laser offset outside ±200 MHz; DC false -/
  laserInhibit : Bool := false
  /-- [R71] modulator bias fault; DC false -/
  biasInhibit : Bool := false
  /-- [R52] laser offset, MHz, signed, as last read; DC 0 -/
  laserOff : Int := 0
  /-- [R67] an inhibit cleared at this instant; grants from 1 µs later; DC 0 -/
  clearAt : Instant := 0
  /-- [R75] last fault cause; DC none -/
  lastFault : FaultCause := .none
  /-- [R71] consecutive failed bias reads, good bias reads, failed receiver reads; DC 0 -/
  biasFail : Nat := 0
  biasGood : Nat := 0
  rxFail : Nat := 0
  /-- [R71] alarm bits last read; DC 0 -/
  alarms : BitVec 16 := 0
  /-- [R71] front-end script; DC none -/
  script : FeScript := {}
  /-- [R59] dispersion hint: slot and ps/nm, persistent store; reset none -/
  hint : Option (Nat × Int) := none
  /-- [R79] EqD search hint: slot and EqD, persistent store; reset none -/
  eqdHint : Option (Nat × Nat) := none
  /-- [R58, R74] dispersion last measured, ps/nm; DC 0 -/
  disp : Int := 0
  /-- [R58, R59] the dispersion search of the running attempt, ps/nm; DC the blind one -/
  search : Int × Int := (-90000, 90000)
  /-- [R103] the hunt's candidates: symbol position and matches so far, at most 8; DC none -/
  hunt : List (Nat × Nat) := []
  /-- [R103] the hunt has found lock in the running attempt; DC false -/
  aligned : Bool := false
  /-- [R75] acquisition attempts; DC 0 -/
  attempts : Nat := 0
  /-- [R58] a first attempt has failed since entry to ACQUIRE; DC false -/
  acqFailed : Bool := false
  /-- [R57] local instant of entry to the present state; DC 0 -/
  since : Instant := 0
  /-- [R72] carrier.disable or TRIM is waiting for its completion; DC false -/
  disabling : Bool := false
  /-- [Table 3-4, R73] the tune timeout of the running TUNE, s; DC 60 -/
  tuneRun : Nat := 60
  /-- [R73] profiles that committed changes replaced, with the instant, newest first: frames whose boundary is earlier are still
  received in them; reset none -/
  profWas : List (Instant × Profile) := []
  /-- [R73] a change of symbol rate waits for its first frame; then the received time at which frames began to be lost; DC none -/
  relockAt : Option Instant := none
  lostFrom : Option Instant := none
  /-- [R73] data cells of the frames lost in a change of symbol rate; reset 0 -/
  nLostCells : Nat := 0
  /-- [R104] announced next profile code and its first FRAME, and SLOT_ACTIVE, as last heard; DC none -/
  next : Option (Nat × BitVec 32) := none
  slotActive : Bool := false
  /-- [R103] consecutive FAW misses, 0 to 4; DC 0 -/
  misses : Nat := 0
  /-- [R87] ranged; reset false -/
  ranged : Bool := false
  /-- [R86] EqD in force, 28 bits, 0.25 ns; DC 0 -/
  eqd : Nat := 0
  /-- [R88] EqDs of accepted updates and their switch instants G_sw, oldest first; reset none -/
  eqdNext : List (Nat × Instant) := []
  /-- [R90] held grants, at most 16,384, in order of acceptance; reset empty -/
  held : List Grant := []
  /-- [R91] standing grants in force, at most 16; reset empty -/
  standing : List Standing := []
  /-- [R118] bursts drawn and not yet in flight, in order of drawing; reset none -/
  drawn : List Burst := []
  /-- [R113] held cell remainder, with the tributary of the cut cell; reset none -/
  remainder : List Byte := []
  remTrib : Option Nat := none
  /-- [R112] BURST_SEQ last used under the present key; reset 0 -/
  burstSeq : Nat := 0
  /-- [R90] maps held until a RANGE_ASSIGN is checked, oldest first; reset none -/
  mapWait : List MapWait := []
  /-- [R64] start and end of the last window emitted, received time: a burst is in flight before its end; DC 0 -/
  winStart : Instant := 0
  winEnd : Instant := 0
  /-- [R118] by tributary, the end at the line head of the last window that carried its cells here; DC 0 -/
  tribEnd : Tbl Nat := []
  /-- [R99] grants emitted, late, invalid, dropped against the carrier, discarded; reset 0 -/
  nEmitted : Nat := 0
  nLate : Nat := 0
  nInvalid : Nat := 0
  nDropped : Nat := 0
  nDiscarded : Nat := 0
  /-- [R119] frames with absent overhead, failed tags, mismatched stamps, malformed overheads; reset 0 -/
  nAbsent : Nat := 0
  nTagFail : Nat := 0
  nStamp : Nat := 0
  nMalformed : Nat := 0
  /-- [R119] superframes verified, failed, unverifiable; reset 0 -/
  nSfOk : Nat := 0
  nSfBad : Nat := 0
  nSfUnver : Nat := 0
  /-- [R107] messages discarded for items missing or out of order, and timed out; reset 0 -/
  nMsgBad : Nat := 0
  nMsgTimeout : Nat := 0
  /-- [R119] cells: HEC failures, calm, reserved, filtered, tributary-filtered, unknown association; reset 0 -/
  nHec : Nat := 0
  nCalm : Nat := 0
  nReserved : Nat := 0
  nFiltered : Nat := 0
  nTrib : Nat := 0
  nUnknown : Nat := 0
  /-- [R109] cells dropped with D2D_SPLIT, D2D_RETRAIN, D2D_OVERRUN; reset 0 -/
  nD2dSplit : Nat := 0
  nD2dRetrain : Nat := 0
  nD2dOverrun : Nat := 0
  /-- [R110] reassembly discards: truncated, orphan, oversize, timed out, no context; reset 0 -/
  nTruncated : Nat := 0
  nOrphan : Nat := 0
  nOversize : Nat := 0
  nTimedOut : Nat := 0
  nExhausted : Nat := 0
  /-- [R119] held remainders discarded; reset 0 -/
  nRemainder : Nat := 0
  /-- [R61, R74] uncorrectable codewords of the running second, 32 bits saturating; reset 0 -/
  nUncorr : Nat := 0
  /-- [R112] FRAME of the last frame whose overhead passed its tag; reset 0 -/
  lastFrame : BitVec 32 := 0
  /-- [R106] running superframe, and the complete one waiting for its signature check -/
  sf : SfAcc := {}
  sfDone : Option SfAcc := none
  /-- [R107] messages being collected -/
  msgs : List MsgCtx := []
  /-- [R107] complete messages, oldest first -/
  msgsDone : List Message := []
  /-- [R74] monitor values of the last full second, none = no data; reset none -/
  monitor : Option MonitorSample := none
  /-- [R74] carrier.fec_degrade in force; reset false -/
  degraded : Bool := false
  /-- [R73] the degrade threshold of the running second, 10^-7; DC 1.5e-2 -/
  degradeRun : Nat := 150000
  /-- [R74] the second of R355 whose samples are being taken, and whether the carrier has been LOCKED for all of it; DC 0, false -/
  second : Nat × Nat := (0, 0)
  whole : Bool := false
  /-- [R93] gains a and b, 1 to 255; reset 64 and 16 -/
  gainA : Nat := 64
  gainB : Nat := 16
  /-- [R93] history by class -/
  fc : Tbl Forecast := []
  /-- [R93] superframe of the last forecast update; DC none -/
  lastFc : Option Nat := none
  /-- [R92] DISCARDING: superframes still to carry it; reset 0 -/
  discarding : Nat := 0
  /-- [R100] CONF of interval 1 has risen above 0 since history started; reset false -/
  confident : Bool := false
  /-- [R99] the last report sent, 144 bytes; reset none -/
  report : List Byte := []
deriving DecidableEq, Repr

/-- What an unlisted carrier number reads as: the carrier after reset (R356). -/
def Carrier.fresh : Carrier := {}

/-! ### Registration (chapter 04) -/

/-- The line control key (R85, R105): its name, the FRAME of the superframe boundary it takes effect at, and once it is in force the
received time of that boundary. -/
structure LineKey where
  name  : Nat
  frame : BitVec 32
  since : Instant := 0
deriving DecidableEq, Repr

/-- Registration (R77 to R98). -/
structure Registration where
  /-- [R79] registration state; reset OFF -/
  state : RegState := .off
  /-- [R10] terminal number, 0 to 63; reset none -/
  number : Option Nat := none
  /-- [R96] number held in the session before; DC none -/
  lastNumber : Option Nat := none
  /-- [R79] a session is open; reset false -/
  session : Bool := false
  /-- [R79] session epoch, 32 bits; DC 0 -/
  epoch : BitVec 32 := 0
  /-- [R79] session head; DC none -/
  head : Option Ident := none
  /-- [R95] E_max, 32 bits, persistent store; reset 0 -/
  eMax : BitVec 32 := 0
  /-- [R97] identity that raised E_max; DC none -/
  eMaxHead : Option Ident := none
  /-- [R95] head list, up to 8, persistent store; reset empty -/
  heads : List Head := []
  /-- [R78] T_RESUME, ms; reset 1000 -/
  tResume : Nat := 1000
  /-- [R83] registration carrier the host named; reset none -/
  carrier : Option Nat := none
  /-- [R83] registration carrier in use since the last gust; DC none -/
  inUse : Option Nat := none
  /-- [R84] nonce and local instant of the last gust while its answer may arrive; DC none -/
  gust : Option (BitVec 64 × Instant) := none
  /-- [R84] nonce of the last gust; DC none -/
  nonce : Option (BitVec 64) := none
  /-- [R83] open discovery window waiting: carrier, start W, SPREAD in ns; DC none -/
  window : Option (Nat × Instant × Nat) := none
  /-- [R84] unanswered gusts; DC 0 -/
  unanswered : Nat := 0
  /-- [R84] open windows still to let pass; DC 0 -/
  backoff : Nat := 0
  /-- [R82] gusts in this DISCOVER stay; DC 0 -/
  attempt : Nat := 0
  /-- [R82] FENCED_SEEN since the last reset; reset false -/
  fencedSeen : Bool := false
  /-- [R90] number of a verified RANGE_ASSIGN and local instant of it; DC none -/
  assigned : Option (Nat × Instant) := none
  /-- [R85] epoch of the head that sent RANGE_ASSIGN; DC 0 -/
  assignEpoch : BitVec 32 := 0
  /-- [R78] received time of a verified REG_CONFIRM that waits for the superframe boundary; reset none -/
  confirmed : Option Instant := none
  /-- [R85] line control key; reset none -/
  key : Option LineKey := none
  /-- [R85] rolled key and the FRAME at which it takes effect; DC none -/
  keyNext : Option LineKey := none
  /-- [R105] frame.key_expired has been raised for the present key; DC false -/
  keyExpired : Bool := false
  /-- [R78] local instants: last superframe verified from an acceptable head; from a refused head; DC none -/
  acceptAt : Option Instant := none
  refusedAt : Option Instant := none
  /-- [R78] local instant since which only refused heads have verified; DC none -/
  refusedSince : Option Instant := none
  /-- [R78] local instant of the last frame whose control tag passed; DC none -/
  tagAt : Option Instant := none
  /-- [R78] first frame that passed its tag again in HOLDOVER or FENCED; DC none -/
  resumeFrom : Option Instant := none
  /-- [R78] last evaluation at which the LISTEN conditions held; DC none -/
  listenAt : Option Instant := none
  /-- [R90] EPOCH and HEAD_ID of the last superframe verified from an acceptable head; DC none -/
  lastSf : Option (BitVec 32 × Ident) := none
  /-- [R97] refused identity and epoch pairs already reported; DC empty -/
  refused : List (Ident × BitVec 32) := []
  /-- [R78] conditions arisen since the last evaluation: DEREGISTER, a failed registration signature, a refused
  range, a higher epoch, a RESUME, a superframe of an acceptable head; DC false -/
  deregister : Bool := false
  sigFailed : Bool := false
  rangeBad : Bool := false
  epochRose : Bool := false
  resumed : Bool := false
  acceptNew : Bool := false
  /-- [R78] the servo has entered HOLDOVER since the last evaluation; DC false -/
  servoFell : Bool := false
deriving DecidableEq, Repr

/-! ### Downstream cells, channels, tributaries (chapter 05) -/

/-- A reassembly context (R110). -/
structure Reasm where
  carrier : Nat
  assoc   : Nat
  cls     : Nat
  src     : Nat
  cells   : Nat
  since   : Instant
  bytes   : List Byte
deriving DecidableEq, Repr

/-- A reassembled sealed packet on its way to unsealing (R110, R234). -/
structure Sealed where
  carrier : Nat
  assoc : Nat
  cls   : Nat
  src   : Nat
  trib  : Nat := 0
  kept  : Instant
  bytes : List Byte
deriving DecidableEq, Repr

/-- Downstream cells (R109, R110). -/
structure Down where
  /-- [R119] group bitmap, 64 bits; DC 0 -/
  groups : BitVec 64 := 0
  /-- [R110] open contexts, at most 32,768; reset empty -/
  ctxs : List Reasm := []
  /-- [R110] packets closed and waiting for unsealing; reset empty -/
  ready : List Sealed := []
deriving DecidableEq, Repr

/-- A management channel (R114, R115). -/
structure Mch where
  /-- [R119] enabled; DC false -/
  en : Bool := false
  /-- [R114] bound carrier; reset 0 -/
  carrier : Nat := 0
  /-- [R115] MCHn_CLK rate code 0 to 4; DC 0 (1.5625 MHz) -/
  rate : Nat := 0
  /-- [R115] downstream buffer, 16 KiB: bytes of the stream not yet framed, then whole frames -/
  downPart : List Byte := []
  downQ : List (List Byte) := []
  /-- [R115] upstream buffer, 16 KiB: the stream of length-prefixed frames -/
  upQ : List Byte := []
  /-- [R114] frame period in which the last management cell was formed, and that in which one was last sent; DC none -/
  lastCell : Option Nat := none
  sentIn : Option Nat := none
  /-- [R114] management cells waiting for the next burst: their header-less payloads -/
  cells : List (List Byte) := []
  /-- [R119] frames and bytes each way; FCS, oversize and overflow discards; reset 0 -/
  nDown : Nat := 0
  bDown : Nat := 0
  nUp : Nat := 0
  bUp : Nat := 0
  nFcs : Nat := 0
  nOver : Nat := 0
  nFull : Nat := 0
deriving DecidableEq, Repr

/-- A fenced tributary (R118): held off the new carrier until the old one has sent its cells, or until a line time. -/
structure Fence where
  trib  : Nat
  old   : Nat
  new   : Nat
  until_ : Instant
deriving DecidableEq, Repr

/-- A pending swap (R117): instant and fence timeout. -/
structure Swap where
  at_   : Instant
  fence : Nat
deriving DecidableEq, Repr

/-- The tributary interchange (R116 to R118). -/
structure Trib where
  /-- [R116] active and standby pages, 64 entries; reset carrier 0, DOWN_MASK 0b0001, ENABLE 1 -/
  active : Tbl TribEntry := []
  standby : Tbl TribEntry := []
  /-- [R117] swap instants with the active page before each, newest first: frames whose boundary is earlier are still
  filtered under it; reset none -/
  pages : List (Instant × Tbl TribEntry) := []
  /-- [R117] a direct swap accepted for its instant; reset none -/
  swap : Option Swap := none
  /-- [R118] fenced tributaries -/
  fences : List Fence := []
  /-- [R119] fence timeouts; reset 0 -/
  nTimeout : Nat := 0
deriving DecidableEq, Repr

/-! ### Packets, classification (chapter 06) -/

/-- The metadata block (Table 12-2). -/
structure Meta where
  /-- [R275] INGRESS_PORT, 6 bits; DIR is 1 for ports 32 to 35 -/
  port : Nat := 0
  /-- [R275] PASS, 2 bits; reset 0 -/
  pass : Nat := 0
  /-- [R127] REASON, 3 bits; reset NONE -/
  reason : Nat := 0
  /-- [R275] CLASS; reset 0 -/
  cls : Nat := 0
  /-- [R160] COLOUR; reset green -/
  colour : Colour := .green
  /-- [R150] FLOW_GROUP, 4 bits; reset 0 -/
  flowGroup : Nat := 0
  /-- [R275] ASSOC, 12 bits; reset 0 -/
  assoc : Nat := 0
  /-- [R236] AUTH -/
  auth : Auth := .none
  /-- [R191] L3_CSUM and L4_CSUM, 2 bits each -/
  l3 : Nat := 0
  l4 : Nat := 0
  /-- [R203] TS_REQ and TS_TAG; reset 0 -/
  tsReq : Bool := false
  tsTag : BitVec 16 := 0
  /-- [R275] PROFILE of this pass -/
  profile : Nat := 0
  /-- [R143] GENERATION the packet is pinned to, and its slot (false A, true B) -/
  gen : Nat := 0
  slotB : Bool := false
  /-- [R275] FRAME_LEN, FCS included -/
  len : Nat := 0
  /-- [R202] RX_TIME -/
  rxTime : Instant := 0
  rxValid : Bool := false
  /-- [R275] USER0 to USER3; reset 0 -/
  user : List Word := [0, 0, 0, 0]
  /-- [R123] parse stack: node and byte offset, at most 24 -/
  stack : List (Nat × Nat) := []
  /-- [R161] line time of the pass's lookup, on whose tick policers are credited; reset 0 -/
  lookAt : Instant := 0
deriving DecidableEq, Repr

/-- A packet inside the terminal; `id` is the model's own name for it, shared by its copies. `trace` is its
tag's TRACE_ID (R315); `stamps` the stages of Table 14-7 it has passed before its first pass. -/
structure Pkt where
  id     : Nat
  bytes  : List Byte
  md     : Meta := {}
  trace  : Option Nat := none
  stamps : Tbl (Option Instant) := []
deriving DecidableEq, Repr

/-- A flow entry (Table 6-4): visibility in slots A and B, HIT, bucket. -/
structure FlowEntry where
  word   : EntryWord
  key    : List Byte
  visA   : Bool := true
  visB   : Bool := true
  hit    : Bool := false
  bucket : Nat := 0
  broken : Bool := false
deriving DecidableEq, Repr

/-- A ternary entry (R132). -/
structure TernEntry where
  index  : Nat
  word   : EntryWord
  value  : List Byte
  mask   : List Byte
  visA   : Bool := true
  visB   : Bool := true
  hit    : Bool := false
  broken : Bool := false
deriving DecidableEq, Repr

/-- An action set index (R134): two copies and the select bit of each generation slot. -/
structure ActionRec where
  copy0  : Option (List Action) := none
  copy1  : Option (List Action) := none
  selA   : Bool := false
  selB   : Bool := false
  broken : Bool := false
deriving DecidableEq, Repr

/-- The two keys of a key profile (R128). -/
structure KeyProfile where
  exact   : List Selection := []
  ternary : List Selection := []
deriving DecidableEq, Repr

/-- An ingress port's default (R141): action set index, none for DROP with reason 0, and first-pass profile. -/
structure PortDefault where
  set     : Option Nat := none
  profile : Nat := 0
deriving DecidableEq, Repr

/-- Parse graph, key profiles and defaults of one generation slot (R143). -/
structure GenTables where
  /-- [R124] user nodes 32 to 63; reset none -/
  nodes : Tbl (Option UserNode) := []
  /-- [R128] key profiles 0 to 15; reset empty -/
  profiles : Tbl KeyProfile := []
  /-- [R141] default actions of ports 0 to 35; reset DROP with reason 0 -/
  defaults : Tbl PortDefault := []
deriving DecidableEq, Repr

/-- A packet counter (R137 COUNT). -/
structure PktCounter where
  packets : Nat := 0
  bytes   : Nat := 0
deriving DecidableEq, Repr

/-- What a pass's lookup has found (R127, R129, R134, R135): the reason code, the actions of the copy it read whole (none: DROP with
reason 0), and whether the entry or the set could not be read (Table 13-6). -/
structure Found where
  reason : Nat
  acts   : Option (List Action) := none
  broken : Bool := false
deriving DecidableEq, Repr

/-- A packet that waits for a flow cache miss (R131): its exact key, none on a pass without a lookup, and what its pass found. -/
structure Miss where
  pkt   : Pkt
  key   : Option (List Byte)
  found : Found
deriving DecidableEq, Repr

/-- Where a classification write-in stands (R144). -/
structure WriteIn where
  group   : Nat
  changes : Nat
  started : Option Instant
  done    : Bool := false
deriving DecidableEq, Repr

/-- The classification pipeline (R121 to R147). -/
structure Classifier where
  /-- [R143] current generation, 32 bits; reset 0 -/
  gen : Nat := 0
  /-- [R143] slot of the current generation (false A, true B); reset A -/
  curB : Bool := false
  /-- [R143] line time at which the older generation began to drain, none once drained -/
  draining : Option Instant := none
  /-- [R144] write-in under way or waiting -/
  writeIn : Option WriteIn := none
  /-- [R143] tables of slots A and B; reset as GenTables -/
  slotA : GenTables := {}
  slotB : GenTables := {}
  /-- [R130] flow table, at most 8,388,608 entries; reset empty -/
  flows : List FlowEntry := []
  /-- [R130] class.table_high has been raised and occupancy has not been below 85 % since -/
  tableHigh : Bool := false
  /-- [R132] ternary table, 65,536 entries; reset empty -/
  tern : List TernEntry := []
  /-- [R137] action table, 1,048,576 indices; reset never written -/
  actions : Tbl ActionRec := []
  /-- [R137] counters of COUNT, 2^24 -/
  counters : Tbl PktCounter := []
  /-- [R122] packets waiting for a recirculated pass, upstream and downstream -/
  recUp : List Pkt := []
  recDown : List Pkt := []
  /-- [R131] packets waiting for a flow cache miss, at most 8,192 each direction -/
  missUp : List Miss := []
  missDown : List Miss := []
  /-- [R121] downstream packets released by the cipher array and waiting for their first pass -/
  line : List Pkt := []
  /-- [R237] packets for host DMA that wait for their tag result: host queue, reason, packet; reset empty -/
  dmaQ : List (Nat × Nat × Pkt) := []
  /-- [R233] packets on their way to sealing -/
  sealQ : List Pkt := []
  /-- [R146] drops by reason: INGRESS_OVERRUN, MISS_OVERRUN, RECIRC_LIMIT, TTL_EXPIRED; reset 0 -/
  nIngress : Nat := 0
  nMiss : Nat := 0
  nRecirc : Nat := 0
  nTtl : Nat := 0
  /-- [R138] ACTION_NOOP count; reset 0 -/
  nNoop : Nat := 0
  /-- [R146] passes by reason code 0 to 3; reset 0 -/
  passes : Tbl Nat := []
  /-- [R137] drops of DROP by reason 0 to 255, and by the other counted reasons; reset 0 -/
  drops : Tbl Nat := []
  /-- [R237] packets dropped at their terminal action with AUTH_FAIL; red drops of POLICE; INTEGRITY; reset 0 -/
  nAuthFail : Nat := 0
  nRed : Nat := 0
  nIntegrity : Nat := 0
  /-- [R161] packets dropped with the reason RESIDUE; reset 0. The residue check of the next packet that is metered fails; DC false -/
  nResidue : Nat := 0
  residueNext : Bool := false
deriving DecidableEq, Repr

/-! ### Queues, shapers, policers, barometer (chapter 07) -/

/-- A segmented packet in a leaf queue's cell list (R151, R155). -/
structure QPkt where
  bytes : List Byte
  drawn : Nat := 0
  at_   : Instant
  trib  : Nat
  dst   : Nat
  peer  : Nat
  assoc : Nat
  cls   : Nat
  trace : Option Nat := none
deriving DecidableEq, Repr

/-- An upstream leaf queue (R149, R168). -/
structure Queue where
  assoc  : Nat
  cls    : Nat
  group  : Nat
  /-- [R149] WEIGHT 1 to 255; reset 1 -/
  weight : Nat := 1
  /-- [R149] LIMIT, cells -/
  limit : Nat
  /-- [R149] YLIM, cells -/
  ylim : Nat
  /-- [R149] MAX_SOJOURN, ms; reset 100 -/
  sojourn : Nat := 100
  /-- [R151] cell lists by carrier -/
  lists : Tbl (List QPkt) := []
  /-- [R168] drops: TRIB_DISABLED, STORE_FULL, QUEUE_LIMIT, YELLOW_LIMIT, AGE, FLUSH, INTEGRITY packets, FLUSH cells,
  SESSION_END cells; reset 0 -/
  nTrib : Nat := 0
  nStore : Nat := 0
  nLimit : Nat := 0
  nYellow : Nat := 0
  nAge : Nat := 0
  nFlush : Nat := 0
  nIntegrity : Nat := 0
  cFlush : Nat := 0
  nSession : Nat := 0
deriving DecidableEq, Repr

/-- A shaper's tokens (R158) in units of 2^-16 / 8,000,000 byte, so that credit is exact, and the instant to which they
were last credited. -/
structure Shaper where
  p      : ShaperParams
  tokens : Int
  at_    : Instant
deriving DecidableEq, Repr

/-- An association node or a class node (R154). -/
structure Node where
  /-- [R154] WEIGHT 1 to 255; reset 1 -/
  weight : Nat := 1
  /-- [R158] shaper; reset none -/
  shaper : Option Shaper := none
  /-- [R154] EXPEDITE; reset false -/
  expedite : Bool := false
deriving DecidableEq, Repr

/-- A policer (R160, R161): token counts in bytes scaled by 2^16. -/
structure Policer where
  p      : PolicerParams := {}
  tc     : Nat := 0
  tx     : Nat := 0
  at_    : Instant := 0
  nGreen : Nat := 0
  nYellow : Nat := 0
  nRed   : Nat := 0
  bGreen : Nat := 0
  bYellow : Nat := 0
  bRed   : Nat := 0
deriving DecidableEq, Repr

/-- A barometer watch slot (R166, R167). -/
structure Watch where
  p      : WatchParams
  due    : Instant
  depth  : Tbl Nat := []
  soj    : Tbl Nat := []
  n      : Nat := 0
  sumD   : Nat := 0
  sumS   : Nat := 0
  maxD   : Nat := 0
  maxS   : Nat := 0
  first  : Instant := 0
  last   : Instant := 0
  alarm  : Bool := false
deriving DecidableEq, Repr

/-- An item on a timing wheel (R156): what becomes due, and when. -/
inductive WheelKind where
  | node (assoc : Nat) | classNode (assoc cls : Nat) | egressQ (port q : Nat) | port (p : Nat)
  | gate (port : Nat) | gateStart (port : Nat) | barometer (slot : Nat)
deriving DecidableEq, Repr

/-- An item placed on a wheel. -/
structure WheelItem where
  kind : WheelKind
  due  : Instant
  slot : Nat
deriving DecidableEq, Repr

/-- The queue manager (R148 to R169). -/
structure Queues where
  /-- [R149] leaf queues 256 to 65,535; reset none -/
  tab : Tbl (Option Queue) := []
  /-- [R154] association nodes by index, class nodes by 8 × index + class; reset as Node -/
  nodes : Tbl Node := []
  classNodes : Tbl Node := []
  /-- [R154] DWRR deficits in cells: expedited nodes by (4 × class + carrier) × 4096 + association, association nodes
  by carrier × 4096 + association, leaf queues by carrier × 65536 + queue; reset 0 -/
  defExp : Tbl Int := []
  defNode : Tbl Int := []
  defLeaf : Tbl Int := []
  /-- [R148] sealed packets in segmentation staging, 8 MiB: leaf queue, colour, packet; reset empty -/
  staging : List (Nat × Colour × QPkt) := []
  /-- [R152] cells in the upstream cell store, at most 150,994,944 (75,497,472 on the smaller variants) -/
  used : Nat := 0
  /-- [R152] queue.store_high has been raised and occupancy has not been below 85 % since -/
  storeHigh : Bool := false
  /-- [R168] drops: TRIB_DISABLED, STORE_FULL, NO_QUEUE, D2D_SPLIT, SESSION_END, INTEGRITY, ASSOC_STATE,
  ASSOC_EXHAUSTED, ASSOC_CLOSED, ASSOC_CLASS, LENGTH_LIMIT; reset 0 -/
  nTrib : Nat := 0
  nStore : Nat := 0
  nNoQueue : Nat := 0
  nSplit : Nat := 0
  nSession : Nat := 0
  nIntegrity : Nat := 0
  nAssocState : Nat := 0
  nExhausted : Nat := 0
  nClosed : Nat := 0
  nClass : Nat := 0
  nLength : Nat := 0
  nFlush : Nat := 0
  nAge : Nat := 0
  nLimit : Nat := 0
  nYellow : Nat := 0
  /-- [R160] policers 0 to 2,097,151; reset none created -/
  policers : Tbl (Option Policer) := []
  /-- [R166] watch slots 0 to 4,095; reset none -/
  watch : Tbl (Option Watch) := []
  /-- [R156] fine and coarse wheels: items in placement order, slot number from line time -/
  fine : List WheelItem := []
  coarse : List WheelItem := []
  /-- [R153] local instant of the last age check; DC 0 -/
  agedAt : Instant := 0
deriving DecidableEq, Repr

/-! ### Lanes, references, die link (chapter 08) -/

/-- A client lane (R170 to R179). -/
structure Lane where
  /-- [R186] transmit and receive polarity inverted; DC false -/
  txInv : Bool := false
  rxInv : Bool := false
  /-- [R186] equalisation preset, 4 bits; DC 0 -/
  preset : Nat := 0
  /-- [R178] mode; reset MONITOR -/
  mode : LaneMode := .monitor
  /-- [R178] signal detect, CDR lock, block or marker lock; DC false -/
  signal : Bool := false
  cdr : Bool := false
  align : Bool := false
  /-- [R175] block lock of a lane at 25.78125 Gb/s whose markers are still to lock; DC false -/
  block : Bool := false
  /-- [R179] high error ratio in force; DC false -/
  ber : Bool := false
  /-- [R178] pattern lock; bits compared and errors, 48 bits saturating; reset 0 -/
  patLock : Bool := false
  patBits : Nat := 0
  patErrs : Nat := 0
  /-- [R186] counts of losses: signal, lock, alignment; reset 0 -/
  nLos : Nat := 0
  nLol : Nat := 0
  nAlign : Nat := 0
  /-- [R177] the last alignment loss had the cause SKEW; DC false -/
  skew : Bool := false
  /-- [R186] measured offset, ppm, as last read; DC 0 -/
  ppm : Int := 0
deriving DecidableEq, Repr

/-- References (R171, R172). -/
structure Refs where
  /-- [R171] transmit reference of each quad 0 to 7; reset BOARD0 -/
  quad : Tbl RefSource := []
  /-- [R171] source of each reference output 0 to 1; reset BOARD0 -/
  out : Tbl RefSource := []
  /-- [R171] reference outputs enabled, 2 bits; reset disabled and low -/
  outEn : BitVec 2 := 0
  /-- [R172] inputs lost, 2 bits; reset none -/
  lost : BitVec 2 := 0
deriving DecidableEq, Repr

/-- The die-to-die link (R181 to R185, R304 to R306); directions: false up (switch to line), true down. -/
structure DieLink where
  /-- [R181] good lanes each way, 0 to 24; DC 24 -/
  goodUp : Nat := 24
  goodDown : Nat := 24
  /-- [R181] active width each way; reset 20 -/
  widthUp : Nat := 20
  widthDown : Nat := 20
  /-- [R186] lanes spared and failed since reset; reset 0 -/
  nSpared : Nat := 0
  nFailed : Nat := 0
  /-- [R183] CRC errors per lane, 2 × 24 -/
  errs : Tbl Nat := []
  /-- [R182, R184] unacknowledged flits kept in the retry buffer, at most 4,096; DC 0 -/
  retry : Nat := 0
  /-- [R184] a retrain is in progress; reset false -/
  retrain : Bool := false
  /-- [R186] the die.retrain commands waiting for the retrain's end; reset none -/
  waiter : List Hdr := []
  /-- [R185] WIDEN has been asked of the retrain; reset false -/
  widen : Bool := false
  /-- [R304] the link is split; reset 0 -/
  split : Bool := false
  /-- [R15, R113] the split report has been sent in this split; reset false -/
  reported : Bool := false
  /-- [R186] drops by D2D_RETRAIN and D2D_OVERRUN; reset 0 -/
  nRetrain : Nat := 0
  nOverrun : Nat := 0
deriving DecidableEq, Repr

/-! ### Client ports (chapter 09) -/

/-- A frame waiting for egress (R159, R194). -/
structure EgFrame where
  pkt    : Pkt
  at_    : Instant
  reply  : Bool := false
  csum   : Bool := false
deriving DecidableEq, Repr

/-- A pause account of one queue, or of the port at key 8 (R198, R199). -/
structure Pause where
  /-- [R198] instant the timer runs out; reset none -/
  until_ : Option Instant := none
  /-- [R199] instant the stop started; reset none -/
  since : Option Instant := none
  /-- [R199] pause is ignored until; reset none -/
  ignore : Option Instant := none
deriving DecidableEq, Repr

/-- A transmit stamp entry (Table 9-4). -/
structure TxStamp where
  time  : Instant
  tag   : BitVec 16
  lostBefore : Nat := 0
  valid : Bool
  gap   : Bool := false
deriving DecidableEq, Repr

/-- A gate list with its start S (R163); `late` when N > 0. -/
structure GateRun where
  list : GateList
  s    : Instant
  late : Bool := false
deriving DecidableEq, Repr

/-- A frame that a port is sending (R194, R209): its queue, the frame as it leaves, and the local instant at which its last byte
has left. -/
structure Started where
  q    : Nat
  pkt  : Pkt
  ends : Instant
deriving DecidableEq, Repr

/-- Port counters (R209), 64 bits each. -/
structure PortStats where
  /-- [R209] receive frames and bytes: unicast, multicast, broadcast; size bins 0 to 6 -/
  rxUc : Nat := 0
  rxMc : Nat := 0
  rxBc : Nat := 0
  rxBytesUc : Nat := 0
  rxBytesMc : Nat := 0
  rxBytesBc : Nat := 0
  rxBins : Tbl Nat := []
  /-- [R209] FCS errors, runts, oversize, filtered, INGRESS_OVERRUN -/
  fcsErr : Nat := 0
  runt : Nat := 0
  oversize : Nat := 0
  filtered : Nat := 0
  overrun : Nat := 0
  /-- [R209] PAUSE and PFC per priority received (key 8: PAUSE), PAUSE_IGNORED, other MAC control -/
  rxPause : Tbl Nat := []
  ignored : Nat := 0
  rxOther : Nat := 0
  /-- [R209] frames consumed by the command channel, PTP and LLDP -/
  toCmd : Nat := 0
  toPtp : Nat := 0
  toLldp : Nat := 0
  /-- [R209] transmit frames and bytes: unicast, multicast, broadcast; size bins -/
  txUc : Nat := 0
  txMc : Nat := 0
  txBc : Nat := 0
  txBytesUc : Nat := 0
  txBytesMc : Nat := 0
  txBytesBc : Nat := 0
  txBins : Tbl Nat := []
  txPause : Tbl Nat := []
  /-- [R209] TX_AUTH_ABORT, AUTH_FAIL, TX_UNDERRUN, PORT_DOWN -/
  authAbort : Nat := 0
  authFail : Nat := 0
  underrun : Nat := 0
  portDown : Nat := 0
  /-- [R209] transmit stamps lost -/
  stampsLost : Nat := 0
  /-- [R209] entries to LPI and microseconds in LPI, each direction -/
  lpiTx : Nat := 0
  lpiTxUs : Nat := 0
  lpiRx : Nat := 0
  lpiRxUs : Nat := 0
  /-- [R159] egress drops: EGRESS_LIMIT, EGRESS_YELLOW, POOL_FULL, EGRESS_AGE, GATE_TOO_LONG; by queue -/
  egLimit : Tbl Nat := []
  egYellow : Tbl Nat := []
  egPool : Tbl Nat := []
  egAge : Tbl Nat := []
  egGate : Tbl Nat := []
deriving DecidableEq, Repr

/-- A client port (R188 to R212). -/
structure Port where
  /-- [R188] configuration; reset none -/
  cfg : Option PortParams := none
  /-- [R189] UP; reset DOWN -/
  up : Bool := false
  /-- [R189] local and remote fault received; DC false -/
  localFault : Bool := false
  remoteFault : Bool := false
  /-- [R192] PROMISC, ACCEPT_BCAST, ACCEPT_MCAST; reset 1 -/
  promisc : Bool := true
  bcast : Bool := true
  mcast : Bool := true
  /-- [R192] 64 perfect entries: address and enable; reset disabled -/
  filter : Tbl (MacAddr × Bool) := []
  /-- [R197] pause settings; reset NONE, the default map, 0xFFFF, 100 ms -/
  pause : PauseParams := {}
  /-- [R198] pause state by queue 0 to 7, and of the port at 8; reset none -/
  paused : Tbl Pause := []
  /-- [R200] accounts above XOFF, and the instant the next refresh is due -/
  xoff : Tbl (Option Instant) := []
  /-- [R201] RX_LATENCY, TX_LATENCY, 0.25 ns, 0 to 800; DC 0 -/
  rxLat : Nat := 0
  txLat : Nat := 0
  /-- [R203] transmit stamp FIFO, 256 entries; reset empty -/
  stamps : List TxStamp := []
  /-- [R203] LOST, 32 bits saturating, and lost since the last stored entry; reset 0 -/
  lost : Nat := 0
  lostSince : Nat := 0
  /-- [R205] LPI enabled; IDLE_HOLD, µs, reset 10; RX_TW, µs, DC 0 -/
  lpi : Bool := false
  idleHold : Nat := 10
  rxTw : Nat := 0
  /-- [R206] agreed Tw_sys_tx, µs; reset none -/
  tw : Option Nat := none
  /-- [R205] transmitter in LPI since; waking until -/
  inLpi : Option Instant := none
  wakeAt : Option Instant := none
  /-- [R205] receive side in LPI since -/
  rxLpi : Option Instant := none
  /-- [R205] local instant since which no queue has been eligible and no opening due; DC 0 -/
  idleFrom : Instant := 0
  /-- [R206] LLDP: instant of the last LLDPDU; the partner's Transmit Tw and Receive Tw as last heard, which the next one
  echoes; DC none and 0 -/
  lldpAt : Option Instant := none
  partnerTw : Nat × Nat := (0, 0)
  /-- [R208] asleep; WAKE_ON_TX; reset false -/
  asleep : Bool := false
  wakeOnTx : Bool := false
  /-- [R190] ingress FIFO, 256 KiB; reset empty -/
  fifo : List Pkt := []
  /-- [R159] egress settings by queue; reset DWRR, WEIGHT 1, no shaper -/
  eg : Tbl EgressQ := []
  /-- [R158] token state of queue shapers, and of the port shaper at 8 -/
  shapers : Tbl (Option Shaper) := []
  /-- [R159] frames waiting by queue; reset empty -/
  queues : Tbl (List EgFrame) := []
  /-- [R159] DWRR deficits in bytes by queue; reset 0 -/
  deficit : Tbl Int := []
  /-- [R164] instant until which the port is occupied by a started frame -/
  busy : Instant := 0
  /-- [R194, R209] the frame being sent; reset none -/
  started : Option Started := none
  /-- [R162] running and waiting gate lists; reset none -/
  gate : Option GateRun := none
  gateNext : Option GateRun := none
  /-- [R162] gates now, bit q opens queue q; reset all open -/
  gates : BitVec 8 := 0xFF
  /-- [R163, R169] the port holds its FALLBACK gates; reset false -/
  fellBack : Bool := false
  /-- [R209] counters -/
  stats : PortStats := {}
deriving DecidableEq, Repr

/-- What an unlisted port number reads as: an unconfigured port (R188). -/
def Port.fresh : Port := {}

/-- A snapshot buffer (R210). -/
inductive Snapshot where
  | free
  | pending (at_ : Instant) (ports : BitVec 32)
  | taken (at_ : Instant) (sets : List (Nat × PortStats))
  | failed (why : Status)
deriving DecidableEq, Repr

/-! ### Security (chapter 10) -/

/-- A directional key (R223): the model's name for it, its generation, and for receive keys H, the marked
packet numbers of the window (R235), and the PN up to which a restarted window takes nothing (R336). -/
structure Key where
  name  : Nat
  gen   : Nat
  high  : Nat := 0
  marks : List Nat := []
  floor : Nat := 0
deriving DecidableEq, Repr

/-- Association states of Table 10-4. -/
inductive AssocState where | free | armed | agreeing | active
deriving DecidableEq, Repr

/-- A key agreement in progress (R222, R226): role, generation, own nonce, the initiator's nonce a responder answers,
messages sent, when it began and when the last HELLO or the REPLY was sent, whether a REPLY has verified, the keys it
brings, the draw its messages were made with, and the command that waits for it with its group and parameter bytes. -/
structure Agreement where
  initiator : Bool
  gen       : Nat
  nonce     : Nat
  peerNonce : Option Nat := none
  sent      : Nat := 1
  start     : Instant
  lastSend  : Instant
  replied   : Bool := false
  keyTx     : Nat := 0
  keyRx     : Nat := 0
  keyConf   : Nat := 0
  seed      : Nat := 0
  hdr       : Option Hdr := none
  group     : Nat := 0
  bytes     : Nat := 0
  rekey     : Bool := false
deriving DecidableEq, Repr

/-- An association (R220 to R238). -/
structure Assoc where
  /-- [R220] state; reset FREE -/
  state : AssocState := .free
  /-- [R220] SUSPENDED, EXHAUSTED, CLOSED; reset false -/
  suspended : Bool := false
  exhausted : Bool := false
  closed : Bool := false
  /-- [R221] peer identity, peer terminal number, peer's index, suite, tributary, class mask -/
  peer : Digest := 0
  peerNum : Nat := 0
  peerIdx : Nat := 0
  suite : Suite := .gcm256
  trib : Nat := 0
  classMask : BitVec 8 := 0
  /-- [R221] local instant at which the arm time ends -/
  armUntil : Instant := 0
  /-- [R223] sealing key and its generation; next PN (starts at 1); K_conf -/
  tx : Option Key := none
  pn : Nat := 1
  conf : Nat := 0
  /-- [R227] receive keys held: current, armed and old; the instant the old one is released -/
  rx : List Key := []
  oldUntil : Option Instant := none
  /-- [R226] sealing key that waits for a commit instant, with its K_conf; the highest generation that has had keys -/
  staged : Option Key := none
  stagedConf : Nat := 0
  lastGen : Nat := 0
  /-- [R226] the responder's transmit generation to use once CONFIRM_I verifies -/
  agree : Option Agreement := none
  /-- [R238] FAIL_COUNT; reset 0. FAIL_THRESHOLD; reset 64 -/
  failCount : Nat := 0
  threshold : Nat := 64
  /-- [R227] OLD_KEY_HOLD, ms; reset 1100 -/
  oldHold : Nat := 1100
  /-- [R234] discards: HEADER_MISMATCH, SUSPENDED, ASSOC_CLOSED, KEY_GEN, LENGTH, REPLAY, REPLAY_PENDING -/
  discards : Tbl Nat := []
deriving DecidableEq, Repr

/-- What an unlisted association reads as: FREE (R220). -/
def Assoc.fresh : Assoc := {}

/-- A packet being unsealed (R235, R236). -/
structure Unsealing where
  id    : Nat
  assoc : Nat
  gen   : Nat
  pn    : Nat
  src   : Nat
deriving DecidableEq, Repr

/-- A host cipher job (R242, R243): the command that waits for it, and the PN it took at its start. -/
structure Job where
  hdr    : Hdr
  isSeal : Bool
  assoc  : Nat
  len    : Nat
  urgent : Bool
  pn     : Nat := 0
deriving DecidableEq, Repr

/-- Causes of sec.agreement_fail (R221, R222) and of sec.assoc_down (R228, R246). -/
inductive SecCause where | none | failed | armExpired | noMatch | deleted | peerClosed | integrity
deriving DecidableEq, Repr

/-- Security (R213 to R243). -/
structure Security where
  /-- [R215] identity key pairs have been derived at this boot; reset false -/
  derived : Bool := false
  /-- [R215] identity digest; DC 0 until derived -/
  digest : Digest := 0
  /-- [R218] outstanding challenges, at most 8, oldest first, with local instants; reset none -/
  challenges : List (Ident × Instant) := []
  /-- [R240] the random source passes its health tests; DC true -/
  rngOk : Bool := true
  /-- [R240] the boot self-test passed; DC true -/
  selfTest : Bool := true
  /-- [R240] DMAX 0 to 2; reset 2 -/
  dmax : Nat := 2
  /-- [R241] debug port unlocked; reset locked -/
  unlocked : Bool := false
  /-- [R243] compatibility mode; DC false -/
  compat : Bool := false
  /-- [R243] the job running on cluster 19, the suspended long jobs, at most 4, latest first, and the waiting jobs -/
  job : Option Job := none
  suspended : List Job := []
  jobs : List Job := []
  /-- [R220] associations 0 to 4,095; reset FREE -/
  assocs : Tbl Assoc := []
  /-- [R225] PN of the next handshake packet -/
  hsPn : Nat := 1
  /-- [R225] handshake messages received and waiting for the firmware: their bodies -/
  hsIn : List (List Byte) := []
  /-- [R221, R222, R228] causes of the last sec.agreement_fail and of the last sec.assoc_down; reset none -/
  failCause : SecCause := .none
  downCause : SecCause := .none
  /-- [R222] messages discarded for failed verification -/
  nBadMsg : Nat := 0
  /-- [R235] packets being unsealed -/
  unsealing : List Unsealing := []
deriving DecidableEq, Repr

/-! ### The command channel and commit groups (chapter 11) -/

/-- A reply (R248): the command's header, STATUS, DETAIL and DATA. DATA is the list of the values its command's
table names, in that order (the byte layout is not in the manual, log entry 6). -/
structure Reply where
  transport : Transport
  opcode    : Nat
  tag       : BitVec 16
  group     : Nat
  seq       : BitVec 24
  status    : Status
  detail    : Nat := 0
  data      : List Nat := []
  replayed  : Bool := false
  truncated : Bool := false
  phase     : Bool := false
deriving DecidableEq, Repr

/-- The command channel (R247 to R257). -/
structure CmdChannel where
  /-- [R250] CMD_SQ_BASE and CMD_RQ_BASE, 64 bits; reset 0 -/
  sqBase : BitVec 64 := 0
  rqBase : BitVec 64 := 0
  /-- [R250] CMD_SQ_SIZE.LOG2 and CMD_RQ_SIZE.LOG2, 5 bits; reset 0x04 -/
  sqLog : Nat := 4
  rqLog : Nat := 4
  /-- [R250] CMD_SQ_TAIL, CMD_SQ_HEAD, CMD_RQ_HEAD, CMD_RQ_TAIL, 16 bits; reset 0 -/
  sqTail : Nat := 0
  sqHead : Nat := 0
  rqHead : Nat := 0
  rqTail : Nat := 0
  /-- [R250] CMD_CTRL.EN; reset 0 -/
  en : Bool := false
  /-- [R250] IN_FLIGHT, 0 to 256; reset 0 -/
  inFlight : Nat := 0
  /-- [R250] ERR_CAUSE, 4 bits; reset 0 -/
  errCause : Nat := 0
  /-- [R250] CFG_ERR; reset 0 -/
  cfgErr : Bool := false
  /-- [R250] READY; reset 0 -/
  ready : Bool := false
  /-- [R252] PHASE of the next reply entry; reset 1 on the first pass -/
  phase : Bool := true
  /-- [R252] reply entries written and not yet consumed, as they stand in host memory -/
  entries : List Reply := []
  /-- [R254] SPI replies waiting for READ_REPLY, oldest first; reset none -/
  spiReply : List Reply := []
  /-- [R254] WRITE_CMDs ignored while CMD_READY is 0; reset 0 -/
  spiIgnored : Nat := 0
  /-- [R254] the SPI slave has a command in progress (CMD_READY = 0); reset false -/
  spiBusy : Bool := false
  /-- [R249] last 64 commands and their replies, key 0 SPI, key 1 + p in-band port p -/
  replay : Tbl (List (BitVec 24 × Option Reply)) := []
  /-- [R249] commands that have started and not replied, with the association index of a key agreement, in order -/
  open_ : List (Hdr × Option Nat) := []
  /-- [R249] commands taken and waiting for one before them on their transport, in order of arrival -/
  wait : List (Hdr × Cmd) := []
  /-- [R327] index writes latched in DOLDRUMS; reset none -/
  latchTail : Option Nat := none
  latchHead : Option Nat := none
deriving DecidableEq, Repr

/-- Group states of Table 11-8. -/
inductive GroupState where | free | open_ | committed | done | aborted
deriving DecidableEq, Repr

/-- One staged change (R260): the command, the header it came with, and its parameter bytes. -/
structure Staged where
  cmd   : Cmd
  hdr   : Hdr
  bytes : Nat := 0
deriving DecidableEq, Repr

/-- A lock (R263): class of Table 11-9 and object number. -/
structure Lock where
  cls : Nat
  obj : Nat
deriving DecidableEq, Repr

/-- A commit group (R259 to R266). -/
structure Group where
  /-- [R259] state; reset FREE -/
  state : GroupState := .free
  /-- [R259] transport that opened it -/
  owner : Transport := .ring
  /-- [R259] idle timeout, s; default 60 -/
  timeout : Nat := 60
  /-- [R259] local instant of the last staging or apply, or of DONE or ABORTED -/
  active : Instant := 0
  /-- [R261] staged changes in staging order, at most 65,536 -/
  changes : List Staged := []
  /-- [R261] staged parameter bytes, at most 8 MiB -/
  bytes : Nat := 0
  /-- [R262] effective instant -/
  eff : Instant := 0
  /-- [R263] locks taken -/
  locks : List Lock := []
  /-- [R263] groups queued ahead at apply -/
  ahead : Nat := 0
  /-- [R264] the readiness check has passed -/
  checked : Bool := false
  /-- [R265] a residue or array check failed on shadow state, with the change's index -/
  shadowBad : Option Nat := none
  /-- [R265] abort code and DETAIL -/
  abort : Option (Status × Nat) := none
deriving DecidableEq, Repr

/-! ### Engines and programs (chapter 12) -/

/-- A loaded program (R281 to R285). -/
structure Prog where
  img      : ProgImage
  limit    : Nat
  disabled : Bool := false
  /-- [R281] exceptions in the running second, and that second -/
  inSecond : Nat := 0
  second   : Nat × Nat := (0, 0)
  /-- [R286] exceptions so far -/
  total    : Nat := 0
deriving DecidableEq, Repr

/-- A packet in a dispatch queue or a context (R272 to R278): the packet at the start of its pass, the packet as edited
before the run with its metadata now, the bytes and stack as the run edits them, the rest of the action list, and the
run's counts. -/
structure Run where
  prog    : Nat
  orig    : Pkt
  pkt     : Pkt
  rest    : List Action
  last    : Action
  queued  : Instant
  engine  : Nat := 0
  start   : Instant := 0
  issued  : Nat := 0
  lookups : Nat := 0
  calls   : Nat := 0
  pushes  : Nat := 0
  added   : Nat := 0
  pc      : Nat := 0
  waiting : Bool := false
  keepRed : Bool := false
  bytes   : List Byte := []
  stack   : List (Nat × Nat) := []
  edited  : List Nat := []
deriving DecidableEq, Repr

/-- An exception record (Table 12-5). -/
structure ExRecord where
  code    : Nat
  gap     : Bool
  pending : Bool
  prog    : Nat
  version : Nat
  engine  : BitVec 8
  pass    : Nat
  pc      : Nat
  count   : Nat
  time    : Instant
  md      : Meta
  bytes   : List Byte
deriving DecidableEq, Repr

/-- Flow engines (R271 to R287). -/
structure Engines where
  /-- [R284] loaded programs 0 to 4,095; reset none -/
  progs : Tbl (Option Prog) := []
  /-- [R273] dispatch queues, 4,096 entries each direction; reset empty -/
  dispUp : List Run := []
  dispDown : List Run := []
  /-- [R273] running contexts, key engine × 8 + context (engines 0 to 127) -/
  ctxs : Tbl (Option Run) := []
  /-- [R282] packet engines out of service; line (256 + e) and control (512 + e) engines restarting -/
  out : List Nat := []
  /-- [R280] exception FIFOs, 1,024 records each; reset empty -/
  exUp : List ExRecord := []
  exDown : List ExRecord := []
  /-- [R280] LOST, 16 bits saturating, and GAP pending; reset 0 -/
  lostUp : Nat := 0
  lostDown : Nat := 0
  gapUp : Bool := false
  gapDown : Bool := false
  /-- [R286] drops by PROG_OVERRUN, PROG_EXCEPTION, PROG_DISABLED, and AUTH_FAIL in a run; reset 0 -/
  nOverrun : Nat := 0
  nException : Nat := 0
  nDisabled : Nat := 0
  nAuthFail : Nat := 0
deriving DecidableEq, Repr

/-! ### Events and integrity (chapter 13) -/

/-- EVC_CFG_n (Table 13-3). -/
structure EvcCfg where
  /-- [R292] BYPASS; reset 0 -/
  bypass : Bool := false
  /-- [R292] TARGET, 2 bits; reset 0 -/
  target : Nat := 0
  /-- [R292] PRIO, 4 bits; reset 0 -/
  prio : Nat := 0
deriving DecidableEq, Repr

/-- An interrupt target (R292 to R297). -/
structure Target where
  /-- [R292] IRQ_EN, MSIX_EN; reset 0 -/
  irqEn : Bool := false
  msixEn : Bool := false
  /-- [R292] coalescing TIME in 0.1 µs, 16 bits; reset 1. COUNT, 8 bits; reset 1 -/
  coalTime : Nat := 1
  coalCount : Nat := 1
  /-- [R296] active; reset 0 -/
  active : Bool := false
  /-- [R297] ARRIVALS, 8 bits saturating, and the local instant of the first; reset 0 -/
  arrivals : Nat := 0
  firstAt : Option Instant := none
  /-- [R295] in-service stack: source and priority, top first; reset empty -/
  stack : List (Nat × Nat) := []
  /-- [R293] source and priority presented on the cycle before; reset none -/
  shown : Option (Nat × Nat) := none
  /-- [R295] COMPLETE_INVALID; reset 0 -/
  bad : Bool := false
  /-- [R296] PCIe vector mask; reset 1 by the PCIe specification R296 names, PRESUMED (log entry 30) -/
  vecMasked : Bool := true
  /-- [R296] a message held by the vector mask; reset none -/
  vecHeld : Bool := false
deriving DecidableEq, Repr

/-- An integrity log entry (R303, Table 13-3). -/
structure IntegEntry where
  kind    : Nat := 0
  lineDie : Bool := false
  gap     : Bool := false
  valid   : Bool := false
  unit    : Nat := 0
  index   : Nat := 0
  time    : Instant := 0
deriving DecidableEq, Repr

/-- The event controller (R288 to R303, R354). -/
structure Evc where
  /-- [R292] EVC_PENDING, 256 bits; reset 0 -/
  pend : BitVec 256 := 0
  /-- [R292] EVC_MASK, 256 bits; reset all masked -/
  mask : BitVec 256 := BitVec.allOnes 256
  /-- [R289] arrival counters, 4 bits by source; reset 0 -/
  count : Tbl Nat := []
  /-- [R292] EVC_CFG by source; reset 0 -/
  cfg : Tbl EvcCfg := []
  /-- [R292] targets 0 to 3 -/
  targets : Tbl Target := []
  /-- [R303] integrity log, 256 entries; LOST, 16 bits saturating; GAP pending; reset empty -/
  log : List IntegEntry := []
  lost : Nat := 0
  gapNext : Bool := false
  /-- [R303] popped entry; reset 0 -/
  popped : IntegEntry := {}
  /-- [R300] EVC_INTEG_CORR, 32 bits saturating; reset 0 -/
  corrected : Nat := 0
  /-- [R354] line-die raises held during a split, by source; held log entries, at most 256; held LOST -/
  held : Tbl Nat := []
  heldLog : List IntegEntry := []
  heldLost : Nat := 0
deriving DecidableEq, Repr

/-! ### Performance counters, sampling, tracing (chapter 14) -/

/-- A sample record (Table 14-5). -/
structure SampleRec where
  prog : Nat
  version : Nat
  pc : Nat
  engine : BitVec 8
  ctx : Nat
  gap : Bool
  ended : Bool
  waited : Bool
  pending : Bool
  count : Nat
  pass : Nat
  time : Instant
  md : Meta
deriving DecidableEq, Repr

/-- Sampling of one direction (R313, R314). -/
structure Sampling where
  /-- [R313] settings; reset disabled, DC -/
  p : SampleParams := { down := false, enable := false }
  /-- [R313] instructions left in the running period by engine 0 to 63; DC -/
  left : Tbl (Option Nat) := []
  /-- [R314] buffer, 4,096 records; LOST, 16 bits saturating; GAP pending; reset empty -/
  buf : List SampleRec := []
  lost : Nat := 0
  gapNext : Bool := false
deriving DecidableEq, Repr

/-- A trace entry (Table 14-6): stages as absolute line times, none = not reached. -/
structure TraceEntry where
  id       : Nat
  down     : Bool
  gap      : Bool := false
  complete : Bool := false
  dropped  : Bool := false
  authFail : Bool := false
  port     : Nat
  passes   : Nat := 1
  cls      : Nat := 0
  assoc    : Nat := 0
  len      : Nat := 0
  base     : Instant
  stages   : Tbl (Option Instant) := []
deriving DecidableEq, Repr

/-- Packet tagging and the trace buffer (R315, R316). -/
structure Tracing where
  /-- [R315] settings; reset disabled, DC -/
  p : TraceParams := { up := false, down := false, enable := false }
  /-- [R315] state of the 32-bit generator; DC 0 -/
  gen : BitVec 32 := 0
  /-- [R316] TRACE_ID of the next tagged packet; reset 0 -/
  nextId : Nat := 0
  /-- [R316] entries reserved for tagged packets still inside, and written entries, oldest first, together at
  most 65,536; reset empty -/
  open_ : List TraceEntry := []
  done : List TraceEntry := []
  /-- [R315] TAG_SKIPPED; [R316] OVERWRITTEN; GAP pending; tagging stopped; reset 0 -/
  skipped : Nat := 0
  overwritten : Nat := 0
  gapNext : Bool := false
  stopped : Bool := false
deriving DecidableEq, Repr

/-- Performance counters (R307 to R319). -/
structure Pmc where
  /-- [R308] FREEZE; reset 0 -/
  freeze : Bool := false
  /-- [R308] SPLIT_LOSS, RESIDUE; reset 0 -/
  splitLoss : Bool := false
  residue : Bool := false
  /-- [R308] PMC_OVF, 64 bits; reset 0 -/
  ovf : BitVec 64 := 0
  /-- [R308] line time of the last latch; reset 0 -/
  latchTime : Instant := 0
  /-- [R310] latched counter values by number; reset 0 -/
  latch : Tbl Nat := []
  /-- [R308] PMC_EVSEL_n, 32 bits; reset 0 -/
  evsel : Tbl Word := []
  /-- [R308] PMC_FILT_n, 32 bits; reset ENGINE 0x1F, CLASS 0xFF -/
  filt : Tbl Word := []
  /-- [R308] PMC_ABASE_k, PMC_ALIMIT_k, 32 bits; reset 0 -/
  abase : Tbl Word := []
  alimit : Tbl Word := []
  /-- [R307] counters, 48 bits; reset 0 -/
  cnt : Tbl Nat := []
  /-- [R311] instructions retired and not yet booked, by packet engine 0 to 127; reset 0 -/
  ledger : Tbl Nat := []
  /-- [R313] sampling upstream and downstream; [R315] tracing -/
  sampUp : Sampling := {}
  sampDown : Sampling := {}
  trace : Tracing := {}
deriving DecidableEq, Repr

/-! ### Power, wake, resets, pins (chapters 15 and 16) -/

/-- A pending power.schedule (R325). -/
structure Sched where
  target   : PowerState
  at_      : Instant
  carriers : BitVec 4
  wakeAt   : Option Instant := none
deriving DecidableEq, Repr

/-- Outcome of the last scheduled change (R325). -/
inductive SchedOutcome where | none | ok | blocked (voters : BitVec 9) | timeInvalid
deriving DecidableEq, Repr

/-- A wake in progress (R330): step 1 to 10, whether it is the retry, local start, local instant from which the step runs, banks
lost so far (R333). -/
structure Wake where
  step  : Nat
  retry : Bool := false
  start : Instant
  since : Instant := 0
  lost  : BitVec 16 := 0
deriving DecidableEq, Repr

/-- Power (R320 to R342) and the pins the terminal drives or samples (R343 to R352). -/
structure Power where
  /-- [R322] vote words, 2 bits per domain: 0 HOST, 1 FW, 2–5 CARRIER, 6 CLIENT, 7 TIME, 8 SECURITY; reset 0 -/
  hostVote : Word := 0
  fw : Option PowerState := none
  /-- [R323] DOLDRUMS holds (CTRL is off); reset ACTIVE by the FW vote after boot -/
  asleep : Bool := false
  /-- [R341] CHANGING; reset 0 -/
  changing : Bool := false
  /-- [R325] pending change; last outcome; reset none -/
  sched : Option Sched := none
  outcome : SchedOutcome := .none
  /-- [R341] AON_WAKE_EN [4:1]; reset 0x1, the schedule; bit 0 of the register reads 1 -/
  wakeEn : BitVec 4 := 1
  /-- [R341] AON_WAKE_AT; reset none -/
  wakeAt : Option Instant := none
  /-- [R330] wake in progress; reset none -/
  wake : Option Wake := none
  /-- [R341] AON_WAKE_STATUS: FAIL, STEP, CAUSE, LAST_US; reset 0, 0, 0, 0xFFFF -/
  wakeFail : Bool := false
  failStep : Nat := 0
  failCause : Nat := 0
  lastUs : Nat := 0xFFFF
  /-- [R331] aon.wake_fail is to be raised when CTRL next runs; reset false -/
  failDue : Bool := false
  /-- [R341] AON_RESET_CAUSE: WARM_COUNT, DOMAIN, CAUSE; reset 0, 0, 0x1 -/
  warmCount : Nat := 0
  domain : Nat := 0
  cause : Nat := 1
  /-- [R341] AON_RET_LOST, AON_RET_VALID, 16 bits; reset 0 -/
  retLost : BitVec 16 := 0
  retValid : BitVec 16 := 0
  /-- [R342] bank CRCs at the last entry; DC 0 -/
  bankCrc : Tbl Nat := []
  /-- [R333] banks in which an uncorrectable word has been found since the last entry; reset 0 -/
  ruined : BitVec 16 := 0
  /-- [R341] holdover counter, and whether it holds valid line time; reset 0 and 0 -/
  holdTime : Instant := 0
  holdValid : Bool := false
  /-- [R341] latch of the three holdover words: time, valid, error; reset 0, 0 and 0xFFFF -/
  holdLatch : Instant × Bool × Nat := (0, false, 0xFFFF)
  /-- [R334] PORST_N held low; RESET_N held low; reset released -/
  porst : Bool := false
  resetN : Bool := false
  /-- [R348] VREQ_ outputs: SW_CORE, LN_CORE, CONV, SERDES, HBM; reset low -/
  vreq : BitVec 5 := 0
  /-- [R349] a supply fault is latched and the rails whose domains it holds in reset; reset none -/
  supply : BitVec 5 := 0
  /-- [R352] warning per die (bit 0 switch, bit 1 line); trip per die; hardware stop latched; reset 0 -/
  warn : BitVec 2 := 0
  trip : BitVec 2 := 0
  stop : Bool := false
deriving DecidableEq, Repr

/-! ### What the terminal sends out -/

/-- PTP messages the terminal sends (R42, R204). -/
inductive PtpKind where | sync | followUp | delayResp | announce
deriving DecidableEq, Repr

/-- A PTP message as it leaves (R25, R42, R204): destination, domain, sequence number, the two-step flag, the timestamp's
seconds and nanoseconds, the correctionField in 2^-16 ns, and what an Announce carries: clockClass, UTC offset, leap bits. The
frame's other bytes are IEEE 1588's (log entry 57), and its FCS holds. -/
structure PtpMsg where
  kind       : PtpKind
  dst        : MacAddr
  domain     : Nat
  seq        : Nat
  twoStep    : Bool := false
  secs       : Nat := 0
  nanos      : Nat := 0
  correction : Int := 0
  clockClass : Nat := 0
  utcOffset  : BitVec 16 := 0
  leap       : BitVec 8 := 0
deriving DecidableEq, Repr

/-- A window as it is emitted (R62, R65): received time of the first symbol of its ramp-up, its length, the profile it is sent
in, and the gate drive of its ramps. -/
structure Window where
  at_     : Instant
  len     : Nat
  profile : Profile
  gate    : GateParams
deriving DecidableEq, Repr

/-- Everything the terminal drives outward, in the MODEL'S OWN record of it (log entry 7). Bursts (ranging bursts too) and gusts
carry their bytes as they leave the scrambler (R102); `frontEnd` names the chip select FE_SPI_CS_N (R70); the MAC's own frames
carry the local instant at which they start. -/
inductive Output where
  | reply (r : Reply)
  | read (v : Word)
  | status (b : Byte)
  | msix (vector : Nat)
  | burst (carrier : Nat) (w : Window) (header payload : List Byte)
  | gust (carrier : Nat) (w : Window) (message : List Byte)
  | dark (carrier : Nat) (grant : Nat)
  | frame (port queue : Nat) (bytes : List Byte) (inverted : Bool)
  | pauseFrame (port : Nat) (start : Instant) (enabled : BitVec 8) (time : BitVec 16)
  | lldp (port : Nat) (start : Instant) (bytes : List Byte)
  | ptp (port : Nat) (start : Instant) (m : PtpMsg)
  | esmc (port : Nat) (start : Instant) (ql : Nat)
  | remoteFault (port : Nat) (on : Bool)
  | dma (queue reason : Nat) (bytes : List Byte) (rxTime : Instant) (authFail : Bool)
  | job (isSeal : Bool) (pn : Nat) (tagOk : Bool)
  | edge (out : TimeOut) (at_ : Instant) (high : Bool)
  | hdlc (ch : Nat) (bits : List Bool)
  | flags (ch : Nat)
  | frontEnd (pin : Nat) (t : FeTransfer)
  | tune (carrier ghz : Nat)
  | handshake (idx kind gen : Nat)
  | gateStop (carrier : Nat) (ramp : Bool)
  | gateStarted (port : Nat) (at_ : Instant) (late : Bool)
deriving DecidableEq, Repr

/-! ### The whole state -/

/-- The terminal, and the queue of the commands that are waiting. -/
structure State where
  fuses    : Fuses := {}
  dev      : Device := {}
  clk      : Clock := {}
  time     : TimeUnit := {}
  tio      : TimeIo := {}
  carriers : Tbl Carrier := []
  reg      : Registration := {}
  down     : Down := {}
  mch      : Tbl Mch := []
  trib     : Trib := {}
  cls      : Classifier := {}
  q        : Queues := {}
  lanes    : Tbl Lane := []
  refs     : Refs := {}
  die      : DieLink := {}
  ports    : Tbl Port := []
  snaps    : Tbl Snapshot := []
  sec      : Security := {}
  cmd      : CmdChannel := {}
  groups   : Tbl Group := []
  eng      : Engines := {}
  evc      : Evc := {}
  pmc      : Pmc := {}
  pwr      : Power := {}
  out      : List Output := []
  pending  : List Instr := []
deriving DecidableEq, Repr

/-- The terminal right after power-on reset (PORST_N released, before BOOT_START): every field at the value
the manual states; the others as log entry 2 names them. -/
def State.reset : State := {}

/-- Why a step stops on a fault. -/
inductive Fault where
  /-- raised by REGISTER_WRITE at an offset that is no whole word's: R7 has
  registers accessed as whole aligned words and gives any other access no effect; safe -/
  | unalignedRegister (offset : Nat)
  /-- raised by REGISTER_WRITE at an offset past the last that R8 gives BAR0, 0xFFFF: there is no register there; safe -/
  | outsideBar (offset : Nat)
deriving DecidableEq, Repr

/-- Why a command is refused. -/
inductive Refusal where
  /-- raised by exec for a row that has no meaning in this model yet; safe -/
  | notModelled (mnemonic : String)
deriving DecidableEq, Repr

end Sys2Proof.Machine
end

