-- ==== Sys2Proof/Machine/Operands.lean ====
section
/-! DEFINITION. Operand forms: units, bytes, CRCs, the layouts of overhead, cells, headers, gusts and reports,
the profiles' numbers, opcodes and status codes. -/

namespace Sys2Proof.Machine

/-! ### Units of time (R24, R25) -/

/-- Nanoseconds as an `Instant`. -/
def ns (n : Nat) : Instant := n * 65536
def us (n : Nat) : Instant := n * 65536000
def ms (n : Nat) : Instant := n * 65536000000
def sec (n : Nat) : Instant := n * 65536000000000
/-- A quarter of a nanosecond, the unit of delays (R26). -/
def quarter : Instant := 16384
/-- The internal tick of 1.25 ns (R25). -/
def tick : Instant := 81920
/-- The 12.8 ns grid of R37, in fifths of an `Instant` unit to stay whole: 12.8 ns = 4194304 / 5. -/
def gridFifths : Nat := 4194304
/-- A line frame (R12). -/
def frameTime : Instant := us 125
/-- A line superframe (R12). -/
def superTime : Instant := ms 8

/-- Seconds, nanoseconds and fraction of an instant (R24). -/
def secOf (t : Instant) : Nat := t / sec 1
def nsOf (t : Instant) : Nat := t / 65536 % 1000000000
def fracOf (t : Instant) : Nat := t % 65536

/-- The frame count of an instant (R12): floor(t ÷ 125 µs) modulo 2^32. -/
def frameCount (t : Instant) : BitVec 32 := BitVec.ofNat 32 (t / frameTime)

/-- The first 12.8 ns grid instant at or after `t`, rounded up to the grain of R24 (R37). -/
def gridUp (t : Instant) : Instant :=
  let k := (5 * t + gridFifths - 1) / gridFifths
  (k * gridFifths + 4) / 5

/-- The number of the first 12.8 ns slot whose start is at or after `t` (R37). -/
def gridSlot (t : Instant) : Nat := (5 * t + gridFifths - 1) / gridFifths

/-- The start of 12.8 ns slot `k`, rounded up to the grain of R24. -/
def slotStart (k : Nat) : Instant := (k * gridFifths + 4) / 5

/-- The effective instant of R37: the instant itself on a frame boundary, else the next grid instant. -/
def effective (t : Instant) : Instant := if t % frameTime = 0 then t else gridUp t

/-! ### Bytes (R7) -/

/-- Byte `i` of a sequence, 0 beyond its end. -/
def byteAt (l : List Byte) (i : Nat) : Nat := (l.getD i 0).toNat

/-- `n` bytes at `off`, most significant first (R7). -/
def be (l : List Byte) (off : Nat) : Nat → Nat
  | 0 => 0
  | n + 1 => byteAt l off * 256 ^ n + be l (off + 1) n

/-- `v` in `n` bytes, most significant first (R7). -/
def beBytes : Nat → Nat → List Byte
  | 0, _ => []
  | n + 1, v => BitVec.ofNat 8 (v / 256 ^ n) :: beBytes n v

/-- `n` zero bytes. -/
def zeros (n : Nat) : List Byte := List.replicate n 0

/-- `n` bytes at `off`, as far as the sequence goes. -/
def slice (l : List Byte) (off n : Nat) : List Byte := (l.drop off).take n

/-- Overwrite the bytes at `off` where the mask byte's bits are 1 (R137 REWRITE). -/
def patch (l : List Byte) (off : Nat) (v m : List Byte) : List Byte :=
  (l.zipIdx).map fun (b, i) =>
    if off ≤ i ∧ i < off + v.length then
      let k := i - off
      (b &&& ~~~(m.getD k 0xFF)) ||| (v.getD k 0 &&& m.getD k 0xFF)
    else b

/-- Put bytes in at `off`. -/
def insertAt (l : List Byte) (off : Nat) (v : List Byte) : List Byte := l.take off ++ v ++ l.drop off

/-- Take `n` bytes out at `off`. -/
def removeAt (l : List Byte) (off n : Nat) : List Byte := l.take off ++ l.drop (off + n)

/-- One bit of a CRC-8 step, x^8 + x^2 + x + 1. -/
def crc8Bit (c : BitVec 8) : BitVec 8 := if c.getLsbD 7 then (c <<< 1) ^^^ 0x07 else c <<< 1

/-- Repeat a step. -/
def iter {α : Type} (f : α → α) : Nat → α → α
  | 0, a => a
  | n + 1, a => iter f n (f a)

/-- CRC-8 of Table 5-4: initial value 0x00, no reflection, XORed with 0x55. -/
def hec (l : List Byte) : Byte := (l.foldl (fun c b => iter crc8Bit 8 (c ^^^ b)) 0) ^^^ 0x55

/-- One bit of the reflected IEEE 802.3 CRC-32. -/
def crc32Bit (c : BitVec 32) : BitVec 32 :=
  if c.getLsbD 0 then (c >>> 1) ^^^ 0xEDB88320 else c >>> 1

/-- CRC-32 with the IEEE 802.3 polynomial (Tables 4-3 and 12-6). -/
def crc32 (l : List Byte) : BitVec 32 :=
  ~~~(l.foldl (fun c b => iter crc32Bit 8 (c ^^^ b.setWidth 32)) 0xFFFFFFFF)

/-- The bits of a sequence of bytes, most significant bit of each first (R102). -/
def bitsOf (l : List Byte) : List Bool := l.flatMap fun b => (List.range 8).map fun i => b.getLsbD (7 - i)

/-- Bytes from bits, most significant first; a part of a byte at the end is dropped. -/
def bytesOf : List Bool → List Byte
  | a :: b :: c :: d :: e :: f :: g :: h :: t =>
    BitVec.ofNat 8 (a.toNat * 128 + b.toNat * 64 + c.toNat * 32 + d.toNat * 16 + e.toNat * 8 + f.toNat * 4 + g.toNat * 2 +
      h.toNat) :: bytesOf t
  | _ => []

/-- `n` bits of the linear recurrence of x^p + x^q + 1, whose first p bits are `w`'s bits 0 to p − 1: each further bit is the
sum of those p and q places before it, the former at the low end of the register. -/
def lfsr (p q : Nat) : Nat → Nat → List Bool
  | 0, _ => []
  | n + 1, w => w.testBit 0 :: lfsr p q n (w / 2 + ((w.testBit 0).xor (w.testBit (p - q))).toNat * 2 ^ (p - 1))

/-- PRBS-9 and PRBS-15 from all ones (Table 5-1), and the scrambler x^31 + x^28 + 1 (R102) from all ones. -/
def prbs9 (n : Nat) : List Bool := lfsr 9 5 n (2 ^ 9 - 1)
def prbs15 (n : Nat) : List Bool := lfsr 15 14 n (2 ^ 15 - 1)
def scrambler (n : Nat) : List Bool := lfsr 31 28 n (2 ^ 31 - 1)

/-- The additive scrambler of R102, seeded at the first bit: bytes enter it most significant bit first. -/
def scramble (l : List Byte) : List Byte := bytesOf ((bitsOf l).zipWith Bool.xor (scrambler (8 * l.length)))

/-- The frame alignment word (Table 5-1): the first 256 bits of PRBS-9, bit 0 the first. Bits 4k to 4k + 3 are the signs of
symbol k. -/
def fawWord : BitVec 256 := 0xcac9fb4937e5a8513b2f61aa721884022323ab638951b3e78b72904ce8fbc1ff

/-- Signs of a symbol (XI, XQ, YI, YQ) from four bits of a sequence (Table 5-1): 0 is positive, 1 negative. -/
def symbolSigns (l : List Bool) (k : Nat) : List Int := ((l.drop (4 * k)).take 4).map fun b => if b then -1 else 1

/-- The bits in which two words differ. -/
def bitErrors (a b : BitVec 256) : Nat := ((List.range 256).filter fun i => (a ^^^ b).getLsbD i).length

/-- 256 sign bits that match the alignment word: they differ from it in at most 2 bits (R103). -/
def fawMatch (w : BitVec 256) : Bool := w == fawWord || decide (bitErrors w fawWord ≤ 2)

/-- FCS-16 of ISO/IEC 13239 (R115): x^16 + x^12 + x^5 + 1, reflected, from all ones, complemented. -/
def fcsBit (c : BitVec 16) : BitVec 16 := if c.getLsbD 0 then (c >>> 1) ^^^ 0x8408 else c >>> 1
def fcs16 (l : List Byte) : BitVec 16 := ~~~(l.foldl (fun c b => iter fcsBit 8 (c ^^^ b.setWidth 16)) 0xFFFF)

/-- The bits of an HDLC octet string, least significant bit of each octet first (ISO/IEC 13239). -/
def octetBits (l : List Byte) : List Bool := l.flatMap fun b => (List.range 8).map b.getLsbD

/-- Zero-bit insertion: a 0 after five consecutive 1s; `k` counts the 1s just sent. -/
def stuff : List Bool → Nat → List Bool
  | [], _ => []
  | b :: t, k => if b then (if k = 4 then true :: false :: stuff t 0 else true :: stuff t (k + 1)) else false :: stuff t 0

/-- The bits without the inserted zeros; six 1s in a row are no frame content. -/
def unstuff : List Bool → Nat → Option (List Bool)
  | [], _ => some []
  | b :: t, k =>
    if k = 5 then (if b then none else unstuff t 0)
    else (unstuff t (if b then k + 1 else 0)).map (b :: ·)

/-- Whole octets from bits, least significant first. -/
def octets : List Bool → Option (List Byte)
  | [] => some []
  | a :: b :: c :: d :: e :: f :: g :: h :: t =>
    (octets t).map ((BitVec.ofNat 8 (a.toNat + b.toNat * 2 + c.toNat * 4 + d.toNat * 8 + e.toNat * 16 + f.toNat * 32 +
      g.toNat * 64 + h.toNat * 128)) :: ·)
  | _ => none

/-- The flag 0x7E. -/
def hdlcFlag : List Bool := octetBits [0x7E]

/-- A frame on a management serial port (R115): flag, content and FCS-16 with zero-bit insertion, flag. -/
def hdlcBits (l : List Byte) : List Bool :=
  let f := (fcs16 l).toNat
  hdlcFlag ++ stuff (octetBits (l ++ [BitVec.ofNat 8 f, BitVec.ofNat 8 (f / 256)])) 0 ++ hdlcFlag

/-- The octets between two flags, content then FCS-16, and the content where the FCS holds. -/
def hdlcOctets (b : List Bool) : Option (List Byte) := (unstuff b 0).bind octets
def hdlcContent (l : List Byte) : Option (List Byte) :=
  let c := l.take (l.length - 2)
  if 2 ≤ l.length ∧ (fcs16 c).toNat = byteAt l (l.length - 2) + 256 * byteAt l (l.length - 1) then some c else none

/-- 96 bits of line time in 12 bytes (R24). -/
def timeBytes (t : Instant) : List Byte := beBytes 6 (secOf t) ++ beBytes 4 (nsOf t) ++ beBytes 2 (fracOf t)

/-- A two's complement value of `w` bits as an integer. -/
def signed (w v : Nat) : Int := if v < 2 ^ (w - 1) then v else (v : Int) - 2 ^ w

/-- An integer as `w` bits of two's complement. -/
def unsigned (w : Nat) (v : Int) : Nat := (v % (2 : Int) ^ w).toNat

/-- Add one, saturating at `2^bits - 1`. -/
def satInc (bits n : Nat) : Nat := min (n + 1) (2 ^ bits - 1)
def satAdd (bits n k : Nat) : Nat := min (n + k) (2 ^ bits - 1)

/-! ### Profiles (Tables 3-1 to 3-3) -/

namespace Prof
/-- Code of Table 4-3. -/
def code : Profile → Nat | .p1600 => 0 | .p1200 => 1 | .p800 => 2 | .p400 => 3
/-- Symbol rate in GBd. -/
def rate : Profile → Nat | .p1600 => 200 | .p1200 => 200 | .p800 => 150 | .p400 => 100
/-- Codeword period in symbols. -/
def period : Profile → Nat | .p1600 => 3264 | .p1200 => 4352 | .p800 => 4896 | .p400 => 6528
/-- Symbols of a downstream frame, and codewords in it (Table 3-2). -/
def symbols : Profile → Nat | .p1600 => 25000000 | .p1200 => 25000000 | .p800 => 18750000 | .p400 => 12500000
def codewords : Profile → Nat | .p1600 => 7656 | .p1200 => 5744 | .p800 => 3828 | .p400 => 1912
/-- The alignment segment takes the symbols that the codewords leave (R55); from symbol 64 on it is the training fill of
Table 5-1, PRBS-15 restarted in each frame. -/
def alignment (p : Profile) : Nat := symbols p - codewords p * period p
def training (p : Profile) : List Bool := prbs15 (4 * (alignment p - 64))
/-- Cell positions of a downstream frame and the data cells among them (R55). -/
def positions (p : Profile) : Nat := codewords p * 51 / 4
def dataCells (p : Profile) : Nat := positions p - 64
/-- The codewords that hold the bytes of cell position `k` (R54, R61). -/
def cellWords (k : Nat) : List Nat := List.range' (256 * k / 3264) ((256 * k + 255) / 3264 + 1 - 256 * k / 3264)
/-- How many of the positions from 64 on have a byte in one of the codewords `bad` (R61), counted codeword by codeword: two
neighbours share a position unless four codewords end there. -/
def damagedCells (p : Profile) (bad : List Nat) : Nat :=
  let l := (bad.filter fun k => decide (5 ≤ k ∧ k < codewords p)).dedup
  l.foldl (fun a k => a + ((3264 * k + 3263) / 256 + 1 - max 64 (3264 * k / 256))) 0 -
    (l.filter fun k => l.contains (k + 1) && (k + 1) % 4 != 0).length
/-- Device part of the receive and transmit path delays in 0.25 ns (Table 3-3). -/
def rxPath (p : Profile) : Nat := if rate p = 200 then 1650 else if rate p = 150 then 1745 else 1915
def txPath (p : Profile) : Nat := if rate p = 200 then 250 else if rate p = 150 then 275 else 325
end Prof

/-- Symbols as an `Instant`, rounded up to its grain. -/
def symTime (p : Profile) (n : Nat) : Instant := (n * 65536 + Prof.rate p - 1) / Prof.rate p

/-- Length of a burst window in `Instant` units (Table 3-6): two ramps, preamble, delimiter, header, codewords. -/
def windowLen (p : Profile) (ramp len : Nat) : Instant :=
  2 * ns ramp + symTime p (8192 + 256 + 1024 + len * Prof.period p)

/-- Upstream net rate of a profile in Gb/s (Table 3-1). -/
def Prof.gbps (p : Profile) : Nat := match p with | .p1600 => 1600 | .p1200 => 1200 | .p800 => 800 | .p400 => 400

/-- Whole cell positions carried by `len` codewords, in bytes (R54: 3,264 bytes a codeword). -/
def burstBytes (len : Nat) : Nat := 3264 * len

/-- Centre frequency of a slot in GHz (R51). -/
def slotGhz (b : Band) (n : Nat) : Nat :=
  match b with
  | .c => 191400 + n * 150
  | .cl => if n < 32 then 186600 + n * 150 else 191400 + (n - 32) * 150

/-- The slots of a band (R51). -/
def slotCount : Band → Nat | .c => 32 | .cl => 64

/-! ### Frame overhead (Table 5-2) -/

namespace Ovh
def frame (o : List Byte) : BitVec 32 := BitVec.ofNat 32 (be o 0 4)
def epoch (o : List Byte) : BitVec 32 := BitVec.ofNat 32 (be o 4 4)
/-- The frame's line time stamp. -/
def stamp (o : List Byte) : Instant := sec (be o 8 6) + ns (be o 14 4) + be o 18 2
def head (o : List Byte) : Ident := BitVec.ofNat 128 (be o 20 16)
def utc (o : List Byte) : BitVec 24 := BitVec.ofNat 24 (be o 36 3)
def slot (o : List Byte) : Nat := byteAt o 40 % 64
def profile (o : List Byte) : Nat := byteAt o 41 % 4
def bandBit (o : List Byte) : Bool := byteAt o 41 / 4 % 2 = 1
def active (o : List Byte) : Bool := byteAt o 41 / 8 % 2 = 1
/-- The announced next profile's code and the FRAME of its first frame, while NEXT_VALID is 1. -/
def next (o : List Byte) : Option (Nat × BitVec 32) :=
  if byteAt o 42 / 128 = 1 then some (byteAt o 42 % 4, BitVec.ofNat 32 (be o 44 4)) else none
def tEq (o : List Byte) : Nat := be o 48 4 % 2 ^ 28
def headDelay (o : List Byte) : Nat := be o 52 4 % 2 ^ 28
def asym (o : List Byte) : Int := signed 32 (be o 56 4)
def mapCount (o : List Byte) : Nat := be o 60 2
def msgLen (o : List Byte) : Nat := be o 62 2
/-- Grant map entry `k`: 16 bytes. -/
def entry (o : List Byte) (k : Nat) : List Byte := slice o (64 + 16 * k) 16
def messages (o : List Byte) : List Byte := slice o 8256 (msgLen o)
/-- Management channel block `ch`: 256 bytes. -/
def mch (o : List Byte) (ch : Nat) : List Byte := slice o (15040 + 256 * ch) 256
/-- The superframe signature part, the signed bytes 0 to 59, and the frame control tag (R105, R106). -/
def signature (o : List Byte) : List Byte := slice o 14400 640
def signed (o : List Byte) : List Byte := (o ++ zeros 60).take 60
def tag (o : List Byte) : List Byte := slice o 16368 16
/-- The tag's additional data, bytes 0 to 16,367, and its 96-bit IV (R105). -/
def tagged (o : List Byte) : List Byte := (o ++ zeros 16368).take 16368
def iv (o : List Byte) : Nat :=
  be (beBytes 4 (epoch o).toNat ++ beBytes 4 (frame o).toNat ++ [0, o.getD 40 0, 0, 0]) 0 12
/-- The frame control tag that the key named `key` gives this overhead (R105). -/
def tagFor (key : Nat) (o : List Byte) : List Byte := (Config.gmac key (iv o) (tagged o) ++ zeros 16).take 16
end Ovh

/-- A grant map entry's fields (Table 4-6). -/
structure MapEntry where
  type     : Nat
  terminal : Nat
  slot     : Nat
  len      : Nat
  sec16    : Nat
  nanos    : Nat
  frac     : Nat
  param    : Nat
  count    : Nat
  id       : Nat
deriving DecidableEq, Repr

/-- Read a grant map entry from its 16 bytes (Table 4-6). -/
def mapEntry (b : List Byte) : MapEntry :=
  { type := byteAt b 0 / 64, terminal := byteAt b 0 % 64, slot := byteAt b 1 % 64, len := be b 2 2
    sec16 := be b 4 2, nanos := be b 6 4, frac := be b 10 2, param := byteAt b 12, count := byteAt b 13
    id := be b 14 2 }

/-- The instant with the given low 16 bits of seconds nearest `ref` (R89); of two equally near, the earlier
(log entry 12). -/
def nearest (ref : Instant) (sec16 sub : Nat) : Instant :=
  let span := sec 65536
  let off := sec sec16 + sub
  let base := ref / span * span + off
  let cands := if ref / span = 0 then [base + span] else [base, base + span]
  let first := if ref / span = 0 then base else base - span
  cands.foldl (fun best c =>
    let d := fun x : Instant => if x < ref then ref - x else x - ref
    if d c < d best then c else best) first

/-- Whether a map entry is in range (step 3 of R90) on the carrier's slot. The MODEL'S CHOICES (log entry 75): a START_NS of
10^9 or more is out of range too, though step 3 does not name it; the range of PERIOD is not applied to a cancelling entry,
whose LENGTH is 0. -/
def MapEntry.ok (e : MapEntry) (slot : Nat) : Bool :=
  decide (e.slot = slot) && decide (e.nanos < 1000000000) &&
  (match e.type with
   | 0 => decide (1 ≤ e.len ∧ e.len ≤ 5744 ∧ e.param ≤ 1)
   | 1 => decide (1 ≤ e.len)
   | 2 => decide (1 ≤ e.len ∧ e.len ≤ 5744 ∧ e.param ≤ 1)
   | _ => decide (e.len ≤ 5744 ∧ (e.len = 0 ∨ (1 ≤ e.param ∧ e.param ≤ 64))))

/-! ### Cells (Table 5-4) -/

/-- A cell header's fields. -/
structure CellHdr where
  type  : Nat := 1
  group : Bool := false
  first : Bool := false
  last  : Bool := false
  dst   : Nat := 0
  src   : Nat := 0
  trib  : Nat := 0
  assoc : Nat := 0
  cls   : Nat := 0
  fill  : Nat := 247
deriving DecidableEq, Repr

/-- The 8 bytes of a cell header, HEC last (Table 5-4). -/
def CellHdr.bytes (h : CellHdr) : List Byte :=
  let b : List Byte :=
    [BitVec.ofNat 8 (h.type * 32 + h.group.toNat * 16 + h.first.toNat * 8 + h.last.toNat * 4),
     BitVec.ofNat 8 h.dst, BitVec.ofNat 8 h.src, BitVec.ofNat 8 h.trib] ++
    beBytes 2 (h.assoc * 16 + h.cls * 2) ++ [BitVec.ofNat 8 h.fill]
  b ++ [hec b]

/-- Read a cell header (Table 5-4). -/
def cellHdr (b : List Byte) : CellHdr :=
  { type := byteAt b 0 / 32, group := byteAt b 0 / 16 % 2 = 1, first := byteAt b 0 / 8 % 2 = 1
    last := byteAt b 0 / 4 % 2 = 1, dst := byteAt b 1 % 64, src := byteAt b 2 % 64, trib := byteAt b 3 % 64
    assoc := be b 4 2 / 16, cls := be b 4 2 / 2 % 8, fill := byteAt b 6 }

/-- Whether a cell's HEC holds (R109 step 1). -/
def hecOk (b : List Byte) : Bool := decide (hec (slice b 0 7) = b.getD 7 0)

/-- A calm cell (R111): every header field 0, HEC 0x55, 248 bytes of 0. -/
def calmCell : List Byte := zeros 7 ++ [0x55] ++ zeros 248

/-- Cells a sealed packet of `n` bytes occupies (R108): 248 payload bytes each. -/
def cellsOf (n : Nat) : Nat := (n + 247) / 248

/-! ### Seal header (Table 10-7) -/

/-- Suite code of Table 10-6. -/
def suiteCode : Suite → Nat | .gcm256 => 0 | .gcm128 => 1 | .gmac256 => 2 | .gmac128 => 3

/-- The 16 bytes of a seal header. -/
def sealHdr (assoc suite : Nat) (hs : Bool) (ptLen gen pn : Nat) : List Byte :=
  beBytes 2 (assoc * 16 + suite * 4 + hs.toNat * 2) ++ beBytes 2 (ptLen - 1) ++ beBytes 4 gen ++ beBytes 8 pn

/-! ### Registration messages (R107, Table 5-3) -/

/-- The items of a message body (R107): a 1-byte tag, a 2-byte length and the value each; none where the bytes do not end
with an item. -/
def itemsOf : Nat → List Byte → Option (List (Nat × List Byte))
  | 0, _ => none
  | fuel + 1, b =>
    if b.isEmpty then some []
    else if b.length < 3 ∨ b.length < 3 + be b 1 2 then none
    else (itemsOf fuel (b.drop (3 + be b 1 2))).map ((byteAt b 0, slice b 3 (be b 1 2)) :: ·)

/-- The number of items of a message type before its two signatures (Table 5-3); RESUME has at least two. -/
def itemCount : Nat → Nat | 1 => 5 | 2 => 7 | 3 => 4 | 4 => 2 | 5 => 2 | 6 => 3 | _ => 0

/-- The values of a message's items before the two signatures; none where an item is missing or out of order (R107): the
tags count from 1 and the last two items are the signatures. RESUME has one further item for each SLOT and EqD pair
(log entry 76). -/
def messageItems (type : Nat) (body : List Byte) : Option (List (List Byte)) :=
  match itemsOf (body.length + 1) body with
  | none => none
  | some l =>
    let k := itemCount type
    if l.map (·.1) = (List.range l.length).map (· + 1) ∧ 0 < k ∧
        (if type = 4 then k + 2 ≤ l.length else l.length = k + 2) then some ((l.take (l.length - 2)).map (·.2))
    else none

/-- An item's value as a number, most significant byte first (R7). -/
def itemNat (l : List (List Byte)) (k : Nat) : Nat := let v := l.getD k []; be v 0 v.length

/-- RANGE_ASSIGN's items (Table 5-3). -/
structure RangeAssignMsg where
  nonce     : Nat
  number    : Nat
  slot      : Nat
  eqd       : Nat
  headNonce : List Byte
deriving DecidableEq, Repr

def rangeAssignOf (l : List (List Byte)) : RangeAssignMsg :=
  { nonce := itemNat l 0, number := itemNat l 1, slot := itemNat l 2, eqd := itemNat l 3, headNonce := l.getD 4 [] }

/-- REG_CONFIRM's items; the line control key is named by the number its wrapped bytes make (log entry 76). -/
structure RegConfirmMsg where
  number : Nat
  slot   : Nat
  eqd    : Nat
  epoch  : BitVec 32
  key    : Nat
deriving DecidableEq, Repr

def regConfirmOf (l : List (List Byte)) : RegConfirmMsg :=
  { number := itemNat l 0, slot := itemNat l 1, eqd := itemNat l 2, epoch := BitVec.ofNat 32 (itemNat l 3), key := itemNat l 6 }

/-- RANGE_UPDATE's items; G_sw is a 96-bit line time (R24). -/
structure RangeUpdateMsg where
  number : Nat
  slot   : Nat
  eqd    : Nat
  gsw    : Instant
deriving DecidableEq, Repr

def rangeUpdateOf (l : List (List Byte)) : RangeUpdateMsg :=
  let g := l.getD 3 []
  { number := itemNat l 0, slot := itemNat l 1, eqd := itemNat l 2, gsw := sec (be g 0 6) + ns (be g 6 4) + be g 10 2 }

/-- RESUME's items: the pairs hold SLOT in their first byte and EqD in the rest (log entry 76). -/
structure ResumeMsg where
  number : Nat
  epoch  : BitVec 32
  pairs  : List (Nat × Nat)
deriving DecidableEq, Repr

def resumeOf (l : List (List Byte)) : ResumeMsg :=
  { number := itemNat l 0, epoch := BitVec.ofNat 32 (itemNat l 1)
    pairs := (l.drop 2).map fun v => (byteAt v 0, be v 1 (v.length - 1)) }

/-- KEY_ROLL's items. -/
structure KeyRollMsg where
  number : Nat
  key    : Nat
  frame  : BitVec 32
deriving DecidableEq, Repr

def keyRollOf (l : List (List Byte)) : KeyRollMsg :=
  { number := itemNat l 0, key := itemNat l 1, frame := BitVec.ofNat 32 (itemNat l 2) }

/-- One item's bytes (R107). -/
def itemBytes (tag : Nat) (v : List Byte) : List Byte := BitVec.ofNat 8 tag :: beBytes 2 v.length ++ v

/-- The seed of the identity (R214). -/
def seedOf : List SeedBank → Option Nat
  | [] => none
  | .valid v :: _ => some v
  | _ :: t => seedOf t

/-- The step-3 message of Table 4-4 as items under R107, at the `k`-th ranging burst: the identity public keys, the ephemeral keys,
and the two identity signatures. -/
def rangingMessage (banks : List SeedBank) (k : Nat) : List Byte :=
  let keys := match seedOf banks with | some v => Config.identityKeys v | none => ([], [])
  itemBytes 1 keys.1 ++ itemBytes 2 keys.2 ++ ([3, 4, 5, 6].flatMap fun i => itemBytes i (Config.rangingItem i k))

/-! ### Gust message (Table 4-3) -/

/-- The 256-byte gust message. -/
def gustBytes (fenced : Bool) (ident : Ident) (nonce : BitVec 64) (offset : Nat) (hint : Option Nat)
    (slot : Nat) (p : Profile) (ramp carriers attempt : Nat) : List Byte :=
  let b := beBytes 2 0x4753 ++ [0x01] ++ [BitVec.ofNat 8 (hint.isSome.toNat + 2 * fenced.toNat)] ++
    beBytes 16 ident.toNat ++ beBytes 8 nonce.toNat ++ beBytes 4 offset ++
    beBytes 4 ((hint.getD 0) % 2 ^ 28) ++
    [BitVec.ofNat 8 slot, BitVec.ofNat 8 (Prof.code p), BitVec.ofNat 8 ramp, BitVec.ofNat 8 carriers] ++
    beBytes 2 (min attempt 0xFFFF) ++ beBytes 2 16384 ++ zeros 208
  b ++ beBytes 4 (crc32 b).toNat

/-! ### Burst header (Table 5-5) and forecast report (Table 4-7) -/

/-- A burst header's fields before its tag. -/
structure BurstHdr where
  ranging  : Bool := false
  terminal : Nat
  slot     : Nat
  grant    : Nat
  epoch    : BitVec 32
  seq      : Nat
  profile  : Profile
  ramp     : Nat
  offset   : Nat
  status   : BitVec 4
  last     : BitVec 32
  report   : List Byte
  backlog  : List Nat
deriving DecidableEq, Repr

/-- Bytes 0 to 239 of a burst header. -/
def BurstHdr.bytes (h : BurstHdr) : List Byte :=
  beBytes 2 0x4248 ++ [0x01, BitVec.ofNat 8 h.ranging.toNat, BitVec.ofNat 8 h.terminal, BitVec.ofNat 8 h.slot] ++
  beBytes 2 h.grant ++ beBytes 4 h.epoch.toNat ++ beBytes 4 h.seq ++
  [BitVec.ofNat 8 (Prof.code h.profile), BitVec.ofNat 8 h.ramp, BitVec.ofNat 8 h.offset, h.status.setWidth 8] ++
  beBytes 4 h.last.toNat ++ zeros 8 ++ (h.report ++ zeros 144).take 144 ++
  ((List.range 4).map fun c => beBytes 4 (min (h.backlog.getD c 0) 0xFFFFFFFF)).flatten ++ zeros 48

/-- The 96-bit IV of a burst header's tag (R112). -/
def BurstHdr.iv (h : BurstHdr) : Nat :=
  be (beBytes 4 h.epoch.toNat ++ beBytes 4 h.seq ++ [0x80, BitVec.ofNat 8 h.slot, BitVec.ofNat 8 h.terminal, 0]) 0 12

/-- A forecast report's 144 bytes (Table 4-7): flags, CONF of intervals 1 to 4, FRAME, DEPTH by class, FC by
interval and class, RATE. -/
def reportBytes (shortHist discarding : Bool) (conf : List Nat) (frame : BitVec 32) (depth : List Nat)
    (fc : List (List Nat)) (rate : Nat) : List Byte :=
  [0x01, BitVec.ofNat 8 (shortHist.toNat + 2 * discarding.toNat)] ++
  beBytes 2 (conf.getD 0 0 * 4096 + conf.getD 1 0 * 256 + conf.getD 2 0 * 16 + conf.getD 3 0) ++
  beBytes 4 frame.toNat ++
  ((List.range 8).map fun c => beBytes 4 (min (depth.getD c 0) 0xFFFFFFFF)).flatten ++
  ((List.range 4).map fun i =>
    ((List.range 8).map fun c => beBytes 3 (min ((fc.getD i []).getD c 0) 0xFFFFFF)).flatten).flatten ++
  beBytes 4 (min rate 0xFFFFFFFF) ++ zeros 4

/-! ### Records (Tables 9-4, 12-5, 14-5, 14-6) -/

/-- COLOUR and AUTH codes of Table 12-2. -/
def colourCode : Colour → Nat | .green => 0 | .yellow => 1 | .red => 2
def authCode : Auth → Nat | .none => 0 | .pending => 1 | .pass => 2 | .fail => 3

/-- Words 0x00 and 0x04 of the metadata block (Table 12-2). -/
def Meta.word0 (m : Meta) : Nat :=
  m.port * 2 ^ 26 + m.pass % 4 * 2 ^ 24 + m.reason % 8 * 2 ^ 21 + m.cls % 8 * 2 ^ 18 + colourCode m.colour * 2 ^ 16 +
  m.flowGroup % 16 * 2 ^ 12 + m.assoc % 4096
def Meta.word1 (m : Meta) : Nat :=
  authCode m.auth * 2 ^ 30 + m.l3 % 4 * 2 ^ 28 + m.l4 % 4 * 2 ^ 26 + m.tsReq.toNat * 2 ^ 25 +
  (decide (32 ≤ m.port)).toNat * 2 ^ 24 + m.profile % 16 * 2 ^ 20 + m.tsTag.toNat

/-- Write a metadata field that SET_META may write (Table 12-2): 0 CLASS, 1 COLOUR, 2 FLOW_GROUP, 3 ASSOC,
4 TS_REQ, 5 TS_TAG, 6 to 9 USER0 to USER3. -/
def Meta.setField (m : Meta) (f v : Nat) : Meta :=
  match f with
  | 0 => { m with cls := v % 8 }
  | 1 => { m with colour := if v % 4 = 0 then .green else if v % 4 = 1 then .yellow else .red }
  | 2 => { m with flowGroup := v % 16 }
  | 3 => { m with assoc := v % 4096 }
  | 4 => { m with tsReq := v % 2 = 1 }
  | 5 => { m with tsTag := BitVec.ofNat 16 v }
  | 6 => { m with user := m.user.set 0 (BitVec.ofNat 32 v) }
  | 7 => { m with user := m.user.set 1 (BitVec.ofNat 32 v) }
  | 8 => { m with user := m.user.set 2 (BitVec.ofNat 32 v) }
  | 9 => { m with user := m.user.set 3 (BitVec.ofNat 32 v) }
  | _ => m

/-- The 20 bytes of a transmit stamp entry (Table 9-4). -/
def TxStamp.bytes (e : TxStamp) : List Byte :=
  timeBytes e.time ++ beBytes 2 e.tag.toNat ++ beBytes 2 (min e.lostBefore 0xFFFF) ++
  [BitVec.ofNat 8 (e.valid.toNat + 2 * e.gap.toNat)] ++ zeros 3

/-- The 96 bytes of an exception record (Table 12-5). -/
def ExRecord.toBytes (r : ExRecord) : List Byte :=
  [BitVec.ofNat 8 r.code, BitVec.ofNat 8 (r.gap.toNat + 2 * r.pending.toNat)] ++ beBytes 2 r.prog ++
  beBytes 2 r.version ++ [r.engine, BitVec.ofNat 8 r.pass] ++ beBytes 2 r.pc ++ beBytes 2 r.count ++
  timeBytes r.time ++ beBytes 4 (Meta.word0 r.md) ++ beBytes 4 (Meta.word1 r.md) ++ (r.bytes ++ zeros 64).take 64

/-- The 32 bytes of a sample record (Table 14-5). -/
def SampleRec.toBytes (r : SampleRec) : List Byte :=
  beBytes 2 r.prog ++ beBytes 2 r.version ++ beBytes 2 r.pc ++
  [r.engine, BitVec.ofNat 8 (r.ctx % 8 + 8 * r.gap.toNat + 16 * r.ended.toNat + 32 * r.waited.toNat +
    64 * r.pending.toNat)] ++
  beBytes 2 r.count ++ [BitVec.ofNat 8 r.pass, 0] ++ timeBytes r.time ++
  beBytes 4 (Meta.word0 r.md) ++ beBytes 4 (Meta.word1 r.md)

/-- The 64 bytes of a trace entry (Table 14-6). -/
def TraceEntry.toBytes (r : TraceEntry) : List Byte :=
  timeBytes r.base ++ beBytes 4 r.id ++
  [BitVec.ofNat 8 (r.down.toNat + 2 * r.gap.toNat + 4 * r.complete.toNat + 8 * r.dropped.toNat +
    16 * r.authFail.toNat), BitVec.ofNat 8 r.port, BitVec.ofNat 8 ((r.passes - 1) * 64 + r.cls), 0] ++
  beBytes 2 r.assoc ++ beBytes 2 r.len ++
  ((List.range 10).map fun k =>
    match Tbl.get none r.stages k with
    | some t => beBytes 4 ((t - r.base) / tick)
    | none => beBytes 4 0xFFFFFFFF).flatten

/-! ### Codes -/

/-- Status codes (Tables 11-7 and 10-12). -/
def Status.code : Status → Nat
  | .ok => 0x0000 | .staged => 0x0001
  | .headerInvalid => 0x0101 | .paramRange => 0x0102 | .actionInvalid => 0x0103 | .lengthLimit => 0x0104
  | .opcodeUnknown => 0x0105 | .paramLength => 0x0106 | .versionUnsupported => 0x0107
  | .tableFull => 0x0201 | .placeFail => 0x0202 | .stageFull => 0x0203 | .noGroup => 0x0204
  | .unitAbsent => 0x0207 | .queueExists => 0x0208 | .snapshotBusy => 0x0209 | .dmaError => 0x020A
  | .notReady => 0x0301 | .slotDuplicate => 0x0302 | .carrierNotOff => 0x0303 | .regNotOff => 0x0304
  | .noHeadList => 0x0305 | .tribSwapPending => 0x0306 | .entryExists => 0x0307 | .entryAbsent => 0x0308
  | .queueNotEmpty => 0x0309 | .lpiUnsupported => 0x030A | .lanesInUse => 0x030B | .assocState => 0x030C
  | .groupState => 0x030D | .notConfigured => 0x030E | .gateTestFail => 0x030F
  | .tokenInvalid => 0x0401 | .noOwner => 0x0402 | .ownerEnrolled => 0x0403 | .peerAuthFail => 0x0404
  | .peerTimeout => 0x0405 | .securityFault => 0x0406 | .debugUnlocked => 0x0407 | .keygenExhausted => 0x0408
  | .instantPassed => 0x0501 | .timeInvalid => 0x0502 | .instantTooFar => 0x0503
  | .notStageable => 0x0601 | .lockConflict => 0x0602 | .instantMisaligned => 0x0603
  | .generationNotReady => 0x0604 | .blockNotReady => 0x0605 | .targetChanged => 0x0606
  | .groupLapsed => 0x0607 | .hostAbort => 0x0608 | .integrity => 0x0609 | .dieSplit => 0x060A

/-- Servo code of TP_STATUS (Table 2-6). -/
def servoCode : Servo → Nat
  | .free => 0 | .acquireFree => 1 | .acquireHoldover => 1 | .track => 2 | .holdover => 3

/-- State codes in replies: carriers and registration in the order of Tables 3-4 and 4-1, power as AON_STATE. -/
def carrierCode : CarrierState → Nat
  | .off => 0 | .tune => 1 | .acquire => 2 | .locked => 3 | .lost => 4 | .mismatch => 5
def regCode : RegState → Nat
  | .off => 0 | .listen => 1 | .discover => 2 | .ranging => 3 | .operating => 4 | .holdover => 5 | .fenced => 6
def powerCode : PowerState → Nat | .active => 0 | .trim => 1 | .lull => 2 | .doldrums => 3
def lifecycleCode : Lifecycle → Nat | .blank => 0 | .unowned => 1 | .owned => 2
def causeCode : FaultCause → Nat
  | .none => 0 | .ceiling => 1 | .window => 2 | .maxOn => 3 | .laserOffset => 4 | .tuneTimeout => 5
  | .spiTimeout => 6 | .bias => 7 | .rx => 8 | .alarm => 9 | .shutdown => 10
def bandCode : Band → Nat | .c => 0 | .cl => 1
def shapeCode : RampShape → Nat | .linear => 0 | .raisedCosine => 1 | .table => 2
def refCode : RefSource → Nat | .line => 0 | .board0 => 1 | .board1 => 2
def laneModeCode : LaneMode → Nat | .monitor => 0 | .prbs9 => 1 | .prbs13 => 2 | .prbs31 => 3 | .ssprq => 4
def pauseCode : PauseMode → Nat | .none => 0 | .pause => 1 | .pfc => 2
def groupCode : GroupState → Nat | .free => 0 | .open_ => 1 | .committed => 2 | .done => 3 | .aborted => 4
def levelCode : Level → Nat | .off => 0 | .ret => 1 | .on => 2

/-- Opcodes of Table 11-5. -/
def Cmd.opcode : Cmd → Nat
  | .timeStatus => 0x0201 | .timeCapture .. => 0x0202 | .timeCaptureConfig .. => 0x0203
  | .timeOutputSet .. => 0x0204 | .timeSplitSet .. => 0x0205 | .timeAsymmetrySet .. => 0x0206
  | .timeHoldoverSet .. => 0x0207 | .timePtpSet .. => 0x0208 | .timeSynceSet .. => 0x0209
  | .timeCarrierSet .. => 0x020A
  | .carrierConfig .. => 0x0301 | .carrierEnable .. => 0x0302 | .carrierDisable .. => 0x0303
  | .carrierStatus .. => 0x0304 | .carrierGateSet .. => 0x0305 | .carrierGateCeiling .. => 0x0306
  | .carrierFeLoad .. => 0x0307 | .carrierFeAccess .. => 0x0308 | .carrierMonitor .. => 0x0309
  | .carrierHintClear .. => 0x030A
  | .regEnable => 0x0401 | .regDisable => 0x0402 | .regStatus => 0x0403 | .regConfig .. => 0x0404
  | .regHeadlistSet .. => 0x0405 | .regEpochReset => 0x0406 | .grantStats .. => 0x0407
  | .forecastConfig .. => 0x0408 | .forecastRead .. => 0x0409
  | .frameStatus .. => 0x0501 | .cellStats .. => 0x0502 | .cellGroupsSet .. => 0x0503
  | .mchConfig .. => 0x0504 | .mchStats .. => 0x0505 | .tribPageWrite .. => 0x0506
  | .tribPageSwap .. => 0x0507 | .tribPageRead .. => 0x0508 | .tribStatus => 0x0509
  | .flowInsert .. => 0x0601 | .flowModify .. => 0x0602 | .flowDelete .. => 0x0603
  | .flowLookup .. => 0x0604 | .flowActionWrite .. => 0x0605 | .ternaryWrite .. => 0x0606
  | .ternaryDelete .. => 0x0607 | .parseNodeSet .. => 0x0608 | .classProfileSet .. => 0x0609
  | .classDefaultSet .. => 0x060A | .classStatus => 0x060B | .flowScan .. => 0x060C
  | .queueCreate .. => 0x0701 | .queueDelete .. => 0x0702 | .queueSet .. => 0x0703
  | .queueStatus .. => 0x0704 | .queueFlush .. => 0x0705 | .schedNodeSet .. => 0x0706
  | .egressConfig .. => 0x0707 | .policerSet .. => 0x0708 | .policerRead .. => 0x0709
  | .gateListSet .. => 0x070A | .gateStatus .. => 0x070B | .barometerWatch .. => 0x070C
  | .barometerRead .. => 0x070D | .storeStatus => 0x070E
  | .laneConfig .. => 0x0801 | .laneRefclkSet .. => 0x0802 | .laneStatus .. => 0x0803
  | .laneMonitorSet .. => 0x0804 | .lanePatternRead .. => 0x0805 | .dieStatus => 0x0120
  | .dieRetrain .. => 0x0121
  | .portConfig .. => 0x0806 | .portStatus .. => 0x0807 | .portFilterSet .. => 0x0808
  | .portPauseSet .. => 0x0809 | .portTsConfig .. => 0x080A | .portTsRead .. => 0x080B
  | .portLpiSet .. => 0x080C | .portSleep .. => 0x080D | .statsSnapshot .. => 0x080E
  | .statsRead .. => 0x080F | .portStatsRead .. => 0x0810
  | .secStatus => 0x0901 | .secIdentity => 0x0902 | .secChallenge => 0x0903 | .secOwnerEnrol .. => 0x0904
  | .secAssocCreate .. => 0x0905 | .secAssocRekey .. => 0x0906 | .secAssocDelete .. => 0x0907
  | .secAssocStatus .. => 0x0908 | .secAssocConfig .. => 0x0909 | .secAssocResume .. => 0x090A
  | .secSidechannelSet .. => 0x090B | .secDebugUnlock => 0x090C | .secCompatSet .. => 0x090D
  | .cipherJob .. => 0x0910
  | .deviceInfo => 0x0101 | .deviceStatus => 0x0102 | .deviceReset .. => 0x0103
  | .deviceFwLoad .. => 0x0104 | .devicePing .. => 0x0105
  | .commitOpen .. => 0x0A01 | .commitApply .. => 0x0A02 | .commitAbort .. => 0x0A03
  | .commitStatus .. => 0x0A04
  | .powerStatus => 0x0B01 | .powerVote .. => 0x0B02 | .powerSchedule .. => 0x0B03
  | .powerRetentionStatus => 0x0B04
  | .engineProgramLoad .. => 0x0C01 | .engineProgramUnload .. => 0x0C02 | .engineStatus => 0x0C03
  | .engineExceptionRead .. => 0x0C04
  | .pmcConfig .. => 0x0D01 | .sampleConfig .. => 0x0D02 | .traceConfig .. => 0x0D03
  | .traceRead .. => 0x0D04

end Sys2Proof.Machine

namespace Sys2Proof

/-! ### Fields of what arrives as bytes -/

/-- `n` bytes at `off`, least significant first (R251). -/
def leBytes (l : List Byte) (off : Nat) : Nat → Nat
  | 0 => 0
  | n + 1 => Machine.byteAt l off + 256 * leBytes l (off + 1) n

/-- Fields of a command's header (Table 11-1). -/
def Packet.magic (p : Packet) : Nat := Machine.be p.header 0 2
def Packet.version (p : Packet) : Nat := Machine.be p.header 2 1
def Packet.flags (p : Packet) : BitVec 8 := BitVec.ofNat 8 (Machine.be p.header 3 1)
def Packet.opcode (p : Packet) : Nat := Machine.be p.header 4 2
def Packet.tag (p : Packet) : BitVec 16 := BitVec.ofNat 16 (Machine.be p.header 6 2)
def Packet.group (p : Packet) : Nat := Machine.be p.header 8 1
def Packet.paramLen (p : Packet) : Nat := Machine.be p.header 9 4
def Packet.seq (p : Packet) : BitVec 24 := BitVec.ofNat 24 (Machine.be p.header 13 3)

/-- Fields of a submission entry (R251). -/
def SubEntry.cmdAddr (e : SubEntry) : Nat := leBytes e.bytes 0 8
def SubEntry.cmdLen (e : SubEntry) : Nat := leBytes e.bytes 8 4
def SubEntry.rplCap (e : SubEntry) : Nat := leBytes e.bytes 12 4
def SubEntry.rplAddr (e : SubEntry) : Nat := leBytes e.bytes 16 8

/-- Fields of an owner token (Table 10-2). -/
def Token.magic (t : Token) : Nat := Machine.be t.head 0 2
def Token.version (t : Token) : Nat := Machine.be t.head 2 1
def Token.challenge (t : Token) : Ident := BitVec.ofNat 128 (Machine.be t.head 4 16)
def Token.opcode (t : Token) : Nat := Machine.be t.head 20 2
def Token.device (t : Token) : Ident := BitVec.ofNat 128 (Machine.be t.head 72 16)

/-- Fields of a firmware image's header (Table 15-10). -/
def FwImage.headerOk (i : FwImage) : Bool := Machine.be i.header 0 2 == 0x4B46 && Machine.be i.header 2 1 == 1
def FwImage.secVersion (i : FwImage) : Nat := Machine.be i.header 3 1
def FwImage.version (i : FwImage) : Nat := Machine.be i.header 4 4
def FwImage.part (i : FwImage) : BitVec 8 := BitVec.ofNat 8 (Machine.be i.header 12 1)

/-- Fields of a program image's header (Table 12-6). -/
def ProgImage.magicOk (i : ProgImage) : Bool := Machine.be i.header 0 2 == 0x5150
def ProgImage.formatOk (i : ProgImage) : Bool := Machine.be i.header 2 1 == 1
def ProgImage.abiOk (i : ProgImage) : Bool := Machine.be i.header 3 1 == 1
def ProgImage.program (i : ProgImage) : Nat := Machine.be i.header 4 2
def ProgImage.version (i : ProgImage) : Nat := Machine.be i.header 6 2
def ProgImage.build (i : ProgImage) : Nat := Machine.be i.header 8 4
def ProgImage.codeWords (i : ProgImage) : Nat := Machine.be i.header 12 2
def ProgImage.dataBytes (i : ProgImage) : Nat := Machine.be i.header 14 2
def ProgImage.up (i : ProgImage) : Bool := Machine.be i.header 16 1 % 2 == 1
def ProgImage.down (i : ProgImage) : Bool := Machine.be i.header 16 1 / 2 % 2 == 1

/-- CHECK (Table 12-6): the CRC-32 over bytes 0 to 27, the code and the data, whose lengths the header gives. -/
def ProgImage.checkOk (i : ProgImage) : Bool :=
  i.header.length == 32 && i.code.length == 4 * i.codeWords && i.data.length == i.dataBytes &&
    Machine.be i.header 28 4 == (Machine.crc32 (i.header.take 28 ++ i.code ++ i.data)).toNat

end Sys2Proof
end

