-- ==== Sys2Proof/Machine/Clock.lean ====
section
/-! DEFINITION. Reading the clocks: received time, line time, validity, the holdover estimate, and the
seconds of R355. -/

namespace Sys2Proof.Machine

/-- Received time (R25, R26): the visible 16 fractional bits. -/
def received (s : State) : Instant := s.time.rx / 65536

/-- What is left of the slew in progress, signed (R29): line time runs 1 ppm fast or slow. -/
def slewLeft (s : State) : Int :=
  match s.time.slew with
  | none => 0
  | some w =>
    let done := (s.clk.now - w.start) / 1000000
    if w.total.natAbs ≤ done then 0 else if w.total < 0 then w.total + done else w.total - done

/-- The downstream delay in force, as a span, 0 while none is applied (R26, R29). -/
def downDelay (s : State) : Int := s.time.dDown.getD 0

/-- Line time (R26, R29); in DOLDRUMS the holdover counter carries it (R357). -/
def lineTime (s : State) : Instant :=
  if s.pwr.asleep then s.pwr.holdTime else ((received s : Int) + downDelay s - slewLeft s).toNat

/-- The switch die's line time (R22, R23): in a split its own copy. -/
def switchTime (s : State) : Instant := s.time.copy.getD (lineTime s)

/-- The servo mode under which line time may be valid (R33). -/
def Servo.holds : Servo → Bool
  | .track => true | .holdover => true | .acquireHoldover => true | .free => false | .acquireFree => false

/-- Line time is valid (R33); in DOLDRUMS the counter's own flag says so (R357). -/
def timeValid (s : State) : Bool :=
  if s.pwr.asleep then s.pwr.holdValid && s.time.dDown.isSome else Servo.holds s.time.servo && s.time.dDown.isSome

/-- Line time is valid as the switch die sees it. -/
def switchValid (s : State) : Bool := if s.time.copy.isSome then s.time.copyValid else timeValid s

/-- E(t) × 1.728e25 after `t` ns of holdover (R34): E0 ns, y in 0.01 ppb, D in 0.01 ppb per day. -/
def holdoverScaled (e0 y d t : Nat) : Nat :=
  e0 * (172800 * 10 ^ 20) + y * t * (172800 * 10 ^ 9) + d * t * t

/-- E(t) of R34 in whole ns. -/
def holdoverError (s : State) : Nat :=
  match s.time.holdover with
  | none => 0
  | some (e0, at_) =>
    holdoverScaled e0 s.time.y s.time.drift ((s.clk.now - at_) / 65536) / (172800 * 10 ^ 20)

/-- E(t) has reached the limit in force (R34). -/
def holdoverBeyond (s : State) : Bool :=
  match s.time.holdover with
  | none => false
  | some (e0, at_) =>
    decide (s.time.limit * (172800 * 10 ^ 20) ≤
      holdoverScaled e0 s.time.y s.time.drift ((s.clk.now - at_) / 65536))

/-- TP_STATUS.ERR_EST (Table 2-6): 0xFFFF while line time is invalid. -/
def errEst (s : State) : Nat :=
  if !timeValid s then 0xFFFF
  else match s.time.servo with
    | .track => min (Config.servoError s.clk.draws) 0xFFFF
    | _ => min (holdoverError s) 0xFFFF

/-- The PTP clock class being announced (Table 2-4). -/
def clockClass (s : State) : Nat :=
  if !timeValid s then 248
  else match s.time.servo with
    | .track => 6
    | _ => if s.time.beyond then 140 else 7

/-- The QL code a port sends in ESMC (Table 2-4); QL-DNU is 15. -/
def qlSent (s : State) (p : Synce) : Nat :=
  if !timeValid s then 15
  else match s.time.servo with
    | .track => p.qlTrack
    | _ => if s.time.beyond then 15 else p.qlHold

/-- The time outputs run (Table 2-4). -/
def outputsRun (s : State) : Bool :=
  timeValid s && !s.pwr.asleep && !(s.time.servo != .track && s.time.beyond && s.time.squelch)

/-- The second of R355: how often validity has changed, and the whole second of line time, or of local time
while line time is invalid. -/
def secondOf (s : State) : Nat × Nat :=
  (s.clk.validChanges, if timeValid s then secOf (lineTime s) else secOf s.clk.now)

/-- The next free draw (log entry 3), and the state with the draw counted. -/
def draw (s : State) : Nat × State :=
  (Config.fresh s.clk.draws, { s with clk := { s.clk with draws := s.clk.draws + 1 } })

/-- Record something the terminal sends (log entry 7). -/
def emit (o : Output) (s : State) : State := { s with out := o :: s.out }

end Sys2Proof.Machine
end

