-- ==== Sys2Proof/Machine/Flags.lean ====
section
/-! DEFINITION. Event sources and interrupt targets (chapter 13): raising an event, LEVEL conditions,
coalescing, selection, and the once-per-second rule (R355). -/

namespace Sys2Proof.Machine

/-! ### Units of a variant (Table 0-2) -/

def Variant.carriers : Variant → Nat | .krt9640 => 4 | .krt9620 => 2 | .krt9610 => 1
def Variant.lanes : Variant → Nat | .krt9640 => 32 | .krt9620 => 16 | .krt9610 => 8
def Variant.stacks : Variant → Nat | .krt9640 => 2 | .krt9620 => 1 | .krt9610 => 1
def Variant.trib : Variant → Bool | .krt9640 => true | .krt9620 => true | .krt9610 => false
def Variant.lpi : Variant → Bool | .krt9640 => true | .krt9620 => false | .krt9610 => false
def Variant.part : Variant → Nat | .krt9640 => 0x9640 | .krt9620 => 0x9620 | .krt9610 => 0x9610

/-! ### Sources (Tables 13-1 and 13-2, R288, R290, R354) -/

/-- LEVEL sources (R288). -/
def isLevel (n : Nat) : Bool :=
  decide (n = 0x01 ∨ n = 0x13 ∨ (0x24 ≤ n ∧ n ≤ 0x27) ∨ n = 0xCC ∨ n = 0xF0 ∨ n = 0xF8)

/-- Sources that an event is given for; every other source is reserved (R290). -/
def isSource (n : Nat) : Bool :=
  decide (n ≤ 0x09 ∨ (0x10 ≤ n ∧ n ≤ 0x14) ∨ (0x18 ≤ n ∧ n ≤ 0x1D) ∨ (0x20 ≤ n ∧ n ≤ 0x2D) ∨
    (0x40 ≤ n ∧ n ≤ 0x5F) ∨ (0x60 ≤ n ∧ n ≤ 0x6E) ∨ (0x80 ≤ n ∧ n ≤ 0x94) ∨ (0xA0 ≤ n ∧ n ≤ 0xA6) ∨
    (0xB0 ≤ n ∧ n ≤ 0xB8) ∨ (0xC0 ≤ n ∧ n ≤ 0xC5) ∨ (0xC8 ≤ n ∧ n ≤ 0xD3) ∨ (0xE0 ≤ n ∧ n ≤ 0xEE) ∨
    (0xF0 ≤ n ∧ n ≤ 0xF4) ∨ (0xF8 ≤ n ∧ n ≤ 0xFF))

/-- Sources of a unit this variant has (R5): carriers' sources, the interchange's, client low-power idle's. -/
def sourcePresent (v : Variant) (n : Nat) : Bool :=
  if 0x40 ≤ n ∧ n ≤ 0x5F then decide ((n - 0x40) / 8 < v.carriers)
  else if 0x90 ≤ n ∧ n ≤ 0x92 then v.trib
  else if n = 0x86 then v.trib
  else if n = 0xCE then v.lpi
  else true

/-- Line-die sources (R354). -/
def isLineSource (n : Nat) : Bool :=
  decide ((0x20 ≤ n ∧ n ≤ 0x2A) ∨ n = 0x2C ∨ n = 0x2D ∨ (0x40 ≤ n ∧ n ≤ 0x9F))

/-- The EVC_LEVEL word `w` (R288). -/
def levelWord (w : Nat) : Word :=
  BitVec.ofNat 32 ((List.range 32).foldl (fun a i => if isLevel (32 * w + i) then a + 2 ^ i else a) 0)

/-! ### Selection (R293) -/

def Evc.cfgOf (e : Evc) (n : Nat) : EvcCfg := Tbl.get {} e.cfg n
def Evc.target (e : Evc) (t : Nat) : Target := Tbl.get {} e.targets t
def Evc.setTarget (e : Evc) (t : Nat) (v : Target) : Evc := { e with targets := Tbl.set {} e.targets t v }

/-- THRESH: the priority of the top in-service source (R294, R295). -/
def Target.thresh (t : Target) : Nat := (t.stack.head?.map (·.2)).getD 0

/-- Source `n` is pending, unmasked, configured for target `t` and above its THRESH (R293). -/
def Evc.eligible (e : Evc) (t n : Nat) : Bool :=
  e.pend.getLsbD n && !e.mask.getLsbD n && decide ((e.cfgOf n).target = t) &&
    decide (1 ≤ (e.cfgOf n).prio) && decide ((e.target t).thresh < (e.cfgOf n).prio)

/-- Sources that may be eligible at all: those with a configured priority. -/
def Evc.candidates (e : Evc) : List Nat := (Tbl.keys e.cfg).filter (fun n => decide (n < 256))

/-- Some source is eligible for target `t`. -/
def Evc.anyEligible (e : Evc) (t : Nat) : Bool := e.candidates.any (e.eligible t)

/-- The better of two (source, priority) choices: the higher priority, then the lower number (R293). -/
def better (a b : Nat × Nat) : Nat × Nat :=
  if b.2 > a.2 ∨ (b.2 = a.2 ∧ b.1 < a.1) then b else a

/-- The selected source of target `t` and its priority (R293). -/
def Evc.select (e : Evc) (t : Nat) : Option (Nat × Nat) :=
  (e.candidates.filter (e.eligible t)).foldl
    (fun acc n =>
      let c := (n, (e.cfgOf n).prio)
      some (match acc with | none => c | some a => better a c)) none

/-! ### Targets: activation, messages, coalescing (R296, R297) -/

/-- Send MSI-X vector `t`, or hold it while its vector is masked; none in DOLDRUMS (R296, R327). -/
def sendMsix (t : Nat) (s : State) : State :=
  let g := s.evc.target t
  if !g.msixEn || s.pwr.asleep then s
  else if g.vecMasked then { s with evc := s.evc.setTarget t { g with vecHeld := true } }
  else emit (.msix t) s

/-- Coalescing fires for target `t` (R297): the target becomes active and its message is sent; with nothing
eligible and nothing in service it is at once inactive again (R296, log entry 13). -/
def fire (t : Nat) (s : State) : State :=
  let g := s.evc.target t
  if g.stack.isEmpty && !s.evc.anyEligible t then
    { s with evc := s.evc.setTarget t { g with active := false, arrivals := 0, firstAt := none } }
  else
    sendMsix t { s with evc := s.evc.setTarget t { g with active := true, arrivals := 0, firstAt := none } }

/-- Target `t` becomes inactive once nothing is in service and nothing is eligible (R296). -/
def quiet (t : Nat) (s : State) : State :=
  let g := s.evc.target t
  if g.active && g.stack.isEmpty && !s.evc.anyEligible t then
    { s with evc := s.evc.setTarget t { g with active := false, arrivals := 0, firstAt := none } }
  else s

/-- Every target that has nothing left becomes inactive. -/
def quietAll (s : State) : State := quiet 3 (quiet 2 (quiet 1 (quiet 0 s)))

/-- One arrival at source `n` (R297): counted while its target is inactive and the source is unmasked with a
priority; fires at COUNT or for a bypassing source that is eligible. -/
def arrive (n : Nat) (s : State) : State :=
  let c := s.evc.cfgOf n
  let g := s.evc.target c.target
  if s.evc.mask.getLsbD n || c.prio = 0 || g.active then s
  else
    let a := satInc 8 g.arrivals
    let g' := { g with arrivals := a, firstAt := some (g.firstAt.getD s.clk.now) }
    let s' := { s with evc := s.evc.setTarget c.target g' }
    if max g.coalCount 1 ≤ a || (c.bypass && s'.evc.eligible c.target n) then fire c.target s' else s'

/-- A source that was not eligible in `e0` and now is, while its active target has something in service, sends
the nesting message (R296). -/
def nest (e0 : Evc) (n : Nat) (s : State) : State :=
  let t := (s.evc.cfgOf n).target
  let g := s.evc.target t
  if g.active && !g.stack.isEmpty && s.evc.eligible t n && !e0.eligible t n then sendMsix t s else s

/-- Add one to the arrival counter of source `n` (R289). -/
def countUp (n : Nat) (e : Evc) : Evc := { e with count := Tbl.modify 0 e.count n (satInc 4) }

/-- Set or clear the pending bit of source `n`. -/
def setPend (n : Nat) (b : Bool) (e : Evc) : Evc :=
  { e with pend := if b then e.pend ||| (1#256 <<< n) else e.pend &&& ~~~(1#256 <<< n) }

/-- A raise that reaches the event controller (R288, R289, R297). In DOLDRUMS it is kept with its count, and reaches its
target once CTRL is on (R327). -/
def land (n : Nat) (s : State) : State :=
  let e0 := s.evc
  let s := { s with evc := countUp n (setPend n true s.evc) }
  if s.pwr.asleep then s else nest e0 n (arrive n s)

/-- Raise EDGE source `n`; `line` for an occurrence on the line die. During a split the line die's are held
(R304, R354); a reserved source or one of an absent unit is never raised (R5, R290). -/
def raiseOn (line : Bool) (n : Nat) (s : State) : State :=
  if !isSource n || !sourcePresent s.fuses.variant n then s
  else if s.die.split && (line || isLineSource n) then
    { s with evc := { s.evc with held := Tbl.modify 0 s.evc.held n (· + 1) } }
  else land n s

/-- Raise EDGE source `n`. -/
def raise (n : Nat) (s : State) : State := raiseOn false n s

/-- Raise an EDGE source at most once in a second of R355; `key` names the occurrence (the source, or the source
and its unit). -/
def raiseOnceKey (key n : Nat) (s : State) : State :=
  if Tbl.get (0, 0) s.clk.lastRaise key = ((secondOf s).1, (secondOf s).2 + 1) then s
  else raise n { s with clk := { s.clk with
    lastRaise := Tbl.set (0, 0) s.clk.lastRaise key ((secondOf s).1, (secondOf s).2 + 1) } }

/-- Raise an EDGE source at most once in a second of R355. -/
def raiseOnce (n : Nat) (s : State) : State := raiseOnceKey n n s

/-- The condition of LEVEL source `n` is now `c` (R288, R289): a rising counts and arrives; the pending bit
follows. During a split the line die's conditions are held (R304). -/
def setLevel (n : Nat) (c : Bool) (s : State) : State :=
  if s.evc.pend.getLsbD n = c then s
  else if s.die.split && isLineSource n then s
  else if c then land n s
  else quietAll { s with evc := setPend n false s.evc }

/-- The condition of a line-die LEVEL source rises during a split: the rising is held with its count (R354). -/
def holdRising (n : Nat) (s : State) : State :=
  if s.die.split then { s with evc := { s.evc with held := Tbl.modify 0 s.evc.held n (· + 1) } } else s

/-! ### Conditions of the LEVEL sources -/

/-- cmd.reply_ready: CMD_RQ_TAIL differs from CMD_RQ_HEAD (R252). -/
def syncReply (s : State) : State := setLevel 0xF0 (decide (s.cmd.rqTail ≠ s.cmd.rqHead)) s
/-- time.cap0 to time.cap3 (R44). -/
def syncCap (n : Nat) (s : State) : State := setLevel (0x24 + n) (!(Tbl.get {} s.tio.cap n).fifo.isEmpty) s
/-- port.ts_ready: any transmit stamp FIFO holds an entry (R203). -/
def syncTs (s : State) : State := setLevel 0xCC (s.ports.any fun p => !p.2.stamps.isEmpty) s
/-- engine.exception: either exception FIFO holds a record (R280). -/
def syncEx (s : State) : State := setLevel 0xF8 (!(s.eng.exUp.isEmpty && s.eng.exDown.isEmpty)) s
/-- integ.log: the integrity log holds an entry (Table 13-2). -/
def syncLog (s : State) : State := setLevel 0x13 (!s.evc.log.isEmpty) s
/-- dev.thermal_warn: a die is above its warning threshold; the line die's share waits during a split. -/
def syncWarn (s : State) : State :=
  setLevel 0x01 (s.pwr.warn.getLsbD 0 || (s.pwr.warn.getLsbD 1 && !s.die.split)) s

end Sys2Proof.Machine
end

