-- ==== Sys2Proof/Machine/Ops.lean ====
section
/-! DEFINITION. The named operations every command shares: reading and writing the numbered units, power levels
and votes, answers and replies over the three transports. -/

namespace Sys2Proof.Machine

/-! ### Numbered units -/

def State.carrier (s : State) (n : Nat) : Carrier := Tbl.get {} s.carriers n
def State.port (s : State) (p : Nat) : Port := Tbl.get {} s.ports p
def State.lane (s : State) (n : Nat) : Lane := Tbl.get {} s.lanes n
def State.assoc (s : State) (i : Nat) : Assoc := Tbl.get {} s.sec.assocs i
def State.channel (s : State) (c : Nat) : Mch := Tbl.get {} s.mch c
def State.grp (s : State) (g : Nat) : Group := Tbl.get {} s.groups g
def State.queue (s : State) (q : Nat) : Option Queue := Tbl.get none s.q.tab q
def State.variant (s : State) : Variant := s.fuses.variant

def setCarrier (n : Nat) (c : Carrier) (s : State) : State := { s with carriers := Tbl.set {} s.carriers n c }
def setPort (p : Nat) (v : Port) (s : State) : State := { s with ports := Tbl.set {} s.ports p v }
def setLane (n : Nat) (v : Lane) (s : State) : State := { s with lanes := Tbl.set {} s.lanes n v }
def setAssoc (i : Nat) (a : Assoc) (s : State) : State :=
  { s with sec := { s.sec with assocs := Tbl.set {} s.sec.assocs i a } }
def setChannel (c : Nat) (v : Mch) (s : State) : State := { s with mch := Tbl.set {} s.mch c v }
def setGrp (g : Nat) (v : Group) (s : State) : State := { s with groups := Tbl.set {} s.groups g v }
def setQueue (q : Nat) (v : Option Queue) (s : State) : State :=
  { s with q := { s.q with tab := Tbl.set none s.q.tab q v } }

def modCarrier (n : Nat) (f : Carrier → Carrier) (s : State) : State := setCarrier n (f (s.carrier n)) s
def modPort (p : Nat) (f : Port → Port) (s : State) : State := setPort p (f (s.port p)) s
def modLane (n : Nat) (f : Lane → Lane) (s : State) : State := setLane n (f (s.lane n)) s
def modAssoc (i : Nat) (f : Assoc → Assoc) (s : State) : State := setAssoc i (f (s.assoc i)) s
def modChannel (c : Nat) (f : Mch → Mch) (s : State) : State := setChannel c (f (s.channel c)) s
def modGrp (g : Nat) (f : Group → Group) (s : State) : State := setGrp g (f (s.grp g)) s
def modStats (p : Nat) (f : PortStats → PortStats) (s : State) : State :=
  modPort p (fun v => { v with stats := f v.stats }) s

/-- Apply an operation to each number of a list, in order. -/
def forEach (l : List Nat) (f : Nat → State → State) (s : State) : State := l.foldl (fun s n => f n s) s

/-- The carriers of this variant (Table 0-2). -/
def State.carrierNums (s : State) : List Nat := List.range s.variant.carriers

/-- A carrier or a port this variant has (R1, R4; ports: R212's closing note). -/
def State.hasCarrier (s : State) (n : Nat) : Bool := decide (n < s.variant.carriers)
def State.hasPort (s : State) (p : Nat) : Bool := decide (p < s.variant.lanes)

/-- The status of a unit number that this variant does not have (R4; log entry 37): on the smaller variants whatever is not there
is an absent unit; on KRT-9640 a number from `max` on is out of the parameter's range. -/
def State.noUnit (s : State) (n max : Nat) : Status :=
  if n < max ∨ s.variant ≠ .krt9640 then .unitAbsent else .paramRange

/-- A new name for a packet inside the terminal, from the counter of draws (log entry 3). -/
def newId (s : State) : Nat × State :=
  (s.clk.draws, { s with clk := { s.clk with draws := s.clk.draws + 1 } })

/-! ### Power levels and votes (R320 to R323) -/

/-- The two bits of domain `d` in a vote word; 0b11 reads as ON (Table 15-11). -/
def voteBits (w : Word) (d : Nat) : Nat := min (w.toNat / 4 ^ d % 4) 2

/-- The FW vote of a power state (Table 15-3). -/
def fwVote : PowerState → Word
  | .doldrums => BitVec.ofNat 32 (1 * 4 ^ 3)
  | .lull => BitVec.ofNat 32 (2 * 4 ^ 1 + 1 * 4 ^ 2 + 1 * 4 ^ 3 + 2 * 4 ^ 4 + 2 * 4 ^ 5)
  | .trim => BitVec.ofNat 32 (2 * 4 ^ 1 + 2 * 4 ^ 2 + 2 * 4 ^ 3 + 2 * 4 ^ 4 + 2 * 4 ^ 5)
  | .active => BitVec.ofNat 32 (2 * 4 ^ 1 + 2 * 4 ^ 2 + 2 * 4 ^ 3 + 2 * 4 ^ 4 + 2 * 4 ^ 5)

/-- A vote word without the domains of absent carriers, without AON, reserved bits 0 (R3, Table 15-11). -/
def State.presentVote (s : State) (w : Word) : Word :=
  BitVec.ofNat 32 ((List.range 14).foldl (fun a d =>
    let absent := (6 ≤ d ∧ d ≤ 9 ∧ s.variant.carriers ≤ d - 6) ∨ (10 ≤ d ∧ s.variant.carriers ≤ d - 10)
    if absent then a else a + voteBits w d * 4 ^ d) 0)

/-- The vote word of voter `v` (Table 15-2): 0 HOST, 1 FW, 2 to 5 CARRIER, 6 CLIENT, 7 TIME, 8 SECURITY. -/
def State.vote (s : State) (v : Nat) : Word :=
  if v = 0 then s.presentVote s.pwr.hostVote
  else if v = 1 then (s.pwr.fw.map fwVote).getD 0
  else if v ≤ 5 then
    let n := v - 2
    if s.hasCarrier n && (s.carrier n).state != .off then
      BitVec.ofNat 32 (2 * 4 ^ (6 + n) + if s.reg.state = .off then 0 else 2 * 4 ^ (10 + n))
    else 0
  else if v = 6 then
    if s.ports.any (fun p => p.2.cfg.isSome && !p.2.asleep) then BitVec.ofNat 32 (2 * 4 ^ 2) else 0
  else if v = 7 then
    match s.time.servo with
    | .acquireFree => BitVec.ofNat 32 (2 * 4 ^ 5 + (s.time.carrier.map fun n => 2 * 4 ^ (6 + n)).getD 0)
    | .acquireHoldover => BitVec.ofNat 32 (2 * 4 ^ 5 + (s.time.carrier.map fun n => 2 * 4 ^ (6 + n)).getD 0)
    | _ => 0
  else if s.sec.assocs.any (fun a => a.2.agree.isSome) then BitVec.ofNat 32 (2 * 4 ^ 1) else 0

/-- The highest level any voter holds on domain `d` (R321). -/
def State.held (s : State) (d : Nat) : Nat :=
  ((List.range 9).map fun v => voteBits (s.vote v) d).foldl max 0

/-- A latched supply fault holds domain `d` in reset (R349, log entry 31): the core rail all of them, the line-die rail
what stands on it, the converters' the carriers, the lanes' PIPE, the stacks' HBM. -/
def Power.heldOff (p : Power) (d : Nat) : Bool :=
  p.supply.getLsbD 0 || (p.supply.getLsbD 1 && decide (4 ≤ d)) || (p.supply.getLsbD 2 && decide (6 ≤ d)) ||
    (p.supply.getLsbD 3 && d == 2) || (p.supply.getLsbD 4 && d == 3)

/-- The effective level of domain `d` (R321): the highest vote, raised to ON under any child at ON; in DOLDRUMS
CTRL is off until a wake (R327, log entry 15); a hardware stop and a supply fault keep domains down (R349, R352).
0 OFF, 1 RET, 2 ON. -/
def State.level (s : State) (d : Nat) : Nat :=
  if d = 0 then 2
  else if s.pwr.stop || s.pwr.heldOff d then 0
  else if s.pwr.asleep then (if d = 3 then min (s.held 3) 1 else 0)
  else
    let crx (n : Nat) := max (s.held (6 + n)) (if s.held (10 + n) = 2 then 2 else 0)
    let anyCrx := [0, 1, 2, 3].any fun n => crx n == 2
    let line := if anyCrx || s.held 4 == 2 then 2 else s.held 5
    if d = 1 then
      if s.held 2 == 2 || s.held 3 == 2 || s.held 4 == 2 || line == 2 then 2 else s.held 1
    else if d = 5 then line
    else if 6 ≤ d ∧ d ≤ 9 then crx (d - 6)
    else s.held d

/-- The power state (Table 15-3); before firmware runs, the register's reset value ACTIVE. -/
def State.powerState (s : State) : PowerState :=
  if s.pwr.asleep || s.pwr.stop then .doldrums
  else if s.pwr.fw = none && !s.pwr.supply.getLsbD 0 then .active
  else if s.level 1 ≠ 2 then .doldrums
  else if s.level 2 ≠ 2 then .lull
  else if s.carrierNums.any (fun n => s.level (6 + n) == 0) then .trim
  else .active

/-- Raise power.state when the state has changed from that of `s0` (R325). -/
def notePower (s0 s : State) : State := if s.powerState = s0.powerState then s else raise 0x06 s

/-- The word AON_LEVEL (Table 15-11). -/
def State.levelWord (s : State) : Word :=
  BitVec.ofNat 32 ((List.range 14).foldl (fun a d => a + s.level d * 4 ^ d) 0)

/-- A wake from DOLDRUMS begins at step 1 (R327, R330, R331): a failed wake's FAIL clears. -/
def startWake (s : State) : State :=
  if s.pwr.asleep && s.pwr.wake.isNone then
    { s with pwr := { s.pwr with
      wake := some { step := 1, start := s.clk.now, since := s.clk.now }, wakeFail := false, changing := true, vreq := s.pwr.vreq ||| 1#5 } }
  else s

/-- An enabled source asks for a wake (R327, Table 15-11): bits of AON_WAKE_EN, 0 schedule, 1 doorbell, 2 port, 3 SPI. -/
def wakeBy (bit : Nat) (s : State) : State := if s.pwr.wakeEn.getLsbD bit then startWake s else s

/-- In DOLDRUMS a register other than the identity and always-on ones reads 0 without effect, a write to it is
discarded, and the time port and the time inputs are dead (R327, Table 16-3). -/
def awakeRead (s t : State) : State := if s.pwr.asleep then emit (.read 0) s else t
def awake (s t : State) : State := if s.pwr.asleep then s else t

/-! ### Answers -/

/-- What a command answers (Table 11-2). -/
structure Ans where
  status : Status := .ok
  detail : Nat := 0
  data   : List Nat := []
deriving DecidableEq, Repr

/-- What a command does: its answer, `none` when its reply comes later, and the state after it. -/
abbrev Body := State → Option Ans × State

/-- Done, with data. -/
def okData (d : List Nat) : Body := fun s => (some { data := d }, s)
/-- Done. -/
def okNone : Body := fun s => (some {}, s)
/-- Failed: nothing changes (R247 to R258). -/
def fail (st : Status) : Body := fun s => (some { status := st }, s)
/-- The reply comes later (R249, R186). -/
def later : Body := fun s => (none, s)

/-- A check: on `false` the command fails with `st` and changes nothing. -/
def require (ok : Bool) (st : Status) (k : Body) : Body := fun s => if ok then k s else fail st s

/-- The group of 0x01xx statuses, whose DETAIL names a field (Table 11-2). -/
def Status.isParam (st : Status) : Bool := decide (0x0100 ≤ Status.code st ∧ Status.code st < 0x0200)

/-! ### Replies (R248 to R255) -/

/-- Replies whose DATA the manual lays out byte by byte, and whose values are those bytes: device.ping, forecast.read (Table 4-7),
flow.lookup (Table 6-4). -/
def bytesReply (opcode : Nat) : Bool := opcode == 0x0105 || opcode == 0x0409 || opcode == 0x0604

/-- DATA of a reply in bytes: those the manual lays out as they are, the others as log entry 6 says. -/
def replyData (opcode : Nat) (data : List Nat) : List Byte :=
  if data = [] then [] else if bytesReply opcode then data.map (BitVec.ofNat 8) else Config.replyBytes opcode data

/-- The reply packet (Tables 11-1 and 11-2). -/
def Reply.bytes (r : Reply) : List Byte :=
  let d := replyData r.opcode r.data
  beBytes 2 0x5047 ++
    [0x01, BitVec.ofNat 8 (1 + 4 * r.replayed.toNat + 8 * r.truncated.toNat + 16 * r.phase.toNat)] ++
    beBytes 2 r.opcode ++ beBytes 2 r.tag.toNat ++ [BitVec.ofNat 8 r.group] ++
    beBytes 4 (4 + d.length) ++ beBytes 3 r.seq.toNat ++ beBytes 2 (Status.code r.status) ++ beBytes 2 r.detail ++ d

/-- A group address: the I/G bit of the first octet. -/
def isGroup (a : MacAddr) : Bool := a.getLsbD 40

/-- The bytes of an address. -/
def addrBytes (a : MacAddr) : List Byte := beBytes 6 a.toNat

/-- The in-band reply frame of R255, cut to MAX_FRAME, and whether it was cut. -/
def inbandFrame (h : Hdr) (v : Port) (r : Reply) : List Byte × Bool :=
  let src := if isGroup h.dst then (Tbl.get (0, false) v.filter 0).1 else h.dst
  let tag := match h.vlan with | none => [] | some t => beBytes 2 0x8100 ++ beBytes 2 t.toNat
  let front := addrBytes h.src ++ addrBytes src ++ tag ++ beBytes 2 0x88B5
  let room := ((v.cfg.map (·.maxFrame)).getD 9600) - 4 - front.length
  if room < r.bytes.length then (front ++ ({ r with truncated := true } : Reply).bytes.take room, true)
  else (front ++ r.bytes, false)

/-- Put a frame at the end of egress queue `q` of port `p`. -/
def egressPush (p q : Nat) (f : EgFrame) (s : State) : State :=
  modPort p (fun v => { v with queues := Tbl.modify [] v.queues q (· ++ [f]) }) s

/-- A sleeping port wakes (R208): its lanes hunt for alignment again, and port.wake is raised. -/
def wakePort (p : Nat) (s : State) : State :=
  if (s.port p).asleep then notePower s (raise 0xCF (modPort p (fun v => { v with asleep := false }) s)) else s

/-- A frame is offered to a port: with WAKE_ON_TX it wakes the port from its sleep (R208). -/
def offered (p : Nat) (s : State) : State := if (s.port p).wakeOnTx then wakePort p s else s

/-- The transport's key in the replay store (R249). -/
def replayKey : Transport → Option Nat
  | .ring => none
  | .spi => some 0
  | .inband p => some (1 + p)

/-- Keep a reply for a repeated SEQ: the last 64 commands of the transport (R249). -/
def storeReply (r : Reply) (s : State) : State :=
  match replayKey r.transport with
  | none => s
  | some k =>
    let l := Tbl.get [] s.cmd.replay k
    let l' := if l.any (fun x => x.1 == r.seq) then l.map (fun x => if x.1 == r.seq then (r.seq, some r) else x)
      else ((r.seq, some r) :: l).take 64
    { s with cmd := { s.cmd with replay := Tbl.set [] s.cmd.replay k l' } }

/-- Send a reply over its transport (R252, R254, R255): a ring entry with PHASE and the new CMD_RQ_TAIL, the SPI
slave's waiting reply, or a frame in egress queue 7 of the port, discarded while the port is DOWN. -/
def deliver (h : Hdr) (r : Reply) (s : State) : State :=
  let s := { s with cmd := { s.cmd with open_ := s.cmd.open_.eraseP fun x => x.1 == h } }
  match r.transport with
  | .ring =>
    let r' := { r with
      phase := s.cmd.phase, truncated := (h.cap.map fun c => decide (c < r.bytes.length)).getD false }
    let t := (s.cmd.rqTail + 1) % 2 ^ s.cmd.rqLog
    syncReply (emit (.reply r') { s with cmd := { s.cmd with
      entries := s.cmd.entries ++ [r'], rqTail := t, phase := if t = 0 then !s.cmd.phase else s.cmd.phase,
      inFlight := s.cmd.inFlight - 1 } })
  | .spi => { s with cmd := { s.cmd with
      spiReply := s.cmd.spiReply ++ [r]
      spiBusy := s.cmd.open_.any (fun x => x.1.transport == .spi && x.2.isNone) ||
        s.cmd.wait.any fun x => x.1.transport == .spi } }
  | .inband p =>
    let v := s.port p
    let (b, cut) := inbandFrame h v r
    let r' := { r with truncated := cut }
    let s := offered p (emit (.reply r') s)
    if v.up then
      let (id, s) := newId s
      egressPush p 7 { pkt := { id := id, bytes := b, md := { port := p } }, at_ := switchTime s, reply := true } s
    else modStats p (fun t => { t with portDown := t.portDown + 1 }) s

/-- Answer a command (R248): data only with OK or STAGED; DETAIL of a parameter error is the offending field's
offset; a refused token raises sec.token_fail (R217, R247). `keep`: the reply is stored for R249. -/
def answer (keep : Bool) (h : Hdr) (opcode : Nat) (a : Ans) (s : State) : State :=
  let det := if Status.isParam a.status then min (Config.fieldOffset opcode s.clk.draws) 0xFFFF else a.detail
  let s := if Status.isParam a.status then { s with clk := { s.clk with draws := s.clk.draws + 1 } } else s
  let r : Reply := {
    transport := h.transport, opcode := opcode, tag := h.tag, group := h.group, seq := h.seq,
    status := a.status, detail := det, data := if a.status = .ok ∨ a.status = .staged then a.data else [] }
  let s := if a.status = .tokenInvalid then raise 0xE9 s else s
  deliver h r (if keep then storeReply r s else s)

/-- Answer a command that has been taken (R248, R249). -/
def sendReply (h : Hdr) (opcode : Nat) (a : Ans) (s : State) : State := answer true h opcode a s

/-! ### Commands and the unit they need (R4, R254, R305, R327) -/

/-- Security-relevant commands (Table 10-3). -/
def secRelevant (o : Nat) : Bool :=
  decide (o = 0x0306 ∨ o = 0x0405 ∨ o = 0x0406 ∨ (0x0905 ≤ o ∧ o ≤ 0x0907) ∨ (0x0909 ≤ o ∧ o ≤ 0x090D))

/-- Commands that need the line die (R305). -/
def needsLine (o : Nat) : Bool :=
  decide ((0x0201 ≤ o ∧ o ≤ 0x0207) ∨ o = 0x020A ∨ (0x0301 ≤ o ∧ o ≤ 0x030A) ∨ (0x0401 ≤ o ∧ o ≤ 0x0409) ∨
    (0x0501 ≤ o ∧ o ≤ 0x0509))

/-- Commands that need PIPE (R327): flow, queue, lane, port, cipher.job, engine, sampling and trace commands. -/
def needsPipe (o : Nat) : Bool :=
  decide ((0x0601 ≤ o ∧ o ≤ 0x0810) ∨ o = 0x0910 ∨ (0x0C01 ≤ o ∧ o ≤ 0x0C04) ∨ (0x0D02 ≤ o ∧ o ≤ 0x0D04))

/-- Commands the boot ROM runs (R254). -/
def bootCommand (o : Nat) : Bool := decide (0x0101 ≤ o ∧ o ≤ 0x0105)

/-- The command cannot run now: before READY only the boot ROM's commands (R254), none in DOLDRUMS (R327), none
that need the line die in a split (R305), none that need PIPE while PIPE is not ON (R327), none on a domain that a supply
fault holds in reset (R349, log entry 31). -/
def notReady (o : Nat) (s : State) : Bool :=
  (!s.cmd.ready && !(bootCommand o && s.dev.booting)) || s.pwr.asleep ||
    (s.die.split && needsLine o) || (s.cmd.ready && needsPipe o && s.level 2 != 2) ||
    (needsLine o && s.pwr.heldOff 5) || (o == 0x0302 && s.pwr.heldOff 6)

/-- The token of a security-relevant command holds (R217, R218); the digests' and signatures' verdicts come with it. -/
def tokenOk (t : Token) (o : Nat) (s : State) : Bool :=
  t.magic == 0x4F54 && t.version == 1 &&
    s.sec.challenges.any (fun c => c.1 == t.challenge && decide (s.clk.now < c.2 + sec 600)) && t.opcode == o &&
    t.paramDigestOk && t.device == BitVec.extractLsb' 256 128 s.sec.digest && s.fuses.owner == some t.ownerDigest &&
    t.sigEcOk && t.sigMldsaOk

/-- A challenge is consumed by the first token that names it (R218). -/
def consume (t : Ident) (s : State) : State :=
  { s with sec := { s.sec with challenges := s.sec.challenges.filter fun c => c.1 != t } }

/-- The checks on a security-relevant command in the order of R247, with the self-test of R240 after the
lifecycle: the status that fails it, if any, and the state with its challenge consumed. -/
def secCheck (h : Hdr) (o : Nat) (s : State) : Option Status × State :=
  if s.fuses.lifecycle = .blank && decide (0x0901 < o ∧ o ≤ 0x0910) then (some .securityFault, s)
  else if !secRelevant o then (none, s)
  else match s.fuses.lifecycle with
    | .blank => (some .securityFault, s)
    | .unowned => (some .noOwner, s)
    | .owned =>
      if !s.sec.selfTest then (some .securityFault, s)
      else match h.token with
        | none => (some .tokenInvalid, s)
        | some t => (if tokenOk t o s then none else some .tokenInvalid, consume t.challenge s)

end Sys2Proof.Machine
end

