-- ==== Sys2Proof/Machine/Validity.lean ====
section
/-! DEFINITION. What follows when line time becomes valid, becomes invalid or steps (R33, R39, R157, R163), and
the end of a commit group without effect (R265), which one of them needs. -/

namespace Sys2Proof.Machine

/-! ### Gate lists as functions of line time (R162, R163) -/

/-- The gates at offset `off` into a cycle: the entry that holds it, or the last one's gates. -/
def gateAt : List (BitVec 8 × Nat) → Nat → BitVec 8 → BitVec 8
  | [], _, last => last
  | (g, i) :: t, off, _ => if off < ns i then g else gateAt t (off - ns i) g

/-- The offset of instant `t` into the list's cycle. -/
def gatePhase (l : GateList) (t : Instant) : Nat := (((t : Int) - l.base) % (ns l.cycle : Int)).toNat

/-- The gates the list gives at line time `t` (R162). -/
def gatesOf (l : GateList) (t : Instant) : BitVec 8 := gateAt l.entries (gatePhase l t) l.fallback

/-- The gates of port `p` now: its running list's, its FALLBACK while line time is invalid, all open before the
first list (R162, R163). Taking FALLBACK raises gate.fallback, once for as long as the port holds it. -/
def regate (p : Nat) (s : State) : State :=
  match (s.port p).gate with
  | none => s
  | some r =>
    if switchValid s then modPort p (fun v => { v with gates := gatesOf r.list (switchTime s), fellBack := false }) s
    else
      let had := (s.port p).fellBack
      let s := modPort p (fun v => { v with gates := r.list.fallback, fellBack := true }) s
      if had then s else raise 0xB7 s

/-- The gates of every configured gate list. -/
def regateAll (s : State) : State := forEach (Tbl.keys s.ports) regate s

/-! ### Aborting a commit group (R265) -/

/-- Erase the staged keys of a rekey: the new generation is never used (R226, R265). -/
def eraseStagedKey (i : Nat) (s : State) : State :=
  modAssoc i (fun a =>
    match a.staged with
    | none => a
    | some k => { a with staged := none, rx := a.rx.filter fun r => r.gen != k.gen }) s

/-- Erase the keys of every staged rekey in a list of changes. -/
def eraseStagedKeys (l : List Staged) (s : State) : State :=
  l.foldl (fun s c => match c.cmd with | .secAssocRekey i => eraseStagedKey i s | _ => s) s

/-! ### Slots of rule generations (R143 to R145) -/

/-- Change the classifier. -/
def modCls (f : Classifier → Classifier) (s : State) : State := { s with cls := f s.cls }

/-- One slot alone. -/
def slotOf (b : Bool) : Bool × Bool := (!b, b)

/-- Take entries out of slots; an entry visible nowhere is gone. -/
def hideFlows (sl : Bool × Bool) (p : FlowEntry → Bool) (l : List FlowEntry) : List FlowEntry :=
  (l.map fun e => if p e then { e with visA := e.visA && !sl.1, visB := e.visB && !sl.2 } else e).filter
    fun e => e.visA || e.visB
def hideTern (sl : Bool × Bool) (p : TernEntry → Bool) (l : List TernEntry) : List TernEntry :=
  (l.map fun e => if p e then { e with visA := e.visA && !sl.1, visB := e.visB && !sl.2 } else e).filter
    fun e => e.visA || e.visB

/-- The slot that holds no current generation is free again (R143, R144): nothing is visible in it. -/
def releaseSlot (s : State) : State :=
  modCls (fun c => { c with
    flows := hideFlows (slotOf (!c.curB)) (fun _ => true) c.flows
    tern := hideTern (slotOf (!c.curB)) (fun _ => true) c.tern }) s

/-- A COMMITTED group aborts with a reason: nothing in any block changes, shadow state and locks go, and
commit.aborted is raised; 0x0604 raises class.generation_abort as well (R265, Table 6-8). -/
def abortGroup (g : Nat) (why : Status) (detail : Nat) (s : State) : State :=
  let v := s.grp g
  let s := eraseStagedKeys v.changes s
  let s := setGrp g { v with
    state := .aborted, active := s.clk.now, locks := [], checked := false, abort := some (why, detail) } s
  let s := match s.cls.writeIn with
    | some w =>
      if w.group = g then
        let s := modCls (fun c => { c with writeIn := none }) s
        if w.started.isSome then releaseSlot s else s
      else s
    | none => s
  let s := raise 0xF3 s
  if why = .generationNotReady then raise 0xA5 s else s

/-- The groups in a state. -/
def groupsIn (st : GroupState) (s : State) : List Nat :=
  (s.groups.filter fun x => x.2.state == st).map (·.1)

/-! ### Validity (R33, R39) -/

/-- Every pending snapshot fails with a status (R39, R210, R326). -/
def failSnaps (why : Status) (l : Tbl Snapshot) : Tbl Snapshot :=
  l.map fun (x : Nat × Snapshot) =>
    match x.2 with | Snapshot.pending _ _ => (x.1, Snapshot.failed why) | _ => x

/-- Every pending scheduled event fails (R39): committed groups abort, pending snapshots and the pending power
change fail, each port takes its FALLBACK gates; a gate list waiting for its S and a direct trib.page.swap
waiting for its instant fail with the rest (log entry 16). -/
def onInvalid (s : State) : State :=
  let s := forEach (groupsIn .committed s) (fun g => abortGroup g .timeInvalid 0) s
  let s := { s with snaps := failSnaps .timeInvalid s.snaps }
  let s := match s.pwr.sched with
    | none => s
    | some _ => raise 0x07 { s with pwr := { s.pwr with sched := none, outcome := .timeInvalid } }
  let s := { s with trib := { s.trib with swap := none } }
  let starts := fun (l : List WheelItem) => l.filter fun i => match i.kind with | .gateStart _ => false | _ => true
  let s := { s with q := { s.q with fine := starts s.q.fine, coarse := starts s.q.coarse } }
  regateAll (forEach (Tbl.keys s.ports) (fun p => modPort p fun v => { v with gateNext := none }) s)

/-- The time outputs are held inactive up to line time now: no edge up to it acts later (R39, R41; log entry 73). -/
def holdOutputs (s : State) : State :=
  { s with tio := { s.tio with outHeld := lineTime s, outEdge := [], outOn := [] } }

/-- Compare the validity of line time with that of `s0` (R33, R39, R50, R355): a change starts a new second;
becoming invalid raises time.invalid and fails what is pending; becoming valid recomputes the gates, and the time outputs run
from then on (R41). In a split the switch die sees neither until the rejoin. -/
def noteTime (s0 s : State) : State :=
  if timeValid s = timeValid s0 then s
  else
    let s := holdOutputs { s with clk := { s.clk with validChanges := s.clk.validChanges + 1 } }
    if s.die.split then
      if timeValid s then s else raise 0x23 { s with trib := { s.trib with swap := none } }
    else if timeValid s then regateAll s else onInvalid (raise 0x23 s)

/-- Set bit `i` of TP_FLAGS (Table 2-6). -/
def setFlag (i : Nat) (s : State) : State := { s with tio := { s.tio with flags := s.tio.flags ||| (1#6 <<< i) } }

/-- Line time has stepped (R29, R39, R163): time.step, TP_FLAGS.STEP, gates for the new time. -/
def noteStep (s : State) : State := regateAll (setFlag 0 (raise 0x22 s))

end Sys2Proof.Machine
end

