-- ==== Sys2Proof/Machine/Count.lean ====
section
/-! DEFINITION. Counting and tracing that every stage of the terminal shares (chapter 14): adding an event to the
performance counters (R307 to R310), and the entries of tagged packets (R315 to R317). -/

namespace Sys2Proof.Machine

/-! ### Performance counters (R307 to R310) -/

/-- PMC_FILT_n after reset (Table 14-1). -/
def filtReset : Word := BitVec.ofNat 32 (0x1F * 2 ^ 20 + 0xFF)

def Pmc.evselOf (p : Pmc) (n : Nat) : Word := Tbl.get 0 p.evsel n
def Pmc.filtOf (p : Pmc) (n : Nat) : Word := Tbl.get filtReset p.filt n
/-- EN, CHAIN and EVENT of a counter. -/
def Pmc.en (p : Pmc) (n : Nat) : Bool := (p.evselOf n).getLsbD 31
def Pmc.chain (p : Pmc) (n : Nat) : Bool := (p.evselOf n).getLsbD 30 && n % 2 == 1
def Pmc.ovfInt (p : Pmc) (n : Nat) : Bool := (p.evselOf n).getLsbD 29
def Pmc.event (p : Pmc) (n : Nat) : Nat := (p.evselOf n).toNat % 256

/-- An event of Table 14-2 with what the filters compare; `none` for a filter it does not carry. `cells` marks the
events of cells in HBM, which carry an address range; PRIV is 1 for PROGRAM, 2 for RUNTIME (R312). -/
structure PmcEvent where
  code   : Nat
  weight : Nat := 1
  master : Option Nat := none
  engine : Option Nat := none
  priv   : Option Nat := none
  cls    : Option Nat := none
  cells  : Bool := false
  line   : Bool := false

/-- The filters of a counter pass the event (R307, Tables 14-1 and 14-3). -/
def pmcPasses (f : Word) (e : PmcEvent) : Bool :=
  let w := f.toNat
  let m := w / 2 ^ 25 % 32
  let g := w / 2 ^ 20 % 32
  (match e.master with
    | none => true
    | some k => m == 0 || (m == k && decide (m ≤ 0x11))) &&
  (match e.engine with
    | none => true
    | some k => !decide (1 ≤ m ∧ m ≤ 8) || g == 0x1F || g == k) &&
  (match e.priv with
    | none => true
    | some k => w / 2 ^ 30 == 0 || w / 2 ^ 30 == k) &&
  (match e.cls with
    | none => true
    | some c => w / 2 ^ (c % 8) % 2 == 1)

/-- A wrap of counter `n` (R307, R310): its OVF bit, and pmc.overflow with OVF_INT. -/
def pmcWrapped (n : Nat) (s : State) : State :=
  let s := { s with pmc := { s.pmc with ovf := s.pmc.ovf ||| (1#64 <<< n) } }
  if s.pmc.ovfInt n then raise 0xFC s else s

/-- Add to a counter that is not chained to another one, or is the odd one of a pair (R307). -/
def pmcAddOne (n k : Nat) (s : State) : State :=
  let v := Tbl.get 0 s.pmc.cnt n + k
  let s := { s with pmc := { s.pmc with cnt := Tbl.set 0 s.pmc.cnt n (v % 2 ^ 48) } }
  if v < 2 ^ 48 then s else pmcWrapped n s

/-- Add to counter `n`: a wrap of an even counter whose partner is chained advances the partner instead (R310). -/
def pmcAdd (n k : Nat) (s : State) : State :=
  if n % 2 = 0 ∧ s.pmc.chain (n + 1) then
    let v := Tbl.get 0 s.pmc.cnt n + k
    let s := { s with pmc := { s.pmc with cnt := Tbl.set 0 s.pmc.cnt n (v % 2 ^ 48) } }
    if v < 2 ^ 48 || !s.pmc.en (n + 1) then s else pmcAddOne (n + 1) (v / 2 ^ 48) s
  else pmcAddOne n k s

/-- Count an event on every counter that selects it and whose filters it passes (R307); a line-die event is missed
during a split (R309). -/
def pmcCount (e : PmcEvent) (s : State) : State :=
  if e.weight = 0 then s
  else if e.line && s.die.split then { s with pmc := { s.pmc with splitLoss := true } }
  else if s.pmc.freeze then s
  else
    forEach (Tbl.keys s.pmc.evsel) (fun n s =>
      if !s.pmc.en n || s.pmc.chain n || s.pmc.event n != e.code || !pmcPasses (s.pmc.filtOf n) e then s
      else if e.cells && (s.pmc.filtOf n).toNat / 2 ^ 16 % 16 != 0 then
        pmcAdd n (min e.weight (Config.cellsInRange s.clk.draws)) { s with clk := { s.clk with draws := s.clk.draws + 1 } }
      else pmcAdd n e.weight s) s

/-- The pipeline's master code for a packet's direction (Table 14-3). -/
def pipeMaster (down : Bool) : Nat := if down then 0x0B else 0x0A

/-- A packet came from the line (Table 12-2: ingress ports 32 to 35). -/
def Meta.down (m : Meta) : Bool := decide (32 ≤ m.port)

/-- A packet is dropped for a counted reason (Table 14-2, DROPS). -/
def pmcDrop (m : Meta) (s : State) : State :=
  pmcCount { code := 0x12, master := some (pipeMaster m.down), cls := some m.cls } s

/-! ### Tagged packets (R315 to R317) -/

/-- Change the trace state. -/
def modTrace (f : Tracing → Tracing) (s : State) : State :=
  { s with pmc := { s.pmc with trace := f s.pmc.trace } }

/-- Change the reserved entry of a tagged packet. -/
def traceEntry (id : Option Nat) (f : TraceEntry → TraceEntry) (s : State) : State :=
  match id with
  | none => s
  | some k => modTrace (fun t => { t with open_ := t.open_.map fun e => if e.id = k then f e else e }) s

/-- A tagged packet reaches a stage of Table 14-7 now; the first time counts. -/
def traceStage (id : Option Nat) (k : Nat) (s : State) : State :=
  let now := switchTime s
  traceEntry id (fun e =>
    if (Tbl.get none e.stages k).isSome then e else { e with stages := Tbl.set none e.stages k (some now) }) s

/-- A tagged packet reaches a stage at a given instant, the latest one counting. -/
def traceStageAt (id : Option Nat) (k : Nat) (at_ : Instant) (s : State) : State :=
  traceEntry id (fun e => { e with stages := Tbl.set none e.stages k (some at_) }) s

/-- A tagged packet leaves or is dropped: its entry is written, COMPLETE if the last stage was reached (R316). -/
def traceEnd (id : Option Nat) (f : TraceEntry → TraceEntry) (s : State) : State :=
  match id with
  | none => s
  | some k =>
    let t := s.pmc.trace
    match t.open_.find? (fun e => e.id == k) with
    | none => s
    | some e =>
      let e := f e
      let done := t.done ++ [{ e with complete := (Tbl.get none e.stages 8).isSome }]
      let s := modTrace (fun t => { t with open_ := t.open_.filter (fun e => e.id != k), done := done }) s
      if done.length = t.p.watermark then raise 0xFE s else s

/-- A tagged packet is dropped (R317). -/
def traceDrop (id : Option Nat) (s : State) : State := traceEnd id (fun e => { e with dropped := true }) s

/-- Reserve an entry for a packet that matched and was drawn (R315, R316): its TRACE_ID, or none. -/
def traceReserve (e : TraceEntry) (s : State) : Option Nat × State :=
  let t := s.pmc.trace
  let full := decide (65536 ≤ t.open_.length + t.done.length)
  if full && (!t.p.wrap || t.done.isEmpty) then
    (none, modTrace (fun t => { t with skipped := t.skipped + 1 }) s)
  else
    let s := if full then
        modTrace (fun t => { t with done := t.done.drop 1, overwritten := t.overwritten + 1, gapNext := true }) s else s
    let id := t.nextId
    let s := modTrace (fun t => { t with nextId := id + 1, open_ := t.open_ ++ [{ e with id := id }] }) s
    let t := s.pmc.trace
    if !t.p.wrap && decide (65536 ≤ t.open_.length + t.done.length) then
      (some id, raise 0xFF (modTrace (fun t => { t with stopped := true }) s))
    else (some id, s)

/-- The trace filter takes a packet at its first pass (R315). -/
def traceMatches (p : TraceParams) (m : Meta) : Bool :=
  p.enable && (if m.down then p.down else p.up) && p.ports.getLsbD m.port && p.classes.getLsbD m.cls &&
    (match p.assoc with | none => true | some a => a == m.assoc)

/-- At the start of a first pass: tag the packet with probability 2^-k (R315). -/
def traceTag (p : Pkt) (s : State) : Pkt × State :=
  let t := s.pmc.trace
  if !traceMatches t.p p.md then (p, s)
  else
    let (v, s) := draw s
    if v % 2 ^ t.p.k ≠ 0 then (p, s)
    else
      let stages := Tbl.set none (Tbl.set none p.stamps 0 (some p.md.rxTime)) (if p.md.down then 4 else 1) (some (switchTime s))
      let (id, s) := traceReserve {
        id := 0, down := p.md.down, port := p.md.port, cls := p.md.cls, assoc := p.md.assoc, len := p.md.len
        base := p.md.rxTime, stages := stages } s
      ({ p with trace := id }, s)

/-! ### The upstream cell store (R148, R152) -/

/-- Cells of the upstream cell store (R148): two stacks or one. -/
def storeCells (s : State) : Nat := 75497472 * s.variant.stacks

/-- Change the queue manager. -/
def modQ (f : Queues → Queues) (s : State) : State := { s with q := f s.q }

/-- Cells leave the cell store; below 85 % queue.store_high may be raised again (R152). -/
def freeCells (k : Nat) (s : State) : State :=
  let used := s.q.used - k
  modQ (fun q => { q with used := used, storeHigh := q.storeHigh && decide (storeCells s * 85 ≤ used * 100) }) s

/-- A packet dropped by the queue manager is counted among DROPS, and its trace entry written. -/
def dropQ (p : QPkt) (s : State) : State :=
  traceDrop p.trace (pmcCount { code := 0x12, master := some 0x0C, cls := some p.cls } s)

/-- Cells of a queued packet not yet drawn. -/
def QPkt.left (p : QPkt) : Nat := cellsOf p.bytes.length - p.drawn

end Sys2Proof.Machine
end

