-- ==== Sys2Proof/Machine/LineTime.lean ====
section
/-! DEFINITION. The line time unit (chapter 02): the downstream correction, slews and steps, the time carrier,
the servo, the time outputs, captures and the time port, and the time commands' bodies. -/

namespace Sys2Proof.Machine

/-! ### Path delays and d_down (R26, R29, Table 3-3) -/

/-- Receive and transmit path delays of a carrier in 0.25 ns (Table 3-3). -/
def Carrier.rxPath (c : Carrier) : Nat := Prof.rxPath c.profile + c.rxDelay
def Carrier.txPath (c : Carrier) : Nat := Prof.txPath c.profile + c.txDelay

/-- D_int of a carrier in 0.25 ns: receive path, transmit path and HEAD_DELAY (R26, R28). -/
def dInt (s : State) (c : Carrier) : Nat := c.rxPath + c.txPath + s.time.headDelay

/-- d_down in 2^-16 ns (R26): α × F + A, with F = RTT − D_int. -/
def downOf (alpha rtt dint : Nat) (asym : Int) : Int := (alpha : Int) * ((rtt : Int) - dint) / 4 + asym * 16384

/-- d_down from the time unit's present values, on the carrier it was ranged from. -/
def State.downNow (s : State) : Int :=
  downOf s.time.alpha s.time.rtt (dInt s (s.carrier (s.time.rangedFrom.getD 0))) s.time.asym

/-- Apply a ranged d_down to line time (R29): the first one whole, without a step; a change of 1 µs or less, with
what is left of a running slew, is slewed; a larger one is a step. -/
def applyDown (d : Int) (s : State) : State :=
  match s.time.dDown with
  | none => noteTime s { s with time := { s.time with dDown := some d, slew := none } }
  | some old =>
    let delta := d - old + slewLeft s
    if delta = 0 then { s with time := { s.time with dDown := some d, slew := none } }
    else if delta.natAbs ≤ us 1 then
      { s with time := { s.time with dDown := some d, slew := some { start := s.clk.now, total := delta } } }
    else noteStep { s with time := { s.time with dDown := some d, slew := none } }

/-- A value behind d_down has changed (R29): recompute and apply, once a d_down is applied. -/
def rerange (s : State) : State :=
  if s.time.dDown.isSome && s.time.rangedFrom.isSome then applyDown s.downNow s else s

/-- RTT of a carrier from T_EQ and an EqD (R86), in 0.25 ns. -/
def rttOf (s : State) (eqd : Nat) : Nat := s.time.tEq - eqd

/-- The EqD last accepted for a carrier (R29, R88): an accepted update counts at once, whatever its switch instant. -/
def Carrier.lastEqd (c : Carrier) : Nat := (c.eqdNext.getLast?.map (·.1)).getD c.eqd

/-- Take d_down from carrier `n`'s own RTT (R26, R27). -/
def rangeFrom (n : Nat) (s : State) : State :=
  let s := { s with time := { s.time with rtt := rttOf s (s.carrier n).lastEqd, rangedFrom := some n } }
  applyDown s.downNow s

/-! ### The time carrier (R27) -/

/-- LOCKED or LOST. -/
def Carrier.hears (c : Carrier) : Bool := c.state == .locked || c.state == .lost

/-- The time carrier R27 chooses. -/
def chooseCarrier (s : State) : Option Nat :=
  let fallback :=
    match s.time.carrier with
    | some n => if (s.carrier n).hears then some n else
        s.carrierNums.find? fun m => (s.carrier m).state == .locked
    | none => s.carrierNums.find? fun m => (s.carrier m).state == .locked
  match s.time.hostCarrier with
  | some n => if (s.carrier n).hears then some n else fallback
  | none => fallback

/-- Choose the time carrier again (R27): a change raises time.carrier_change, and in a session d_down is taken
from the new carrier once it is ranged. -/
def retime (s : State) : State :=
  let c := chooseCarrier s
  if c = s.time.carrier then s
  else
    let s := raise 0x2D { s with time := { s.time with carrier := c } }
    match c with
    | some n => if s.reg.session && (s.carrier n).ranged then rangeFrom n s else s
    | none => s

/-! ### The servo (R32 to R36) -/

/-- Enter TRACK (Table 2-2). From an ACQUIRE entered from HOLDOVER the frequency found by the separate estimator is taken and
the difference found is applied under R29; while the terminal must re-range, it goes on serving holdover time, whatever α and A
become, until the new d_down is known (R35, log entry 17). -/
def enterTrack (s : State) : State :=
  let s0 := s
  let s := if s.time.servo = .acquireHoldover then
      let e := s.time.estimate
      let s := { s with
        time := { s.time with
          rx := ((s.time.rx : Int) + e * 65536).toNat, corr := Config.servoCorrection s.clk.draws }
        clk := { s.clk with draws := s.clk.draws + 1 } }
      match s.time.dDown with
      | none => s
      | some d =>
        let left := slewLeft s
        if !s.reg.session then
          { s with time := { s.time with dDown := some (d - e), rangedFrom := none } }
        else if (e + left).natAbs ≤ us 1 then
          { s with time := { s.time with slew := some { start := s.clk.now, total := e + left } } }
        else noteStep { s with time := { s.time with slew := none } }
    else s
  let s := { s with time := { s.time with
    servo := .track, holdover := none, beyond := false, phaseOk := none, estimate := 0 } }
  noteTime s0 (setFlag 2 (raise 0x20 s))

/-- Enter HOLDOVER (Table 2-2, R34): E0 is the error estimate on entry; the frequency correction freezes. An
ACQUIRE entered from HOLDOVER keeps the running E(t). -/
def enterHoldover (s : State) : State :=
  let e := match s.time.holdover with
    | some h => some h
    | none => some (Config.servoError s.clk.draws, s.clk.now)
  let s' := { s with
    time := { s.time with servo := .holdover, holdover := e, phaseOk := none }
    reg := { s.reg with servoFell := true }
    clk := { s.clk with draws := s.clk.draws + 1 } }
  noteTime s (setFlag 1 (raise 0x21 s'))

/-- Put the servo in FREE (Table 2-2): no reference; line time becomes invalid. -/
def enterFree (s : State) : State :=
  noteTime s { s with time := { s.time with
    servo := .free, holdover := none, beyond := false, phaseOk := none, stampAt := none, slew := none } }

/-- Step received time by `e` (R32), both in 2^-16 ns: the phase condition counts afresh. -/
def stepReceived (e : Int) (s : State) : State :=
  { s with time := { s.time with rx := ((s.time.rx : Int) + e * 65536).toNat, phaseOk := none } }

/-- The frequency correction learns from a superframe's stamps (R25, R32; log entry 4). -/
def learn (s : State) : State :=
  { s with
    time := { s.time with corr := Config.servoCorrection s.clk.draws }
    clk := { s.clk with draws := s.clk.draws + 1 } }

/-- Authenticated stamps have arrived within the last 50 ms (R27, R32). -/
def stampsLive (s : State) : Bool :=
  match s.time.stampAt with | none => false | some t => decide (s.clk.now ≤ t + ms 50)

/-- The phase error has been under 50 ns since (R32): counted afresh after an outage of the stamps. -/
def phaseSince (s : State) (ok : Bool) : Option Instant :=
  if ok then some (if stampsLive s then s.time.phaseOk.getD s.clk.now else s.clk.now) else none

/-- The servo takes the authenticated stamps of a superframe, with their phase errors in 2^-16 ns, newest first (R32 to R36):
each must be under 50 ns, and the newest is the one received time steps to (log entry 74). In HOLDOVER and in an ACQUIRE entered
from it the frequency correction stays frozen. -/
def adoptStamps (es : List Int) (s : State) : State :=
  match es with
  | [] => s
  | e :: _ =>
    let s1 := { s with time := { s.time with
      stampAt := some s.clk.now, phaseOk := phaseSince s (es.all fun x => decide (x.natAbs < ns 50)) } }
    match s.time.servo with
    | .free =>
      if s.time.refHeld then s
      else noteStep (stepReceived e (learn { s1 with time := { s1.time with servo := .acquireFree } }))
    | .acquireFree => if !stampsLive s && decide (us 1 < e.natAbs) then stepReceived e (learn s1) else learn s1
    | .track => learn s1
    | .holdover =>
      if e.natAbs ≤ us 1 then enterTrack (learn s1)
      else { s1 with time := { s1.time with servo := .acquireHoldover, estimate := e, phaseOk := some s.clk.now } }
    | .acquireHoldover =>
      if es.all fun x => decide ((x - s.time.estimate).natAbs < ns 50) then
        { s1 with time := { s1.time with phaseOk := phaseSince s true } }
      else { s1 with time := { s1.time with estimate := e, phaseOk := none } }

/-! ### Time outputs (R40) -/

/-- The setting breaks R40 (TOUTn_CTRL.CFG_ERR). -/
def Tout.cfgErr (t : Tout) : Bool :=
  decide (1 < t.mode ∨ t.period < 20 ∨ 1000000000 % t.period ≠ 0 ∨ t.period ≤ t.phase ∨
    (t.mode = 0 ∧ t.period ≤ t.width))

/-- TOUTn_CTRL, PPS_CTRL and FREQ_CTRL words (Table 2-6). -/
def Tout.ctrl (t : Tout) : Word :=
  BitVec.ofNat 32 (t.en.toNat * 2 ^ 31 + t.low.toNat * 2 ^ 30 + t.mode % 4 * 2 ^ 28 + t.cfgErr.toNat * 2 ^ 27)
def TimeIo.ppsCtrl (t : TimeIo) : Word :=
  BitVec.ofNat 32 (t.ppsEn.toNat * 2 ^ 31 + t.ppsLow.toNat * 2 ^ 30 + t.ppsWidth % 2 ^ 30)
def TimeIo.freqCtrl (t : TimeIo) : Word := BitVec.ofNat 32 (t.freqEn.toNat * 2 ^ 31)

/-- Change TOUT `n`'s registers. -/
def modTout (n : Nat) (f : Tout → Tout) (s : State) : State :=
  { s with tio := { s.tio with tout := Tbl.modify {} s.tio.tout n f } }

/-- At a line-time second the outputs take their settings (R40). -/
def takeOutputs (s : State) : State :=
  { s with tio := { s.tio with
    toutRun := s.tio.tout, ppsRun := s.tio.ppsEn, ppsRunLow := s.tio.ppsLow, ppsRunWidth := s.tio.ppsWidth
    ppsRunComp := s.tio.ppsComp, freqRun := s.tio.freqEn } }

/-- The outputs follow line time on a tick (R40, R41): at each new second they take their settings; while they do not run they are
held inactive. -/
def tickOutputs (s : State) : State :=
  let k := secOf (lineTime s)
  let s := if s.tio.outSec < k then takeOutputs s else s
  let s := { s with tio := { s.tio with outSec := k } }
  if outputsRun s then s else holdOutputs s

/-- A train of pulses: its period, the offset of its leading edges, its pulses' width, and whether it is active low. -/
structure Train where
  period : Instant
  lead   : Int
  width  : Instant
  low    : Bool
deriving DecidableEq, Repr

/-- The train an output runs on (R40): PPS_OUT's leading edge comes COMP before the second, FREQ_OUT is 10 MHz with a rising edge
on the second, TOUTn's edges lie PHASE after it. A square wave is active for half its period (log entry 73). -/
def trainOf (o : TimeOut) (s : State) : Option Train :=
  match o with
  | .pps =>
    if s.tio.ppsRun then some {
      period := sec 1, lead := -(signed 16 s.tio.ppsRunComp.toNat * quarter), width := ns s.tio.ppsRunWidth
      low := s.tio.ppsRunLow }
    else none
  | .freq => if s.tio.freqRun then some { period := ns 100, lead := 0, width := ns 50, low := false } else none
  | .tout n =>
    let r := Tbl.get {} s.tio.toutRun n
    if r.en && !r.cfgErr && decide (n < 4) then some {
      period := ns r.period, lead := ns r.phase, width := if r.mode = 0 then ns r.width else ns r.period / 2, low := r.low }
    else none

/-- The first instant after `d` that lies `off` into a period. -/
def nextInTrain (period : Instant) (off : Int) (d : Instant) : Instant := d + 1 + ((off - (d + 1)) % (period : Int)).toNat

/-- The number of an output in the tables of what its edges did. -/
def outKey : TimeOut → Nat | .pps => 0 | .freq => 1 | .tout n => 2 + n

/-- The next edge of a running output that has not acted (R39, R40), and whether it is a leading one. -/
def nextEdge (o : TimeOut) (s : State) : Option (Instant × Bool) :=
  match trainOf o s with
  | none => none
  | some t =>
    let d := max s.tio.outHeld ((Tbl.get none s.tio.outEdge (outKey o)).getD 0)
    let a := nextInTrain t.period t.lead d
    let b := nextInTrain t.period (t.lead + t.width) d
    if !outputsRun s || t.width = 0 then none else if a ≤ b then some (a, true) else some (b, false)

/-- An output's edge acts (R37, R40): the ball goes to the level that POL gives; an output already there has no edge. -/
def driveEdge (o : TimeOut) (e : Instant) (active : Bool) (s : State) : State :=
  let was := Tbl.get false s.tio.outOn (outKey o)
  let s' := { s with tio := { s.tio with
    outEdge := Tbl.set none s.tio.outEdge (outKey o) (some e), outOn := Tbl.set false s.tio.outOn (outKey o) active } }
  if was = active then s' else emit (.edge o e (active != ((trainOf o s).map (·.low)).getD false)) s'

/-! ### Captures (R44) -/

/-- Change capture input `n`. -/
def modCap (n : Nat) (f : Capture → Capture) (s : State) : State :=
  { s with tio := { s.tio with cap := Tbl.modify {} s.tio.cap n f } }

/-- CAPn_STAT (Table 2-6). -/
def Capture.stat (c : Capture) : Word :=
  BitVec.ofNat 32 (c.en.toNat * 2 ^ 31 + c.falling.toNat * 2 ^ 30 + c.popped.valid.toNat * 2 ^ 29 +
    c.popped.gap.toNat * 2 ^ 28 + c.fifo.length % 32 * 2 ^ 16 + c.lost % 65536)

/-- Pop the head entry of input `n`, if any (R44): CAPn_STAT shows its flags. -/
def popCap (n : Nat) (s : State) : State :=
  match (Tbl.get {} s.tio.cap n).fifo with
  | [] => s
  | e :: t => syncCap n (modCap n (fun c => { c with fifo := t, popped := e }) s)

/-- Words of an instant as the time registers show them (Table 2-6). -/
def loWord (t : Instant) : Word := BitVec.ofNat 32 (nsOf t)
def hiWord (t : Instant) : Word := BitVec.ofNat 32 (secOf t / 2 ^ 32 % 65536 * 65536 + fracOf t)
def secWord (t : Instant) : Word := BitVec.ofNat 32 (secOf t)

/-! ### Time port registers (R45 to R48, Table 2-6) -/

/-- A write of time port address `a` from the port or the mirror: RW and W1C fields only. -/
def tpReg (a : Nat) (v : Word) (s : State) : State :=
  let b := v.toNat
  if a = 0x04 then { s with tio := { s.tio with flags := s.tio.flags &&& ~~~ v.setWidth 6 } }
  else if 0x08 ≤ a ∧ a ≤ 0x17 ∧ a % 4 = 3 then
    modCap ((a - 8) / 4) (fun c => { c with en := v.getLsbD 31, falling := v.getLsbD 30 }) s
  else if 0x18 ≤ a ∧ a ≤ 0x27 then
    let n := (a - 0x18) / 4
    modTout n (fun t =>
      if a % 4 = 0 then { t with en := v.getLsbD 31, low := v.getLsbD 30, mode := b / 2 ^ 28 % 4 }
      else if a % 4 = 1 then { t with period := b }
      else if a % 4 = 2 then { t with width := b }
      else { t with phase := b }) s
  else if a = 0x28 then
    { s with tio := { s.tio with ppsEn := v.getLsbD 31, ppsLow := v.getLsbD 30, ppsWidth := b % 2 ^ 30 } }
  else if a = 0x29 then { s with tio := { s.tio with ppsComp := v.setWidth 16 } }
  else if a = 0x2A then { s with tio := { s.tio with freqEn := v.getLsbD 31 } }
  else s

/-- TP_STATUS (Table 2-6). -/
def tpStatus (s : State) : Word :=
  BitVec.ofNat 32 ((timeValid s).toNat * 2 ^ 31 + s.time.dDown.isSome.toNat * 2 ^ 30 + s.time.aligned.toNat * 2 ^ 29 +
    s.time.asymOvr.toNat * 2 ^ 28 + servoCode s.time.servo * 2 ^ 25 + clockClass s * 2 ^ 16 + errEst s)

/-- DS_DELAY: d_down in 0.25 ns, 28 bits. -/
def dsDelay (s : State) : Nat := unsigned 28 (downDelay s / 16384)

/-- What time port address `a` reads, apart from the read's side effects (Table 2-6). -/
def tpRead (a : Nat) (latch : Instant) (s : State) : Word :=
  if a = 0 then loWord latch else if a = 1 then hiWord latch else if a = 2 then secWord latch
  else if a = 3 then tpStatus s
  else if a = 4 then s.tio.flags.setWidth 32
  else if 0x08 ≤ a ∧ a ≤ 0x17 then
    let c := Tbl.get {} s.tio.cap ((a - 8) / 4)
    if a % 4 = 0 then loWord c.shown else if a % 4 = 1 then hiWord c.shown
    else if a % 4 = 2 then secWord c.shown else c.stat
  else if 0x18 ≤ a ∧ a ≤ 0x27 then
    let t := Tbl.get {} s.tio.tout ((a - 0x18) / 4)
    if a % 4 = 0 then t.ctrl else if a % 4 = 1 then BitVec.ofNat 32 t.period
    else if a % 4 = 2 then BitVec.ofNat 32 t.width else BitVec.ofNat 32 t.phase
  else if a = 0x28 then s.tio.ppsCtrl
  else if a = 0x29 then s.tio.ppsComp.setWidth 32
  else if a = 0x2A then s.tio.freqCtrl
  else if a = 0x2B then s.tio.ppsOffset
  else if a = 0x2C then BitVec.ofNat 32 (dsDelay s)
  else if a = 0x2D then BitVec.ofNat 32 (s.time.rtt % 2 ^ 28)
  else if a = 0x2E then BitVec.ofNat 32 (unsigned 32 s.time.asym)
  else if a = 0x2F then BitVec.ofNat 32 s.time.alpha
  else 0

/-! ### Bodies of the time commands (Table 2-7) -/

/-- time.status. -/
def doTimeStatus : Body := fun s =>
  okData [servoCode s.time.servo, (timeValid s).toNat, s.time.dDown.isSome.toNat, errEst s, dsDelay s, s.time.rtt,
    unsigned 32 s.time.asym, s.time.alpha, (s.time.carrier.map (· + 1)).getD 0] s

/-- time.capture: pops up to `max` entries of an input (R44). -/
def doTimeCapture (input max : Nat) : Body :=
  require (decide (input < 4 ∧ 1 ≤ max ∧ max ≤ 16)) .paramRange fun s =>
    let c := Tbl.get {} s.tio.cap input
    let got := c.fifo.take max
    let s' := iter (popCap input) got.length s
    okData ((got.map fun e => [secOf e.time, nsOf e.time, fracOf e.time, e.gap.toNat, e.valid.toNat]).flatten ++
      [c.lost]) s'

/-- time.capture.config. -/
def doTimeCaptureConfig (input : Nat) (enable falling : Bool) : Body :=
  require (decide (input < 4)) .paramRange fun s =>
    okNone (modCap input (fun c => { c with en := enable, falling := falling }) s)

/-- time.output.set (R40, R43): a TOUT setting that breaks R40 is taken and shows CFG_ERR. -/
def doTimeOutputSet (p : OutputParams) : Body := fun s =>
  let thr (s : State) : State := match p.threshold with
    | none => s
    | some t => { s with tio := { s.tio with ppsThreshold := t } }
  match p.out with
  | .pps => require (decide (100 ≤ p.width ∧ p.width ≤ 500000000)) .paramRange (fun s =>
      let s := thr { s with tio := { s.tio with
        ppsEn := p.enable, ppsLow := p.activeLow, ppsWidth := p.width, ppsComp := p.comp } }
      okData [s.tio.ppsCtrl.toNat] s) s
  | .freq =>
    let s := thr { s with tio := { s.tio with freqEn := p.enable } }
    okData [s.tio.freqCtrl.toNat] s
  | .tout n =>
    require (decide (n < 4 ∧ p.mode < 4 ∧ p.period < 2 ^ 32 ∧ p.width < 2 ^ 32 ∧ p.phase < 2 ^ 32)) .paramRange
      (fun s =>
        let t : Tout := {
          en := p.enable, low := p.activeLow, mode := p.mode, period := p.period, width := p.width, phase := p.phase }
        okData [t.ctrl.toNat] (thr (modTout n (fun _ => t) s))) s

/-- time.split.set (R30). -/
def doTimeSplitSet (alpha : Nat) : Body :=
  require (decide (0x4000 ≤ alpha ∧ alpha ≤ 0xC000)) .paramRange fun s =>
    okData [alpha] (rerange { s with time := { s.time with alpha := alpha } })

/-- time.asymmetry.set (R30): with the clear flag the announced value applies again from the next superframe. -/
def doTimeAsymmetrySet (a : Int) (clear : Bool) : Body := fun s =>
  if clear then okData [unsigned 32 s.time.asym] { s with time := { s.time with asymOvr := false } }
  else require (decide (-(2 : Int) ^ 31 ≤ a ∧ a < (2 : Int) ^ 31)) .paramRange (fun s =>
    okData [unsigned 32 a] (rerange { s with time := { s.time with asym := a, asymOvr := true } })) s

/-- time.holdover.set (R34): a limit set while E(t) runs takes effect at once. -/
def doTimeHoldoverSet (y d limit : Nat) (squelch : Bool) : Body := fun s =>
  let s := { s with time := { s.time with y := y, drift := d, limit := limit, squelch := squelch } }
  if s.time.holdover.isSome then
    let b := holdoverBeyond s
    let s := { s with time := { s.time with beyond := b } }
    okNone (if b then raise 0x2C s else s)
  else okNone s

/-- time.ptp.set (R42). -/
def doTimePtpSet (port : Nat) (enable : Bool) (domain : Nat) (altAddr twoStep : Bool) : Body := fun s =>
  require (s.hasPort port) (s.noUnit port 32) (
    require (decide (24 ≤ domain ∧ domain ≤ 43)) .paramRange fun s =>
      okNone { s with tio := { s.tio with ptp := Tbl.modify {} s.tio.ptp port fun v =>
        { v with en := enable, domain := domain, altAddr := altAddr, twoStep := twoStep } } }) s

/-- time.synce.set (R41). -/
def doTimeSynceSet (port : Nat) (enable : Bool) (qlTrack qlHold : Nat) : Body := fun s =>
  require (s.hasPort port) (s.noUnit port 32) (
    require (decide (qlTrack < 16 ∧ qlHold < 16)) .paramRange fun s =>
      okNone { s with tio := { s.tio with
        synce := Tbl.set {} s.tio.synce port { en := enable, qlTrack := qlTrack, qlHold := qlHold } } }) s

/-- time.carrier.set (R27). -/
def doTimeCarrierSet (carrier : Option Nat) : Body := fun s =>
  match carrier with
  | none => okNone (retime { s with time := { s.time with hostCarrier := none } })
  | some n => require (s.hasCarrier n) (s.noUnit n 4) (fun s =>
      okNone (retime { s with time := { s.time with hostCarrier := some n } })) s

/-! ### Events -/

/-- The clocks advance by one tick of 1.25 ns (R9, R25): the idle step (log entry 10). Local time and the holdover
counter always; outside DOLDRUMS received time with the servo's correction, frozen in FREE, and in a split the
switch die's copy (R23). The time outputs follow (R40, R41). -/
def tickTime (s : State) : State :=
  let s1 := { s with
    clk := { s.clk with now := s.clk.now + tick }, pwr := { s.pwr with holdTime := s.pwr.holdTime + tick } }
  if s.pwr.asleep then holdOutputs s1
  else
    tickOutputs { s1 with time := { s1.time with
      rx := ((s.time.rx : Int) + tick * 65536 + s.time.corr).toNat, copy := s.time.copy.map fun t => t + tick } }

/-- SERVO_TRACK_ENTRY (R32): in ACQUIRE, with stamps arriving, the phase error has stayed under 50 ns for 10 s. -/
def execServoTrackEntry (s : State) : Host.Outcome State Fault Refusal := .next (
  match s.time.servo, s.time.phaseOk with
  | .acquireFree, some t => if stampsLive s && decide (t + sec 10 ≤ s.clk.now) then enterTrack s else s
  | .acquireHoldover, some t => if stampsLive s && decide (t + sec 10 ≤ s.clk.now) then enterTrack s else s
  | _, _ => s)

/-- SERVO_STAMP_TIMEOUT (R27, R32): no authenticated stamps for more than 50 ms. -/
def execServoStampTimeout (s : State) : Host.Outcome State Fault Refusal := .next (
  match s.time.stampAt with
  | none => s
  | some t =>
    if t + ms 50 < s.clk.now then
      match s.time.servo with
      | .track => enterHoldover s
      | .acquireHoldover => enterHoldover s
      | _ => s
    else s)

/-- HOLDOVER_LIMIT (R34): E(t) rises through the limit in force. -/
def execHoldoverLimit (s : State) : Host.Outcome State Fault Refusal := .next (
  if s.time.holdover.isSome && !s.time.beyond && holdoverBeyond s then
    raise 0x2C { s with time := { s.time with beyond := true } }
  else s)

/-- REFCLK_RECOVERED (R36): REFCLK_156 has been within 20 ppm for 100 ms; the servo may leave FREE. -/
def execRefclkRecovered (s : State) : Host.Outcome State Fault Refusal := .next (
  { s with time := { s.time with refOk := true, refHeld := false } })

/-- TCAP_EDGE (R44): an edge on capture input `n`, `sub` quarter nanoseconds after the last tick. DESIGN CHOICE: an edge whose
stamp a full FIFO discards is an accepted edge, from which the 16 ns count (log entry 47). -/
def execTcapEdge (n : Nat) (falling : Bool) (sub : Nat) (s : State) : Host.Outcome State Fault Refusal := .next (awake s (
  let c := Tbl.get {} s.tio.cap n
  let at_ := s.clk.now + sub * quarter
  if !c.en || c.falling != falling || decide (4 ≤ n) then s
  else if (match c.lastEdge with | some e => decide (at_ < e + ns 16) | none => false) then
    modCap n (fun c => { c with lost := satInc 16 c.lost }) s
  else if c.fifo.length ≥ 16 then
    raise 0x28 (setFlag 3 (modCap n (fun c =>
      { c with lost := satInc 16 c.lost, gapNext := true, lastEdge := some at_ }) s))
  else
    let e : CapEntry := { time := lineTime s + sub * quarter, valid := timeValid s, gap := c.gapNext }
    let s' := modCap n (fun c => { c with fifo := c.fifo ++ [e], gapNext := false, lastEdge := some at_ }) s
    syncCap n (if c.fifo.isEmpty then holdRising (0x24 + n) s' else s')))

/-- PPS_IN_EDGE (R43): the offset from the nearest line-time second, in 0.25 ns. -/
def execPpsInEdge (sub : Nat) (s : State) : Host.Outcome State Fault Refusal := .next (awake s (
  let r := (lineTime s + sub * quarter) % sec 1
  let off : Int := if r ≤ sec 1 / 2 then (r : Int) / 16384 else ((r : Int) - sec 1) / 16384
  let s' := { s with tio := { s.tio with ppsOffset := BitVec.ofNat 32 (unsigned 32 off) } }
  if off.natAbs > 4 * s.tio.ppsThreshold then raise 0x2A (setFlag 5 s') else s'))

/-- TIME_OUTPUT_EDGE (R37, R39, R40, R41): the next edge of a running output that has not acted, once line time has reached it. A
step forward leaves every edge that it skips due, in order; one that has acted does not act again after a step backward. -/
def execTimeOutputEdge (o : TimeOut) (s : State) : Host.Outcome State Fault Refusal := .next (
  match nextEdge o s with
  | none => s
  | some (e, active) => if e ≤ lineTime s then driveEdge o e active s else s)

/-- TIME_NOW_LO_READ (R46): the read loads the latch on TP_CLK edge `edge`. -/
def execTimeNowLoRead (edge : Nat) (s : State) : Host.Outcome State Fault Refusal := .next (awake s (
  emit (.read (loWord (lineTime s)))
    { s with tio := { s.tio with latch := lineTime s, latchEdge := some edge } }))

/-- TIME_NOW_HI_READ (R46): TIME_NOW_HI or TIME_NOW_SEC; on one of the 4 edges after a TIME_NOW_LO read it returns
that latch, at any other time it loads a new one. -/
def execTimeNowHiRead (isSec : Bool) (edge : Nat) (s : State) : Host.Outcome State Fault Refusal := .next (awake s (
  let near := match s.tio.latchEdge with | some e => decide (e < edge ∧ edge ≤ e + 4) | none => false
  let t := if near then s.tio.latch else lineTime s
  emit (.read (if isSec then secWord t else hiWord t)) { s with tio := { s.tio with latch := t } }))

/-- TP_WRITE (R45, R47). -/
def execTpWrite (addr : BitVec 6) (v : Word) (s : State) : Host.Outcome State Fault Refusal :=
  .next (awake s (tpReg addr.toNat v s))

/-- TPT_TIME_NOW_LO_READ (R48): loads the mirror's own latch. -/
def execTptTimeNowLoRead (s : State) : Host.Outcome State Fault Refusal := .next (awakeRead s (
  emit (.read (loWord (lineTime s))) { s with tio := { s.tio with mirror := lineTime s } }))

/-- CAP_LO_READ (R44, R48): pops the head entry and returns its nanoseconds; CAPn_HI and CAPn_SEC hold its time until the next
such read. On an empty FIFO the value is not in the manual and is a free value (log entry 3). There are four inputs; another address
is reserved and reads 0 (R8). -/
def execCapLoRead (n : Nat) (s : State) : Host.Outcome State Fault Refusal := .next (awakeRead s (
  if 4 ≤ n then emit (.read 0) s
  else match (Tbl.get {} s.tio.cap n).fifo with
  | [] => let (v, s) := draw s; emit (.read (BitVec.ofNat 32 v)) s
  | e :: _ => emit (.read (loWord e.time)) (modCap n (fun c => { c with shown := e.time }) (popCap n s))))

/-- CAP_LOST_READ (Table 2-6): CAPn_STAT; LOST reads and clears. -/
def execCapLostRead (n : Nat) (s : State) : Host.Outcome State Fault Refusal := .next (awakeRead s (
  if 4 ≤ n then emit (.read 0) s
  else emit (.read (Tbl.get {} s.tio.cap n).stat) (modCap n (fun c => { c with lost := 0 }) s)))

end Sys2Proof.Machine
end

