-- ==== Sys2Proof/Machine/Carriers.lean ====
section
/-! DEFINITION. Line carriers (chapter 03): states, gate drive, front end, monitors, and the carrier commands'
bodies. -/

namespace Sys2Proof.Machine

/-! ### Grants' instants (R28, R88, R91) -/

/-- EqD in force for a grant start (R88): the last accepted update whose G_sw is at or before it. -/
def Carrier.eqdAt (c : Carrier) (start : Instant) : Nat :=
  c.eqdNext.foldl (fun e u => if u.2 ≤ start then u.1 else e) c.eqd

/-- Emission instant in received time (R28): grant start − RTT + receive path delay. -/
def emitOf (s : State) (c : Carrier) (start : Instant) : Int :=
  (start : Int) - (rttOf s (c.eqdAt start) : Int) * 16384 + (c.rxPath : Int) * 16384

/-- The changes of carrier `n`'s configuration that COMMITTED groups hold, with their instants, oldest group first. -/
def committedConfigs (n : Nat) (s : State) : List (Instant × CarrierParams) :=
  (s.groups.filter fun (x : Nat × Group) => x.2.state == .committed).flatMap fun x =>
    x.2.changes.filterMap fun ch => match ch.cmd with
      | .carrierConfig m p => if m = n then some (x.2.eff, p) else none
      | _ => none

/-- The profile of a window of carrier `n` that begins at received time `e` (R73): that of a committed change whose instant it
begins at or after, else the present one. -/
def windowProfile (n : Nat) (e : Instant) (s : State) : Profile :=
  (committedConfigs n s).foldl (fun p x => if (x.1 : Int) ≤ (e : Int) + downDelay s then x.2.profile else p) (s.carrier n).profile

/-- Gate-drive parameters in force for a window that begins at received time `t` (R65). -/
def Carrier.gateAt (c : Carrier) (t : Instant) : GateParams :=
  c.gateWait.foldl (fun g w => if w.from_ ≤ t then w.p else g) c.gate

/-- The carrier with its gate changes taken for a window that begins at `t` (R65). -/
def Carrier.takeGate (c : Carrier) (t : Instant) : Carrier :=
  { c with gate := c.gateAt t, gateWait := c.gateWait.filter fun w => !decide (w.from_ ≤ t) }

/-! ### Front end (R71, Table 3-9) -/

/-- Numbers of the duties of Table 3-9 in a script. -/
def dutyTune : Nat := 0
def dutyFine : Nat := 1
def dutyBias : Nat := 2
def dutyReceiver : Nat := 3
def dutyAlarms : Nat := 4
def dutyOff : Nat := 5

/-- A transfer inside the script's allow-list (R71). -/
def FeScript.allows (f : FeScript) (t : FeTransfer) : Bool :=
  f.allow.any fun a => a.cs == t.cs && a.dev == t.dev && decide (a.regLo ≤ t.reg ∧ t.reg ≤ a.regHi)

/-- A transfer the bus can carry (R70): one of the carrier's three chip selects, 8 to 32 bits. -/
def FeTransfer.ok (t : FeTransfer) : Bool := decide (t.cs < 3 ∧ 8 ≤ t.bits ∧ t.bits ≤ 32)

/-- The transfers of a duty; none outside the allow-list is ever sent (R71). Chip select k of carrier n is pin 3n + k (R70). -/
def runDuty (n d : Nat) (s : State) : State :=
  let f := (s.carrier n).script
  let ts := ((f.duties.filter fun x => x.1 == d).map (·.2)).flatten.filter (FeScript.allows f)
  ts.foldl (fun s t => emit (.frontEnd (3 * n + t.cs) t) s) s

/-- Raise one of carrier `n`'s eight sources (Table 3-11). -/
def raiseCarrier (n k : Nat) (s : State) : State := raise (0x40 + 8 * n + k) s

/-- A front-end fault with its cause (Tables 3-9 and 3-11). -/
def feFault (n : Nat) (why : FaultCause) (s : State) : State :=
  raiseCarrier n 5 (modCarrier n (fun c => { c with lastFault := why }) s)

/-! ### States (R57 to R60) -/

/-- Count grants dropped against a carrier (R60, R99). -/
def countDropped (n k : Nat) (s : State) : State := modCarrier n (fun c => { c with nDropped := c.nDropped + k }) s

/-- Drop every held grant of a carrier, counted against it (R57, R60, R72). -/
def dropHeld (n : Nat) (s : State) : State :=
  modCarrier n (fun c => { c with nDropped := c.nDropped + c.held.length, held := [] }) s

/-- Count cells of a queue discarded with SESSION_END (R269). -/
def countSessionEnd (q k : Nat) (s : State) : State :=
  let s := match s.queue q with
    | some v => setQueue q (some { v with nSession := v.nSession + k }) s
    | none => s
  { s with q := { s.q with nSession := s.q.nSession + k } }

/-- The data cells of drawn bursts that are never emitted are discarded and counted with SESSION_END (R80, R269, log
entry 22). -/
def loseBursts (l : List Burst) (s : State) : State :=
  l.foldl (fun s v =>
    v.traces.foldl (fun s k => traceDrop (some k) s) (v.cells.foldl (fun s x => countSessionEnd x.1 x.2 s) s)) s

/-- Every drawn burst of carrier `n` is never emitted; the remainder that the first of them would have completed is held
again (R113). -/
def discardDrawn (n : Nat) (s : State) : State :=
  match (s.carrier n).drawn with
  | [] => s
  | b :: t => modCarrier n (fun c => { c with drawn := [], remainder := b.remIn, remTrib := b.remTribIn }) (loseBursts (b :: t) s)

/-- The first drawn burst of carrier `n` that satisfies `p` is never emitted. Where it completes or begins a cell that it shares
with its neighbours, the bursts drawn after it go with it, and the remainder it would have completed is held again for the next
burst (R113, log entry 22). -/
def letGo (n : Nat) (p : Burst → Bool) (s : State) : State :=
  let d := (s.carrier n).drawn
  let before := d.takeWhile fun b => !p b
  match d.dropWhile fun b => !p b with
  | [] => s
  | b :: after =>
    if b.remIn.isEmpty && !b.cut then modCarrier n (fun c => { c with drawn := before ++ after }) (loseBursts [b] s)
    else modCarrier n (fun c => { c with drawn := before, remainder := b.remIn, remTrib := b.remTribIn }) (loseBursts (b :: after) s)

/-- A hint held for the carrier's present slot (R59). -/
def Carrier.hasHint (c : Carrier) : Bool :=
  match c.hint, c.slot with | some h, some n => h.1 == n | _, _ => false

/-- The dispersion search of an attempt (Table 3-5, R59): ±2,000 ps/nm around a hint for the present slot, else blind. -/
def Carrier.searchFor (c : Carrier) : Int × Int :=
  match c.hint with
  | some h => if c.hasHint then (max (-90000) (h.2 - 2000), min 90000 (h.2 + 2000)) else (-90000, 90000)
  | none => (-90000, 90000)

/-- A new acquisition attempt starts at step 1 of Table 3-5: nothing is aligned, and the hunt begins again (R58, R103). -/
def Carrier.attempt (c : Carrier) : Carrier := { c with hunt := [], aligned := false, search := c.searchFor }

/-- Carrier `n` enters a state (Table 3-4): the time carrier is chosen again and the power state is named again. -/
def enterCarrier (n : Nat) (st : CarrierState) (s : State) : State :=
  notePower s (retime (modCarrier n (fun c => { c with state := st, since := s.clk.now }) s))

/-- Entry to ACQUIRE: a first attempt starts (R58). -/
def enterAcquire (n : Nat) (s : State) : State :=
  enterCarrier n .acquire (modCarrier n (fun c =>
    { c.attempt with acqFailed := false, attempts := satInc 32 c.attempts, monitor := none }) s)

/-- Entry to LOST (Table 3-4): it relocks with the hint. -/
def enterLost (n : Nat) (s : State) : State :=
  raiseCarrier n 1 (enterCarrier n .lost (modCarrier n (fun c => { c.attempt with misses := 0, relockAt := none }) s))

/-- Entry to MISMATCH (Table 3-4, R58). -/
def enterMismatch (n : Nat) (s : State) : State := raiseCarrier n 6 (enterCarrier n .mismatch s)

/-- Entry to LOCKED: the dispersion measured is the hint (R59), no monitor data until the first full second (R74), and the cells
of the frames lost in a change of symbol rate are counted (R73). -/
def enterLocked (n : Nat) (s : State) : State :=
  raiseCarrier n 0 (enterCarrier n .locked (modCarrier n (fun c =>
    { c with
      misses := 0, acqFailed := false, monitor := none, hint := c.slot.map fun k => (k, c.disp)
      second := secondOf s, whole := false, nUncorr := 0, lostFrom := none
      nLostCells := c.nLostCells + (c.lostFrom.map fun t => (received s - t) / frameTime * Prof.dataCells c.profile).getD 0 }) s))

/-- Entry to OFF (R68, R72): held grants dropped, the front end off, the gate at 0 mA. -/
def turnOff (n : Nat) (s : State) : State :=
  let s := runDuty n dutyOff (dropHeld n (discardDrawn n s))
  enterCarrier n .off (modCarrier n (fun c =>
    { c with disabling := false, monitor := none, laserInhibit := false, biasInhibit := false
             biasFail := 0, biasGood := 0, rxFail := 0, misses := 0, relockAt := none }) s)

/-- carrier.disable and TRIM (R72): the burst in flight finishes, the other held grants are dropped; OFF follows. -/
def startDisable (n : Nat) (s : State) : State :=
  if (s.carrier n).state = .off then s
  else dropHeld n (discardDrawn n (modCarrier n (fun c => { c with disabling := true }) s))

/-- carrier.enable of a carrier in OFF (R72): TUNE, with the laser tuned to the slot centre of R51 and the tune timeout taken
(R73). -/
def startEnable (n : Nat) (s : State) : State :=
  let c := s.carrier n
  runDuty n dutyTune (emit (.tune n (slotGhz c.band (c.slot.getD 0)))
    (enterCarrier n .tune (modCarrier n (fun c => { c with tuneRun := c.tuneTime }) s)))

/-- Upstream of the carrier is inhibited (R52, R67, Table 3-9). -/
def Carrier.inhibited (c : Carrier) : Bool := c.gateInhibit.isSome || c.laserInhibit || c.biasInhibit

/-! ### Gate drive (R65 to R68) -/

/-- Current in 0.1 mA after `k` of the `m` updates of a ramp-up (Table 3-8); between two points of SHAPE_TABLE the lower one holds
(log entry 77). -/
def GateParams.ramped (g : GateParams) (k m : Nat) : Int :=
  let part : Nat := match g.shape with
    | .linear => 4095 * k / max 1 m
    | .raisedCosine => min (Config.raisedCosine k m) 4095
    | .table => g.table.getD (32 * k / max 1 m) 4095
  (g.off : Int) + ((g.on : Int) - g.off) * part / 4095

/-- The envelope of a window at received time `t` (R65): updated every 0.625 ns, advanced by GATE_SKEW, the ramp-down the mirror
of the ramp-up. -/
def GateParams.envelope (g : GateParams) (start end_ t : Instant) : Int :=
  let x : Int := (t : Int) + g.skew * 16384
  if x < start ∨ (end_ : Int) ≤ x then g.off
  else
    let m := g.ramp * 8 / 5
    let up := (x - start).toNat / 40960
    let down := ((end_ : Int) - x).toNat / 40960
    if up < m then GateParams.ramped g up m else if down < m then GateParams.ramped g down m else g.on

/-- The current of GATE_DRV[n] in 0.1 mA at received time `t` (R6, R65, R67, R68, Table 3-4): 0 mA on an absent carrier, in OFF and
TUNE and while the gate hardware has acted; else OFF_CURRENT between windows and the envelope in one, clamped to GATE_CEIL. -/
def gateDrive (n : Nat) (t : Instant) (s : State) : Nat :=
  let c := s.carrier n
  if !s.hasCarrier n || c.state == .off || c.state == .tune || c.gateInhibit.isSome then 0
  else min (GateParams.envelope c.gate c.winStart c.winEnd t).toNat c.ceil

/-- What the gate hardware sees in a sensed current, in 0.1 mA, that has stood for `held` ns (R67): more than GATE_CEIL by over 5 % for
100 ns; above OFF_CURRENT outside the registered window; above OFF_CURRENT for longer than GATE_MAX_ON. -/
def gateAlarm (n sensed held : Nat) (s : State) : Option FaultCause :=
  let c := s.carrier n
  let t : Int := (received s : Int) + c.gate.skew * 16384
  let inside := decide ((c.winStart : Int) ≤ t ∧ t < c.winEnd)
  if decide (c.ceil * 105 < sensed * 100) && decide (100 ≤ held) then some .ceiling
  else if decide (c.gate.off < sensed) && !inside then some .window
  else if decide (c.gate.off < sensed) && decide (1000 * c.gate.maxOn < held) then some .maxOn
  else none

/-! ### Bodies of the carrier commands (Table 3-10) -/

/-- A command that names carrier `n` (R4). -/
def withCarrier (n : Nat) (k : Body) : Body := fun s => require (s.hasCarrier n) (s.noUnit n 4) k s

/-- The ranges of carrier.config (R51, R56, Table 3-4, R74). -/
def carrierParamsOk (p : CarrierParams) : Bool :=
  decide (p.slot < slotCount p.band ∧ p.rxDelay ≤ 400 ∧ p.txDelay ≤ 400 ∧ 1 ≤ p.tuneTime ∧ p.tuneTime ≤ 600 ∧
    100 ≤ p.degrade ∧ p.degrade ≤ 200000)

/-- Another carrier uses the slot, or will use it under a commit group that has passed its check (R11, R264). -/
def slotTaken (n slot : Nat) (s : State) : Bool :=
  s.carrierNums.any (fun m => m != n && (s.carrier m).slot == some slot) ||
    s.groups.any fun (x : Nat × Group) => x.2.state == .committed && x.2.checked && x.2.changes.any fun ch =>
      match ch.cmd with | .carrierConfig m p => m != n && p.slot == slot | _ => false

/-- The configuration names another slot, band or profile than the carrier's (R73). -/
def Carrier.moves (c : Carrier) (p : CarrierParams) : Bool :=
  c.slot != some p.slot || c.band != p.band || c.profile != p.profile

/-- The checks of carrier.config in the order ranges, presence, state (R11, R51, R73). -/
def checkCarrierConfig (n : Nat) (p : CarrierParams) (staged : Bool) (s : State) : Status :=
  if !carrierParamsOk p then .paramRange
  else if !s.hasCarrier n then s.noUnit n 4
  else if slotTaken n p.slot s then .slotDuplicate
  else if !staged && (s.carrier n).moves p && (s.carrier n).state != .off then .carrierNotOff
  else .ok

/-- Move the emission instants of held windows that begin from received time `from_` on (R73). -/
def shiftHeld (from_ : Instant) (d : Int) (c : Carrier) : Carrier :=
  { c with held := c.held.map fun g =>
      if from_ ≤ g.emit then { g with emit := ((g.emit : Int) + d * 16384).toNat } else g }

/-- Take the fields of a configuration. A new slot or band leaves the carrier not ranged, its EqD only a hint; its held and standing
grants, which name windows on the old slot, are dropped and counted (R14, R57, R73). -/
def Carrier.configure (c : Carrier) (p : CarrierParams) : Carrier :=
  let moved := c.slot != some p.slot || c.band != p.band
  let c' := { c with
    slot := some p.slot, band := p.band, profile := p.profile, rxDelay := p.rxDelay, txDelay := p.txDelay
    threshold := p.threshold, tuneTime := p.tuneTime, degrade := p.degrade }
  if moved then
    { c' with
      ranged := false, eqdNext := [], held := [], standing := [], nDropped := c.nDropped + c.held.length + c.standing.length }
  else c'

/-- A discovery window waiting on a carrier whose slot changes is let go (R14, R83). -/
def dropWindow (n : Nat) (s : State) : State :=
  match s.reg.window with
  | some (k, _) => if k = n then { s with reg := { s.reg with window := none } } else s
  | none => s

/-- carrier.config given directly (R73): front-end delays apply to windows that begin at least 1 µs later, and to
d_down under R29. -/
def putCarrierConfig (n : Nat) (p : CarrierParams) (s : State) : State :=
  let c := s.carrier n
  let d : Int := (p.rxDelay : Int) - c.rxDelay
  let s := if c.slot = some p.slot ∧ c.band = p.band then s else dropWindow n s
  let s := setCarrier n (shiftHeld (received s + us 1) d (c.configure p)) s
  if s.time.rangedFrom = some n then rerange s else s

def doCarrierConfig (n : Nat) (p : CarrierParams) : Body := fun s =>
  match checkCarrierConfig n p false s with
  | .ok => okData [bandCode p.band, p.slot, Prof.code p.profile, p.rxDelay, p.txDelay, p.threshold, p.tuneTime,
      p.degrade] (putCarrierConfig n p s)
  | st => fail st s

/-- The windows of held grants that begin at or after a commit instant take the new profile's length (R73). -/
def relength (eff : Instant) (down : Int) (old new : Profile) (l : List Grant) : List Grant :=
  l.map fun g =>
    if (eff : Int) ≤ (g.emit : Int) + down then
      { g with window := g.window + windowLen new 0 g.len - windowLen old 0 g.len }
    else g

/-- Frames whose boundary is before `eff` are still received in the profile that a change replaces (R73). -/
def Carrier.wasIn (c : Carrier) (eff : Instant) : List (Instant × Profile) :=
  (eff, c.profile) :: c.profWas.filter fun x => decide (eff ≤ x.1 + sec 1)

/-- The profile in which a frame with boundary `b` is received (R73). -/
def Carrier.profileFor (c : Carrier) (b : Instant) : Profile :=
  (c.profWas.filter fun (x : Instant × Profile) => decide (b < x.1)).foldl (fun _ x => x.2) c.profile

/-- A staged carrier.config at its commit instant (R73): a profile change that keeps the symbol rate is hitless; another rate
passes through LOST from its first frame on, the round trip following the path delays (log entry 18); a new slot or band
retunes a carrier that is not OFF. -/
def commitCarrierConfig (n : Nat) (eff : Instant) (p : CarrierParams) (s : State) : State :=
  let c := s.carrier n
  if c.state = .off then setCarrier n (c.configure p) (dropWindow n s)
  else if c.slot != some p.slot || c.band != p.band then
    startEnable n (modCarrier n (fun c => c.configure p) (dropWindow n (discardDrawn n s)))
  else
    let turn := fun (c : Carrier) => { c with
      profWas := c.wasIn eff, held := relength eff (downDelay s) c.profile p.profile c.held }
    if c.profile = p.profile then putCarrierConfig n p s
    else if Prof.rate c.profile = Prof.rate p.profile then putCarrierConfig n p (modCarrier n turn s)
    else
      let dRx : Int := (Prof.rxPath p.profile : Int) - Prof.rxPath c.profile
      let dTx : Int := (Prof.txPath p.profile : Int) - Prof.txPath c.profile
      let move (e : Nat) : Nat := ((e : Int) - dRx - dTx).toNat
      let s := modCarrier n (fun c => shiftHeld 0 (-dTx)
        { turn c with
          profile := p.profile, eqd := move c.eqd, eqdNext := c.eqdNext.map fun u => (move u.1, u.2)
          relockAt := if c.state = .locked then some eff else none }) s
      let s := if s.time.rangedFrom = some n then
          { s with time := { s.time with rtt := ((s.time.rtt : Int) + dRx + dTx).toNat } } else s
      putCarrierConfig n p s

/-- carrier.enable (R67, R72, R356). The self-test of an inhibited gate passes or fails as the hardware stands: a
free value (log entry 3). The MODEL'S CHOICE (log entry 78): on an inhibited carrier with no slot R356's NOT_CONFIGURED comes
before R67's self-test. -/
def doCarrierEnable (n : Nat) : Body := withCarrier n fun s =>
  let c := s.carrier n
  require c.slot.isSome .notConfigured (fun s =>
    match c.gateInhibit with
    | some why =>
      let (v, s) := draw s
      if v % 2 = 0 then
        okData [carrierCode c.state]
          (modCarrier n (fun c => { c with gateInhibit := none, clearAt := received s }) s)
      else (some { status := .gateTestFail },
        raiseCarrier n 4 (modCarrier n (fun c => { c with lastFault := why }) s))
    | none =>
      if c.state = .off then okData [carrierCode .tune] (startEnable n s)
      else okData [carrierCode c.state] s) s

/-- carrier.disable (R72). -/
def doCarrierDisable (n : Nat) : Body := withCarrier n fun s =>
  okData [carrierCode (s.carrier n).state] (startDisable n s)

/-- carrier.status. -/
def doCarrierStatus (n : Nat) : Body := withCarrier n fun s =>
  let c := s.carrier n
  okData [carrierCode c.state, (c.slot.map (· + 1)).getD 0, Prof.code c.profile, c.hasHint.toNat,
    causeCode c.lastFault, c.nDropped, c.attempts] s

/-- Points of a SHAPE_TABLE do not decrease (R65). -/
def rising : List Nat → Bool
  | [] => true
  | [_] => true
  | a :: b :: t => decide (a ≤ b) && rising (b :: t)

/-- The ranges of Table 3-8. -/
def gateParamsOk (g : GateParams) (ceil : Nat) : Bool :=
  decide (g.on ≤ ceil ∧ g.off ≤ 200 ∧ g.off ≤ ceil ∧ 20 ≤ g.ramp ∧ g.ramp ≤ 200 ∧ -80 ≤ g.skew ∧ g.skew ≤ 80 ∧
    1 ≤ g.maxOn ∧ g.maxOn ≤ 125) && g.table.all (fun x => decide (x ≤ 4095)) && rising g.table &&
    (g.table.isEmpty || decide (g.table.length = 32))

def checkCarrierGateSet (n : Nat) (p : GateParams) (s : State) : Status :=
  if !s.hasCarrier n then s.noUnit n 4
  else if !gateParamsOk p (s.carrier n).ceil then .paramRange
  else .ok

/-- Currents no higher than a ceiling (R66). -/
def GateParams.low (g : GateParams) (ceil : Nat) : GateParams := { g with on := min g.on ceil, off := min g.off ceil }

/-- carrier.gate.set for windows that begin at received time `from_` or later (R65): a SHAPE_TABLE left out stays, and a staged
set is held to the ceiling of its instant (R66). -/
def putCarrierGate (n : Nat) (from_ : Instant) (p : GateParams) (s : State) : State :=
  modCarrier n (fun c =>
    let last := (c.gateWait.getLast?.map (·.p)).getD c.gate
    let g := GateParams.low { p with table := if p.table.isEmpty then last.table else p.table } c.ceil
    { c with gateWait := c.gateWait ++ [{ from_ := from_, p := g }] }) s

/-- The parameters of Table 3-8 in a reply. -/
def GateParams.words (g : GateParams) : List Nat :=
  [g.on, g.off, g.ramp, shapeCode g.shape] ++ g.table ++ [unsigned 16 g.skew, g.maxOn]

/-- carrier.gate.set: the reply carries what is in force at that moment (R65, R75). -/
def doCarrierGateSet (n : Nat) (p : GateParams) : Body := fun s =>
  match checkCarrierGateSet n p s with
  | .ok => okData (GateParams.words ((s.carrier n).gateAt (received s))) (putCarrierGate n (received s + us 1) p s)
  | st => fail st s

/-- carrier.gate.ceiling (R66): only in OFF; a lower ceiling lowers the currents. -/
def doCarrierGateCeiling (n ceil : Nat) : Body := withCarrier n <|
  require (decide (ceil ≤ 4000)) .paramRange fun s =>
    require ((s.carrier n).state == .off) .carrierNotOff (fun s =>
      okData [ceil] (modCarrier n (fun c =>
        { c with ceil := ceil, gate := GateParams.low c.gate ceil
                 gateWait := c.gateWait.map fun w => { w with p := GateParams.low w.p ceil } }) s)) s

/-- carrier.fe.load (R70, R71): every transfer must be one the bus can carry; the checksum's rule is not in the manual. -/
def doCarrierFeLoad (n : Nat) (script : FeScript) : Body := withCarrier n <|
  require (script.duties.all fun d => d.2.all FeTransfer.ok) .paramRange fun s => okData [script.len, Config.checksum [script.len, script.duties.length, script.allow.length]]
    (modCarrier n (fun c => { c with script := script }) s)

/-- carrier.fe.access (R71): only in OFF, never outside the allow-list; the data is the part's. -/
def doCarrierFeAccess (n : Nat) (t : FeTransfer) : Body := withCarrier n <|
  require (FeTransfer.ok t) .paramRange fun s =>
    require ((s.carrier n).state == .off) .carrierNotOff (fun s =>
      require (FeScript.allows (s.carrier n).script t) .paramRange (fun s =>
        let k := s.clk.draws
        okData [Config.frontEndData k] (emit (.frontEnd (3 * n + t.cs) t) { s with clk := { s.clk with draws := k + 1 } })) s) s

/-- carrier.monitor (R74): 0xFFFF, "no data", until the first full second in LOCKED. -/
def doCarrierMonitor (n : Nat) : Body := withCarrier n fun s =>
  match (s.carrier n).monitor with
  | none => okData (List.replicate 11 0xFFFF) s
  | some m => okData [m.preFec, m.corrected, m.uncorr, m.iters, m.snr, unsigned 32 m.disp, m.dgd,
      unsigned 16 m.freqOff, unsigned 16 m.laserOff, unsigned 16 m.rxPower, m.gateCur] s

/-- carrier.hint.clear (R59). -/
def doCarrierHintClear (n : Nat) : Body := withCarrier n fun s =>
  okNone (modCarrier n (fun c => { c with hint := none }) s)

/-! ### Events -/

/-- TUNE_COMPLETE (Table 3-4): the laser reports lock at the slot centre. -/
def execTuneComplete (n : Nat) (s : State) : Host.Outcome State Fault Refusal := .next (
  if (s.carrier n).state = .tune then enterAcquire n s else s)

/-- TUNE_TIMEOUT (Table 3-4): OFF with carrier.fe_fault after the tune timeout. -/
def execTuneTimeout (n : Nat) (s : State) : Host.Outcome State Fault Refusal := .next (
  let c := s.carrier n
  if c.state = .tune ∧ c.since + sec c.tuneRun ≤ s.clk.now then feFault n .tuneTimeout (turnOff n s) else s)

/-- The slot-plan check (R58): SLOT, profile and BAND are the carrier's, the profile that of the frame. -/
def planMatches (c : Carrier) (p : Profile) (o : List Byte) : Bool :=
  c.slot == some (Ovh.slot o) && Prof.code p == Ovh.profile o && (Ovh.bandBit o == (c.band == .cl))

/-- CARRIER_LOCKED (R58, R59, Table 3-5): the steps of acquisition, or of a hinted relock, have passed: received power above the
threshold, the dispersion inside the compensator's range, alignment found by the hunt, and two frames decoded. The slot-plan check
of the two frames' overheads then decides between LOCKED and MISMATCH; a relock makes it too (log entry 79). -/
def execCarrierLocked (n power : Nat) (dispersion : Int) (first second : List Byte) (s : State) :
    Host.Outcome State Fault Refusal := .next (
  let c := s.carrier n
  if (c.state = .acquire ∨ c.state = .lost) ∧ !c.disabling ∧ c.threshold < power ∧ dispersion.natAbs ≤ 90000 ∧ c.aligned then
    let s := modCarrier n (fun c => { c with disp := dispersion }) s
    if planMatches c c.profile first && planMatches c c.profile second then enterLocked n s else enterMismatch n s
  else s)

/-- ACQ_TIMEOUT (R58): an attempt fails and starts again at step 1; the first after entry to ACQUIRE raises
carrier.acq_timeout. -/
def execAcqTimeout (n : Nat) (s : State) : Host.Outcome State Fault Refusal := .next (
  let c := s.carrier n
  if c.state = .acquire then
    let s' := modCarrier n (fun c => { c.attempt with acqFailed := true, attempts := satInc 32 c.attempts }) s
    if c.acqFailed then s' else raiseCarrier n 7 s'
  else s)

/-- CARRIER_LOST (Table 3-4): the received power is below the signal threshold. -/
def execCarrierLost (n power : Nat) (s : State) : Host.Outcome State Fault Refusal := .next (
  let c := s.carrier n
  if (c.state = .locked ∨ c.state = .mismatch) ∧ power < c.threshold then enterLost n s else s)

/-- LOST_TIMEOUT (R60): 50 ms in LOST; held grants are dropped, the carrier falls back to ACQUIRE. -/
def execLostTimeout (n : Nat) (s : State) : Host.Outcome State Fault Refusal := .next (
  let c := s.carrier n
  if c.state = .lost ∧ c.since + ms 50 ≤ s.clk.now then enterAcquire n (dropHeld n (discardDrawn n s)) else s)

/-- LASER_FINE_TUNE (R52): the offset read every 10 ms; outside ±200 MHz the carrier emits nothing. -/
def execLaserFineTune (n : Nat) (offsetMhz : Int) (s : State) : Host.Outcome State Fault Refusal := .next (
  let c := s.carrier n
  if c.state = .locked ∨ c.state = .lost then
    let out := decide (200 < offsetMhz.natAbs)
    let s' := modCarrier n (fun c => { c with laserOff := offsetMhz, laserInhibit := out }) (runDuty n dutyFine s)
    if out && !c.laserInhibit then feFault n .laserOffset s' else s'
  else s)

/-- FE_DUTY (Table 3-9): a bias loop step, a receiver read or an alarm read of a carrier that is not OFF. -/
def execFeDuty (n : Nat) (d : FeDuty) (ok : Bool) (alarms : BitVec 16) (s : State) :
    Host.Outcome State Fault Refusal := .next (
  let c := s.carrier n
  if c.state = .off then s
  else match d with
    | .bias =>
      let s := runDuty n dutyBias s
      if ok then
        let g := satInc 8 c.biasGood
        let clear := c.biasInhibit && decide (16 ≤ g)
        modCarrier n (fun c => { c with
          biasGood := g, biasFail := 0, biasInhibit := c.biasInhibit && !clear
          clearAt := if clear then received s else c.clearAt }) s
      else
        let f := satInc 8 c.biasFail
        let s := modCarrier n (fun c =>
          { c with biasFail := f, biasGood := 0, biasInhibit := c.biasInhibit || decide (16 ≤ f) }) s
        if f = 16 then feFault n .bias s else s
    | .receiver =>
      let s := runDuty n dutyReceiver s
      let f := if ok then 0 else satInc 8 c.rxFail
      let s := modCarrier n (fun c => { c with rxFail := f }) s
      if f = 16 then feFault n .rx s else s
    | .alarms =>
      let s := modCarrier n (fun c => { c with alarms := alarms }) (runDuty n dutyAlarms s)
      if alarms = 0 then s else feFault n .alarm s)

/-- SPI_TIMEOUT (R70, R71, Table 3-9): a transfer of a duty gets no acknowledgement in 1 ms, is sent once more and gets none again:
carrier.fe_fault. A transfer of the laser and driver off duty that fails is what carrier.status records. -/
def execSpiTimeout (n duty : Nat) (t : FeTransfer) (s : State) : Host.Outcome State Fault Refusal := .next (
  if s.hasCarrier n && FeScript.allows (s.carrier n).script t then
    feFault n (if duty = dutyOff then .shutdown else .spiTimeout) (emit (.frontEnd (3 * n + t.cs) t) s)
  else s)

/-- GATE_FAULT (R67): the gate hardware sees what `gateAlarm` names and forces 0 mA; the burst in flight is cut without a
ramp-down, the carrier's upstream inhibited. -/
def execGateFault (n sensed held : Nat) (s : State) : Host.Outcome State Fault Refusal := .next (
  match (if s.hasCarrier n then gateAlarm n sensed held s else none) with
  | none => s
  | some cause =>
    let s := discardDrawn n s
    let s := if received s < (s.carrier n).winEnd then emit (.gateStop n false) s else s
    raiseCarrier n 4 (modCarrier n (fun c =>
      { c with winEnd := min c.winEnd (received s), gateInhibit := some cause, lastFault := cause }) s))

/-- CARRIER_SECOND (R74, R355): a second has ended. For a carrier LOCKED for all of it the monitor shows its values, the degrade
threshold that held in it is compared, with its 10 % release, and the dispersion measured is the hint (R59). -/
def execCarrierSecond (n : Nat) (m : MonitorSample) (s : State) : Host.Outcome State Fault Refusal := .next (
  let c := s.carrier n
  if c.state = .locked ∧ c.second ≠ secondOf s then
    let next := fun (c : Carrier) =>
      { c with second := secondOf s, whole := true, nUncorr := 0, degradeRun := c.degrade
               disp := m.disp, hint := c.slot.map fun k => (k, m.disp) }
    if c.whole then
      let up := decide (c.degradeRun < m.preFec) && !c.degraded
      let down := decide (m.preFec * 10 < c.degradeRun * 9)
      let s' := modCarrier n (fun c => next { c with
        monitor := some { m with uncorr := c.nUncorr }, degraded := (c.degraded || up) && !down }) s
      if up then raiseCarrier n 2 s' else s'
    else modCarrier n next s
  else s)

/-- CARRIER_DISABLE_COMPLETE (R72): the burst in flight has ended with its ramp-down; the front end goes off and the carrier OFF. -/
def execCarrierDisableComplete (n : Nat) (s : State) : Host.Outcome State Fault Refusal := .next (
  if (s.carrier n).disabling ∧ (s.carrier n).winEnd ≤ received s then turnOff n s else s)

end Sys2Proof.Machine
end

