-- ==== Sys2Proof/Machine/Registration.lean ====
section
/-! DEFINITION. Registration, ranging and grants (chapter 04): the registration states and their evaluation,
superframes and messages, grant maps, gusts, and the registration commands' bodies. -/

namespace Sys2Proof.Machine

/-! ### Leaving OPERATING and ending a session (R79, R80, R113, R269) -/

/-- Discard the undrawn cells of every packet that has begun on a carrier, counted with SESSION_END (R269). -/
def dropBegunIn (q : Nat) (s : State) : State :=
  match s.queue q with
  | none => s
  | some v =>
    let begun := (v.lists.map fun (x : Nat × List QPkt) => x.2.filter fun p => decide (0 < p.drawn)).flatten
    let gone := begun.foldl (fun a p => a + p.left) 0
    let lists := (v.lists.map fun (x : Nat × List QPkt) => (x.1, x.2.filter fun p => p.drawn == 0)).filter
      fun (x : Nat × List QPkt) => !x.2.isEmpty
    let s := countSessionEnd q gone (setQueue q (some { v with lists := lists }) s)
    begun.foldl (fun s p => dropQ p s) (freeCells gone s)

/-- What every exit from OPERATING does on one carrier (R80, R113): a burst in flight finishes, a drawn one and
every held and standing grant are discarded, a held remainder is discarded and counted. -/
def exitCarrier (n : Nat) (s : State) : State :=
  modCarrier n (fun c => { c with
    nDiscarded := c.nDiscarded + c.held.length + c.standing.length, held := [], standing := []
    nRemainder := c.nRemainder + (if c.remainder.isEmpty then 0 else 1), remainder := [], remTrib := none })
    (discardDrawn n s)

/-- Every exit from OPERATING (R80, R269). -/
def exitOperating (s : State) : State :=
  if s.reg.state = .operating then
    forEach (Tbl.keys s.q.tab) dropBegunIn (forEach s.carrierNums exitCarrier s)
  else s

/-- The search hint a session leaves (R79): the last EqD of a ranged carrier, with its slot. -/
def Carrier.lastHint (c : Carrier) : Option (Nat × Nat) :=
  if c.ranged then c.slot.map (fun k => (k, c.lastEqd)) else c.eqdHint

/-- End the session (R79): number, equalisation delays, line control key and session epoch go; each carrier keeps
its last EqD only as a search hint; forecast history ends (R94). -/
def endSession (s : State) : State :=
  let s := forEach s.carrierNums (fun n => modCarrier n fun c => { c with
    eqdHint := c.lastHint
    ranged := false, eqdNext := [], held := [], standing := [], fc := [], confident := false, mapWait := []
    nDiscarded := c.nDiscarded + c.held.length + c.standing.length }) s
  { s with reg := { s.reg with
    session := false, number := none, epoch := 0, lastNumber := s.reg.number.or s.reg.lastNumber, head := none
    key := none, keyNext := none, keyExpired := false, assigned := none, confirmed := none, resumeFrom := none } }

/-- Enter a registration state: where it changes reg.state is raised, with reg.operating or reg.holdover (Table 4-10). -/
def enterReg (st : RegState) (s : State) : State :=
  if s.reg.state = st then s else
  let s := raise 0x60 { s with reg := { s.reg with state := st } }
  match st with
  | .operating => raise 0x61 s
  | .holdover => raise 0x62 s
  | _ => s

/-- Entry to LISTEN or OFF (R79, R80). -/
def leaveTo (st : RegState) (s : State) : State := enterReg st (endSession (exitOperating s))

/-- Entry to DISCOVER: a new stay, with no gust sent yet (R82 to R84). -/
def enterDiscover (s : State) : State :=
  enterReg .discover { s with reg := { s.reg with
    attempt := 0, unanswered := 0, backoff := 0, window := none, gust := none, nonce := none, assigned := none
    confirmed := none, listenAt := some s.clk.now } }

/-- The queues of a class exist (R94). -/
def classHasQueue (c : Nat) (s : State) : Bool :=
  s.q.tab.any fun x => match x.2 with | some q => q.cls == c | none => false

/-- Start a class's arrival history on every carrier (R94); with the first class's history, CONF may rise above 0 anew
(Table 4-10). -/
def startHistory (c : Nat) (s : State) : State :=
  forEach s.carrierNums (fun n => modCarrier n fun v =>
    { v with
      fc := Tbl.set {} v.fc c { on := true, since := lineTime s }
      confident := v.confident && v.fc.any fun (x : Nat × Forecast) => x.1 != c && x.2.on }) s

/-- Entry to OPERATING from RANGING: a session begins (R79, R94, R96, R105). -/
def beginSession (s : State) : State :=
  let num := s.reg.assigned.map (·.1)
  let changed := match s.reg.lastNumber, num with | some a, some b => a != b | _, _ => false
  let s := { s with reg := { s.reg with
    session := true, number := num, tagAt := some s.clk.now, confirmed := none, assigned := none
    head := s.reg.lastSf.map (·.2), resumeFrom := none, keyExpired := false } }
  let s := forEach s.carrierNums (fun n => modCarrier n fun c => { c with burstSeq := 0, confident := false, discarding := 0 }) s
  let s := forEach ((List.range 8).filter fun c => classHasQueue c s) startHistory s
  let s := if changed then raise 0x68 s else s
  enterReg .operating s

/-! ### Evaluation (R78, Table 4-2) -/

/-- The LISTEN conditions (Table 4-2). -/
def listenOk (s : State) : Bool :=
  s.carrierNums.any (fun n => (s.carrier n).state == .locked) &&
    (match s.reg.acceptAt with | some t => decide (s.clk.now ≤ t + ms 50) | none => false) &&
    s.time.servo == .track

/-- For 50 ms only refused heads' superframes have verified (R97). -/
def onlyRefused (s : State) : Bool :=
  (match s.reg.refusedSince with | some t => decide (t + ms 50 ≤ s.clk.now) | none => false) &&
    (match s.reg.refusedAt with | some t => decide (s.clk.now ≤ t + ms 50) | none => false)

/-- T_RESUME has passed since the first frame that passed its tag again (R78). -/
def resumeOver (s : State) : Bool :=
  match s.reg.resumeFrom with
  | some t => decide (t + ms s.reg.tResume ≤ s.clk.now)
  | none => false

/-- 2 s have passed since RANGE_ASSIGN without a valid REG_CONFIRM. -/
def rangingOver (s : State) : Bool :=
  s.reg.confirmed.isNone && match s.reg.assigned with
    | some (_, t) => decide (t + sec 2 ≤ s.clk.now) | none => true

/-- A superframe boundary has passed, in received time, since the REG_CONFIRM verified. -/
def boundaryPassed (s : State) : Bool :=
  match s.reg.confirmed with
  | some t => decide (t / superTime < received s / superTime)
  | none => false

/-- The transition of Table 4-2 that holds now, the earlier row first. -/
def regTransition (s : State) : State :=
  let r := s.reg
  if r.state = .off then s
  else if r.epochRose then leaveTo .listen s
  else if onlyRefused s && r.state != .fenced then enterReg .fenced (exitOperating s)
  else match r.state with
    | .off => s
    | .operating =>
      if (match r.tagAt with | some t => decide (t + ms 50 < s.clk.now) | none => true) || r.servoFell then
        enterReg .holdover { exitOperating s with reg := { (exitOperating s).reg with resumeFrom := none } }
      else if r.deregister then leaveTo .listen s
      else s
    | .listen => if listenOk s then enterDiscover s else s
    | .discover =>
      if r.assigned.isSome then enterReg .ranging s
      else if (match r.listenAt with | some t => decide (t + ms 50 ≤ s.clk.now) | none => true) then leaveTo .listen s
      else s
    | .ranging =>
      if r.confirmed.isSome then (if boundaryPassed s then beginSession s else s)
      else if rangingOver s || r.rangeBad || r.sigFailed then enterDiscover s
      else s
    | .holdover =>
      if r.session && r.resumed then
        enterReg .operating { s with reg := { s.reg with tagAt := some s.clk.now, resumeFrom := none } }
      else if r.session && (resumeOver s || r.deregister) then leaveTo .listen s
      else s
    | .fenced =>
      if r.session && r.resumed then
        enterReg .operating { s with reg := { s.reg with tagAt := some s.clk.now, resumeFrom := none } }
      else if r.session && (resumeOver s || r.deregister) then leaveTo .listen s
      else if !r.session && r.acceptNew then leaveTo .listen s
      else s

/-- Conditions arisen since the last evaluation are spent. -/
def clearConditions (s : State) : State :=
  { s with reg := { s.reg with
    deregister := false, sigFailed := false, rangeBad := false, epochRose := false, resumed := false
    acceptNew := false, servoFell := false } }

/-- REG_EVALUATION (R78): once in every frame period. -/
def execRegEvaluation (s : State) : Host.Outcome State Fault Refusal := .next (
  let s := if listenOk s then { s with reg := { s.reg with listenAt := some s.clk.now } } else s
  clearConditions (regTransition s))

/-- RANGING_TIMEOUT (Table 4-2): 2 s after RANGE_ASSIGN without a valid REG_CONFIRM. -/
def execRangingTimeout (s : State) : Host.Outcome State Fault Refusal := .next (
  if s.reg.state = .ranging && rangingOver s then enterDiscover s else s)

/-- T_RESUME (Table 4-2): T_RESUME passes with no RESUME while a session is open. -/
def execTResume (s : State) : Host.Outcome State Fault Refusal := .next (
  if (s.reg.state = .holdover ∨ s.reg.state = .fenced) ∧ s.reg.session ∧ resumeOver s ∧ !s.reg.resumed then
    leaveTo .listen s
  else s)

/-! ### Superframes (R17, R96, R97, R106) -/

/-- A head and epoch that the terminal refuses (R97). -/
def refusedHead (h : Ident) (e : BitVec 32) (s : State) : Bool :=
  decide (e.toNat < s.reg.eMax.toNat) ||
    (e == s.reg.eMax && match s.reg.eMaxHead with | some k => k != h | none => false)

/-- The carrier registration uses (R83): the one the host names, by default the lowest-numbered LOCKED one. -/
def regCarrier (s : State) : Option Nat :=
  match s.reg.carrier with
  | some n => if (s.carrier n).state == .locked then some n else none
  | none => s.carrierNums.find? fun n => (s.carrier n).state == .locked

/-- A superframe of carrier `n` fails its signature or is unverifiable: it sends RANGING back only on the
registration carrier (Table 4-2). -/
def sfFailed (n : Nat) (s : State) : State :=
  if s.reg.state = .ranging && (regCarrier s == some n || s.reg.inUse == some n) then
    { s with reg := { s.reg with sigFailed := true } } else s

/-- A refused head: reg.fenced once for its identity and epoch (R97). -/
def refuseHead (h : Ident) (e : BitVec 32) (s : State) : State :=
  let s := { s with reg := { s.reg with
    fencedSeen := true, refusedAt := some s.clk.now, refusedSince := some (s.reg.refusedSince.getD s.clk.now) } }
  if s.reg.refused.contains (h, e) then s
  else raise 0x63 { s with reg := { s.reg with refused := (h, e) :: s.reg.refused } }

/-- Raise E_max (R96), in OFF too. -/
def raiseEpoch (h : Ident) (e : BitVec 32) (s : State) : State :=
  if s.reg.eMax.toNat < e.toNat then
    raise 0x67 { s with reg := { s.reg with eMax := e, eMaxHead := some h, epochRose := true } }
  else s

/-- The announced values of a verified superframe: T_EQ and HEAD_DELAY, and on the time carrier the asymmetry
constant, which applies while no host override is set (R26, R30). -/
def announce (n : Nat) (a : SfAcc) (s : State) : State :=
  let s := { s with time := { s.time with tEq := a.tEq, headDelay := a.headDelay, utc := a.utc } }
  if s.time.carrier = some n then
    let s := { s with time := { s.time with asymAnn := a.asym } }
    if s.time.asymOvr || s.time.asym == a.asym then s
    else rerange { s with time := { s.time with asym := a.asym } }
  else s

/-- SUPERFRAME_VERIFIED (R106): the signature check of carrier `n`'s complete superframe ends; `signer` is the head
list entry both signatures verify against. -/
def execSuperframeVerified (n : Nat) (signer : Option Ident) (s : State) : Host.Outcome State Fault Refusal := .next (
  match (s.carrier n).sfDone with
  | none => s
  | some a =>
    let s := modCarrier n (fun c => { c with sfDone := none }) s
    if s.reg.heads.isEmpty then s
    else if a.absent || !a.agree then
      sfFailed n (raise 0x80 (modCarrier n (fun c => { c with nSfUnver := c.nSfUnver + 1 }) s))
    else if signer != some a.head || !s.reg.heads.any (fun h => h.ident == a.head) then
      sfFailed n (raise 0x66 (modCarrier n (fun c => { c with nSfBad := c.nSfBad + 1 }) s))
    else
      let s := modCarrier n (fun c => { c with nSfOk := c.nSfOk + 1 }) s
      if refusedHead a.head a.epoch s then refuseHead a.head a.epoch s
      else
        let s := raiseEpoch a.head a.epoch s
        let s := { s with reg := { s.reg with
          acceptAt := some s.clk.now, refusedSince := none, acceptNew := true, lastSf := some (a.epoch, a.head) } }
        let s := announce n a s
        if s.time.carrier = some n then adoptStamps (a.stamps.map fun (stamp, at_) => (stamp : Int) - at_) s else s)

/-! ### Grant maps (R89 to R91) -/

/-- Length of a window of carrier `n` with `len` codewords that begins at received time `e`, with a RAMP of `ramp` ns (Table 3-6). -/
def windowAt (n : Nat) (e : Instant) (ramp len : Nat) (s : State) : Nat := windowLen (windowProfile n e s) ramp len

/-- Two windows overlap; abutting ones do not (R64). -/
def overlaps (a la b lb : Nat) : Bool := decide (a < b + lb ∧ b < a + la)

/-- The emission instant of the k-th coming repetition of a standing grant (R91). -/
def Standing.emitK (s : State) (c : Carrier) (g : Standing) (k : Nat) : Nat :=
  (emitOf s c (g.start + k * g.period * frameTime)).toNat

/-- A window of carrier `n` overlaps a repetition of a standing grant in force. -/
def hitsStanding (s : State) (n : Nat) (c : Carrier) (e w : Nat) (g : Standing) : Bool :=
  let e0 := g.emitK s c 0
  let t := max 1 (g.period * frameTime)
  let k := (e - e0) / t
  [k, k + 1].any fun j => (match g.left with | some l => decide (j < l) | none => true) &&
    overlaps e w (g.emitK s c j) (windowAt n e g.ramp g.len s)

/-- A committed change of profile, slot or band on carrier `n` at an instant inside a window that begins at
received time `e` (R64). The MODEL'S CHOICE (log entry 80): what straddles the instant is the window in the terminal's line time of
emission, not at the line head. -/
def straddles (s : State) (n e w : Nat) : Bool :=
  (committedConfigs n s).any fun x => (s.carrier n).moves x.2 &&
    decide ((e : Int) + downDelay s < x.1 ∧ (x.1 : Int) < e + w + downDelay s)

/-- A grant of the map is counted and reported as line.grant_invalid. -/
def grantInvalid (n : Nat) (s : State) : State :=
  raise 0x6C (modCarrier n (fun c => { c with nInvalid := c.nInvalid + 1 }) s)

/-- A grant of the map is late (R90 step 4). -/
def grantLate (n : Nat) (s : State) : State :=
  raise 0x6B (modCarrier n (fun c => { c with nLate := c.nLate + 1 }) s)

/-- The repetitions of a standing grant that are still to run are over, and the repetition at which its cancel takes effect has
come: its GRANT_ID is free (R91). -/
def Standing.ended (s : State) (c : Carrier) (g : Standing) : Bool :=
  g.cancel && g.left == some 0 && decide (g.emitK s c 0 ≤ received s)

/-- Standing grants whose cancel has taken effect leave the carrier. -/
def purgeStanding (n : Nat) (s : State) : State :=
  let c := s.carrier n
  modCarrier n (fun c0 => { c0 with standing := c.standing.filter fun g => !g.ended s c }) s

/-- A standing grant is cancelled (R91): the repetitions whose emission instant lies before the arrival plus 20 µs still run; a
later one that is drawn already is not emitted. It stays in force, and its GRANT_ID in use, until the repetition at which the
cancel takes effect. -/
def cancelStanding (n id : Nat) (arrival : Instant) (s : State) : State :=
  let c := s.carrier n
  let s' := letGo n (fun b => b.grant.standing == some id && decide (((arrival + us 20 : Nat) : Int) ≤ emitOf s c b.grant.start)) s
  modCarrier n (fun c0 => { c0 with standing := c.standing.map fun g =>
    if g.id ≠ id then g
    else
      let e0 := g.emitK s c 0
      let t := max 1 (g.period * frameTime)
      let k := (arrival + us 20 - e0 + t - 1) / t
      { g with left := some (match g.left with | some l => min l k | none => k), cancel := true } }) s'

/-- A discovery window on carrier `n` (R83): the back-off lets open windows pass; otherwise it waits for its gust on that carrier. -/
def openWindow (n : Nat) (w : Instant) (param : Nat) (s : State) : State :=
  if s.reg.state ≠ .discover ∨ regCarrier s ≠ some n ∨ s.reg.gust.isSome then s
  else if 0 < s.reg.backoff then { s with reg := { s.reg with backoff := s.reg.backoff - 1 } }
  else { s with reg := { s.reg with window := some (n, w, param * 8000) } }

/-- The registration state allows a ranging grant on the carrier (Table 4-1, R87). -/
def rangingAllowed (s : State) (c : Carrier) : Bool :=
  (s.reg.state == .ranging) || (s.reg.state == .discover && s.reg.assigned.isSome) ||
    (s.reg.state == .operating && !c.ranged)

/-- The number a ranging grant may name: the session's, or that of a verified RANGE_ASSIGN (R90). -/
def ownNumber (s : State) : Option Nat := s.reg.number.or (s.reg.assigned.map (·.1))

/-- Accept a grant into the carrier's holding (R90 step 6, R91); a standing grant keeps the RAMP of its acceptance (R63). -/
def holdGrant (n : Nat) (e : MapEntry) (start emit w arrival : Nat) (s : State) : State :=
  if e.type = 3 then
    modCarrier n (fun c => { c with standing := c.standing ++ [{
      id := e.id, start := start, len := e.len, period := e.param, ramp := (c.gateAt emit).ramp
      left := if e.count = 0 then none else some e.count }] }) s
  else
    modCarrier n (fun c => { c with held := c.held ++ [{
      ranging := e.type == 2, id := e.id, start := start, len := e.len, emit := emit, window := w
      arrival := arrival, check := e.param % 2 == 1 }] }) s

/-- Handle one entry of carrier `n`'s grant map in the order of R90. `stamp` is the frame's own line time stamp. -/
def handleEntry (n : Nat) (stamp arrival : Instant) (b : List Byte) (s : State) : State :=
  let e := mapEntry b
  let s := purgeStanding n s
  let c := s.carrier n
  if e.type ≠ 1 ∧ some e.terminal ≠ ownNumber s then s
  else if !(match c.slot with | some k => e.ok k | none => false) then grantInvalid n s
  else
    let start := nearest stamp e.sec16 (ns e.nanos + e.frac)
    if e.type = 1 then openWindow n start e.param s
    else if e.type = 2 && !rangingAllowed s c then grantInvalid n s
    else if e.type ≠ 2 ∧ (s.reg.state ≠ .operating ∨ !c.ranged) then grantInvalid n s
    else if e.type = 3 && e.len == 0 then cancelStanding n e.id arrival s
    else if e.type = 3 && (c.standing.any (fun g => g.id == e.id) || decide (16 ≤ c.standing.length)) then
      grantInvalid n s
    else
      let emit := emitOf s c start
      if emit < arrival + us 20 then grantLate n s
      else
        let em := emit.toNat
        let w := windowAt n em (c.gateAt em).ramp e.len s
        if arrival + ms 64 < em ∨ 16384 ≤ c.held.length then grantInvalid n s
        else if us (c.gateAt em).maxOn < w ∨ (c.held.any fun g => overlaps em w g.emit g.window) ∨
            c.standing.any (hitsStanding s n c em w) ∨ straddles s n em w then grantInvalid n s
        else holdGrant n e start em w arrival s

/-- Handle a whole map in its order. -/
def handleMap (n : Nat) (stamp arrival : Instant) (l : List (List Byte)) (s : State) : State :=
  l.foldl (fun s b => handleEntry n stamp arrival b s) s

/-- Count the entries of a refused map that are addressed to the terminal (R90 step 2). The MODEL'S CHOICE (log entry 75): they count
as invalid in grant.stats, without line.grant_invalid. -/
def countRefused (n : Nat) (l : List (List Byte)) (s : State) : State :=
  let k := (l.filter fun b => decide ((mapEntry b).type ≠ 1 ∧ some (mapEntry b).terminal = ownNumber s)).length
  modCarrier n (fun c => { c with nInvalid := c.nInvalid + k }) s

/-! ### Registration messages (R85 to R88, R98, R107) -/

/-- The carrier tuned to a slot. -/
def slotCarrier (slot : Nat) (s : State) : Option Nat :=
  s.carrierNums.find? fun n => (s.carrier n).slot == some slot

/-- RTT from an EqD is acceptable: 0 < RTT ≤ 40 ms (R86). -/
def eqdOk (s : State) (eqd : Nat) : Bool := decide (eqd < s.time.tEq ∧ s.time.tEq - eqd ≤ 160000000 ∧ eqd < 2 ^ 28)

/-- A head the terminal acts on messages from (R85, R97): in the head list and not refused at the epoch of the message's frame, the
session head in a session, else the head of the last superframe verified from an acceptable head. -/
def headOk (h : Ident) (e : BitVec 32) (s : State) : Bool :=
  s.reg.heads.any (fun x => x.ident == h) && !refusedHead h e s &&
    (if s.reg.session then s.reg.head == some h else (s.reg.lastSf.map (·.2)) == some h)

/-- The oldest complete message of a type that waits on a carrier. -/
def Carrier.message (c : Carrier) (type : Nat) : Option Message := c.msgsDone.find? fun m => m.type == type

/-- What the oldest message of a type on a carrier this variant has passes first (R3, R85, R107): items missing or out of order
discard and count it; a signature that fails raises reg.head_auth_fail, and in RANGING sends the terminal back when the message
is addressed to it; `k` takes the items, and the message, of one that the terminal acts on. `signer` is the head list entry against
which both signatures verify (log entry 5). -/
def receiveMsg (n type : Nat) (signer : Option Ident) (mine : List (List Byte) → Bool)
    (k : List (List Byte) → Message → State → State) (s : State) : State :=
  match (if s.hasCarrier n then (s.carrier n).message type else none) with
  | none => s
  | some m =>
    let s := modCarrier n (fun v => { v with msgsDone := v.msgsDone.erase m }) s
    match messageItems type m.body with
    | none => modCarrier n (fun v => { v with nMsgBad := v.nMsgBad + 1 }) s
    | some l =>
      match signer with
      | none =>
        raise 0x66 (if mine l && s.reg.state == .ranging then { s with reg := { s.reg with sigFailed := true } } else s)
      | some h => if headOk h m.epoch s then k l m s else s

/-- The message's first item is the terminal's number, the session's or the assigned one. -/
def namesUs (s : State) (l : List (List Byte)) : Bool := ownNumber s == some (itemNat l 0)

/-- A refused EqD (R86, R88). -/
def rangeInvalid (s : State) : State :=
  raise 0x65 (if s.reg.state == .ranging then { s with reg := { s.reg with rangeBad := true } } else s)

/-- Handle the map that waited for a RANGE_ASSIGN's check (R90). If the message verified, a ranging grant addressed to the number it
assigns has the end of the check as its arrival; if not, the map is handled without that grant (log entry 81). -/
def releaseMap (n : Nat) (m : Message) (number : Nat) (verified : Bool) (s : State) : State :=
  let mine := (s.carrier n).mapWait.filter fun w => w.msg == m
  let s := modCarrier n (fun c => { c with mapWait := c.mapWait.filter fun w => w.msg != m }) s
  mine.foldl (fun s w => w.entries.foldl (fun s b =>
    if (mapEntry b).type = 2 ∧ (mapEntry b).terminal = number % 64 then
      if verified then handleEntry n w.stamp (received s) b s else s
    else handleEntry n w.stamp w.arrival b s) s) s

/-- The RANGE_ASSIGN carries the last gust's NONCE, or in a session the terminal's own number (R87, R90). -/
def byNonce (s : State) (m : RangeAssignMsg) : Bool := s.reg.nonce == some (BitVec.ofNat 64 m.nonce) && m.nonce != 0
def byNumber (s : State) (m : RangeAssignMsg) : Bool := s.reg.session && s.reg.number == some m.number

/-- A verified RANGE_ASSIGN (R84, R86, R87). -/
def takeAssign (m : RangeAssignMsg) (s : State) : State :=
  match slotCarrier m.slot s with
  | none => s
  | some k =>
    if s.reg.state == .discover && byNonce s m then
      if !eqdOk s m.eqd then rangeInvalid s
      else
        let s := modCarrier k (fun v => { v with eqd := m.eqd, eqdNext := [], ranged := false }) s
        { s with reg := { s.reg with
          assigned := some (m.number % 64, s.clk.now), gust := none, inUse := some k
          assignEpoch := (s.reg.lastSf.map (·.1)).getD 0 } }
    else if s.reg.state == .operating && byNumber s m && !(s.carrier k).ranged then
      if !eqdOk s m.eqd then rangeInvalid s
      else modCarrier k (fun v => { v with eqd := m.eqd, eqdNext := [] }) s
    else s

/-- RANGE_ASSIGN (R84, R85, R87, R90): the signature check of the oldest one on carrier `n` ends. -/
def execRangeAssign (n : Nat) (signer : Option Ident) (s : State) : Host.Outcome State Fault Refusal := .next (
  let mine := fun l => let m := rangeAssignOf l; byNonce s m || byNumber s m
  match (if s.hasCarrier n then (s.carrier n).message 1 else none) with
  | none => s
  | some w =>
    let l := (messageItems 1 w.body).getD []
    let ok := (messageItems 1 w.body).isSome && (match signer with | some h => headOk h w.epoch s | none => false)
    let s := receiveMsg n 1 signer mine (fun l _ => takeAssign (rangeAssignOf l)) s
    releaseMap n w (rangeAssignOf l).number ok s)

/-- Count a carrier as ranged with its EqD; on the time carrier d_down follows at once (R29, R87). -/
def setRanged (k eqd : Nat) (s : State) : State :=
  let s := modCarrier k (fun v => { v with eqd := eqd, eqdNext := [], ranged := true }) s
  if s.time.carrier = some k then rangeFrom k s else s

/-- A verified REG_CONFIRM (R85 to R87): in RANGING it keys the terminal for OPERATING at the next superframe boundary; in
OPERATING it ranges a further carrier. -/
def takeConfirm (m : RegConfirmMsg) (unwraps : Bool) (s : State) : State :=
  match slotCarrier m.slot s with
  | none => s
  | some k =>
    if ownNumber s != some m.number || !unwraps then s
    else if s.reg.state == .ranging && s.reg.confirmed.isNone then
      if !eqdOk s m.eqd then rangeInvalid s
      else
        let s := setRanged k m.eqd s
        let b := (received s / superTime + 1) * superTime
        { s with reg := { s.reg with
          confirmed := some (received s), epoch := m.epoch, key := some { name := m.key, frame := frameCount b, since := b } } }
    else if s.reg.state == .operating && m.epoch == s.reg.epoch then
      if !eqdOk s m.eqd then rangeInvalid s else setRanged k m.eqd s
    else s

/-- REG_CONFIRM (R85): `unwraps` is the key unwrap's verdict. -/
def execRegConfirm (n : Nat) (signer : Option Ident) (unwraps : Bool) (s : State) : Host.Outcome State Fault Refusal :=
  .next (receiveMsg n 2 signer (namesUs s) (fun l _ => takeConfirm (regConfirmOf l) unwraps) s)

/-- Accept a new EqD for grants from `g` on: earlier updates that have taken effect are folded in, and held windows
move with their start (R88). -/
def updateEqd (k eqd : Nat) (g : Instant) (s : State) : State :=
  let c := s.carrier k
  let now := lineTime s
  let later := c.eqdNext.filter fun (u : Nat × Instant) => decide (now < u.2)
  let c1 : Carrier := { c with eqd := c.eqdAt now, eqdNext := later ++ [(eqd, g)] }
  let held := c1.held.map fun (h : Grant) => { h with emit := (emitOf s c1 h.start).toNat }
  setCarrier k { c1 with held := held } s

/-- An EqD under R88 for ranged carrier `k`, with its switch instant: one that changes RTT by more than 10 µs is refused and the old
EqD stays; on the time carrier d_down follows at once (R29). `ok` runs where it is applied. -/
def correctEqd (k eqd : Nat) (gsw : Instant) (ok : State → State) (s : State) : State :=
  let old := (s.carrier k).eqdAt gsw
  if !eqdOk s eqd || decide (40000 < ((eqd : Int) - old).natAbs) then rangeInvalid s
  else
    let s := ok (updateEqd k eqd gsw s)
    if s.time.carrier = some k then
      let s := { s with time := { s.time with rtt := rttOf s eqd, rangedFrom := some k } }
      applyDown s.downNow s
    else s

/-- A verified RANGE_UPDATE (R88). -/
def takeUpdate (m : RangeUpdateMsg) (s : State) : State :=
  match slotCarrier m.slot s with
  | none => s
  | some k =>
    if s.reg.number != some m.number || s.reg.state != .operating || !(s.carrier k).ranged then s
    else correctEqd k m.eqd m.gsw (raise 0x6A) s

/-- RANGE_UPDATE (R88). -/
def execRangeUpdate (n : Nat) (signer : Option Ident) (s : State) : Host.Outcome State Fault Refusal :=
  .next (receiveMsg n 3 signer (namesUs s) (fun l _ => takeUpdate (rangeUpdateOf l)) s)

/-- A verified RESUME (R78, R98): from the session's head and epoch, within T_RESUME, with the ranged carriers' current EqD values,
applied under R88 from the boundary of the frame that completed it. -/
def takeResume (m : ResumeMsg) (boundary : Instant) (s : State) : State :=
  if s.reg.number != some m.number || !s.reg.session || m.epoch != s.reg.epoch ||
      !(s.reg.state == .holdover || s.reg.state == .fenced) || resumeOver s then s
  else if m.pairs.any (fun p => !eqdOk s p.2) then rangeInvalid s
  else
    let s := m.pairs.foldl (fun s p =>
      match slotCarrier p.1 s with
      | some k => if (s.carrier k).ranged then correctEqd k p.2 boundary (fun s => s) s else s
      | none => s) s
    { s with reg := { s.reg with resumed := true } }

/-- RESUME (R98). -/
def execResume (n : Nat) (signer : Option Ident) (s : State) : Host.Outcome State Fault Refusal :=
  .next (receiveMsg n 4 signer (namesUs s) (fun l w => takeResume (resumeOf l) w.stamp) s)

/-- DEREGISTER (Table 4-2). -/
def execDeregister (n : Nat) (signer : Option Ident) (s : State) : Host.Outcome State Fault Refusal :=
  .next (receiveMsg n 5 signer (namesUs s) (fun l _ s =>
    if s.reg.number == some (itemNat l 0) then raise 0x69 { s with reg := { s.reg with deregister := true } } else s) s)

/-- KEY_ROLL (R85): the new key takes effect at the superframe boundary the message names. -/
def execKeyRoll (n : Nat) (signer : Option Ident) (unwraps : Bool) (s : State) : Host.Outcome State Fault Refusal :=
  .next (receiveMsg n 6 signer (namesUs s) (fun l _ s =>
    let m := keyRollOf l
    if s.reg.number == some m.number && s.reg.session && unwraps then
      { s with reg := { s.reg with keyNext := some { name := m.key, frame := m.frame } } }
    else s) s)

/-- MSG_TIMEOUT (R107): a message not complete within 64 frames of its first segment. -/
def execMsgTimeout (n : Nat) (msgId : BitVec 16) (s : State) : Host.Outcome State Fault Refusal := .next (
  if (s.carrier n).msgs.any (fun m => m.msgId == msgId && decide (64 ≤ m.age)) then
    raise 0x82 (modCarrier n (fun c => { c with
      msgs := c.msgs.filter (fun m => m.msgId != msgId), nMsgTimeout := c.nMsgTimeout + 1 }) s)
  else s)

/-! ### Gusts (R81 to R84) -/

/-- The identity digest's first 16 bytes (R82, R215). -/
def identity (s : State) : Ident := BitVec.extractLsb' 256 128 s.sec.digest

/-- The carrier may emit at received time `t`: LOCKED, not inhibited, an inhibit cleared 1 µs before (R52, R67). -/
def Carrier.mayEmit (c : Carrier) (t : Instant) : Bool :=
  c.state == .locked && !c.inhibited && !c.disabling && (c.clearAt == 0 || decide (c.clearAt + us 1 ≤ t))

/-- GUST (R81 to R83): the waiting discovery window is used on its carrier, with a fresh offset R and nonce; the gust, whose segments
leave no codewords, begins at received time W + R. A window whose instant has passed, or on a carrier that may not emit or is no longer
the registration carrier, is let go. The MODEL'S CHOICE (log entry 82): ATTEMPT counts the gust that carries it, so the first of a
stay carries 1. -/
def execGust (s : State) : Host.Outcome State Fault Refusal := .next (
  match s.reg.window with
  | some (n, w, spread) =>
    let (v, s) := draw s
    let (x, s) := draw s
    let r := if spread = 0 then 0 else v % (spread / 1000) * 1000
    let at_ := w + ns r
    let c := s.carrier n
    let s := { s with reg := { s.reg with window := none } }
    if s.reg.state ≠ .discover ∨ regCarrier s ≠ some n ∨ !c.mayEmit at_ ∨ at_ < received s then s
    else
      let nonce := BitVec.ofNat 64 x
      let hint := match c.eqdHint, c.slot with | some h, some k => if h.1 = k then some h.2 else none | _, _ => none
      let g := c.gateAt at_
      let win : Window := { at_ := at_, len := windowAt n at_ g.ramp 0 s, profile := windowProfile n at_ s, gate := g }
      let s := { s with reg := { s.reg with
        attempt := s.reg.attempt + 1, nonce := some nonce, inUse := some n
        gust := some (nonce, s.clk.now + (at_ - received s)) } }
      emit (.gust n win (scramble (gustBytes s.reg.fencedSeen (identity s) nonce r hint (c.slot.getD 0) win.profile g.ramp
        s.variant.carriers s.reg.attempt)))
        (setCarrier n { c.takeGate at_ with winStart := at_, winEnd := at_ + win.len } s)
  | none => s)

/-- GUST_UNANSWERED (R84): no answer within 100 ms of the emission; a back-off is drawn, and the 16th raises
reg.discover_fail. -/
def execGustUnanswered (s : State) : Host.Outcome State Fault Refusal := .next (
  match s.reg.gust with
  | none => s
  | some (_, t) =>
    if t + ms 100 ≤ s.clk.now then
      let (v, s) := draw s
      let u := s.reg.unanswered + 1
      let s := { s with reg := { s.reg with gust := none, unanswered := u, backoff := v % 2 ^ min u 6 } }
      if u = 16 then raise 0x64 s else s
    else s)

/-! ### Bodies of the registration commands (Table 4-9) -/

/-- reg.enable (R95). -/
def doRegEnable : Body := fun s =>
  require (!s.reg.heads.isEmpty) .noHeadList (fun s =>
    if s.reg.state = .off then
      okData [regCode .listen] (enterReg .listen s)
    else okData [regCode s.reg.state] s) s

/-- reg.disable (R78): from any state, to OFF. -/
def doRegDisable : Body := fun s =>
  if s.reg.state = .off then okData [regCode .off] s else okData [regCode .off] (leaveTo .off s)

/-- Index of an identity in the head list, counted from 1, 0 for none. -/
def headIndex (h : Option Ident) (s : State) : Nat :=
  match h with
  | none => 0
  | some i => (((s.reg.heads.map (·.ident)).idxOf i) + 1) % (s.reg.heads.length + 1)

/-- reg.status. -/
def doRegStatus : Body := fun s =>
  okData ([regCode s.reg.state, (s.reg.number.map (· + 1)).getD 0, s.reg.epoch.toNat, s.reg.eMax.toNat,
    headIndex s.reg.head s, s.time.tEq] ++
    (s.carrierNums.map fun n =>
      let c := s.carrier n
      [c.ranged.toNat, c.eqdAt (lineTime s), (c.eqdHint.any fun h => c.slot == some h.1).toNat]).flatten) s

/-- reg.config (R78, R83). -/
def doRegConfig (carrier : Option Nat) (tResume : Nat) : Body := fun s =>
  let put : Body := fun s =>
    okData [(carrier.map (· + 1)).getD 0, tResume] { s with reg := { s.reg with carrier := carrier, tResume := tResume } }
  require (decide (100 ≤ tResume ∧ tResume ≤ 60000)) .paramRange (fun s =>
    match carrier with
    | none => put s
    | some n => withCarrier n put s) s

/-- reg.headlist.set (R95). -/
def doRegHeadlistSet (heads : List Head) : Body :=
  require (decide (heads.length ≤ 8)) .paramRange fun s =>
    okData [heads.length] { s with reg := { s.reg with heads := heads } }

/-- reg.epoch.reset (R97): only in OFF. -/
def doRegEpochReset : Body := fun s =>
  require (s.reg.state == .off) .regNotOff (fun s =>
    okData [0] { s with reg := { s.reg with eMax := 0, eMaxHead := none } }) s

/-- grant.stats. -/
def doGrantStats (n : Nat) : Body := withCarrier n fun s =>
  let c := s.carrier n
  okData [c.held.length, c.nEmitted, c.nLate, c.nInvalid, c.nDropped, c.nDiscarded,
    (c.standing.filter fun g => !g.ended s c).length] s

/-- forecast.config (R93). -/
def doForecastConfig (n a b : Nat) : Body := withCarrier n <|
  require (decide (1 ≤ a ∧ a ≤ 255 ∧ 1 ≤ b ∧ b ≤ 255)) .paramRange fun s =>
    okData [a, b] (modCarrier n (fun c => { c with gainA := a, gainB := b }) s)

/-- forecast.read: the last report sent (Table 4-7). The MODEL'S CHOICE (log entry 83): before any report, OK with empty data. -/
def doForecastRead (n : Nat) : Body := withCarrier n fun s =>
  okData ((s.carrier n).report.map (·.toNat)) s

end Sys2Proof.Machine
end

