-- ==== Sys2Proof/Machine/Downstream.lean ====
section
/-! DEFINITION. Downstream frames (chapter 05): alignment, the overhead and its checks, messages, grant maps, cells,
reassembly, the management channels, the tributary pages, and the commands' bodies of Table 5-7. -/

namespace Sys2Proof.Machine

/-! ### The line control key (R85, R105) -/

/-- FRAME `f` lies at or after `from_` (R12: compared modulo 2^32). -/
def frameAtOrAfter (f from_ : BitVec 32) : Bool := decide ((f - from_).toNat < 2 ^ 31)

/-- The frame count of the received time now. -/
def frameNow (s : State) : BitVec 32 := frameCount (received s)

/-- A rolled key takes effect from the superframe boundary it names (R85): BURST_SEQ starts again (R112). -/
def rollKey (s : State) : State :=
  match s.reg.keyNext with
  | none => s
  | some k =>
    if frameAtOrAfter (frameNow s) k.frame then
      forEach s.carrierNums (fun n => modCarrier n fun c => { c with burstSeq := 0 })
        { s with reg := { s.reg with
          key := some { k with since := received s / frameTime * frameTime - (frameNow s - k.frame).toNat * frameTime }
          keyNext := none, keyExpired := false } }
    else s

/-- 2^31 frames have passed since the line control key took effect (R105). -/
def keyAged (s : State) : Bool :=
  match s.reg.key with
  | none => true
  | some k => decide (k.since + 2 ^ 31 * frameTime ≤ received s)

/-- Every tag under the line control key counts as failed: it has aged, or a carrier's BURST_SEQ has reached its end
(R105). -/
def keyUsedUp (s : State) : Bool := keyAged s || s.carrierNums.any fun n => (s.carrier n).burstSeq == 0xFFFFFFFF

/-- Raise frame.key_expired once for a key that is used up (R105). -/
def noteKey (s : State) : State :=
  if s.reg.session && keyUsedUp s && !s.reg.keyExpired then
    raise 0x81 { s with reg := { s.reg with keyExpired := true } } else s

/-! ### Superframes (R106) -/

/-- Take a present overhead into the running superframe; `use` while R105 does not treat it as absent. Its position is FRAME modulo
64. The MODEL'S CHOICE (log entry 84): a superframe whose first frames were never heard, such as the one that a carrier joins in its
middle, closes as unverifiable, is counted and raises frame.sig_incomplete. -/
def SfAcc.take (a : SfAcc) (o : List Byte) (use : Bool) (at_ : Instant) : SfAcc :=
  let pos := (Ovh.frame o).toNat % 64
  let a0 : SfAcc :=
    if pos = 0 then { epoch := Ovh.epoch o, head := Ovh.head o } else
      { a with
        epoch := if a.signed.isEmpty then Ovh.epoch o else a.epoch, head := if a.signed.isEmpty then Ovh.head o else a.head
        agree := a.agree && (a.signed.isEmpty || (a.epoch == Ovh.epoch o && a.head == Ovh.head o))
        absent := a.absent || a.frames != pos }
  { a0 with
    frames := pos + 1, asym := Ovh.asym o, tEq := Ovh.tEq o, headDelay := Ovh.headDelay o, utc := Ovh.utc o
    stamps := if use then (Ovh.stamp o, at_) :: a0.stamps else a0.stamps
    signature := if 56 ≤ pos then a0.signature ++ Ovh.signature o else a0.signature
    signed := a0.signed ++ Ovh.signed o }

/-- A frame without its overhead passes in the running superframe (R61, R106). -/
def SfAcc.skip (a : SfAcc) : SfAcc := { a with frames := a.frames + 1, absent := true }

/-- A present overhead at the head of a superframe meets one that frames were lost from: that one is unverifiable and waits for its
count (R106). -/
def closeShort (n : Nat) (o : List Byte) (s : State) : State :=
  modCarrier n (fun c =>
    if (Ovh.frame o).toNat % 64 = 0 ∧ c.sf.frames ≠ 0 ∧ c.sfDone = none then
      { c with sfDone := some { c.sf with absent := true }, sf := {} }
    else c) s

/-- Frame 63 completes the superframe: it waits for its signature check (R106). -/
def closeSf (n : Nat) (s : State) : State :=
  modCarrier n (fun c => if 64 ≤ c.sf.frames then { c with sfDone := some c.sf, sf := {} } else c) s

/-! ### Messages (R107) -/

/-- A segment of the message area. -/
structure Segment where
  type     : Nat
  terminal : Nat
  msgId    : BitVec 16
  index    : Nat
  count    : Nat
  data     : List Byte

/-- Cut a message area into its segments, at most `fuel`; a segment that does not fit ends the list. -/
def segments : Nat → List Byte → List Segment
  | 0, _ => []
  | fuel + 1, b =>
    if b.length < 8 ∨ b.length < 8 + be b 6 2 then []
    else
      { type := byteAt b 0, terminal := byteAt b 1, msgId := BitVec.ofNat 16 (be b 2 2), index := byteAt b 4
        count := byteAt b 5, data := slice b 8 (be b 6 2) } :: segments fuel (b.drop (8 + be b 6 2))

/-- A complete message waits for its signature check; one of a type that Table 5-3 does not have is discarded and counted. -/
def Carrier.complete (c : Carrier) (m : Message) : Carrier :=
  if itemCount m.type = 0 then { c with nMsgBad := c.nMsgBad + 1 } else { c with msgsDone := c.msgsDone ++ [m] }

/-- Collect one segment on its slot, from a frame whose overhead is `o`: in order it extends its message; the last one completes it;
out of order the message is discarded and counted. The MODEL'S CHOICE (log entry 85): segment 0 of a MSG_ID already running starts the
message again, without a count. -/
def takeSegment (n : Nat) (o : List Byte) (g : Segment) (s : State) : State :=
  if g.terminal ≠ 0xFF ∧ some g.terminal ≠ ownNumber s then s
  else
    let c := s.carrier n
    let others := c.msgs.filter fun m => m.msgId != g.msgId
    let ctx : MsgCtx :=
      match c.msgs.find? (fun m => m.msgId == g.msgId) with
      | some m => if g.index = 0 then { msgId := g.msgId, type := g.type, next := 0, count := g.count } else m
      | none => { msgId := g.msgId, type := g.type, next := 0, count := g.count }
    if ctx.next ≠ g.index ∨ ctx.type ≠ g.type ∨ g.count = 0 then
      setCarrier n { c with msgs := others, nMsgBad := c.nMsgBad + 1 } s
    else
      let ctx : MsgCtx := { ctx with next := ctx.next + 1, body := ctx.body ++ g.data }
      if ctx.next = ctx.count then
        setCarrier n (({ c with msgs := others } : Carrier).complete
          { type := ctx.type, body := ctx.body, epoch := Ovh.epoch o, head := Ovh.head o, stamp := Ovh.stamp o }) s
      else setCarrier n { c with msgs := others ++ [ctx] } s

/-- A complete RANGE_ASSIGN that carries the last gust's NONCE, or in a session the terminal's own number (R87, R90). -/
def assignsUs (s : State) (m : Message) : Bool :=
  m.type == 1 && match messageItems 1 m.body with
    | some l => let a := rangeAssignOf l; byNonce s a || byNumber s a
    | none => false

/-! ### Tributaries (R116 to R118) -/

/-- The active page's entry of a tributary. -/
def State.tribEntry (s : State) (t : Nat) : TribEntry := Tbl.get {} s.trib.active t

/-- The page that filters frames whose boundary is `b` (R117): the active one, or one that a later swap replaced. -/
def pageFor (s : State) (b : Instant) : Tbl TribEntry :=
  (s.trib.pages.filter fun (x : Instant × Tbl TribEntry) => decide (b < x.1)).foldl (fun _ x => x.2) s.trib.active

/-- A COMMITTED group holds the tributary lock (R263). -/
def tribLocked (s : State) : Bool :=
  s.groups.any fun x => x.2.state == .committed && x.2.locks.any fun l => l.cls == 2

/-- The end at the line head of the last window that carries the last byte of a tributary's cell on carrier `c` (R118): emitted, or
drawn. -/
def lastEnd (s : State) (c t : Nat) : Instant :=
  ((s.carrier c).drawn.filter fun b => b.tribs.contains t).foldl (fun e b => max e (b.grant.start + b.grant.window))
    (Tbl.get 0 (s.carrier c).tribEnd t)

/-- Cells of a tributary wait in carrier `c`'s lists, or a remainder of one does (R118). -/
def tribWaits (s : State) (c t : Nat) : Bool :=
  (s.carrier c).remTrib == some t ||
    s.q.tab.any fun x => match x.2 with
      | none => false
      | some q => (Tbl.get [] q.lists c).any fun p => p.trib == t

/-- Exchange the pages at instant `i` (R117), and fence each tributary that moves to another carrier (R118). -/
def swapPages (i : Instant) (fence : Nat) (s : State) : State :=
  let moved := (List.range 64).filter fun t =>
    (Tbl.get {} s.trib.active t : TribEntry).upCarrier != (Tbl.get {} s.trib.standby t).upCarrier
  let fences := moved.map fun t =>
    ({ trib := t, old := (Tbl.get {} s.trib.active t : TribEntry).upCarrier
       new := (Tbl.get {} s.trib.standby t : TribEntry).upCarrier, until_ := i + ms fence } : Fence)
  raise 0x90 { s with trib := { s.trib with
    active := s.trib.standby, standby := s.trib.active, swap := none, fences := s.trib.fences ++ fences
    pages := (i, s.trib.active) :: s.trib.pages.filter fun (x : Instant × Tbl TribEntry) => decide (i ≤ x.1 + sec 1) } }

/-- The checks of trib.page.write on the page (R4, R116). -/
def checkTribPageWrite (first : Nat) (entries : List TribEntry) (s : State) : Status :=
  if !s.variant.trib then .unitAbsent
  else if 64 < first + entries.length ∨ entries.length = 0 ∨ entries.any (fun e => decide (3 < e.upCarrier)) then .paramRange
  else if entries.any fun e => !s.hasCarrier e.upCarrier ||
      [0, 1, 2, 3].any (fun c => e.downMask.getLsbD c && !s.hasCarrier c) then .unitAbsent
  else .ok

/-- Write standby entries (R116). -/
def putTribPage (first : Nat) (entries : List TribEntry) (s : State) : State :=
  { s with trib := { s.trib with standby := (entries.zipIdx).foldl (fun t x => Tbl.set {} t (first + x.2) x.1) s.trib.standby } }

/-- The fence timeout in ms, 50 by default (R118). -/
def fenceMs (fence : Option Nat) : Nat := fence.getD 50

/-- The checks of trib.page.swap on its parameters (R4, R117, R118). -/
def checkTribPageSwap (instant : Instant) (fence : Option Nat) (s : State) : Status :=
  if !s.variant.trib then .unitAbsent
  else if fenceMs fence = 0 ∨ 100 < fenceMs fence then .paramRange
  else if instant % frameTime ≠ 0 then .instantMisaligned
  else .ok

/-- A refused page write or swap raises trib.page_rejected (Table 5-8). -/
def tribRefuse (st : Status) : Body := fun s => (some { status := st }, raise 0x92 s)

/-- The words of a page. -/
def pageWords (t : Tbl TribEntry) : List Nat :=
  (List.range 64).map fun k => let e : TribEntry := Tbl.get {} t k; e.upCarrier * 32 + e.downMask.toNat * 2 + e.enable.toNat

/-- trib.page.write given directly (R116, R117). -/
def doTribPageWrite (first : Nat) (entries : List TribEntry) : Body := fun s =>
  match checkTribPageWrite first entries s with
  | .ok =>
    if s.trib.swap.isSome || tribLocked s then tribRefuse .tribSwapPending s
    else
      let s := putTribPage first entries s
      okData [Config.checksum (pageWords s.trib.standby)] s
  | st => tribRefuse st s

/-- An instant a command names (R38): line time valid, and at least 10 µs away. -/
def instantStatus (i : Instant) (s : State) : Status :=
  if !switchValid s then .timeInvalid else if i < switchTime s + us 10 then .instantPassed else .ok

/-- trib.page.swap given directly (R38, R117). -/
def doTribPageSwap (instant : Instant) (fence : Option Nat) : Body := fun s =>
  match checkTribPageSwap instant fence s with
  | .ok =>
    if s.trib.swap.isSome || tribLocked s then tribRefuse .tribSwapPending s
    else match instantStatus instant s with
      | .ok => okData [secOf instant, nsOf instant, fracOf instant]
          { s with trib := { s.trib with swap := some { at_ := instant, fence := fenceMs fence } } }
      | st => tribRefuse st s
  | st => tribRefuse st s

/-- trib.page.read. -/
def doTribPageRead (active : Bool) : Body := fun s =>
  require s.variant.trib .unitAbsent (okData (pageWords (if active then s.trib.active else s.trib.standby))) s

/-- The instant of the swap that is pending: a direct one's, or that of a COMMITTED group that stages one (R117, R119). -/
def swapPending (s : State) : Option Instant :=
  match s.trib.swap with
  | some w => some w.at_
  | none => (s.groups.find? fun (x : Nat × Group) => x.2.state == .committed &&
      x.2.changes.any fun c => match c.cmd with | .tribPageSwap _ _ => true | _ => false).map (·.2.eff)

/-- trib.status. The MODEL'S CHOICE (log entry 86): 'tributaries fenced' is their number. -/
def doTribStatus : Body := fun s =>
  let p := swapPending s
  let i := p.getD 0
  require s.variant.trib .unitAbsent (okData [p.isSome.toNat, secOf i, nsOf i, fracOf i,
    ((s.trib.fences.map (·.trib)).dedup).length, s.trib.nTimeout]) s

/-- TRIB_SWAP (R117): a direct swap at its instant. -/
def execTribSwap (s : State) : Host.Outcome State Fault Refusal := .next (
  match s.trib.swap with
  | none => s
  | some w => if timeValid s && decide (w.at_ ≤ lineTime s) then swapPages w.at_ w.fence s else s)

/-- FENCE_TIMEOUT (R118): at I plus the fence timeout an unmet fence is released. -/
def execFenceTimeout (t : Nat) (s : State) : Host.Outcome State Fault Refusal := .next (
  let due := s.trib.fences.filter fun f => f.trib == t && decide (f.until_ ≤ lineTime s)
  let unmet := due.filter fun f => tribWaits s f.old t || decide (f.until_ < lastEnd s f.old t)
  let s := { s with trib := { s.trib with fences := s.trib.fences.filter fun f => !due.contains f } }
  if unmet.isEmpty then s
  else raise 0x91 { s with trib := { s.trib with nTimeout := s.trib.nTimeout + 1 } })

/-! ### Cells and reassembly (R109, R110) -/

/-- The terminal holds an association index (R220). -/
def holdsAssoc (s : State) (i : Nat) : Bool := if i = 0 then s.reg.session else (s.assoc i).state != .free

/-- Cells or a packet of an association that the terminal does not hold are discarded and counted (R18). -/
def unknownAssoc (n : Nat) (s : State) : State := raise 0x87 (modCarrier n (fun c => { c with nUnknown := c.nUnknown + 1 }) s)

/-- A packet is discarded in reassembly: cell.reassembly_error (R110). -/
def reasmError (n : Nat) (f : Carrier → Carrier) (s : State) : State := raise 0x84 (modCarrier n f s)

/-- Take a kept cell into its reassembly context (R110). -/
def reassemble (n : Nat) (h : CellHdr) (payload : List Byte) (s : State) : State :=
  let isKey := fun (r : Reasm) => r.carrier == n && r.assoc == h.assoc && r.cls == h.cls
  let old := s.down.ctxs.find? isKey
  let rest := s.down.ctxs.filter fun r => !isKey r
  let bytes := payload.take (h.fill + 1)
  let close (r : Reasm) (s : State) : State :=
    if h.last then
      { s with down := { s.down with
        ctxs := rest
        ready := s.down.ready ++ [{
          carrier := n, assoc := r.assoc, cls := r.cls, src := r.src, trib := h.trib, kept := lineTime s
          bytes := r.bytes }] } }
    else { s with down := { s.down with ctxs := rest ++ [r] } }
  if h.first then
    let s := if old.isSome then reasmError n (fun c => { c with nTruncated := c.nTruncated + 1 }) s else s
    if 32768 ≤ rest.length then
      raise 0x85 (modCarrier n (fun c => { c with nExhausted := c.nExhausted + 1 }) s)
    else close { carrier := n, assoc := h.assoc, cls := h.cls, src := h.src, cells := 1, since := s.clk.now, bytes := bytes } s
  else match old with
    | none => reasmError n (fun c => { c with nOrphan := c.nOrphan + 1 }) s
    | some r =>
      if 67 ≤ r.cells then
        reasmError n (fun c => { c with nOversize := c.nOversize + 1 }) { s with down := { s.down with ctxs := rest } }
      else close { r with cells := r.cells + 1, bytes := r.bytes ++ bytes } s

/-- What the carriers that are in use need of the die link in each direction, in Gb/s (Tables 3-1 and 8-3). -/
def dieNeed (s : State) : Nat :=
  s.carrierNums.foldl (fun a n => if (s.carrier n).state = .off then a else a + Prof.gbps (s.carrier n).profile) 0

/-- A die link of `width` lanes, 375 Gb/s net each, carries what the carriers need (R181, Table 8-3). -/
def dieCarries (width : Nat) (s : State) : Bool := decide (dieNeed s ≤ 375 * width)

/-- A kept cell that cannot cross the die link is dropped with its reason (R109 step 4, R184, R185, R304); at a width that does not
carry what the carriers need, which cells exceed it is a free value (log entry 20). -/
def crossDie (n : Nat) (k : State → State) (s : State) : State :=
  if s.die.split then modCarrier n (fun c => { c with nD2dSplit := c.nD2dSplit + 1 }) s
  else if s.die.retrain then
    modCarrier n (fun c => { c with nD2dRetrain := c.nD2dRetrain + 1 }) { s with die := { s.die with nRetrain := s.die.nRetrain + 1 } }
  else if !dieCarries s.die.widthDown s then
    let (v, s) := draw s
    if v % 2 = 1 then
      modCarrier n (fun c => { c with nD2dOverrun := c.nD2dOverrun + 1 }) { s with die := { s.die with nOverrun := s.die.nOverrun + 1 } }
    else k s
  else k s

/-- One downstream cell of a frame received in LOCKED, with the checks in the order of R109. -/
def takeCell (n : Nat) (page : Tbl TribEntry) (b : List Byte) (s : State) : State :=
  let h := cellHdr b
  if !hecOk b then raiseOnce 0x83 (modCarrier n (fun c => { c with nHec := c.nHec + 1 }) s)
  else if h.type = 0 then modCarrier n (fun c => { c with nCalm := c.nCalm + 1 }) s
  else if h.type ≠ 1 then modCarrier n (fun c => { c with nReserved := c.nReserved + 1 }) s
  else if !s.reg.session || !(if h.group then s.down.groups.getLsbD h.dst else s.reg.number == some h.dst) then
    modCarrier n (fun c => { c with nFiltered := c.nFiltered + 1 }) s
  else
    let e : TribEntry := Tbl.get {} page h.trib
    if !e.enable || !e.downMask.getLsbD n then raise 0x86 (modCarrier n (fun c => { c with nTrib := c.nTrib + 1 }) s)
    else crossDie n (fun s =>
      if !holdsAssoc s h.assoc then unknownAssoc n s
      else reassemble n h (b.drop 8) s) s

/-- REASSEMBLY_TIMEOUT (R110): a context not closed within 10 ms of its first cell. -/
def execReassemblyTimeout (carrier assoc cls : Nat) (s : State) : Host.Outcome State Fault Refusal := .next (
  let hit := fun (r : Reasm) =>
    r.carrier == carrier && r.assoc == assoc && r.cls == cls && decide (r.since + ms 10 ≤ s.clk.now)
  if s.down.ctxs.any hit then
    reasmError carrier (fun c => { c with nTimedOut := c.nTimedOut + 1 })
      { s with down := { s.down with ctxs := s.down.ctxs.filter fun r => !hit r } }
  else s)

/-! ### Management channels (R114, R115) -/

/-- The whole frames at the front of a channel's stream, at most `fuel`, the rest of the stream, and whether a length
outside 1 to 1,600 was met, which empties the stream (log entry 21). -/
def mchFrames : Nat → List Byte → List (List Byte) × List Byte × Bool
  | 0, b => ([], b, false)
  | fuel + 1, b =>
    if b.length < 2 then ([], b, false)
    else
      let n := be b 0 2
      if n = 0 ∨ 1600 < n then ([], [], true)
      else if b.length < 2 + n then ([], b, false)
      else
        let (l, r, bad) := mchFrames fuel (b.drop (2 + n))
        (slice b 2 n :: l, r, bad)

/-- Bytes a list of frames takes in a buffer, each with its length. -/
def mchSize (l : List (List Byte)) : Nat := l.foldl (fun a f => a + f.length + 2) 0

/-- A frame that does not fit a 16 KiB buffer is discarded whole: mch.overflow (R115). -/
def mchFull (ch : Nat) (s : State) : State := raise (0x88 + ch) (modChannel ch (fun m => { m with nFull := m.nFull + 1 }) s)

/-- Take a channel's block of a verified frame on its bound carrier (R114); a LEN above 254 is out of range, and the block is
discarded and counted (log entry 21). -/
def takeBlock (n : Nat) (o : List Byte) (ch : Nat) (s : State) : State :=
  let m := s.channel ch
  let b := Ovh.mch o ch
  let len := be b 0 2
  if !m.en || m.carrier != n || len == 0 then s
  else if 254 < len then modChannel ch (fun m => { m with nOver := m.nOver + 1 }) s
  else
    let (l, rest, bad) := mchFrames 128 (m.downPart ++ slice b 2 len)
    let s := modChannel ch (fun m => { m with downPart := rest, nOver := m.nOver + bad.toNat }) s
    l.foldl (fun s f =>
      if 16384 < mchSize ((s.channel ch).downQ ++ [f]) then mchFull ch s
      else modChannel ch (fun m => { m with downQ := m.downQ ++ [f] }) s) s

/-- MCH_PORT_FRAME (R115): the bits between two flags on the serial port of channel `ch`; inserted zeros and the FCS-16 are stripped.
The MODEL'S CHOICE (log entry 87): a frame with no content bytes is counted with the oversize ones and raises mch.frame_error. -/
def execMchPortFrame (ch : Nat) (bits : List Bool) (s : State) : Host.Outcome State Fault Refusal := .next (
  let m := s.channel ch
  let bad := fun (f : Mch → Mch) => raise (0x8C + ch) (modChannel ch f s)
  if !m.en || decide (3 < ch) then s
  else match hdlcOctets bits with
  | none => bad fun m => { m with nFcs := m.nFcs + 1 }
  | some l => match hdlcContent l with
    | none => bad fun m => { m with nFcs := m.nFcs + 1 }
    | some bytes =>
      if 1600 < bytes.length ∨ bytes.length = 0 then bad fun m => { m with nOver := m.nOver + 1 }
      else if 16384 < m.upQ.length + 2 + bytes.length then mchFull ch s
      else modChannel ch (fun m => { m with
        upQ := m.upQ ++ beBytes 2 bytes.length ++ bytes, nUp := m.nUp + 1, bUp := m.bUp + bytes.length }) s)

/-- MCH_UPSTREAM_CELL (R114): in OPERATING, at most one management cell of a channel in each 125 µs of line time; it
waits for the next burst on the bound carrier. A die-link split does not stop it (R115). -/
def execMchUpstreamCell (ch : Nat) (s : State) : Host.Outcome State Fault Refusal := .next (
  let m := s.channel ch
  let period := lineTime s / frameTime
  if m.en && s.reg.state == .operating && m.cells.isEmpty && !m.upQ.isEmpty && m.lastCell != some period
      && decide (ch < 4) then
    modChannel ch (fun m => { m with
      cells := [m.upQ.take 248], upQ := m.upQ.drop 248, lastCell := some period }) s
  else s)

/-- MCH_PORT_TRANSMIT (R115): the port sends a frame from its downstream buffer, with its FCS-16 and zero-bit insertion, or flags; flags
only while the bound carrier is not LOCKED. -/
def execMchPortTransmit (ch : Nat) (s : State) : Host.Outcome State Fault Refusal := .next (
  let m := s.channel ch
  if !m.en || decide (3 < ch) then s
  else match m.downQ, (s.carrier m.carrier).state == .locked with
    | f :: t, true =>
      emit (.hdlc ch (hdlcBits f)) (modChannel ch (fun m => { m with downQ := t, nDown := m.nDown + 1, bDown := m.bDown + f.length }) s)
    | _, _ => emit (.flags ch) s)

/-! ### DOWNSTREAM_FRAME -/

/-- The grant map of a frame that passed its checks (R90 step 2): in a session its epoch must be the session's, outside
one its head that of the last superframe verified; outside a session only discovery windows and ranging grants. A map whose frame
completes a RANGE_ASSIGN for the terminal waits for that message's check. -/
def takeMap (n : Nat) (o : List Byte) (done : List Message) (s : State) : State :=
  let l := (List.range (Ovh.mapCount o)).map (Ovh.entry o)
  let handle := fun (l : List (List Byte)) (s : State) =>
    match done.find? (assignsUs s) with
    | some m => modCarrier n (fun c => { c with
        mapWait := c.mapWait ++ [{ msg := m, stamp := Ovh.stamp o, arrival := received s + us 8, entries := l }] }) s
    | none => handleMap n (Ovh.stamp o) (received s + us 8) l s
  if s.reg.session then
    if Ovh.epoch o ≠ s.reg.epoch then countRefused n l s else handle l s
  else if s.reg.lastSf ≠ some (Ovh.epoch o, Ovh.head o) then s
  else handle (l.filter fun b => (mapEntry b).type == 1 || (mapEntry b).type == 2) s

/-- Messages, management channels and grant map of a frame whose overhead is used (R90, R105, R107, R114), unless its head is
refused (R97); messages come before the map. -/
def takeControl (n : Nat) (o : List Byte) (s : State) : State :=
  if refusedHead (Ovh.head o) (Ovh.epoch o) s then s
  else
    let before := (s.carrier n).msgsDone.length
    let s := (segments 768 (Ovh.messages o)).foldl (fun s g => takeSegment n o g s) s
    let s := if s.reg.session then forEach [0, 1, 2, 3] (takeBlock n o) s else s
    takeMap n o ((s.carrier n).msgsDone.drop before) s

/-- The frame control tag holds under the line control key (R105). -/
def tagHolds (o : List Byte) (s : State) : Bool :=
  match s.reg.key with
  | some k => Ovh.tag o == Ovh.tagFor k.name o
  | none => false

/-- The control tag of a frame in a session (R17, R105): the verdict, and what it leaves. -/
def checkTag (n : Nat) (o : List Byte) (s : State) : Bool × State :=
  if !s.reg.session then (true, s)
  else
    let s := noteKey (rollKey s)
    if tagHolds o s && !keyUsedUp s then
      (true, modCarrier n (fun c => { c with lastFrame := Ovh.frame o })
        { s with reg := { s.reg with
          tagAt := some s.clk.now
          resumeFrom := if s.reg.state == .holdover || s.reg.state == .fenced then
            some (s.reg.resumeFrom.getD s.clk.now) else none } })
    else (false, raise 0x6D (modCarrier n (fun c => { c with nTagFail := c.nTagFail + 1 }) s))

/-- A present overhead of a frame received in LOCKED whose plan matches: tag, the checks of R105, the superframe, then
messages and grants. Answers whether the tag holds. -/
def takeOverhead (n : Nat) (o : List Byte) (s : State) : Bool × State :=
  let (tag, s) := checkTag n o s
  let stampBad := Ovh.frame o ≠ frameCount (Ovh.stamp o)
  let sizeBad := 512 < Ovh.mapCount o ∨ 6144 < Ovh.msgLen o
  let s := closeShort n o s
  let s := modCarrier n (fun c => { c with
    sf := c.sf.take o (!(tag && decide (stampBad ∨ sizeBad))) (received s), next := Ovh.next o, slotActive := Ovh.active o }) s
  let s := closeSf n s
  (tag,
    if !tag then s
    else if stampBad then raise 0x93 (modCarrier n (fun c => { c with nStamp := c.nStamp + 1, nAbsent := c.nAbsent + 1 }) s)
    else if sizeBad then
      raise 0x94 (modCarrier n (fun c => { c with nMalformed := c.nMalformed + 1, nAbsent := c.nAbsent + 1 }) s)
    else takeControl n o s)

/-- An overhead position of the frame lies in a codeword that cannot be corrected (R61): its 16,384 bytes are in codewords 0 to 5. -/
def DownFrame.absent (f : DownFrame) : Bool := f.badCw.any fun k => decide (k ≤ 5)

/-- The cells of a frame in profile `p` that are neither damaged nor outside it (R55, R61), and how many calm cells it brings
besides. -/
def DownFrame.good (f : DownFrame) (p : Profile) : List (List Byte) :=
  (f.cells.filter fun x => decide (64 ≤ x.1 ∧ x.1 < Prof.positions p) && !((Prof.cellWords x.1).any f.badCw.contains)).map (·.2)
def DownFrame.calm (f : DownFrame) (p : Profile) : Nat := Prof.dataCells p - Prof.damagedCells p f.badCw - (DownFrame.good f p).length

/-- The undamaged cells of a frame received in LOCKED; the positions that the operand does not list hold calm cells (R109). -/
def takeCells (n : Nat) (f : DownFrame) (s : State) : State :=
  let page := pageFor s (received s)
  let p := (s.carrier n).profileFor (received s)
  let s := modCarrier n (fun c => { c with nCalm := c.nCalm + DownFrame.calm f p }) s
  (DownFrame.good f p).foldl (fun s b => takeCell n page b s) s

/-- The alignment check of a frame in lock (R103): a fourth consecutive miss loses lock. -/
def checkFaw (n : Nat) (f : DownFrame) (s : State) : State :=
  let s := modCarrier n (fun c => { c with misses := if fawMatch f.faw then 0 else c.misses + 1 }) s
  if 4 ≤ (s.carrier n).misses then enterLost n s else s

/-- One symbol position of the hunt (R103): a tracked candidate is confirmed or dropped at its first miss; another position that matches
becomes a candidate while fewer than 8 are tracked. -/
def huntAt (l : List (Nat × Nat)) (p : Nat) (hit : Bool) : List (Nat × Nat) :=
  if l.any fun c => c.1 == p then
    if hit then l.map fun c => if c.1 = p then (p, c.2 + 1) else c else l.filter fun c => c.1 != p
  else if hit && decide (l.length < 8) then l ++ [(p, 1)] else l

/-- The hunt over one frame's span of symbols, in the order of the positions: a candidate that has matched at p, p + S and p + 2S
becomes lock, which ends the hunt. -/
def huntFrame (f : DownFrame) (c : Carrier) : Carrier :=
  if c.aligned then c
  else
    let seen := f.signs.filter fun x => decide (x.1 < Prof.symbols c.profile)
    let ps := ((seen.map (·.1) ++ c.hunt.map (·.1)).dedup).insertionSort (· ≤ ·)
    let l := ps.foldl (fun l p => huntAt l p (seen.any fun x => x.1 == p && fawMatch x.2)) c.hunt
    if l.any fun x => decide (3 ≤ x.2) then { c with hunt := [], aligned := true } else { c with hunt := l }

/-- Count the uncorrectable codewords of a frame (R61, R74). -/
def countUncorr (n : Nat) (f : DownFrame) (s : State) : State :=
  let k := f.badCw.dedup.length
  if k = 0 then s
  else raiseOnce (0x43 + 8 * n) (modCarrier n (fun c => { c with nUncorr := satAdd 32 c.nUncorr k }) s)

/-- The first frame of a committed change of symbol rate: lock is lost until the carrier relocks in the new rate (R73). -/
def relock (n : Nat) (s : State) : State :=
  match (s.carrier n).relockAt with
  | some i => if i ≤ received s ∧ ((s.carrier n).state = .locked ∨ (s.carrier n).state = .mismatch) then modCarrier n (fun c => { c with lostFrom := some (received s) }) (enterLost n s) else s
  | none => s

/-- DOWNSTREAM_FRAME (R57, R61, R101 to R110): a downstream frame of carrier `n` is taken whole at its boundary. While the carrier
acquires or relocks, the hunt searches it. A frame whose control tag fails is discarded with its cells (R17). -/
def execDownstreamFrame (n : Nat) (f : DownFrame) (s : State) : Host.Outcome State Fault Refusal := .next (
  let s := relock n s
  let c := s.carrier n
  let o := f.overhead
  let plan := fun (s : State) => planMatches (s.carrier n) ((s.carrier n).profileFor (received s)) o
  match c.state with
  | .acquire => modCarrier n (huntFrame f) s
  | .lost => modCarrier n (huntFrame f) s
  | .mismatch =>
    let s := checkFaw n f (countUncorr n f s)
    if (s.carrier n).state = .mismatch && !DownFrame.absent f && plan s then enterLocked n s else s
  | .locked =>
    let s := modCarrier n (fun c => { c with msgs := c.msgs.map fun m => { m with age := m.age + 1 } }) (countUncorr n f s)
    let s := checkFaw n f s
    if (s.carrier n).state ≠ .locked then s
    else if DownFrame.absent f then
      takeCells n f (closeSf n (modCarrier n (fun c => { c with nAbsent := c.nAbsent + 1, sf := c.sf.skip }) s))
    else if !plan s then enterMismatch n s
    else
      let (tag, s) := takeOverhead n o s
      if tag then takeCells n f s else s
  | _ => s)

/-! ### Bodies of the frame and channel commands (Table 5-7) -/

/-- frame.status: the candidates tracked are the hunt's (R103). -/
def doFrameStatus (n : Nat) : Body := withCarrier n fun s =>
  let c := s.carrier n
  okData [(c.state == .locked || c.state == .mismatch).toNat, c.hunt.length, c.nAbsent, c.nTagFail, c.nSfOk, c.nSfBad,
    c.nSfUnver] s

/-- cell.stats. -/
def doCellStats (n : Nat) : Body := withCarrier n fun s =>
  let c := s.carrier n
  okData [c.nHec, c.nCalm, c.nFiltered, c.nTrib, c.nUnknown, c.nTruncated, c.nOrphan, c.nOversize, c.nTimedOut, c.nRemainder] s

/-- cell.groups.set. -/
def doCellGroupsSet (bitmap : BitVec 64) : Body := fun s =>
  okData [bitmap.toNat] { s with down := { s.down with groups := bitmap } }

/-- mch.config (R114, R115): rate codes 0 to 4 for 1.5625 to 25 MHz. -/
def doMchConfig (ch : Nat) (enable : Bool) (carrier rate : Nat) : Body :=
  require (decide (ch < 4 ∧ rate < 5)) .paramRange <| withCarrier carrier fun s =>
    okData [enable.toNat, carrier, rate] (modChannel ch (fun m => { m with en := enable, carrier := carrier, rate := rate }) s)

/-- mch.stats. -/
def doMchStats (ch : Nat) : Body :=
  require (decide (ch < 4)) .paramRange fun s =>
    let m := s.channel ch
    okData [m.nDown, m.bDown, m.nUp, m.bUp, m.nFcs, m.nOver, m.nFull] s

end Sys2Proof.Machine
end

