-- ==== Sys2Proof/Machine/Queues.lean ====
section
/-! DEFINITION. Buffering, shaping, policing, gates and the barometer (chapter 07): leaf queues and their admission,
shapers, policers, timing wheels, gate lists, watches, and the commands' bodies of Table 7-5. -/

namespace Sys2Proof.Machine

/-! ### Shapers (R158) -/

/-- One byte in a shaper's token units. -/
def tokenByte : Int := 65536 * 8000000

/-- A shaper credited up to instant `t`: at RATE, never beyond BURST, never backward (R158). -/
def Shaper.credit (x : Shaper) (t : Instant) : Shaper :=
  if t ≤ x.at_ then x
  else { x with tokens := min (x.p.burst * tokenByte) (x.tokens + x.p.rate * ((t - x.at_ : Nat) : Int)), at_ := t }

/-- Conforming: tokens of 0 or more. -/
def Shaper.conforms (x : Shaper) : Bool := decide (0 ≤ x.tokens)

/-- Serve an item of `bytes` bytes. -/
def Shaper.serve (x : Shaper) (bytes : Int) : Shaper := { x with tokens := x.tokens - bytes * tokenByte }

/-- The instant at which the tokens return to 0. -/
def Shaper.backAt (x : Shaper) : Instant :=
  if 0 ≤ x.tokens then x.at_ else x.at_ + (x.tokens.natAbs + x.p.rate - 1) / x.p.rate

/-- The ranges of R158. -/
def shaperOk (p : ShaperParams) : Bool :=
  decide (1000 ≤ p.rate ∧ p.rate ≤ 1600000000 ∧ 256 ≤ p.burst ∧ p.burst ≤ 16777215 ∧ -64 ≤ p.adjust ∧ p.adjust ≤ 64)

/-- A shaper that is set: the tokens it starts with are not in the manual, a free value up to BURST (log entry 23). -/
def newShaper (p : Option ShaperParams) (s : State) : Option Shaper × State :=
  match p with
  | none => (none, s)
  | some p =>
    let (v, s) := draw s
    (some { p := p, tokens := ((v % (p.burst + 1) : Nat) : Int) * tokenByte, at_ := switchTime s }, s)

/-! ### Timing wheels (R156) -/

/-- The fine horizon, a coarse slot, in fifths of an `Instant`: 104,857.6 ns. -/
def coarseFifths : Nat := 2 ^ 35

/-- The coarse slot that contains an instant. -/
def coarseSlot (t : Instant) : Nat := 5 * t / coarseFifths

/-- Put an item on the wheels (R156): within the fine horizon in the fine slot of R37, later in the coarse slot that
contains its instant, beyond the coarse horizon in the last coarse slot. -/
def placeItem (k : WheelKind) (due : Instant) (s : State) : State :=
  let now := switchTime s
  let drop := fun (l : List WheelItem) => l.filter fun i => i.kind != k
  let q := { s.q with fine := drop s.q.fine, coarse := drop s.q.coarse }
  if 5 * due < 5 * now + coarseFifths then
    { s with q := { q with fine := q.fine ++ [{ kind := k, due := due, slot := gridSlot due }] } }
  else
    { s with q := { q with coarse :=
      q.coarse ++ [{ kind := k, due := due, slot := min (coarseSlot due) (coarseSlot now + 8191) }] } }

/-- Take an item off the wheels. -/
def unplace (k : WheelKind) (s : State) : State :=
  let drop := fun (l : List WheelItem) => l.filter fun i => i.kind != k
  { s with q := { s.q with fine := drop s.q.fine, coarse := drop s.q.coarse } }

/-- An item waits on a wheel. -/
def waits (k : WheelKind) (s : State) : Bool := s.q.fine.any (fun i => i.kind == k) || s.q.coarse.any (fun i => i.kind == k)

/-- A kind's item on the wheels holds it back at instant `t` (R37, R156): a gate change until its due tick, the others until the start
of the slot they lie in. -/
def wheelHeld (k : WheelKind) (t : Instant) (s : State) : Bool :=
  match k with
  | .gate _ => (s.q.fine ++ s.q.coarse).any fun i => i.kind == k && decide (t < i.due)
  | .gateStart _ => (s.q.fine ++ s.q.coarse).any fun i => i.kind == k && decide (t < i.due)
  | _ => (s.q.fine.any fun i => i.kind == k && decide (5 * t / gridFifths < i.slot)) ||
      s.q.coarse.any fun i => i.kind == k && decide (coarseSlot t < i.slot ∨ t < i.due)

/-- Items whose own row acts on them: gate events and barometer samples. -/
def WheelKind.hasRow : WheelKind → Bool
  | .gate _ => true | .gateStart _ => true | .barometer _ => true | _ => false

/-- Of two items, the one that is served first (R156, R157): by slot, and in one slot the one placed first. -/
def WheelItem.first (a b : WheelItem) : WheelItem := if b.slot < a.slot then b else a

/-- The row of a kind may act now: its item is no longer held back, and no other row's item that is due comes before it (R156,
R157: slot order, and in one slot the order of placement). -/
def wheelTurn (k : WheelKind) (s : State) : Bool :=
  let t := switchTime s
  let due := s.q.fine.filter fun i => i.kind.hasRow && !wheelHeld i.kind t s
  !wheelHeld k t s && match due with
    | [] => true
    | i :: l => (l.foldl WheelItem.first i).kind == k || !due.any fun x => x.kind == k

/-- The shaper of a node, a queue or a port, and its tokens credited up to line time. -/
def shaperOf (s : State) : WheelKind → Option Shaper
  | .node a => (Tbl.get {} s.q.nodes a : Node).shaper
  | .classNode a c => (Tbl.get {} s.q.classNodes (8 * a + c) : Node).shaper
  | .egressQ p q => Tbl.get none (s.port p).shapers q
  | .port p => Tbl.get none (s.port p).shapers 8
  | _ => none

/-- An item whose slot has come is evaluated (R156, R157): a shaper that is still out of tokens is placed again. -/
def evaluateItem (i : WheelItem) (s : State) : State :=
  let s := unplace i.kind s
  match shaperOf s i.kind with
  | none => s
  | some x => if (x.credit (switchTime s)).conforms then s else placeItem i.kind x.backAt s

/-- WHEEL_SLOT (R156, R157): coarse items whose span has begun move to the fine wheel; the shaped nodes and queues whose fine slot has
come, those that a step skipped among them, are evaluated in slot order. -/
def execWheelSlot (s : State) : Host.Outcome State Fault Refusal := .next (
  let c := coarseSlot (switchTime s)
  let begun := s.q.coarse.filter fun i => decide (i.slot ≤ c)
  let s := begun.foldl (fun s i => placeItem i.kind i.due s) s
  let k := 5 * switchTime s / gridFifths
  let due := s.q.fine.filter fun i => decide (i.slot ≤ k) && !i.kind.hasRow
  (due.insertionSort fun a b => a.slot ≤ b.slot).foldl (fun s i => evaluateItem i s) s)

/-! ### Upstream leaf queues (R149 to R155) -/

/-- Cells waiting in a list, in a queue, and of a class on a carrier. -/
def listCells (l : List QPkt) : Nat := l.foldl (fun a p => a + p.left) 0
def Queue.cells (q : Queue) : Nat := q.lists.foldl (fun a x => a + listCells x.2) 0
def classCells (n c : Nat) (s : State) : Nat :=
  s.q.tab.foldl (fun a x => match x.2 with
    | some q => if q.cls = c then a + listCells (Tbl.get [] q.lists n) else a
    | none => a) 0

/-- Change a leaf queue that exists. -/
def modQueue (k : Nat) (f : Queue → Queue) (s : State) : State :=
  match s.queue k with | some v => setQueue k (some (f v)) s | none => s

/-- Cells join the cell store; queue.store_high at 90 % (R152). -/
def takeCellsIn (k : Nat) (s : State) : State :=
  let used := s.q.used + k
  let high := decide (storeCells s * 90 ≤ used * 100)
  let s' := modQ (fun q => { q with used := used, storeHigh := q.storeHigh || high }) s
  if high && !s.q.storeHigh then raise 0xB0 s' else s'

/-- A drop or discard of a packet bound for carrier `n` sets DISCARDING there (R152, Table 4-7). -/
def markDiscarding (n : Nat) (s : State) : State := modCarrier n (fun c => { c with discarding := 2 }) s

/-- Discard the packets at the front of a queue's list for carrier `n` that none of has been drawn and that have
waited more than MAX_SOJOURN (R153). -/
def ageList (k n : Nat) (s : State) : State :=
  match s.queue k with
  | none => s
  | some v =>
    let l := Tbl.get [] v.lists n
    let old := l.takeWhile fun p => p.drawn == 0 && decide (p.at_ + ms v.sojourn < switchTime s)
    if old.isEmpty then s
    else
      let s := setQueue k (some { v with
        lists := Tbl.set [] v.lists n (l.drop old.length), nAge := v.nAge + old.length }) s
      let s := freeCells (listCells old) (modQ (fun q => { q with nAge := q.nAge + old.length }) s)
      raiseOnce 0xB2 (markDiscarding n (old.foldl (fun s p => dropQ p s) s))

/-- The age check of every list of carrier `n` (R153). -/
def ageCarrier (n : Nat) (s : State) : State := forEach (Tbl.keys s.q.tab) (fun k => ageList k n) s

/-- The age check of every cell list, as at every draw (R153). -/
def ageAll (s : State) : State := forEach s.carrierNums ageCarrier s

/-- No carrier has emitted for 1 ms (R153). -/
def emitsNothing (s : State) : Bool := s.carrierNums.all fun n => decide ((s.carrier n).winEnd + ms 1 ≤ received s)

/-- AGE_CHECK (R153, R304): every 1 ms while the terminal emits nothing. -/
def execAgeCheck (s : State) : Host.Outcome State Fault Refusal := .next (
  if (s.reg.state ≠ .operating ∨ s.die.split ∨ emitsNothing s) ∧ s.q.agedAt + ms 1 ≤ s.clk.now then
    ageAll (modQ (fun q => { q with agedAt := s.clk.now }) s)
  else s)

/-- An admission drop (R152): counted by reason, DISCARDING on the packet's carrier, queue.discard. -/
def admissionDrop (n : Nat) (p : QPkt) (f : State → State) (s : State) : State :=
  raiseOnce 0xB1 (markDiscarding n (dropQ p (f s)))

/-- Cells of a class join a carrier's lists: the forecast's arrivals (R93). -/
def countArrival (n c k : Nat) (s : State) : State :=
  modCarrier n (fun v =>
    let f : Forecast := Tbl.get {} v.fc c
    if f.on then { v with fc := Tbl.set {} v.fc c { f with cells := f.cells + k, total := f.total + k } } else v) s

/-- SEGMENTATION (R116, R117, R148, R151, R152): the oldest staged packet is cut into cells; all of them join one
carrier's list, or the packet is dropped with the first reason that holds. No run reaches a staged packet without its queue, which
queue.delete keeps for it (log entry 89). -/
def execSegmentation (s : State) : Host.Outcome State Fault Refusal := .next (
  match s.q.staging with
  | [] => s
  | (k, colour, p) :: t =>
    let s := modQ (fun q => { q with staging := t }) s
    let e := s.tribEntry p.trib
    let n := e.upCarrier
    let cells := cellsOf p.bytes.length
    match s.queue k with
    | none => dropQ p (modQ (fun q => { q with nFlush := q.nFlush + 1 }) s)
    | some v =>
      if s.die.split then dropQ p (modQ (fun q => { q with nSplit := q.nSplit + 1 }) s)
      else if !e.enable then admissionDrop n p (fun s => modQueue k (fun v => { v with nTrib := v.nTrib + 1 })
          (modQ (fun q => { q with nTrib := q.nTrib + 1 }) s)) s
      else if storeCells s < s.q.used + cells then
        admissionDrop n p (fun s => modQueue k (fun v => { v with nStore := v.nStore + 1 })
          (modQ (fun q => { q with nStore := q.nStore + 1 }) s)) s
      else if v.limit < v.cells + cells then
        admissionDrop n p (fun s => modQueue k (fun v => { v with nLimit := v.nLimit + 1 })
          (modQ (fun q => { q with nLimit := q.nLimit + 1 }) s)) s
      else if colour = .yellow ∧ v.ylim < v.cells + cells then
        admissionDrop n p (fun s => modQueue k (fun v => { v with nYellow := v.nYellow + 1 })
          (modQ (fun q => { q with nYellow := q.nYellow + 1 }) s)) s
      else
        let s := setQueue k (some { v with
          lists := Tbl.modify [] v.lists n (· ++ [{ p with at_ := switchTime s }]) }) s
        let s := countArrival n p.cls cells (takeCellsIn cells s)
        traceStage p.trace 5 (pmcCount { code := 0x50, weight := cells, cls := some p.cls, cells := true } s))

/-! ### Bodies of the queue commands (Table 7-5) -/

/-- The ranges of queue.create and queue.set (R149, Table 7-5). -/
def queueParamsOk (p : QueueParams) (s : State) : Bool :=
  let ok := fun (v : Option Nat) (hi : Nat) => match v with | none => true | some x => decide (1 ≤ x ∧ x ≤ hi)
  ok p.weight 255 && ok p.limit (storeCells s) && ok p.ylim (storeCells s) && ok p.maxSojourn 1000

/-- History of a class starts with its first queue in a session (R94). -/
def historyOnCreate (c : Nat) (had : Bool) (s : State) : State := if s.reg.session && !had then startHistory c s else s

/-- queue.create (R149). -/
def doQueueCreate (q assoc cls group : Nat) (p : QueueParams) : Body := fun s =>
  require (decide (256 ≤ q ∧ q ≤ 65535 ∧ assoc ≤ 4095 ∧ cls < 8 ∧ group < 16) && queueParamsOk p s) .paramRange (fun s =>
    let taken := (s.queue q).isSome || s.q.tab.any fun x =>
      match x.2 with | some v => v.assoc == assoc && v.cls == cls && v.group == group | none => false
    require (!taken) .queueExists (fun s =>
      let had := classHasQueue cls s
      let limit := p.limit.getD (storeCells s)
      okNone (historyOnCreate cls had (setQueue q (some {
        assoc := assoc, cls := cls, group := group, weight := p.weight.getD 1, limit := limit
        ylim := p.ylim.getD limit, sojourn := p.maxSojourn.getD 100 }) s))) s) s

/-- A command that names an upstream leaf queue (R168). -/
def withQueue (q : Nat) (k : Queue → Body) : Body :=
  require (decide (256 ≤ q ∧ q ≤ 65535)) .paramRange fun s =>
    match s.queue q with | none => fail .entryAbsent s | some v => k v s

/-- queue.delete (R94, R168). The MODEL'S CHOICE (log entry 89): a sealed packet that is staged for the queue keeps it too. -/
def doQueueDelete (q : Nat) : Body := withQueue q fun v s =>
  require (v.cells == 0 && !s.q.staging.any fun x => x.1 == q) .queueNotEmpty (fun s =>
    let s := setQueue q none s
    okNone (if classHasQueue v.cls s then s
      else forEach s.carrierNums (fun n => modCarrier n fun c => { c with fc := Tbl.set {} c.fc v.cls {} }) s)) s

/-- The checks of queue.set (R168). -/
def checkQueueSet (q : Nat) (p : QueueParams) (s : State) : Status :=
  if !decide (256 ≤ q ∧ q ≤ 65535) || !queueParamsOk p s then .paramRange
  else if (s.queue q).isNone then .entryAbsent else .ok

/-- Omitted settings stay as they are. -/
def putQueueSet (q : Nat) (p : QueueParams) (s : State) : State :=
  modQueue q (fun v => { v with
    weight := p.weight.getD v.weight, limit := p.limit.getD v.limit, ylim := p.ylim.getD v.ylim
    sojourn := p.maxSojourn.getD v.sojourn }) s

/-- A queue's settings. -/
def queueWords (q : Nat) (s : State) : List Nat :=
  match s.queue q with | some v => [v.weight, v.limit, v.ylim, v.sojourn] | none => []

/-- queue.set. -/
def doQueueSet (q : Nat) (p : QueueParams) : Body := fun s =>
  match checkQueueSet q p s with
  | .ok => let s := putQueueSet q p s; okData (queueWords q s) s
  | st => fail st s

/-- Bytes waiting in a client egress queue. -/
def egressBytes (l : List EgFrame) : Nat := l.foldl (fun a f => a + f.pkt.bytes.length + 4) 0

/-- queue.status (R168). -/
def doQueueStatus (q : Nat) : Body := fun s =>
  if 65535 < q then fail .paramRange s
  else if q < 256 then
    require (s.hasPort (q / 8)) .unitAbsent (fun s =>
      let v := s.port (q / 8)
      let k := q % 8
      okData [egressBytes (Tbl.get [] v.queues k), Tbl.get 0 v.stats.egLimit k, Tbl.get 0 v.stats.egYellow k,
        Tbl.get 0 v.stats.egPool k, Tbl.get 0 v.stats.egAge k, Tbl.get 0 v.stats.egGate k] s) s
  else match s.queue q with
    | none => fail .entryAbsent s
    | some v => okData (([0, 1, 2, 3].map fun n => listCells (Tbl.get [] v.lists n)) ++
        [v.nTrib, v.nStore, v.nLimit, v.nYellow, v.nAge, v.nFlush, v.cFlush, v.nIntegrity, v.nSession]) s

/-- queue.flush (R168): packets not yet begun are discarded; a begun one is finished. -/
def doQueueFlush (q : Nat) : Body := withQueue q fun v s =>
  let all := (v.lists.map fun (x : Nat × List QPkt) => x.2).flatten
  let gone := all.filter fun p => p.drawn == 0
  let lists := (v.lists.map fun (x : Nat × List QPkt) => (x.1, x.2.filter fun p => p.drawn != 0)).filter
    fun (x : Nat × List QPkt) => !x.2.isEmpty
  let cells := listCells gone
  let s := setQueue q (some { v with lists := lists, nFlush := v.nFlush + gone.length, cFlush := v.cFlush + cells }) s
  let s := freeCells cells (modQ (fun q => { q with nFlush := q.nFlush + gone.length }) s)
  okData [gone.length, cells] (gone.foldl (fun s p => dropQ p s) s)

/-- The checks of sched.node.set (R154, R158). -/
def checkSchedNode (assoc : Nat) (cls : Option Nat) (weight : Nat) (shaper : Option ShaperParams) (expedite : Bool) : Status :=
  let clsOk := match cls with | none => !expedite | some c => decide (c < 8)
  if decide (assoc ≤ 4095 ∧ 1 ≤ weight ∧ weight ≤ 255) && clsOk && (match shaper with | none => true | some p => shaperOk p) then .ok
  else .paramRange

/-- Set an association node or a class node. -/
def putSchedNode (assoc : Nat) (cls : Option Nat) (weight : Nat) (shaper : Option ShaperParams) (expedite : Bool)
    (s : State) : State :=
  let (x, s) := newShaper shaper s
  let v : Node := { weight := weight, shaper := x, expedite := expedite }
  match cls with
  | none => modQ (fun q => { q with nodes := Tbl.set {} q.nodes assoc v }) (unplace (.node assoc) s)
  | some c => modQ (fun q => { q with classNodes := Tbl.set {} q.classNodes (8 * assoc + c) v }) (unplace (.classNode assoc c) s)

/-- A shaper's words in a reply. -/
def shaperWords (p : Option ShaperParams) : List Nat :=
  match p with | none => [0, 0, 0] | some p => [p.rate, p.burst, unsigned 8 p.adjust]

/-- sched.node.set. -/
def doSchedNodeSet (assoc : Nat) (cls : Option Nat) (weight : Nat) (shaper : Option ShaperParams) (expedite : Bool) : Body :=
  fun s => match checkSchedNode assoc cls weight shaper expedite with
  | .ok => okData (weight :: shaperWords shaper ++ [expedite.toNat]) (putSchedNode assoc cls weight shaper expedite s)
  | st => fail st s

/-- A command that names a client port (R4). -/
def portStatusOf (p : Nat) (s : State) : Status := if s.hasPort p then .ok else s.noUnit p 32

/-- The checks of egress.config (R158, R159). -/
def checkEgress (p : Nat) (queues : List EgressQ) (shaper : Option ShaperParams) (s : State) : Status :=
  let sh := fun (x : Option ShaperParams) => match x with | none => true | some v => shaperOk v
  if !s.hasPort p then s.noUnit p 32
  else if 8 < queues.length ∨ !sh shaper ∨ queues.any (fun e =>
      !decide (1 ≤ e.weight ∧ e.weight ≤ 255 ∧ 16384 ≤ e.limit ∧ e.limit ≤ 50331648 ∧ e.ylim ≤ 50331648) || !sh e.shaper) then
    .paramRange
  else .ok

/-- Set a port's egress queues and shaper. -/
def putEgress (p : Nat) (queues : List EgressQ) (shaper : Option ShaperParams) (s : State) : State :=
  let s := (queues.zipIdx).foldl (fun s x =>
    let (h, s) := newShaper x.1.shaper s
    modPort p (fun v => { v with eg := Tbl.set {} v.eg x.2 x.1, shapers := Tbl.set none v.shapers x.2 h })
      (unplace (.egressQ p x.2) s)) s
  let (h, s) := newShaper shaper s
  modPort p (fun v => { v with shapers := Tbl.set none v.shapers 8 h }) (unplace (.port p) s)

/-- egress.config. -/
def doEgressConfig (p : Nat) (queues : List EgressQ) (shaper : Option ShaperParams) : Body := fun s =>
  match checkEgress p queues shaper s with
  | .ok => okData ((queues.map fun e => [e.strict.toNat, e.weight] ++ shaperWords e.shaper ++ [e.limit, e.ylim]).flatten ++
      shaperWords shaper) (putEgress p queues shaper s)
  | st => fail st s

/-! ### Policers (R160, R161) -/

/-- Credit at `rate` kb/s over a span, in 2^-16 byte. -/
def policerCredit (rate : Nat) (span : Instant) : Nat := rate * span / 8000000

/-- A policer credited to line time `t` (R161, Table 7-2), never backward; in SRTCM what overflows C fills E. -/
def Policer.credit (x : Policer) (t : Instant) : Policer :=
  let dt := t - x.at_
  let t := max t x.at_
  let c := x.tc + policerCredit x.p.cir dt
  let cbs := x.p.cbs * 65536
  let xbs := x.p.xbs * 65536
  match x.p.mode with
  | .srtcm => { x with tc := min c cbs, tx := min xbs (x.tx + (c - cbs)), at_ := t }
  | _ => { x with tc := min c cbs, tx := min xbs (x.tx + policerCredit x.p.xir dt), at_ := t }

/-- The bytes a packet of length `len` is metered as: never less than 1 (R161). -/
def Policer.size (x : Policer) (len : Nat) : Nat := (max 1 ((len : Int) + x.p.adjust)).toNat

/-- Meter a packet (R160): the result colour and the policer after it. -/
def Policer.meter (x : Policer) (t : Instant) (len : Nat) (col : Colour) : Colour × Policer :=
  let x := x.credit t
  let n := x.size len
  let b := n * 65536
  let green := ({ x with nGreen := x.nGreen + 1, bGreen := x.bGreen + n } : Policer)
  let yellow := ({ x with nYellow := x.nYellow + 1, bYellow := x.bYellow + n } : Policer)
  let red := ({ x with nRed := x.nRed + 1, bRed := x.bRed + n } : Policer)
  match x.p.mode with
  | .trtcm =>
    if (x.p.aware && col == .red) || decide (x.tx < b) then (.red, red)
    else if (x.p.aware && col == .yellow) || decide (x.tc < b) then (.yellow, { yellow with tx := x.tx - b })
    else (.green, { green with tx := x.tx - b, tc := x.tc - b })
  | _ =>
    if x.p.aware && col == .red then (.red, red)
    else if (col == .green || !x.p.aware) && decide (b ≤ x.tc) then (.green, { green with tc := x.tc - b })
    else if b ≤ x.tx then (.yellow, { yellow with tx := x.tx - b })
    else (.red, red)

/-- The checks of policer.set (R160). -/
def checkPolicer (idx : Nat) (p : PolicerParams) : Status :=
  if decide (idx < 2097152 ∧ p.cir < 2 ^ 32 ∧ p.xir < 2 ^ 32 ∧ p.cbs ≤ 268435455 ∧ p.xbs ≤ 268435455 ∧
      -64 ≤ p.adjust ∧ p.adjust ≤ 64) && !(p.mode == .trtcm && decide (p.xir < p.cir)) then .ok
  else .paramRange

/-- Set a policer (R161): full when created, when its mode changes and with REFILL; else the counts stay, clamped. -/
def putPolicer (idx : Nat) (p : PolicerParams) (refill : Bool) (s : State) : State :=
  let full : Policer := { p := p, tc := p.cbs * 65536, tx := p.xbs * 65536, at_ := switchTime s }
  let v := match Tbl.get none s.q.policers idx with
    | none => full
    | some (old : Policer) =>
      let x := old.credit (switchTime s)
      if refill || old.p.mode != p.mode then { x with p := p, tc := full.tc, tx := full.tx }
      else { x with p := p, tc := min x.tc full.tc, tx := min x.tx full.tx }
  modQ (fun q => { q with policers := Tbl.set none q.policers idx (some v) }) s

/-- policer.set: the token counts after the change. -/
def doPolicerSet (idx : Nat) (p : PolicerParams) (refill : Bool) : Body := fun s =>
  match checkPolicer idx p with
  | .ok =>
    let s := putPolicer idx p refill s
    let x : Policer := (Tbl.get none s.q.policers idx).getD {}
    okData [x.tc / 65536, x.tx / 65536] s
  | st => fail st s

/-- policer.read. -/
def doPolicerRead (idx : Nat) (clear : Bool) : Body :=
  require (decide (idx < 2097152)) .paramRange fun s =>
    match Tbl.get none s.q.policers idx with
    | none => fail .entryAbsent s
    | some (old : Policer) =>
      let x := old.credit (switchTime s)
      let y : Policer := if clear then { x with nGreen := 0, nYellow := 0, nRed := 0, bGreen := 0, bYellow := 0, bRed := 0 } else x
      okData [x.tc / 65536, x.tx / 65536, x.nGreen, x.bGreen, x.nYellow, x.bYellow, x.nRed, x.bRed]
        (modQ (fun q => { q with policers := Tbl.set none q.policers idx (some y) }) s)

/-! ### Gate lists (R162, R163) -/

/-- The start S of a list for a commit instant `c` (R163), and whether N > 0. -/
def gateStart (g : GateList) (c : Instant) : Instant × Bool :=
  let t := c + us 10
  if t ≤ g.base then (g.base, false)
  else
    let k := (t - g.base + ns g.cycle - 1) / ns g.cycle
    (g.base + k * ns g.cycle, decide (0 < k))

/-- The checks of gate.list.set (R162, R163). -/
def checkGateList (p : Nat) (g : GateList) (s : State) : Status :=
  if !s.hasPort p then s.noUnit p 32
  else if !decide (1000 ≤ g.cycle ∧ g.cycle ≤ 1000000000 ∧ 1 ≤ g.entries.length ∧ g.entries.length ≤ 1024) ∨
      g.entries.any (fun e => !decide (64 ≤ e.2 ∧ e.2 ≤ 1000000000)) then .paramRange
  else if !switchValid s then .timeInvalid
  else .ok

/-- Set a list for a commit instant: it replaces one that waits (R163). -/
def putGateList (p : Nat) (g : GateList) (c : Instant) (s : State) : State :=
  let st := gateStart g c
  placeItem (.gateStart p) st.1 (modPort p (fun v => { v with gateNext := some { list := g, s := st.1, late := st.2 } }) s)

/-- gate.list.set given directly: the commit instant is the acceptance. -/
def doGateListSet (p : Nat) (g : GateList) : Body := fun s =>
  match checkGateList p g s with
  | .ok =>
    let st := (gateStart g (switchTime s)).1
    okData [secOf st, nsOf st, fracOf st] (putGateList p g (switchTime s) s)
  | st => fail st s

/-- A list's words: base, cycle, FALLBACK, entries, S. -/
def gateListWords (g : Option GateRun) : List Nat :=
  match g with
  | none => [0]
  | some r => [1, secOf r.list.base, nsOf r.list.base, fracOf r.list.base, r.list.cycle, r.list.fallback.toNat,
      r.list.entries.length] ++ (r.list.entries.flatMap fun (e : BitVec 8 × Nat) => [e.1.toNat, e.2]) ++ [secOf r.s, nsOf r.s, fracOf r.s]

/-- gate.status (Table 7-5): the running list and the waiting one, each with its S, and the frames dropped with GATE_TOO_LONG. -/
def doGateStatus (p : Nat) : Body := fun s =>
  match portStatusOf p s with
  | .ok =>
    let v := s.port p
    okData (gateListWords v.gate ++ gateListWords v.gateNext ++ [v.stats.egGate.foldl (fun a x => a + x.2) 0]) s
  | st => fail st s

/-- The next instant after `t` at which the list's entry changes. -/
def nextGate (g : GateList) (t : Instant) : Instant :=
  let off := gatePhase g t
  let ends := g.entries.foldl (fun (a : List Nat × Nat) e => (a.1 ++ [a.2 + ns e.2], a.2 + ns e.2)) ([], 0)
  let k := ((ends.1.filter fun e => decide (off < e ∧ e < ns g.cycle)).head?).getD (ns g.cycle)
  t + (k - off)

/-- GATE_LIST_START (R37, R163): at the due tick of S the waiting list runs; both events report S. -/
def execGateListStart (p : Nat) (s : State) : Host.Outcome State Fault Refusal := .next (
  match (s.port p).gateNext with
  | none => unplace (.gateStart p) s
  | some r =>
    if switchValid s && decide (r.s ≤ switchTime s) && wheelTurn (.gateStart p) s then
      let s := regate p (modPort p (fun v => { v with gate := some r, gateNext := none }) (unplace (.gateStart p) s))
      let s := placeItem (.gate p) (nextGate r.list (switchTime s)) s
      let s := emit (.gateStarted p r.s r.late) (raise 0xB4 s)
      if r.late then raise 0xB5 s else s
    else s)

/-- GATE_EVENT (R37, R156, R162): the gates change at the due tick, and the next change goes on the wheel. -/
def execGateEvent (p : Nat) (s : State) : Host.Outcome State Fault Refusal := .next (
  match (s.port p).gate with
  | none => unplace (.gate p) s
  | some r =>
    if switchValid s && wheelTurn (.gate p) s then placeItem (.gate p) (nextGate r.list (switchTime s)) (regate p s) else s)

/-! ### The barometer (R166, R167) -/

/-- The next line-time multiple of a period after `t`. -/
def nextSample (period : Nat) (t : Instant) : Instant := (t / us period + 1) * us period

/-- barometer.watch (R4, R166): settings, or clear; the egress queues of an absent port do not exist. A slot in use is zeroed. -/
def doBarometerWatch (slot : Nat) (p : Option WatchParams) : Body := fun s =>
  let ok := decide (slot < 4096) && match p with
    | none => true
    | some w => decide (w.queue ≤ 65535 ∧ 1 ≤ w.period ∧ w.period ≤ 65535 ∧ 1 ≤ w.depthBase ∧ w.depthBase ≤ 16777215 ∧
        1 ≤ w.sojBase ∧ w.sojBase ≤ 16777215)
  let absent := match p with | none => false | some w => decide (w.queue < 256) && !s.hasPort (w.queue / 8)
  require ok .paramRange (require (!absent) .unitAbsent (fun s =>
    match p with
    | none => okNone (unplace (.barometer slot) (modQ (fun q => { q with watch := Tbl.set none q.watch slot none }) s))
    | some w =>
      let due := nextSample w.period (switchTime s)
      okNone (placeItem (.barometer slot) due
        (modQ (fun q => { q with watch := Tbl.set none q.watch slot (some { p := w, due := due }) }) s)))) s

/-- The bin a value counts in (R166). -/
def binOf (base v : Nat) : Nat :=
  if v < base then 0 else if base * 2 ^ 14 ≤ v then 15 else Nat.log2 (v / base) + 1

/-- Depth and sojourn of a queue (R166): cells, or 256-byte units rounded up; the oldest head packet's wait in ns. -/
def sampleOf (q : Nat) (s : State) : Nat × Nat :=
  let now := switchTime s
  if q < 256 then
    let l := Tbl.get [] (s.port (q / 8)).queues (q % 8)
    ((egressBytes l + 255) / 256, match l.head? with | some f => (now - f.at_) / 65536 | none => 0)
  else match s.queue q with
    | none => (0, 0)
    | some v =>
      let heads := v.lists.filterMap fun (x : Nat × List QPkt) => x.2.head?.map QPkt.at_
      (v.cells, match heads with | [] => 0 | h :: t => (now - t.foldl min h) / 65536)

/-- Count a value in a histogram of 32-bit saturating bins. -/
def addBin (base v : Nat) (h : Tbl Nat) : Tbl Nat := Tbl.modify 0 h (binOf base v) (satInc 32)

/-- BAROMETER_SAMPLE (R156, R166): a watch slot samples at a line-time multiple of its period, from the start of its wheel slot. -/
def execBarometerSample (slot : Nat) (s : State) : Host.Outcome State Fault Refusal := .next (
  match Tbl.get none s.q.watch slot with
  | none => unplace (.barometer slot) s
  | some (w : Watch) =>
    if switchTime s < w.due ∨ !wheelTurn (.barometer slot) s then s
    else
      let (d, j) := sampleOf w.p.queue s
      let alarm := decide (0 < w.p.alarm ∧ w.p.alarm < j)
      let next := w.due + us w.p.period
      let w' := { w with
        due := next, depth := addBin w.p.depthBase d w.depth, soj := addBin w.p.sojBase j w.soj, n := w.n + 1
        sumD := w.sumD + d, sumS := w.sumS + j, maxD := max w.maxD d, maxS := max w.maxS j
        first := if w.n = 0 then switchTime s else w.first, last := switchTime s, alarm := w.alarm || alarm }
      let s := placeItem (.barometer slot) next
        (modQ (fun q => { q with watch := Tbl.set none q.watch slot (some w') }) s)
      if alarm then raiseOnce 0xB8 s else s)

/-- The alarm bitmap of barometer.read. -/
def alarmBits (s : State) : Nat :=
  s.q.watch.foldl (fun a x => match x.2 with | some w => if w.alarm then a + 2 ^ x.1 else a | none => a) 0

/-- barometer.read (R167). -/
def doBarometerRead (slot : Nat) (clear : Bool) : Body :=
  require (decide (slot < 4096)) .paramRange fun s =>
    match Tbl.get none s.q.watch slot with
    | none => fail .entryAbsent s
    | some (w : Watch) =>
      let mean := fun sum => if w.n = 0 then 0xFFFF else min (sum / w.n) 0xFFFE
      let bins := fun h => (List.range 16).map fun k => Tbl.get 0 h k
      let data := bins w.depth ++ bins w.soj ++ [mean w.sumD, mean (w.sumS / 1000), w.maxD, w.maxS, w.n,
        secOf w.first, nsOf w.first, fracOf w.first, secOf w.last, nsOf w.last, fracOf w.last, alarmBits s]
      let s := if clear then
          modQ (fun q => { q with watch := Tbl.set none q.watch slot (some { p := w.p, due := w.due }) }) s else s
      okData data s

/-- Bytes in the egress pool (R148). -/
def poolBytes (s : State) : Nat :=
  s.ports.foldl (fun a p => p.2.queues.foldl (fun b x => b + egressBytes x.2) a) 0

/-- The egress drops of every port by one reason (R159, R165, R168, R196, R269). -/
def egressDrops (f : PortStats → Nat) (s : State) : Nat := s.ports.foldl (fun a x => a + f x.2.stats) 0

/-- A reason's drops over a port's queues. -/
def sumOf (t : Tbl Nat) : Nat := t.foldl (fun a x => a + x.2) 0

/-- store.status (Table 7-5): both occupancies, and the drops of both stores by reason. -/
def doStoreStatus : Body := fun s =>
  okData [s.q.used, poolBytes s, s.q.nTrib, s.q.nStore, s.q.nLimit, s.q.nYellow, s.q.nAge, s.q.nNoQueue, s.q.nSplit,
    s.q.nSession, s.q.nFlush, s.q.nIntegrity, s.q.nAssocState, s.q.nExhausted, s.q.nClosed, s.q.nClass, s.q.nLength,
    egressDrops (fun c => sumOf c.egLimit) s, egressDrops (fun c => sumOf c.egYellow) s, egressDrops (fun c => sumOf c.egPool) s,
    egressDrops (fun c => sumOf c.egAge) s, egressDrops (fun c => sumOf c.egGate) s, egressDrops (fun c => c.portDown) s,
    egressDrops (fun c => c.authFail) s] s

/-- Bytes in segmentation staging, and its size (Table 7-1). -/
def stagedBytes (s : State) : Nat := s.q.staging.foldl (fun a x => a + x.2.2.bytes.length) 0
def stagingSize : Nat := 8388608

end Sys2Proof.Machine
end

