-- ==== Sys2Proof/Machine/Bursts.lean ====
section
/-! DEFINITION. Upstream bursts (chapters 03 to 05, 07): forecasts, the assembler's draw, ranging bursts, and the
emission of held and standing grants. -/

namespace Sys2Proof.Machine

/-! ### Forecasts (R92 to R94) -/

/-- Cells as a volume in 1,024-byte units scaled by 2^16 (R93). -/
def volume (cells : Nat) : Nat := cells * 16384

/-- The forecast of interval `i`, scaled by 2^16 (R93). -/
def Forecast.at (f : Forecast) (i : Nat) : Nat := (f.level + i * f.trend).toNat

/-- A class's forecast of interval `i` in units of 1,024 bytes; before two full intervals the measured rate × 8 ms (R94). -/
def Forecast.fc (f : Forecast) (now : Instant) (i : Nat) : Nat :=
  if !f.on then 0
  else if 2 ≤ f.intervals then f.at i / 65536
  else if now ≤ f.since then 0
  else f.total * superTime / (4 * (now - f.since))

/-- A class's confidence (R93). -/
def Forecast.conf (f : Forecast) : Nat :=
  if f.intervals < 2 ∨ f.errs.isEmpty then 0
  else 15 - f.errs.foldl (· + ·) 0 * 16 / (f.errs.length * max f.level.toNat (64 * 65536))

/-- Classes of a carrier that have history. -/
def Carrier.hist (c : Carrier) : List Forecast := (c.fc.map fun (x : Nat × Forecast) => x.2).filter fun f => f.on

/-- No class has two full intervals yet: SHORT_HISTORY (Table 4-7). -/
def Carrier.short (c : Carrier) : Bool := c.hist.all fun f => decide (f.intervals < 2)

/-- CONF of interval 1 (R93): the classes' mean weighted by FC[1], rounded down. -/
def Carrier.conf1 (c : Carrier) (now : Instant) : Nat :=
  let l := c.hist
  if c.short then 0
  else
    let w := l.foldl (fun a f => a + f.fc now 1) 0
    if w = 0 then l.foldl (fun a f => a + f.conf) 0 / l.length
    else l.foldl (fun a f => a + f.conf * f.fc now 1) 0 / w

/-- The forecast report of carrier `n` (R92); in a split only FORMAT and FRAME (R113). -/
def reportOf (n : Nat) (s : State) : List Byte :=
  let now := lineTime s
  if s.die.split then reportBytes false false [] (frameCount now) [] [] 0
  else
    let c := s.carrier n
    let k := c.conf1 now
    let f := fun j => (Tbl.get {} c.fc j : Forecast)
    reportBytes c.short (decide (0 < c.discarding)) [k, k - 2, k - 4, k - 6] (frameCount now)
      ((List.range 8).map fun j => classCells n j s)
      ((List.range 4).map fun i => (List.range 8).map fun j => (f j).fc now (i + 1))
      ((c.hist.foldl (fun a f => a + f.last) 0) / 4)

/-- One class's update at a superframe boundary `b` (R93): a full interval of `cells` cells has ended. -/
def Forecast.update (f : Forecast) (a b : Nat) (bound : Instant) : Forecast :=
  if !f.on then f
  else if bound < f.since + superTime then { f with cells := 0 }
  else
    let x := volume f.cells
    let g : Forecast := { f with intervals := f.intervals + 1, last := f.cells, cells := 0 }
    if f.intervals = 0 then { g with first := f.cells }
    else if f.intervals = 1 then { g with level := x, trend := (x : Int) - volume f.first }
    else
      let l := ((a : Int) * x + (256 - a) * (f.level + f.trend)) / 256
      let err := ((f.at 1 : Int) - x).natAbs
      { g with level := l, trend := ((b : Int) * (l - f.level) + (256 - b) * f.trend) / 256, errs := (err :: f.errs).take 8 }

/-- FORECAST_UPDATE of carrier `n` at the superframe boundary `b`. -/
def updateForecast (b : Instant) (n : Nat) (s : State) : State :=
  let c := s.carrier n
  let fc := c.fc.map fun (x : Nat × Forecast) => (x.1, x.2.update c.gainA c.gainB b)
  let c' := { c with fc := fc, lastFc := some (b / superTime), discarding := c.discarding - 1 }
  let rise := !c.confident && decide (0 < c'.conf1 (lineTime s))
  let s := setCarrier n { c' with confident := c.confident || rise } s
  if rise then raise 0x6E s else s

/-- FORECAST_UPDATE (R93): once at every superframe boundary. -/
def execForecastUpdate (s : State) : Host.Outcome State Fault Refusal := .next (
  let b := lineTime s / superTime * superTime
  forEach (s.carrierNums.filter fun n => (s.carrier n).lastFc != some (b / superTime)) (updateForecast b) s)

/-! ### Weighted service (R154) -/

/-- Deficit weighted round robin over (key, quantum) pairs: the first with deficit left; when none has any, as many
rounds of quanta are given to all as leave one with some. Answers the choice and the deficits. -/
def dwrr (l : List (Nat × Nat)) (d : Tbl Int) : Option (Nat × Tbl Int) :=
  match l.find? (fun x => decide (0 < Tbl.get 0 d x.1)) with
  | some x => some (x.1, d)
  | none =>
    let need := fun (x : Nat × Nat) => ((0 - Tbl.get 0 d x.1).toNat + x.2) / max 1 x.2
    match l with
    | [] => none
    | h :: t =>
      let k := max 1 (t.foldl (fun a x => min a (need x)) (need h))
      let d' := l.foldl (fun d x => Tbl.modify 0 d x.1 (· + ((k * max 1 x.2 : Nat) : Int))) d
      (l.find? (fun x => decide (0 < Tbl.get 0 d' x.1))).map fun x => (x.1, d')

/-- Charge a deficit. -/
def charge (d : Tbl Int) (k : Nat) (n : Int) : Tbl Int := Tbl.modify 0 d k (· - n)

/-! ### The draw (R111, R113, R118, R154, R155) -/

/-- A fence is not met for a grant start (R118): cells of the tributary wait on the old carrier, or its last cell there ends after
the start. -/
def Fence.unmet (s : State) (f : Fence) (start : Instant) : Bool :=
  tribWaits s f.old f.trib || decide (start < lastEnd s f.old f.trib)

/-- A fence holds a tributary off its new carrier `n` for a grant start (R118). -/
def fenced (n t : Nat) (start : Instant) (s : State) : Bool :=
  s.trib.fences.any fun f => f.trib == t && f.new == n && f.unmet s start

/-- Fences of carrier `n` that a draw on it meets are released (R118). -/
def meetFences (n : Nat) (start : Instant) (s : State) : State :=
  { s with trib := { s.trib with fences := s.trib.fences.filter fun f => f.new != n || f.unmet s start } }

/-- A node's shaper conforms. -/
def Node.conforms (v : Node) : Bool := match v.shaper with | none => true | some x => x.conforms

/-- Association and class nodes. -/
def State.node (s : State) (a : Nat) : Node := Tbl.get {} s.q.nodes a
def State.classNode (s : State) (a c : Nat) : Node := Tbl.get {} s.q.classNodes (8 * a + c)

/-- Credit every node's shaper up to an instant (R158). -/
def creditNodes (t : Instant) (s : State) : State :=
  let f := fun (x : Nat × Node) => (x.1, { x.2 with shaper := x.2.shaper.map fun h => h.credit t })
  modQ (fun q => { q with nodes := q.nodes.map f, classNodes := q.classNodes.map f }) s

/-- A leaf queue that may be drawn from: number, association, class, weight, and whether its head packet has begun. -/
structure Cand where
  q     : Nat
  assoc : Nat
  cls   : Nat
  weight : Nat
  begun : Bool

/-- The leaf queues of carrier `n` that may be drawn from for a grant start (R154, R155); the shapers are credited up to the emission
instant. -/
def candidates (n : Nat) (start : Instant) (s : State) : List Cand :=
  let l := s.q.tab.filterMap fun (x : Nat × Option Queue) =>
    match x.2 with
    | none => none
    | some q => match Tbl.get [] q.lists n with
      | [] => none
      | p :: _ =>
        if (s.node q.assoc).conforms && (s.classNode q.assoc q.cls).conforms && !fenced n p.trib start s then
          some ({ q := x.1, assoc := q.assoc, cls := q.cls, weight := q.weight, begun := decide (0 < p.drawn) } : Cand)
        else none
  l.filter fun c => c.begun || !(s.q.tab.any fun x => match x.2 with
    | none => false
    | some q => q.assoc == c.assoc && q.cls == c.cls && (Tbl.get [] q.lists n).any fun p => decide (0 < p.drawn))

/-- The associations of a list of candidates with their quanta, at keys from `base` on. -/
def assocQuanta (base : Nat) (l : List Cand) (s : State) : List (Nat × Nat) :=
  ((l.map fun c => c.assoc).dedup).map fun a => (base + a, (s.node a).weight * 4)

/-- Choose the leaf queue of an association and class (R154): DWRR over its flow groups. -/
def pickLeaf (n a c : Nat) (l : List Cand) (s : State) : Option (Nat × State) :=
  let m := l.filter fun x => x.assoc == a && x.cls == c
  match m.find? (fun x => x.begun) with
  | some x => some (x.q, s)
  | none =>
    (dwrr (m.map fun x => (n * 65536 + x.q, x.weight * 4)) s.q.defLeaf).map fun r =>
      (r.1 - n * 65536, modQ (fun q => { q with defLeaf := r.2 }) s)

/-- The highest class in a list. -/
def topClass (l : List Cand) : Nat := l.foldl (fun a x => max a x.cls) 0

/-- Choose the leaf queue of the next cell in the order of R154: expedited classes from 7 down, then the others. -/
def pickQueue (n : Nat) (start : Instant) (s : State) : Option (Nat × State) :=
  let l := candidates n start s
  let ex := l.filter fun x => (s.classNode x.assoc x.cls).expedite
  if ex.isEmpty then
    (dwrr (assocQuanta (n * 4096) l s) s.q.defNode).bind fun r =>
      let a := r.1 - n * 4096
      let s := modQ (fun q => { q with defNode := charge r.2 r.1 1 }) s
      pickLeaf n a (topClass (l.filter fun x => x.assoc == a)) l s
  else
    let c := topClass ex
    let e := ex.filter fun x => x.cls == c
    let base := (4 * c + n) * 4096
    (dwrr (assocQuanta base e s) s.q.defExp).bind fun r =>
      let s := modQ (fun q => { q with defExp := charge r.2 r.1 1 }) s
      pickLeaf n (r.1 - base) c e s

/-- Charge a node's shaper for a cell; out of tokens, the node waits on the wheel (R158). -/
def serveNode (k : WheelKind) (get : State → Node) (put : Node → State → State) (s : State) : State :=
  match (get s).shaper with
  | none => s
  | some x =>
    let x := x.serve 256
    let s := put { (get s) with shaper := some x } s
    if x.conforms then s else placeItem k x.backAt s

/-- A cell as it is drawn: bytes, queue, tributary, whether it is a packet's last cell, and its trace. -/
structure Drawn where
  bytes : List Byte
  q     : Option Nat := none
  trib  : Option Nat := none
  trace : Option Nat := none

/-- Draw the next cell of queue `k`'s head packet on carrier `n` (R108, R155). -/
def drawCell (n k : Nat) (s : State) : Drawn × State :=
  match s.queue k with
  | none => ({ bytes := calmCell }, s)
  | some v => match Tbl.get [] v.lists n with
    | [] => ({ bytes := calmCell }, s)
    | p :: t =>
      let total := cellsOf p.bytes.length
      let last := p.drawn + 1 == total
      let part := slice p.bytes (248 * p.drawn) 248
      let h : CellHdr := {
        first := p.drawn == 0, last := last, dst := p.dst, src := s.reg.number.getD 0, trib := p.trib, assoc := p.peer
        cls := p.cls, fill := part.length - 1 }
      let bytes := h.bytes ++ part ++ zeros (248 - part.length)
      let list := if last then t else { p with drawn := p.drawn + 1 } :: t
      let s := setQueue k (some { v with lists := Tbl.set [] v.lists n list }) s
      let s := if last then modQ (fun q => { q with defLeaf := charge q.defLeaf (n * 65536 + k) total }) s else s
      let s := freeCells 1 s
      let s := serveNode (.node v.assoc) (fun s => s.node v.assoc)
        (fun x => modQ fun q => { q with nodes := Tbl.set {} q.nodes v.assoc x }) s
      let s := serveNode (.classNode v.assoc v.cls) (fun s => s.classNode v.assoc v.cls)
        (fun x => modQ fun q => { q with classNodes := Tbl.set {} q.classNodes (8 * v.assoc + v.cls) x }) s
      let s := pmcCount { code := 0x51, cls := some v.cls, line := true } s
      let s := if p.drawn = 0 then traceStage p.trace 6 s else s
      let s := if last then traceStage p.trace 7 s else s
      ({ bytes := bytes, q := some k, trib := some p.trib, trace := if last then p.trace else none }, s)

/-- Fill up to `fuel` positions with data cells (R154 steps 2 and 3). -/
def drawCells (n : Nat) (start : Instant) : Nat → State → List Drawn × State
  | 0, s => ([], s)
  | fuel + 1, s =>
    match pickQueue n start s with
    | none => ([], s)
    | some (k, s) =>
      let (d, s) := drawCell n k s
      let (l, s) := drawCells n start fuel s
      (d :: l, s)

/-- The management cells of the channels bound to carrier `n` (R114): at most one of each channel in a frame period of line time;
a part-filled one is the LAST (log entry 24). -/
def mchCells (n period : Nat) (s : State) : List Drawn × State :=
  [0, 1, 2, 3].foldl (fun (a : List Drawn × State) ch =>
    let m := a.2.channel ch
    match m.cells with
    | b :: t =>
      if m.carrier = n ∧ m.sentIn ≠ some period then
        let h : CellHdr := { type := 2, assoc := ch, last := decide (b.length < 248), fill := b.length - 1 }
        (a.1 ++ [{ bytes := h.bytes ++ b ++ zeros (248 - b.length) }],
          modChannel ch (fun m => { m with cells := t, sentIn := some period }) a.2)
      else a
    | [] => a) ([], s)

/-- Bytes waiting upstream on the management channels (Table 5-5, MCH_BACKLOG). -/
def mchBacklog (s : State) : List Nat :=
  [0, 1, 2, 3].map fun ch => let m := s.channel ch; m.upQ.length + m.cells.foldl (fun a b => a + b.length) 0

/-- How many cells the die link lets the assembler draw: none in a retrain (R184), and at a width that does not carry what the carriers
need a free value (R185, log entry 20). -/
def drawLimit (room : Nat) (s : State) : Nat × State :=
  if s.die.split || s.die.retrain then (0, s)
  else if !dieCarries s.die.widthUp s then
    let (v, s) := draw s
    (v % (room + 1), s)
  else (room, s)

/-- A grant that comes before bursts which are drawn already takes the remainder they were to complete: they are never emitted
(log entry 22). -/
def yieldTo (n : Nat) (g : Grant) (s : State) : State :=
  let d := (s.carrier n).drawn
  match d.dropWhile fun b => decide (b.grant.emit ≤ g.emit) with
  | [] => s
  | b :: after =>
    modCarrier n (fun c => { c with
      drawn := d.takeWhile fun b => decide (b.grant.emit ≤ g.emit), remainder := b.remIn, remTrib := b.remTribIn })
      (loseBursts (b :: after) s)

/-- Assemble the burst of grant `g` on carrier `n` (R111, R113, R154): the held remainder, management cells, data cells, calm cells.
The split report holds only the remainder and calm cells: upstream management frames wait in their buffers (Table 13-7). `data` is
false for a burst that is drawn too late for cells of the queues. -/
def assemble (n : Nat) (g : Grant) (data : Bool) (s : State) : Burst × State :=
  let s := yieldTo n g s
  let c := s.carrier n
  let size := burstBytes g.len
  let pos := (size - c.remainder.length + 255) / 256
  let at_ := ((g.emit : Int) + downDelay s).toNat
  let (m, s) := if s.die.split then ([], s) else mchCells n (at_ / frameTime) s
  let (d, s) := if data then
      let s := meetFences n g.start (creditNodes at_ (ageAll s))
      let (room, s) := drawLimit (pos - m.length) s
      drawCells n g.start room s
    else ([], s)
  let cells := (m ++ d).take pos
  let calm := pos - cells.length
  let s := pmcCount { code := 0x52, weight := calm, line := true } s
  let all := c.remainder ++ (cells.map fun x => x.bytes).flatten ++ (List.replicate calm calmCell).flatten
  let rest := all.drop size
  let lastTrib := if calm = 0 then (cells.getLast?).bind fun x => x.trib else none
  let whole := if rest.isEmpty ∨ 0 < calm then cells else cells.dropLast
  let queues := (cells.filterMap fun x => x.q).dedup
  let b : Burst := {
    grant := g, payload := all.take size, offset := c.remainder.length, calmOnly := cells.isEmpty, report := reportOf n s
    backlog := mchBacklog s, remIn := c.remainder, remTribIn := c.remTrib, cut := !rest.isEmpty
    tribs := whole.filterMap (fun x => x.trib) ++ c.remTrib.toList
    cells := queues.map fun k => (k, (cells.filter fun x => x.q == some k).length)
    traces := cells.filterMap fun x => x.trace }
  (b, modCarrier n (fun c => { c with remainder := rest, remTrib := if rest.isEmpty then none else lastTrib }) s)

/-! ### Which grant comes next -/

/-- Grants of carrier `n` for data, held ones and the next repetitions of standing ones, that `b` bursts are drawn
for already, as grants with their emission instants. -/
def nextGrants (n : Nat) (s : State) : List Grant :=
  let c := s.carrier n
  let held := c.held.filter fun g => !g.ranging
  let rep := c.standing.filterMap fun x =>
    let k := (c.drawn.filter fun b => b.grant.standing == some x.id).length
    if (match x.left with | some l => decide (l ≤ k) | none => false) then none
    else
      let start := x.start + k * x.period * frameTime
      let emit := x.emitK s c k
      some ({ id := x.id, start := start, len := x.len, emit := emit, window := windowAt n emit x.ramp x.len s
              arrival := 0, standing := some x.id } : Grant)
  held ++ rep

/-- The earliest in emission. -/
def earliest : List Grant → Option Grant
  | [] => none
  | g :: t => some (t.foldl (fun a b => if b.emit < a.emit then b else a) g)

/-- A drawn burst is that of a grant. -/
def Burst.isFor (g : Grant) (b : Burst) : Bool :=
  b.grant.standing == g.standing && b.grant.start == g.start && b.grant.id == g.id

/-- A burst is drawn for a held grant. -/
def isDrawn (c : Carrier) (g : Grant) : Bool := c.drawn.any (Burst.isFor g)

/-- The next grant of carrier `n` that no burst is drawn for. -/
def nextUndrawn (n : Nat) (s : State) : Option Grant :=
  earliest ((nextGrants n s).filter fun g => g.standing.isSome || !isDrawn (s.carrier n) g)

/-- BURST_DRAW (R118, R154): at least 10 µs before its emission instant, the next burst of carrier `n` is drawn. -/
def execBurstDraw (n : Nat) (s : State) : Host.Outcome State Fault Refusal := .next (
  match nextUndrawn n s with
  | none => s
  | some g =>
    if s.reg.state = .operating && !s.die.split && decide (received s + us 10 ≤ g.emit) then
      let (b, s) := assemble n g true s
      modCarrier n (fun c => { c with drawn := c.drawn ++ [b] }) s
    else s)

/-! ### Emission (R15, R60 to R65, R67, R91, R105, R112, R113) -/

/-- The grant is used up: a held one leaves the holding, a standing one goes on to its next repetition, and after its last one it
ends; a cancelled one stays until the repetition at which its cancel takes effect (R91). -/
def spend (n : Nat) (g : Grant) (s : State) : State :=
  modCarrier n (fun c =>
    match g.standing with
    | none => { c with held := c.held.filter fun x => !(x.id == g.id && x.start == g.start && !x.ranging) }
    | some k => { c with standing := c.standing.filterMap fun x =>
        if x.id ≠ k then some x
        else match x.left with
          | some l => if l ≤ 1 && !x.cancel then none else
              some { x with start := x.start + x.period * frameTime, left := some (l - 1) }
          | none => some { x with start := x.start + x.period * frameTime } }) s

/-- The grant is left dark and counted against the carrier (Table 1-6). -/
def leaveDark (n : Nat) (g : Grant) (s : State) : State := emit (.dark n g.id) (countDropped n 1 s)

/-- A grant that stays dark for one reason or another is used up, and a burst drawn for it is never emitted (R113, log entry 22). -/
def forgo (n : Nat) (g : Grant) (s : State) : State := spend n g (letGo n (Burst.isFor g) s)

/-- A window that R64 does not let be emitted: it overlaps the window before it, or for a repetition a window accepted
earlier, is longer than GATE_MAX_ON, or straddles a committed change. -/
def windowRefused (n : Nat) (g : Grant) (w : Nat) (s : State) : Bool :=
  let c := s.carrier n
  decide (g.emit < c.winEnd ∨ us (c.gateAt g.emit).maxOn < w) || straddles s n g.emit w ||
    (match g.standing with
      | none => false
      | some k =>
        c.held.any (fun h => overlaps g.emit w h.emit h.window) ||
          (c.standing.takeWhile fun x => x.id != k).any (hitsStanding s n c g.emit w))

/-- The burst header's bytes with its tag (R112). -/
def headerOf (n : Nat) (b : Burst) (g : Grant) (s : State) : List Byte :=
  let c := s.carrier n
  let st : Nat := s.die.split.toNat + 2 * b.calmOnly.toNat + 4 * c.degraded.toNat + 8 * (s.time.servo != .track).toNat
  let h : BurstHdr := {
    terminal := s.reg.number.getD 0, slot := c.slot.getD 0, grant := g.id, epoch := s.reg.epoch, seq := c.burstSeq
    profile := c.profile, ramp := (c.gateAt g.emit).ramp, offset := b.offset, status := BitVec.ofNat 4 st
    last := c.lastFrame, report := b.report, backlog := b.backlog }
  h.bytes ++ ((Config.gmac ((s.reg.key.map (·.name)).getD 0) h.iv h.bytes ++ zeros 16).take 16)

/-- The window of a burst as it leaves (R62, R65): its beginning, length, profile and gate drive. -/
def windowOf (n : Nat) (g : Grant) (s : State) : Window :=
  { at_ := g.emit, len := g.window, profile := windowProfile n g.emit s, gate := (s.carrier n).gateAt g.emit }

/-- A burst begins its ramp-up (R15, R63, R65): its window is the carrier's registered one, its report is the last one sent, and in a
split it is the terminal's one split report. -/
def beginBurst (n : Nat) (g : Grant) (report : List Byte) (s : State) : State :=
  let s := modCarrier n (fun c => { (c.takeGate g.emit) with
    winStart := g.emit, winEnd := g.emit + g.window, nEmitted := c.nEmitted + 1, report := report }) s
  { s with die := { s.die with reported := s.die.reported || s.die.split } }

/-- Emit the burst of a grant (R62, R112): its drawn burst; one that nothing is drawn for 10 µs before it is filled without the queues
(R118, log entry 88). The bytes leave scrambled, header and codewords each from the seed (R102). -/
def emitBurst (n : Nat) (g : Grant) (s : State) : State :=
  let (b, s) := match (s.carrier n).drawn.find? (Burst.isFor g) with
    | some b => (b, modCarrier n (fun c => { c with drawn := c.drawn.erase b }) s)
    | none => assemble n g false s
  let w := windowOf n g s
  let s := beginBurst n g b.report (modCarrier n (fun c => { c with
    burstSeq := c.burstSeq + 1, tribEnd := b.tribs.foldl (fun t k => Tbl.set 0 t k (g.start + g.window)) c.tribEnd }) s)
  let s := emit (.burst n w (scramble (headerOf n b g s)) (scramble b.payload)) s
  b.traces.foldl (fun s t =>
    let at_ := ((g.emit : Int) + downDelay s).toNat
    traceEnd (some t) id (traceStageAt (some t) 8 at_ s)) s

/-- The earliest data grant of carrier `n`: held, or a repetition of a standing one, drawn or not (R15, R91). -/
def dueGrant (n : Nat) (s : State) : Option Grant :=
  let c := s.carrier n
  let drawn := c.drawn.map fun b => { b.grant with emit := (emitOf s c b.grant.start).toNat }
  let held := c.held.filter fun g => !g.ranging
  earliest (held ++ (drawn.filter fun g => g.standing.isSome) ++ (nextGrants n s).filter fun g => g.standing.isSome)

/-- The carrier can emit a window that begins at received time `t`, from LOST too (R60, R67). -/
def Carrier.canEmit (c : Carrier) (t : Instant) : Bool :=
  (c.state == .locked || c.state == .lost) && !c.inhibited && !c.disabling &&
    (c.clearAt == 0 || decide (c.clearAt + us 1 ≤ t))

/-- The line control key or the split leaves a data burst dark (R105, R113). -/
def keptDark (n : Nat) (s : State) : Bool :=
  keyAged s || (s.carrier n).burstSeq == 0xFFFFFFFF || (s.die.split && s.die.reported)

/-- BURST_EMISSION (R15, R62, R87, Table 1-6): at its emission instant the earliest data grant of carrier `n` is emitted with the
window it was accepted with, refused under R64, or left dark. -/
def execBurstEmission (n : Nat) (s : State) : Host.Outcome State Fault Refusal := .next (
  match dueGrant n s with
  | none => s
  | some g =>
    if received s < g.emit then s
    else
      let s := noteKey (rollKey s)
      if s.reg.state ≠ .operating then leaveDark n g (forgo n g s)
      else if !(s.carrier n).ranged || windowRefused n g g.window s then grantInvalid n (forgo n g s)
      else if !(s.carrier n).canEmit g.emit || keptDark n s then leaveDark n g (forgo n g s)
      else emitBurst n g (spend n g s))

/-- The header of a ranging burst (R112): BURST_SEQ 0, no tag, the epoch of the head that sent RANGE_ASSIGN. -/
def rangingHeader (n : Nat) (g : Grant) (s : State) : List Byte :=
  let c := s.carrier n
  let st : Nat := s.die.split.toNat + 2 + 4 * c.degraded.toNat + 8 * (s.time.servo != .track).toNat
  let h : BurstHdr := {
    ranging := true, terminal := (ownNumber s).getD 0, slot := c.slot.getD 0, grant := g.id
    epoch := if s.reg.state = .ranging ∨ s.reg.state = .discover then s.reg.assignEpoch else s.reg.epoch
    seq := 0, profile := c.profile, ramp := (c.gateAt g.emit).ramp, offset := 0, status := BitVec.ofNat 4 st
    last := c.lastFrame, report := reportOf n s, backlog := mchBacklog s }
  h.bytes ++ zeros 16

/-- The lowest carrier with a ranging grant that is due, and the first such grant. -/
def dueRanging (s : State) : Option (Nat × Grant) :=
  (s.carrierNums.filterMap fun n =>
    ((s.carrier n).held.filter fun g => g.ranging && decide (g.emit ≤ received s)).head?.map fun g => (n, g)).head?

/-- RANGING_BURST (R85, R87, R112): the ranging burst of a due ranging grant carries the step-3 message of Table 4-4, padded with zeros.
Left dark in a split (R113), counted where the state does not allow it (R90). -/
def execRangingBurst (s : State) : Host.Outcome State Fault Refusal := .next (
  match dueRanging s with
  | none => s
  | some (n, g) =>
    let c := s.carrier n
    let s := modCarrier n (fun c => { c with held := c.held.filter fun x => x != g }) s
    if !(s.reg.state == .ranging || (s.reg.state == .operating && !c.ranged)) || windowRefused n g g.window s then grantInvalid n s
    else if !c.canEmit g.emit || s.die.split then leaveDark n g s
    else
      let (k, s) := draw s
      let size := burstBytes g.len
      let body := (rangingMessage s.fuses.seedBanks k).take size
      let w := windowOf n g s
      let header := rangingHeader n g s
      let s := beginBurst n g (reportOf n s) s
      emit (.burst n w (scramble header) (scramble (body ++ zeros (size - body.length)))) s)

end Sys2Proof.Machine
end

