-- ==== Sys2Proof/Machine/Parser.lean ====
section
/-! DEFINITION. The parse graph, keys, edits and checksums (R123 to R128, R138 to R140): pure functions over a
frame's bytes from the destination address to the end of its data, the FCS left out. -/

namespace Sys2Proof.Machine

/-! ### The parse graph (Table 6-1) -/

/-- Where the walk stands: stack, reason code, and the end of the enclosing IP datagram. -/
structure Walk where
  stack  : List (Nat × Nat) := []
  reason : Nat := 0
  ipEnd  : Option Nat := none

/-- What one header says: its length, whether it is whole and consistent, the end of the datagram it opens, and the
selector value, `none` where parsing ends after it. -/
structure Hop where
  len   : Nat
  ok    : Bool := true
  ipEnd : Option Nat := none
  sel   : Option Nat := none
  next  : Option Nat := none

/-- The node of an EtherType, of an IP protocol and of a GRE or GENEVE protocol type. -/
def etherNode (v : Nat) : Option Nat :=
  if v = 0x8100 then some 2 else if v = 0x88A8 then some 3 else if v = 0x8847 ∨ v = 0x8848 then some 4
  else if v = 0x0800 then some 6 else if v = 0x86DD then some 7 else if v = 0x88F7 then some 16
  else if v = 0x88E5 then some 17 else if v = 0x0806 then some 18 else if v = 0x88CC then some 19
  else if v = 0x88B5 then some 20 else none
def protoNode (v6 : Bool) (v : Nat) : Option Nat :=
  if v = 17 then some 10 else if v = 6 then some 11 else if v = 1 ∨ v = 58 then some 12 else if v = 47 then some 13
  else if v6 && (v == 0 || v == 43 || v == 60) then some 8 else if v6 && v == 44 then some 9 else none
def tunnelNode (gre : Bool) (v : Nat) : Option Nat :=
  if v = 0x6558 then some 1 else if gre && v == 0x0800 then some 6 else if gre && v == 0x86DD then some 7 else none

/-- The bits of a user node's field (R124): the first `bits` bits from a byte offset (log entry 28). -/
def fieldBits (b : List Byte) (off bits : Nat) : Nat := be b off 2 / 2 ^ (16 - min bits 16)

/-- Read the header of node `k` at byte `o` (Tables 6-1 and 6-2). -/
def hop (nodes : Tbl (Option UserNode)) (b : List Byte) (ipEnd : Option Nat) (k o : Nat) : Hop :=
  let at_ := fun i => byteAt b (o + i)
  let within := fun (len : Nat) => match ipEnd with | none => true | some e => decide (o + len ≤ e)
  if 32 ≤ k then
    match Tbl.get none nodes k with
    | none => { len := 0, ok := false }
    | some (u : UserNode) =>
      let sel := fieldBits b (o + u.selOff) u.selBits
      let next := (u.edges.find? fun e => e.1 == sel).map fun e => e.2
      match u.len with
      | .fixed n => { len := n, sel := some sel, next := next }
      | .field off bits scale base =>
        let n := fieldBits b (o + off) bits * scale + base
        { len := n, ok := within n, sel := some sel, next := next }
  else match k with
  | 1 => { len := 14, sel := some (be b (o + 12) 2), next := etherNode (be b (o + 12) 2) }
  | 2 => { len := 4, sel := some (be b (o + 2) 2), next := etherNode (be b (o + 2) 2) }
  | 3 => { len := 4, sel := some (be b (o + 2) 2), next := etherNode (be b (o + 2) 2) }
  | 4 =>
    if at_ 2 % 2 = 0 then { len := 4, next := some 4 }
    else if b.length ≤ o + 4 then { len := 4 }
    else
      let v := at_ 4 / 16
      { len := 4, sel := some v
        next := if v = 4 then some 6 else if v = 6 then some 7 else if v = 0 then some 5 else none }
  | 5 => { len := 4, next := some 1 }
  | 6 =>
    let ihl := at_ 0 % 16
    let total := be b (o + 2) 2
    let frag := be b (o + 6) 2 % 8192
    { len := ihl * 4, ok := decide (5 ≤ ihl ∧ ihl * 4 ≤ total ∧ o + total ≤ b.length), ipEnd := some (o + total)
      sel := if frag = 0 then some (at_ 9) else none, next := if frag = 0 then protoNode false (at_ 9) else none }
  | 7 =>
    let e := o + 40 + be b (o + 4) 2
    { len := 40, ok := decide (e ≤ b.length), ipEnd := some e, sel := some (at_ 6), next := protoNode true (at_ 6) }
  | 8 => { len := (at_ 1 + 1) * 8, ok := within ((at_ 1 + 1) * 8), sel := some (at_ 0), next := protoNode true (at_ 0) }
  | 9 =>
    let first := be b (o + 2) 2 / 8 == 0
    { len := 8, sel := if first then some (at_ 0) else none, next := if first then protoNode true (at_ 0) else none }
  | 10 =>
    let n := be b (o + 4) 2
    let p := be b (o + 2) 2
    { len := 8, ok := decide (8 ≤ n) && within n, sel := some p
      next := if p = 4789 then some 14 else if p = 6081 then some 15 else if p = 319 ∨ p = 320 then some 16 else none }
  | 11 => { len := at_ 12 / 16 * 4, ok := decide (5 ≤ at_ 12 / 16) && within (at_ 12 / 16 * 4) }
  | 12 => { len := 8 }
  | 13 =>
    let c := at_ 0 / 128 % 2 + at_ 0 / 32 % 2 + at_ 0 / 16 % 2
    { len := 4 + 4 * c, ok := at_ 1 % 8 == 0, sel := some (be b (o + 2) 2), next := tunnelNode true (be b (o + 2) 2) }
  | 14 => { len := 8, next := some 1 }
  | 15 =>
    let n := 8 + at_ 0 % 64 * 4
    { len := n, ok := within n, sel := some (be b (o + 2) 2), next := tunnelNode false (be b (o + 2) 2) }
  | 16 => { len := 34 }
  | 17 => { len := if at_ 0 / 32 % 2 = 1 then 16 else 8 }
  | 18 => { len := 28 }
  | 19 => { len := 0 }
  | 20 => { len := 16 }
  | _ => { len := 0, ok := false }

/-- Bytes of a node that must be there before its own length can be read. -/
def minLen (k : Nat) : Nat :=
  match k with | 6 => 20 | 8 => 2 | 11 => 20 | 13 => 4 | 15 => 8 | 17 => 8 | _ => 0

/-- The node a selector value leads to: a user node's edge from a fixed node goes before the fixed edge (R124). -/
def leads (nodes : Tbl (Option UserNode)) (k : Nat) (h : Hop) : Option Nat :=
  if 32 ≤ k then h.next
  else match h.sel with
    | none => h.next
    | some v =>
      match nodes.find? (fun x => match x.2 with | some u => u.entries.contains (k, v) | none => false) with
      | some x => some x.1
      | none => h.next

/-- Walk the graph from node `k` at byte `o` (R123 to R126), at most `fuel` headers. A limit of R125 is met before a
length check of R126 (log entry 29). -/
def walk (nodes : Tbl (Option UserNode)) (b : List Byte) : Nat → Nat → Nat → Walk → Walk
  | 0, _, _, w => { w with reason := 2 }
  | fuel + 1, k, o, w =>
    if 24 ≤ w.stack.length then { w with reason := 2 }
    else if b.length < o + minLen k then { w with reason := 3 }
    else
      let h := hop nodes b w.ipEnd k o
      if 384 < o + h.len then { w with reason := 2 }
      else if b.length < o + h.len || !h.ok then { w with reason := 3 }
      else
        let w := { w with stack := w.stack ++ [(k, o)], ipEnd := h.ipEnd.or w.ipEnd }
        match leads nodes k h with
        | none => w
        | some n => walk nodes b fuel n (o + h.len) w

/-- Parse a frame. -/
def parse (nodes : Tbl (Option UserNode)) (b : List Byte) : Walk := walk nodes b 25 1 0 {}

/-! ### Keys (R128) -/

/-- A selection's header in the stack: instance 1, 2, … from the outermost, −1, −2, … from the innermost. -/
def pickHeader (stack : List (Nat × Nat)) (node : Nat) (inst : Int) : Option Nat :=
  let l := (stack.filter fun e => e.1 == node).map fun e => e.2
  if 0 < inst then l[inst.toNat - 1]?
  else if inst < 0 then l.reverse[inst.natAbs - 1]?
  else none

/-- Length of a selection in a key; the metadata fields take 1, 1, 1 and 2 bytes (log entry 27). -/
def selLen : Selection → Nat
  | .header _ _ _ len => len
  | .ingressPort => 1 | .passNumber => 1 | .cls => 1 | .assoc => 2

/-- A selection's bytes, and whether it is present. -/
def selBytes (p : Pkt) : Selection → Bool × List Byte
  | .header node inst off len =>
    match pickHeader p.md.stack node inst with
    | none => (false, zeros len)
    | some o => (true, (slice p.bytes (o + off) len ++ zeros len).take len)
  | .ingressPort => (true, beBytes 1 p.md.port)
  | .passNumber => (true, beBytes 1 (p.md.pass + 1))
  | .cls => (true, beBytes 1 p.md.cls)
  | .assoc => (true, beBytes 2 p.md.assoc)

/-- A key of `size` bytes: the presence mask, then the selections packed in order, then zeros. -/
def buildKey (size : Nat) (l : List Selection) (p : Pkt) : List Byte :=
  let parts := l.map (selBytes p)
  let mask := (parts.zipIdx).foldl (fun a x => if x.1.1 then a + 2 ^ x.2 else a) 0
  (beBytes 2 mask ++ (parts.map fun x => x.2).flatten ++ zeros size).take size

/-- A ternary value and mask match a key (R132). -/
def ternMatches (value mask key : List Byte) : Bool :=
  (List.range 40).all fun i => (key.getD i 0 ^^^ value.getD i 0) &&& mask.getD i 0 == 0

/-! ### Checksums (R139, R191, R195) -/

/-- The ones' complement sum of 16-bit words. -/
def sum16 (b : List Byte) : Nat :=
  ((List.range ((b.length + 1) / 2)).foldl (fun a i => a + byteAt b (2 * i) * 256 + byteAt b (2 * i + 1)) 0)

/-- A sum folded to 16 bits. -/
def fold16 (n : Nat) : Nat := if n = 0 then 0 else (n - 1) % 65535 + 1

/-- An Internet checksum over bytes whose checksum field is zero. -/
def checksum16 (n : Nat) : Nat := 65535 - fold16 n

/-- Bytes of an IPv4 header at `o`. -/
def ip4Bytes (b : List Byte) (o : Nat) : List Byte := slice b o (byteAt b o % 16 * 4)

/-- Write an IPv4 header's checksum. -/
def fixIp4 (b : List Byte) (o : Nat) : List Byte :=
  let z := patch b (o + 10) [0, 0] [0xFF, 0xFF]
  patch z (o + 10) (beBytes 2 (checksum16 (sum16 (ip4Bytes z o)))) [0xFF, 0xFF]

/-- The last IP header before stack index `i`: node and offset. -/
def ipBefore (stack : List (Nat × Nat)) (i : Nat) : Option (Nat × Nat) :=
  ((stack.take i).filter fun e => e.1 == 6 || e.1 == 7).getLast?

/-- The end of the datagram of an IP header. -/
def ipEndOf (b : List Byte) (h : Nat × Nat) : Nat := if h.1 = 6 then h.2 + be b (h.2 + 2) 2 else h.2 + 40 + be b (h.2 + 4) 2

/-- The sum that a transport checksum covers, its own field at `c` left out: addresses, protocol, length, segment. -/
def coverSum (b : List Byte) (ip : Nat × Nat) (o proto c : Nat) : Nat :=
  let e := ipEndOf b ip
  let seg := slice b o (e - o)
  let addrs := if ip.1 = 6 then slice b (ip.2 + 12) 8 else slice b (ip.2 + 8) 32
  sum16 addrs + proto + (e - o) + sum16 (patch seg c [0, 0] [0xFF, 0xFF])

/-- The protocol and the place of the checksum of a transport node. -/
def transportOf (k : Nat) : Option (Nat × Nat) :=
  match k with | 10 => some (17, 6) | 11 => some (6, 16) | _ => none

/-- Update the transport checksum at stack index `i` for what changed from `old` (with stack `os`) to `new` (with stack
`ns`) (R139): incrementally; a UDP checksum of zero over IPv4 stays zero. -/
def updateTransport (os ns : List (Nat × Nat)) (old : List Byte) (i : Nat) (new : List Byte) : List Byte :=
  match ns[i]?, os[i]? with
  | some (k, n), some (_, o) =>
    match transportOf k, ipBefore os i, ipBefore ns i with
    | some (proto, c), some io, some im =>
      let was := coverSum old io o proto c % 65535
      let now := coverSum new im n proto c % 65535
      let cur := be new (n + c) 2
      if was = now ∨ (k = 10 ∧ im.1 = 6 ∧ cur = 0) then new
      else
        let t := (65535 - cur + now + (65535 - was)) % 65535
        patch new (n + c) (beBytes 2 (65535 - t)) [0xFF, 0xFF]
    | _, _, _ => new
  | _, _ => new

/-- Correct the checksums after the edits of a pass (R139): every IPv4 header that it edited or that has changed, then the transport
ones from the innermost out, so that an outer checksum covers the inner ones as they end up. -/
def fixChecksums (edited : List Nat) (os : List (Nat × Nat)) (old : List Byte) (ns : List (Nat × Nat)) (new : List Byte) :
    List Byte :=
  let idx := List.range ns.length
  let b := idx.foldl (fun b i => match ns[i]?, os[i]? with
    | some (6, n), some (6, o) => if !edited.contains i && ip4Bytes b n == ip4Bytes old o then b else fixIp4 b n
    | _, _ => b) new
  idx.reverse.foldl (fun b i => updateTransport os ns old i b) b

/-- Compute the checksums of the innermost IPv4 and transport headers whole (R195). -/
def writeChecksums (b : List Byte) : List Byte :=
  let st := (parse [] b).stack
  let b := match (st.filter fun e => e.1 == 6).getLast? with | some e => fixIp4 b e.2 | none => b
  match (st.zipIdx.filter fun x => x.1.1 == 10 || x.1.1 == 11).getLast? with
  | none => b
  | some (e, i) =>
    match transportOf e.1, ipBefore st i with
    | some (proto, c), some ip =>
      let v := checksum16 (coverSum b ip e.2 proto c)
      patch b (e.2 + c) (beBytes 2 (if e.1 = 10 ∧ v = 0 then 65535 else v)) [0xFF, 0xFF]
    | _, _ => b

/-- L3_CSUM and L4_CSUM of a received frame (R191): 0 not checked, 1 good, 2 bad. -/
def rxChecksums (b : List Byte) : Nat × Nat :=
  let st := (parse [] b).stack
  let ip4 := st.filter fun e => e.1 == 6
  let bad := [ip4.head?, ip4.getLast?].any fun x => match x with
    | some e => fold16 (sum16 (ip4Bytes b e.2)) != 65535
    | none => false
  let l3 := if ip4.isEmpty then 0 else if bad then 2 else 1
  let l4 := match (st.zipIdx.filter fun x => x.1.1 == 10 || x.1.1 == 11 || x.1.1 == 12).getLast? with
    | none => 0
    | some (e, i) =>
      match ipBefore st i with
      | none => 0
      | some ip =>
        let frag := (ip.1 == 6 && be b (ip.2 + 6) 2 % 16384 != 0) || (st.take i).any fun x => x.1 == 9
        let proto := if e.1 = 10 then 17 else if e.1 = 11 then 6 else 58
        let seg := slice b e.2 (ipEndOf b ip - e.2)
        if frag || (e.1 == 10 && ip.1 == 6 && be b (e.2 + 6) 2 == 0) then 0
        else
          let total := if e.1 = 12 ∧ ip.1 = 6 then sum16 seg else
            sum16 (if ip.1 = 6 then slice b (ip.2 + 12) 8 else slice b (ip.2 + 8) 32) + proto + seg.length + sum16 seg
          if fold16 total = 65535 then 1 else 2
  (l3, l4)

/-! ### Edits (R137, R138, R277) -/

/-- A packet as a pass edits it: pushes and bytes added so far, and the stack entries of the IPv4 headers it has written to. A header
that a pop has removed keeps its stack entry with node 0 (R138). -/
structure Edit where
  bytes  : List Byte
  stack  : List (Nat × Nat)
  pushes : Nat := 0
  added  : Nat := 0
  noop   : Nat := 0
  edited : List Nat := []

/-- The limits of R138 let `n` bytes be pushed at byte `at_`. -/
def Edit.room (e : Edit) (at_ n : Nat) : Bool := decide (e.pushes < 4 ∧ e.added + n ≤ 64 ∧ at_ + n ≤ 384)

/-- Insert bytes; the headers behind move. -/
def Edit.insert (e : Edit) (at_ : Nat) (v : List Byte) : Edit :=
  { e with bytes := insertAt e.bytes at_ v, pushes := e.pushes + 1, added := e.added + v.length
           stack := e.stack.map fun h => if at_ ≤ h.2 then (h.1, h.2 + v.length) else h }

/-- Remove the `n` bytes at `at_`, the header whose stack entry stands at byte `own`; the headers behind move. -/
def Edit.remove (e : Edit) (at_ n own : Nat) (nodes : List Nat) : Edit :=
  { e with bytes := removeAt e.bytes at_ n
           stack := e.stack.map fun h =>
             if h.2 = own ∧ nodes.contains h.1 then (0, h.2) else if own < h.2 then (h.1, h.2 - n) else h }

/-- An edit that does nothing is counted (ACTION_NOOP). -/
def Edit.skip (e : Edit) : Edit := { e with noop := e.noop + 1 }

/-- The first byte behind a MACsec SecTAG, which is never edited (R139). -/
def Edit.secured (e : Edit) : Option Nat :=
  (e.stack.find? fun h => h.1 == 17).map fun h => h.2 + (if byteAt e.bytes h.2 / 32 % 2 = 1 then 16 else 8)

/-- Overwrite bytes (REWRITE, and a program's edits). -/
def Edit.write (e : Edit) (at_ : Nat) (v m : List Byte) : Edit :=
  let past := match e.secured with | some x => decide (x < at_ + v.length) | none => false
  if decide (e.bytes.length < at_ + v.length) || decide (384 < at_ + v.length) || past then e.skip
  else
    let hit := (e.stack.zipIdx.filter fun x =>
      x.1.1 == 6 && decide (x.1.2 < at_ + v.length ∧ at_ < x.1.2 + byteAt e.bytes x.1.2 % 16 * 4)).map (·.2)
    { e with bytes := patch e.bytes at_ v m, edited := e.edited ++ hit }

/-- The end of the outer Ethernet header and its tags: the place of the EtherType behind them. -/
def etherEnd : Nat → List Byte → Nat → Nat
  | 0, _, o => o
  | fuel + 1, b, o => if be b o 2 = 0x8100 ∨ be b o 2 = 0x88A8 then etherEnd fuel b (o + 4) else o

def isMpls (v : Nat) : Bool := v == 0x8847 || v == 0x8848

/-- PUSH_VLAN. -/
def Edit.pushVlan (e : Edit) (tpid tci : BitVec 16) : Edit :=
  if e.room 12 4 then e.insert 12 (beBytes 2 tpid.toNat ++ beBytes 2 tci.toNat) else e.skip

/-- POP_VLAN. -/
def Edit.popVlan (e : Edit) : Edit :=
  if be e.bytes 12 2 = 0x8100 ∨ be e.bytes 12 2 = 0x88A8 then e.remove 12 4 14 [2, 3] else e.skip

/-- PUSH_MPLS: in front of the outermost label, or after Ethernet and its tags. -/
def Edit.pushMpls (e : Edit) (label tc ttl : Nat) (etype : BitVec 16) : Edit :=
  let o := etherEnd 24 e.bytes 12
  let bottom := !isMpls (be e.bytes o 2)
  let word := label % 2 ^ 20 * 4096 + tc % 8 * 512 + bottom.toNat * 256 + ttl % 256
  if e.room (o + 2) 4 then
    let e := e.insert (o + 2) (beBytes 4 word)
    { e with bytes := patch e.bytes o (beBytes 2 etype.toNat) [0xFF, 0xFF] }
  else e.skip

/-- POP_MPLS. -/
def Edit.popMpls (e : Edit) (next : BitVec 16) : Edit :=
  let o := etherEnd 24 e.bytes 12
  if isMpls (be e.bytes o 2) then
    let e := e.remove (o + 2) 4 (o + 2) [4]
    { e with bytes := patch e.bytes o (beBytes 2 next.toNat) [0xFF, 0xFF] }
  else e.skip

/-- Where the TTL that DEC_TTL works on stands: of the outermost IPv4, IPv6 or MPLS header. -/
def Edit.ttlAt (e : Edit) : Option Nat :=
  (e.stack.find? fun h => h.1 == 4 || h.1 == 6 || h.1 == 7).map fun h =>
    if h.1 = 4 then h.2 + 3 else if h.1 = 6 then h.2 + 8 else h.2 + 7

end Sys2Proof.Machine
end

