-- ==== Sys2Proof/Machine/Egress.lean ====
section
/-! DEFINITION. Client egress (chapters 07 and 09): admission to the egress pool, the fit of a frame to its gates, the
start of frames, transmit stamps, ageing, and a port's way down. -/

namespace Sys2Proof.Machine

/-! ### Port rates and gates (R164, R165, Table 9-1) -/

/-- A lane's share of the port rate in Gb/s. -/
def laneGbps : LaneRate → Nat | .g212 => 200 | .g106 => 100 | .g53 => 50 | .g25 => 25

/-- The port rate in Gb/s; an unconfigured port has none. -/
def Port.gbps (v : Port) : Nat := match v.cfg with | some c => max 1 (c.lanes * laneGbps c.rate) | none => 1

/-- The mode's default wake time. -/
def Port.twDefault (v : Port) : Nat := Config.defaultTw v.gbps

/-- A frame's length with its FCS. -/
def frameLen (b : List Byte) : Nat := b.length + 4

/-- D of a frame of `len` bytes, times the port rate (R164). -/
def spanTimesRate (len : Nat) : Nat := (len + 20) * 8 * 65536

/-- The time in which `n` bytes leave at a port rate, rounded up to the grain of R24. -/
def byteTime (rate n : Nat) : Instant := (n * 8 * 65536 + rate - 1) / rate

/-- The entries of a gate list with their start and end in the cycle (R162): cut at the cycle's end, the last one held
to it. -/
def gateSegs (cycle : Nat) : List (BitVec 8 × Nat) → Nat → List (BitVec 8 × Nat × Nat)
  | [], _ => []
  | [(g, _)], at_ => if at_ < cycle then [(g, at_, cycle)] else []
  | (g, i) :: t, at_ =>
    if at_ < cycle then (g, at_, min (at_ + ns i) cycle) :: gateSegs cycle t (at_ + ns i) else []

/-- The first instant at or after `t` at which a list closes queue `q`; none where it never does. -/
def closesAt (l : GateList) (t : Instant) (q : Nat) : Option Instant :=
  let cyc := ns l.cycle
  let off := gatePhase l t
  let shut := (gateSegs cyc l.entries 0).filter fun x => !x.1.getLsbD q
  (shut.map fun x => t + (if off < x.2.2 then x.2.1 - off else x.2.1 + cyc - off)).min?

/-- The next closing instant of queue `q` of a port (R164): from the running list, or from the waiting one from its S
on. -/
def Port.closing (v : Port) (valid : Bool) (t : Instant) (q : Nat) : Option Instant :=
  if !valid then none
  else
    let run := v.gate.bind fun r => closesAt r.list t q
    match v.gateNext with
    | none => run
    | some w =>
      match run with
      | some c => if c < w.s then some c else closesAt w.list w.s q
      | none => closesAt w.list w.s q

/-- The time until the transmitter can start a frame (R205, R207): the wake time in low-power idle, the rest of a wake. -/
def Port.wakeDelay (v : Port) (now : Instant) : Instant :=
  match v.inLpi with
  | some _ => us (v.tw.getD v.twDefault)
  | none => (v.wakeAt.getD now) - now

/-- A frame started at `start` fits before the closing instant that follows `t` (R164, R207). -/
def Port.fits (v : Port) (valid : Bool) (t start : Instant) (q len : Nat) : Bool :=
  match v.closing valid t q with
  | none => true
  | some c => decide (start ≤ c ∧ spanTimesRate len ≤ (c - start) * v.gbps)

/-- The longest run of open segments; `cur` is the run that reaches the present one. -/
def longest (q : Nat) : List (BitVec 8 × Nat × Nat) → Nat → Nat → Nat
  | [], _, best => best
  | (g, a, b) :: t, cur, best =>
    if g.getLsbD q then longest q t (cur + (b - a)) (max best (cur + (b - a))) else longest q t 0 best

/-- The open run of queue `q` (R165); none where the gate never closes. -/
def openRun (l : GateList) (q : Nat) : Option Nat :=
  let segs := gateSegs (ns l.cycle) l.entries 0
  if segs.all fun x => x.1.getLsbD q then none else some (longest q (segs ++ segs) 0 0)

/-- The running list can never send a frame of `len` bytes from queue `q` (R165). -/
def Port.tooLong (v : Port) (q len : Nat) : Bool :=
  match v.gate with
  | none => false
  | some r => match openRun r.list q with
    | none => false
    | some w => decide (w * v.gbps < spanTimesRate len)

/-! ### Drops -/

/-- A packet is dropped for a counted reason. -/
def dropPkt (p : Pkt) (s : State) : State := traceDrop p.trace (pmcDrop p.md s)

/-- An egress frame is dropped. -/
def dropEg (f : EgFrame) (s : State) : State := dropPkt f.pkt s

/-- The frame at the head of queue `q` can never leave: its tag failed (R237), or its gate is never open long
enough (R165). -/
def headCheck (p q : Nat) : Nat → State → State
  | 0, s => s
  | fuel + 1, s =>
    match Tbl.get [] (s.port p).queues q with
    | [] => s
    | f :: t =>
      let pop := fun (s : State) => modPort p (fun v => { v with queues := Tbl.set [] v.queues q t }) s
      if f.pkt.md.auth = .fail then
        let s := modStats p (fun c => { c with authFail := c.authFail + 1 }) (pop s)
        headCheck p q fuel (traceEnd f.pkt.trace (fun e => { e with dropped := true, authFail := true }) (pmcDrop f.pkt.md s))
      else if (s.port p).tooLong q (frameLen f.pkt.bytes) then
        let s := modStats p (fun c => { c with egGate := Tbl.modify 0 c.egGate q (· + 1) }) (pop s)
        headCheck p q fuel (raise 0xB6 (dropEg f s))
      else s

/-- The heads of every queue of a port. -/
def headChecks (p : Nat) (s : State) : State :=
  forEach (List.range 8) (fun q s => headCheck p q ((Tbl.get [] (s.port p).queues q).length) s) s

/-! ### A port's way down and its sleep (R189, R196, R208) -/

/-- The transmitter leaves low-power idle: ready after Tw_sys_tx. -/
def leaveLpi (p : Nat) (s : State) : State :=
  let v := s.port p
  match v.inLpi with
  | none => s
  | some t =>
    modStats p (fun c => { c with lpiTxUs := c.lpiTxUs + (s.clk.now - t) / us 1 })
      (modPort p (fun v => { v with inLpi := none, wakeAt := some (s.clk.now + us (v.tw.getD v.twDefault)) }) s)

/-- The receive side leaves low-power idle. -/
def leaveRxLpi (p : Nat) (s : State) : State :=
  match (s.port p).rxLpi with
  | none => s
  | some t =>
    modStats p (fun c => { c with lpiRxUs := c.lpiRxUs + (s.clk.now - t) / us 1 }) (modPort p (fun v => { v with rxLpi := none }) s)

/-- Frames queued on a port that is DOWN are discarded with the reason PORT_DOWN (R196); so is the frame it was sending, which
never ends (log entry 50). -/
def discardQueued (p : Nat) (s : State) : State :=
  let v := s.port p
  let l := v.started.toList.map Started.pkt ++ (v.queues.map fun (x : Nat × List EgFrame) => x.2.map EgFrame.pkt).flatten
  let s := modPort p (fun v => { v with queues := [], started := none }) s
  let s := modStats p (fun c => { c with portDown := c.portDown + l.length }) s
  l.foldl (fun s x => dropPkt x s) s

/-- A port enters DOWN (R189): every pause timer is cleared, queued frames are discarded, port.down is raised. -/
def enterDown (p : Nat) (s : State) : State :=
  if !(s.port p).up then s
  else
    let s := modPort p (fun v => { v with up := false, paused := [], xoff := [], wakeAt := none }) (leaveRxLpi p (leaveLpi p s))
    raise 0xC9 (discardQueued p s)

/-- The lanes of a port. -/
def Port.laneNums (v : Port) (p : Nat) : List Nat :=
  match v.cfg with | some c => (List.range c.lanes).map fun i => p + i | none => []

/-! ### Admission (R159, R196) -/

/-- The size of the egress pool in bytes (Table 7-1). -/
def poolSize : Nat := 50331648

/-- An admission drop at an egress queue. -/
def egressDrop (p : Nat) (f : EgFrame) (g : PortStats → PortStats) (s : State) : State :=
  raiseOnce 0xB1 (dropEg f (modStats p g s))

/-- A frame offered to egress queue `q` of port `p` (R159, R196, R208). -/
def egressAdmit (p q : Nat) (f : EgFrame) (s : State) : State :=
  let v := s.port p
  let s := offered p s
  let n := frameLen f.pkt.bytes
  let e : EgressQ := Tbl.get {} v.eg q
  let l := Tbl.get [] v.queues q
  if !v.up then dropEg f (modStats p (fun c => { c with portDown := c.portDown + 1 }) s)
  else if e.limit < egressBytes l + n then
    egressDrop p f (fun c => { c with egLimit := Tbl.modify 0 c.egLimit q (· + 1) }) s
  else if f.pkt.md.colour = .yellow ∧ e.ylim < egressBytes l + n then
    egressDrop p f (fun c => { c with egYellow := Tbl.modify 0 c.egYellow q (· + 1) }) s
  else if poolSize < poolBytes s + n then
    egressDrop p f (fun c => { c with egPool := Tbl.modify 0 c.egPool q (· + 1) }) s
  else
    let s := egressPush p q { f with at_ := switchTime s } s
    let s := if f.pkt.md.down then traceStage f.pkt.trace 6 s else s
    headCheck p q 1 s

/-! ### Eligibility (R159, R194, R198) -/

/-- Queue `q` is stopped by pause now (R198): its own account, or the port's. -/
def Port.pausedAt (v : Port) (now : Instant) (q : Nat) : Bool :=
  let on := fun (k : Nat) => match (Tbl.get {} v.paused k : Pause).until_ with | some u => decide (now < u) | none => false
  on q || on 8

/-- A frame whose tag is not known may start: never in STORE_FORWARD; in CUT_THROUGH when the rest of it arrives in
time, which is the cipher array's timing and a free value here (R194). -/
def tagAllows (v : Port) (f : EgFrame) (s : State) : Bool × State :=
  if f.pkt.md.auth = .pending then
    if (v.cfg.map fun c => c.storeFwd).getD false then (false, s)
    else
      let (k, s) := draw s
      (k % 2 == 1, s)
  else (true, s)

/-- The conditions of R159 on the head frame of queue `q`: the gate, the fit counted from the end of a wake (R207), the shaper,
pause. -/
def Port.headFits (v : Port) (s : State) (q : Nat) (f : EgFrame) : Bool :=
  let shaper := match (Tbl.get none v.shapers q : Option Shaper) with | some x => x.conforms | none => true
  let t := switchTime s
  v.gates.getLsbD q && v.fits (switchValid s) t (t + v.wakeDelay s.clk.now) q (frameLen f.pkt.bytes) && shaper &&
    !v.pausedAt s.clk.now q

/-- Queue `q` of port `p` is eligible (R159, R194). -/
def eligibleQ (p q : Nat) (s : State) : Bool × State :=
  match Tbl.get [] (s.port p).queues q with
  | [] => (false, s)
  | f :: _ => if (s.port p).headFits s q f then tagAllows (s.port p) f s else (false, s)

/-- The eligible queues of a port. -/
def eligibleQs (p : Nat) (s : State) : List Nat × State :=
  (List.range 8).foldl (fun (a : List Nat × State) q =>
    let (b, s) := eligibleQ p q a.2
    (if b then a.1 ++ [q] else a.1, s)) ([], s)

/-- A port with every shaper credited up to an instant (R158). -/
def Port.credited (v : Port) (now : Instant) : Port :=
  { v with shapers := v.shapers.map fun (x : Nat × Option Shaper) => (x.1, x.2.map fun h => h.credit now) }

/-- Credit every shaper of a port up to line time (R158). -/
def creditPort (p : Nat) (s : State) : State := modPort p (fun v => v.credited (switchTime s)) s

/-- The queue to serve (R159): STRICT first, highest number first, then DWRR with a quantum of WEIGHT × 256 bytes. -/
def chooseQ (v : Port) (l : List Nat) : Option (Nat × Tbl Int) :=
  let strict := l.filter fun q => (Tbl.get {} v.eg q : EgressQ).strict
  match strict.getLast? with
  | some q => some (q, v.deficit)
  | none => dwrr (l.map fun q => (q, (Tbl.get {} v.eg q : EgressQ).weight * 256)) v.deficit

/-- Charge a shaper of a port for a frame; out of tokens, its queue or the port waits on the wheel (R158). -/
def serveShaper (k : WheelKind) (p key len : Nat) (s : State) : State :=
  match (Tbl.get none (s.port p).shapers key : Option Shaper) with
  | none => s
  | some x =>
    let x := x.serve ((len : Int) + 20 + x.p.adjust)
    let s := modPort p (fun v => { v with shapers := Tbl.set none v.shapers key (some x) }) s
    if x.conforms then s else placeItem k x.backAt s

/-! ### Transmission (R194, R195, R201, R203, R209) -/

/-- The size bin of a frame of `n` bytes (R209). -/
def sizeBin (n : Nat) : Nat :=
  if n ≤ 64 then 0 else if n ≤ 127 then 1 else if n ≤ 255 then 2 else if n ≤ 511 then 3 else if n ≤ 1023 then 4
  else if n ≤ 1518 then 5 else 6

/-- The destination address of a frame. -/
def dstOf (b : List Byte) : MacAddr := BitVec.ofNat 48 (be b 0 6)

/-- Count a transmitted frame (R209). -/
def countTx (b : List Byte) (c : PortStats) : PortStats :=
  let n := frameLen b
  let c := { c with txBins := Tbl.modify 0 c.txBins (sizeBin n) (· + 1) }
  if dstOf b = BitVec.allOnes 48 then { c with txBc := c.txBc + 1, txBytesBc := c.txBytesBc + n }
  else if isGroup (dstOf b) then { c with txMc := c.txMc + 1, txBytesMc := c.txBytesMc + n }
  else { c with txUc := c.txUc + 1, txBytesUc := c.txBytesUc + n }

/-- The transmit stamp of a frame started now (R201): eight bytes of preamble and SFD later, plus TX_LATENCY, in steps
of 0.25 ns. -/
def txInstant (v : Port) (now : Instant) : Instant :=
  (now + 64 * 65536 / v.gbps) / quarter * quarter + v.txLat * quarter

/-- Keep a transmit stamp (R203): with the FIFO of 256 full it is lost. -/
def putStamp (p : Nat) (tag : BitVec 16) (at_ : Instant) (s : State) : State :=
  let v := s.port p
  if 256 ≤ v.stamps.length then
    raiseOnce 0xCD (modStats p (fun c => { c with stampsLost := c.stampsLost + 1 })
      (modPort p (fun v => { v with lost := satInc 32 v.lost, lostSince := v.lostSince + 1 }) s))
  else
    let e : TxStamp := {
      time := at_, tag := tag, valid := switchValid s, gap := decide (0 < v.lostSince), lostBefore := min v.lostSince 0xFFFF }
    syncTs (modPort p (fun v => { v with stamps := v.stamps ++ [e], lostSince := 0 }) s)

/-- A started frame has ended well: sent and counted. -/
def frameSent (p q : Nat) (b : List Byte) (s : State) : State :=
  emit (.frame p q b false) (modStats p (countTx b) s)

/-- A started frame ends with its FCS inverted (R194, R237): its tag has failed, or it came too late. -/
def frameAborted (p q : Nat) (b : List Byte) (count : PortStats → PortStats) (s : State) : State :=
  raiseOnce 0xD3 (emit (.frame p q b true) (modStats p count s))

/-- The frame that a port has been sending ends (R194, R209). The tag result comes with the last plaintext byte: a frame that
has none yet did not get its bytes in time, which is TX_UNDERRUN. -/
def endFrame (p : Nat) (s : State) : State :=
  match (s.port p).started with
  | none => s
  | some x =>
    if s.clk.now < x.ends then s
    else
      let s := modPort p (fun v => { v with started := none }) s
      match x.pkt.md.auth with
      | .fail => traceEnd x.pkt.trace (fun e => { e with authFail := true })
          (frameAborted p x.q x.pkt.bytes (fun c => { c with authAbort := c.authAbort + 1 }) s)
      | .pending => traceEnd x.pkt.trace (fun e => { e with dropped := true })
          (frameAborted p x.q x.pkt.bytes (fun c => { c with underrun := c.underrun + 1 }) s)
      | _ => traceEnd x.pkt.trace id (frameSent p x.q x.pkt.bytes s)

/-- Start the head frame of queue `q` (R159, R194, R203): it ends when its last byte has left. -/
def startFrame (p q : Nat) (f : EgFrame) (rest : List EgFrame) (s : State) : State :=
  let v := s.port p
  let b := if f.csum then writeChecksums f.pkt.bytes else f.pkt.bytes
  let n := frameLen b
  let now := switchTime s
  let x : Started := { q := q, pkt := { f.pkt with bytes := b }, ends := s.clk.now + byteTime v.gbps (8 + n) }
  let s := modPort p (fun v => { v with
    queues := Tbl.set [] v.queues q rest, busy := s.clk.now + byteTime v.gbps (n + 20), idleFrom := s.clk.now
    wakeAt := none, started := some x }) s
  let s := serveShaper (.port p) p 8 n (serveShaper (.egressQ p q) p q n s)
  let s := if f.pkt.md.tsReq then putStamp p f.pkt.md.tsTag (txInstant v now) s else s
  if f.pkt.md.down then
    traceStageAt f.pkt.trace 8 (now + byteTime v.gbps (8 + n)) (traceStageAt f.pkt.trace 7 (txInstant v now) s)
  else s

/-- The local instant at which a frame of the MAC's own can start (R200, R207): the next frame boundary, after a wake. -/
def Port.nextStart (v : Port) (now : Instant) : Instant := max (max now v.busy) (now + v.wakeDelay now)

/-- The MAC sends a frame of its own of `len` bytes with its FCS (R200, R204, R206): ahead of queued frames, at the next frame
boundary, after a wake from low-power idle (R207). `out` makes its output from the local instant at which it starts. -/
def sendOwn (p len : Nat) (out : Instant → Output) (s : State) : State :=
  let start := (s.port p).nextStart s.clk.now
  let s := leaveLpi p s
  emit (out start) (modPort p (fun v => { v with busy := start + byteTime v.gbps (len + 20) }) s)

/-- The line time of a local instant from now on. -/
def lineAt (t : Instant) (s : State) : Instant := switchTime s + (t - s.clk.now)

/-- A port may start a frame: UP, awake, its last frame's time over, out of low-power idle (R164, R194, R207). -/
def Port.mayStart (v : Port) (now : Instant) : Bool :=
  v.up && !v.asleep && decide (v.busy ≤ now) && v.started.isNone && v.inLpi.isNone &&
    (match v.wakeAt with | some w => decide (w ≤ now) | none => true) &&
    (match (Tbl.get none v.shapers 8 : Option Shaper) with | some x => x.conforms | none => true)

/-- EGRESS_FRAME_START (R159, R164, R165). -/
def execEgressFrameStart (p : Nat) (s : State) : Host.Outcome State Fault Refusal := .next (
  let s := headChecks p (creditPort p s)
  if !(s.port p).mayStart s.clk.now then s
  else
    let (l, s) := eligibleQs p s
    match chooseQ (s.port p) l with
    | none => s
    | some (q, d) =>
      match Tbl.get [] (s.port p).queues q with
      | [] => s
      | f :: rest =>
        let strict := (Tbl.get {} (s.port p).eg q : EgressQ).strict
        let d := if strict then d else charge d q (frameLen f.pkt.bytes)
        let s := startFrame p q f rest (modPort p (fun v => { v with deficit := d }) s)
        headCheck p q rest.length s)

/-- EGRESS_AGE (R269): frames that have waited more than 2 s are discarded. -/
def execEgressAge (p q : Nat) (s : State) : Host.Outcome State Fault Refusal := .next (
  let l := Tbl.get [] (s.port p).queues q
  let old := l.filter fun f => decide (f.at_ + sec 2 < switchTime s)
  if old.isEmpty then s
  else
    let keep := l.filter fun f => !decide (f.at_ + sec 2 < switchTime s)
    let s := modPort p (fun v => { v with queues := Tbl.set [] v.queues q keep }) s
    let s := modStats p (fun c => { c with egAge := Tbl.modify 0 c.egAge q (· + old.length) }) s
    headCheck p q keep.length (old.foldl (fun s f => dropEg f s) s))

/-- HOST_FRAME_SEND (R195, R203): a host frame joins an egress queue. -/
def execHostFrameSend (f : HostFrame) (s : State) : Host.Outcome State Fault Refusal := .next (
  if s.hasPort f.port && decide (f.queue < 8) then
    let (id, s) := newId s
    let m : Meta := { port := f.port, tsReq := f.tsReq, tsTag := f.tsTag }
    egressAdmit f.port f.queue { pkt := { id := id, bytes := f.bytes, md := m }, at_ := switchTime s, csum := f.csum } s
  else s)

end Sys2Proof.Machine
end

