-- ==== Sys2Proof/Machine/Sealing.lean ====
section
/-! DEFINITION. Sealing and unsealing (chapter 10): the checks of FORWARD_ASSOC, the sealed packet, the checks of R234,
the replay window, the tag result and what every consumer makes of it. -/

namespace Sys2Proof.Machine

/-! ### The cipher (R229 to R232) -/

/-- A suite encrypts. -/
def Suite.encrypts (x : Suite) : Bool := match x with | .gcm256 => true | .gcm128 => true | _ => false

/-- The text XORed with the key stream of a suite, a key and a nonce: sealing and unsealing alike. -/
def applyKeystream (x : Suite) (key nonce : Nat) (text : List Byte) : List Byte :=
  if Suite.encrypts x then text.zipIdx.map fun b => b.1 ^^^ Config.keystream (suiteCode x) key nonce b.2 else text

/-- The GCM nonce: KEY_GEN, then PN (R232). -/
def nonceOf (gen pn : Nat) : Nat := gen % 2 ^ 32 * 2 ^ 64 + pn % 2 ^ 64

/-- A sealed packet (R231, R232): header, text, tag. -/
def sealedBytes (x : Suite) (peer key gen pn : Nat) (text : List Byte) : List Byte :=
  let h := sealHdr peer (suiteCode x) false text.length gen pn
  let c := applyKeystream x key (nonceOf gen pn) text
  let tag := if Suite.encrypts x then Config.gcmTag (suiteCode x) key (nonceOf gen pn) h c
    else Config.gcmTag (suiteCode x) key (nonceOf gen pn) (h ++ c) []
  h ++ c ++ beBytes 16 tag.toNat

/-- Cipher blocks of a packet of `n` plaintext bytes (R230). -/
def cipherBlocks (x : Suite) (n : Nat) : Nat := if Suite.encrypts x then (n + 15) / 16 + 1 else 1

/-! ### FORWARD_ASSOC and sealing (R150, R232, R233) -/

/-- Change an association that is not FREE. -/
def modHeld (i : Nat) (f : Assoc → Assoc) (s : State) : State := if (s.assoc i).state = .free then s else modAssoc i f s

/-- The leaf queue of an association, class and flow group, else that of flow group 0 (R150). -/
def leafOf (i c g : Nat) (s : State) : Option Nat :=
  let at_ := fun (k : Nat) => (s.q.tab.find? fun x =>
    match x.2 with | some v => v.assoc == i && v.cls == c && v.group == k | none => false).map fun x => x.1
  (at_ g).or (at_ 0)

/-- The next PN of an association is taken (R232): sec.pn_warning at 2^62, EXHAUSTED at 2^64 − 1. -/
def takePn (i : Nat) (s : State) : State :=
  let a := s.assoc i
  let s := setAssoc i { a with pn := a.pn + 1, exhausted := a.exhausted || decide (2 ^ 64 - 1 ≤ a.pn + 1) } s
  let s := if a.pn + 1 = 2 ^ 62 then raise 0xE5 s else s
  if 2 ^ 64 - 1 ≤ a.pn + 1 && !a.exhausted then raise 0xE6 s else s

/-- The reason of R233 for which a packet is never sealed, as the counter it adds to. -/
def sealCheck (i c len : Nat) (s : State) : Option (Queues → Queues) :=
  let a := s.assoc i
  if a.state ≠ .active then some fun q => { q with nAssocState := q.nAssocState + 1 }
  else if a.exhausted then some fun q => { q with nExhausted := q.nExhausted + 1 }
  else if a.closed then some fun q => { q with nClosed := q.nClosed + 1 }
  else if !a.classMask.getLsbD c then some fun q => { q with nClass := q.nClass + 1 }
  else if 16384 < len then some fun q => { q with nLength := q.nLength + 1 }
  else none

/-- Segmentation staging has room for a sealed packet of `n` bytes (Table 7-1). -/
def stagingRoom (n : Nat) (s : State) : Bool := decide (stagedBytes s + n ≤ stagingSize)

/-- A sealed packet goes to segmentation staging (R148). -/
def stage (k : Nat) (col : Colour) (p : QPkt) (s : State) : State :=
  modQ (fun q => { q with staging := q.staging ++ [(k, col, p)] }) s

/-- Seal a packet that has passed R233 for leaf queue `k` (R231, R232). -/
def sealPkt (k : Nat) (p : Pkt) (s : State) : State :=
  let i := p.md.assoc
  let a := s.assoc i
  match a.tx with
  | none => dropPkt p (modQ (fun q => { q with nAssocState := q.nAssocState + 1 }) s)
  | some key =>
    let bytes := sealedBytes a.suite a.peerIdx key.name key.gen a.pn p.bytes
    let s := takePn i (traceStage p.trace 3 s)
    let s := pmcCount {
      code := 0x40, weight := cipherBlocks a.suite p.bytes.length, master := some 0x0D, cls := some p.md.cls } s
    traceStage p.trace 4 (stage k p.md.colour {
      bytes := bytes, at_ := switchTime s, trib := a.trib, dst := a.peerNum, peer := a.peerIdx, assoc := i, cls := p.md.cls
      trace := p.trace } s)

/-- SEAL (R150, R232, R233): the oldest packet that FORWARD_ASSOC handed over is checked, its queue resolved, and the
packet sealed with the next PN. It waits while segmentation staging has no room for it (log entry 95). -/
def execSeal (s : State) : Host.Outcome State Fault Refusal := .next (
  match s.cls.sealQ with
  | [] => s
  | p :: t =>
    if !stagingRoom (p.bytes.length + 32) s then s
    else
    let s := { s with cls := { s.cls with sealQ := t } }
    match sealCheck p.md.assoc p.md.cls p.bytes.length s with
    | some f => dropPkt p (modQ f s)
    | none => match leafOf p.md.assoc p.md.cls p.md.flowGroup s with
      | none => raise 0xB3 (dropPkt p (modQ (fun q => { q with nNoQueue := q.nNoQueue + 1 }) s))
      | some k => sealPkt k p s)

/-! ### Handshake packets (R225) -/

/-- Send a handshake message of a kind (0 HELLO, 1 REPLY, 2 CONFIRM_I, 3 CONFIRM_R, 4 CLOSE) for an index: a packet of
association 0, class 7, flow group 0, on tributary 0. Without that queue it is dropped with NO_QUEUE and takes no PN (R150);
without room in staging it is dropped as STORE_FULL (log entry 95). -/
def sendHandshake (kind idx gen peerNum : Nat) (s : State) : State :=
  let body := (Config.handshakeBody kind idx gen s.clk.draws).take 16384
  let s := { s with clk := { s.clk with draws := s.clk.draws + 1 } }
  match leafOf 0 7 0 s with
  | none => raise 0xB3 (modQ (fun q => { q with nNoQueue := q.nNoQueue + 1 }) s)
  | some k =>
    if !stagingRoom (body.length + 32) s then modQ (fun q => { q with nStore := q.nStore + 1 }) s
    else
      let h := sealHdr 0 0 true body.length 0 s.sec.hsPn
      let s := emit (.handshake idx kind gen) { s with sec := { s.sec with hsPn := s.sec.hsPn + 1 } }
      stage k .green {
        bytes := h ++ body ++ zeros 16, at_ := switchTime s, trib := 0, dst := peerNum, peer := 0, assoc := 0, cls := 7 } s

/-! ### Unsealing (R234 to R236) -/

/-- The checks of R235 on a packet number: 5 REPLAY, 6 REPLAY_PENDING. -/
def replayCheck (k : Key) (i pn : Nat) (s : State) : Option Nat :=
  if pn ≤ k.floor ∨ pn + 4096 ≤ k.high ∨ (pn ≤ k.high ∧ k.marks.contains pn) then some 5
  else if s.sec.unsealing.any fun u => u.assoc == i && u.gen == k.gen && u.pn == pn then some 6
  else none

/-- The first check of R234 that fails, of an association that is held; one that is not ACTIVE does not unseal (Table 10-4): 0 HEADER_MISMATCH, 1 SUSPENDED, 2 ASSOC_CLOSED, 3 KEY_GEN, 4 LENGTH, 5 REPLAY,
6 REPLAY_PENDING; or the key. -/
def unsealCheck (x : Sealed) (s : State) : Nat ⊕ Key :=
  let a := s.assoc x.assoc
  let gen := be x.bytes 4 4
  if be x.bytes 0 2 / 16 ≠ x.assoc ∨ be x.bytes 0 2 / 4 % 4 ≠ suiteCode a.suite then .inl 0
  else if a.suspended then .inl 1
  else if a.closed then .inl 2
  else match (if a.state = .active then a.rx.find? fun k => k.gen == gen else none) with
    | none => .inl 3
    | some k =>
      if be x.bytes 2 2 % 2 ^ 14 + 1 + 32 ≠ x.bytes.length then .inl 4
      else match replayCheck k x.assoc (be x.bytes 8 8) s with
        | some r => .inl r
        | none => .inr k

/-- A packet is discarded before unsealing (R234). -/
def unsealDiscard (i why : Nat) (s : State) : State :=
  raiseOnce 0xE8 (modHeld i (fun a => { a with discards := Tbl.modify 0 a.discards why (· + 1) }) s)

/-- Start unsealing a packet (R236): its plaintext enters the pipeline with AUTH PENDING. -/
def startUnseal (x : Sealed) (k : Key) (s : State) : State :=
  let a := s.assoc x.assoc
  let pn := be x.bytes 8 8
  let text := slice x.bytes 16 (x.bytes.length - 32)
  let plain := applyKeystream a.suite k.name (nonceOf k.gen pn) text
  let (id, s) := newId s
  let m : Meta := {
    port := 32 + x.carrier, assoc := x.assoc, auth := .pending, rxTime := x.kept, rxValid := switchValid s }
  let stamps := Tbl.set none (Tbl.set none [] 1 (some (switchTime s))) 2 (some (switchTime s))
  let s := pmcCount { code := 0x40, weight := cipherBlocks a.suite plain.length, master := some 0x0E, cls := some x.cls } s
  { s with
    cls := { s.cls with line := s.cls.line ++ [{ id := id, bytes := plain, md := m, stamps := stamps }] }
    sec := { s.sec with unsealing := s.sec.unsealing ++ [{ id := id, assoc := x.assoc, gen := k.gen, pn := pn, src := x.src }] } }

/-- UNSEAL (R225, R234): the oldest reassembled packet is checked and unsealed cut-through; association 0's goes to the
security firmware. A packet whose association is no longer held is discarded and counted with R18's cells. -/
def execUnseal (s : State) : Host.Outcome State Fault Refusal := .next (
  match s.down.ready with
  | [] => s
  | x :: t =>
    let s := { s with down := { s.down with ready := t } }
    if !holdsAssoc s x.assoc then unknownAssoc x.carrier s
    else if x.assoc = 0 then { s with sec := { s.sec with hsIn := s.sec.hsIn ++ [slice x.bytes 16 (x.bytes.length - 32)] } }
    else match unsealCheck x s with
      | .inl why => unsealDiscard x.assoc why s
      | .inr k => startUnseal x k s)

/-! ### The tag result (R235 to R238, Table 10-8) -/

/-- A packet, or a copy of it, learns its tag result at an instant. -/
def Pkt.tagged (id : Nat) (a : Auth) (now : Instant) (p : Pkt) : Pkt :=
  if p.id = id ∧ p.md.auth = .pending then
    { p with md := { p.md with auth := a }, stamps := Tbl.set none p.stamps 3 (some now) }
  else p

/-- The runs of a packet. -/
def Run.tagged (id : Nat) (a : Auth) (now : Instant) (r : Run) : Run :=
  { r with orig := r.orig.tagged id a now, pkt := r.pkt.tagged id a now }

/-- Every place a packet can be in learns its tag result. -/
def tagEverywhere (id : Nat) (a : Auth) (s : State) : State :=
  let now := switchTime s
  let f := Pkt.tagged id a now
  let r := Run.tagged id a now
  let dma := s.cls.dmaQ.map fun (x : Nat × Nat × Pkt) => (x.1, x.2.1, f x.2.2)
  let ctxs := s.eng.ctxs.map fun (x : Nat × Option Run) => (x.1, x.2.map r)
  let eg := fun (x : Nat × List EgFrame) => (x.1, x.2.map fun g => { g with pkt := f g.pkt })
  let ports := s.ports.map fun (x : Nat × Port) => (x.1, { x.2 with
    queues := x.2.queues.map eg, started := x.2.started.map fun y => { y with pkt := f y.pkt } })
  { s with
    cls := { s.cls with
      recUp := s.cls.recUp.map f, recDown := s.cls.recDown.map f, missUp := s.cls.missUp.map fun x => { x with pkt := f x.pkt }
      missDown := s.cls.missDown.map fun x => { x with pkt := f x.pkt }, line := s.cls.line.map f, dmaQ := dma }
    eng := { s.eng with dispUp := s.eng.dispUp.map r, dispDown := s.eng.dispDown.map r, ctxs := ctxs }
    ports := ports }

/-- The tag of the traced packet of name `id`, wherever it is. -/
def traceOf (id : Nat) (s : State) : Option Nat :=
  let runs := s.eng.dispDown ++ s.eng.ctxs.filterMap fun x => x.2
  let eg := (s.ports.map fun p => (p.2.queues.map fun (x : Nat × List EgFrame) => x.2.map EgFrame.pkt).flatten).flatten
  let st := s.ports.filterMap fun p => p.2.started.map Started.pkt
  let all := s.cls.line ++ s.cls.recDown ++ s.cls.missDown.map Miss.pkt ++ runs.map Run.pkt ++ eg ++ st ++ s.cls.dmaQ.map fun x => x.2.2
  (all.find? fun p => p.id == id && p.trace.isSome).bind Pkt.trace

/-- Hand a packet to host DMA (R202, R237): whole, with its completion status. -/
def sendDma (q why : Nat) (p : Pkt) (s : State) : State :=
  let bad := p.md.auth == .fail
  traceEnd p.trace (fun e => { e with authFail := bad }) (emit (.dma q why p.bytes p.md.rxTime bad) s)

/-- Packets for host DMA whose tag result is known are handed over. -/
def releaseDma (s : State) : State :=
  let ready := s.cls.dmaQ.filter fun x => x.2.2.md.auth != .pending
  let s := { s with cls := { s.cls with dmaQ := s.cls.dmaQ.filter fun x => x.2.2.md.auth == .pending } }
  ready.foldl (fun s x => sendDma x.1 x.2.1 x.2.2 s) s

/-- A packet number passes its tag: it is marked and the window advances (R235). -/
def Key.mark (k : Key) (pn : Nat) : Key :=
  let high := max k.high pn
  { k with high := high, marks := (pn :: k.marks).filter fun m => decide (high < m + 4096) }

/-- The association's share of a tag that passes (R225, R227, R235). -/
def tagPassed (u : Unsealing) (s : State) : State :=
  modHeld u.assoc (fun a =>
    let newest := a.rx.foldl (fun g k => max g k.gen) 0
    let hold := a.oldUntil.isNone && u.gen == newest && a.rx.any fun k => k.gen != newest
    { a with
      rx := a.rx.map fun k => if k.gen = u.gen then k.mark u.pn else k, peerNum := u.src
      oldUntil := if hold then some (s.clk.now + ms a.oldHold) else a.oldUntil }) s

/-- The association's share of a tag that fails (R238). -/
def tagFailed (u : Unsealing) (s : State) : State :=
  let a := s.assoc u.assoc
  let s := raiseOnce 0xE3 s
  if a.state = .free then s
  else
    let s := setAssoc u.assoc { a with
      failCount := a.failCount + 1, suspended := a.suspended || decide (a.threshold ≤ a.failCount + 1) } s
    if a.threshold ≤ a.failCount + 1 && !a.suspended then raise 0xE4 s else s

/-- TAG_RESULT (R235 to R238). -/
def execTagResult (id : Nat) (ok : Bool) (s : State) : Host.Outcome State Fault Refusal := .next (
  match s.sec.unsealing.find? fun u => u.id == id with
  | none => s
  | some u =>
    let s := { s with sec := { s.sec with unsealing := s.sec.unsealing.filter fun u => u.id != id } }
    let s := if ok then tagPassed u s else tagFailed u s
    let s := traceStage (traceOf id s) 3 s
    let s := tagEverywhere id (if ok then .pass else .fail) s
    let s := forEach (Tbl.keys s.ports) headChecks s
    releaseDma s)

end Sys2Proof.Machine
end

