-- ==== Sys2Proof/Machine/Classify.lean ====
section
/-! DEFINITION. Classification (chapter 06): tables and generations, lookups, actions, passes, the ingress FIFO's
accounts, and the commands' bodies of Table 6-7. -/

namespace Sys2Proof.Machine

/-! ### Ingress FIFO accounts (R200) -/

/-- A frame's priority: the PCP of its outermost VLAN tag, or the port's default. -/
def framePrio (v : Port) (b : List Byte) : Nat :=
  if be b 12 2 = 0x8100 ∨ be b 12 2 = 0x88A8 then byteAt b 14 / 32 else (v.cfg.map fun c => c.defPrio).getD 0

/-- Bytes of a FIFO, and of one of its accounts: 0 to 7 by priority, 8 the whole. -/
def fifoBytes (l : List Pkt) : Nat := l.foldl (fun a p => a + frameLen p.bytes) 0
def Port.account (v : Port) (k : Nat) : Nat :=
  if k = 8 then fifoBytes v.fifo else fifoBytes (v.fifo.filter fun p => framePrio v p.bytes == k)

/-- The accounts a port keeps in its pause mode. -/
def Port.accounts (v : Port) : List Nat :=
  match v.pause.mode with | .none => [] | .pause => [8] | .pfc => List.range 8

/-- XOFF and XON of an account in bytes; an account without a set XOFF never rises above it. -/
def Port.xoffAt (v : Port) (k : Nat) : Option Nat := (v.pause.xoff[if k = 8 then 0 else k]?).map fun x => x * 1024
def Port.xonAt (v : Port) (k : Nat) : Nat := ((v.pause.xon[if k = 8 then 0 else k]?).getD 0) * 1024

/-- Half the configured pause time at the port's rate: quanta of 512 bit times. -/
def Port.halfPause (v : Port) : Nat := v.pause.time.toNat * 512 * 65536 / (2 * v.gbps)

/-- Send a PAUSE or PFC frame for an account, ahead of queued frames (R200). -/
def sendPause (p k : Nat) (time : BitVec 16) (s : State) : State :=
  if !(s.port p).up then s
  else
    let enabled : BitVec 8 := if k = 8 then 0xFF else 1 <<< k
    sendOwn p 64 (fun t => .pauseFrame p t enabled time)
      (modStats p (fun c => { c with txPause := Tbl.modify 0 c.txPause k (· + 1) }) s)

/-- An account crosses XOFF upward or XON downward (R200). -/
def checkAccount (p k : Nat) (s : State) : State :=
  let v := s.port p
  match (Tbl.get none v.xoff k : Option Instant), v.xoffAt k with
  | none, some x =>
    if x < v.account k then
      sendPause p k v.pause.time
        (modPort p (fun v => { v with xoff := Tbl.set none v.xoff k (some (s.clk.now + v.halfPause)) }) s)
    else s
  | some _, _ =>
    if v.account k < v.xonAt k then sendPause p k 0 (modPort p (fun v => { v with xoff := Tbl.set none v.xoff k none }) s)
    else s
  | none, none => s

/-- The accounts of a port whose FIFO has changed. -/
def fifoChanged (p : Nat) (s : State) : State := forEach (s.port p).accounts (checkAccount p) s

/-! ### Generations (R143) -/

/-- The tables of a generation slot. -/
def Classifier.tables (c : Classifier) (b : Bool) : GenTables := if b then c.slotB else c.slotA

/-- The slots whose generation is live: A and B. -/
def Classifier.live (c : Classifier) : Bool × Bool :=
  (!c.curB || c.draining.isSome, c.curB || c.draining.isSome)

/-- Change the tables of slots. -/
def modTables (sl : Bool × Bool) (f : GenTables → GenTables) (s : State) : State :=
  modCls (fun c => { c with
    slotA := if sl.1 then f c.slotA else c.slotA, slotB := if sl.2 then f c.slotB else c.slotB }) s

/-- An entry is visible in a slot. -/
def FlowEntry.vis (e : FlowEntry) (b : Bool) : Bool := if b then e.visB else e.visA
def TernEntry.vis (e : TernEntry) (b : Bool) : Bool := if b then e.visB else e.visA

/-- The action set of an index in a slot (R134). -/
def ActionRec.at (r : ActionRec) (b : Bool) : Option (List Action) :=
  if (if b then r.selB else r.selA) then r.copy1 else r.copy0

/-- The entry of a key and profile visible in a slot. -/
def findFlow (b : Bool) (profile : Nat) (key : List Byte) (s : State) : Option FlowEntry :=
  s.cls.flows.find? fun e => e.vis b && e.word.profile == profile && e.key == key

/-! ### Table changes (R133 to R136, R144, R145) -/

/-- class.table_high at 90 % occupancy, once more after it has fallen below 85 % (R130). -/
def noteFlows (s : State) : State :=
  let n := s.cls.flows.length
  if 7549747 ≤ n ∧ !s.cls.tableHigh then raise 0xA6 (modCls (fun c => { c with tableHigh := true }) s)
  else if n * 100 < 8388608 * 85 then modCls (fun c => { c with tableHigh := false }) s else s

/-- Entries in a bucket of 8 (R130). -/
def inBucket (b : Nat) (l : List FlowEntry) : Nat := (l.filter fun e => e.bucket == b).length

/-- The candidate buckets of a key (R130). -/
def candidate (i : Nat) (key : List Byte) : Nat := Config.flowHash i key % 1048576

/-- Make room for one entry in bucket `b` with at most `fuel` moves (R130): its oldest entry goes to its other candidate. The table
after them, and how many they were. -/
def makeRoom : Nat → Nat → List FlowEntry → Option (List FlowEntry × Nat)
  | 0, b, l => if inBucket b l < 8 then some (l, 0) else none
  | fuel + 1, b, l =>
    if inBucket b l < 8 then some (l, 0)
    else match l.find? fun e => e.bucket == b with
      | none => none
      | some v =>
        let o := if candidate 0 v.key = b then candidate 1 v.key else candidate 0 v.key
        (makeRoom fuel o (l.erase v)).map fun r => (r.1 ++ [{ v with bucket := o }], r.2 + 1)

/-- A place for a key (R130): its bucket, the table after at most 64 moves, and their number. -/
def findPlace (key : List Byte) (l : List FlowEntry) : Option (Nat × List FlowEntry × Nat) :=
  let a := candidate 0 key
  let b := candidate 1 key
  if inBucket a l < 8 then some (a, l, 0)
  else if inBucket b l < 8 then some (b, l, 0)
  else (makeRoom 64 a l).map fun r => (a, r.1, r.2)

/-- Write a flow entry in slots; OVERRIDE is 0 in flow entries. HIT stays where the entry was there. Below 90 % the manual promises a
place: where the hashes leave none, the entry lies in its first bucket (log entry 93). -/
def putFlow (sl : Bool × Bool) (w : EntryWord) (key : List Byte) (s : State) : State :=
  let same := fun (e : FlowEntry) => e.word.profile == w.profile && e.key == key
  let hit := s.cls.flows.any fun e => same e && e.hit
  let l := hideFlows sl same s.cls.flows
  let place := (findPlace key l).getD (candidate 0 key, l, 0)
  let e : FlowEntry := {
    word := { w with override := false }, key := key, visA := sl.1, visB := sl.2, hit := hit, bucket := place.1 }
  noteFlows (modCls (fun c => { c with flows := place.2.1 ++ [e] }) s)

/-- Delete a flow entry in slots. -/
def dropFlow (sl : Bool × Bool) (profile : Nat) (key : List Byte) (s : State) : State :=
  noteFlows (modCls (fun c => { c with
    flows := hideFlows sl (fun e => e.word.profile == profile && e.key == key) c.flows }) s)

/-- Write or delete a ternary entry in slots. -/
def putTern (sl : Bool × Bool) (idx : Nat) (w : EntryWord) (value mask : List Byte) (s : State) : State :=
  let e : TernEntry := { index := idx, word := w, value := value, mask := mask, visA := sl.1, visB := sl.2 }
  modCls (fun c => { c with tern := hideTern sl (fun e => e.index == idx) c.tern ++ [e] }) s
def dropTern (sl : Bool × Bool) (idx : Nat) (s : State) : State :=
  modCls (fun c => { c with tern := hideTern sl (fun e => e.index == idx) c.tern }) s

/-- Write an action set in slots (R134): the copy that none of the other slots selects is filled and selected. -/
def ActionRec.put (r : ActionRec) (sl : Bool × Bool) (curB : Bool) (acts : List Action) : ActionRec :=
  let free := !(if curB then r.selB else r.selA)
  let r : ActionRec :=
    if sl = (true, true) ∧ r.selA ≠ r.selB then { r with copy0 := some acts, copy1 := some acts }
    else if free then { r with copy1 := some acts } else { r with copy0 := some acts }
  { r with selA := if sl.1 then free else r.selA, selB := if sl.2 then free else r.selB, broken := false }

/-- Write an action set. -/
def putActions (sl : Bool × Bool) (idx : Nat) (acts : List Action) (s : State) : State :=
  modCls (fun c => { c with actions := Tbl.modify {} c.actions idx fun r => r.put sl c.curB acts }) s

/-- User nodes, profiles and defaults in slots. -/
def putNode (sl : Bool × Bool) (node : Nat) (d : Option UserNode) (s : State) : State :=
  modTables sl (fun t => { t with nodes := Tbl.set none t.nodes node d }) s
def putProfile (sl : Bool × Bool) (k : Nat) (exact ternary : List Selection) (s : State) : State :=
  modTables sl (fun t => { t with profiles := Tbl.set {} t.profiles k { exact := exact, ternary := ternary } }) s
def putDefault (sl : Bool × Bool) (port set profile : Nat) (s : State) : State :=
  modTables sl (fun t => { t with defaults := Tbl.set {} t.defaults port { set := some set, profile := profile } }) s

/-! ### Checks of the table commands (R124, R128, R136 to R138, R141) -/

/-- An action set index holds a set in the current generation. -/
def setWritten (idx : Nat) (s : State) : Bool := ((Tbl.get {} s.cls.actions idx : ActionRec).at s.cls.curB).isSome

/-- Fields of an entry (Table 6-4): ranges, then an action set that has been written. -/
def checkWord (w : EntryWord) (s : State) : Status :=
  if 15 < w.profile ∨ 1048576 ≤ w.actionSet ∨ (2 ^ 24 ≤ w.counter.toNat ∧ w.counter ≠ 0xFFFFFFFF) then .paramRange
  else if !setWritten w.actionSet s then .actionInvalid else .ok

/-- flow.insert (R130, R136). -/
def checkFlowInsert (w : EntryWord) (key : List Byte) (s : State) : Status :=
  if key.length ≠ 44 then .paramLength
  else match checkWord w s with
    | .ok =>
      if (findFlow s.cls.curB w.profile key s).isSome then .entryExists
      else if 8388608 ≤ s.cls.flows.length then .tableFull
      else if 7549747 ≤ s.cls.flows.length ∧ (findPlace key s.cls.flows).isNone then .placeFail
      else .ok
    | st => st

/-- flow.modify (R136): the profile and key name the entry; the new fields keep its profile. -/
def checkFlowModify (profile : Nat) (key : List Byte) (w : EntryWord) (s : State) : Status :=
  if key.length ≠ 44 then .paramLength
  else match checkWord { w with profile := profile } s with
    | .ok => if (findFlow s.cls.curB profile key s).isSome then .ok else .entryAbsent
    | st => st

/-- flow.delete and flow.lookup. -/
def checkFlowKey (profile : Nat) (key : List Byte) (s : State) : Status :=
  if key.length ≠ 44 then .paramLength
  else if 15 < profile then .paramRange
  else if (findFlow s.cls.curB profile key s).isSome then .ok else .entryAbsent

/-- A terminal action. -/
def Action.isTerminal : Action → Bool
  | .forwardAssoc _ => true | .forwardPort _ _ => true | .toHost _ _ => true | .recirculate _ => true | .drop _ => true
  | _ => false

/-- A program is loaded under a number. -/
def loaded (k : Nat) (s : State) : Bool := (Tbl.get none s.eng.progs k : Option Prog).isSome

/-- One action's parameters name things that exist and lie in range (Table 6-5, R138). -/
def Action.ok (s : State) : Action → Bool
  | .setClass c _ => decide (c < 8)
  | .police i => (Tbl.get none s.q.policers i : Option Policer).isSome
  | .rewrite e off v m => decide (e < 24 ∧ 1 ≤ v.length ∧ v.length ≤ 16 ∧ m.length = v.length ∧ off + v.length ≤ 384)
  | .pushVlan t _ => t == 0x8100 || t == 0x88A8
  | .popVlan => true
  | .pushMpls l tc ttl e => decide (l < 2 ^ 20 ∧ tc < 8 ∧ ttl < 256) && (e == 0x8847 || e == 0x8848)
  | .popMpls _ => true
  | .decTtl => true
  | .setMeta f v => decide ((f = 0 ∧ v < 8) ∨ (f = 1 ∧ v < 4) ∨ (f = 2 ∧ v < 16) ∨ (f = 3 ∧ v < 4096) ∨ (f = 4 ∧ v < 2) ∨
      (f = 5 ∧ v < 65536) ∨ (6 ≤ f ∧ f ≤ 9 ∧ v < 2 ^ 32))
  | .count i => decide (i < 2 ^ 24)
  | .mirror n => decide (n < 64)
  | .runProgram k => loaded k s
  | .forwardAssoc i => decide (i < 4096) && holdsAssoc s i
  | .forwardPort p q => s.hasPort p && decide (q < 8)
  | .toHost _ _ => true
  | .recirculate k => decide (k < 16)
  | .drop r => decide (r < 256)

/-- Pushes of a list. -/
def pushCount (l : List Action) : Nat :=
  (l.filter fun a => match a with | .pushVlan _ _ => true | .pushMpls _ _ _ _ => true | _ => false).length

/-- What a list of actions has pushed and popped so far: tags and labels that it pushed and has not popped, headers of the parse stack
that it popped, and whether a REWRITE named one of those. -/
structure Pops where
  tags   : Nat := 0
  labels : Nat := 0
  popped : Nat := 0
  bad    : Bool := false

/-- One action of a list whose pushes and pops are counted. -/
def popStep (b : Pops) (x : Action) : Pops :=
  match x with
  | .pushVlan _ _ => { b with tags := b.tags + 1 }
  | .popVlan => if 0 < b.tags then { b with tags := b.tags - 1 } else { b with popped := b.popped + 1 }
  | .pushMpls _ _ _ _ => { b with labels := b.labels + 1 }
  | .popMpls _ => if 0 < b.labels then { b with labels := b.labels - 1 } else { b with popped := b.popped + 1 }
  | .rewrite e _ _ _ => { b with bad := b.bad || decide (1 ≤ e ∧ e ≤ b.popped) }
  | .setClass _ _ => b | .police _ => b | .decTtl => b | .setMeta _ _ => b
  | .count _ => b | .mirror _ => b | .runProgram _ => b | .forwardAssoc _ => b | .forwardPort _ _ => b | .toHost _ _ => b
  | .recirculate _ => b | .drop _ => b

/-- A REWRITE names a header that an earlier POP_VLAN or POP_MPLS has removed (R138): the tags and labels of the parse stack go from
entry 1 on, those pushed in the list first (log entry 91). -/
def rewritesPopped (l : List Action) : Bool := (l.foldl popStep {}).bad

/-- flow.action.write (R137 to R140). -/
def checkActions (idx : Nat) (l : List Action) (s : State) : Status :=
  if 1048576 ≤ idx then .paramRange
  else if decide (1 ≤ l.length ∧ l.length ≤ 8) && l.all (Action.ok s) && ((l.getLast?.map Action.isTerminal).getD false) &&
      !(l.dropLast.any Action.isTerminal) && decide (pushCount l ≤ 4) && !rewritesPopped l then .ok
  else .actionInvalid

/-- Some entry that is visible names an action set (R146). -/
def setReferenced (idx : Nat) (s : State) : Bool :=
  s.cls.flows.any (fun e => e.word.actionSet == idx) || s.cls.tern.any (fun e => e.word.actionSet == idx)

/-- ternary.write. -/
def checkTernWrite (idx : Nat) (w : EntryWord) (value mask : List Byte) (s : State) : Status :=
  if value.length ≠ 40 ∨ mask.length ≠ 40 then .paramLength
  else if 65535 < idx then .paramRange else checkWord w s

/-- The user nodes that the fixed-length ones reach in `fuel` edges. -/
def reach (nodes : Tbl (Option UserNode)) : Nat → List Nat → List Nat
  | 0, l => l
  | fuel + 1, l =>
    reach nodes fuel (l ++ (l.map fun k => match (Tbl.get none nodes k : Option UserNode) with
      | some u => match u.len with
        | .fixed _ => (u.edges.map fun e => e.2).filter fun n => decide (32 ≤ n) && !l.contains n
        | _ => []
      | none => []).flatten).dedup

/-- A node stands in a cycle of user nodes with no length field (R124). -/
def inFixedCycle (nodes : Tbl (Option UserNode)) (k : Nat) : Bool :=
  match (Tbl.get none nodes k : Option UserNode) with
  | some u => match u.len with
    | .fixed _ =>
      let first := (u.edges.map fun e => e.2).filter fun n => decide (32 ≤ n)
      (reach nodes 32 first).any fun n => match (Tbl.get none nodes n : Option UserNode) with
        | some w => match w.len with
          | .fixed _ => n == k || w.edges.any fun e => e.2 == k
          | _ => false
        | none => false
    | _ => false
  | none => false

/-- The selector and the length field of a node lie inside it (R124), at its greatest length. -/
def UserNode.inside (u : UserNode) : Bool :=
  match u.len with
  | .fixed n => decide (8 * u.selOff + u.selBits ≤ 8 * n)
  | .field off bits scale base =>
    let n := (2 ^ bits - 1) * scale + base
    decide (8 * u.selOff + u.selBits ≤ 8 * n ∧ 8 * off + bits ≤ 8 * n)

/-- parse.node.set (R124). -/
def checkNode (node : Nat) (d : Option UserNode) (s : State) : Status :=
  if node < 32 ∨ 63 < node then .paramRange
  else match d with
    | none => .ok
    | some u =>
      let lenOk := match u.len with
        | .fixed n => decide (1 ≤ n ∧ n ≤ 64)
        | .field _ bits scale base => decide ((bits = 4 ∨ bits = 8 ∨ bits = 16) ∧
            (scale = 1 ∨ scale = 2 ∨ scale = 4 ∨ scale = 8) ∧ base ≤ 64)
      if !lenOk || !UserNode.inside u || decide (16 < u.selBits ∨ 16 < u.edges.length ∨ 4 < u.entries.length) then .paramRange
      else if u.edges.any (fun e => decide (e.2 < 1 ∨ 63 < e.2)) || u.entries.any (fun e => decide (e.1 < 1 ∨ 31 < e.1)) then
        .actionInvalid
      else if inFixedCycle (Tbl.set none (s.cls.tables s.cls.curB).nodes node (some u)) node then .actionInvalid
      else .ok

/-- The selections of a key of at most `room` bytes (R128). -/
def selectionsOk (l : List Selection) (room : Nat) : Bool :=
  decide (l.length ≤ 16 ∧ (l.map selLen).sum ≤ room) && l.all fun x => match x with
    | .header node inst _ len => decide (1 ≤ node ∧ node ≤ 63 ∧ inst ≠ 0 ∧ 1 ≤ len ∧ len ≤ 16)
    | _ => true

/-- class.profile.set (R128). -/
def checkProfile (k : Nat) (exact ternary : List Selection) : Status :=
  if decide (k < 16) && selectionsOk exact 42 && selectionsOk ternary 38 then .ok else .paramRange

/-- class.default.set (R4, R141). -/
def checkDefault (port set profile : Nat) (s : State) : Status :=
  if 35 < port ∨ 1048576 ≤ set ∨ 15 < profile then .paramRange
  else if !(if port < 32 then s.hasPort port else s.hasCarrier (port - 32)) then .unitAbsent
  else if !setWritten set s then .actionInvalid else .ok

/-! ### Bodies (Table 6-7) -/

/-- The flow entry, and the ternary index, that a staged change is of. -/
def Cmd.flowKey : Cmd → Option (Nat × List Byte)
  | .flowInsert w key => some (w.profile, key)
  | .flowModify profile key _ => some (profile, key)
  | .flowDelete profile key => some (profile, key)
  | _ => none
def Cmd.ternIndex : Cmd → Option Nat
  | .ternaryWrite i _ _ _ => some i
  | .ternaryDelete i => some i
  | _ => none

/-- The slots of a direct write (R144, R145): the live generations, and the one being written in unless the group stages a change of
the same entry, `own`. -/
def directSlots (own : Cmd → Bool) (s : State) : Bool × Bool :=
  match s.cls.writeIn with
  | some w =>
    if w.started.isSome && !(s.grp w.group).changes.any (fun x => own x.cmd) then (true, true) else s.cls.live
  | none => s.cls.live

/-- A body whose checks and effect on the live generations are given; `own` picks the staged changes of the same entry. -/
def tableBody (own : Cmd → Bool) (check : State → Status) (put : Bool × Bool → State → State) : Body := fun s =>
  match check s with | .ok => okNone (put (directSlots own s) s) | st => fail st s

/-- Staged changes of a flow entry, of a ternary index, of neither. -/
def ofFlow (profile : Nat) (key : List Byte) (c : Cmd) : Bool := Cmd.flowKey c == some (profile, key)
def ofTern (idx : Nat) (c : Cmd) : Bool := Cmd.ternIndex c == some idx
def ofNone (_ : Cmd) : Bool := false

/-- flow.insert: the reply gives the bucket moves made. -/
def doFlowInsert (w : EntryWord) (key : List Byte) : Body := fun s =>
  match checkFlowInsert w key s with
  | .ok =>
    okData [((findPlace key s.cls.flows).map fun r => r.2.2).getD 0]
      (putFlow (directSlots (ofFlow w.profile key) s) w key s)
  | st => fail st s
def doFlowModify (profile : Nat) (key : List Byte) (w : EntryWord) : Body :=
  tableBody (ofFlow profile key) (checkFlowModify profile key w) fun sl => putFlow sl { w with profile := profile } key
def doFlowDelete (profile : Nat) (key : List Byte) : Body :=
  tableBody (ofFlow profile key) (checkFlowKey profile key) fun sl => dropFlow sl profile key
def doFlowActionWrite (idx : Nat) (acts : List Action) : Body :=
  tableBody ofNone (checkActions idx acts) fun sl => putActions sl idx acts
def doTernaryWrite (idx : Nat) (w : EntryWord) (value mask : List Byte) : Body :=
  tableBody (ofTern idx) (checkTernWrite idx w value mask) fun sl => putTern sl idx w value mask
def checkTernDelete (idx : Nat) : Status := if idx ≤ 65535 then .ok else .paramRange
def doTernaryDelete (idx : Nat) : Body := tableBody (ofTern idx) (fun _ => checkTernDelete idx) fun sl => dropTern sl idx
def doParseNodeSet (node : Nat) (d : Option UserNode) : Body := tableBody ofNone (checkNode node d) fun sl => putNode sl node d
def doClassProfileSet (k : Nat) (exact ternary : List Selection) : Body :=
  tableBody ofNone (fun _ => checkProfile k exact ternary) fun sl => putProfile sl k exact ternary
def doClassDefaultSet (port set profile : Nat) : Body :=
  tableBody ofNone (checkDefault port set profile) fun sl => putDefault sl port set profile

/-- Word 0 of an entry as flow.lookup returns it (Table 6-4). -/
def entryWord0 (w : EntryWord) (hit visA visB : Bool) : Nat :=
  w.valid.toNat * 2 ^ 31 + hit.toNat * 2 ^ 30 + w.override.toNat * 2 ^ 29 + visB.toNat * 2 ^ 28 + visA.toNat * 2 ^ 27 +
  w.profile % 16 * 2 ^ 20 + w.actionSet % 2 ^ 20

/-- A flow entry's 64 bytes (Table 6-4). -/
def FlowEntry.layout (e : FlowEntry) : List Byte :=
  beBytes 4 (entryWord0 e.word e.hit e.visA e.visB) ++ beBytes 4 e.word.cookie.toNat ++ beBytes 4 e.word.counter.toNat ++ zeros 4 ++
    (e.key ++ zeros 44).take 44 ++ zeros 4

/-- flow.lookup: the entry in the layout of Table 6-4. -/
def doFlowLookup (profile : Nat) (key : List Byte) : Body := fun s =>
  match checkFlowKey profile key s with
  | .ok => match findFlow s.cls.curB profile key s with
    | none => fail .entryAbsent s
    | some e => okData (e.layout.map (·.toNat)) s
  | st => fail st s

/-- flow.scan: the keys whose HIT was set in the buckets, cleared by the read. -/
def doFlowScan (first count : Nat) : Body :=
  require (decide (1 ≤ count ∧ count ≤ 4096 ∧ first + count ≤ 1048576)) .paramRange fun s =>
    let here := fun (e : FlowEntry) => decide (first ≤ e.bucket ∧ e.bucket < first + count) && e.hit
    let keys := ((s.cls.flows.filter here).map fun e => [e.word.profile, be e.key 0 44]).flatten
    okData keys (modCls (fun c => { c with flows := c.flows.map fun e => if here e then { e with hit := false } else e }) s)

/-- class.status. -/
def doClassStatus : Body := fun s =>
  let c := s.cls
  let wi := match c.writeIn with
    | none => 0
    | some w => if w.done then 3 else if w.started.isSome then 2 else 1
  okData ([c.gen, c.curB.toNat, if c.draining.isSome then 1 + (c.gen - 1) else 0, wi, c.flows.length, c.nIngress, c.nMiss,
    c.nRecirc, c.nTtl, c.nNoop] ++ (List.range 4).map fun k => Tbl.get 0 c.passes k) s

/-! ### A new generation (R143, R144) -/

/-- The write-in begins (R144): the free slot takes over the current one's tables and visibility. -/
def openGeneration (s : State) : State :=
  let b := !s.cls.curB
  modCls (fun c =>
    let t := c.tables c.curB
    let flows := (c.flows.map fun e => if b then { e with visB := e.visA } else { e with visA := e.visB }).filter
      fun e => e.visA || e.visB
    let tern := (c.tern.map fun e => if b then { e with visB := e.visA } else { e with visA := e.visB }).filter
      fun e => e.visA || e.visB
    let acts := c.actions.map fun (x : Nat × ActionRec) =>
      (x.1, if b then { x.2 with selB := x.2.selA } else { x.2 with selA := x.2.selB })
    { c with
      slotA := if b then c.slotA else t, slotB := if b then t else c.slotB, flows := flows, tern := tern, actions := acts }) s

/-- A staged classification change in slots (Table 11-9). -/
def putClassification (sl : Bool × Bool) (c : Cmd) (s : State) : State :=
  match c with
  | .flowInsert e k => putFlow sl e k s
  | .flowModify p k e => putFlow sl { e with profile := p } k s
  | .flowDelete p k => dropFlow sl p k s
  | .flowActionWrite i l => putActions sl i l s
  | .ternaryWrite i e v m => putTern sl i e v m s
  | .ternaryDelete i => dropTern sl i s
  | .parseNodeSet n d => putNode sl n d s
  | .classProfileSet k e t => putProfile sl k e t s
  | .classDefaultSet p a k => putDefault sl p a k s
  | _ => s

/-- The write-in of a COMMITTED group begins in the free slot, in staging order (R144). -/
def beginWriteIn (w : WriteIn) (s : State) : State :=
  let s := (s.grp w.group).changes.foldl (fun s c => putClassification (slotOf (!s.cls.curB)) c.cmd s) (openGeneration s)
  modCls (fun c => { c with writeIn := some { w with started := some (switchTime s) } }) s

/-- The generation just written becomes current, and the previous one starts to drain (R144). -/
def switchGeneration (s : State) : State :=
  raise 0xA4 (modCls (fun c => { c with
    gen := (c.gen + 1) % 2 ^ 32, curB := !c.curB, draining := some (switchTime s), writeIn := none }) s)

/-- Packets in classification (R142): waiting for passes, misses and programs. -/
def inClassification (s : State) : List Pkt :=
  s.cls.recUp ++ s.cls.recDown ++ s.cls.missUp.map Miss.pkt ++ s.cls.missDown.map Miss.pkt ++ s.eng.dispUp.map Run.pkt ++ s.eng.dispDown.map Run.pkt ++
    (s.eng.ctxs.filterMap fun x => x.2.map Run.pkt)

/-- GENERATION_DRAIN (R143, R144): no packet holds the older generation any longer; its slot is free and a waiting
write-in begins. -/
def execGenerationDrain (s : State) : Host.Outcome State Fault Refusal := .next (
  if s.cls.draining.isSome && (inClassification s).all fun p => p.md.slotB == s.cls.curB then
    let s := releaseSlot (modCls (fun c => { c with draining := none }) s)
    match s.cls.writeIn with
    | some w => if w.started.isNone then beginWriteIn w s else s
    | none => s
  else s)

/-- WRITE_IN_COMPLETE (R144). -/
def execWriteInComplete (s : State) : Host.Outcome State Fault Refusal := .next (
  match s.cls.writeIn with
  | some w => if w.started.isSome then modCls (fun c => { c with writeIn := some { w with done := true } }) s else s
  | none => s)

/-! ### Actions (R137 to R142) -/

/-- A packet in a pass: as it was at the start of the pass, its edits, its metadata now. -/
structure Act where
  orig : Pkt
  e    : Edit
  md   : Meta

/-- A pass's actions start from a parsed packet. -/
def Act.start (p : Pkt) : Act := { orig := p, e := { bytes := p.bytes, stack := p.md.stack }, md := p.md }

/-- The packet as edited, its checksums corrected (R139). -/
def Act.pkt (a : Act) : Pkt :=
  { a.orig with bytes := fixChecksums a.e.edited a.orig.md.stack a.orig.bytes a.e.stack a.e.bytes, md := a.md }

/-- Count the edits that did nothing (R138). -/
def settle (a : Act) (s : State) : State := modCls (fun c => { c with nNoop := c.nNoop + a.e.noop }) s

/-- Drop the packet of a pass. -/
def dropAct (a : Act) (f : Classifier → Classifier) (s : State) : State := dropPkt a.pkt (modCls f (settle a s))

/-- A packet whose tag has failed is dropped at its terminal action (R237). -/
def authDrop (p : Pkt) (s : State) : State :=
  traceEnd p.trace (fun e => { e with dropped := true, authFail := true })
    (pmcDrop p.md (modCls (fun c => { c with nAuthFail := c.nAuthFail + 1 }) s))

/-- Queue a packet for another pass, at most 4 in all (R142). -/
def recirculate (profile : Nat) (p : Pkt) (s : State) : State :=
  if 3 ≤ p.md.pass then raiseOnce 0xA3 (dropPkt p (modCls (fun c => { c with nRecirc := c.nRecirc + 1 }) s))
  else
    let p := { p with md := { p.md with pass := p.md.pass + 1, profile := profile } }
    let s := traceEntry p.trace (fun e => { e with passes := e.passes + 1 }) s
    if p.md.down then modCls (fun c => { c with recDown := c.recDown ++ [p] }) s
    else modCls (fun c => { c with recUp := c.recUp ++ [p] }) s

/-- The terminal action of a pass (Table 6-5). A downstream packet has no FORWARD_ASSOC and is dropped there. -/
def terminal (t : Action) (a : Act) (s : State) : State :=
  let p := a.pkt
  let s := settle a s
  let s := match t with
    | .recirculate _ => s
    | _ => traceStageAt p.trace (if p.md.down then 5 else 2) (switchTime s) s
  let i := match t with | .forwardAssoc i => i | _ => p.md.assoc
  let s := traceEntry p.trace (fun e => { e with cls := p.md.cls, assoc := i }) s
  if p.md.auth = .fail then authDrop p s
  else match t with
    | .forwardAssoc i =>
      if p.md.down then dropPkt p s
      else modCls (fun c => { c with sealQ := c.sealQ ++ [{ p with md := { p.md with assoc := i } }] }) s
    | .forwardPort port q => egressAdmit port q { pkt := p, at_ := switchTime s } s
    | .toHost q why =>
      if p.md.auth = .pending then modCls (fun c => { c with dmaQ := c.dmaQ ++ [(q, why, p)] }) s else sendDma q why p s
    | .recirculate k => recirculate k p s
    | .drop r => dropPkt p (modCls (fun c => { c with drops := Tbl.modify 0 c.drops r (· + 1) }) s)
    | _ => dropPkt p s

/-- MIRROR (R137, R237): a copy as edited so far, cut to the session's length, to its host queue or client port. -/
def mirrorCopy (n : Nat) (p : Pkt) (s : State) : State :=
  let c : Pkt := { p with bytes := p.bytes.take (Config.mirrorLength n), trace := none }
  if Config.mirrorToHost n then
    if c.md.auth = .pending then modCls (fun k => { k with dmaQ := k.dmaQ ++ [(Config.mirrorQueue n, 0, c)] }) s
    else sendDma (Config.mirrorQueue n) 0 c s
  else egressAdmit (Config.mirrorPort n) (Config.mirrorQueue n % 8) { pkt := c, at_ := switchTime s } s

/-- The residue check on the token arithmetic of the packet that is metered now fails (R161): its policer keeps its values, and the
packet is dropped with RESIDUE. -/
def residueFails (s : State) : Option State :=
  if s.cls.residueNext then some (modCls (fun c => { c with residueNext := false, nResidue := c.nResidue + 1 }) s) else none

/-- POLICE (R160, R161), credited on the tick of the pass's lookup: the colour and the state with the policer's new counts; a policer never created leaves it. -/
def police (i : Nat) (m : Meta) (s : State) : Colour × State :=
  match (Tbl.get none s.q.policers i : Option Policer) with
  | none => (m.colour, s)
  | some x =>
    let (c, x) := x.meter m.lookAt m.len m.colour
    (c, modQ (fun q => { q with policers := Tbl.set none q.policers i (some x) }) s)

/-- COUNT. -/
def countPkt (i : Nat) (m : Meta) (s : State) : State :=
  modCls (fun c => { c with counters := Tbl.modify {} c.counters i fun (k : PktCounter) =>
    { packets := k.packets + 1, bytes := k.bytes + m.len } }) s

/-- A later SET_CLASS of the list keeps red packets (Table 6-5). -/
def keepsRed (l : List Action) : Bool := l.any fun a => match a with | .setClass _ k => k | _ => false

/-- RUN_PROGRAM (R272, R273, R281, Table 15-7): the packet joins its direction's dispatch queue; a program that is
DISABLED, or no longer loaded, drops it. -/
def dispatch (k : Nat) (rest : List Action) (a : Act) (s : State) : State :=
  let off := match (Tbl.get none s.eng.progs k : Option Prog) with | some g => g.disabled | none => true
  let s := settle a s
  let p := { a.orig with bytes := a.e.bytes, md := { a.md with stack := a.e.stack } }
  if off then dropPkt p { s with eng := { s.eng with nDisabled := s.eng.nDisabled + 1 } }
  else if 4096 ≤ (if a.md.down then s.eng.dispDown else s.eng.dispUp).length then
    raiseOnce 0xFA (dropPkt p { s with eng := { s.eng with nOverrun := s.eng.nOverrun + 1 } })
  else
    let r : Run := {
      prog := k, orig := a.orig, pkt := p, rest := rest, last := (rest.getLast?).getD (.drop 0), queued := s.clk.now
      pushes := a.e.pushes, added := a.e.added, bytes := a.e.bytes, stack := a.e.stack
      edited := a.e.edited }
    if a.md.down then { s with eng := { s.eng with dispDown := s.eng.dispDown ++ [r] } }
    else { s with eng := { s.eng with dispUp := s.eng.dispUp ++ [r] } }

/-- One action (R137 to R142): the packet as the rest of the list finds it, or none where the list ends here. -/
def runOne (x : Action) (rest : List Action) (a : Act) (s : State) : Option Act × State :=
  match x with
  | .setClass c _ => (some { a with md := { a.md with cls := c } }, s)
  | .police i =>
    match residueFails s with
    | some s => (none, dropAct a (fun k => k) s)
    | none =>
      let r := police i a.md s
      let b := { a with md := { a.md with colour := r.1 } }
      if r.1 = .red ∧ !keepsRed rest then (none, dropAct b (fun k => { k with nRed := k.nRed + 1 }) r.2)
      else (some b, r.2)
  | .rewrite e off v m =>
    (some (match a.e.stack[e]? with
      | some (n, o) => if n = 0 then { a with e := a.e.skip } else { a with e := a.e.write (o + off) v m }
      | none => { a with e := a.e.skip }), s)
  | .pushVlan t i => (some { a with e := a.e.pushVlan t i }, s)
  | .popVlan => (some { a with e := a.e.popVlan }, s)
  | .pushMpls l tc ttl t => (some { a with e := a.e.pushMpls l tc ttl t }, s)
  | .popMpls n => (some { a with e := a.e.popMpls n }, s)
  | .decTtl =>
    match a.e.ttlAt with
    | none => (some { a with e := a.e.skip }, s)
    | some o =>
      if byteAt a.e.bytes o ≤ 1 then (none, dropAct a (fun c => { c with nTtl := c.nTtl + 1 }) s)
      else (some { a with e := a.e.write o [BitVec.ofNat 8 (byteAt a.e.bytes o - 1)] [0xFF] }, s)
  | .setMeta f v => (some { a with md := Meta.setField a.md f v }, s)
  | .count i => (some a, countPkt i a.md s)
  | .mirror n => (some a, mirrorCopy n a.pkt s)
  | .runProgram k => (none, dispatch k rest a s)
  | .forwardAssoc i => (none, terminal (.forwardAssoc i) a s)
  | .forwardPort p q => (none, terminal (.forwardPort p q) a s)
  | .toHost q r => (none, terminal (.toHost q r) a s)
  | .recirculate k => (none, terminal (.recirculate k) a s)
  | .drop r => (none, terminal (.drop r) a s)

/-- Run a list of actions in order (R137 to R142). -/
def runList : List Action → Act → State → State
  | [], a, s => dropPkt a.pkt (settle a s)
  | x :: rest, a, s =>
    match runOne x rest a s with
    | (some a, s) => runList rest a s
    | (none, s) => s

/-! ### Lookups (R127 to R132, R141) -/

/-- The pipeline drops a packet whose entry or action set cannot be read (Table 13-6). -/
def integrityDrop (p : Pkt) (s : State) : State := dropPkt p (modCls (fun c => { c with nIntegrity := c.nIntegrity + 1 }) s)

/-- What a pass that reads an action set finds, as the packet's generation has it (R134). -/
def foundSet (reason idx : Nat) (p : Pkt) (s : State) : Found :=
  let r : ActionRec := Tbl.get {} s.cls.actions idx
  { reason := reason, acts := r.at p.md.slotB, broken := r.broken }

/-- What a pass that ends at its ingress port's default set finds (R127, R141). -/
def foundDefault (reason : Nat) (p : Pkt) (s : State) : Found :=
  match (Tbl.get {} (s.cls.tables p.md.slotB).defaults p.md.port : PortDefault).set with
  | none => { reason := reason }
  | some i => foundSet reason i p s

/-- A pass goes on with what its lookup has found (R127): counted by its reason, its list of actions runs. -/
def runFound (f : Found) (p : Pkt) (s : State) : State :=
  let s := modCls (fun c => { c with passes := Tbl.modify 0 c.passes f.reason (· + 1) }) s
  let p := { p with md := { p.md with reason := f.reason } }
  if f.broken then integrityDrop p s
  else match f.acts with
    | none => terminal (.drop 0) (Act.start p) s
    | some l => runList l (Act.start p) s

/-- The keys of a packet under a key profile of its generation. -/
def exactKey (profile : Nat) (p : Pkt) (s : State) : List Byte :=
  buildKey 44 (Tbl.get {} (s.cls.tables p.md.slotB).profiles profile : KeyProfile).exact p
def ternKey (profile : Nat) (p : Pkt) (s : State) : List Byte :=
  buildKey 40 (Tbl.get {} (s.cls.tables p.md.slotB).profiles profile : KeyProfile).ternary p

/-- The exact entry a lookup finds in a slot. -/
def exactHit (b : Bool) (profile : Nat) (key : List Byte) (s : State) : Option FlowEntry :=
  s.cls.flows.find? fun e => e.vis b && e.word.valid && e.word.profile == profile && e.key == key

/-- The ternary entry a lookup finds in a slot: the lowest index. -/
def ternHit (b : Bool) (profile : Nat) (key : List Byte) (s : State) : Option TernEntry :=
  (s.cls.tern.filter fun e => e.vis b && e.word.valid && !e.broken && e.word.profile == profile &&
    ternMatches e.value e.mask key).foldl (fun acc e => match acc with
      | none => some e
      | some x => if e.index < x.index then some e else some x) none

/-- Set HIT of the entry a lookup selects. -/
def hitFlow (x : FlowEntry) (s : State) : State :=
  modCls (fun c => { c with flows := c.flows.map fun e => if e = x then { e with hit := true } else e }) s
def hitTern (x : TernEntry) (s : State) : State :=
  modCls (fun c => { c with tern := c.tern.map fun e => if e = x then { e with hit := true } else e }) s

/-- The lookup of a pass (R129): what it finds, with HIT set in the entry it selects. -/
def lookup (p : Pkt) (s : State) : Found × State :=
  let m := p.md
  let ex := exactHit m.slotB m.profile (exactKey m.profile p s) s
  let te := ternHit m.slotB m.profile (ternKey m.profile p s) s
  let s := if te.isSome then pmcCount { code := 0x15, master := some (pipeMaster m.down), cls := some m.cls } s else s
  let tern := fun (t : TernEntry) => (foundSet 0 t.word.actionSet p s, hitTern t s)
  let exact := fun (e : FlowEntry) =>
    if e.broken then (({ reason := 0, broken := true } : Found), s) else (foundSet 0 e.word.actionSet p s, hitFlow e s)
  match te, ex with
  | some t, some e => if t.word.override then tern t else exact e
  | some t, none => tern t
  | none, some e => exact e
  | none, none => (foundDefault 1 p s, s)

/-! ### Passes (R121, R122, R131) -/

/-- The packets of a direction that wait for a miss. -/
def State.misses (s : State) (down : Bool) : List Miss := if down then s.cls.missDown else s.cls.missUp
def setMisses (down : Bool) (l : List Miss) (s : State) : State :=
  modCls (fun c => if down then { c with missDown := l } else { c with missUp := l }) s

/-- A packet of the same exact key and ingress port waits for a miss already; it keeps its place before this one. -/
def waitsBefore (p : Pkt) (key : Option (List Byte)) (s : State) : Bool :=
  key.isSome && (s.misses p.md.down).any fun x => x.pkt.md.port == p.md.port && x.pkt.md.profile == p.md.profile && x.key == key

/-- The parse of a pass, its lookup, and its actions, or its wait for the flow cache, which holds flow entries and action sets (R123 to
R131). A pass sees the tables as they are when its lookup starts, however long it then waits (R135). -/
def runPass (miss : Bool) (p : Pkt) (s : State) : State :=
  let ev := fun (c : Nat) => ({ code := c, master := some (pipeMaster p.md.down), cls := some p.md.cls } : PmcEvent)
  let s := pmcCount (ev 0x10) s
  let s := if 0 < p.md.pass then pmcCount (ev 0x11) s else s
  let w := parse (s.cls.tables p.md.slotB).nodes p.bytes
  let p := { p with md := { p.md with
    reason := w.reason, stack := w.stack, len := frameLen p.bytes, lookAt := switchTime s } }
  let key := if w.reason = 0 then some (exactKey p.md.profile p s) else none
  let (f, s) :=
    if w.reason = 2 then (foundDefault 2 p s, raiseOnce 0xA0 s)
    else if w.reason = 3 then (foundDefault 3 p s, raiseOnce 0xA1 s)
    else lookup p s
  if miss || waitsBefore p key s then
    let s := pmcCount (ev 0x14) s
    if 8192 ≤ (s.misses p.md.down).length then
      raiseOnce 0xA2 (dropPkt p (modCls (fun c => { c with nMiss := c.nMiss + 1 }) s))
    else setMisses p.md.down (s.misses p.md.down ++ [{ pkt := p, key := key, found := f }]) s
  else runFound f p (pmcCount (ev 0x13) s)

/-- The first pass of a packet: pinned to the current generation, with its ingress port's first profile (R128, R143,
Table 12-2), tagged if the filter takes it (R315). -/
def firstPass (miss : Bool) (p : Pkt) (s : State) : State :=
  let d : PortDefault := Tbl.get {} (s.cls.tables s.cls.curB).defaults p.md.port
  let p := { p with md := { p.md with
    pass := 0, profile := d.profile, gen := s.cls.gen, slotB := s.cls.curB, len := frameLen p.bytes } }
  let (p, s) := traceTag p s
  runPass miss p s

/-- PIPELINE_PASS (R121, R122): a waiting recirculation, or a first pass while none waits in its direction. -/
def execPipelinePass (src : PassFrom) (miss : Bool) (s : State) : Host.Outcome State Fault Refusal := .next (
  match src with
  | .recirc down =>
    match (if down then s.cls.recDown else s.cls.recUp) with
    | [] => s
    | p :: t =>
      runPass miss p (modCls (fun c => if down then { c with recDown := t } else { c with recUp := t }) s)
  | .port n =>
    match (s.port n).fifo with
    | [] => s
    | p :: t =>
      if !s.cls.recUp.isEmpty then s
      else firstPass miss p (fifoChanged n (modPort n (fun v => { v with fifo := t }) s))
  | .line =>
    match s.cls.line with
    | [] => s
    | p :: t => if !s.cls.recDown.isEmpty then s else firstPass miss p (modCls (fun c => { c with line := t }) s))

/-- FLOW_CACHE_FILL (R131): the oldest packet of a direction that waits for a miss goes on with what its pass found. -/
def execFlowCacheFill (down : Bool) (s : State) : Host.Outcome State Fault Refusal := .next (
  match s.misses down with
  | [] => s
  | x :: t => runFound x.found x.pkt (setMisses down t s))

end Sys2Proof.Machine
end

