-- ==== Sys2Proof/Machine/Engines.lean ====
section
/-! DEFINITION. Flow engines (chapter 12): dispatch, what a program does between two switches of its context, exceptions,
instruction sampling (R313), engines out of service, and the commands' bodies of Table 12-8. -/

namespace Sys2Proof.Machine

/-! ### Engines and contexts (R271, R273) -/

/-- Change the engines. -/
def modEng (f : Engines → Engines) (s : State) : State := { s with eng := f s.eng }

/-- The run in a context: key engine × 8 + context, engines 0 to 63 upstream, 64 to 127 downstream. -/
def State.ctx (s : State) (k : Nat) : Option Run := Tbl.get none s.eng.ctxs k
def setCtx (k : Nat) (r : Option Run) (s : State) : State := modEng (fun e => { e with ctxs := Tbl.set none e.ctxs k r }) s

/-- Byte 6 of an exception record: direction, cluster within it, engine (Table 12-5). -/
def engineByte (k : Nat) : BitVec 8 := BitVec.ofNat 8 (k / 512 * 128 + k / 8 % 64 / 16 * 16 + k / 8 % 16)

/-- The master code of a context's cluster (Table 14-3). -/
def clusterMaster (k : Nat) : Nat := 1 + k / 8 / 16

/-- PROGRAM_DISPATCH (R272, R273, R282): a free context of an engine of the direction in service takes the oldest entry
that has waited less than 2 µs. -/
def execProgramDispatch (down : Bool) (engine : Nat) (s : State) : Host.Outcome State Fault Refusal := .next (
  let e := engine + (if down then 64 else 0)
  match (if down then s.eng.dispDown else s.eng.dispUp) with
  | [] => s
  | r :: t =>
    match (List.range 8).find? fun c => (s.ctx (e * 8 + c)).isNone with
    | none => s
    | some c =>
      if 64 ≤ engine ∨ s.eng.out.contains e ∨ r.queued + us 2 ≤ s.clk.now then s
      else
        let s := modEng (fun x => if down then { x with dispDown := t } else { x with dispUp := t }) s
        setCtx (e * 8 + c) (some { r with engine := e, start := s.clk.now }) s)

/-- DISPATCH_TIMEOUT (R273): packets not started 2 µs after they entered the queue are dropped. -/
def execDispatchTimeout (down : Bool) (s : State) : Host.Outcome State Fault Refusal := .next (
  let l := if down then s.eng.dispDown else s.eng.dispUp
  let old := l.filter fun r => decide (r.queued + us 2 ≤ s.clk.now)
  let keep := l.filter fun r => !decide (r.queued + us 2 ≤ s.clk.now)
  if old.isEmpty then s
  else
    let s := modEng (fun x => if down then { x with dispDown := keep } else { x with dispUp := keep }) s
    let s := modEng (fun x => { x with nOverrun := x.nOverrun + old.length }) s
    raiseOnce 0xFA (old.foldl (fun s r => dropPkt r.pkt s) s))

/-! ### Exceptions (R279 to R281) -/

/-- Keep an exception record (R280). -/
def putRecord (down : Bool) (r : ExRecord) (s : State) : State :=
  let l := if down then s.eng.exDown else s.eng.exUp
  let gap := if down then s.eng.gapDown else s.eng.gapUp
  let s :=
    if 1024 ≤ l.length then
      modEng (fun e => if down then { e with lostDown := satInc 16 e.lostDown, gapDown := true }
        else { e with lostUp := satInc 16 e.lostUp, gapUp := true }) s
    else
      let r := { r with gap := gap }
      modEng (fun e => if down then { e with exDown := e.exDown ++ [r], gapDown := false }
        else { e with exUp := e.exUp ++ [r], gapUp := false }) s
  syncEx s

/-- A program's exceptions in the running second (R281): above the limit it becomes DISABLED. -/
def countException (k : Nat) (s : State) : State :=
  match (Tbl.get none s.eng.progs k : Option Prog) with
  | none => s
  | some g =>
    let sec := secondOf s
    let n := if g.second = sec then g.inSecond + 1 else 1
    let off := decide (0 < g.limit ∧ g.limit < n)
    let g' : Prog := { g with inSecond := n, second := sec, total := g.total + 1, disabled := g.disabled || off }
    let s := modEng (fun e => { e with progs := Tbl.set none e.progs k (some g') }) s
    if off && !g.disabled then raise 0xF9 s else s

/-- The version of a loaded program. -/
def progVersion (k : Nat) (s : State) : Nat :=
  match (Tbl.get none s.eng.progs k : Option Prog) with | some g => g.img.version | none => 0

/-- A run ends with an exception of Table 12-4 (R279): record, counts, and the packet dropped without the run's edits. -/
def runException (k code pc count : Nat) (r : Run) (s : State) : State :=
  let s := setCtx k none s
  let s := putRecord r.pkt.md.down {
    code := code, gap := false, pending := r.pkt.md.auth == .pending, prog := r.prog, version := progVersion r.prog s
    engine := engineByte k, pass := r.pkt.md.pass, pc := pc, count := count, time := switchTime s, md := r.pkt.md
    bytes := r.pkt.bytes.take 64 } s
  let s := countException r.prog s
  if r.pkt.md.auth = .fail then
    traceEnd r.pkt.trace (fun e => { e with dropped := true, authFail := true })
      (pmcDrop r.pkt.md (modEng (fun e => { e with nAuthFail := e.nAuthFail + 1 }) s))
  else dropPkt r.pkt (modEng (fun e => { e with nException := e.nException + 1 }) s)

/-! ### Sampling (R313, R314) -/

/-- Sampling of a direction. -/
def State.samp (s : State) (down : Bool) : Sampling := if down then s.pmc.sampDown else s.pmc.sampUp
def setSamp (down : Bool) (x : Sampling) (s : State) : State :=
  { s with pmc := if down then { s.pmc with sampDown := x } else { s.pmc with sampUp := x } }

/-- A sample record is stored (R314). -/
def putSample (down : Bool) (r : SampleRec) (s : State) : State :=
  let x := s.samp down
  if 4096 ≤ x.buf.length then setSamp down { x with lost := satInc 16 x.lost, gapNext := true } s
  else
    let buf := x.buf ++ [{ r with gap := x.gapNext }]
    let s := setSamp down { x with buf := buf, gapNext := false } s
    if buf.length = x.p.watermark then raise 0xFD s else s

/-- The next sampling period: uniform from [P ÷ 2, 3P ÷ 2). -/
def drawPeriod (p : SampleParams) (s : State) : Nat × State :=
  let (v, s) := draw s
  (p.period / 2 + v % max 1 p.period, s)

/-- The samples of a stretch of `n` instructions after `done` ones of it, at most `fuel`. A trigger's capture point lies
0 to 6 instructions on, a free value, cut at the stretch's last instruction, which ends the run or yields. -/
def sampleStretch (k : Nat) (r : Run) (n pc : Nat) (ended waited : Bool) : Nat → Nat → State → State
  | 0, _, s => s
  | fuel + 1, done, s =>
    let x := s.samp r.pkt.md.down
    let e := k / 8 % 64
    let (left, s) := match (Tbl.get none x.left e : Option Nat) with
      | some v => (v, s)
      | none => drawPeriod x.p s
    if n < done + left then
      setSamp r.pkt.md.down { (s.samp r.pkt.md.down) with
        left := Tbl.set none (s.samp r.pkt.md.down).left e (some (done + left - n)) } s
    else
      let at_ := done + left
      let (v, s) := draw s
      let cap := if (ended || waited) && decide (n ≤ at_ + 6) then n else min n (at_ + v % 7)
      let (place, s) := draw s
      let last := cap == n
      let s := putSample r.pkt.md.down {
        prog := r.prog, version := progVersion r.prog s, pc := if last then pc else place % 12288, engine := engineByte k
        ctx := k % 8, gap := false, ended := ended && last, waited := waited && last
        pending := r.pkt.md.auth == .pending, count := r.issued + cap, pass := r.pkt.md.pass, time := switchTime s
        md := r.pkt.md } s
      let (p, s) := drawPeriod x.p s
      let y := s.samp r.pkt.md.down
      let s := setSamp r.pkt.md.down { y with left := Tbl.set none y.left e (some p) } s
      sampleStretch k r n pc ended waited fuel at_ s

/-- A context has retired `n` instructions: the ledger books their slots (R311), and they are sampled where sampling is set. -/
def retire (k n pc : Nat) (r : Run) (ended waited : Bool) (s : State) : State :=
  let s := { s with pmc := { s.pmc with ledger := Tbl.modify 0 s.pmc.ledger (k / 8) (· + n) } }
  let p := (s.samp r.pkt.md.down).p
  if p.enable && p.clusters.getLsbD (k / 8 % 64 / 16) && p.engines.getLsbD (k / 8 % 16) then
    sampleStretch k r n pc ended waited 4 0 s
  else s

/-! ### What a program does (R274 to R278) -/

/-- A step that ends the run, and one that yields (Table 12-3). -/
def RunStep.ends : RunStep → Bool
  | .exitContinue => true | .exitSkip => true | .exitReplace _ => true | .illegal => true | .memory => true
  | .integrity => true | _ => false
def RunStep.yields : RunStep → Bool
  | .lookupExact _ _ => true | .lookupTernary _ _ => true | .police _ => true | .waitAuth => true | _ => false

/-- A step whose instruction never retires: a fault. -/
def RunStep.faults : RunStep → Bool | .illegal => true | .memory => true | .integrity => true | _ => false

/-- The edits of a run as an `Edit`, and back. -/
def Run.edit (r : Run) : Edit := { bytes := r.bytes, stack := r.stack, pushes := r.pushes, added := r.added, edited := r.edited }
def Run.withEdit (r : Run) (e : Edit) : Run :=
  { r with bytes := e.bytes, stack := e.stack, pushes := e.pushes, added := e.added, edited := e.edited }

/-- The pass that a run hands back: the packet as the list and the run have edited it. -/
def Run.act (r : Run) : Act := { orig := r.orig, e := r.edit, md := r.pkt.md }

/-- An edit of a run (R277): one that does nothing is an ACTION_NOOP. -/
def runEdit (k : Nat) (r : Run) (e : Edit) (s : State) : State :=
  setCtx k (some (r.withEdit e)) (modCls (fun c => { c with nNoop := c.nNoop + e.noop }) s)

/-- An edit that a push makes; `none` where it breaks a limit of R138 or names no header of Table 6-5. -/
def Run.push (r : Run) (mpls : Bool) (b : List Byte) : Option Edit :=
  let e := if mpls then r.edit.pushMpls (be b 0 4 / 4096) (be b 0 4 / 512 % 8) (be b 0 4 % 256) (BitVec.ofNat 16 (be b 4 2))
    else r.edit.pushVlan (BitVec.ofNat 16 (be b 0 2)) (BitVec.ofNat 16 (be b 2 2))
  let ok := if mpls then b.length == 6 && (be b 4 2 == 0x8847 || be b 4 2 == 0x8848)
    else b.length == 4 && (be b 0 2 == 0x8100 || be b 0 2 == 0x88A8)
  if ok && e.noop == 0 then some e else none

/-- A call that counts against the 16 other calls (R274); `none` beyond them. -/
def Run.call (r : Run) : Option Run := if 16 ≤ r.calls then none else some { r with calls := r.calls + 1 }
def Run.lookup (r : Run) : Option Run := if 8 ≤ r.lookups then none else some { r with lookups := r.lookups + 1 }

/-- A lookup from a program: the flow cache answers, with a hit or a miss as a free value. -/
def progLookup (m : Meta) (s : State) : State :=
  let (v, s) := draw s
  pmcCount { code := if v % 2 = 0 then 0x13 else 0x14, master := some (pipeMaster m.down), cls := some m.cls } s

/-- The step of a run whose instruction is the `count`-th (R276 to R279). -/
def runStep (k pc count : Nat) (r : Run) (st : RunStep) (s : State) : State :=
  let bad := fun (code : Nat) (s : State) => runException k code pc count r s
  let m := r.pkt.md
  match st with
  | .lookupExact profile key =>
    match r.lookup with
    | none => bad 5 s
    | some r' =>
      if 15 < profile then bad 5 s
      else
        let s := setCtx k (some r') (progLookup m s)
        match exactHit m.slotB profile ((key ++ zeros 44).take 44) s with
        | none => s
        | some e => if e.broken then integrityDrop r.pkt (setCtx k none s) else hitFlow e s
  | .lookupTernary profile key =>
    match r.lookup with
    | none => bad 5 s
    | some r' =>
      if 15 < profile then bad 5 s
      else
        let s := setCtx k (some r') s
        match ternHit m.slotB profile ((key ++ zeros 40).take 40) s with
        | none => s
        | some e => hitTern e (pmcCount { code := 0x15, master := some (pipeMaster m.down), cls := some m.cls } s)
  | .count i =>
    match r.call with
    | none => bad 5 s
    | some r' => if 2 ^ 24 ≤ i then bad 5 s else setCtx k (some r') (countPkt i m s)
  | .police i =>
    match r.call with
    | none => bad 5 s
    | some r' =>
      if (Tbl.get none s.q.policers i : Option Policer).isNone then bad 5 s
      else
        match residueFails s with
        | some s => dropPkt r.pkt (setCtx k none s)
        | none =>
          let (c, s) := police i m s
          setCtx k (some { r' with pkt := { r.pkt with md := { m with colour := c } } }) s
  | .mirror n =>
    match r.call with
    | none => bad 5 s
    | some r' => if 64 ≤ n then bad 5 s else mirrorCopy n r.pkt (setCtx k (some r') s)
  | .timeRead => match r.call with | none => bad 5 s | some r' => setCtx k (some r') s
  | .waitAuth => match r.call with
    | none => bad 5 s
    | some r' => setCtx k (some { r' with waiting := m.auth == .pending }) s
  | .edit off b =>
    if 384 < off + b.length ∨ r.bytes.length < off + b.length then bad 6 s else runEdit k r (r.edit.write off b []) s
  | .push mpls b => match r.push mpls b with | none => bad 6 s | some e => runEdit k r e s
  | .pop mpls next => runEdit k r (if mpls then r.edit.popMpls next else r.edit.popVlan) s
  | .setMeta f v => setCtx k (some { r with pkt := { r.pkt with md := Meta.setField m f v } }) s
  | .exitContinue => runList r.rest r.act (setCtx k none s)
  | .exitSkip => terminal r.last r.act (setCtx k none s)
  | .exitReplace a => if Action.isTerminal a && Action.ok s a then terminal a r.act (setCtx k none s) else bad 5 s
  | .illegal => bad 4 s
  | .memory => bad 3 s
  | .integrity => bad 7 s

/-- CALL_RETURN (R274, R276): a context that does not wait issues `issued` instructions and then the one of its next
step; the 513th raises BUDGET. -/
def execCallReturn (ctx : Nat) (issued pc : Nat) (st : RunStep) (s : State) : Host.Outcome State Fault Refusal := .next (
  match s.ctx ctx with
  | none => s
  | some r =>
    if r.waiting then s
    else if r.start + us 6 ≤ s.clk.now then runException ctx 2 pc r.issued r s
    else
      let n := if RunStep.faults st then issued else issued + 1
      if 512 < r.issued + n then
        let s := retire ctx (512 - r.issued) pc r true false s
        runException ctx 1 pc 512 r s
      else
        let s := retire ctx n pc r (RunStep.ends st) (RunStep.yields st) s
        let r := { r with issued := r.issued + n, pc := pc }
        runStep ctx pc r.issued r st (setCtx ctx (some r) s))

/-- WAIT_AUTH (R276): the call returns once AUTH is PASS or FAIL. -/
def execWaitAuth (ctx : Nat) (s : State) : Host.Outcome State Fault Refusal := .next (
  match s.ctx ctx with
  | none => s
  | some r => if r.waiting && r.pkt.md.auth != .pending then setCtx ctx (some { r with waiting := false }) s else s)

/-- PROGRAM_TIME_EXCEPTION (R274): 6 µs from the start of a run. -/
def execProgramTimeException (ctx : Nat) (s : State) : Host.Outcome State Fault Refusal := .next (
  match s.ctx ctx with
  | none => s
  | some r => if r.start + us 6 ≤ s.clk.now then runException ctx 2 r.pc r.issued r s else s)

/-! ### Engines out of service (R282, R302) -/

/-- The runs of a packet engine end with INTEGRITY. -/
def endRuns (e : Nat) (s : State) : State :=
  forEach ((List.range 8).map fun c => e * 8 + c) (fun k s => match s.ctx k with
    | none => s
    | some r => runException k 7 r.pc r.issued r s) s

/-- A packet engine is taken out of service (R282). -/
def engineFault (e : Nat) (s : State) : State :=
  raise 0xFB (modEng (fun x => { x with out := if x.out.contains e then x.out else x.out ++ [e] }) (endRuns e s))

/-- ENGINE_RELOAD (R282): a packet engine returns to service. -/
def execEngineReload (engine : Nat) (s : State) : Host.Outcome State Fault Refusal := .next (
  if engine < 128 then modEng (fun x => { x with out := x.out.filter fun e => e != engine }) s else s)

/-- A line engine's or a control engine's number among the engines out of service. -/
def firmwareEngine (control : Bool) (engine : Nat) : Nat := (if control then 512 else 256) + engine

/-- ENGINE_RESTART (R302): a line or control engine that restarts from its image is back. -/
def execEngineRestart (control : Bool) (engine : Nat) (s : State) : Host.Outcome State Fault Refusal := .next (
  if engine < (if control then 16 else 48) then
    modEng (fun x => { x with out := x.out.filter fun e => e != firmwareEngine control engine }) s
  else s)

/-! ### Bodies (Table 12-8) -/

/-- The loaded programs of a direction. -/
def progsOf (down : Bool) (s : State) : List Prog :=
  (s.eng.progs.filterMap fun (x : Nat × Option Prog) => x.2).filter fun g => if down then g.img.down else g.img.up

/-- Free instruction and data bytes of a direction (R284). -/
def freeSpace (down : Bool) (s : State) : Nat × Nat :=
  let l := progsOf down s
  (49152 - (l.map fun g => g.img.codeWords * 4).sum, 32768 - (l.map fun g => g.img.dataBytes).sum)

/-- Free space by direction as a reply gives it. -/
def spaceWords (s : State) : List Nat :=
  [(freeSpace false s).1, (freeSpace false s).2, (freeSpace true s).1, (freeSpace true s).2]

/-- The checks of engine.program.load in the order of R284. -/
def checkLoad (img : ProgImage) (limit : Nat) (s : State) : Status :=
  let fits := fun (down : Bool) =>
    decide (img.codeWords * 4 ≤ (freeSpace down s).1 ∧ img.dataBytes ≤ (freeSpace down s).2)
  if !(img.magicOk && img.formatOk && img.abiOk) then .actionInvalid
  else if !img.checkOk then .actionInvalid
  else if !img.legal then .actionInvalid
  else if 4095 < img.program ∨ 65535 < limit ∨ img.codeWords < 1 ∨ 12288 < img.codeWords ∨ 32768 < img.dataBytes ∨
      !(img.up || img.down) then .paramRange
  else if loaded img.program s then .entryExists
  else if (img.up && !fits false) || (img.down && !fits true) then .paramRange
  else .ok

/-- engine.program.load. -/
def doEngineProgramLoad (img : ProgImage) (limit : Nat) : Body := fun s =>
  match checkLoad img limit s with
  | .ok =>
    let s := modEng (fun e => { e with progs := Tbl.set none e.progs img.program (some { img := img, limit := limit }) }) s
    okData ([img.program, img.version] ++ spaceWords s) s
  | st => fail st s

/-- An action set, in either copy, names a program (R285). -/
def named (k : Nat) (s : State) : Bool :=
  s.cls.actions.any fun (x : Nat × ActionRec) =>
    [x.2.copy0, x.2.copy1].any fun c => (c.getD []).contains (.runProgram k)

/-- engine.program.unload (R285). -/
def doEngineProgramUnload (prog : Nat) : Body :=
  require (decide (prog ≤ 4095)) .paramRange <| fun s =>
    if !loaded prog s then fail .entryAbsent s
    else if named prog s then fail .actionInvalid s
    else
      let s := modEng (fun e => { e with progs := Tbl.set none e.progs prog none }) s
      okData (spaceWords s) s

/-- engine.status: engines in service by packet cluster, line cluster and control; programs; queue levels; drops. -/
def doEngineStatus : Body := fun s =>
  let inService := fun (lo n : Nat) => n - (s.eng.out.filter fun e => decide (lo ≤ e ∧ e < lo + n)).length
  let progs := (s.eng.progs.filterMap fun (x : Nat × Option Prog) => x.2.map fun g =>
    [x.1, g.img.version, g.img.build, g.disabled.toNat, g.total]).flatten
  okData (((List.range 8).map fun c => inService (16 * c) 16) ++ ((List.range 3).map fun c => inService (256 + 16 * c) 16) ++
    [inService 512 16] ++ progs ++ [s.eng.dispUp.length, s.eng.dispDown.length, s.eng.nOverrun, s.eng.nException,
      s.eng.nDisabled]) s

/-- A byte string as big-endian 32-bit words. -/
def beWords (b : List Byte) : List Nat := (List.range (b.length / 4)).map fun i => be b (4 * i) 4

/-- engine.exception.read: pops records. -/
def doEngineExceptionRead (down : Bool) (max : Nat) : Body :=
  require (decide (1 ≤ max ∧ max ≤ 64)) .paramRange fun s =>
    let l := if down then s.eng.exDown else s.eng.exUp
    let s := syncEx (modEng (fun e => if down then { e with exDown := l.drop max } else { e with exUp := l.drop max }) s)
    okData (((l.take max).map fun r => beWords r.toBytes).flatten ++
      [(l.drop max).length, if down then s.eng.lostDown else s.eng.lostUp]) s

end Sys2Proof.Machine
end

