-- ==== Sys2Proof/Machine/Ports.lean ====
section
/-! DEFINITION. Client ports and MACs (chapter 09): reception, pause, time stamps, low-power idle, LLDP, sleep,
snapshots, and the commands' bodies of Table 9-5. -/

namespace Sys2Proof.Machine

/-! ### Pause (R197 to R200) -/

/-- 01-80-C2-00-00-01 and 01-80-C2-00-00-0E. -/
def macControl : MacAddr := 0x0180C2000001#48
def linkLocal : MacAddr := 0x0180C200000E#48

/-- An enabled perfect entry holds an address. -/
def Port.perfect (v : Port) (a : MacAddr) : Bool := v.filter.any fun (x : Nat × MacAddr × Bool) => x.2.2 && x.2.1 == a

/-- A pause time in quanta of 512 bit times at the port's rate. -/
def Port.quanta (v : Port) (t : Nat) : Instant := t * 512 * 65536 / v.gbps

/-- The account ignores pause now (R199). -/
def Pause.ignores (x : Pause) (now : Instant) : Bool := match x.ignore with | some u => decide (now < u) | none => false

/-- The account is stopped now. -/
def Pause.stopped (x : Pause) (now : Instant) : Bool := match x.until_ with | some u => decide (now < u) | none => false

/-- A received time for an account that does not ignore it (R198, R199). -/
def Pause.take (x : Pause) (now span : Instant) : Pause :=
  if span = 0 then { x with until_ := none, since := none }
  else { x with until_ := some (now + span), since := if x.stopped now then some (x.since.getD now) else some now }

/-- Apply received times to accounts; the frame is counted once as PAUSE_IGNORED if any account ignores it. -/
def applyPause (p : Nat) (l : List (Nat × Nat)) (s : State) : State :=
  let v := s.port p
  let now := s.clk.now
  let deaf := l.any fun x => (Tbl.get {} v.paused x.1 : Pause).ignores now
  let paused := l.foldl (fun t x =>
    Tbl.modify {} t x.1 fun (a : Pause) => if a.ignores now then a else a.take now (v.quanta x.2)) v.paused
  let s := modPort p (fun v => { v with paused := paused }) s
  if deaf then modStats p (fun c => { c with ignored := c.ignored + 1 }) s else s

/-- A PFC frame's enabled priorities with their times. -/
def pfcTimes (b : List Byte) : List (Nat × Nat) :=
  ((List.range 8).filter fun i => byteAt b 17 / 2 ^ i % 2 == 1).map fun i => (i, be b (18 + 2 * i) 2)

/-- MAC control (R197): PAUSE and PFC frames counted, and acted on in their mode. -/
def macControlFrame (p : Nat) (b : List Byte) (s : State) : State :=
  let v := s.port p
  let other := modStats p (fun c => { c with rxOther := c.rxOther + 1 }) s
  if !(dstOf b == macControl || v.perfect (dstOf b)) then other
  else if be b 14 2 = 0x0001 then
    let s := modStats p (fun c => { c with rxPause := Tbl.modify 0 c.rxPause 8 (· + 1) }) s
    if v.pause.mode = .pause then applyPause p [(8, be b 16 2)] s else s
  else if be b 14 2 = 0x0101 then
    let l := pfcTimes b
    let s := modStats p (fun c => { c with rxPause := l.foldl (fun t x => Tbl.modify 0 t x.1 (· + 1)) c.rxPause }) s
    if v.pause.mode = .pfc then applyPause p (l.map fun x => (v.pause.map.getD x.1 x.1, x.2)) s else s
  else other

/-- PAUSE_TIMER_EXPIRY (R198). -/
def execPauseTimerExpiry (p q : Nat) (s : State) : Host.Outcome State Fault Refusal := .next (
  let x : Pause := Tbl.get {} (s.port p).paused q
  match x.until_ with
  | none => s
  | some u =>
    if u ≤ s.clk.now then
      modPort p (fun v => { v with paused := Tbl.set {} v.paused q { x with until_ := none, since := none } }) s
    else s)

/-- PAUSE_WATCHDOG (R199): a stop that has lasted the watchdog time ends, and pause is ignored for as long again. -/
def execPauseWatchdog (p q : Nat) (s : State) : Host.Outcome State Fault Refusal := .next (
  let v := s.port p
  let x : Pause := Tbl.get {} v.paused q
  match x.since with
  | none => s
  | some t =>
    if t + ms v.pause.watchdog ≤ s.clk.now && x.stopped s.clk.now then
      let y : Pause := { ignore := some (s.clk.now + ms v.pause.watchdog) }
      raise 0xCB (modPort p (fun v => { v with paused := Tbl.set {} v.paused q y }) s)
    else s)

/-- PAUSE_WATCHDOG_RECOVERY (R199): received pause acts again. -/
def execPauseWatchdogRecovery (p q : Nat) (s : State) : Host.Outcome State Fault Refusal := .next (
  let x : Pause := Tbl.get {} (s.port p).paused q
  match x.ignore with
  | none => s
  | some u =>
    if u ≤ s.clk.now then modPort p (fun v => { v with paused := Tbl.set {} v.paused q { x with ignore := none } }) s
    else s)

/-- PAUSE_REFRESH (R200): half the pause time after the last frame, while the account stays above XON. -/
def execPauseRefresh (p acct : Nat) (s : State) : Host.Outcome State Fault Refusal := .next (
  let v := s.port p
  match (Tbl.get none v.xoff acct : Option Instant) with
  | none => s
  | some due =>
    if due ≤ s.clk.now && decide (v.xonAt acct < v.account acct) then
      sendPause p acct v.pause.time
        (modPort p (fun v => { v with xoff := Tbl.set none v.xoff acct (some (s.clk.now + v.halfPause)) }) s)
    else s)

/-! ### LLDP and the EEE TLV (R206) -/

/-- The Transmit Tw and Receive Tw of the EEE TLV (IEEE 802.3 Clause 79: organisation 00-12-0F, subtype 5) among the TLVs from
byte `o` on. -/
def eeeTlv (b : List Byte) : Nat → Nat → Option (Nat × Nat)
  | 0, _ => none
  | fuel + 1, o =>
    let type := be b o 2 / 512
    let len := be b o 2 % 512
    if b.length < o + 2 ∨ type = 0 then none
    else if type = 127 ∧ be b (o + 2) 3 = 0x00120F ∧ byteAt b (o + 5) = 5 then some (be b (o + 6) 2, be b (o + 8) 2)
    else eeeTlv b fuel (o + 2 + len)

/-- A TLV of an LLDPDU: 7 bits of type, 9 of length, the value. -/
def tlv (type : Nat) (v : List Byte) : List Byte := beBytes 2 (type * 512 + v.length) ++ v

/-- The LLDPDU of a port (R206): chassis ID, port ID, a TTL of 120 s, the EEE TLV with Transmit Tw, Receive Tw, Fallback
Receive Tw and the echo of the partner's two values, and the end (log entry 94). -/
def Port.lldpdu (p : Nat) (v : Port) : List Byte :=
  let rx := max v.rxTw v.twDefault
  tlv 1 Config.chassisId ++ tlv 2 (Config.portId p) ++ tlv 3 (beBytes 2 120) ++
    tlv 127 (beBytes 3 0x00120F ++ [5] ++ beBytes 2 (v.tw.getD v.twDefault) ++ beBytes 2 rx ++ beBytes 2 rx ++
      beBytes 2 v.partnerTw.1 ++ beBytes 2 v.partnerTw.2) ++ [0, 0]

/-- An LLDPDU consumed by the agent: the partner's Receive Tw becomes Tw_sys_tx, never less than the default; a new value
raises port.lpi_agreed. What has changed is echoed within 1 s. -/
def lldpFrame (p : Nat) (b : List Byte) (s : State) : State :=
  match eeeTlv b 128 14 with
  | none => s
  | some x =>
    let v := s.port p
    let tw := max x.2 v.twDefault
    let s := if v.partnerTw = x then s else modPort p (fun v => { v with partnerTw := x, lldpAt := none }) s
    if v.tw = some tw then s else raise 0xCE (modPort p (fun v => { v with tw := some tw, lldpAt := none }) s)

/-- LLDP_TRANSMIT (R206): every 30 s, and after a change, while low-power idle is enabled. -/
def execLldpTransmit (p : Nat) (s : State) : Host.Outcome State Fault Refusal := .next (
  let v := s.port p
  let due := match v.lldpAt with | none => true | some t => decide (t + sec 30 ≤ s.clk.now)
  if v.lpi && v.up && due then
    let b := v.lldpdu p
    sendOwn p (max 64 (18 + b.length)) (fun t => .lldp p t b) (modPort p (fun v => { v with lldpAt := some s.clk.now }) s)
  else s)

/-! ### Reception (R190 to R192, R201, R202) -/

/-- The address filter passes a frame (R192). -/
def Port.accepts (v : Port) (a : MacAddr) : Bool :=
  v.promisc || v.perfect a || (a == BitVec.allOnes 48 && v.bcast) || (isGroup a && a != BitVec.allOnes 48 && v.mcast)

/-- Count a good received frame (R209). -/
def countRx (b : List Byte) (c : PortStats) : PortStats :=
  let n := frameLen b
  let c := { c with rxBins := Tbl.modify 0 c.rxBins (sizeBin n) (· + 1) }
  if dstOf b = BitVec.allOnes 48 then { c with rxBc := c.rxBc + 1, rxBytesBc := c.rxBytesBc + n }
  else if isGroup (dstOf b) then { c with rxMc := c.rxMc + 1, rxBytesMc := c.rxBytesMc + n }
  else { c with rxUc := c.rxUc + 1, rxBytesUc := c.rxBytesUc + n }

/-- The receive stamp (R201): line time at the end of the FCS, where the frame is disposed of, with its place in the tick, less
the time since the first bit after the start-frame delimiter, less RX_LATENCY; in steps of 0.25 ns. -/
def rxInstant (v : Port) (n sub : Nat) (s : State) : Instant :=
  (switchTime s + sub % 5 * quarter - byteTime v.gbps n) / quarter * quarter - v.rxLat * quarter

/-- The address PTP messages go to on a port (R42). -/
def Ptp.addr (t : Ptp) : MacAddr := if t.altAddr then linkLocal else 0x011B19000000#48

/-- The terminal's PTP service consumes a frame (R42, R204): Announce is counted and discarded, a Delay_Req of its domain
answered with its receive stamp. -/
def ptpFrame (p : Nat) (b : List Byte) (rx : Instant) (s : State) : State :=
  let t : Ptp := Tbl.get {} s.tio.ptp p
  let kind := byteAt b 14 % 16
  let s := modStats p (fun c => { c with toPtp := c.toPtp + 1 }) s
  if kind = 11 then
    { s with tio := { s.tio with ptp := Tbl.set {} s.tio.ptp p { t with announceRx := t.announceRx + 1 } } }
  else if kind = 1 ∧ byteAt b 18 = t.domain then
    sendOwn p 72 (fun at_ => .ptp p at_ {
      kind := .delayResp, dst := t.addr, domain := t.domain, seq := be b 44 2, secs := secOf rx, nanos := nsOf rx
      correction := signed 64 (be b 22 8) - fracOf rx }) s
  else s

/-- At least a part of a second has passed since the last message (R42). -/
def ptpDue (last : Option Instant) (parts : Nat) (s : State) : Bool :=
  match last with | none => true | some t => decide (t + sec 1 / parts ≤ s.clk.now)

/-- A Sync leaves (R42, R204): the MAC writes the stamp's seconds and nanoseconds into the originTimestamp and adds FRAC to the
correctionField. Two-step, the stamp goes into a Follow_Up instead, and what the Sync's own originTimestamp says is a free value
(log entries 3 and 57). The stamp takes the internal path, not the port's FIFO. -/
def sendSync (port : Nat) (p : Ptp) (s : State) : State :=
  let m : PtpMsg := { kind := .sync, dst := p.addr, domain := p.domain, seq := p.seqId }
  let at_ := fun (t : Instant) => txInstant (s.port port) (lineAt t s)
  if p.twoStep then
    let start := (s.port port).nextStart s.clk.now
    let (v, s) := draw s
    sendOwn port 64 (fun t => .ptp port t { m with
        kind := .followUp, secs := secOf (at_ start), nanos := nsOf (at_ start), correction := fracOf (at_ start) })
      (sendOwn port 64 (fun t => .ptp port t { m with twoStep := true, secs := v, nanos := v }) s)
  else
    sendOwn port 64 (fun t => .ptp port t { m with
      secs := secOf (at_ t), nanos := nsOf (at_ t), correction := fracOf (at_ t) }) s

/-- An Announce leaves (R25, R41, R42): the clock class in force, the UTC offset and the leap bits that the line head carries. -/
def sendAnnounce (port : Nat) (p : Ptp) (s : State) : State :=
  sendOwn port 82 (fun t => .ptp port t {
    kind := .announce, dst := p.addr, domain := p.domain, seq := p.annId, clockClass := clockClass s
    utcOffset := (s.time.utc >>> 8).setWidth 16, leap := s.time.utc.setWidth 8 }) s

/-- PTP_MESSAGE_TRANSMIT (R42, R204): a Sync, 16 a second, or an Announce, 8 a second, of a port's grandmaster service; none in
DOLDRUMS. -/
def execPtpMessageTransmit (port : Nat) (announce : Bool) (s : State) : Host.Outcome State Fault Refusal := .next (
  let p := Tbl.get {} s.tio.ptp port
  let put (v : Ptp) (s : State) : State := { s with tio := { s.tio with ptp := Tbl.set {} s.tio.ptp port v } }
  if !p.en || !(s.port port).up || s.pwr.asleep then s
  else if announce then
    if ptpDue p.annAt 8 s then
      sendAnnounce port p (put { p with annId := (p.annId + 1) % 65536, annAt := some s.clk.now } s)
    else s
  else if ptpDue p.syncAt 16 s then
    sendSync port p (put { p with seqId := (p.seqId + 1) % 65536, syncAt := some s.clk.now } s)
  else s)

/-- ESMC_TRANSMIT (R41, Table 2-4): the QL a port sends; none in DOLDRUMS. -/
def execEsmcTransmit (port : Nat) (s : State) : Host.Outcome State Fault Refusal := .next (
  let p := Tbl.get {} s.tio.synce port
  if p.en && (s.port port).up && !s.pwr.asleep then sendOwn port 64 (fun t => .esmc port t (qlSent s p)) s else s)

/-- A frame that reaches the last rows of Table 9-2: stored if the FIFO of 256 KiB has room. -/
def storeFrame (p : Nat) (b : List Byte) (rx : Instant) (s : State) : State :=
  let v := s.port p
  if 262144 < fifoBytes v.fifo + frameLen b then
    raiseOnce 0xD1 (modStats p (fun c => { c with overrun := c.overrun + 1 })
      (modCls (fun c => { c with nIngress := c.nIngress + 1 }) s))
  else
    let (l3, l4) := rxChecksums b
    let (id, s) := newId s
    let m : Meta := { port := p, l3 := l3, l4 := l4, rxTime := rx, rxValid := switchValid s, len := frameLen b }
    fifoChanged p (modPort p (fun v => { v with fifo := v.fifo ++ [{ id := id, bytes := b, md := m }] }) s)

/-- The type of the frame that the MAC looks at for in-band commands: the EtherType, or the one behind a C-tag (R255). -/
def innerType (b : List Byte) : Nat := if be b 12 2 = 0x8100 then be b 16 2 else be b 12 2

/-- FRAME_RECEIVE (Table 9-2): the first row that applies. An in-band command's packet then arrives as
INBAND_COMMAND_FRAME. -/
def execFrameReceive (p : Nat) (f : RxFrame) (s : State) : Host.Outcome State Fault Refusal := .next (
  let v := s.port p
  let b := f.bytes
  let n := frameLen b
  let t : Ptp := Tbl.get {} s.tio.ptp p
  if !v.up then s
  else if !f.fcsOk || f.pcsErr then raiseOnce 0xD0 (modStats p (fun c => { c with fcsErr := c.fcsErr + 1 }) s)
  else if n < 64 then modStats p (fun c => { c with runt := c.runt + 1 }) s
  else if ((v.cfg.map fun c => c.maxFrame).getD 9600) < n then modStats p (fun c => { c with oversize := c.oversize + 1 }) s
  else
    let s := modStats p (countRx b) s
    let rx := rxInstant v n f.sub s
    if be b 12 2 = 0x8808 then macControlFrame p b s
    else if innerType b = 0x88B5 && (v.cfg.map fun c => c.inband).getD false then
      modStats p (fun c => { c with toCmd := c.toCmd + 1 }) s
    else if be b 12 2 = 0x88F7 && t.en && dstOf b == t.addr then ptpFrame p b rx s
    else if be b 12 2 = 0x88CC && v.lpi && dstOf b == linkLocal then
      lldpFrame p b (modStats p (fun c => { c with toLldp := c.toLldp + 1 }) s)
    else if !v.accepts (dstOf b) then modStats p (fun c => { c with filtered := c.filtered + 1 }) s
    else storeFrame p b rx s)

/-! ### UP and DOWN, sleep (R189, R208) -/

/-- Every lane of a port is in MONITOR, locked and aligned (R189). -/
def lanesReady (p : Nat) (s : State) : Bool :=
  ((s.port p).laneNums p).all fun n => let l := s.lane n; l.mode == .monitor && l.signal && l.cdr && l.align

/-- PORT_UP (R189): the port's lanes are aligned and it receives no fault. -/
def execPortUp (p : Nat) (s : State) : Host.Outcome State Fault Refusal := .next (
  let v := s.port p
  if v.cfg.isSome && !v.up && !v.asleep && lanesReady p s then
    let t := modPort p (fun v => { v with up := true, localFault := false, remoteFault := false, idleFrom := s.clk.now }) s
    raise 0xC8 (if v.localFault then emit (.remoteFault p false) t else t)
  else s)

/-- PORT_DOWN (R189): the port receives remote or local fault. While it detects local fault it sends remote fault. -/
def execPortDown (p : Nat) (remote : Bool) (s : State) : Host.Outcome State Fault Refusal := .next (
  if (s.port p).cfg.isNone then s
  else
    let s := if remote || (s.port p).localFault then s else emit (.remoteFault p true) s
    let s := modPort p (fun v => if remote then { v with remoteFault := true } else { v with localFault := true }) s
    enterDown p (raise 0xCA s))

/-- PORT_WAKE (R208): the wake-pattern detector wakes a sleeping port. -/
def execPortWake (p : Nat) (s : State) : Host.Outcome State Fault Refusal := .next (
  if (s.port p).asleep then wakeBy 2 (wakePort p s) else s)

/-! ### Low-power idle (R205, R207) -/

/-- The first instant at or after `t` at which a list opens queue `q`; none where it never does. -/
def opensAt (l : GateList) (t : Instant) (q : Nat) : Option Instant :=
  let cyc := ns l.cycle
  let off := gatePhase l t
  let open_ := (gateSegs cyc l.entries 0).filter fun x => x.1.getLsbD q
  (open_.map fun x => t + (if off < x.2.2 then x.2.1 - off else x.2.1 + cyc - off)).min?

/-- A gate opening for a queue that holds a frame is due within Tw_sys_tx (R205, R207). -/
def openingDue (v : Port) (valid : Bool) (t : Instant) (tw : Nat) : Bool :=
  valid && (List.range 8).any fun q =>
    !(Tbl.get [] v.queues q).isEmpty && !v.gates.getLsbD q &&
      [v.gate, v.gateNext].any fun g => match g with
        | none => false
        | some r => match opensAt r.list (max t r.s) q with | some x => decide (x ≤ t + us tw) | none => false

/-- A configured mode has low-power idle (Table 9-1). -/
def lpiMode (v : Port) : Bool :=
  match v.cfg with | some c => c.rate == .g25 && (c.lanes == 4 || c.lanes == 1) | none => false

/-- The transmitter is awake: neither in low-power idle nor in a wake that has not completed. -/
def Port.isAwake (v : Port) (now : Instant) : Bool :=
  v.inLpi.isNone && (match v.wakeAt with | some w => decide (w ≤ now) | none => true)

/-- LPI_ENTRY (R205, R206): IDLE_HOLD without an eligible queue and without an opening due, after the first agreement. -/
def execLpiEntry (p : Nat) (s : State) : Host.Outcome State Fault Refusal := .next (
  let (l, s) := eligibleQs p (creditPort p s)
  let v := s.port p
  match v.tw with
  | none => s
  | some tw =>
    if v.lpi && v.up && v.isAwake s.clk.now && v.started.isNone && decide (v.busy ≤ s.clk.now) && l.isEmpty &&
        decide (v.idleFrom + us v.idleHold ≤ s.clk.now) && !openingDue v (switchValid s) (switchTime s) tw then
      modStats p (fun c => { c with lpiTx := c.lpiTx + 1 })
        (modPort p (fun v => { v with inLpi := some s.clk.now, wakeAt := none }) s)
    else s)

/-- A queue is eligible now, or the opening of one that holds a frame is due: IDLE_HOLD starts again (R205). A frame that waits
for its tag in STORE_FORWARD makes no queue eligible. -/
def Port.stirs (v : Port) (s : State) : Bool :=
  let hold := (v.cfg.map fun c => c.storeFwd).getD false
  (List.range 8).any (fun q => match (Tbl.get [] v.queues q : List EgFrame) with
    | [] => false
    | f :: _ => v.headFits s q f && !(hold && f.pkt.md.auth == .pending)) ||
    openingDue v (switchValid s) (switchTime s) (v.tw.getD v.twDefault)

/-- A tick of a port: the frame it has been sending ends, and its idle time starts again while it stirs. -/
def portTick (p : Nat) (s : State) : State :=
  let s := endFrame p s
  let v := s.port p
  if v.lpi && v.up && (v.credited (switchTime s)).stirs s then modPort p (fun v => { v with idleFrom := s.clk.now }) s else s

/-- LPI_WAKE (R205, R207): a frame is eligible, or a gate opening is due within the wake time. -/
def execLpiWake (p : Nat) (s : State) : Host.Outcome State Fault Refusal := .next (
  let (l, s) := eligibleQs p (creditPort p s)
  let v := s.port p
  if !l.isEmpty || openingDue v (switchValid s) (switchTime s) (v.tw.getD v.twDefault) then leaveLpi p s else s)

/-- PARTNER_LPI (R205, R209): the partner enters or leaves low-power idle. -/
def execPartnerLpi (p : Nat) (enter : Bool) (s : State) : Host.Outcome State Fault Refusal := .next (
  let v := s.port p
  if !v.up || !lpiMode v || !s.variant.lpi then s
  else match v.rxLpi, enter with
    | none, true =>
      modStats p (fun c => { c with lpiRx := c.lpiRx + 1 }) (modPort p (fun v => { v with rxLpi := some s.clk.now }) s)
    | some _, false => leaveRxLpi p s
    | _, _ => s)

/-! ### Snapshots (R209, R210) -/

/-- A port's counters in the order of R209, with the stamps lost and its egress queues' counters. -/
def statWords (c : PortStats) : List Nat :=
  let row := fun (t : Tbl Nat) (n : Nat) => (List.range n).map fun k => Tbl.get 0 t k
  let w64 := fun (n : Nat) => n % 2 ^ 64
  ([c.rxUc, c.rxMc, c.rxBc, c.rxBytesUc, c.rxBytesMc, c.rxBytesBc] ++ row c.rxBins 7 ++
    [c.fcsErr, c.runt, c.oversize, c.filtered, c.overrun] ++ row c.rxPause 9 ++ [c.ignored, c.rxOther, c.toCmd, c.toPtp, c.toLldp,
      c.txUc, c.txMc, c.txBc, c.txBytesUc, c.txBytesMc, c.txBytesBc] ++ row c.txBins 7 ++ row c.txPause 9 ++
    [c.authAbort, c.authFail, c.underrun, c.portDown, c.stampsLost, c.lpiTx, c.lpiTxUs, c.lpiRx, c.lpiRxUs] ++
    row c.egLimit 8 ++ row c.egYellow 8 ++ row c.egPool 8 ++ row c.egAge 8 ++ row c.egGate 8).map w64

/-- The ports of a bitmap. -/
def bitmapPorts (b : BitVec 32) : List Nat := (List.range 32).filter fun p => b.getLsbD p

/-- SNAPSHOT_DUE (R37, R210): on the due tick of its instant the named ports' counters are sampled as one set. -/
def execSnapshotDue (k : Nat) (s : State) : Host.Outcome State Fault Refusal := .next (
  match (Tbl.get .free s.snaps k : Snapshot) with
  | .pending at_ ports =>
    if switchValid s && decide (at_ ≤ switchTime s) then
      let sets := (bitmapPorts ports).map fun p => (p, (s.port p).stats)
      raise 0xD2 { s with snaps := Tbl.set .free s.snaps k (.taken at_ sets) }
    else s
  | _ => s)

/-- The coarse-wheel horizon (R156): 8,192 slots of 104,857.6 ns. -/
def coarseHorizon : Instant := 8192 * coarseFifths / 5

/-- stats.snapshot (R4, R38, R210): a free buffer of 8 takes the request. -/
def doStatsSnapshot (instant : Instant) (ports : BitVec 32) : Body := fun s =>
  if (bitmapPorts ports).any fun p => !s.hasPort p then fail .unitAbsent s
  else match instantStatus instant s with
    | .ok =>
      if switchTime s + coarseHorizon < instant then fail .instantTooFar s
      else match (List.range 8).find? fun k => (Tbl.get .free s.snaps k : Snapshot) == .free with
        | none => fail .snapshotBusy s
        | some k => okData [k] { s with snaps := Tbl.set .free s.snaps k (.pending instant ports) }
    | st => fail st s

/-- stats.read (R210): a set not yet taken answers NOT_READY, a failed one its status. -/
def doStatsRead (buffer : Nat) (release : Bool) : Body :=
  require (decide (buffer < 8)) .paramRange fun s =>
    let done := fun (s : State) => if release then { s with snaps := Tbl.set .free s.snaps buffer .free } else s
    match (Tbl.get .free s.snaps buffer : Snapshot) with
    | .free => fail .entryAbsent s
    | .pending _ _ => fail .notReady s
    | .failed why => fail why (done s)
    | .taken at_ sets =>
      okData ([secOf at_, nsOf at_, fracOf at_] ++ (sets.map fun x => x.1 :: statWords x.2).flatten) (done s)

/-! ### Bodies (Table 9-5) -/

/-- A command that names a client port (R4, R212). -/
def withPort (p : Nat) (k : Body) : Body := fun s => match portStatusOf p s with | .ok => k s | st => fail st s

/-- A mode of Table 9-1 with its lane placement (R170, R188). -/
def modeOk (port : Nat) (c : PortParams) : Bool :=
  let place := if c.lanes = 8 then port % 8 == 0 else if c.lanes = 4 then port % 4 == 0 else if c.lanes = 2 then port % 2 == 0
    else c.lanes == 1
  let mode := match c.rate with
    | .g212 => c.fec && decide (c.lanes ∈ [1, 2, 4, 8])
    | .g106 => c.fec && decide (c.lanes ∈ [1, 2, 4, 8])
    | .g53 => c.fec && decide (c.lanes ∈ [1, 2, 4, 8])
    | .g25 => c.lanes == 4 || c.lanes == 1 || (c.lanes == 2 && c.fec)
  place && mode

/-- The lanes of two ports overlap. -/
def lanesOverlap (a la b lb : Nat) : Bool := decide (a < b + lb ∧ b < a + la)

/-- A port's configuration in force. -/
def cfgWords (v : Port) : List Nat :=
  match v.cfg with
  | none => [0]
  | some c => [c.lanes, laneGbps c.rate, c.fec.toNat, c.maxFrame, c.storeFwd.toNat, c.defPrio, c.inband.toNat]

/-- The checks of port.config (R170, R188): another port's lanes are in use. -/
def checkPortConfig (p : Nat) (c : PortParams) (s : State) : Status :=
  if !s.hasPort p then s.noUnit p 32
  else if !modeOk p c ∨ !decide (64 ≤ c.maxFrame ∧ c.maxFrame ≤ 16000 ∧ c.defPrio < 8) then .paramRange
  else if s.variant.lanes < p + c.lanes then .unitAbsent
  else if s.ports.any (fun x => x.1 != p && match x.2.cfg with
    | some d => lanesOverlap p c.lanes x.1 d.lanes | none => false) then .lanesInUse
  else .ok

/-- port.config: a new mode takes the port DOWN until its lanes align again; the lanes of a freed port stand idle. -/
def doPortConfig (p : Nat) (c : Option PortParams) : Body := fun s =>
  match c with
  | none => withPort p (fun s =>
      let t := enterDown p s
      let t := modPort p (fun v => { v with cfg := none, asleep := false, lpi := false, tw := none }) t
      okData [0] (notePower s t)) s
  | some c =>
    match checkPortConfig p c s with
    | .ok =>
      let old := (s.port p).cfg
      let same := match old with | some d => d.lanes == c.lanes && d.rate == c.rate && d.fec == c.fec | none => false
      let t := if same then s else enterDown p s
      let t := modPort p (fun v => { v with cfg := some c, lpi := v.lpi && same, tw := if same then v.tw else none }) t
      okData (cfgWords (t.port p)) (notePower s t)
    | st => fail st s

/-- The queues stopped by pause, as a bitmap. -/
def Port.stoppedBits (v : Port) (now : Instant) : Nat :=
  (List.range 8).foldl (fun a q => if v.pausedAt now q then a + 2 ^ q else a) 0

/-- port.status. -/
def doPortStatus (p : Nat) : Body := withPort p fun s =>
  let v := s.port p
  okData ([v.up.toNat, v.localFault.toNat, v.remoteFault.toNat] ++ cfgWords v ++
    [v.inLpi.isSome.toNat, v.rxLpi.isSome.toNat, v.tw.isSome.toNat, v.tw.getD 0, v.asleep.toNat, v.stoppedBits s.clk.now]) s

/-- port.filter.set (R192). -/
def doPortFilterSet (p : Nat) (f : FilterParams) : Body := withPort p <|
  require (f.entries.all fun x => decide (x.1 < 64)) .paramRange fun s =>
    let t := modPort p (fun v => { v with
      promisc := f.promisc, bcast := f.bcast, mcast := f.mcast
      filter := f.entries.foldl (fun t x => Tbl.set (0, false) t x.1 x.2) v.filter }) s
    let v := t.port p
    okData ([v.promisc.toNat, v.bcast.toNat, v.mcast.toNat] ++ (v.filter.map fun (x : Nat × MacAddr × Bool) =>
      [x.1, x.2.1.toNat, x.2.2.toNat]).flatten) t

/-- The ranges of port.pause.set (R199, R200): XON below XOFF for every account. -/
def pauseOk (x : PauseParams) : Bool :=
  let n := match x.mode with | .none => 0 | .pause => 1 | .pfc => 8
  decide (x.map.length = 8 ∧ 1 ≤ x.watchdog ∧ x.watchdog ≤ 1000 ∧ x.xoff.length ≤ 8 ∧ x.xon.length ≤ 8) &&
    x.map.all (fun q => decide (q < 8)) && (x.xoff ++ x.xon).all (fun k => decide (k ≤ 256)) &&
    (List.range (max n x.xoff.length)).all fun k => match x.xoff[k]? with
      | some v => decide ((x.xon[k]?).getD 0 < v)
      | none => (x.xon[k]?).isNone

/-- port.pause.set: a change of mode ends the stops of the old one. -/
def doPortPauseSet (p : Nat) (x : PauseParams) : Body := withPort p <|
  require (pauseOk x) .paramRange fun s =>
    let keep := (s.port p).pause.mode == x.mode
    let t := modPort p (fun v => { v with
      pause := x, paused := if keep then v.paused else [], xoff := if keep then v.xoff else [] }) s
    okData ([pauseCode x.mode] ++ x.map ++ x.xoff ++ x.xon ++ [x.time.toNat, x.watchdog]) (fifoChanged p t)

/-- port.ts.config (R201): 0 to 200 ns in 0.25 ns units. -/
def doPortTsConfig (p rx tx : Nat) : Body := withPort p <|
  require (decide (rx ≤ 800 ∧ tx ≤ 800)) .paramRange fun s =>
    okData [rx, tx] (modPort p (fun v => { v with rxLat := rx, txLat := tx }) s)

/-- port.ts.read (R203): pops entries. -/
def doPortTsRead (p max : Nat) : Body := withPort p <|
  require (decide (1 ≤ max ∧ max ≤ 64)) .paramRange fun s =>
    let l := (s.port p).stamps
    let t := syncTs (modPort p (fun v => { v with stamps := l.drop max }) s)
    okData (((l.take max).map fun e => beWords e.bytes).flatten ++ [(l.drop max).length, (s.port p).lost]) t

/-- port.lpi.set (R4, R205). -/
def doPortLpiSet (p : Nat) (enable : Bool) (idleHold rxTw : Nat) : Body := fun s =>
  if !s.hasPort p then fail (s.noUnit p 32) s
  else if idleHold < 1 ∨ 10000 < idleHold ∨ 65535 < rxTw then fail .paramRange s
  else if !s.variant.lpi then fail .unitAbsent s
  else if !lpiMode (s.port p) then fail .lpiUnsupported s
  else
    let t := if enable then s else leaveLpi p s
    let t := modPort p (fun v => { v with
      lpi := enable, idleHold := idleHold, rxTw := rxTw, tw := if enable then v.tw else none, lldpAt := none }) t
    okData (match (t.port p).tw with | some w => [1, w] | none => [0, 0]) t

/-- port.sleep (R208): the lanes stop but for their signal detectors, and the port is DOWN; waking starts a fresh
hunt. -/
def doPortSleep (p : Nat) (sleep wakeOnTx : Bool) : Body := withPort p fun s =>
  if (s.port p).cfg.isNone then okData [0] s
  else if sleep then
    let t := enterDown p s
    let t := forEach ((s.port p).laneNums p) (fun n => modLane n fun l => { l with cdr := false, align := false, patLock := false }) t
    okData [1] (notePower s (modPort p (fun v => { v with asleep := true, wakeOnTx := wakeOnTx }) t))
  else okData [0] (wakePort p (modPort p (fun v => { v with wakeOnTx := wakeOnTx }) s))

/-- port.stats.read (R209, R210). -/
def doPortStatsRead (p : Nat) (clear : Bool) : Body := withPort p fun s =>
  let v := s.port p
  okData (statWords v.stats) (if clear then modPort p (fun v => { v with stats := {} }) s else s)

end Sys2Proof.Machine
end

