-- ==== Sys2Proof/Machine/LanesDie.lean ====
section
/-! DEFINITION. Client lanes, references and the die-to-die link (chapter 08), its split and rejoin (R304 to R306). -/

namespace Sys2Proof.Machine

/-! ### The integrity log's entries (R303) -/

/-- Put an entry at the end of the integrity log; a full log discards it (R303). -/
def pushLog (e : IntegEntry) (s : State) : State :=
  if 256 ≤ s.evc.log.length then
    raise 0x14 { s with evc := { s.evc with lost := satInc 16 s.evc.lost, gapNext := true } }
  else
    syncLog { s with evc := { s.evc with log := s.evc.log ++ [{ e with gap := s.evc.gapNext }], gapNext := false } }

/-! ### Client lanes (R170 to R179) -/

/-- The configured ports a lane belongs to (R188). -/
def portsOfLane (n : Nat) (s : State) : List Nat :=
  (Tbl.keys s.ports).filter fun p => ((s.port p).laneNums p).contains n

/-- The rate a lane runs at, where a port has it (R170), and whether that port has more lanes. -/
def laneRate (n : Nat) (s : State) : Option (LaneRate × Bool) :=
  (portsOfLane n s).head?.bind fun p => (s.port p).cfg.map fun c => (c.rate, decide (1 < c.lanes))

/-- A lane's transmitter is electrically idle (R188): no port that is awake has the lane, and it sends no pattern. -/
def laneIdle (n : Nat) (s : State) : Bool :=
  s.pwr.asleep || ((s.lane n).mode == .monitor && (portsOfLane n s).all fun p => (s.port p).asleep)

/-- The ports of a lane that is not aligned in MONITOR go DOWN (R178, R189). -/
def dropLanePorts (n : Nat) (s : State) : State := forEach (portsOfLane n s) enterDown s

/-- A lane event on a lane that the variant has; the lanes of absent units are not sampled (R6), and none is in DOLDRUMS
(Table 16-3). -/
def onLane (n : Nat) (ok : Lane → Bool) (k : State → State) (s : State) : State :=
  if decide (n < s.variant.lanes) && !s.pwr.asleep && ok (s.lane n) then k s else s

/-- LANE_LOS (R178, R179): raised on each loss, not repeated while it lasts. -/
def execLaneLos (n : Nat) (s : State) : Host.Outcome State Fault Refusal := .next (
  onLane n (fun l => l.signal) (fun s =>
    raise 0xC0 (dropLanePorts n (modLane n (fun l => { l with signal := false, nLos := l.nLos + 1 }) s))) s)

/-- LANE_LOL (R173, R178, R179): only in MONITOR. -/
def execLaneLol (n : Nat) (s : State) : Host.Outcome State Fault Refusal := .next (
  onLane n (fun l => l.mode == .monitor && l.cdr) (fun s =>
    raise 0xC1 (dropLanePorts n (modLane n (fun l => { l with cdr := false, nLol := l.nLol + 1 }) s))) s)

/-- A sync header is valid (R175). -/
def headerValid (h : BitVec 2) : Bool := h == 1 || h == 2

/-- A lane's alignment after its hunt has seen `e` (R175, R176): block lock after 64 consecutive valid headers, which a lane of a
multilane port at 25.78125 Gb/s follows with its markers; marker lock with a second match one marker period after the
candidate, each at most 3 bits off. `none` where that is no lock. -/
def Lane.locks (l : Lane) (rate : LaneRate) (multi : Bool) (e : LockSeen) : Option Lane :=
  match e with
  | .headers h =>
    if rate = .g25 ∧ !l.block ∧ h.length = 64 ∧ h.all headerValid then some { l with block := true, align := !multi, skew := false }
    else none
  | .markers a b =>
    if a ≤ 3 ∧ b ≤ 3 ∧ !l.align ∧ (rate ≠ .g25 ∨ (multi ∧ l.block)) then some { l with align := true, skew := false } else none

/-- A lane's alignment after it has seen `e` (R175 to R177): 16 invalid headers in a window of 64, four consecutive misses, or more
than 180 ns between a port's lanes. `none` where nothing is lost. -/
def Lane.loses (l : Lane) (rate : LaneRate) (multi : Bool) (e : LossSeen) : Option Lane :=
  let lost : Lane := { l with align := false, nAlign := l.nAlign + 1 }
  match e with
  | .headers h =>
    if rate = .g25 ∧ l.block ∧ h.length = 64 ∧ 16 ≤ (h.filter fun x => !headerValid x).length then some { lost with block := false }
    else none
  | .markers m =>
    if l.align ∧ (rate ≠ .g25 ∨ multi) ∧ m.length = 4 ∧ m.all (fun d => decide (3 < d)) then some lost else none
  | .skew ps => if multi ∧ 180000 < ps then some { lost with skew := true } else none

/-- LANE_ALIGN_LOCK (R175, R176): the hunt ends. -/
def execLaneAlignLock (n : Nat) (e : LockSeen) (s : State) : Host.Outcome State Fault Refusal := .next (
  match laneRate n s with
  | none => s
  | some (r, multi) =>
    onLane n (fun l => l.mode == .monitor && (l.locks r multi e).isSome) (modLane n fun l => (l.locks r multi e).getD l) s)

/-- LANE_ALIGN_LOST (R175 to R177): lock is lost, or the port fails deskew with the cause SKEW. -/
def execLaneAlignLost (n : Nat) (e : LossSeen) (s : State) : Host.Outcome State Fault Refusal := .next (
  match laneRate n s with
  | none => s
  | some (r, multi) =>
    onLane n (fun l => l.mode == .monitor && (l.loses r multi e).isSome) (fun s =>
      raise 0xC2 (dropLanePorts n (modLane n (fun l => (l.loses r multi e).getD l) s))) s)

/-- LANE_BER_HIGH (R179): raised as the error ratio crosses the threshold, cleared as it falls below. -/
def execLaneBerHigh (n : Nat) (high : Bool) (s : State) : Host.Outcome State Fault Refusal := .next (
  onLane n (fun l => l.mode == .monitor && l.ber != high) (fun s =>
    let s := modLane n (fun l => { l with ber := high }) s
    if high then raise 0xC3 s else s) s)

/-- Bits compared and errors found are added to a lane's pattern counters (R178). -/
def Lane.compared (bits errors : Nat) (l : Lane) : Lane :=
  { l with patBits := satAdd 48 l.patBits bits, patErrs := satAdd 48 l.patErrs errors }

/-- LANE_PATTERN_LOCK (R178): the pattern lock is gained after 1,024 bits without an error, lost after 64 errors in 1,024 bits
(`window`: the errors in the last 1,024); the bits compared since they were last counted, and their errors, add up. -/
def execLanePatternLock (n : Nat) (gained : Bool) (window bits errors : Nat) (s : State) :
    Host.Outcome State Fault Refusal := .next (
  onLane n (fun l => l.mode != .monitor && l.patLock != gained && (if gained then window == 0 else decide (64 ≤ window)))
    (fun s => raise 0xC4 (modLane n (fun l => ({ l with patLock := gained } : Lane).compared bits errors) s)) s)

/-- LANE_SIGNAL_DETECT (R178): the signal returns. -/
def execLaneSignalDetect (n : Nat) (s : State) : Host.Outcome State Fault Refusal := .next (
  onLane n (fun _ => true) (modLane n fun l => { l with signal := true }) s)

/-- LANE_CDR_LOCK (R178): the CDR regains lock. -/
def execLaneCdrLock (n : Nat) (s : State) : Host.Outcome State Fault Refusal := .next (
  onLane n (fun l => l.mode == .monitor) (modLane n fun l => { l with cdr := true }) s)

/-- A command on one lane (R4, R186). -/
def withLane (n : Nat) (k : Body) : Body := fun s =>
  if n < s.variant.lanes then k s else fail (s.noUnit n 32) s

/-- lane.config (R186). -/
def doLaneConfig (n : Nat) (txInv rxInv : Bool) (preset : Nat) : Body :=
  withLane n <| require (decide (preset ≤ 15)) .paramRange fun s =>
    okData [txInv.toNat, rxInv.toNat, preset] (modLane n (fun l => { l with txInv := txInv, rxInv := rxInv, preset := preset }) s)

/-- lane.status (R186): the offset and the error ratio are measurements. -/
def doLaneStatus (n : Nat) : Body := withLane n fun s =>
  let (v, s) := draw s
  let (r, s) := draw s
  let l := s.lane n
  okData [laneModeCode l.mode, l.signal.toNat, l.cdr.toNat, l.align.toNat, v % 2 ^ 32, r, l.nLos, l.nLol, l.nAlign]
    (modLane n (fun l => { l with ppm := signed 32 (v % 2 ^ 32) }) s)

/-- A change of mode, at once (R179). -/
def changeMode (n : Nat) (m : LaneMode) (s : State) : State :=
  if (s.lane n).mode = m then s
  else if m = .monitor then modLane n (fun l => { l with mode := m, align := false, block := false, patLock := false }) s
  else dropLanePorts n (modLane n (fun l => { l with mode := m, patLock := false }) s)

/-- lane.monitor.set (R178, R179): SSPRQ only at the PAM4 rates. -/
def doLaneMonitorSet (n : Nat) (m : LaneMode) : Body := withLane n fun s =>
  require (!(m == .ssprq && (laneRate n s).any (·.1 == .g25))) .paramRange
    (fun s => okData [laneModeCode m] (changeMode n m s)) s

/-- The bits compared since they were last counted, and the errors in them: measurements, so free values. -/
def comparePattern (n : Nat) (s : State) : State :=
  let (b, s) := draw s
  let (e, s) := draw s
  if (s.lane n).patLock then modLane n (Lane.compared b (e % (b + 1))) s else s

/-- lane.pattern.read (R178, R179). -/
def doLanePatternRead (n : Nat) (clear : Bool) : Body := withLane n fun s =>
  let s := comparePattern n s
  let l := s.lane n
  okData [l.patLock.toNat, l.patBits, l.patErrs]
    (if clear then modLane n (fun l => { l with patBits := 0, patErrs := 0 }) s else s)

/-! ### References (R171, R172) -/

/-- Reference of a quad, of an output; BOARD0 after power-on reset (R171). -/
def Refs.quadRef (r : Refs) (q : Nat) : RefSource := Tbl.get .board0 r.quad q
def Refs.outRef (r : Refs) (n : Nat) : RefSource := Tbl.get .board0 r.out n

/-- Quads of this variant. -/
def State.quads (s : State) : Nat := s.variant.lanes / 4

/-- The sources in force: each quad's, each output's with its enable. -/
def refWords (s : State) : List Nat :=
  ((List.range s.quads).map fun q => refCode (s.refs.quadRef q)) ++
    (List.range 2).flatMap fun n => [refCode (s.refs.outRef n), (s.refs.outEn.getLsbD n).toNat]

/-- A board input that the host selects again is used again (R172). -/
def Refs.reselect (r : Refs) (src : RefSource) : Refs :=
  match src with
  | .line => r
  | .board0 => { r with lost := r.lost &&& ~~~1#2 }
  | .board1 => { r with lost := r.lost &&& ~~~2#2 }

/-- lane.refclk.set (R171). -/
def doLaneRefclkSet (t : RefTarget) : Body := fun s =>
  match t with
  | .quad q src =>
    if s.quads ≤ q then fail (s.noUnit q 8) s
    else
      let r := s.refs.reselect src
      let s := { s with refs := { r with quad := Tbl.set .board0 r.quad q src } }
      okData (refWords s) s
  | .output n src en =>
    if 2 ≤ n ∨ src = .board1 then fail .paramRange s
    else
      let r := s.refs.reselect src
      let bit := 1#2 <<< n
      let s := { s with refs := { r with
        out := Tbl.set .board0 r.out n src, outEn := if en then r.outEn ||| bit else r.outEn &&& ~~~bit } }
      okData (refWords s) s

/-- LANE_REF_FAULT (R172): the quads and enabled outputs that use a lost input move to LINE. -/
def execLaneRefFault (input : Nat) (s : State) : Host.Outcome State Fault Refusal := .next (
  let src := if input = 0 then RefSource.board0 else RefSource.board1
  let quads := (List.range s.quads).filter fun q => s.refs.quadRef q == src
  let outs := (List.range 2).filter fun n => s.refs.outEn.getLsbD n && s.refs.outRef n == src
  if 2 ≤ input || (quads.isEmpty && outs.isEmpty) then s
  else
    raise 0xC5 { s with refs := { s.refs with
      quad := quads.foldl (fun t q => Tbl.set .board0 t q .line) s.refs.quad
      out := outs.foldl (fun t n => Tbl.set .board0 t n .line) s.refs.out
      lost := s.refs.lost ||| (1#2 <<< input) } })

/-! ### The die-to-die link (R181 to R185) -/

/-- The active width for a number of good lanes (R181, Table 8-3). -/
def dieWidth (good : Nat) : Nat :=
  if 20 ≤ good then 20 else if 16 ≤ good then 16 else if 8 ≤ good then 8 else if 4 ≤ good then 4
  else if 2 ≤ good then 2 else good

def modDie (f : DieLink → DieLink) (s : State) : State := { s with die := f s.die }

/-- CRC errors of a lane: the count rises by a free number of at least 1 (R183). -/
def laneErrors (down : Bool) (lane : Nat) (s : State) : State :=
  let (v, s) := draw s
  modDie (fun d => { d with errs := Tbl.modify 0 d.errs (24 * down.toNat + lane) (· + 1 + v) }) s

/-- Answer the die.retrain commands that wait (R186): the width each way. -/
def answerRetrain (s : State) : State :=
  s.die.waiter.foldl (fun s h => sendReply h 0x0121 { data := [s.die.widthUp, s.die.widthDown] } s)
    (modDie (fun d => { d with waiter := [] }) s)

/-- The dies split (R23, R181, R304, R309): the switch die's copy of line time counts on alone; bursts drawn and not in
flight give way to the split report (log entry 22). -/
def splitDies (s : State) : State :=
  if s.die.split then s
  else
    let d := s.die
    let lost := d.goodUp = 0 ∨ d.goodDown = 0
    let d' : DieLink := { d with
      split := true, reported := false, retrain := false, widen := false, widthUp := 0, widthDown := 0
      goodUp := if lost then d.goodUp else 0, goodDown := if lost then d.goodDown else 0
      nFailed := if lost then d.nFailed else d.nFailed + d.goodUp + d.goodDown }
    let t : TimeUnit := { s.time with aligned := false, copy := some (lineTime s), copyValid := timeValid s }
    let s := forEach s.carrierNums discardDrawn s
    raise 0x2B (raise 0x1B { s with die := d', time := t, pmc := { s.pmc with splitLoss := true } })

/-- DIE_SPLIT (R304). -/
def execDieSplit (s : State) : Host.Outcome State Fault Refusal := .next (splitDies s)

/-- DIE_LANE_SPARED (R183): a spare takes over from a working lane, with no loss and no pause. -/
def execDieLaneSpared (down : Bool) (lane : Nat) (s : State) : Host.Outcome State Fault Refusal := .next (
  let good := if down then s.die.goodDown else s.die.goodUp
  let width := if down then s.die.widthDown else s.die.widthUp
  if s.die.split || 24 ≤ lane || good ≤ width then s
  else
    raise 0x18 (modDie (fun d =>
      if down then { d with goodDown := d.goodDown - 1, nSpared := d.nSpared + 1 }
      else { d with goodUp := d.goodUp - 1, nSpared := d.nSpared + 1 }) (laneErrors down lane s)))

/-- A retrain starts (R184): the flits not acknowledged, a free number of them, stay in the retry buffer. -/
def startRetrain (s : State) : State :=
  let (v, s) := draw s
  raise 0x19 (modDie (fun d => { d with retrain := true, retry := v % 4097 }) s)

/-- DIE_LANE_LOSS (R184): the link stops and retrains, with a spare in the lane's place if one remains; with the last
good lane of a direction the dies split (R181). -/
def execDieLaneLoss (down : Bool) (lane : Nat) (s : State) : Host.Outcome State Fault Refusal := .next (
  let good := if down then s.die.goodDown else s.die.goodUp
  let width := if down then s.die.widthDown else s.die.widthUp
  if s.die.split || 24 ≤ lane then s
  else
    let s := laneErrors down lane s
    let spare := decide (width < good)
    let s := modDie (fun d => { d with
      goodUp := if down then d.goodUp else d.goodUp - 1, goodDown := if down then d.goodDown - 1 else d.goodDown
      nSpared := d.nSpared + spare.toNat, nFailed := d.nFailed + 1 }) s
    let s := if spare then raise 0x18 s else s
    if good ≤ 1 then splitDies s
    else if s.die.retrain then s
    else startRetrain s)

/-- DIE_RETRAIN_COMPLETE (R181, R184, R185): the link runs at the width the good lanes allow, the retry buffer is
resent, and the waiting commands are answered. Lanes that have recovered come back only with WIDEN. -/
def execDieRetrainComplete (goodUp goodDown : Nat) (s : State) : Host.Outcome State Fault Refusal := .next (
  if !s.die.retrain then s
  else
    let d := s.die
    let up := if d.widen then min goodUp 24 else min goodUp d.goodUp
    let dn := if d.widen then min goodDown 24 else min goodDown d.goodDown
    let s := modDie (fun d => { d with goodUp := up, goodDown := dn }) s
    if up = 0 ∨ dn = 0 then splitDies s
    else
      let s := modDie (fun d => { d with
        widthUp := dieWidth up, widthDown := dieWidth dn, retrain := false, widen := false, retry := 0 }) s
      let s := if dieWidth up < 20 ∨ dieWidth dn < 20 then raise 0x1A s else s
      answerRetrain s)

/-- The CRC errors of every lane since they were last counted (R183): measurements, so free values. -/
def countCrc (s : State) : State :=
  forEach (List.range 48) (fun k s =>
    let (v, s) := draw s
    modDie (fun d => { d with errs := Tbl.modify 0 d.errs k (· + v) }) s) s

/-- die.status (R186). -/
def doDieStatus : Body := fun s =>
  let s := if s.die.split then s else countCrc s
  let d := s.die
  okData ([d.widthUp, d.widthDown, d.goodUp, d.goodDown, d.nSpared, d.nFailed] ++
    ((List.range 48).map fun k => Tbl.get 0 d.errs k) ++ [d.nRetrain, d.nOverrun]) s

/-- die.retrain (R184 to R186): the reply waits for the retrain's end; in a split, for the next attempt's. -/
def doDieRetrain (h : Hdr) (widen : Bool) : Body := fun s =>
  let s := modDie (fun d => { d with waiter := d.waiter ++ [h], widen := d.widen || widen }) s
  if s.die.retrain || s.die.split then later s else later (startRetrain s)

/-! ### The rejoin (R306) -/

/-- Add to a source's arrival counter. -/
def addCount (n k : Nat) (s : State) : State :=
  { s with evc := { s.evc with count := Tbl.modify 0 s.evc.count n (fun c => satAdd 4 c k) } }

/-- One line-die event held in the split becomes pending, its count added (R306 step 2); a LEVEL source's pending bit
follows its condition. -/
def landHeld (n k : Nat) (s : State) : State :=
  if isLevel n then
    let before := s.evc.pend.getLsbD n
    let s := if n = 0x01 then syncWarn s else if n = 0x13 then syncLog s else syncCap (n - 0x24) s
    addCount n (k - (!before && s.evc.pend.getLsbD n).toNat) s
  else addCount n (k - 1) (land n s)

/-- The held events and log entries of the line die are released (R306 step 2, R354). -/
def releaseHeld (s : State) : State :=
  let e := s.evc
  let s := { s with evc := { e with held := [], heldLog := [], heldLost := 0 } }
  let s := e.held.foldl (fun s (x : Nat × Nat) => landHeld x.1 x.2 s) s
  let s := e.heldLog.foldl (fun s x => pushLog x s) s
  let s := if e.heldLost = 0 then s
    else raise 0x14 { s with evc := { s.evc with lost := satAdd 16 s.evc.lost e.heldLost, gapNext := true } }
  syncWarn (syncLog (syncCap 3 (syncCap 2 (syncCap 1 (syncCap 0 s)))))

/-- Held grants of carrier `n` that emit earlier than 10 µs after the rejoin, and every held ranging grant, are dropped
and counted (R304, R306 step 3). -/
def dropEarly (n : Nat) (s : State) : State :=
  let edge := received s + us 10
  let c := s.carrier n
  let gone := c.held.filter fun g => g.ranging || decide (g.emit < edge)
  let s := modCarrier n (fun c => { c with
    held := c.held.filter fun g => !(g.ranging || decide (g.emit < edge)) }) s
  let s := gone.foldl (fun s g => leaveDark n g s) s
  let rep := (nextGrants n s).filter fun g => g.standing.isSome && decide (g.emit < edge)
  rep.foldl (fun s g => leaveDark n g (spend n g s)) s

/-- The switch die takes line time from the line die again (R306 step 1): a difference is a step to its scheduled
events, a change of validity reaches them now (R39). -/
def realign (s : State) : State :=
  let c := s.time.copy
  let v := s.time.copyValid
  let s := { s with time := { s.time with copy := none, copyValid := false, aligned := true } }
  if v && !timeValid s then onInvalid s
  else if c = some (lineTime s) && v = timeValid s then s
  else regateAll s

/-- SPLIT_RETRAIN_ATTEMPT (R306): with a good lane in each direction the dies rejoin. -/
def execSplitRetrainAttempt (goodUp goodDown : Nat) (s : State) : Host.Outcome State Fault Refusal := .next (
  if !s.die.split then s
  else
    let s := raise 0x19 s
    let up := min goodUp 24
    let dn := min goodDown 24
    if up = 0 ∨ dn = 0 then answerRetrain s
    else
      let s := modDie (fun d => { d with
        split := false, goodUp := up, goodDown := dn, widthUp := dieWidth up, widthDown := dieWidth dn, retry := 0
        widen := false }) s
      let s := releaseHeld (realign s)
      let s := forEach s.carrierNums dropEarly s
      let s := if dieWidth up < 20 ∨ dieWidth dn < 20 then raise 0x1A s else s
      answerRetrain (raise 0x1D s))

end Sys2Proof.Machine
end

