-- ==== Sys2Proof/Machine/Security.lean ====
section
/-! DEFINITION. Identity, owner, associations, key agreement, the debug port and host cipher jobs (chapter 10). The
signatures, HMACs and digests of the messages arrive as verdicts (log entry 5). -/

namespace Sys2Proof.Machine

def modSec (f : Security → Security) (s : State) : State := { s with sec := f s.sec }

/-- A message is discarded and counted (R222). -/
def badMsg (s : State) : State := modSec (fun x => { x with nBadMsg := x.nBadMsg + 1 }) s

/-- The security firmware takes the oldest handshake message (R225). -/
def takeMsg (s : State) : State := modSec (fun x => { x with hsIn := x.hsIn.drop 1 }) s

/-- Add a staged change at the end of a group (R260, R261). -/
def pushStaged (g : Nat) (c : Staged) (s : State) : State :=
  modGrp g (fun v => { v with changes := v.changes ++ [c], bytes := v.bytes + c.bytes, active := s.clk.now }) s

/-! ### Sending the messages of Table 10-5 -/

/-- Send a message made with the draw `seed`, so that a repeated one is the same (R222). -/
def sendMade (seed kind idx gen peerNum : Nat) (s : State) : State :=
  let d := s.clk.draws
  let s := sendHandshake kind idx gen peerNum { s with clk := { s.clk with draws := seed } }
  { s with clk := { s.clk with draws := d } }

/-- Codes of Table 10-4's states. -/
def assocCode : AssocState → Nat | .free => 0 | .armed => 1 | .agreeing => 2 | .active => 3

/-- The receive keys once a key of a generation is armed: the newest present one and the armed one (R227). -/
def armRx (gen key : Nat) (l : List Key) : List Key :=
  let l := l.filter fun k => k.gen != gen
  let newest := l.foldl (fun g k => max g k.gen) 0
  (l.filter fun k => k.gen == newest) ++ [{ name := key, gen := gen }]

/-- Arm the receive key of an agreement (R222 steps 2 and 3). -/
def armKey (i : Nat) (g : Agreement) (s : State) : State :=
  modAssoc i (fun a => { a with
    rx := armRx g.gen g.keyRx a.rx, oldUntil := if a.rx.length ≤ 1 then a.oldUntil else none }) s

/-- The keys an agreement will bring (R223): three names drawn afresh. -/
def drawKeys (g : Agreement) (s : State) : Agreement × State :=
  let (a, s) := draw s
  let (b, s) := draw s
  let (c, s) := draw s
  ({ g with keyTx := a, keyRx := b, keyConf := c }, s)

/-- Begin an agreement as initiator (R222 step 1). -/
def startAgreement (i gen : Nat) (rekey : Bool) (h : Hdr) (group bytes : Nat) (s : State) : State :=
  let (n, s) := draw s
  let seed := s.clk.draws
  let g : Agreement := {
    initiator := true, gen := gen, nonce := n, start := s.clk.now, lastSend := s.clk.now, seed := seed, hdr := some h
    group := group, bytes := bytes, rekey := rekey }
  let (g, s) := drawKeys g s
  let s := modAssoc i (fun a => { a with agree := some g, state := if rekey then a.state else .agreeing }) s
  sendMade seed 0 i gen (s.assoc i).peerNum s

/-- Answer the command that waits for an agreement. -/
def answerAgreement (g : Agreement) (a : Ans) (s : State) : State :=
  match g.hdr with
  | none => s
  | some h => sendReply h (if g.rekey then 0x0906 else 0x0905) a s

/-- sec.agreement_fail and sec.assoc_down with their causes (R221, R222, R228). -/
def agreementFail (c : SecCause) (s : State) : State := raise 0xE2 (modSec (fun x => { x with failCause := c }) s)
def assocDown (c : SecCause) (s : State) : State := raise 0xE1 (modSec (fun x => { x with downCause := c }) s)

/-- An agreement fails (R222, R226): sec.agreement_fail; a rekey keeps the present keys; an initiator's index returns to
FREE, with CLOSE once a REPLY has verified and `close` holds; a responder's to ARMED. -/
def failAgreement (i : Nat) (st : Status) (close : Bool) (s : State) : State :=
  let a := s.assoc i
  match a.agree with
  | none => s
  | some g =>
    let s := agreementFail .failed s
    let s :=
      if g.rekey then
        setAssoc i { a with agree := none, rx := a.rx.filter fun k => k.gen != g.gen || (a.tx.map (·.gen)) == some g.gen } s
      else if g.initiator || g.hdr.isSome then
        let s := setAssoc i {} s
        if close && g.initiator && g.replied then sendMade g.seed 4 i g.gen a.peerNum s else s
      else setAssoc i { a with agree := none, rx := [], state := .armed, peerIdx := 0 } s
    answerAgreement g { status := st } s

/-- A new transmit generation comes into use (R226, R238): PN starts at 1, EXHAUSTED, SUSPENDED and FAIL_COUNT clear. -/
def switchKey (i : Nat) (key : Key) (conf : Nat) (s : State) : State :=
  raise 0xE7 (modAssoc i (fun a => { a with
    tx := some key, conf := conf, pn := 1, exhausted := false, suspended := false, failCount := 0, staged := none
    stagedConf := 0, lastGen := max a.lastGen key.gen }) s)

/-- At its group's effective instant a staged rekey's key comes into use (R226). -/
def commitRekey (i : Nat) (s : State) : State :=
  match (s.assoc i).staged with
  | none => s
  | some k => switchKey i k (s.assoc i).stagedConf s

/-- An agreement succeeds (R222 steps 4 and 5, R226): the association enters ACTIVE, or takes its next generation at once,
or, staged by the initiator in a group that is still open, keeps it for the commit. -/
def finishAgreement (i : Nat) (s : State) : State :=
  let a := s.assoc i
  match a.agree with
  | none => s
  | some g =>
    let key : Key := { name := g.keyTx, gen := g.gen }
    let s := setAssoc i { a with agree := none, lastGen := max a.lastGen g.gen } s
    if !g.rekey then
      let s := modAssoc i (fun a => { a with state := .active, tx := some key, pn := 1, conf := g.keyConf }) s
      answerAgreement g { data := [assocCode .active, g.gen] } (raise 0xE0 s)
    else if g.initiator && g.group ≠ 0 then
      if (s.grp g.group).state = .open_ then
        let s := modAssoc i (fun a => { a with staged := some key, stagedConf := g.keyConf }) s
        let s := pushStaged g.group { cmd := .secAssocRekey i, hdr := g.hdr.getD {}, bytes := g.bytes } s
        answerAgreement g { status := .staged, data := [(s.grp g.group).changes.length] } s
      else
        answerAgreement g { status := .groupState } (modAssoc i (fun a => { a with rx := a.rx.filter fun k => k.gen != g.gen }) s)
    else answerAgreement g { data := [g.gen] } (switchKey i key g.keyConf s)

/-! ### Messages received -/

/-- Associations 1 to 4,095 that are not FREE. -/
def heldAssocs (s : State) : List Nat := (Tbl.keys s.sec.assocs).filter fun i => (s.assoc i).state != .free

/-- The index that a HELLO is for, and whether it repeats one already answered (R222, R224, R226). -/
inductive HelloFor where | again (i : Nat) | take (i : Nat) | ours | noMatch
deriving DecidableEq, Repr

/-- Which index a HELLO is for: a repeated one's, that of an own HELLO not answered yet, an ARMED one, or an ACTIVE one
whose peer index it names, with a generation not below the present one. -/
def helloFor (m : HelloMsg) (s : State) : HelloFor :=
  let mine := (heldAssocs s).filter fun i => (s.assoc i).peer == m.sender
  let agr := fun i => (s.assoc i).agree
  match mine.find? (fun i => (agr i).any fun g => !g.initiator && g.peerNonce == some m.nonce) with
  | some i => .again i
  | none =>
    match mine.find? (fun i => (agr i).any fun g => g.initiator && !g.replied) with
    | some i => if s.reg.number.any fun n => decide (n < m.senderNum) then .ours else .take i
    | none =>
      match mine.find? (fun i => (s.assoc i).state == .armed) with
      | some i => .take i
      | none =>
        match mine.find? (fun i => let a := s.assoc i
            a.state == .active && !a.closed && a.agree.isNone && a.peerIdx == m.idx &&
              decide ((a.tx.map (·.gen)).getD 0 ≤ m.gen)) with
        | some i => .take i
        | none => .noMatch

/-- Answer a HELLO as responder (R222 step 2, R224): the receive key is armed and REPLY sent; an own HELLO is abandoned
and its command waits for this exchange. -/
def answerHello (i : Nat) (m : HelloMsg) (s : State) : State :=
  let a := s.assoc i
  let (n, s) := draw s
  let seed := s.clk.draws
  let own := a.agree
  let g : Agreement := {
    initiator := false, gen := m.gen, nonce := n, peerNonce := some m.nonce, start := s.clk.now, lastSend := s.clk.now
    seed := seed, hdr := own.bind (·.hdr), group := (own.map (·.group)).getD 0, bytes := (own.map (·.bytes)).getD 0
    rekey := a.state == .active }
  let (g, s) := drawKeys g s
  let s := setAssoc i { a with
    agree := some g, state := if a.state = .active then .active else .agreeing, peerIdx := m.idx, peerNum := m.senderNum } s
  sendMade seed 1 i g.gen m.senderNum (armKey i g s)

/-- HELLO (R222, R224, R240). -/
def execHello (m : HelloMsg) (s : State) : Host.Outcome State Fault Refusal := .next (
  let s := takeMsg s
  if !m.sigsOk || !m.itemsOk || m.responder != s.sec.digest then badMsg s
  else match helloFor m s with
    | .ours => s
    | .noMatch => agreementFail .noMatch (badMsg s)
    | .again i =>
      match (s.assoc i).agree with
      | none => s
      | some g => sendMade g.seed 1 i g.gen (s.assoc i).peerNum
          (modAssoc i (fun a => { a with agree := some { g with lastSend := s.clk.now } }) s)
    | .take i => if s.sec.rngOk then answerHello i m s else agreementFail .failed s)

/-- REPLY (R222 step 3): the receive key is armed, then CONFIRM_I sent; again for each repeated REPLY. -/
def execReply (m : ReplyMsg) (s : State) : Host.Outcome State Fault Refusal := .next (
  let s := takeMsg s
  let a := s.assoc m.idx
  match a.agree with
  | none => badMsg s
  | some g =>
    if !g.initiator || g.gen != m.gen || !m.itemsOk then badMsg s
    else if !m.sigsOk || m.sender != a.peer then failAgreement m.idx .peerAuthFail true (badMsg s)
    else
      let s := if g.replied then s else
        armKey m.idx g (setAssoc m.idx { a with agree := some { g with replied := true }, peerIdx := m.peerIdx } s)
      sendMade g.seed 2 m.idx g.gen a.peerNum s)

/-- CONFIRM_I (R222 step 4): the responder enters ACTIVE, or takes the new generation, then sends CONFIRM_R. -/
def execConfirmI (m : ConfirmMsg) (s : State) : Host.Outcome State Fault Refusal := .next (
  let s := takeMsg s
  let a := s.assoc m.idx
  match a.agree with
  | none => badMsg s
  | some g =>
    if g.initiator || g.gen != m.gen || !m.hmacOk then badMsg s
    else sendMade g.seed 3 m.idx g.gen a.peerNum (finishAgreement m.idx s))

/-- CONFIRM_R (R222 step 5). -/
def execConfirmR (m : ConfirmMsg) (s : State) : Host.Outcome State Fault Refusal := .next (
  let s := takeMsg s
  match (s.assoc m.idx).agree with
  | none => badMsg s
  | some g =>
    if !g.initiator || !g.replied || g.gen != m.gen then badMsg s
    else if !m.hmacOk then failAgreement m.idx .peerAuthFail true (badMsg s)
    else finishAgreement m.idx s)

/-- CLOSE (R222, R228): an ACTIVE association becomes CLOSED; a responder still AGREEING returns to ARMED. -/
def execClose (m : ConfirmMsg) (s : State) : Host.Outcome State Fault Refusal := .next (
  let s := takeMsg s
  let a := s.assoc m.idx
  if !m.hmacOk then badMsg s
  else match a.state with
    | .active => if a.closed then s else assocDown .peerClosed (modAssoc m.idx (fun a => { a with closed := true }) s)
    | .agreeing => match a.agree with
      | some g => if g.initiator then badMsg s else failAgreement m.idx .peerTimeout false s
      | none => badMsg s
    | _ => badMsg s)

/-! ### Timers (R218, R221, R222, R227) -/

/-- HELLO_RETRY (R222 step 1): up to 4 times, 400 ms apart, until a REPLY arrives. -/
def execHelloRetry (i : Nat) (s : State) : Host.Outcome State Fault Refusal := .next (
  match (s.assoc i).agree with
  | none => s
  | some g =>
    if g.initiator && !g.replied && decide (g.sent < 4 ∧ g.lastSend + ms 400 ≤ s.clk.now) then
      sendMade g.seed 0 i g.gen (s.assoc i).peerNum
        (modAssoc i (fun a => { a with agree := some { g with sent := g.sent + 1, lastSend := s.clk.now } }) s)
    else s)

/-- CONFIRM_TIMEOUT (R222 step 4): 1.5 s after the REPLY. -/
def execConfirmTimeout (i : Nat) (s : State) : Host.Outcome State Fault Refusal := .next (
  match (s.assoc i).agree with
  | none => s
  | some g => if !g.initiator && decide (g.lastSend + ms 1500 ≤ s.clk.now) then failAgreement i .peerTimeout false s else s)

/-- PEER_TIMEOUT (R222 step 5): 2 s after the command was accepted. -/
def execPeerTimeout (i : Nat) (s : State) : Host.Outcome State Fault Refusal := .next (
  match (s.assoc i).agree with
  | none => s
  | some g => if g.initiator && decide (g.start + ms 2000 ≤ s.clk.now) then failAgreement i .peerTimeout true s else s)

/-- ARM_EXPIRED (R221). -/
def execArmExpired (i : Nat) (s : State) : Host.Outcome State Fault Refusal := .next (
  let a := s.assoc i
  if a.state = .armed ∧ a.armUntil ≤ s.clk.now then agreementFail .armExpired (setAssoc i {} s) else s)

/-- OLD_KEY_HOLD (R227): the old receive key is released. -/
def execOldKeyHold (i : Nat) (s : State) : Host.Outcome State Fault Refusal := .next (
  let a := s.assoc i
  match a.oldUntil with
  | none => s
  | some t =>
    if s.clk.now < t then s
    else
      let newest := a.rx.foldl (fun g k => max g k.gen) 0
      setAssoc i { a with rx := a.rx.filter fun k => k.gen == newest, oldUntil := none } s)

/-- CHALLENGE_LAPSE (R218): 600 s of local time. -/
def execChallengeLapse (s : State) : Host.Outcome State Fault Refusal := .next (
  modSec (fun x => { x with challenges := x.challenges.filter fun c => decide (s.clk.now < c.2 + sec 600) }) s)

/-- Every agreement in progress fails with a status. -/
def failAgreements (st : Status) (s : State) : State :=
  forEach (heldAssocs s) (fun i s => failAgreement i st false s) s

/-- RNG_FAIL (R240): key agreements fail until the health tests pass again. -/
def execRngFail (s : State) : Host.Outcome State Fault Refusal := .next (
  failAgreements .securityFault (raise 0xEA (modSec (fun x => { x with rngOk := false }) s)))

/-- RNG_RECOVERED (R240). -/
def execRngRecovered (s : State) : Host.Outcome State Fault Refusal := .next (modSec (fun x => { x with rngOk := true }) s)

/-! ### Commands (Table 10-11) -/

/-- sec.status (R244). -/
def doSecStatus : Body := fun s =>
  okData [lifecycleCode s.fuses.lifecycle, s.sec.digest.toNat, (s.fuses.owner.map (·.toNat)).getD 0, s.sec.unlocked.toNat,
    s.sec.dmax, s.sec.compat.toNat, s.sec.rngOk.toNat, s.sec.selfTest.toNat] s

/-- sec.identity (R215): both public keys. -/
def doSecIdentity : Body := fun s =>
  match seedOf s.fuses.seedBanks with
  | none => fail .securityFault s
  | some v => let k := Config.identityKeys v
    okData ((k.1 ++ k.2).map (·.toNat)) s

/-- sec.challenge (R218, R240): a ninth discards the oldest. -/
def doSecChallenge : Body := fun s =>
  if !s.sec.rngOk then fail .securityFault s
  else
    let (v, s) := draw s
    let c : Ident := BitVec.ofNat 128 v
    okData [c.toNat] (modSec (fun x => { x with
      challenges := x.challenges.drop (x.challenges.length - 7) ++ [(c, s.clk.now)] }) s)

/-- sec.owner.enrol (R213, R216): both owner signatures over an outstanding challenge, which is consumed. -/
def doSecOwnerEnrol (challenge : Ident) (digest : Digest) (sigEcOk sigMldsaOk : Bool) : Body := fun s =>
  if s.fuses.lifecycle = .owned then fail .ownerEnrolled s
  else
    let known := s.sec.challenges.any fun c => c.1 == challenge
    let s := consume challenge s
    if known && sigEcOk && sigMldsaOk then
      okData [digest.toNat] { s with fuses := { s.fuses with owner := some digest, lifecycle := .owned } }
    else fail .tokenInvalid s

/-- A peer association's index (R220). -/
def peerIndex (i : Nat) : Bool := decide (1 ≤ i ∧ i ≤ 4095)

/-- sec.assoc.create (R221, R240). An INITIATE replies when its agreement ends. -/
def doSecAssocCreate (h : Hdr) (i : Nat) (p : AssocParams) : Body := fun s =>
  if !peerIndex i || decide (63 < p.trib ∨ (p.initiate ∧ 63 < p.peerNum) ∨
      (!p.initiate ∧ (p.armTime < 1 ∨ 86400 < p.armTime))) then fail .paramRange s
  else if s.sec.unlocked then fail .debugUnlocked s
  else if (s.assoc i).state ≠ .free then fail .assocState s
  else
    let a : Assoc := {
      peer := p.peer, peerNum := if p.initiate then p.peerNum else 0, suite := p.suite, trib := p.trib
      classMask := p.classMask }
    if p.initiate then
      if !s.sec.rngOk then fail .securityFault s
      else
        let (g, s) := draw s
        later (startAgreement i (g % 2 ^ 32) false h 0 0 (setAssoc i a s))
    else okData [assocCode .armed, 0] (setAssoc i { a with state := .armed, armUntil := s.clk.now + sec p.armTime } s)

/-- sec.assoc.rekey (R226): generation g + 1; staged, the agreement runs now and the reply is STAGED. -/
def doSecAssocRekey (h : Hdr) (i group bytes : Nat) : Body := fun s =>
  let a := s.assoc i
  let gen := max ((a.tx.map (·.gen)).getD 0) a.lastGen
  if !peerIndex i then fail .paramRange s
  else if a.state ≠ .active ∨ a.agree.isSome ∨ a.staged.isSome then fail .assocState s
  else if 2 ^ 32 - 1 ≤ gen then fail .keygenExhausted s
  else if !s.sec.rngOk then fail .securityFault s
  else later (startAgreement i (gen + 1) true h group bytes s)

/-- sec.assoc.delete (R228): an ACTIVE association sends CLOSE; an agreement in progress fails. -/
def doSecAssocDelete (i : Nat) : Body := fun s =>
  if !peerIndex i then fail .paramRange s
  else if (s.assoc i).state = .free then fail .assocState s
  else
    let s := failAgreement i .assocState false s
    let a := s.assoc i
    let (seed, s) := draw s
    let s := if a.state = .active then sendMade seed 4 i ((a.tx.map (·.gen)).getD 0) a.peerNum s else s
    okNone (assocDown .deleted (setAssoc i {} s))

/-- sec.assoc.status (R244). -/
def doSecAssocStatus (i : Nat) : Body := fun s =>
  let a := s.assoc i
  if 4095 < i then fail .paramRange s
  else okData ([assocCode a.state, a.suspended.toNat, a.exhausted.toNat, a.closed.toNat, a.peerIdx, a.peerNum,
    (a.tx.map (·.gen)).getD 0, a.pn] ++ a.rx.map (·.gen) ++ [a.failCount] ++ (List.range 7).map fun k => Tbl.get 0 a.discards k) s

/-- sec.assoc.config (R227, R238). -/
def doSecAssocConfig (i threshold hold : Nat) : Body :=
  require (peerIndex i && decide (1 ≤ threshold ∧ threshold ≤ 65535 ∧ 10 ≤ hold ∧ hold ≤ 2000)) .paramRange fun s =>
    require (decide ((s.assoc i).state ≠ .free)) .assocState
      (fun s => okData [threshold, hold] (modAssoc i (fun a => { a with threshold := threshold, oldHold := hold }) s)) s

/-- sec.assoc.resume (R238). -/
def doSecAssocResume (i : Nat) : Body :=
  require (peerIndex i) .paramRange fun s =>
    require (decide ((s.assoc i).state = .active)) .assocState
      (fun s => okData [assocCode .active] (modAssoc i (fun a => { a with suspended := false, failCount := 0 }) s)) s

/-- sec.sidechannel.set (R240). -/
def doSecSidechannelSet (dmax : Nat) : Body :=
  require (decide (dmax ≤ 2)) .paramRange fun s => okData [dmax] (modSec (fun x => { x with dmax := dmax }) s)

/-- sec.debug.unlock (R241), in its order. -/
def doSecDebugUnlock : Body := fun s =>
  let s := failAgreements .debugUnlocked s
  let lost := s.sec.suspended
  let s := modSec (fun x => { x with assocs := x.assocs.filter (fun (a : Nat × Assoc) => a.1 == 0), suspended := [] }) s
  let s := lost.foldl (fun s j => sendReply j.hdr 0x0910 { status := .assocState } s) s
  okNone (raise 0xEC (modSec (fun x => { x with unlocked := true }) (raise 0xED s)))

/-- sec.compat.set (R243). -/
def doSecCompatSet (enable : Bool) : Body := fun s => okData [enable.toNat] (modSec (fun x => { x with compat := enable }) s)

/-! ### Host cipher jobs (R242, R243) -/

/-- An association can serve a job (Table 10-4). -/
def jobOk (isSeal : Bool) (i : Nat) (s : State) : Bool :=
  let a := s.assoc i
  a.state == .active && !a.closed && (if isSeal then !a.exhausted else !a.suspended)

/-- A job ends (R242): its result length and tag status; an unseal job releases nothing unless its tag passes. -/
def endJob (j : Job) (s : State) : Option Ans × State :=
  if j.isSeal then
    (some { data := [j.len + 32, 1] }, emit (.job true j.pn true) s)
  else
    let (v, s) := draw s
    let ok := v % 2 = 1
    (some { data := [if ok then j.len - 32 else 0, if ok then 1 else 0] }, emit (.job false 0 ok) s)

/-- A job starts: a seal job takes its PN (R232, R242, R243). -/
def startJob (j : Job) (s : State) : Job × State :=
  if j.isSeal then ({ j with pn := (s.assoc j.assoc).pn }, takePn j.assoc s) else (j, s)

/-- Put a job on cluster 19 (R243): it runs, or suspends a long job if it is URGENT and a context is free, or waits. -/
def placeJob (j : Job) (s : State) : State :=
  match s.sec.job with
  | none => let (j, s) := startJob j s
    modSec (fun x => { x with job := some j }) s
  | some r =>
    if j.urgent && !r.urgent && decide (s.sec.suspended.length < 4) then
      let (j, s) := startJob j s
      raise 0xEE (modSec (fun x => { x with job := some j, suspended := r :: x.suspended }) s)
    else modSec (fun x => { x with jobs := x.jobs ++ [j] }) s

/-- Cluster 19 is free: a suspended long job resumes, unless an URGENT one waits; then the oldest waiting job. -/
def nextJob (s : State) : State :=
  match s.sec.jobs.find? (·.urgent), s.sec.suspended, s.sec.jobs with
  | some u, _, l => placeJob u (modSec (fun x => { x with jobs := l.erase u }) s)
  | none, r :: t, _ => modSec (fun x => { x with job := some r, suspended := t }) s
  | none, [], j :: t => placeJob j (modSec (fun x => { x with jobs := t }) s)
  | none, [], [] => s

/-- The job on cluster 19 ends and is answered; the next one takes the cluster. -/
def finishJob (s : State) : State :=
  match s.sec.job with
  | none => s
  | some j =>
    let s := modSec (fun x => { x with job := none }) s
    let (a, s) := if jobOk j.isSeal j.assoc s then endJob j s else (some { status := Status.assocState }, s)
    nextJob (sendReply j.hdr 0x0910 (a.getD {}) s)

/-- cipher.job (R242, R243): at most 16,384 bytes, in compatibility mode 1,048,576; a job that needs cluster 19 replies
when it has run. -/
def doCipherJob (h : Hdr) (isSeal : Bool) (i len : Nat) (urgent : Bool) : Body := fun s =>
  let long := decide (16384 < len)
  if !peerIndex i || len = 0 then fail .paramRange s
  else if (if s.sec.compat && !urgent then decide (1048576 < len) else long) then fail .lengthLimit s
  else if !jobOk isSeal i s then fail .assocState s
  else
    let j : Job := { hdr := h, isSeal := isSeal, assoc := i, len := len, urgent := s.sec.compat && urgent }
    if long || j.urgent then later (placeJob j s)
    else
      let (j, s) := startJob j s
      endJob j s

end Sys2Proof.Machine
end

