-- ==== Sys2Proof/Machine/Commit.lean ====
section
/-! DEFINITION. Commit groups (R259 to R267): staging, locks, the readiness check, the instant, aborts. -/

namespace Sys2Proof.Machine

/-! ### Stageable changes (R260) -/

/-- A carrier or tributary change (R265, DIE_SPLIT). -/
def Cmd.onLine : Cmd → Bool
  | .carrierConfig _ _ => true
  | .carrierGateSet _ _ => true
  | .tribPageWrite _ _ => true
  | .tribPageSwap _ _ => true
  | _ => false

/-- A classification change (R146). -/
def Cmd.classifies : Cmd → Bool
  | .flowInsert _ _ => true
  | .flowModify _ _ _ => true
  | .flowDelete _ _ => true
  | .flowActionWrite _ _ => true
  | .ternaryWrite _ _ _ _ => true
  | .ternaryDelete _ => true
  | .parseNodeSet _ _ => true
  | .classProfileSet _ _ _ => true
  | .classDefaultSet _ _ _ => true
  | _ => false

/-- A change whose target can be deleted or leave its state (Table 11-10, TARGET_CHANGED). -/
def Cmd.hasTarget : Cmd → Bool
  | .queueSet _ _ => true
  | .schedNodeSet _ _ _ _ _ => true
  | .egressConfig _ _ _ => true
  | .policerSet _ _ _ => true
  | .gateListSet _ _ => true
  | .secAssocRekey _ => true
  | _ => false

/-- The lock of a change: class of Table 11-9 and object. Of class 4, queues come first, then nodes, then ports. -/
def Cmd.lock : Cmd → Option Lock
  | .carrierConfig n _ => some { cls := 1, obj := n }
  | .carrierGateSet n _ => some { cls := 1, obj := n }
  | .tribPageWrite _ _ => some { cls := 2, obj := 0 }
  | .tribPageSwap _ _ => some { cls := 2, obj := 0 }
  | .queueSet q _ => some { cls := 4, obj := q }
  | .schedNodeSet a c _ _ _ => some { cls := 4, obj := 65536 + 9 * a + (match c with | none => 0 | some k => k + 1) }
  | .egressConfig p _ _ => some { cls := 4, obj := 131072 + p }
  | .policerSet i _ _ => some { cls := 5, obj := i }
  | .gateListSet p _ => some { cls := 6, obj := p }
  | .secAssocRekey i => some { cls := 7, obj := i }
  | c => if Cmd.classifies c then some { cls := 3, obj := 0 } else none

/-- The checks of a stageable change against a state (R260); a gate list's validity check waits for the apply. -/
def checkStaged (c : Cmd) (s : State) : Status :=
  match c with
  | .carrierConfig n p => checkCarrierConfig n p true s
  | .carrierGateSet n p => checkCarrierGateSet n p s
  | .tribPageWrite f l => checkTribPageWrite f l s
  | .tribPageSwap i f => checkTribPageSwap i f s
  | .flowInsert e k => checkFlowInsert e k s
  | .flowModify p k e => checkFlowModify p k e s
  | .flowDelete p k => checkFlowKey p k s
  | .flowActionWrite i l => if setReferenced i s then checkActions i l s else .notStageable
  | .ternaryWrite i e v m => checkTernWrite i e v m s
  | .ternaryDelete i => checkTernDelete i
  | .parseNodeSet n d => checkNode n d s
  | .classProfileSet k e t => checkProfile k e t
  | .classDefaultSet p a k => checkDefault p a k s
  | .queueSet q p => checkQueueSet q p s
  | .schedNodeSet a c w sh e => checkSchedNode a c w sh e
  | .egressConfig p l sh => checkEgress p l sh s
  | .policerSet i p _ => checkPolicer i p
  | .gateListSet p g => match checkGateList p g s with | .timeInvalid => .ok | st => st
  | .secAssocRekey i => if (s.assoc i).state = .active ∧ (s.assoc i).staged.isSome then .ok else .assocState
  | _ => .notStageable

/-- A staged change takes effect at an instant, classification in the given slots (Table 11-9). -/
def applyStaged (eff : Instant) (sl : Bool × Bool) (c : Cmd) (s : State) : State :=
  match c with
  | .carrierConfig n p => commitCarrierConfig n eff p s
  | .carrierGateSet n p => putCarrierGate n ((eff : Int) - downDelay s).toNat p s
  | .tribPageWrite f l => putTribPage f l s
  | .tribPageSwap _ f => swapPages eff (fenceMs f) s
  | .queueSet q p => putQueueSet q p s
  | .schedNodeSet a c w sh e => putSchedNode a c w sh e s
  | .egressConfig p l sh => putEgress p l sh s
  | .policerSet i p r => putPolicer i p r s
  | .gateListSet p g => putGateList p g eff s
  | .secAssocRekey i => commitRekey i s
  | c => putClassification sl c s

/-- The changes of a group in the order they take effect: staging order, page swaps after the page writes (R264). -/
def inOrder (l : List Staged) : List Cmd :=
  let cs := l.map (·.cmd)
  let swap := fun (c : Cmd) => match c with | .tribPageSwap _ _ => true | _ => false
  cs.filter (fun c => !swap c) ++ cs.filter swap

/-- Present state plus a group's earlier staged changes (R260), only to check against; a rekey has its keys staged. -/
def virtually (l : List Staged) (s : State) : State :=
  l.foldl (fun s c => match c.cmd with
    | .secAssocRekey _ => s
    | c => applyStaged (lineTime s) s.cls.live c s) s

/-! ### Staging (R260, R261) -/

/-- All staged changes and parameter bytes of the groups that are OPEN or COMMITTED. -/
def stagedTotals (s : State) : Nat × Nat :=
  let live := s.groups.filter fun (x : Nat × Group) => x.2.state == .open_ || x.2.state == .committed
  (live.foldl (fun a (x : Nat × Group) => a + x.2.changes.length) 0, live.foldl (fun a (x : Nat × Group) => a + x.2.bytes) 0)

/-- The capacity of R261 has room for one more change of `b` bytes. -/
def stageRoom (g b : Nat) (s : State) : Bool :=
  let v := s.grp g
  let t := stagedTotals s
  decide (v.changes.length < 65536 ∧ v.bytes + b ≤ 8388608 ∧ t.1 < 262144 ∧ t.2 + b ≤ 33554432)

/-- A command with GROUP ≠ 0 (R260): it is checked and staged, not run. The reply carries the change's index. -/
def stageCmd (h : Hdr) (c : Cmd) (bytes : Nat) : Body := fun s =>
  let v := s.grp h.group
  match Cmd.lock c with
  | none => fail .notStageable s
  | some _ =>
    if v.state ≠ .open_ ∨ v.owner ≠ h.transport then fail .groupState s
    else match c with
      | .secAssocRekey i =>
        if stageRoom h.group bytes s then doSecAssocRekey h i h.group bytes s else fail .stageFull s
      | c =>
        match checkStaged c (virtually v.changes s) with
        | .ok =>
          if stageRoom h.group bytes s then
            (some { status := .staged, data := [v.changes.length] },
              pushStaged h.group { cmd := c, hdr := h, bytes := bytes } s)
          else fail .stageFull s
        | st =>
          let trib := match c with | .tribPageWrite _ _ => true | .tribPageSwap _ _ => true | _ => false
          (some { status := st }, if trib then raise 0x92 s else s)

/-! ### Aborts (R265, R266) -/

/-- The classification write-in of the COMMITTED group with the earliest instant is requested (R144, R263). -/
def startWriteIn (s : State) : State :=
  if s.cls.writeIn.isSome then s
  else
    let waits := s.groups.filter fun (x : Nat × Group) => x.2.state == .committed && x.2.locks.any fun l => l.cls == 3
    let first := waits.foldl (fun (a : Option (Nat × Group)) x => match a with
      | none => some x
      | some y => if x.2.eff < y.2.eff then some x else some y) none
    match first with
    | none => s
    | some (g, v) =>
      let w : WriteIn := { group := g, changes := (v.changes.filter fun x => Cmd.classifies x.cmd).length, started := none }
      if s.cls.draining.isNone then beginWriteIn w s else modCls (fun c => { c with writeIn := some w }) s

/-- A group aborts, and a waiting classification write-in may begin. -/
def abortAndGo (g : Nat) (why : Status) (detail : Nat) (s : State) : State := startWriteIn (abortGroup g why detail s)

/-- The first change of a group that satisfies a condition: its index. -/
def firstChange (p : Cmd → Bool) (v : Group) : Option Nat :=
  (v.changes.zipIdx.find? fun x => p x.1.cmd).map (·.2)

/-- A carrier.config, whose slot another carrier may have taken since it was staged (R11). -/
def Cmd.takesSlot : Cmd → Bool
  | .carrierConfig _ _ => true
  | _ => false

/-- The first staged change of a kind that no longer applies (Table 11-10): each is checked against present state plus the
group's earlier changes, as at staging (R260). -/
def changedTarget (kind : Cmd → Bool) (v : Group) (s : State) : Option Nat :=
  (v.changes.zipIdx.find? fun x => kind x.1.cmd && checkStaged x.1.cmd (virtually (v.changes.take x.2) s) != .ok).map (·.2)

/-- COMMITTED groups whose targets a direct command deleted abort (R266). -/
def abortChanged (s : State) : State :=
  forEach (groupsIn .committed s) (fun g s =>
    match changedTarget Cmd.hasTarget (s.grp g) s with
    | some k => if (s.grp g).checked then s else abortAndGo g .targetChanged k s
    | none => s) s

/-! ### Locks (R263) -/

/-- The locks of a list of changes, in class order, then object order, each once. -/
def locksOf (l : List Staged) : List Lock :=
  ((l.filterMap fun c => Cmd.lock c.cmd).dedup).insertionSort
    fun a b => a.cls < b.cls ∨ (a.cls = b.cls ∧ a.obj ≤ b.obj)

/-- The other COMMITTED groups that hold a lock. -/
def holders (g : Nat) (l : Lock) (s : State) : List (Nat × Group) :=
  s.groups.filter fun (x : Nat × Group) => x.1 != g && x.2.state == .committed && x.2.locks.contains l

/-- Why a lock cannot be taken for an instant (R117, R263). -/
def lockStatus (g : Nat) (eff : Instant) (l : Lock) (s : State) : Status :=
  if l.cls = 2 then (if s.trib.swap.isSome || !(holders g l s).isEmpty then .tribSwapPending else .ok)
  else if (holders g l s).any fun x => decide (eff ≤ x.2.eff) then .lockConflict else .ok

/-- The first lock that cannot be taken. -/
def locksStatus (g : Nat) (eff : Instant) (l : List Lock) (s : State) : Status :=
  match l.find? fun k => lockStatus g eff k s != .ok with
  | none => .ok
  | some k => lockStatus g eff k s

/-- A lock of the group is still held by an earlier group: its shadow cannot be ready. -/
def lockBehind (g : Nat) (l : Lock) (s : State) : Bool := !(holders g l s).isEmpty

/-! ### Commands (R262, R267) -/

/-- commit.open (R259). -/
def doCommitOpen (h : Hdr) (timeout : Nat) : Body :=
  require (decide (1 ≤ timeout ∧ timeout ≤ 3600)) .paramRange fun s =>
    let live := (s.groups.filter fun (x : Nat × Group) => x.2.state == .open_ || x.2.state == .committed).length
    let free := ((List.range 256).drop 1).find? fun g => (s.grp g).state == .free
    match free with
    | none => fail .noGroup s
    | some g =>
      if 32 ≤ live then fail .noGroup s
      else okData [g] (setGrp g { state := .open_, owner := h.transport, timeout := timeout, active := s.clk.now } s)

/-- Some staged change needs a frame boundary: a page swap, or a change of slot, band or profile (R73, R117). -/
def needsFrame (l : List Staged) (s : State) : Bool :=
  l.any fun c => match c.cmd with
    | .tribPageSwap _ _ => true
    | .carrierConfig n p => (s.carrier n).moves p
    | _ => false

/-- A staged page swap names another instant than 0 and the commit's (R260). -/
def wrongSwap (l : List Staged) (i : Instant) : Bool :=
  l.any fun c => match c.cmd with | .tribPageSwap j _ => j != 0 && j != i | _ => false

/-- The lock classes as bits. -/
def classBits (l : List Lock) : Nat := ((l.map (·.cls)).dedup).foldl (fun a c => a + 2 ^ c) 0

/-- The groups a new one queues behind. -/
def queuedAhead (g : Nat) (l : List Lock) (s : State) : Nat :=
  ((l.flatMap fun k => (holders g k s).map (·.1)).dedup).length

/-- commit.apply: the checks of R262 in their order. -/
def doCommitApply (h : Hdr) (g : Nat) (i : Instant) : Body :=
  require (decide (1 ≤ g ∧ g ≤ 255)) .paramRange fun s =>
    let v := s.grp g
    if v.state ≠ .open_ ∨ v.owner ≠ h.transport then fail .groupState s
    else match instantStatus i s with
      | .ok =>
        if switchTime s + sec 60 < i then fail .instantTooFar s
        else if (needsFrame v.changes s ∧ i % frameTime ≠ 0) ∨ wrongSwap v.changes i then fail .instantMisaligned s
        else
          let locks := locksOf v.changes
          let eff := effective i
          match locksStatus g eff locks s with
          | .ok =>
            let ahead := queuedAhead g locks s
            okData [secOf eff, nsOf eff, fracOf eff, classBits locks, ahead]
              (startWriteIn (setGrp g { v with
                state := .committed, eff := eff, locks := locks, ahead := ahead, active := s.clk.now, checked := false } s))
          | st => fail st s
      | st => fail st s

/-- commit.abort (R265, R266): not once the check has passed. -/
def doCommitAbort (h : Hdr) (g : Nat) : Body :=
  require (decide (1 ≤ g ∧ g ≤ 255)) .paramRange fun s =>
    let v := s.grp g
    if (v.state ≠ .open_ ∧ v.state ≠ .committed) ∨ v.owner ≠ h.transport ∨ v.checked then fail .groupState s
    else okNone (abortAndGo g .hostAbort 0 s)

/-- A class's shadow is ready (R264). -/
def classReady (g k : Nat) (s : State) : Bool :=
  let v := s.grp g
  if k = 3 then match s.cls.writeIn with | some w => w.group == g && w.done | none => false
  else !(v.locks.any fun l => l.cls == k && lockBehind g l s)

/-- commit.status. -/
def doCommitStatus (g : Nat) : Body :=
  require (decide (1 ≤ g ∧ g ≤ 255)) .paramRange fun s =>
    let v := s.grp g
    let ready := if v.state = .committed then
      ((v.locks.map (·.cls)).dedup.filter fun k => v.checked || classReady g k s).foldl (fun a c => a + 2 ^ c) 0 else 0
    let ab := v.abort.getD (.ok, 0)
    okData [groupCode v.state, v.changes.length, v.bytes, secOf v.eff, nsOf v.eff, fracOf v.eff, ready, Status.code ab.1, ab.2] s

/-! ### The check and the instant (R264, R265) -/

/-- The first reason of Table 11-10 for which a group fails its check, with the change that causes it. A change to PIPE while
it is not ON is no ready block (Table 15-9). -/
def readiness (g : Nat) (s : State) : Option (Status × Nat) :=
  let v := s.grp g
  let cls := firstChange Cmd.classifies v
  if !switchValid s then some (.timeInvalid, 0)
  else match (if s.die.split then firstChange Cmd.onLine v else none) with
  | some k => some (.dieSplit, k)
  | none => match v.shadowBad with
    | some k => some (.integrity, k)
    | none => match changedTarget (fun c => Cmd.hasTarget c || Cmd.takesSlot c) v s with
      | some k => some (.targetChanged, k)
      | none =>
        if cls.isSome && !classReady g 3 s then some (.generationNotReady, cls.getD 0)
        else
          (firstChange (fun c => (s.level 2 != 2 && !Cmd.onLine c) ||
            match Cmd.lock c with | some l => lockBehind g l s | none => false) v).map fun k => (.blockNotReady, k)

/-- The readiness check of a group, once. -/
def checkGroup (g : Nat) (s : State) : State :=
  let v := s.grp g
  if v.state ≠ .committed ∨ v.checked then s
  else match readiness g s with
    | some (why, k) => abortAndGo g why k s
    | none => setGrp g { v with checked := true } s

/-- COMMIT_READINESS_CHECK (R264): at the effective instant less 1 µs. -/
def execCommitReadinessCheck (g : Nat) (s : State) : Host.Outcome State Fault Refusal := .next (
  if (s.grp g).eff ≤ switchTime s + us 1 then checkGroup g s else s)

/-- Every block switches: all changes become visible, commit.done is raised (R259, R264); the classification changes are in the free slot
already (R144). -/
def commitGroup (g : Nat) (s : State) : State :=
  let v := s.grp g
  let cls := v.changes.any fun c => Cmd.classifies c.cmd
  let s := ((inOrder v.changes).filter fun c => !Cmd.classifies c).foldl (fun s c => applyStaged v.eff s.cls.live c s) s
  let s := if cls then switchGeneration s else s
  startWriteIn (raise 0xF2 (setGrp g { v with state := .done, active := s.clk.now, locks := [] } s))

/-- COMMIT_INSTANT (R37, R264): at the effective instant; a check that a step of line time skipped comes first. -/
def execCommitInstant (g : Nat) (s : State) : Host.Outcome State Fault Refusal := .next (
  let v := s.grp g
  if v.state ≠ .committed ∨ switchTime s < v.eff then s
  else
    let s := checkGroup g s
    if (s.grp g).state = .committed then commitGroup g s else s)

/-- An OPEN group ends without effect with commit.lapsed (Table 11-8). -/
def lapseGroup (g : Nat) (s : State) : State :=
  let v := s.grp g
  let s := eraseStagedKeys v.changes s
  raise 0xF4 (setGrp g { v with state := .aborted, active := s.clk.now, abort := some (.groupLapsed, 0) } s)

/-- GROUP_LAPSED (R259): the idle timeout of an OPEN group. -/
def execGroupLapsed (g : Nat) (s : State) : Host.Outcome State Fault Refusal := .next (
  let v := s.grp g
  if v.state = .open_ ∧ v.active + sec v.timeout ≤ s.clk.now then lapseGroup g s else s)

/-- GROUP_FREE (R259): 10 s after DONE or ABORTED. -/
def execGroupFree (g : Nat) (s : State) : Host.Outcome State Fault Refusal := .next (
  let v := s.grp g
  if (v.state = .done ∨ v.state = .aborted) ∧ v.active + sec 10 ≤ s.clk.now then setGrp g {} s else s)

end Sys2Proof.Machine
end

