-- ==== Sys2Proof/Machine/EventRegs.lean ====
section
/-! DEFINITION. The event controller's registers (Table 13-3): claim and completion, pending, mask and configuration
writes, coalescing, and the integrity log's reads. -/

namespace Sys2Proof.Machine

def modEvc (f : Evc → Evc) (s : State) : State := { s with evc := f s.evc }
def modTarget (t : Nat) (f : Target → Target) (s : State) : State :=
  modEvc (fun e => e.setTarget t (f (e.target t))) s

/-- Sources that became eligible for target `t` since `e0`. -/
def newlyEligible (e0 : Evc) (t : Nat) (s : State) : List Nat :=
  s.evc.candidates.filter fun n => s.evc.eligible t n && !e0.eligible t n

/-- What follows for target `t` when a register write has made sources eligible (R296, R297): the nesting message of an
active target in service, or coalescing fires for a bypassing source. -/
def wakeTarget (e0 : Evc) (s : State) (t : Nat) : State :=
  let l := newlyEligible e0 t s
  let g := s.evc.target t
  if l.isEmpty then s
  else if g.active then (if g.stack.isEmpty then s else sendMsix t s)
  else if l.any fun n => (s.evc.cfgOf n).bypass then fire t s
  else s

/-- After a register write: newly eligible sources, then targets with nothing left (R293 to R297). -/
def settleEvc (e0 : Evc) (s : State) : State :=
  quietAll ([0, 1, 2, 3].foldl (wakeTarget e0) s)

/-! ### Claim and completion (R294 to R296) -/

/-- The word that a claim returns: COUNT, PRIO, SOURCE (Table 13-3). -/
def claimWord (source prio count : Nat) : Word := BitVec.ofNat 32 (count * 2 ^ 20 + prio * 2 ^ 16 + source)

/-- The source that a claim of target `t` takes: the selected one, if its priority is not below the presented one's. -/
def claimable (t : Nat) (s : State) : Option (Nat × Nat) :=
  match s.evc.select t with
  | none => none
  | some (n, p) =>
    match (s.evc.target t).shown with
    | none => some (n, p)
    | some (_, q) => if q ≤ p then some (n, p) else none

/-- Claim source `n` at priority `p` for target `t` (R294). -/
def claim (t n p : Nat) (s : State) : State :=
  let count := Tbl.get 0 s.evc.count n
  let s := modEvc (fun e => { e with count := Tbl.set 0 e.count n 0 }) s
  let s := if isLevel n then s else modEvc (setPend n false) s
  let s := modTarget t (fun g => { g with stack := (n, p) :: g.stack, shown := none }) s
  let s := emit (.read (claimWord n p count)) s
  if (s.evc.target t).active && s.evc.anyEligible t then sendMsix t s else s

/-- EVC_CLAIM (R294): the read of EVC_CLAIM_t. -/
def execEvcClaim (t : Nat) (s : State) : Host.Outcome State Fault Refusal := .next (awakeRead s (
  if 4 ≤ t then s
  else match claimable t s with
    | none => emit (.read (claimWord 0x3FF 0 0)) s
    | some (n, p) => claim t n p s))

/-- EVC_COMPLETE (R295, R296). -/
def execEvcComplete (t : Nat) (v : Word) (s : State) : Host.Outcome State Fault Refusal := .next (awake s (
  if 4 ≤ t then s
  else match (s.evc.target t).stack with
    | [] => modTarget t (fun g => { g with bad := true }) s
    | x :: l =>
      if x.1 ≠ v.toNat % 256 then modTarget t (fun g => { g with bad := true }) s
      else
        let s := modTarget t (fun g => { g with stack := l }) s
        let s := if (s.evc.target t).active && s.evc.anyEligible t then sendMsix t s else s
        quiet t s))

/-! ### Pending bits, masks and configuration (R288, R292, R297, R298) -/

/-- A source that may become pending (R5, R290). -/
def mayPend (n : Nat) (s : State) : Bool := isSource n && sourcePresent s.variant n

/-- EVC_TRIGGER (R297): an EDGE source becomes pending, its counter at least 1, one arrival. -/
def execEvcTrigger (v : Word) (s : State) : Host.Outcome State Fault Refusal := .next (awake s (
  let n := v.toNat % 256
  if isLevel n || !mayPend n s then s
  else
    let e0 := s.evc
    let s := modEvc (fun e => { setPend n true e with count := Tbl.modify 0 e.count n (max 1) }) s
    nest e0 n (arrive n s)))

/-- EVC_DISCARD (R288). -/
def execEvcDiscard (v : Word) (s : State) : Host.Outcome State Fault Refusal := .next (awake s (
  let n := v.toNat % 256
  let s := modEvc (fun e => { e with count := Tbl.set 0 e.count n 0 }) s
  if isLevel n then s else quietAll (modEvc (setPend n false) s)))

/-- EVC_PENDING_WRITE (R288, R298): the word replaces the pending bits of its EDGE sources. -/
def execEvcPendingWrite (w : Nat) (v : Word) (s : State) : Host.Outcome State Fault Refusal := .next (awake s (
  if 8 ≤ w then s
  else
    let e0 := s.evc
    let e := (List.range 32).foldl (fun e i =>
      let n := 32 * w + i
      if isLevel n || !mayPend n s then e else setPend n (v.getLsbD i) e) s.evc
    settleEvc e0 { s with evc := e }))

/-- EVC_MASK_WRITE (R293, R297): an unmask of a pending source counts as an arrival. -/
def execEvcMaskWrite (w : Nat) (v : Word) (s : State) : Host.Outcome State Fault Refusal := .next (awake s (
  if 8 ≤ w then s
  else
    let e0 := s.evc
    let field := (0xFFFFFFFF#256) <<< (32 * w)
    let s := modEvc (fun e => { e with mask := (e.mask &&& ~~~field) ||| (v.setWidth 256 <<< (32 * w)) }) s
    let opened := (List.range 32).filter fun i => e0.mask.getLsbD (32 * w + i) && !v.getLsbD i && e0.pend.getLsbD (32 * w + i)
    settleEvc e0 (opened.foldl (fun s i => arrive (32 * w + i) s) s)))

/-- A write of EVC_CFG_n. -/
def putEvcCfg (n : Nat) (v : Word) (s : State) : State :=
  let c : EvcCfg := { bypass := v.getLsbD 7, target := v.toNat / 16 % 4, prio := v.toNat % 16 }
  settleEvc s.evc (modEvc (fun e => { e with cfg := Tbl.set {} e.cfg n c }) s)

/-- A write at offset `o` of a target's block that has no row of its own: EVC_CTRL, EVC_COAL, EVC_ERR. -/
def putTargetReg (t o : Nat) (v : Word) (s : State) : State :=
  if o = 0x0C then modTarget t (fun g => { g with irqEn := v.getLsbD 31, msixEn := v.getLsbD 30 }) s
  else if o = 0x10 then modTarget t (fun g => { g with coalTime := v.toNat / 65536, coalCount := v.toNat % 256 }) s
  else if o = 0x18 then modTarget t (fun g => { g with bad := g.bad && !v.getLsbD 0 }) s
  else s

/-- The target's block that an offset lies in, and the offset in it. -/
def targetReg (o : Nat) : Option (Nat × Nat) :=
  if 0x2200 ≤ o ∧ o < 0x2300 then some ((o - 0x2200) / 0x40, (o - 0x2200) % 0x40) else none

/-- A register write to the event controller that has no row of its own (R8, R292). -/
def evcWrite (o : Nat) (v : Word) (s : State) : State :=
  match targetReg o with
  | some (t, r) => putTargetReg t r v s
  | none => if 0x2400 ≤ o ∧ o < 0x2800 then putEvcCfg ((o - 0x2400) / 4) v s else s

/-- COALESCING_TIMER (R297): TIME × 0.1 µs after the first arrival counted. -/
def execCoalescingTimer (t : Nat) (s : State) : Host.Outcome State Fault Refusal := .next (
  let g := s.evc.target t
  match g.firstAt with
  | none => s
  | some f => if t < 4 && !g.active && decide (f + ns (100 * max g.coalTime 1) ≤ s.clk.now) then fire t s else s)

/-- MSIX_VECTOR_UNMASK (R296): a message held by the mask is sent once, while its target is active. -/
def execMsixVectorUnmask (v : Nat) (s : State) : Host.Outcome State Fault Refusal := .next (
  if 4 ≤ v then s
  else
    let g := s.evc.target v
    let s := modTarget v (fun g => { g with vecMasked := false, vecHeld := false }) s
    if g.vecHeld && g.active then sendMsix v s else s)

/-! ### The integrity log's reads (R292, R303) -/

/-- EVC_INTEG_POP's word for an entry; KIND 0 when empty. -/
def integWord (e : IntegEntry) : Word :=
  BitVec.ofNat 32 (e.kind * 2 ^ 28 + e.lineDie.toNat * 2 ^ 27 + e.gap.toNat * 2 ^ 26 + e.valid.toNat * 2 ^ 25 + e.unit % 256 * 2 ^ 16)

/-- EVC_INTEG_POP (R303). -/
def execEvcIntegPop (s : State) : Host.Outcome State Fault Refusal := .next (awakeRead s (
  match s.evc.log with
  | [] => emit (.read (integWord {})) (modEvc (fun e => { e with popped := {} }) s)
  | x :: l => syncLog (emit (.read (integWord x)) (modEvc (fun e => { e with log := l, popped := x }) s))))

/-- EVC_INTEG_STAT's word. -/
def integStat (s : State) : Word := BitVec.ofNat 32 (s.evc.lost * 65536 + s.evc.log.length)

/-- EVC_INTEG_LOST_READ (R292): the read clears LOST. -/
def execEvcIntegLostRead (s : State) : Host.Outcome State Fault Refusal := .next (awakeRead s (
  modEvc (fun e => { e with lost := 0 }) (emit (.read (integStat s)) s)))

/-- EVC_INTEG_CORR_READ (R292, R300). -/
def execEvcIntegCorrRead (s : State) : Host.Outcome State Fault Refusal := .next (awakeRead s (
  modEvc (fun e => { e with corrected := 0 }) (emit (.read (BitVec.ofNat 32 s.evc.corrected)) s)))

/-! ### Plain reads (Table 13-3) -/

/-- The pin IRQ_N[t] is asserted (R296). -/
def irqAsserted (t : Nat) (s : State) : Bool := let g := s.evc.target t; g.active && g.irqEn

/-- 32 bits of a 256-bit word. -/
def word256 (x : BitVec 256) (w : Nat) : Word := BitVec.extractLsb' (32 * w) 32 x

/-- A target block's word at offset `r`; EVC_CLAIM's read has a row of its own. -/
def targetWord (t r : Nat) (s : State) : Word :=
  let g := s.evc.target t
  let b (x : Bool) (k : Nat) : Nat := x.toNat * 2 ^ k
  if r = 0x00 then match g.shown with | none => 0x3FF | some (n, p) => BitVec.ofNat 32 (p * 65536 + n)
  else if r = 0x0C then BitVec.ofNat 32 (b g.irqEn 31 + b g.msixEn 30)
  else if r = 0x10 then BitVec.ofNat 32 (g.coalTime * 65536 + g.coalCount)
  else if r = 0x14 then BitVec.ofNat 32 (b (irqAsserted t s) 31 + b g.active 30 + g.arrivals * 65536 + g.stack.length * 16 + g.thresh)
  else if r = 0x18 then BitVec.ofNat 32 g.bad.toNat
  else 0

/-- The event controller's word at an offset, for reads that change nothing. -/
def evcRead (o : Nat) (s : State) : Word :=
  if 0x2000 ≤ o ∧ o < 0x2020 then word256 s.evc.pend ((o - 0x2000) / 4)
  else if 0x2020 ≤ o ∧ o < 0x2040 then word256 s.evc.mask ((o - 0x2020) / 4)
  else if 0x2040 ≤ o ∧ o < 0x2060 then levelWord ((o - 0x2040) / 4)
  else if 0x2100 ≤ o ∧ o < 0x2180 then
    BitVec.ofNat 32 ((List.range 8).foldl (fun a i => a + Tbl.get 0 s.evc.count (8 * ((o - 0x2100) / 4) + i) * 16 ^ i) 0)
  else if 0x2400 ≤ o ∧ o < 0x2800 then
    let c := s.evc.cfgOf ((o - 0x2400) / 4)
    BitVec.ofNat 32 (c.bypass.toNat * 128 + c.target * 16 + c.prio)
  else if o = 0x2808 then BitVec.ofNat 32 s.evc.popped.index
  else if o = 0x280C then loWord s.evc.popped.time
  else if o = 0x2810 then secWord s.evc.popped.time
  else match targetReg o with | some (t, r) => targetWord t r s | none => 0

end Sys2Proof.Machine
end

