-- ==== Sys2Proof/Machine/PmcTrace.lean ====
section
/-! DEFINITION. Performance counter registers, sampling and tracing (chapter 14). -/

namespace Sys2Proof.Machine

def modPmc (f : Pmc → Pmc) (s : State) : State := { s with pmc := f s.pmc }

/-! ### Reading and writing counters (R310) -/

/-- Counter `n`'s value. -/
def Pmc.count (p : Pmc) (n : Nat) : Nat := Tbl.get 0 p.cnt n

/-- PMC_CNT_LO_READ (R310): latches the counter, or a chained pair from its even counter, with the tick's line time; an odd
chained counter's read returns the latch. -/
def execPmcCntLoRead (n : Nat) (s : State) : Host.Outcome State Fault Refusal := .next (awakeRead s (
  if 64 ≤ n then s
  else
    let p := s.pmc
    let s := if p.chain n then s
      else
        let l := Tbl.set 0 p.latch n (p.count n)
        let l := if n % 2 = 0 ∧ p.chain (n + 1) then Tbl.set 0 l (n + 1) (p.count (n + 1)) else l
        modPmc (fun p => { p with latch := l, latchTime := switchTime s }) s
    emit (.read (BitVec.ofNat 32 (Tbl.get 0 s.pmc.latch n))) s))

/-- PMC_CNT_WRITE (R310): the bits of one word are replaced. -/
def execPmcCntWrite (n : Nat) (hi : Bool) (v : Word) (s : State) : Host.Outcome State Fault Refusal := .next (awake s (
  if 64 ≤ n then s
  else
    let c := s.pmc.count n
    let c' := if hi then v.toNat % 65536 * 2 ^ 32 + c % 2 ^ 32 else c / 2 ^ 32 * 2 ^ 32 + v.toNat
    modPmc (fun p => { p with cnt := Tbl.set 0 p.cnt n c' }) s))

/-- PMC_FREEZE_WRITE (R310). -/
def execPmcFreezeWrite (v : Word) (s : State) : Host.Outcome State Fault Refusal := .next (awake s (
  modPmc (fun p => { p with freeze := v.getLsbD 31 }) s))

/-- PMC_COUNTER_WRAP (R307): a counter that counts has come to 2^48. -/
def execPmcCounterWrap (n : Nat) (s : State) : Host.Outcome State Fault Refusal := .next (
  if 64 ≤ n || !s.pmc.en n || s.pmc.freeze then s else pmcAdd n (2 ^ 48 - s.pmc.count n) s)

/-- The events of the issue-slot ledger and the engines' cycles (Table 14-2). -/
def ledgerEvents : List Nat := [0x20, 0x21, 0x22, 0x23, 0x24, 0x25, 0x26]

/-- A packet engine's cycles in the tick that ends now: 2.0 GHz is two and three in turn (R309). -/
def engineCycles (now : Instant) : Nat := 2 + now / tick % 2

/-- The slots of an engine that no instruction of a program retired from, in one tick: those of vendor code that retired, wasted
PROGRAM and RUNTIME slots, back-starved ones and the front-starved rest. How they divide is the hardware's, a free value; without a
run in a context nothing is wasted on a program and nothing is back-starved (R311). -/
def freeSlots (run : Bool) (n v : Nat) : Nat × Nat × Nat × Nat × Nat :=
  let rt := v % (n + 1)
  let w := v / 7 % (n - rt + 1)
  let wp := if run then w / 2 else 0
  let left := n - rt - w
  let b := if run then v / 49 % (left + 1) else 0
  (rt, wp, w - wp, b, left - b)

/-- The ledger of engine `e` books one tick (R311, R312): two slots a cycle, each in one class, so that the classes add up to
twice ENG_CYCLES and RETIRED equals INSTR. An engine out of service books nothing. -/
def bookEngine (e : Nat) (s : State) : State :=
  if s.eng.out.contains e then s
  else
    let cyc := engineCycles s.clk.now
    let pay := min (Tbl.get 0 s.pmc.ledger e) (2 * cyc)
    let runs := (List.range 8).filterMap fun c => s.ctx (8 * e + c)
    let run := !runs.isEmpty
    let (v, s) := draw s
    let (rt, wp, wr, b, f) := freeSlots run (2 * cyc - pay) v
    let wait := if runs.any fun r => r.waiting then cyc else if run then v / 343 % (cyc + 1) else 0
    let ev := fun (code weight : Nat) (priv : Option Nat) =>
      ({ code := code, weight := weight, master := some (1 + e / 16), engine := some (e % 16), priv := priv } : PmcEvent)
    let s := modPmc (fun p => { p with ledger := Tbl.modify 0 p.ledger e (· - pay) }) s
    [ev 0x20 cyc none, ev 0x21 pay (some 1), ev 0x25 pay (some 1), ev 0x21 rt (some 2), ev 0x25 rt (some 2), ev 0x22 wp (some 1),
      ev 0x22 wr (some 2), ev 0x24 b (some (1 + v / 2401 % 2)), ev 0x23 f (some 2), ev 0x26 wait none].foldl (fun s e => pmcCount e s) s

/-- The ledgers of all engines book a tick; unless a counter looks, nothing of it is kept. -/
def ledgerTick (s : State) : State :=
  if (Tbl.keys s.pmc.evsel).any fun n => s.pmc.en n && ledgerEvents.contains (s.pmc.event n) then
    forEach (List.range 128) bookEngine s
  else modPmc (fun p => { p with ledger := [] }) s

/-- The events whose counts are the hardware's timing, which the model does not follow: HBM accesses, dummy rounds, flits. -/
def timingEvents : List Nat := [0x30, 0x31, 0x32, 0x41, 0x60, 0x61]

/-- A filter may count timing events: no reserved master where the event carries one (Table 14-3). -/
def mayTime (e : Nat) (f : Word) : Bool := decide (0x60 ≤ e) || decide (f.toNat / 2 ^ 25 % 32 ≤ 0x11)

/-- What the counters add on one tick (R307): a tick, two pipeline cycles and the engines' slots while PIPE is ON, and on counters
of timing events a free number. -/
def pmcTick (s : State) : State :=
  let s := pmcCount { code := 0x02 } s
  let s := if s.level 2 = 2 then ledgerTick (pmcCount { code := 0x01, weight := 2 } s) else s
  if s.pmc.freeze then s
  else
    forEach (Tbl.keys s.pmc.evsel) (fun n s =>
      if s.pmc.en n && !s.pmc.chain n && timingEvents.contains (s.pmc.event n) && mayTime (s.pmc.event n) (s.pmc.filtOf n) then
        let (v, s) := draw s
        pmcAdd n (v % 65536) s
      else s) s

/-! ### Configuration (R308, R318) -/

/-- The writable bits of PMC_EVSEL_n and PMC_FILT_n. -/
def evselBits (n : Nat) (v : Word) : Word := v &&& (if n % 2 = 1 then 0xE00000FF else 0xA00000FF)
def filtBits (v : Word) : Word := v &&& 0xFFFF80FF

def putEvsel (n : Nat) (v : Word) (p : Pmc) : Pmc := { p with evsel := Tbl.set 0 p.evsel n (evselBits n v) }
def putFilt (n : Nat) (v : Word) (p : Pmc) : Pmc := { p with filt := Tbl.set filtReset p.filt n (filtBits v) }

/-- A register write to the counters that has no row of its own (R8, R308). -/
def pmcWrite (o : Nat) (v : Word) (s : State) : State :=
  if o = 0x5004 then
    modPmc (fun p => { p with splitLoss := p.splitLoss && !v.getLsbD 31, residue := p.residue && !v.getLsbD 30 }) s
  else if o = 0x5010 then modPmc (fun p => { p with ovf := p.ovf &&& ~~~(v.setWidth 64) }) s
  else if o = 0x5014 then modPmc (fun p => { p with ovf := p.ovf &&& ~~~(v.setWidth 64 <<< 32) }) s
  else if 0x5100 ≤ o ∧ o < 0x5200 then modPmc (putEvsel ((o - 0x5100) / 4) v) s
  else if 0x5200 ≤ o ∧ o < 0x5300 then modPmc (putFilt ((o - 0x5200) / 4) v) s
  else if 0x5300 ≤ o ∧ o < 0x5340 then
    let k := (o - 0x5300) / 8
    if o % 8 = 0 then modPmc (fun p => { p with abase := Tbl.set 0 p.abase k v }) s
    else modPmc (fun p => { p with alimit := Tbl.set 0 p.alimit k v }) s
  else s

/-- The counters' word at an offset, for reads that change nothing. -/
def pmcRead (o : Nat) (s : State) : Word :=
  let p := s.pmc
  if o = 0x5000 then BitVec.ofNat 32 (p.freeze.toNat * 2 ^ 31)
  else if o = 0x5004 then BitVec.ofNat 32 (p.splitLoss.toNat * 2 ^ 31 + p.residue.toNat * 2 ^ 30)
  else if o = 0x5010 then p.ovf.setWidth 32
  else if o = 0x5014 then (p.ovf >>> 32).setWidth 32
  else if o = 0x5020 then loWord p.latchTime
  else if o = 0x5024 then hiWord p.latchTime
  else if o = 0x5028 then secWord p.latchTime
  else if 0x5100 ≤ o ∧ o < 0x5200 then p.evselOf ((o - 0x5100) / 4)
  else if 0x5200 ≤ o ∧ o < 0x5300 then p.filtOf ((o - 0x5200) / 4)
  else if 0x5300 ≤ o ∧ o < 0x5340 then Tbl.get 0 (if o % 8 = 0 then p.abase else p.alimit) ((o - 0x5300) / 8)
  else if 0x5800 ≤ o ∧ o < 0x5A00 ∧ o % 8 = 4 then BitVec.ofNat 32 (Tbl.get 0 p.latch ((o - 0x5800) / 8) / 2 ^ 32)
  else 0

/-- The filters that an event carries (Table 14-2): 1 MASTER, 2 CLASS, 4 ENGINE, 8 PRIV, 16 ARANGE. -/
def filtersOf (e : Nat) : Nat :=
  if (0x10 ≤ e ∧ e ≤ 0x15) ∨ e = 0x40 then 3
  else if e = 0x20 ∨ e = 0x26 then 5
  else if 0x21 ≤ e ∧ e ≤ 0x25 then 13
  else if 0x30 ≤ e ∧ e ≤ 0x32 then 17
  else if e = 0x41 then 1
  else if e = 0x50 then 18
  else if e = 0x51 then 2
  else 0

/-- pmc.config (R318): it writes the same fields as the registers. -/
def doPmcConfig (n : Nat) (evsel filt : Word) (ranges : List (Nat × Word × Word)) : Body :=
  require (decide (n < 64) && ranges.all fun r => decide (r.1 < 8)) .paramRange fun s =>
    let s := modPmc (fun p => putFilt n filt (putEvsel n evsel p)) s
    let s := ranges.foldl (fun s r => modPmc (fun p => { p with
      abase := Tbl.set 0 p.abase r.1 r.2.1, alimit := Tbl.set 0 p.alimit r.1 r.2.2 }) s) s
    okData ([(s.pmc.evselOf n).toNat, (s.pmc.filtOf n).toNat] ++
      ranges.flatMap (fun r => [r.1, r.2.1.toNat, r.2.2.toNat]) ++ [filtersOf (s.pmc.event n)]) s

/-! ### Sampling and tracing (R313 to R318) -/

/-- sample.config (R313, R314): each engine draws its period afresh. -/
def doSampleConfig (p : SampleParams) : Body :=
  require (decide (256 ≤ p.period ∧ p.period ≤ 16777216 ∧ 1 ≤ p.watermark ∧ p.watermark ≤ 4096)) .paramRange fun s =>
    okData [p.down.toNat, p.enable.toNat, p.clusters.toNat, p.engines.toNat, p.period, p.watermark]
      (setSamp p.down { s.samp p.down with p := p, left := [] } s)

/-- A bitmap of ingress ports names only ports and carriers that are present (R4). -/
def portsPresent (b : BitVec 36) (s : State) : Bool :=
  (List.range 36).all fun p => !b.getLsbD p || (if p < 32 then s.hasPort p else s.hasCarrier (p - 32))

/-- trace.config (R4, R315, R316): enabling seeds the generator and counts TRACE_ID from 0. -/
def doTraceConfig (p : TraceParams) : Body :=
  require (decide (p.k ≤ 24 ∧ 1 ≤ p.watermark ∧ p.watermark ≤ 65536) && (match p.assoc with | none => true | some a => decide (a ≤ 4095)))
    .paramRange fun s => require (portsPresent p.ports s) .unitAbsent (fun s =>
    let (v, s) := draw s
    let s := modTrace (fun t => { t with
      p := p, stopped := false, gen := if p.enable then BitVec.ofNat 32 v else t.gen, nextId := if p.enable then 0 else t.nextId }) s
    okData [p.up.toNat, p.down.toNat, p.enable.toNat, p.k, p.ports.toNat, p.classes.toNat,
      (match p.assoc with | none => 0xFFFF | some a => a), p.wrap.toNat, p.watermark, s.pmc.trace.skipped, s.pmc.trace.overwritten] s) s

/-- Mark the first record of a reading (R316). -/
def markGap (gap : Bool) : List TraceEntry → List TraceEntry
  | [] => []
  | e :: t => { e with gap := gap } :: t

/-- trace.read (R314, R316, R318): the oldest records leave the buffer; a stopped tagging resumes. -/
def doTraceRead (sel : TraceSel) (max : Nat) : Body :=
  require (decide (1 ≤ max ∧ max ≤ 64)) .paramRange fun s =>
    let samples := fun (down : Bool) =>
      let x := s.samp down
      okData (((x.buf.take max).flatMap fun r => beWords (SampleRec.toBytes r)) ++ [(x.buf.drop max).length, x.lost])
        (setSamp down { x with buf := x.buf.drop max } s)
    match sel with
    | .sampleUp => samples false
    | .sampleDown => samples true
    | .trace =>
      let t := s.pmc.trace
      let l := markGap t.gapNext (t.done.take max)
      okData ((l.flatMap fun r => beWords (TraceEntry.toBytes r)) ++ [(t.done.drop max).length, t.overwritten])
        (modTrace (fun t => { t with
          done := t.done.drop max, gapNext := t.gapNext && l.isEmpty, stopped := t.stopped && l.isEmpty }) s)

end Sys2Proof.Machine
end

