-- ==== Sys2Proof/Machine/Rings.lean ====
section
/-! DEFINITION. The command ring registers (R250 to R253) and the index writes latched in DOLDRUMS (R327). -/

namespace Sys2Proof.Machine

/-- Change the command channel. -/
def modCmd (f : CmdChannel → CmdChannel) (s : State) : State := { s with cmd := f s.cmd }

/-- CFG_ERR with a cause of Table 11-3, and cmd.ring_error. -/
def ringError (cause : Nat) (s : State) : State := raise 0xF1 (modCmd (fun c => { c with cfgErr := true, errCause := cause }) s)

/-- A new CMD_SQ_TAIL: the doorbell (R250); an index at or beyond the ring size is ignored. -/
def putSqTail (v : Nat) (s : State) : State :=
  if 2 ^ s.cmd.sqLog ≤ v then ringError 2 s else modCmd (fun c => { c with sqTail := v }) s

/-- A new CMD_RQ_HEAD: the host has consumed the entries before it (R252). -/
def putRqHead (v : Nat) (s : State) : State :=
  if 2 ^ s.cmd.rqLog ≤ v then ringError 2 s
  else
    let used := (v + 2 ^ s.cmd.rqLog - s.cmd.rqHead) % 2 ^ s.cmd.rqLog
    syncReply (modCmd (fun c => { c with rqHead := v, entries := c.entries.drop used }) s)

/-- CMD_SQ_TAIL_WRITE (R250, R327): in DOLDRUMS it is latched, and wakes the terminal where the doorbell is enabled. -/
def execCmdSqTailWrite (v : Word) (s : State) : Host.Outcome State Fault Refusal := .next (
  let i := v.toNat % 65536
  if s.pwr.asleep then wakeBy 1 (modCmd (fun c => { c with latchTail := some i }) s) else putSqTail i s)

/-- CMD_RQ_HEAD_WRITE (R252, R327). -/
def execCmdRqHeadWrite (v : Word) (s : State) : Host.Outcome State Fault Refusal := .next (
  let i := v.toNat % 65536
  if s.pwr.asleep then modCmd (fun c => { c with latchHead := some i }) s else putRqHead i s)

/-- The index writes latched in DOLDRUMS are applied (R327). -/
def applyLatched (s : State) : State :=
  let h := s.cmd.latchHead
  let t := s.cmd.latchTail
  let s := modCmd (fun c => { c with latchHead := none, latchTail := none }) s
  let s := match h with | some v => putRqHead v s | none => s
  match t with | some v => putSqTail v s | none => s

/-- CMD_CTRL_EN_WRITE (R250): EN from 0 to 1 zeroes the four indices, and is not allowed before READY; EN from 1 to 0
stops fetching. In DOLDRUMS the write is discarded (R327). -/
def execCmdCtrlEnWrite (v : Word) (s : State) : Host.Outcome State Fault Refusal := .next (
  let on := v.getLsbD 0
  if s.pwr.asleep then s
  else if on && !s.cmd.ready then ringError 3 s
  else if on && !s.cmd.en then
    syncReply (modCmd (fun c => { c with
      en := true, sqTail := 0, sqHead := 0, rqHead := 0, rqTail := 0, phase := true, entries := [] }) s)
  else modCmd (fun c => { c with en := on }) s)

/-- A write to a base or size register (R250): only while EN = 0 and IN_FLIGHT = 0, LOG2 from 4 to 16. -/
def putRingReg (o : Nat) (v : Word) (s : State) : State :=
  let b := v.toNat
  let log := b % 32
  let base := fun (old : BitVec 64) (hi : Bool) =>
    if hi then BitVec.ofNat 64 (b * 2 ^ 32 + old.toNat % 2 ^ 32)
    else BitVec.ofNat 64 (old.toNat / 2 ^ 32 * 2 ^ 32 + b / 64 * 64)
  if s.cmd.en ∨ s.cmd.inFlight ≠ 0 then ringError 3 s
  else if o = 0x1000 then modCmd (fun c => { c with sqBase := base c.sqBase false }) s
  else if o = 0x1004 then modCmd (fun c => { c with sqBase := base c.sqBase true }) s
  else if o = 0x1020 then modCmd (fun c => { c with rqBase := base c.rqBase false }) s
  else if o = 0x1024 then modCmd (fun c => { c with rqBase := base c.rqBase true }) s
  else if log < 4 ∨ 16 < log then ringError 1 s
  else if o = 0x1008 then modCmd (fun c => { c with sqLog := log }) s
  else modCmd (fun c => { c with rqLog := log }) s

/-- A write to a ring register without a row of its own (Table 11-3). -/
def ringWrite (o : Nat) (v : Word) (s : State) : State :=
  if o = 0x1000 ∨ o = 0x1004 ∨ o = 0x1008 ∨ o = 0x1020 ∨ o = 0x1024 ∨ o = 0x1028 then putRingReg o v s
  else if o = 0x1044 ∧ v.getLsbD 3 then modCmd (fun c => { c with cfgErr := false }) s
  else s

/-- What a ring register reads (Table 11-3). -/
def ringRead (o : Nat) (s : State) : Word :=
  let c := s.cmd
  if o = 0x1000 then c.sqBase.setWidth 32 else if o = 0x1004 then BitVec.extractLsb' 32 32 c.sqBase
  else if o = 0x1008 then BitVec.ofNat 32 c.sqLog else if o = 0x100C then BitVec.ofNat 32 c.sqTail
  else if o = 0x1010 then BitVec.ofNat 32 c.sqHead
  else if o = 0x1020 then c.rqBase.setWidth 32 else if o = 0x1024 then BitVec.extractLsb' 32 32 c.rqBase
  else if o = 0x1028 then BitVec.ofNat 32 c.rqLog else if o = 0x102C then BitVec.ofNat 32 c.rqHead
  else if o = 0x1030 then BitVec.ofNat 32 c.rqTail
  else if o = 0x1040 then BitVec.ofNat 32 c.en.toNat
  else if o = 0x1044 then BitVec.ofNat 32 (c.inFlight * 65536 + c.errCause * 16 + c.cfgErr.toNat * 8 + c.ready.toNat)
  else 0

/-- A submission entry may be fetched (R251, R253): the ring runs and holds one, a reply entry can be reserved, and fewer
than 256 commands are in flight. -/
def mayFetch (s : State) : Bool :=
  let c := s.cmd
  let size := 2 ^ c.rqLog
  c.en && c.ready && !s.pwr.asleep && c.sqHead != c.sqTail && decide (c.inFlight < 256) &&
    decide ((c.rqTail + size - c.rqHead) % size + c.inFlight + 1 < size)

end Sys2Proof.Machine
end

