-- ==== Sys2Proof/Machine/Retention.lean ====
section
/-! DEFINITION. What the resets and the low-power states lose (R336, Table 15-9), and what a lost retention bank loses
(R332, R333, Table 15-7). A class is at its power-on value where it is lost. -/

namespace Sys2Proof.Machine

/-! ### The servo over a power change (R357) -/

/-- The error estimate that the holdover counter carries, from the servo's mode at this moment. -/
def carried (s : State) : Nat := if s.time.holdover.isSome then holdoverError s else Config.servoError s.clk.draws

/-- The servo resumes from the holdover counter (R32, R357): HOLDOVER with the carried estimate, or FREE. `s0` is the
state whose validity the new one is compared with. -/
def resumeServo (valid : Bool) (e0 : Nat) (s0 s : State) : State :=
  let t := { s.time with
    servo := if valid then .holdover else .free, holdover := if valid then some (e0, s.clk.now) else none
    beyond := valid && s.time.beyond, phaseOk := none, stampAt := none, estimate := 0, slew := none, mismatch := none }
  let s := { s with time := t, clk := { s.clk with draws := s.clk.draws + 1 } }
  noteTime s0 (if valid then setFlag 1 (raise 0x21 s) else s)

/-! ### The line die (Table 15-9) -/

/-- A carrier's settings without its state, grants and counts; the gate hardware's inhibit stays (R67), and the fault that
carrier.status records (Table 3-9). -/
def Carrier.settings (c : Carrier) : Carrier := {
  slot := c.slot, band := c.band, profile := c.profile, rxDelay := c.rxDelay, txDelay := c.txDelay
  threshold := c.threshold, tuneTime := c.tuneTime, degrade := c.degrade, gate := c.gate, gateWait := c.gateWait
  ceil := c.ceil, script := c.script, hint := c.hint, eqdHint := c.lastHint
  gainA := c.gainA, gainB := c.gainB, gateInhibit := c.gateInhibit, lastFault := c.lastFault }

/-- What the persistent store keeps of a carrier: the hint of a session that ends is its last EqD (R79). -/
def Carrier.persistent (c : Carrier) : Carrier := { ceil := c.ceil, hint := c.hint, eqdHint := c.lastHint }

/-- What the persistent store keeps of registration: the head list and E_max. -/
def Registration.persistent (r : Registration) : Registration := { eMax := r.eMax, eMaxHead := r.eMaxHead, heads := r.heads }

/-- Every level source of the line die and the exception, stamp and log sources follow their conditions. -/
def syncAll (s : State) : State :=
  syncWarn (syncLog (syncTs (syncEx (syncCap 3 (syncCap 2 (syncCap 1 (syncCap 0 s)))))))

/-- Capture FIFOs, management channel buffers, PPSIN_OFFSET and downstream reassembly contexts are lost. -/
def loseLineBuffers (s : State) : State :=
  let cap := fun (x : Nat × Capture) => (x.1, ({ en := x.2.en, falling := x.2.falling } : Capture))
  let mch := fun (x : Nat × Mch) => (x.1, ({ en := x.2.en, carrier := x.2.carrier, rate := x.2.rate } : Mch))
  syncAll { s with
    tio := { s.tio with
      cap := (s.tio.cap.map cap).filter fun x => x.2 != {}, ppsOffset := 0x80000000, latch := 0, latchEdge := none, mirror := 0 }
    mch := (s.mch.map mch).filter fun x => x.2 != {}, down := { s.down with ctxs := [] } }

/-! ### PIPE (Table 15-9) -/

/-- A shaper full at BURST. -/
def Shaper.full (now : Instant) (x : Shaper) : Shaper := { x with tokens := x.p.burst * tokenByte, at_ := now }
def Node.full (now : Instant) (v : Node) : Node := { v with shaper := v.shaper.map (Shaper.full now) }

/-- A port's settings without its frames, pause state, stamps and counters; its shapers are full. -/
def Port.settings (now : Instant) (v : Port) : Port := {
  cfg := v.cfg, promisc := v.promisc, bcast := v.bcast, mcast := v.mcast, filter := v.filter, pause := v.pause
  rxLat := v.rxLat, txLat := v.txLat, lpi := v.lpi, idleHold := v.idleHold, rxTw := v.rxTw
  asleep := v.asleep, wakeOnTx := v.wakeOnTx, eg := v.eg
  shapers := v.shapers.map fun (x : Nat × Option Shaper) => (x.1, x.2.map (Shaper.full now))
  gate := v.gate, gateNext := v.gateNext, gates := v.gates, fellBack := v.fellBack }

def Lane.settings (l : Lane) : Lane := { txInv := l.txInv, rxInv := l.rxInv, preset := l.preset, mode := l.mode }

/-- The cipher jobs in progress are answered NOT_READY: their contexts are lost. -/
def dropJobs (s : State) : State :=
  let l := s.sec.job.toList ++ s.sec.suspended ++ s.sec.jobs
  l.foldl (fun s j => sendReply j.hdr 0x0910 { status := .notReady } s)
    (modSec (fun x => { x with job := none, suspended := [], jobs := [], unsealing := [] }) s)

/-- A watch slot keeps its settings. -/
def rewatch (s : State) : State :=
  forEach (Tbl.keys s.q.watch) (fun k s => match (Tbl.get none s.q.watch k : Option Watch) with
    | none => s
    | some w =>
      let due := nextSample w.p.period (switchTime s)
      placeItem (.barometer k) due (modQ (fun q => { q with watch := Tbl.set none q.watch k (some { p := w.p, due := due }) }) s)) s

/-- Counters, samples, traces and their statuses are lost; their settings stay. -/
def Pmc.settings (p : Pmc) : Pmc := {
  freeze := p.freeze, evsel := p.evsel, filt := p.filt, abase := p.abase, alimit := p.alimit
  sampUp := { p := p.sampUp.p }, sampDown := { p := p.sampDown.p }, trace := { p := p.trace.p } }

/-- What PIPE loses without its supply: ports go DOWN; buffers, packets in classification, runs, snapshots, counts, samples
and traces are lost; shapers are full and deficits 0. Settings, tables, cells, associations and programs stay. -/
def losePipe (s : State) : State :=
  let now := switchTime s
  let s := dropJobs (forEach (Tbl.keys s.ports) enterDown s)
  let wheel := fun (l : List WheelItem) => l.filter fun i => match i.kind with | .gate _ => true | _ => false
  let c := s.cls
  let q := s.q
  rewatch (syncAll { s with
    ports := (s.ports.map fun (x : Nat × Port) => (x.1, x.2.settings now)).filter fun x => x.2 != {}
    lanes := (s.lanes.map fun (x : Nat × Lane) => (x.1, x.2.settings)).filter fun x => x.2 != {}
    cls := { gen := c.gen, curB := c.curB, draining := c.draining, writeIn := c.writeIn, slotA := c.slotA, slotB := c.slotB
             flows := c.flows, tableHigh := c.tableHigh, tern := c.tern, actions := c.actions, counters := c.counters }
    q := { tab := q.tab, nodes := q.nodes.map fun (x : Nat × Node) => (x.1, x.2.full now)
           classNodes := q.classNodes.map fun (x : Nat × Node) => (x.1, x.2.full now)
           used := q.used, storeHigh := q.storeHigh, policers := q.policers, watch := q.watch
           fine := wheel q.fine, coarse := wheel q.coarse, agedAt := q.agedAt }
    snaps := [], down := { s.down with ready := [] }
    eng := { progs := s.eng.progs, out := s.eng.out.filter fun e => decide (256 ≤ e) }
    pmc := s.pmc.settings })

/-! ### Lost banks (R333, Table 15-7) -/

/-- Unit 0x09 of Table 13-6: an association's keys are unusable; it is CLOSED locally. -/
def loseKeys (i : Nat) (s : State) : State :=
  let a := s.assoc i
  if a.state = .active ∧ !a.closed then assocDown .integrity (setAssoc i { a with closed := true } s) else s

/-- The packets not begun of a queue are dropped with INTEGRITY (unit 0x14). -/
def integrityFlush (k : Nat) (s : State) : State :=
  match s.queue k with
  | none => s
  | some v =>
    let all := (v.lists.map fun (x : Nat × List QPkt) => x.2).flatten
    let gone := all.filter fun p => p.drawn == 0
    let lists := (v.lists.map fun (x : Nat × List QPkt) => (x.1, x.2.filter fun p => p.drawn != 0)).filter
      fun (x : Nat × List QPkt) => !x.2.isEmpty
    let s := setQueue k (some { v with lists := lists, nIntegrity := v.nIntegrity + gone.length }) s
    let s := freeCells (listCells gone) (modQ (fun q => { q with nIntegrity := q.nIntegrity + gone.length }) s)
    gone.foldl (fun s p => dropQ p s) s

/-- Bank 11: the line die's settings return to their power-on values. -/
def loseLineSettings (s : State) : State :=
  let t := s.time
  let fresh : TimeUnit := {}
  let t := { t with
    alpha := fresh.alpha, asym := fresh.asym, asymOvr := fresh.asymOvr, y := fresh.y, drift := fresh.drift
    limit := fresh.limit, squelch := fresh.squelch, hostCarrier := none }
  let r := s.reg
  let c : Registration := {}
  syncAll { s with
    carriers := (s.carriers.map fun (x : Nat × Carrier) => (x.1, x.2.persistent)).filter fun x => x.2 != {}
    trib := {}, down := { s.down with groups := 0 }, tio := {}, mch := [], time := t
    reg := { r with state := .off, tResume := c.tResume, carrier := none } }

/-- Bank 12: the switch die's settings return to their power-on values. -/
def loseSwitchSettings (s : State) : State :=
  syncAll { s with
    ports := [], lanes := [], refs := {}
    cls := { s.cls with slotA := {}, slotB := {} }
    q := { s.q with nodes := [], classNodes := [], watch := [], fine := [], coarse := [] } }

/-- Bank 14: security settings, event controller, counters and rings return to their reset values. -/
def loseControlSettings (s : State) : State :=
  let e := s.evc
  let c := s.cmd
  { s with
    sec := { s.sec with dmax := 2, compat := false }
    evc := { e with
      mask := BitVec.allOnes 256, cfg := []
      targets := (e.targets.map fun (x : Nat × Target) => (x.1, ({ vecMasked := x.2.vecMasked } : Target))).filter
        fun x => x.2 != {} }
    pmc := {}
    cmd := { c with
      en := false, sqBase := 0, rqBase := 0, sqLog := 4, rqLog := 4, sqTail := 0, sqHead := 0, rqHead := 0, rqTail := 0
      phase := true, entries := [], errCause := 0, cfgErr := false, latchTail := none, latchHead := none } }

/-- The classes of a lost bank behave as Table 15-7 gives. -/
def loseBank (b : Nat) (s : State) : State :=
  if b ≤ 9 then { s with cls := { s.cls with tern := [] } }
  else if b = 10 then forEach (Tbl.keys s.sec.assocs) loseKeys s
  else if b = 11 then loseLineSettings s
  else if b = 12 then loseSwitchSettings s
  else if b = 13 then modEng (fun e => { e with progs := [] }) s
  else if b = 14 then loseControlSettings (forEach (Tbl.keys s.sec.assocs) loseKeys s)
  else
    let s := forEach (Tbl.keys s.q.tab) integrityFlush s
    { s with cls := { s.cls with flows := [], actions := [], tableHigh := false } }

/-! ### DOLDRUMS (Table 15-9) -/

/-- An association over DOLDRUMS: old keys are dropped, and the replay window restarts above the highest PN. -/
def Assoc.restart (a : Assoc) : Assoc :=
  let newest := a.rx.foldl (fun g k => max g k.gen) 0
  let rx := if a.oldUntil.isSome then a.rx.filter fun k => k.gen == newest else a.rx
  { a with rx := rx.map fun k => { k with marks := [], floor := k.high }, oldUntil := none }

/-- What the terminal loses in DOLDRUMS. Pending snapshots stay failed with NOT_READY (R326 step 3). -/
def loseDoldrums (s : State) : State :=
  let failed := (failSnaps .notReady s.snaps).filter fun (x : Nat × Snapshot) =>
    match x.2 with | .failed _ => true | _ => false
  let s := loseLineBuffers (losePipe s)
  let e := s.evc
  syncAll { s with
    snaps := failed, groups := []
    carriers := (s.carriers.map fun (x : Nat × Carrier) => (x.1, x.2.settings)).filter fun x => x.2 != {}
    sec := { s.sec with challenges := [], hsIn := [], assocs := s.sec.assocs.map fun (x : Nat × Assoc) => (x.1, x.2.restart) }
    evc := { e with
      log := [], lost := 0, gapNext := false, popped := {}, held := [], heldLog := [], heldLost := 0
      targets := (e.targets.map fun (x : Nat × Target) => (x.1, { x.2 with
        stack := [], active := false, arrivals := 0, firstAt := none, shown := none, vecHeld := false })).filter
        fun x => x.2 != {} }
    die := { s.die with split := false, retrain := false, widen := false, retry := 0 } }

end Sys2Proof.Machine
end

