-- ==== Sys2Proof/Machine/PowerBoot.lean ====
section
/-! DEFINITION. Power states, resets, wake and boot (chapter 15), and the device commands (R257). -/

namespace Sys2Proof.Machine

/-- Change the power manager. -/
def modPwr (f : Power → Power) (s : State) : State := { s with pwr := f s.pwr }

/-- VREQ_ bits in the order of R348: SW_CORE, LN_CORE, CONV, SERDES, HBM. -/
def railBit : Rail → Nat | .swCore => 0 | .lnCore => 1 | .conv => 2 | .serdes => 3 | .hbm => 4

/-- FAULT_N is asserted (R352). -/
def faultN (s : State) : Bool := s.pwr.wakeFail || s.pwr.trip != 0 || s.pwr.stop || s.pwr.supply != 0

/-! ### Identity and status words (R2, Table 0-3) -/

def devId (s : State) : Nat :=
  let v := s.variant
  v.part * 2 ^ 16 + v.carriers * 2 ^ 12 + v.lanes * 2 ^ 6 + v.stacks * 16 + v.trib.toNat * 8 + v.lpi.toNat * 4
def devRev (s : State) : Nat := s.fuses.stepMajor.toNat * 256 + s.fuses.stepMinor.toNat
def devStatus (s : State) : Nat :=
  s.dev.bootStage * 2 ^ 28 + (faultN s).toNat * 2 ^ 27 + s.die.split.toNat * 2 ^ 26 + s.dev.linkWidth * 2 ^ 20 +
    s.dev.linkRate * 2 ^ 16 + s.dev.linkState

/-! ### Bias and assist (R324) -/

/-- Body bias and SRAM assist in mV (Table 15-4): reverse bias of the wells, the array supply (`none`: the core rail), the
wordline's underdrive, the bitline's negative boost. -/
structure Bias where
  wells    : Nat
  array    : Option Nat
  read     : Nat
  write    : Nat
deriving DecidableEq, Repr

/-- The setting of a domain at a level; none without supply. -/
def biasAt (level : Nat) : Option Bias :=
  if level = 2 then some { wells := 0, array := none, read := 30, write := 80 }
  else if level = 1 then some { wells := 200, array := some 550, read := 0, write := 0 }
  else none

/-- The setting of domain `d` (R324): it follows the effective level. -/
def biasOf (d : Nat) (s : State) : Option Bias := biasAt (s.level d)

/-- The retention banks' own setting: 0.50 V, in DOLDRUMS with 300 mV of reverse bias. -/
def retentionBias (s : State) : Bias :=
  { wells := if s.pwr.asleep then 300 else 0, array := some 500, read := 0, write := 0 }

/-! ### Bursts cut by a reset (R335, R349) -/

/-- A burst of the carrier is in flight. -/
def inFlight (n : Nat) (s : State) : Bool := decide (received s < (s.carrier n).winEnd)

/-- Every burst in flight ends, with its ramp-down or at once. -/
def stopBursts (ramp : Bool) (s : State) : State :=
  forEach (s.carrierNums.filter fun n => inFlight n s) (fun n s => emit (.gateStop n ramp) (modCarrier n (fun c => { c with winEnd := 0 }) s)) s

/-! ### Votes (R321, R322, R342) -/

/-- The block that holds what a staged change changes: LINE or PIPE. -/
def stagedDomain (c : Cmd) : Nat := if Cmd.onLine c then 5 else 2

/-- COMMITTED groups that stage a change in a domain abort with BLOCK_NOT_READY (R336). -/
def abortStaging (p : Cmd → Bool) (s : State) : State :=
  forEach (groupsIn .committed s) (fun g s => match firstChange p (s.grp g) with
    | some k => abortAndGo g .blockNotReady k s
    | none => s) s

/-- The HOST vote changes (R321, R322): effective levels follow at once, in DOLDRUMS at the wake (log entry 15). -/
def putHostVote (v : Word) (s : State) : State :=
  let s' := notePower s (modPwr (fun p => { p with hostVote := v }) s)
  if s.level 2 = 2 ∧ s'.level 2 ≠ 2 then abortStaging (fun c => stagedDomain c == 2) s' else s'

/-- AON_VOTE_HOST_WRITE (R322, Table 15-11). -/
def execAonVoteHostWrite (v : Word) (s : State) : Host.Outcome State Fault Refusal := .next (putHostVote v s)

/-- AON_WAKE_REQ (R327, Table 15-11): always enabled. -/
def execAonWakeReq (v : Word) (s : State) : Host.Outcome State Fault Refusal := .next (
  if v.getLsbD 0 then startWake s else s)

/-- The instants a reply gives: seconds, nanoseconds, fraction. -/
def instantWords (i : Instant) : List Nat := [secOf i, nsOf i, fracOf i]

/-- power.status. -/
def doPowerStatus : Body := fun s =>
  let pend := match s.pwr.sched with | some c => (powerCode c.target + 1) :: instantWords c.at_ | none => [0, 0, 0, 0]
  let out := match s.pwr.outcome with
    | .none => [0, 0] | .ok => [1, 0] | .blocked v => [2, v.toNat] | .timeInvalid => [3, 0]
  okData ([powerCode s.powerState, s.levelWord.toNat] ++ ((List.range 9).map fun v => (s.vote v).toNat) ++ pend ++ out) s

/-- power.vote. -/
def doPowerVote (w : Word) : Body := fun s =>
  let s := putHostVote w s
  okData [s.levelWord.toNat] s

/-- The carriers a bitmap names. -/
def bitmapCarriers (b : BitVec 4) : List Nat := (List.range 4).filter fun n => b.getLsbD n

/-- power.schedule (R325): replaces the pending one. -/
def doPowerSchedule (target : PowerState) (i : Instant) (carriers : BitVec 4) (wakeAt : Option Instant) : Body := fun s =>
  if (bitmapCarriers carriers).any fun n => !s.hasCarrier n then fail .unitAbsent s
  else match instantStatus i s with
    | .ok =>
      if (target = .lull ∨ target = .doldrums) ∧ s.reg.state ≠ .off then fail .regNotOff s
      else okData (instantWords i) (modPwr (fun p => { p with
        sched := some { target := target, at_ := i, carriers := carriers, wakeAt := wakeAt } }) s)
    | st => fail st s

/-- AON_WAKE_STATUS, AON_RESET_CAUSE (Table 15-11). -/
def wakeStatus (p : Power) : Nat := p.wakeFail.toNat * 2 ^ 31 + p.failStep * 2 ^ 24 + p.failCause * 2 ^ 20 + p.lastUs
def resetCause (p : Power) : Nat := p.warmCount * 2 ^ 16 + p.domain * 256 + p.cause

/-- power.retention.status. -/
def doPowerRetentionStatus : Body := fun s =>
  okData ([s.pwr.retValid.toNat, s.pwr.retLost.toNat] ++ ((List.range 16).map fun b => Tbl.get 0 s.pwr.bankCrc b) ++
    [wakeStatus s.pwr]) s

/-! ### Entry to DOLDRUMS (R326) -/

/-- Commands in progress reply (R326 step 1). -/
def finishCommands (s : State) : State :=
  answerRetrain (iter finishJob (s.sec.jobs.length + s.sec.suspended.length + s.sec.job.toList.length) s)

/-- Laser and driver are turned off on every carrier (Table 3-9). -/
def allLasersOff (s : State) : State := forEach s.carrierNums (fun n s => runDuty n dutyOff s) s

/-- The steps of R326: groups end, banks are written, line time passes to the holdover counter (R357), every rail but
HBM's is let go. The model takes the entry in one step (log entry 32). -/
def enterDoldrums (wakeAt : Option Instant) (s0 : State) : State :=
  let s := forEach (groupsIn .committed s0) (fun g => abortGroup g .blockNotReady 0) (finishCommands s0)
  let s := allLasersOff (forEach (groupsIn .open_ s) lapseGroup s)
  let valid := Servo.holds s.time.servo
  let e0 := carried s
  let hold := match s.time.holdover with | some h => some h | none => if valid then some (e0, s.clk.now) else none
  let crc := (List.range 16).map fun b => (b, Config.bankCrc (s.clk.draws + b))
  let t := lineTime s
  let s := loseDoldrums s
  notePower s0 { s with
    clk := { s.clk with draws := s.clk.draws + 17 }
    cmd := { s.cmd with ready := false }
    time := { s.time with
      servo := if valid then .holdover else .free, holdover := if valid then hold else none
      aligned := false, copy := none, copyValid := false }
    pwr := { s.pwr with
      asleep := true, fw := some .doldrums, wakeAt := wakeAt, retValid := BitVec.allOnes 16, bankCrc := crc.filter fun x => x.2 != 0
      ruined := 0, holdTime := t, holdValid := valid, vreq := s.pwr.vreq &&& 0x10#5 } }

/-! ### Scheduled changes (R325) -/

/-- The domains in which another voter may block a target: FW votes nothing on carrier domains, so those count only where
the target keeps carriers from working (log entry 33). -/
def checkedDomains : PowerState → List Nat
  | .doldrums => [1, 2, 3, 4, 5, 6, 7, 8, 9, 10, 11, 12, 13]
  | .lull => [1, 2, 3, 4, 5, 10, 11, 12, 13]
  | _ => [1, 2, 3, 4, 5]

/-- The voters other than FW that hold a domain above the target's FW level. -/
def blockers (t : PowerState) (s : State) : List Nat :=
  [0, 2, 3, 4, 5, 6, 7, 8].filter fun v => (checkedDomains t).any fun d => decide (voteBits (fwVote t) d < voteBits (s.vote v) d)

/-- The change acts. -/
def applyPower (c : Sched) (s : State) : State :=
  let setFw := fun (t : PowerState) (s : State) => notePower s (modPwr (fun p => { p with fw := some t }) s)
  let named := bitmapCarriers c.carriers
  match c.target with
  | .active => forEach named (fun n s => (doCarrierEnable n s).2) (setFw .active s)
  | .trim => setFw .trim (forEach named startDisable s)
  | .lull =>
    let s := setFw .lull (forEach (s.carrierNums.filter fun n => s.time.carrier != some n) startDisable s)
    if s.level 2 = 2 then s else abortStaging (fun x => stagedDomain x == 2) s
  | .doldrums => enterDoldrums c.wakeAt s

/-- POWER_SCHEDULE_DUE (R325, R37): blocked by another voter; a SECURITY vote alone is waited for, at most 2 s. -/
def execPowerScheduleDue (s : State) : Host.Outcome State Fault Refusal := .next (
  match s.pwr.sched with
  | none => s
  | some c =>
    if s.pwr.asleep || decide (switchTime s < c.at_) then s
    else
      let b := blockers c.target s
      if b = [8] ∧ switchTime s < c.at_ + sec 2 then s
      else if b ≠ [] then
        raise 0x07 (modPwr (fun p => { p with
          sched := none, outcome := .blocked (BitVec.ofNat 9 (b.foldl (fun a v => a + 2 ^ v) 0)) }) s)
      else applyPower c (raise 0x07 (modPwr (fun p => { p with sched := none, outcome := .ok }) s)))

/-! ### Firmware images (R338 to R340) -/

/-- The bit of PART that names a variant (Table 15-10). -/
def partBit : Variant → Nat | .krt9640 => 0 | .krt9620 => 1 | .krt9610 => 2

/-- An image is valid (R338); digest and signature verdicts come with it (log entry 5). -/
def imageValid (i : FwImage) (s : State) : Bool :=
  i.headerOk && i.part.getLsbD (partBit s.variant) && i.digestOk && i.sigsOk &&
    decide (s.fuses.minSec ≤ i.secVersion ∧ i.secVersion ≤ 64)

/-- The valid slots. -/
def validSlots (s : State) : List (Nat × FwImage) :=
  (s.dev.slots.zipIdx.filterMap fun x => x.1.map fun i => (x.2, i)).filter fun x => imageValid x.2 s

/-- Of the valid images the one with the higher IMAGE_VERSION (R338); of equal ones the lower slot's (log entry 34). -/
def chooseImage (s : State) : Option (Nat × FwImage) :=
  (validSlots s).foldl (fun a x => match a with
    | none => some x
    | some y => if y.2.version < x.2.version then some x else some y) none

/-- Boot an image: the fused minimum rises to its SEC_VERSION (R338). -/
def bootImage (slot : Nat) (i : FwImage) (s : State) : State :=
  { s with
    dev := { s.dev with booted := some (i.version, slot) }
    fuses := { s.fuses with minSec := max s.fuses.minSec i.secVersion } }

/-- The slot that device.fw.load writes (R339): in recovery the first that failed, in service the one not in use. -/
def loadSlot (s : State) : Nat :=
  if s.dev.bootStage = 15 then
    (([0, 1].find? fun k => !((validSlots s).any fun x => x.1 == k)).getD 0)
  else match s.dev.booted with | some (_, k) => 1 - k | none => 0

/-- device.fw.load (R257, R339): on the last chunk the image is verified; one that fails is never written. In recovery a
valid image is booted: the boot goes on at LOAD. -/
def doDeviceFwLoad (offset len : Nat) (last : Option FwImage) : Body :=
  require (decide (len ≤ 65000 ∧ offset + len ≤ 8388608)) .paramRange fun s =>
    let got := (if offset = 0 then 0 else s.dev.fwBytes) + len
    let s := { s with dev := { s.dev with fwBytes := got } }
    match last with
    | none => okData [got] s
    | some i =>
      let s := { s with dev := { s.dev with fwBytes := 0 } }
      if !imageValid i s then okData [got, 0] s
      else
        let k := loadSlot s
        let rec_ := s.dev.bootStage == 15
        let s := { s with dev := { s.dev with slots := s.dev.slots.set k (some i) } }
        if rec_ then
          let s := bootImage k i s
          okData [got, 1] { s with dev := { s.dev with bootStage := 5 } }
        else okData [got, 1] s

/-! ### The other device commands (R257) -/

/-- device.info: no firmware version before an image has booted (0, log entry 2). -/
def doDeviceInfo : Body := fun s =>
  okData [devId s, devRev s, (s.dev.booted.map (·.1)).getD 0, Config.bootRomVersion, s.sec.digest.toNat / 2 ^ 256] s

/-- device.status. -/
def doDeviceStatus : Body := fun s =>
  okData [devStatus s, s.dev.bootStage, (s.clk.now - s.dev.resetAt) / ms 1, s.pwr.cause] s

/-- device.reset (R257, R334): the reply comes first, the reset starts 1 ms after it. -/
def doDeviceReset (k : ResetKind) : Body := fun s =>
  let go := okNone { s with dev := { s.dev with resetDue := some (k, s.clk.now + ms 1) } }
  match k with
  | .warm => go
  | .domain d =>
    if d = 0 ∨ d = 1 ∨ d = 3 ∨ 13 < d then fail .paramRange s
    else if 6 ≤ d ∧ !s.hasCarrier ((d - 6) % 4) then fail .unitAbsent s
    else go

/-- device.ping. -/
def doDevicePing (b : List Byte) : Body :=
  require (decide (b.length ≤ 256)) .paramLength fun s => okData (b.map BitVec.toNat) s

/-! ### Resets (R334 to R336) -/

/-- What the resets of both dies and HBM keep (Table 15-9, column 2): fuses, the persistent store, the AON registers and
the link keeper; regulator requests stay. -/
def survivors (s : State) : State := {
  fuses := s.fuses
  dev := { linkWidth := s.dev.linkWidth, linkRate := s.dev.linkRate, linkState := s.dev.linkState
           resetAt := s.dev.resetAt, slots := s.dev.slots }
  clk := { s.clk with lastRaise := [], validChanges := s.clk.validChanges + (timeValid s).toNat }
  time := { refOk := s.time.refOk, refHeld := s.time.refHeld }
  carriers := (s.carriers.map fun (x : Nat × Carrier) => (x.1, x.2.persistent)).filter fun x => x.2 != {}
  reg := s.reg.persistent
  sec := { rngOk := s.sec.rngOk }
  pwr := { s.pwr with
    fw := none, asleep := false, changing := false, sched := none, outcome := .none, wake := none, wakeFail := false
    holdValid := false, supply := 0 }
  out := s.out
  pending := s.pending }

/-- The warm pin, command and watchdog resets (R334, R335): bursts in flight end with their ramp-down first. -/
def warmReset (cause : Nat) (s : State) : State :=
  let s := survivors (stopBursts true s)
  syncWarn { s with
    dev := { s.dev with resetAt := s.clk.now }
    pwr := { s.pwr with cause := cause, warmCount := satInc 16 s.pwr.warmCount } }

/-- PORST_ASSERT (R334, R335, R350): the gates fall at once; everything but fuses and flash is at its power-on value, and
the regulator requests are withdrawn. Local time starts again on release. -/
def execPorstAssert (s : State) : Host.Outcome State Fault Refusal := .next (
  let s := stopBursts false s
  { fuses := s.fuses, dev := { slots := s.dev.slots }, clk := { draws := s.clk.draws }, time := { refOk := s.time.refOk }
    pwr := { warn := s.pwr.warn, trip := s.pwr.trip, porst := true }, out := s.out, pending := s.pending })

/-- RESET_N_ASSERT (R334, R335, R350): while PORST_N is low too, PORST_N governs. -/
def execResetNAssert (s : State) : Host.Outcome State Fault Refusal := .next (
  if s.pwr.porst then modPwr (fun p => { p with resetN := true }) s
  else modPwr (fun p => { p with resetN := true }) (warmReset 2 s))

/-- WATCHDOG_RESET (R334): the control firmware runs and has not serviced its watchdog. -/
def execWatchdogReset (s : State) : Host.Outcome State Fault Refusal := .next (if s.cmd.ready then warmReset 4 s else s)

/-- A carrier is OFF after a reset of its domains; its burst in flight ends with its ramp-down. -/
def resetCarrier (n : Nat) (s : State) : State :=
  let s := if inFlight n s then emit (.gateStop n true) (modCarrier n (fun c => { c with winEnd := 0 }) s) else s
  if (s.carrier n).state = .off then s else turnOff n s

/-- A staged change on the carrier of a carrier domain. -/
def namesCarrier (n : Nat) : Cmd → Bool
  | .carrierConfig k _ => k == n
  | .carrierGateSet k _ => k == n
  | _ => false

/-- The holdover counter takes line time over (R357): a running slew ends where it stands, without a jump. -/
def carryTime (s : State) : State :=
  { s with time := { s.time with rx := ((s.time.rx : Int) - slewLeft s * 65536).toNat, slew := none } }

/-- One domain makes a DOLDRUMS round trip through its banks (R334, R336, R357); D2D runs as die.retrain. -/
def domainReset (d : Nat) (s : State) : State :=
  let s := { s with dev := { s.dev with resetAt := s.clk.now }, pwr := { s.pwr with cause := 5, domain := d } }
  if d = 2 then
    let s := losePipe (abortStaging (fun c => stagedDomain c == 2) s)
    if s.reg.session then forEach ((List.range 8).filter fun c => classHasQueue c s) startHistory s else s
  else if d = 4 then
    if s.die.retrain || s.die.split then s else startRetrain s
  else if d = 5 then
    let s0 := s
    let s := abortStaging (fun c => stagedDomain c == 5) s
    let s := if s.reg.state = .off then s else leaveTo .listen s
    let s := loseLineBuffers (forEach s.carrierNums resetCarrier s)
    holdOutputs (resumeServo (Servo.holds s0.time.servo) (carried s0) s0 (carryTime s))
  else
    let n := (d - 6) % 4
    resetCarrier n (abortStaging (namesCarrier n) s)

/-- COMMAND_RESET_START (R257, R334): 1 ms after the reply. -/
def execCommandResetStart (s : State) : Host.Outcome State Fault Refusal := .next (
  match s.dev.resetDue with
  | none => s
  | some (k, t) =>
    if s.clk.now < t then s
    else
      let s := { s with dev := { s.dev with resetDue := none } }
      match k with | .warm => warmReset 3 s | .domain d => domainReset d s)

/-! ### Boot (R337) -/

/-- BOOT_START (R337, R348): on release of PORST_N or of a warm reset; the core rail is requested. SEED runs on power-on
only. -/
def execBootStart (s : State) : Host.Outcome State Fault Refusal := .next (
  if s.dev.booting || s.dev.bootStage != 0 || s.pwr.stop || s.pwr.asleep then s
  else
    syncWarn { s with
      dev := { s.dev with booting := true, bootStage := if s.pwr.cause = 1 then 1 else 2 }
      pwr := { s.pwr with porst := false, resetN := false, vreq := s.pwr.vreq ||| 1#5 } })

/-- The boot stops at its stage (R337). -/
def stopBoot (s : State) : State := { s with dev := { s.dev with bootStopped := true } }

/-- The next stage begins, with the rails it needs (R348). -/
def toStage (k : Nat) (s : State) : State :=
  let rails := if k = 6 then 0x10#5 else if k = 7 then 0x06#5 else 0
  { s with dev := { s.dev with bootStage := k }, pwr := { s.pwr with vreq := s.pwr.vreq ||| rails } }

/-- A seed bank is programmed or abandoned (R214). -/
def seedStage (r : StageResult) (s : State) : State :=
  let unowned := fun (s : State) => if s.fuses.lifecycle = .blank then { s with fuses := { s.fuses with lifecycle := .unowned } } else s
  if (seedOf s.fuses.seedBanks).isSome then toStage 2 (unowned s)
  else match s.fuses.seedBanks.findIdx? (· == .unused) with
    | none => toStage 2 s
    | some k =>
      if !s.sec.rngOk then stopBoot s
      else if r.seedOk then
        let (v, s) := draw s
        toStage 2 (unowned { s with fuses := { s.fuses with seedBanks := s.fuses.seedBanks.set k (.valid v) } })
      else stopBoot { s with fuses := { s.fuses with seedBanks := s.fuses.seedBanks.set k .abandoned } }

/-- The self-test of the security block and the identity derivation (R215, R240). -/
def selfTestStage (r : StageResult) (s : State) : State :=
  let s := match seedOf s.fuses.seedBanks with
    | none => s
    | some v =>
      let k := Config.identityKeys v
      modSec (fun x => { x with derived := true, digest := Config.sha384 (k.1 ++ k.2) }) s
  let s := modSec (fun x => { x with selfTest := r.selfTest }) s
  toStage 3 (if r.selfTest then s else raise 0xEB s)

/-- READY (R330, R331, R337, R340): firmware runs, FW votes ACTIVE, PIPE comes up, and what waited for CTRL is raised. -/
def becomeReady (s : State) : State :=
  let s0 := s
  let s := { s with
    cmd := { s.cmd with ready := true }
    dev := { s.dev with bootStage := 8, booting := false, fwCopy := true }
    time := { s.time with aligned := true }
    pwr := { s.pwr with fw := some .active, vreq := s.pwr.vreq ||| 0x08#5, failDue := false } }
  let s := raise 0x00 s
  let s := if s.pwr.cause = 4 then raise 0x04 s else s
  notePower s0 (if s0.pwr.failDue then raise 0x08 s else s)

/-- BOOT_STAGE_COMPLETE (R337 to R339). -/
def execBootStageComplete (r : StageResult) (s : State) : Host.Outcome State Fault Refusal := .next (
  if !s.dev.booting || s.dev.bootStopped then s
  else if !r.ok then (if s.dev.bootStage = 15 then s else stopBoot s)
  else match s.dev.bootStage with
    | 1 => seedStage r s
    | 2 => selfTestStage r s
    | 3 => toStage 4 s
    | 4 =>
      let s := if r.images = [] then s else { s with dev := { s.dev with slots := (r.images ++ [none, none]).take 2 } }
      (match chooseImage s with
        | some (k, i) => toStage 5 (bootImage k i s)
        | none => { s with dev := { s.dev with bootStage := 15 } })
    | 5 => toStage 6 s
    | 6 => toStage 7 s
    | 7 => becomeReady s
    | _ => s)

/-! ### Waking (R330, R331, R333) -/

/-- WAKE_REQUEST (R327): an enabled source; a port wakes with it, a schedule must be due on the holdover counter. -/
def execWakeRequest (src : WakeSource) (s : State) : Host.Outcome State Fault Refusal := .next (
  if !s.pwr.asleep then s
  else match src with
    | .request => startWake s
    | .schedule => (match s.pwr.wakeAt with
      | some t => if t ≤ s.pwr.holdTime && s.pwr.wakeEn.getLsbD 0 && s.pwr.wake.isNone then
          startWake (modPwr (fun p => { p with wakeAt := none }) s) else s
      | none => s)
    | .doorbell => wakeBy 1 s
    | .port p => if (s.port p).asleep then wakeBy 2 (wakePort p s) else s
    | .spi => wakeBy 3 s)

/-- The regulators a wake step requests (Table 15-5), as VREQ_ bits. -/
def stepRails (k : Nat) : BitVec 5 := if k = 1 then 0x01#5 else if k = 7 then 0x06#5 else if k = 10 then 0x08#5 else 0

/-- The timeout of a wake step and of its retry (Table 15-5): the retry of step 6 reads the image from boot flash. -/
def stepTimeout (k : Nat) (retry : Bool) : Instant :=
  match k with
  | 1 => ms 5 | 2 => ms 1 | 3 => us 500 | 4 => ms 4 | 5 => ms 2 | 6 => if retry then sec 1 else ms 10
  | 7 => ms 5 | 8 => ms 1 | 9 => ms 1 | _ => ms 8

/-- The next wake step begins, with the regulators it requests. -/
def nextWakeStep (w : Wake) (s : State) : State :=
  let k := w.step + 1
  modPwr (fun p => { p with
    wake := some { w with step := k, retry := false, since := s.clk.now }
    vreq := p.vreq ||| stepRails w.step ||| stepRails k }) s

/-- A step that runs again requests its regulators 1 ms after it withdrew them (R330). -/
def wakeTick (s : State) : State :=
  match s.pwr.wake with
  | some w => if w.since ≤ s.clk.now then modPwr (fun p => { p with vreq := p.vreq ||| stepRails w.step }) s else s
  | none => s

/-- Targets with something eligible become active now that CTRL is on (R327). -/
def wakeTargets (s : State) : State :=
  forEach [0, 1, 2, 3] (fun t s => if s.evc.anyEligible t then fire t s else s) s

/-- The wake is over (R330, R333, R357): the terminal runs in TRIM, the servo resumes, lost banks take their classes with
them, latched index writes are applied. -/
def wakeDone (w : Wake) (s0 : State) : State :=
  let s := { s0 with
    cmd := { s0.cmd with ready := true }
    time := { s0.time with rx := ((s0.pwr.holdTime : Int) - downDelay s0).toNat * 65536, aligned := true }
    pwr := { s0.pwr with
      asleep := false, changing := false, wake := none, fw := some .active, holdValid := false
      lastUs := min ((s0.clk.now - w.start) / us 10) 0xFFFE } }
  let s := resumeServo s0.pwr.holdValid (carried s0) s0 s
  let s := forEach ((List.range 16).filter fun b => w.lost.getLsbD b) loseBank s
  let s := raise 0x00 (regateAll (applyLatched s))
  let s := if w.lost = 0 then s else raise 0x09 s
  wakeTargets (notePower s0 s)

/-- WAKE_STEP_READY (Table 15-5): the ready signal of a step that runs; step 3 runs CTRL, step 4 checks the banks, on the retry of step 6
the image comes from flash, step 9 trains the die link. -/
def execWakeStepReady (r : StepReport) (s : State) : Host.Outcome State Fault Refusal := .next (
  match s.pwr.wake with
  | none => s
  | some w =>
    if s.clk.now < w.since then s
    else if w.step = 3 then
      nextWakeStep w (if s.pwr.failDue then raise 0x08 (modPwr (fun p => { p with failDue := false }) s) else s)
    else if w.step = 4 then
      let lost := (r.badBanks ||| s.pwr.ruined) &&& s.pwr.retValid
      nextWakeStep { w with lost := lost } (modPwr (fun p => { p with
        retLost := p.retLost ||| lost, retValid := p.retValid &&& ~~~lost, ruined := 0 }) s)
    else if w.step = 6 then
      if w.retry then
        match chooseImage s with
        | some (k, i) => nextWakeStep w (bootImage k i s)
        | none => s
      else if s.dev.fwCopy then nextWakeStep w s else s
    else if w.step = 9 then
      let up := min r.lanesUp 24
      let dn := min r.lanesDown 24
      if up = 0 ∨ dn = 0 then s
      else nextWakeStep w (modDie (fun x => { x with
        goodUp := up, goodDown := dn, widthUp := dieWidth up, widthDown := dieWidth dn }) s)
    else if w.step = 10 then wakeDone w s
    else nextWakeStep w s)

/-- The cause AON_WAKE_STATUS gives for a step (Table 15-11); a step with two causes takes the reported one, and the bias
and bank checks take restore (log entry 35). -/
def wakeCause (step cause : Nat) : Nat :=
  if step = 1 ∨ step = 7 then 1 else if step = 2 then (if cause = 3 then 3 else 2) else if step = 5 then 4
  else if step = 6 then 5 else if step = 8 then 2 else if step = 9 then 6 else if step = 10 ∧ cause = 1 then 1 else 7

/-- WAKE_STEP_TIMEOUT (R330, R331): the step's time has passed. It withdraws its own requests and runs once more after 1 ms; a retry
that times out too ends the wake, and at step 2 or 8 marks line time invalid. -/
def execWakeStepTimeout (cause : Nat) (s : State) : Host.Outcome State Fault Refusal := .next (
  match s.pwr.wake with
  | none => s
  | some w =>
    if s.clk.now < w.since + stepTimeout w.step w.retry then s
    else if !w.retry then
      modPwr (fun p => { p with
        wake := some { w with retry := true, since := s.clk.now + ms 1 }, vreq := p.vreq &&& ~~~stepRails w.step }) s
    else
      let s' := modPwr (fun p => { p with
        wake := none, changing := false, wakeFail := true, failStep := w.step, failCause := wakeCause w.step cause
        failDue := true, vreq := p.vreq &&& 0x10#5, holdValid := p.holdValid && w.step != 2 && w.step != 8 }) s
      noteTime s s')

/-! ### Always-on registers (R341) -/

/-- The holdover counter's error word (Table 15-11). -/
def holdErr (s : State) : Nat := if s.pwr.holdValid && s.pwr.asleep then min (holdoverError s) 0xFFFF else 0xFFFF

/-- AON_HOLD_NS_READ (R341): latches the three holdover words. -/
def execAonHoldNsRead (s : State) : Host.Outcome State Fault Refusal := .next (
  emit (.read (loWord s.pwr.holdTime))
    (modPwr (fun p => { p with holdLatch := (p.holdTime, p.holdValid, holdErr s) }) s))

/-- A write to an always-on register without a row of its own. -/
def aonWrite (o : Nat) (v : Word) (s : State) : State :=
  if o = 0x7040 then modPwr (fun p => { p with wakeEn := BitVec.extractLsb' 1 4 v }) s
  else if o = 0x7060 then modPwr (fun p => { p with retLost := p.retLost &&& ~~~v.setWidth 16 }) s
  else s

/-- What an always-on register reads (Table 15-11). -/
def aonRead (o : Nat) (s : State) : Word :=
  let p := s.pwr
  let (t, ok, e) := p.holdLatch
  let at_ := p.wakeAt.getD 0
  if o = 0x7000 then BitVec.ofNat 32 (powerCode s.powerState * 2 ^ 28 + p.changing.toNat * 2 ^ 27)
  else if o = 0x7004 then s.levelWord
  else if 0x7010 ≤ o ∧ o ≤ 0x7030 then s.vote ((o - 0x7010) / 4)
  else if o = 0x7040 then BitVec.ofNat 32 (p.wakeEn.toNat * 2 + 1)
  else if o = 0x7048 then loWord at_
  else if o = 0x704C then secWord at_
  else if o = 0x7050 then BitVec.ofNat 32 (wakeStatus p)
  else if o = 0x7054 then BitVec.ofNat 32 (resetCause p)
  else if o = 0x7060 then p.retLost.setWidth 32
  else if o = 0x7064 then p.retValid.setWidth 32
  else if o = 0x7070 then loWord p.holdTime
  else if o = 0x7074 then secWord t
  else if o = 0x7078 then BitVec.ofNat 32 (ok.toNat * 2 ^ 31 + e)
  else 0

end Sys2Proof.Machine
end

