-- ==== Sys2Proof/Machine/Pins.lean ====
section
/-! DEFINITION. Reference clock and supply faults, thermal limits, and the PCIe link's pins (R36, R348 to R352). -/

namespace Sys2Proof.Machine

/-- OCXO_FAIL (R36, R172, R327): REFCLK_156 has stopped or strayed. The servo is in FREE until it is good again; the lanes'
references report it too. In DOLDRUMS the holdover counter is invalid and a wake begins at once. -/
def execOcxoFail (s : State) : Host.Outcome State Fault Refusal := .next (
  let s1 := raise 0xC5 (raise 0x29 (setFlag 4 { s with time := { s.time with refOk := false, refHeld := true } }))
  if s.pwr.asleep then
    startWake (noteTime s (modPwr (fun p => { p with holdValid := false }) s1))
  else enterFree s1)

/-- The line die is held in reset (R349): nothing on it works, and its settings are at their power-on values. -/
def holdLine (s : State) : State :=
  let s0 := s
  let s := if s.reg.state = .off then s else leaveTo .off s
  let s := forEach s.carrierNums (fun n s => if (s.carrier n).state = .off then s else turnOff n s) s
  let s := loseLineSettings (loseLineBuffers s)
  resumeServo false 0 s0 { s with time := { s.time with aligned := false } }

/-- HBM is held in reset: what it holds is lost (Table 15-9). -/
def loseHbm (s : State) : State :=
  { s with
    dev := { s.dev with fwCopy := false }
    cls := { s.cls with flows := [], actions := [], counters := [], tableHigh := false }
    q := { s.q with tab := [], policers := [], staging := [], used := 0, storeHigh := false } }

/-- SUPPLY_FAULT (R349, log entry 31): a PG_ input falls while its rail is requested, outside a wake. The gates fall at
once, FAULT_N is asserted, and the domains that the rail feeds are held in reset until RESET_N or PORST_N;
dev.supply_fault is raised while CTRL runs. -/
def execSupplyFault (rail : Rail) (s : State) : Host.Outcome State Fault Refusal := .next (
  let k := railBit rail
  if !s.pwr.vreq.getLsbD k || s.pwr.wake.isSome || s.pwr.supply.getLsbD k || s.pwr.stop then s
  else
    let latch := fun (s : State) => modPwr (fun p => { p with supply := p.supply ||| (1#5 <<< k) }) s
    let cut := stopBursts false s
    if k = 0 then
      let t := survivors cut
      latch { t with pwr := { t.pwr with supply := s.pwr.supply, wakeFail := s.pwr.wakeFail } }
    else
      let t :=
        if k = 1 then holdLine cut
        else if k = 2 then forEach cut.carrierNums (fun n s => if (s.carrier n).state = .off then s else turnOff n s) cut
        else if k = 3 then losePipe (abortStaging (fun c => stagedDomain c == 2) cut)
        else loseHbm cut
      let t := notePower s (latch t)
      if s.pwr.asleep then t else raise 0x03 t)

/-- THERMAL_WARN (R352): a die rises above 100 °C or falls below 97 °C. -/
def execThermalWarn (die : Bool) (above : Bool) (s : State) : Host.Outcome State Fault Refusal := .next (
  let bit := 1#2 <<< die.toNat
  let was := s.pwr.warn.getLsbD die.toNat
  let s := modPwr (fun p => { p with warn := if above then p.warn ||| bit else p.warn &&& ~~~bit }) s
  syncWarn (if die && above && !was then holdRising 0x01 s else s))

/-- THERMAL_TRIP (R352): 110 °C held for 100 µs. Every carrier but the time carrier is disabled. -/
def execThermalTrip (lineDie : Bool) (s : State) : Host.Outcome State Fault Refusal := .next (
  if s.pwr.trip.getLsbD lineDie.toNat then s
  else
    let s := raiseOn lineDie 0x02 (modPwr (fun p => { p with trip := p.trip ||| (1#2 <<< lineDie.toNat) }) s)
    forEach (s.carrierNums.filter fun n => s.time.carrier != some n) startDisable s)

/-- THERMAL_TRIP_CLEAR (R352): the hottest sensor is below 110 °C. -/
def execThermalTripClear (s : State) : Host.Outcome State Fault Refusal := .next (modPwr (fun p => { p with trip := 0 }) s)

/-- HARDWARE_STOP (R352): 120 °C. Bursts end with their ramp-downs, every regulator request is withdrawn, and FAULT_N stays
until PORST_N. The always-on domain goes on, and the holdover counter carries line time. -/
def execHardwareStop (s : State) : Host.Outcome State Fault Refusal := .next (
  if s.pwr.stop || s.pwr.porst then s
  else
    let t := survivors (stopBursts true s)
    { t with pwr := { t.pwr with
        stop := true, vreq := 0, supply := s.pwr.supply, wakeFail := s.pwr.wakeFail
        holdTime := lineTime s, holdValid := if s.pwr.asleep then s.pwr.holdValid else Servo.holds s.time.servo } })

/-- The PCIe link's width, rate and state (R2, R180): pcie.link_change is raised when one changes. -/
def setLink (width rate state : Nat) (s : State) : State :=
  let t := { s with dev := { s.dev with linkWidth := width, linkRate := rate, linkState := state } }
  if t.dev = s.dev then s else raise 0x1C t

/-- PCIE_PERST_ASSERT (R351): the link goes down, and the cipher job whose DMA is in flight fails; nothing is reset. -/
def execPciePerstAssert (s : State) : Host.Outcome State Fault Refusal := .next (
  let s := setLink 0 0 0 s
  match s.sec.job with
  | none => s
  | some j => nextJob (sendReply j.hdr 0x0910 { status := .dmaError } (modSec (fun x => { x with job := none }) s)))

/-- PCIE_LINK_CHANGE (R2, R180): width, rate and state codes of Table 0-3; other codes are reserved. -/
def execPcieLinkChange (width rate state : Nat) (s : State) : Host.Outcome State Fault Refusal := .next (
  if (width ≤ 2 ∨ width = 4 ∨ width = 8) ∧ rate ≤ 5 ∧ state ≤ 5 then
    setLink width rate state s
  else s)

end Sys2Proof.Machine
end

