-- ==== Sys2Proof/Machine/Integrity.lean ====
section
/-! DEFINITION. Memory and arithmetic checks (R299 to R303): what the scrubber or an access finds, and what follows by
unit (Table 13-6). Which of several items a bad word held is not in the row; a free draw picks one (log entry 36). -/

namespace Sys2Proof.Machine

/-! ### Logging (R303, R354) -/

/-- Log a finding: on the line die during a split among the held entries, otherwise in the log. -/
def logFinding (f : Finding) (s : State) : State :=
  let line := f.lineDie
  let e : IntegEntry := {
    kind := f.kind, lineDie := line, unit := f.unit, index := f.index
    time := if line then lineTime s else switchTime s, valid := if line then timeValid s else switchValid s }
  if line && s.die.split then
    if 256 ≤ s.evc.heldLog.length then modEvc (fun x => { x with heldLost := x.heldLost + 1 }) s
    else modEvc (fun x => { x with heldLog := x.heldLog ++ [e] }) s
  else pushLog e s

/-- Something happens at most once in a second of R355, under a key. -/
def oncePerSecond (key : Nat) (f : State → State) (s : State) : State :=
  let now := ((secondOf s).1, (secondOf s).2 + 1)
  if Tbl.get (0, 0) s.clk.lastRaise key = now then s
  else f { s with clk := { s.clk with lastRaise := Tbl.set (0, 0) s.clk.lastRaise key now } }

/-- A corrected error (R300, R303): counted, integ.corrected and the log entry at most once a second. -/
def correctedError (f : Finding) (s : State) : State :=
  let s := modEvc (fun x => { x with corrected := satInc 32 x.corrected }) s
  oncePerSecond (1000 + f.unit) (logFinding f) (oncePerSecond 0x10 (raiseOn f.lineDie 0x10) s)

/-! ### Picking the item that was held -/

/-- A free draw below `n`. -/
def pickBelow (n : Nat) (s : State) : Nat × State :=
  let (v, s) := draw s
  (v % max 1 n, s)

/-- A packet that waits in classification is dropped, counted as `f` says (unit 0x0A). -/
def dropWaiting (f : Pkt → State → State) (s : State) : State :=
  let c := s.cls
  let l := c.recUp ++ c.recDown ++ c.missUp.map Miss.pkt ++ c.missDown.map Miss.pkt ++ c.line ++ c.sealQ
  let (k, s) := pickBelow l.length s
  match l[k]? with
  | none => s
  | some p =>
    let no := fun (x : Pkt) => x.id != p.id
    f p (modCls (fun c => { c with
      recUp := c.recUp.filter no, recDown := c.recDown.filter no, missUp := c.missUp.filter fun x => no x.pkt
      missDown := c.missDown.filter fun x => no x.pkt, line := c.line.filter no, sealQ := c.sealQ.filter no }) s)

/-- A frame of the packet buffer (unit 0x01): one in an ingress FIFO or an egress queue is dropped with INTEGRITY, one already
leaving a MAC ends with an inverted FCS as TX_UNDERRUN. -/
def dropFrame (s : State) : State :=
  let inFifo := (s.ports.map fun (x : Nat × Port) => x.2.fifo.map fun p => (x.1, 0, p)).flatten
  let queued := (s.ports.map fun (x : Nat × Port) =>
    (x.2.queues.map fun (y : Nat × List EgFrame) => y.2.map fun g => (x.1, 1 + y.1, g.pkt)).flatten).flatten
  let started := s.ports.filterMap fun (x : Nat × Port) => x.2.started.map fun y => (x.1, 9 + y.1, y.2)
  let l := inFifo ++ queued ++ started
  let (k, s) := pickBelow l.length s
  match l[k]? with
  | none => s
  | some (p, place, x) =>
    if place = 0 then
      fifoChanged p (integrityDrop x (modPort p (fun v => { v with fifo := v.fifo.filter fun y => y.id != x.id }) s))
    else if place ≤ 8 then
      integrityDrop x (modPort p (fun v => { v with
        queues := Tbl.modify [] v.queues (place - 1) fun g => g.filter fun y => y.pkt.id != x.id }) s)
    else
      traceDrop x.trace (frameAborted p (place - 9) x.bytes (fun c => { c with underrun := c.underrun + 1 })
        (modPort p (fun v => { v with started := none }) s))

/-- A cell of a queued packet is bad (unit 0x10): its place in the burst is calm, and the packet's other undrawn cells are
discarded with INTEGRITY. -/
def badCell (s : State) : State :=
  let l := (s.q.tab.map fun (x : Nat × Option Queue) => match x.2 with
    | none => []
    | some v => (v.lists.map fun (y : Nat × List QPkt) => y.2.map fun p => (x.1, y.1, p)).flatten).flatten
  let (k, s) := pickBelow l.length s
  match l[k]? with
  | none => s
  | some (q, c, p) =>
    dropQ p (freeCells p.left (modQ (fun x => { x with nIntegrity := x.nIntegrity + 1 }) (modQueue q (fun v => { v with
      nIntegrity := v.nIntegrity + 1, lists := Tbl.modify [] v.lists c fun t => t.erase p }) s)))

/-- A flow entry or an action set index fails until it is rewritten (units 0x11, 0x12). -/
def breakFlow (s : State) : State :=
  let (k, s) := pickBelow s.cls.flows.length s
  modCls (fun c => { c with flows := c.flows.modify k fun e => { e with broken := true } }) s
def breakAction (s : State) : State :=
  let (k, s) := pickBelow s.cls.actions.length s
  match s.cls.actions[k]? with
  | none => s
  | some (i, _) => modCls (fun c => { c with actions := Tbl.modify {} c.actions i fun r => { r with broken := true } }) s

/-- A policer restarts full or a counter restarts at 0 (unit 0x13): which of the two the index names is a free value. -/
def restartState (i : Nat) (s : State) : State :=
  let (v, s) := draw s
  match v % 2, (Tbl.get none s.q.policers i : Option Policer) with
  | 0, some x => modQ (fun q => { q with
      policers := Tbl.set none q.policers i (some { x with tc := x.p.cbs * 65536, tx := x.p.xbs * 65536, at_ := switchTime s }) }) s
  | _, _ => modCls (fun c => { c with counters := Tbl.set {} c.counters i {} }) s

/-- A wheel placement fails (R157): the item goes into the slot after the current one and is evaluated again there. -/
def misplace (s : State) : State :=
  let l := s.q.fine ++ s.q.coarse
  let (k, s) := pickBelow l.length s
  match l[k]? with
  | none => s
  | some i =>
    let s := unplace i.kind s
    modQ (fun q => { q with fine := q.fine ++ [{ i with slot := 5 * switchTime s / gridFifths + 1 }] }) s

/-- Gate time arithmetic fails (unit 0x23, R161): an event that is due leaves the port's gates as they are; the next one is
recomputed from base and cycle. -/
def skipGate (p : Nat) (s : State) : State :=
  match (s.port p).gate with
  | none => s
  | some r => if switchValid s && wheelTurn (.gate p) s then placeItem (.gate p) (nextGate r.list (switchTime s)) s else s

/-- A tick's line-time update fails (unit 0x24): recomputed on the next tick, so no time is lost; the second failure in a row
marks line time invalid and puts the servo in FREE. -/
def timeMismatch (s : State) : State :=
  match s.time.mismatch with
  | some t =>
    if s.clk.now ≤ t + tick then enterFree { s with time := { s.time with mismatch := none } }
    else { s with time := { s.time with mismatch := some s.clk.now } }
  | none => { s with time := { s.time with mismatch := some s.clk.now } }

/-- Ranging arithmetic fails (unit 0x25): a held grant's emission instant, and the grant is dropped and counted; or an EqD or
RTT, refused with reg.range_invalid. -/
def rangingMismatch (n : Nat) (s : State) : State :=
  let (v, s) := draw s
  match (s.carrier n).held with
  | g :: t =>
    if v % 2 = 0 then leaveDark n g (modCarrier n (fun c => { c with held := t }) s) else rangeInvalid s
  | [] => rangeInvalid s

/-- An engine's arithmetic fails (unit 0x26): a run of the engine ends with INTEGRITY (R279). -/
def engineMismatch (e : Nat) (s : State) : State :=
  let l := ((List.range 8).map fun c => e * 8 + c).filter fun k => (s.ctx k).isSome
  let (k, s) := pickBelow l.length s
  match l[k]? with
  | none => s
  | some c => match s.ctx c with
    | none => s
    | some r => runException c 7 r.pc r.issued r s

/-- A line or control engine restarts (units 0x05, 0x06). A command that a control engine held and had not started replies
NOT_READY; whether it held one is a free value. -/
def engineRestarts (line : Bool) (e : Nat) (s : State) : State :=
  let s := raiseOn line 0x05 (modEng (fun x => { x with out := x.out ++ [firmwareEngine (!line) e] }) s)
  if line then s
  else
    let (v, s) := draw s
    match v % 2, s.cmd.wait with
    | 1, (h, c) :: t => sendReply h (Cmd.opcode c) { status := .notReady } (modCmd (fun x => { x with wait := t }) s)
    | _, _ => s

/-- The outcome of an uncorrectable error or a residue mismatch (Table 13-6). -/
def unitOutcome (f : Finding) (s : State) : State :=
  let i := f.index
  match f.unit with
  | 0x01 => dropFrame s
  | 0x03 => modCls (fun c => { c with tern := c.tern.map fun e => if e.index = i then { e with broken := true } else e }) s
  | 0x04 => if i < 128 then engineFault i s else s
  | 0x05 => if i < 48 then engineRestarts true i s else s
  | 0x06 => if i < 16 then engineRestarts false i s else s
  | 0x08 => if s.pwr.asleep ∧ i < 16 then modPwr (fun p => { p with ruined := p.ruined ||| (1#16 <<< i) }) s else s
  | 0x09 => loseKeys i s
  | 0x0A => dropWaiting integrityDrop s
  | 0x10 => badCell s
  | 0x11 => breakFlow s
  | 0x12 => breakAction s
  | 0x13 => restartState i s
  | 0x14 => integrityFlush i s
  | 0x20 => modPmc (fun p => { p with residue := true }) s
  | 0x21 => modCls (fun c => { c with residueNext := true }) s
  | 0x22 => misplace s
  | 0x23 => skipGate i s
  | 0x24 => timeMismatch s
  | 0x25 => rangingMismatch i s
  | 0x26 => if i < 128 then engineMismatch i s else s
  | _ => s

/-- The COMMITTED groups whose shadow state a word may belong to: not yet checked, with something staged. -/
def shadowGroups (s : State) : List Nat :=
  (groupsIn .committed s).filter fun g => !(s.grp g).checked && !(s.grp g).changes.isEmpty

/-- The word may belong to the shadow state of a COMMITTED group, which then aborts at its check (R265, R303); otherwise the
unit's outcome follows. -/
def placeError (f : Finding) (s : State) : State :=
  match shadowGroups s with
  | [] => unitOutcome f s
  | l =>
    let (v, s) := draw s
    if v % 2 = 0 then unitOutcome f s
    else
      let (k, s) := pickBelow l.length s
      match l[k]? with
      | none => s
      | some g =>
        let (j, s) := pickBelow (s.grp g).changes.length s
        modGrp g (fun v => { v with shadowBad := some (v.shadowBad.getD j) }) s

/-- SCRUB (R300 to R303): kinds of EVC_INTEG_POP, 1 and 3 corrected, 2 and 4 uncorrectable, 5 residue. -/
def execScrub (f : Finding) (s : State) : Host.Outcome State Fault Refusal := .next (
  if f.kind = 1 ∨ f.kind = 3 then correctedError f s
  else if f.kind = 2 ∨ f.kind = 4 then placeError f (logFinding f (raiseOn f.lineDie 0x11 s))
  else if f.kind = 5 then placeError f (logFinding f (raiseOn f.lineDie 0x12 s))
  else s)

end Sys2Proof.Machine
end

