-- ==== Sys2Proof/Machine/Channel.lean ====
section
/-! DEFINITION. The command channel (chapter 11): what each command runs, the order in which a transport's commands
start, packets over the three transports, and register writes that have no row of their own (R8). -/

namespace Sys2Proof.Machine

/-! ### What a command runs (R256) -/

/-- A command that may delete what a COMMITTED group changes (R266): those groups abort. -/
def dropping (b : Body) : Body := fun s =>
  let (a, s) := b s
  (a, abortChanged s)

/-- The body of a command (Table 11-5). -/
def bodyOf (h : Hdr) (c : Cmd) : Body :=
  match c with
  | .timeStatus => doTimeStatus
  | .timeCapture input max => doTimeCapture input max
  | .timeCaptureConfig input enable falling => doTimeCaptureConfig input enable falling
  | .timeOutputSet p => doTimeOutputSet p
  | .timeSplitSet alpha => doTimeSplitSet alpha
  | .timeAsymmetrySet a clear => doTimeAsymmetrySet a clear
  | .timeHoldoverSet y d limit squelch => doTimeHoldoverSet y d limit squelch
  | .timePtpSet port enable domain alt two => doTimePtpSet port enable domain alt two
  | .timeSynceSet port enable qt qh => doTimeSynceSet port enable qt qh
  | .timeCarrierSet carrier => doTimeCarrierSet carrier
  | .carrierConfig n p => doCarrierConfig n p
  | .carrierEnable n => doCarrierEnable n
  | .carrierDisable n => doCarrierDisable n
  | .carrierStatus n => doCarrierStatus n
  | .carrierGateSet n p => doCarrierGateSet n p
  | .carrierGateCeiling n ceil => doCarrierGateCeiling n ceil
  | .carrierFeLoad n script => doCarrierFeLoad n script
  | .carrierFeAccess n t => doCarrierFeAccess n t
  | .carrierMonitor n => doCarrierMonitor n
  | .carrierHintClear n => doCarrierHintClear n
  | .regEnable => doRegEnable
  | .regDisable => doRegDisable
  | .regStatus => doRegStatus
  | .regConfig carrier t => doRegConfig carrier t
  | .regHeadlistSet heads => doRegHeadlistSet heads
  | .regEpochReset => doRegEpochReset
  | .grantStats n => doGrantStats n
  | .forecastConfig n a b => doForecastConfig n a b
  | .forecastRead n => doForecastRead n
  | .frameStatus n => doFrameStatus n
  | .cellStats n => doCellStats n
  | .cellGroupsSet bitmap => doCellGroupsSet bitmap
  | .mchConfig ch enable carrier rate => doMchConfig ch enable carrier rate
  | .mchStats ch => doMchStats ch
  | .tribPageWrite first entries => doTribPageWrite first entries
  | .tribPageSwap instant fence => doTribPageSwap instant fence
  | .tribPageRead active => doTribPageRead active
  | .tribStatus => doTribStatus
  | .flowInsert e key => doFlowInsert e key
  | .flowModify profile key e => doFlowModify profile key e
  | .flowDelete profile key => doFlowDelete profile key
  | .flowLookup profile key => doFlowLookup profile key
  | .flowActionWrite idx acts => doFlowActionWrite idx acts
  | .ternaryWrite idx e value mask => doTernaryWrite idx e value mask
  | .ternaryDelete idx => doTernaryDelete idx
  | .parseNodeSet node d => doParseNodeSet node d
  | .classProfileSet profile exact ternary => doClassProfileSet profile exact ternary
  | .classDefaultSet port set profile => doClassDefaultSet port set profile
  | .classStatus => doClassStatus
  | .flowScan first count => doFlowScan first count
  | .queueCreate q assoc cls group p => doQueueCreate q assoc cls group p
  | .queueDelete q => dropping (doQueueDelete q)
  | .queueSet q p => doQueueSet q p
  | .queueStatus q => doQueueStatus q
  | .queueFlush q => doQueueFlush q
  | .schedNodeSet assoc cls weight shaper expedite => doSchedNodeSet assoc cls weight shaper expedite
  | .egressConfig port queues shaper => doEgressConfig port queues shaper
  | .policerSet idx p refill => doPolicerSet idx p refill
  | .policerRead idx clear => doPolicerRead idx clear
  | .gateListSet port g => doGateListSet port g
  | .gateStatus port => doGateStatus port
  | .barometerWatch slot p => doBarometerWatch slot p
  | .barometerRead slot clear => doBarometerRead slot clear
  | .storeStatus => doStoreStatus
  | .laneConfig lane txInv rxInv preset => doLaneConfig lane txInv rxInv preset
  | .laneRefclkSet t => doLaneRefclkSet t
  | .laneStatus lane => doLaneStatus lane
  | .laneMonitorSet lane m => doLaneMonitorSet lane m
  | .lanePatternRead lane clear => doLanePatternRead lane clear
  | .dieStatus => doDieStatus
  | .dieRetrain widen => doDieRetrain h widen
  | .portConfig port p => dropping (doPortConfig port p)
  | .portStatus port => doPortStatus port
  | .portFilterSet port p => doPortFilterSet port p
  | .portPauseSet port p => doPortPauseSet port p
  | .portTsConfig port rx tx => doPortTsConfig port rx tx
  | .portTsRead port max => doPortTsRead port max
  | .portLpiSet port enable idleHold rxTw => doPortLpiSet port enable idleHold rxTw
  | .portSleep port sleep wakeOnTx => doPortSleep port sleep wakeOnTx
  | .statsSnapshot instant ports => doStatsSnapshot instant ports
  | .statsRead buffer release => doStatsRead buffer release
  | .portStatsRead port clear => doPortStatsRead port clear
  | .secStatus => doSecStatus
  | .secIdentity => doSecIdentity
  | .secChallenge => doSecChallenge
  | .secOwnerEnrol challenge digest ec mldsa => doSecOwnerEnrol challenge digest ec mldsa
  | .secAssocCreate idx p => doSecAssocCreate h idx p
  | .secAssocRekey idx => doSecAssocRekey h idx 0 0
  | .secAssocDelete idx => dropping (doSecAssocDelete idx)
  | .secAssocStatus idx => doSecAssocStatus idx
  | .secAssocConfig idx threshold hold => doSecAssocConfig idx threshold hold
  | .secAssocResume idx => doSecAssocResume idx
  | .secSidechannelSet dmax => doSecSidechannelSet dmax
  | .secDebugUnlock => doSecDebugUnlock
  | .secCompatSet enable => doSecCompatSet enable
  | .cipherJob isSeal idx _ len urgent => doCipherJob h isSeal idx len urgent
  | .deviceInfo => doDeviceInfo
  | .deviceStatus => doDeviceStatus
  | .deviceReset k => doDeviceReset k
  | .deviceFwLoad offset len last => doDeviceFwLoad offset len last
  | .devicePing bytes => doDevicePing bytes
  | .commitOpen timeout => doCommitOpen h timeout
  | .commitApply g instant => doCommitApply h g instant
  | .commitAbort g => doCommitAbort h g
  | .commitStatus g => doCommitStatus g
  | .powerStatus => doPowerStatus
  | .powerVote word => doPowerVote word
  | .powerSchedule target instant carriers wakeAt => doPowerSchedule target instant carriers wakeAt
  | .powerRetentionStatus => doPowerRetentionStatus
  | .engineProgramLoad img limit => doEngineProgramLoad img limit
  | .engineProgramUnload prog => doEngineProgramUnload prog
  | .engineStatus => doEngineStatus
  | .engineExceptionRead down max => doEngineExceptionRead down max
  | .pmcConfig n evsel filt ranges => doPmcConfig n evsel filt ranges
  | .sampleConfig p => doSampleConfig p
  | .traceConfig p => doTraceConfig p
  | .traceRead sel max => doTraceRead sel max

/-- The association whose key agreement a command starts (R249). -/
def agreementOf (c : Cmd) : Option Nat :=
  match c with
  | .secAssocCreate i p => if p.initiate then some i else none
  | .secAssocRekey i => some i
  | _ => none

/-- The association index that a command names (R249). -/
def namesAssoc (c : Cmd) : Option Nat :=
  match c with
  | .secAssocCreate i _ => some i
  | .secAssocRekey i => some i
  | .secAssocDelete i => some i
  | .secAssocStatus i => some i
  | .secAssocConfig i _ _ => some i
  | .secAssocResume i => some i
  | .cipherJob _ i _ _ _ => some i
  | .queueCreate _ i _ _ _ => some i
  | .schedNodeSet i _ _ _ _ => some i
  | _ => none

/-! ### Starting commands (R247, R249) -/

/-- A command is taken from its transport: IN_FLIGHT or CMD_READY, and its SEQ among the last 64 (R249, R250, R254). -/
def takeUp (h : Hdr) (s : State) : State :=
  let s := match h.transport with
    | .ring => modCmd (fun c => { c with inFlight := c.inFlight + 1 }) s
    | .spi => modCmd (fun c => { c with spiBusy := true }) s
    | .inband _ => s
  match replayKey h.transport with
  | none => s
  | some k => modCmd (fun c => { c with
      replay := Tbl.set [] c.replay k (((h.seq, none) :: (Tbl.get [] c.replay k : List (BitVec 24 × Option Reply))).take 64) }) s

/-- A command has started and its reply comes later; a key agreement lets the next command in (R249). -/
def keepOpen (h : Hdr) (c : Cmd) (s : State) : State :=
  modCmd (fun x => { x with
    open_ := x.open_ ++ [(h, agreementOf c)]
    spiBusy := x.spiBusy && !(h.transport == .spi && (agreementOf c).isSome) }) s

/-- A command starts and takes effect whole (R247, R249, R260): the checks on the terminal and on the token, then its body,
or its staging. -/
def run (h : Hdr) (c : Cmd) (s : State) : State :=
  let o := Cmd.opcode c
  if notReady o s then sendReply h o { status := .notReady } s
  else match secCheck h o s with
    | (some st, s) => sendReply h o { status := st } s
    | (none, s) =>
      match (if h.group = 0 then bodyOf h c s else stageCmd h c h.len s) with
      | (some a, s) => sendReply h o a s
      | (none, s) => keepOpen h c s

/-- A Palgil command starts, its header having passed R247. -/
def command (h : Hdr) (c : Cmd) (s : State) : State := run h c (takeUp h s)

/-- A command waits for those before it on its transport (R249): the waiting ones `before` it, and the started ones, of
which a key agreement holds back only commands on its association. -/
def blocked (h : Hdr) (c : Cmd) (before : List (Hdr × Cmd)) (s : State) : Bool :=
  before.any (fun x => x.1.transport == h.transport) ||
    s.cmd.open_.any fun x => x.1.transport == h.transport &&
      match x.2 with
      | none => true
      | some i => namesAssoc c == some i

/-- A command taken from its transport starts, or waits (R249). -/
def startOrWait (h : Hdr) (c : Cmd) (s : State) : State :=
  if blocked h c s.cmd.wait s then modCmd (fun x => { x with wait := x.wait ++ [(h, c)] }) s else run h c s

/-- The first waiting command that may start. -/
def firstStartable (s : State) : List (Hdr × Cmd) → List (Hdr × Cmd) → Option (Hdr × Cmd)
  | _, [] => none
  | before, x :: l => if blocked x.1 x.2 before s then firstStartable s (before ++ [x]) l else some x

/-- Start the first waiting command that may start; none in DOLDRUMS. -/
def startWaiting (s : State) : State :=
  if s.pwr.asleep then s
  else match firstStartable s [] s.cmd.wait with
    | none => s
    | some x => run x.1 x.2 (modCmd (fun c => { c with wait := c.wait.erase x }) s)

/-! ### Packets (R247, R249, R251, R254, R255) -/

/-- An opcode of Table 11-5. -/
def opcodeKnown (o : Nat) : Bool :=
  decide ((0x0101 ≤ o ∧ o ≤ 0x0105) ∨ o = 0x0120 ∨ o = 0x0121 ∨ (0x0201 ≤ o ∧ o ≤ 0x020A) ∨ (0x0301 ≤ o ∧ o ≤ 0x030A) ∨
    (0x0401 ≤ o ∧ o ≤ 0x0409) ∨ (0x0501 ≤ o ∧ o ≤ 0x0509) ∨ (0x0601 ≤ o ∧ o ≤ 0x060C) ∨ (0x0701 ≤ o ∧ o ≤ 0x070E) ∨
    (0x0801 ≤ o ∧ o ≤ 0x0810) ∨ (0x0901 ≤ o ∧ o ≤ 0x090D) ∨ o = 0x0910 ∨ (0x0A01 ≤ o ∧ o ≤ 0x0A04) ∨
    (0x0B01 ≤ o ∧ o ≤ 0x0B04) ∨ (0x0C01 ≤ o ∧ o ≤ 0x0C04) ∨ (0x0D01 ≤ o ∧ o ≤ 0x0D04))

/-- The header checks in the order of R247; `fits`: PARAM_LEN agrees with the transport and the descriptor. -/
def headerCheck (p : Packet) (fits : Bool) : Option Status :=
  if p.magic ≠ 0x5047 then some .headerInvalid
  else if p.version ≠ 1 then some .versionUnsupported
  else if p.flags.toNat / 32 ≠ 0 then some .headerInvalid
  else if 4194304 < p.paramLen ∨ !fits then some .paramLength
  else if !opcodeKnown p.opcode then some .opcodeUnknown
  else none

/-- The header a packet carries on a transport; the token only under the TOKEN flag. -/
def hdrOf (t : Transport) (p : Packet) : Hdr :=
  { transport := t, tag := p.tag, seq := p.seq, group := p.group, len := p.paramLen
    token := if p.flags.getLsbD 1 then p.token else none }

/-- A packet that fails before it is taken is answered, its SEQ not remembered. -/
def refusePacket (h : Hdr) (o : Nat) (st : Status) (s : State) : State :=
  answer false h o { status := st } (match h.transport with
    | .ring => modCmd (fun c => { c with inFlight := c.inFlight + 1 }) s
    | _ => s)

/-- The command that a packet's parameters spell: one of its opcode, before the 7,500-byte token where it carries one (R247). -/
def Packet.command (p : Packet) : Option Cmd :=
  if p.flags.getLsbD 1 && decide (p.paramLen < 7500) then none
  else p.cmd.filter fun c => Cmd.opcode c == p.opcode

/-- A packet that has passed the header checks: a repeated SEQ gets the stored reply again (R249); parameters that fit
no command of its opcode fail with PARAM_LENGTH; the others are taken. -/
def takePacket (h : Hdr) (p : Packet) (s : State) : State :=
  let stored := match replayKey h.transport with
    | none => none
    | some k => (Tbl.get [] s.cmd.replay k : List (BitVec 24 × Option Reply)).find?
        fun (x : BitVec 24 × Option Reply) => x.1 == p.seq
  match stored with
  | some (_, some r) => deliver h { r with replayed := true } s
  | some (_, none) => s
  | none =>
    match Packet.command p with
    | none => sendReply h p.opcode { status := .paramLength } (takeUp h s)
    | some c => startOrWait h c (takeUp h s)

/-- A packet arrives on a transport (R247). -/
def packet (h : Hdr) (p : Packet) (fits : Bool) (s : State) : State :=
  match headerCheck p fits with
  | some st => refusePacket h p.opcode st s
  | none => takePacket h p s

/-- RING_SUBMISSION_FETCH (R251, R253): the next entry and its packet; a completion error fails it with DMA_ERROR. -/
def execRingSubmissionFetch (e : SubEntry) (p : Packet) (dmaError : Bool) (s : State) : Host.Outcome State Fault Refusal :=
  .next (
    if !mayFetch s then s
    else
      let s := modCmd (fun c => { c with sqHead := (c.sqHead + 1) % 2 ^ c.sqLog }) s
      let h := { hdrOf .ring p with cap := some e.rplCap }
      if dmaError then refusePacket h p.opcode .dmaError s
      else packet h p (decide (e.cmdLen = 16 + p.paramLen)) s)

/-- CMD_READY of the SPI slave (R254): it answers from the start of the boot ROM, one command at a time. -/
def cmdReady (s : State) : Bool := !s.cmd.spiBusy && !s.pwr.asleep && (s.dev.booting || s.cmd.ready)

/-- WRITE_CMD (R254, R327): ignored and counted while CMD_READY is 0; in DOLDRUMS it wakes the terminal where the SPI
source is enabled. -/
def execWriteCmd (p : Packet) (s : State) : Host.Outcome State Fault Refusal := .next (
  if !cmdReady s then wakeBy 3 (modCmd (fun c => { c with spiIgnored := c.spiIgnored + 1 }) s)
  else packet (hdrOf .spi p) p (decide (16 + p.paramLen ≤ 65536)) s)

/-- READ_REPLY (R254): the oldest reply that waits. -/
def execReadReply (s : State) : Host.Outcome State Fault Refusal := .next (
  if s.pwr.asleep then s
  else match s.cmd.spiReply with
    | [] => s
    | r :: l => emit (.reply r) (modCmd (fun c => { c with spiReply := l }) s))

/-- READ_STATUS (R254): CMD_READY, REPLY_READY, BOOT. -/
def execReadStatus (s : State) : Host.Outcome State Fault Refusal := .next (
  emit (.status (BitVec.ofNat 8 ((cmdReady s).toNat + 2 * (!s.cmd.spiReply.isEmpty).toNat + 4 * s.dev.booting.toNat))) s)

/-- INBAND_COMMAND_FRAME (R255): on a port that is UP with in-band commands enabled. -/
def execInbandCommandFrame (port : Nat) (f : InbandReq) (p : Packet) (s : State) : Host.Outcome State Fault Refusal := .next (
  let v := s.port port
  if s.pwr.asleep || !v.up || !(v.cfg.map (·.inband)).getD false then s
  else
    let h := { hdrOf (.inband port) p with src := f.src, dst := f.dst, vlan := f.vlan }
    packet h p (decide (16 + p.paramLen ≤ f.bytes)) s)

/-! ### Registers without a row of their own (R8) -/

/-- The row of a register offset that has one, or the plain write of its fields. In DOLDRUMS only the doorbell, the reply
head and the always-on registers act (R327). -/
def putRegister (o : Nat) (v : Word) (s : State) : Host.Outcome State Fault Refusal :=
  if o = 0x100C then execCmdSqTailWrite v s
  else if o = 0x102C then execCmdRqHeadWrite v s
  else if o = 0x7010 then execAonVoteHostWrite v s
  else if o = 0x7044 then execAonWakeReq v s
  else if 0x7000 ≤ o ∧ o < 0x8000 then .next (aonWrite o v s)
  else if s.pwr.asleep then .next s
  else if o = 0x1040 then execCmdCtrlEnWrite v s
  else if 0x1000 ≤ o ∧ o < 0x2000 then .next (ringWrite o v s)
  else if 0x2000 ≤ o ∧ o < 0x2020 then execEvcPendingWrite ((o - 0x2000) / 4) v s
  else if 0x2020 ≤ o ∧ o < 0x2040 then execEvcMaskWrite ((o - 0x2020) / 4) v s
  else if 0x2200 ≤ o ∧ o < 0x2300 ∧ o % 0x40 = 8 then execEvcComplete ((o - 0x2200) / 0x40) v s
  else if o = 0x2300 then execEvcTrigger v s
  else if o = 0x2304 then execEvcDiscard v s
  else if 0x2000 ≤ o ∧ o < 0x4000 then .next (evcWrite o v s)
  else if 0x4000 ≤ o ∧ o < 0x4100 then .next (tpReg ((o - 0x4000) / 4) v s)
  else if o = 0x5000 then execPmcFreezeWrite v s
  else if 0x5800 ≤ o ∧ o < 0x5A00 then execPmcCntWrite ((o - 0x5800) / 8) (o % 8 == 4) v s
  else if 0x5000 ≤ o ∧ o < 0x6000 then .next (pmcWrite o v s)
  else .next s

/-- REGISTER_WRITE (R8): whole aligned words of BAR0 (R7). -/
def execRegisterWrite (o : Nat) (v : Word) (s : State) : Host.Outcome State Fault Refusal :=
  if 0x10000 ≤ o then .fault (.outsideBar o)
  else if o % 4 ≠ 0 then .fault (.unalignedRegister o)
  else putRegister o v s

/-- What a register reads without changing anything (R8, R327); the reads that change something have rows of their own. -/
def readRegister (o : Nat) (s : State) : Word :=
  if o = 0x0000 then BitVec.ofNat 32 (devId s)
  else if o = 0x0004 then BitVec.ofNat 32 (devRev s)
  else if o = 0x0008 then BitVec.ofNat 32 (devStatus s)
  else if 0x7000 ≤ o ∧ o < 0x8000 then aonRead o s
  else if s.pwr.asleep then 0
  else if 0x1000 ≤ o ∧ o < 0x2000 then ringRead o s
  else if 0x2000 ≤ o ∧ o < 0x4000 then evcRead o s
  else if 0x4000 ≤ o ∧ o < 0x4100 then tpRead ((o - 0x4000) / 4) s.tio.mirror s
  else if 0x5000 ≤ o ∧ o < 0x6000 then pmcRead o s
  else 0

end Sys2Proof.Machine
end

