-- ==== Sys2Proof/Machine/Tick.lean ====
section
/-! DEFINITION. One tick of the terminal's clocks (log entry 10): what happens when no command is waiting. -/

namespace Sys2Proof.Machine

/-- EVC_TOP shows the selected source one tick later (R293). -/
def showTop (t : Nat) (s : State) : State := modTarget t (fun g => { g with shown := s.evc.select t }) s

/-- Every target's choice is shown; a target with nothing left becomes inactive (R293, R296). -/
def evcTick (s : State) : State := quietAll (showTop 3 (showTop 2 (showTop 1 (showTop 0 s))))

/-- A tick of 1.25 ns (R9, R25, R307): the clocks advance; in DOLDRUMS a wake step runs again. Outside it frames end on the
client ports, the counters count, the event controller selects, a cipher job on cluster 19 ends and a waiting command starts. -/
def idle (s : State) : State :=
  let s := tickTime s
  if s.pwr.asleep then wakeTick s
  else startWaiting (finishJob (evcTick (pmcTick (forEach (Tbl.keys s.ports) portTick s))))

end Sys2Proof.Machine
end

