-- ==== Sys2Proof/Machine/Commands.lean ====
section
/-! DEFINITION. The meanings of the Palgil commands (Table 11-5), one for each row: the command starts, its header having
passed R247, does what its body says and answers (R247 to R260). -/

namespace Sys2Proof.Machine

/-- TIME_STATUS: Command 0x0201 returns servo mode, validity, delays, asymmetry, split and time carrier (R49). -/
def execTimeStatus (h : Hdr) (s : State) : Host.Outcome State Fault Refusal := .next (command h .timeStatus s)

/-- TIME_CAPTURE: Command 0x0202 pops up to the requested number of entries from a capture FIFO, with GAP, VALID and
LOST (R44). -/
def execTimeCapture (h : Hdr) (input : Nat) (max : Nat) (s : State) : Host.Outcome State Fault Refusal :=
  .next (command h (.timeCapture input max) s)

/-- TIME_CAPTURE_CONFIG: Command 0x0203 enables a capture input and selects its edge (R44). -/
def execTimeCaptureConfig (h : Hdr) (input : Nat) (enable : Bool) (falling : Bool) (s : State) : Host.Outcome State Fault Refusal :=
  .next (command h (.timeCaptureConfig input enable falling) s)

/-- TIME_OUTPUT_SET: Command 0x0204 sets a time output's registers and the PPS_IN threshold; the change takes effect at
the next line-time second (R40). -/
def execTimeOutputSet (h : Hdr) (p : OutputParams) (s : State) : Host.Outcome State Fault Refusal :=
  .next (command h (.timeOutputSet p) s)

/-- TIME_SPLIT_SET: Command 0x0205 sets alpha within 0x4000 to 0xC000, and the change of d_down is applied under R29
(R30). -/
def execTimeSplitSet (h : Hdr) (alpha : Nat) (s : State) : Host.Outcome State Fault Refusal :=
  .next (command h (.timeSplitSet alpha) s)

/-- TIME_ASYMMETRY_SET: Command 0x0206 sets or clears the host asymmetry override, and the change of d_down is applied
under R29 (R30). -/
def execTimeAsymmetrySet (h : Hdr) (a : Int) (clear : Bool) (s : State) : Host.Outcome State Fault Refusal :=
  .next (command h (.timeAsymmetrySet a clear) s)

/-- TIME_HOLDOVER_SET: Command 0x0207 sets y, D, the holdover limit and squelch; a new limit takes effect at once
against E(t) (R34). -/
def execTimeHoldoverSet (h : Hdr) (y : Nat) (d : Nat) (limit : Nat) (squelch : Bool) (s : State) : Host.Outcome State Fault Refusal :=
  .next (command h (.timeHoldoverSet y d limit squelch) s)

/-- TIME_PTP_SET: Command 0x0208 enables or configures the PTP grandmaster service on a client port (R42). -/
def execTimePtpSet (h : Hdr) (port : Nat) (enable : Bool) (domain : Nat) (altAddr : Bool) (twoStep : Bool) (s : State) : Host.Outcome State Fault Refusal :=
  .next (command h (.timePtpSet port enable domain altAddr twoStep) s)

/-- TIME_SYNCE_SET: Command 0x0209 configures SyncE and the QL values of a port (R49). -/
def execTimeSynceSet (h : Hdr) (port : Nat) (enable : Bool) (qlTrack : Nat) (qlHold : Nat) (s : State) : Host.Outcome State Fault Refusal :=
  .next (command h (.timeSynceSet port enable qlTrack qlHold) s)

/-- TIME_CARRIER_SET: Command 0x020A names the time carrier, or restores the default choice (R27). -/
def execTimeCarrierSet (h : Hdr) (carrier : Option Nat) (s : State) : Host.Outcome State Fault Refusal :=
  .next (command h (.timeCarrierSet carrier) s)

/-- CARRIER_CONFIG: Command 0x0301 sets band, slot, profile, front-end delays and thresholds; a slot or profile change
needs OFF unless staged (R73). -/
def execCarrierConfig (h : Hdr) (n : Nat) (p : CarrierParams) (s : State) : Host.Outcome State Fault Refusal :=
  .next (command h (.carrierConfig n p) s)

/-- CARRIER_ENABLE: Command 0x0302 starts TUNE on an OFF carrier, or runs the gate self-test to clear an inhibit (R67).
-/
def execCarrierEnable (h : Hdr) (n : Nat) (s : State) : Host.Outcome State Fault Refusal :=
  .next (command h (.carrierEnable n) s)

/-- CARRIER_DISABLE: Command 0x0303 finishes the burst in flight, drops held grants, turns the front end off and enters
OFF (R72). -/
def execCarrierDisable (h : Hdr) (n : Nat) (s : State) : Host.Outcome State Fault Refusal :=
  .next (command h (.carrierDisable n) s)

/-- CARRIER_STATUS: Command 0x0304 returns a carrier's state, slot, profile, hint, faults and counts (R75). -/
def execCarrierStatus (h : Hdr) (n : Nat) (s : State) : Host.Outcome State Fault Refusal :=
  .next (command h (.carrierStatus n) s)

/-- CARRIER_GATE_SET: Command 0x0305 sets the gate-drive parameters other than GATE_CEIL, from the first window at least
1 us later (R65). -/
def execCarrierGateSet (h : Hdr) (n : Nat) (p : GateParams) (s : State) : Host.Outcome State Fault Refusal :=
  .next (command h (.carrierGateSet n p) s)

/-- CARRIER_GATE_CEILING: Command 0x0306 sets GATE_CEIL under an owner token while the carrier is OFF (R66). -/
def execCarrierGateCeiling (h : Hdr) (n : Nat) (ceil : Nat) (s : State) : Host.Outcome State Fault Refusal :=
  .next (command h (.carrierGateCeiling n ceil) s)

/-- CARRIER_FE_LOAD: Command 0x0307 loads the front-end script and its allow-list (R71). -/
def execCarrierFeLoad (h : Hdr) (n : Nat) (script : FeScript) (s : State) : Host.Outcome State Fault Refusal :=
  .next (command h (.carrierFeLoad n script) s)

/-- CARRIER_FE_ACCESS: Command 0x0308 makes a raw front-end transfer within the allow-list while the carrier is OFF
(R71). -/
def execCarrierFeAccess (h : Hdr) (n : Nat) (t : FeTransfer) (s : State) : Host.Outcome State Fault Refusal :=
  .next (command h (.carrierFeAccess n t) s)

/-- CARRIER_MONITOR: Command 0x0309 returns the one-second monitor values of a carrier (R74). -/
def execCarrierMonitor (h : Hdr) (n : Nat) (s : State) : Host.Outcome State Fault Refusal :=
  .next (command h (.carrierMonitor n) s)

/-- CARRIER_HINT_CLEAR: Command 0x030A discards a carrier's dispersion hint (R59). -/
def execCarrierHintClear (h : Hdr) (n : Nat) (s : State) : Host.Outcome State Fault Refusal :=
  .next (command h (.carrierHintClear n) s)

/-- REG_ENABLE: Command 0x0401 moves registration from OFF to LISTEN, or fails if the head list is empty (R95). -/
def execRegEnable (h : Hdr) (s : State) : Host.Outcome State Fault Refusal := .next (command h .regEnable s)

/-- REG_DISABLE: Command 0x0402 finishes the burst in flight, discards held grants and enters OFF (R78). -/
def execRegDisable (h : Hdr) (s : State) : Host.Outcome State Fault Refusal := .next (command h .regDisable s)

/-- REG_STATUS: Command 0x0403 returns the registration state, number, epochs and per-carrier ranging (R99). -/
def execRegStatus (h : Hdr) (s : State) : Host.Outcome State Fault Refusal := .next (command h .regStatus s)

/-- REG_CONFIG: Command 0x0404 sets the registration carrier and T_RESUME (R83). -/
def execRegConfig (h : Hdr) (carrier : Option Nat) (tResume : Nat) (s : State) : Host.Outcome State Fault Refusal :=
  .next (command h (.regConfig carrier tResume) s)

/-- REG_HEADLIST_SET: Command 0x0405 sets the owner-enrolled head list under an owner token (R95). -/
def execRegHeadlistSet (h : Hdr) (heads : List Head) (s : State) : Host.Outcome State Fault Refusal :=
  .next (command h (.regHeadlistSet heads) s)

/-- REG_EPOCH_RESET: Command 0x0406 sets E_max to 0 under an owner token, only in OFF (R97). -/
def execRegEpochReset (h : Hdr) (s : State) : Host.Outcome State Fault Refusal := .next (command h .regEpochReset s)

/-- GRANT_STATS: Command 0x0407 returns a carrier's grant counts and standing grants (R99). -/
def execGrantStats (h : Hdr) (n : Nat) (s : State) : Host.Outcome State Fault Refusal := .next (command h (.grantStats n) s)

/-- FORECAST_CONFIG: Command 0x0408 sets the forecast gains a and b of a carrier (R93). -/
def execForecastConfig (h : Hdr) (n : Nat) (a : Nat) (b : Nat) (s : State) : Host.Outcome State Fault Refusal :=
  .next (command h (.forecastConfig n a b) s)

/-- FORECAST_READ: Command 0x0409 returns the last forecast report sent on a carrier (R99). -/
def execForecastRead (h : Hdr) (n : Nat) (s : State) : Host.Outcome State Fault Refusal :=
  .next (command h (.forecastRead n) s)

/-- FRAME_STATUS: Command 0x0501 returns a carrier's lock state and overhead and superframe counts (R119). -/
def execFrameStatus (h : Hdr) (n : Nat) (s : State) : Host.Outcome State Fault Refusal :=
  .next (command h (.frameStatus n) s)

/-- CELL_STATS: Command 0x0502 returns a carrier's cell and reassembly discard counts (R119). -/
def execCellStats (h : Hdr) (n : Nat) (s : State) : Host.Outcome State Fault Refusal := .next (command h (.cellStats n) s)

/-- CELL_GROUPS_SET: Command 0x0503 sets the bitmap of groups the terminal has joined (R109). -/
def execCellGroupsSet (h : Hdr) (bitmap : BitVec 64) (s : State) : Host.Outcome State Fault Refusal :=
  .next (command h (.cellGroupsSet bitmap) s)

/-- MCH_CONFIG: Command 0x0504 binds a management channel to a carrier and sets its clock (R114). -/
def execMchConfig (h : Hdr) (ch : Nat) (enable : Bool) (carrier : Nat) (rate : Nat) (s : State) : Host.Outcome State Fault Refusal :=
  .next (command h (.mchConfig ch enable carrier rate) s)

/-- MCH_STATS: Command 0x0505 returns a management channel's frame counts and discards (R119). -/
def execMchStats (h : Hdr) (ch : Nat) (s : State) : Host.Outcome State Fault Refusal := .next (command h (.mchStats ch) s)

/-- TRIB_PAGE_WRITE: Command 0x0506 writes entries of the standby tributary page (R116). -/
def execTribPageWrite (h : Hdr) (first : Nat) (entries : List TribEntry) (s : State) : Host.Outcome State Fault Refusal :=
  .next (command h (.tribPageWrite first entries) s)

/-- TRIB_PAGE_SWAP: Command 0x0507 schedules the page exchange at a frame boundary and takes the tributary lock (R117).
-/
def execTribPageSwap (h : Hdr) (instant : Instant) (fence : Option Nat) (s : State) : Host.Outcome State Fault Refusal :=
  .next (command h (.tribPageSwap instant fence) s)

/-- TRIB_PAGE_READ: Command 0x0508 returns the active or the standby page (R119). -/
def execTribPageRead (h : Hdr) (active : Bool) (s : State) : Host.Outcome State Fault Refusal :=
  .next (command h (.tribPageRead active) s)

/-- TRIB_STATUS: Command 0x0509 returns the pending swap, fenced tributaries and fence timeouts (R119). -/
def execTribStatus (h : Hdr) (s : State) : Host.Outcome State Fault Refusal := .next (command h .tribStatus s)

/-- FLOW_INSERT: Command 0x0601 inserts an exact-match flow entry, moving entries as needed (R130). -/
def execFlowInsert (h : Hdr) (e : EntryWord) (key : List Byte) (s : State) : Host.Outcome State Fault Refusal :=
  .next (command h (.flowInsert e key) s)

/-- FLOW_MODIFY: Command 0x0602 changes the fields of a present flow entry (R136). -/
def execFlowModify (h : Hdr) (profile : Nat) (key : List Byte) (e : EntryWord) (s : State) : Host.Outcome State Fault Refusal :=
  .next (command h (.flowModify profile key e) s)

/-- FLOW_DELETE: Command 0x0603 deletes a flow entry, clearing VALID first (R136). -/
def execFlowDelete (h : Hdr) (profile : Nat) (key : List Byte) (s : State) : Host.Outcome State Fault Refusal :=
  .next (command h (.flowDelete profile key) s)

/-- FLOW_LOOKUP: Command 0x0604 returns a flow entry with HIT and GEN_VIS (R133). -/
def execFlowLookup (h : Hdr) (profile : Nat) (key : List Byte) (s : State) : Host.Outcome State Fault Refusal :=
  .next (command h (.flowLookup profile key) s)

/-- FLOW_ACTION_WRITE: Command 0x0605 writes an action set into the unselected copy and flips its select bit (R137). -/
def execFlowActionWrite (h : Hdr) (idx : Nat) (acts : List Action) (s : State) : Host.Outcome State Fault Refusal :=
  .next (command h (.flowActionWrite idx acts) s)

/-- TERNARY_WRITE: Command 0x0606 writes a ternary entry's control word, value and mask (R132). -/
def execTernaryWrite (h : Hdr) (idx : Nat) (e : EntryWord) (value : List Byte) (mask : List Byte) (s : State) : Host.Outcome State Fault Refusal :=
  .next (command h (.ternaryWrite idx e value mask) s)

/-- TERNARY_DELETE: Command 0x0607 deletes a ternary entry (R146). -/
def execTernaryDelete (h : Hdr) (idx : Nat) (s : State) : Host.Outcome State Fault Refusal :=
  .next (command h (.ternaryDelete idx) s)

/-- PARSE_NODE_SET: Command 0x0608 defines or clears a user parse node (R124). -/
def execParseNodeSet (h : Hdr) (node : Nat) (d : Option UserNode) (s : State) : Host.Outcome State Fault Refusal :=
  .next (command h (.parseNodeSet node d) s)

/-- CLASS_PROFILE_SET: Command 0x0609 defines the exact and ternary key selections of a key profile (R128). -/
def execClassProfileSet (h : Hdr) (profile : Nat) (exact : List Selection) (ternary : List Selection) (s : State) : Host.Outcome State Fault Refusal :=
  .next (command h (.classProfileSet profile exact ternary) s)

/-- CLASS_DEFAULT_SET: Command 0x060A sets an ingress port's default action set and first-pass profile (R141). -/
def execClassDefaultSet (h : Hdr) (port : Nat) (actionSet : Nat) (profile : Nat) (s : State) : Host.Outcome State Fault Refusal :=
  .next (command h (.classDefaultSet port actionSet profile) s)

/-- CLASS_STATUS: Command 0x060B returns the generation state, flow occupancy and drop counts (R146). -/
def execClassStatus (h : Hdr) (s : State) : Host.Outcome State Fault Refusal := .next (command h .classStatus s)

/-- FLOW_SCAN: Command 0x060C returns the keys whose HIT bit is set in a range of buckets, and clears HIT (R133). -/
def execFlowScan (h : Hdr) (first : Nat) (count : Nat) (s : State) : Host.Outcome State Fault Refusal :=
  .next (command h (.flowScan first count) s)

/-- QUEUE_CREATE: Command 0x0701 creates an upstream leaf queue for an association, class and flow group (R149). -/
def execQueueCreate (h : Hdr) (q : Nat) (assoc : Nat) (cls : Nat) (group : Nat) (p : QueueParams) (s : State) : Host.Outcome State Fault Refusal :=
  .next (command h (.queueCreate q assoc cls group p) s)

/-- QUEUE_DELETE: Command 0x0702 deletes an empty upstream queue (R168). -/
def execQueueDelete (h : Hdr) (q : Nat) (s : State) : Host.Outcome State Fault Refusal :=
  .next (command h (.queueDelete q) s)

/-- QUEUE_SET: Command 0x0703 changes a queue's WEIGHT, LIMIT, YLIM and MAX_SOJOURN (R168). -/
def execQueueSet (h : Hdr) (q : Nat) (p : QueueParams) (s : State) : Host.Outcome State Fault Refusal :=
  .next (command h (.queueSet q p) s)

/-- QUEUE_STATUS: Command 0x0704 returns a queue's occupancy per carrier list and its drops (R168). -/
def execQueueStatus (h : Hdr) (q : Nat) (s : State) : Host.Outcome State Fault Refusal :=
  .next (command h (.queueStatus q) s)

/-- QUEUE_FLUSH: Command 0x0705 discards a queue's packets with the reason FLUSH, after finishing begun packets (R168).
-/
def execQueueFlush (h : Hdr) (q : Nat) (s : State) : Host.Outcome State Fault Refusal := .next (command h (.queueFlush q) s)

/-- SCHED_NODE_SET: Command 0x0706 sets an association or class node's weight, shaper and EXPEDITE (R154). -/
def execSchedNodeSet (h : Hdr) (assoc : Nat) (cls : Option Nat) (weight : Nat) (shaper : Option ShaperParams) (expedite : Bool) (s : State) : Host.Outcome State Fault Refusal :=
  .next (command h (.schedNodeSet assoc cls weight shaper expedite) s)

/-- EGRESS_CONFIG: Command 0x0707 sets a client port's egress queue and port scheduling settings (R159). -/
def execEgressConfig (h : Hdr) (port : Nat) (queues : List EgressQ) (shaper : Option ShaperParams) (s : State) : Host.Outcome State Fault Refusal :=
  .next (command h (.egressConfig port queues shaper) s)

/-- POLICER_SET: Command 0x0708 sets a policer's mode, rates and sizes (R161). -/
def execPolicerSet (h : Hdr) (idx : Nat) (p : PolicerParams) (refill : Bool) (s : State) : Host.Outcome State Fault Refusal :=
  .next (command h (.policerSet idx p refill) s)

/-- POLICER_READ: Command 0x0709 returns a policer's tokens and colour counts, clearing them if asked (R168). -/
def execPolicerRead (h : Hdr) (idx : Nat) (clear : Bool) (s : State) : Host.Outcome State Fault Refusal :=
  .next (command h (.policerRead idx clear) s)

/-- GATE_LIST_SET: Command 0x070A sets a port's gate list and computes its start S (R163). -/
def execGateListSet (h : Hdr) (port : Nat) (g : GateList) (s : State) : Host.Outcome State Fault Refusal :=
  .next (command h (.gateListSet port g) s)

/-- GATE_STATUS: Command 0x070B returns a port's running and waiting gate lists (R168). -/
def execGateStatus (h : Hdr) (port : Nat) (s : State) : Host.Outcome State Fault Refusal :=
  .next (command h (.gateStatus port) s)

/-- BAROMETER_WATCH: Command 0x070C sets or clears a barometer watch slot, zeroing it (R166). -/
def execBarometerWatch (h : Hdr) (slot : Nat) (p : Option WatchParams) (s : State) : Host.Outcome State Fault Refusal :=
  .next (command h (.barometerWatch slot p) s)

/-- BAROMETER_READ: Command 0x070D returns a watch slot's histograms and means, clearing them if asked (R167). -/
def execBarometerRead (h : Hdr) (slot : Nat) (clear : Bool) (s : State) : Host.Outcome State Fault Refusal :=
  .next (command h (.barometerRead slot clear) s)

/-- STORE_STATUS: Command 0x070E returns cell store and egress pool occupancy and drops (R168). -/
def execStoreStatus (h : Hdr) (s : State) : Host.Outcome State Fault Refusal := .next (command h .storeStatus s)

/-- LANE_CONFIG: Command 0x0801 sets a lane's polarity and transmit equalisation (R186). -/
def execLaneConfig (h : Hdr) (lane : Nat) (txInv : Bool) (rxInv : Bool) (preset : Nat) (s : State) : Host.Outcome State Fault Refusal :=
  .next (command h (.laneConfig lane txInv rxInv preset) s)

/-- LANE_REFCLK_SET: Command 0x0802 selects a quad's transmit reference or a reference output's source (R171). -/
def execLaneRefclkSet (h : Hdr) (t : RefTarget) (s : State) : Host.Outcome State Fault Refusal :=
  .next (command h (.laneRefclkSet t) s)

/-- LANE_STATUS: Command 0x0803 returns a lane's mode, lock states, offset and error ratio (R186). -/
def execLaneStatus (h : Hdr) (lane : Nat) (s : State) : Host.Outcome State Fault Refusal :=
  .next (command h (.laneStatus lane) s)

/-- LANE_MONITOR_SET: Command 0x0804 puts a lane in MONITOR or PATTERN, at once (R179). -/
def execLaneMonitorSet (h : Hdr) (lane : Nat) (m : LaneMode) (s : State) : Host.Outcome State Fault Refusal :=
  .next (command h (.laneMonitorSet lane m) s)

/-- LANE_PATTERN_READ: Command 0x0805 returns a lane's pattern counters, clearing them if asked (R179). -/
def execLanePatternRead (h : Hdr) (lane : Nat) (clear : Bool) (s : State) : Host.Outcome State Fault Refusal :=
  .next (command h (.lanePatternRead lane clear) s)

/-- DIE_STATUS: Command 0x0120 returns the die link width, lanes and drop counts (R186). -/
def execDieStatus (h : Hdr) (s : State) : Host.Outcome State Fault Refusal := .next (command h .dieStatus s)

/-- DIE_RETRAIN: Command 0x0121 retrains the die link, with WIDEN bringing back every good lane (R185). -/
def execDieRetrain (h : Hdr) (widen : Bool) (s : State) : Host.Outcome State Fault Refusal :=
  .next (command h (.dieRetrain widen) s)

/-- PORT_CONFIG: Command 0x0806 configures or frees a client port's mode and MAC settings (R188). -/
def execPortConfig (h : Hdr) (port : Nat) (p : Option PortParams) (s : State) : Host.Outcome State Fault Refusal :=
  .next (command h (.portConfig port p) s)

/-- PORT_STATUS: Command 0x0807 returns a port's state, mode, LPI, sleep and stopped queues (R211). -/
def execPortStatus (h : Hdr) (port : Nat) (s : State) : Host.Outcome State Fault Refusal :=
  .next (command h (.portStatus port) s)

/-- PORT_FILTER_SET: Command 0x0808 sets a port's address filter (R192). -/
def execPortFilterSet (h : Hdr) (port : Nat) (p : FilterParams) (s : State) : Host.Outcome State Fault Refusal :=
  .next (command h (.portFilterSet port p) s)

/-- PORT_PAUSE_SET: Command 0x0809 sets a port's pause mode, PFC map, thresholds and watchdog (R197). -/
def execPortPauseSet (h : Hdr) (port : Nat) (p : PauseParams) (s : State) : Host.Outcome State Fault Refusal :=
  .next (command h (.portPauseSet port p) s)

/-- PORT_TS_CONFIG: Command 0x080A sets a port's receive and transmit stamp latencies (R201). -/
def execPortTsConfig (h : Hdr) (port : Nat) (rx : Nat) (tx : Nat) (s : State) : Host.Outcome State Fault Refusal :=
  .next (command h (.portTsConfig port rx tx) s)

/-- PORT_TS_READ: Command 0x080B pops entries of a port's transmit stamp FIFO (R203). -/
def execPortTsRead (h : Hdr) (port : Nat) (max : Nat) (s : State) : Host.Outcome State Fault Refusal :=
  .next (command h (.portTsRead port max) s)

/-- PORT_LPI_SET: Command 0x080C enables low-power idle on a port whose mode supports it (R205). -/
def execPortLpiSet (h : Hdr) (port : Nat) (enable : Bool) (idleHold : Nat) (rxTw : Nat) (s : State) : Host.Outcome State Fault Refusal :=
  .next (command h (.portLpiSet port enable idleHold rxTw) s)

/-- PORT_SLEEP: Command 0x080D puts a port to sleep or wakes it (R208). -/
def execPortSleep (h : Hdr) (port : Nat) (sleep : Bool) (wakeOnTx : Bool) (s : State) : Host.Outcome State Fault Refusal :=
  .next (command h (.portSleep port sleep wakeOnTx) s)

/-- STATS_SNAPSHOT: Command 0x080E schedules a counter snapshot of named ports at an instant (R210). -/
def execStatsSnapshot (h : Hdr) (instant : Instant) (ports : BitVec 32) (s : State) : Host.Outcome State Fault Refusal :=
  .next (command h (.statsSnapshot instant ports) s)

/-- STATS_READ: Command 0x080F returns a snapshot buffer, freeing it with RELEASE (R210). -/
def execStatsRead (h : Hdr) (buffer : Nat) (release : Bool) (s : State) : Host.Outcome State Fault Refusal :=
  .next (command h (.statsRead buffer release) s)

/-- PORT_STATS_READ: Command 0x0810 returns a port's live counters (R209). -/
def execPortStatsRead (h : Hdr) (port : Nat) (clear : Bool) (s : State) : Host.Outcome State Fault Refusal :=
  .next (command h (.portStatsRead port clear) s)

/-- SEC_STATUS: Command 0x0901 returns the lifecycle state and security status (R244). -/
def execSecStatus (h : Hdr) (s : State) : Host.Outcome State Fault Refusal := .next (command h .secStatus s)

/-- SEC_IDENTITY: Command 0x0902 returns the identity public keys (R215). -/
def execSecIdentity (h : Hdr) (s : State) : Host.Outcome State Fault Refusal := .next (command h .secIdentity s)

/-- SEC_CHALLENGE: Command 0x0903 issues a new 16-byte challenge, discarding the oldest beyond 8 (R218). -/
def execSecChallenge (h : Hdr) (s : State) : Host.Outcome State Fault Refusal := .next (command h .secChallenge s)

/-- SEC_OWNER_ENROL: Command 0x0904 verifies the owner signatures, fuses the owner digest and enters OWNED (R216). -/
def execSecOwnerEnrol (h : Hdr) (challenge : Ident) (digest : Digest) (sigEcOk : Bool) (sigMldsaOk : Bool) (s : State) : Host.Outcome State Fault Refusal :=
  .next (command h (.secOwnerEnrol challenge digest sigEcOk sigMldsaOk) s)

/-- SEC_ASSOC_CREATE: Command 0x0905 arms a RESPOND index or starts an INITIATE key agreement (R221). -/
def execSecAssocCreate (h : Hdr) (idx : Nat) (p : AssocParams) (s : State) : Host.Outcome State Fault Refusal :=
  .next (command h (.secAssocCreate idx p) s)

/-- SEC_ASSOC_REKEY: Command 0x0906 runs a key agreement for generation g + 1 on an ACTIVE association (R226). -/
def execSecAssocRekey (h : Hdr) (idx : Nat) (s : State) : Host.Outcome State Fault Refusal :=
  .next (command h (.secAssocRekey idx) s)

/-- SEC_ASSOC_DELETE: Command 0x0907 erases an association's keys, sends CLOSE and frees the index (R228). -/
def execSecAssocDelete (h : Hdr) (idx : Nat) (s : State) : Host.Outcome State Fault Refusal :=
  .next (command h (.secAssocDelete idx) s)

/-- SEC_ASSOC_STATUS: Command 0x0908 returns an association's states, generations, PN and discards (R244). -/
def execSecAssocStatus (h : Hdr) (idx : Nat) (s : State) : Host.Outcome State Fault Refusal :=
  .next (command h (.secAssocStatus idx) s)

/-- SEC_ASSOC_CONFIG: Command 0x0909 sets FAIL_THRESHOLD and OLD_KEY_HOLD of an association (R238). -/
def execSecAssocConfig (h : Hdr) (idx : Nat) (threshold : Nat) (hold : Nat) (s : State) : Host.Outcome State Fault Refusal :=
  .next (command h (.secAssocConfig idx threshold hold) s)

/-- SEC_ASSOC_RESUME: Command 0x090A clears SUSPENDED and sets FAIL_COUNT to 0 (R238). -/
def execSecAssocResume (h : Hdr) (idx : Nat) (s : State) : Host.Outcome State Fault Refusal :=
  .next (command h (.secAssocResume idx) s)

/-- SEC_SIDECHANNEL_SET: Command 0x090B sets DMAX, from the next packet boundary (R240). -/
def execSecSidechannelSet (h : Hdr) (dmax : Nat) (s : State) : Host.Outcome State Fault Refusal :=
  .next (command h (.secSidechannelSet dmax) s)

/-- SEC_DEBUG_UNLOCK: Command 0x090C aborts agreements, erases association keys, frees indices and unlocks the debug
port (R241). -/
def execSecDebugUnlock (h : Hdr) (s : State) : Host.Outcome State Fault Refusal := .next (command h .secDebugUnlock s)

/-- SEC_COMPAT_SET: Command 0x090D enables or disables compatibility mode for cipher jobs (R243). -/
def execSecCompatSet (h : Hdr) (enable : Bool) (s : State) : Host.Outcome State Fault Refusal :=
  .next (command h (.secCompatSet enable) s)

/-- CIPHER_JOB: Command 0x0910 seals or unseals a host buffer under an ACTIVE association (R242). -/
def execCipherJob (h : Hdr) (isSeal : Bool) (idx : Nat) (addr : Nat) (len : Nat) (urgent : Bool) (s : State) : Host.Outcome State Fault Refusal :=
  .next (command h (.cipherJob isSeal idx addr len urgent) s)

/-- DEVICE_INFO: Command 0x0101 returns identity words, firmware and boot ROM versions and identity digest (R257). -/
def execDeviceInfo (h : Hdr) (s : State) : Host.Outcome State Fault Refusal := .next (command h .deviceInfo s)

/-- DEVICE_STATUS: Command 0x0102 returns DEV_STATUS, boot stage, time since reset and last reset cause (R257). -/
def execDeviceStatus (h : Hdr) (s : State) : Host.Outcome State Fault Refusal := .next (command h .deviceStatus s)

/-- DEVICE_RESET: Command 0x0103 replies and schedules a warm reset or a domain reset 1 ms later (R334). -/
def execDeviceReset (h : Hdr) (k : ResetKind) (s : State) : Host.Outcome State Fault Refusal :=
  .next (command h (.deviceReset k) s)

/-- DEVICE_FW_LOAD: Command 0x0104 takes a firmware image chunk and verifies the image on the last chunk (R339). -/
def execDeviceFwLoad (h : Hdr) (offset : Nat) (len : Nat) (last : Option FwImage) (s : State) : Host.Outcome State Fault Refusal :=
  .next (command h (.deviceFwLoad offset len last) s)

/-- DEVICE_PING: Command 0x0105 returns the bytes it carries (R257). -/
def execDevicePing (h : Hdr) (bytes : List Byte) (s : State) : Host.Outcome State Fault Refusal :=
  .next (command h (.devicePing bytes) s)

/-- COMMIT_OPEN: Command 0x0A01 opens the lowest FREE commit group with an idle timeout (R259). -/
def execCommitOpen (h : Hdr) (timeout : Nat) (s : State) : Host.Outcome State Fault Refusal :=
  .next (command h (.commitOpen timeout) s)

/-- COMMIT_APPLY: Command 0x0A02 checks a group and its instant, takes locks and commits it (R262). -/
def execCommitApply (h : Hdr) (g : Nat) (instant : Instant) (s : State) : Host.Outcome State Fault Refusal :=
  .next (command h (.commitApply g instant) s)

/-- COMMIT_ABORT: Command 0x0A03 aborts an OPEN or COMMITTED group before the readiness check (R265). -/
def execCommitAbort (h : Hdr) (g : Nat) (s : State) : Host.Outcome State Fault Refusal :=
  .next (command h (.commitAbort g) s)

/-- COMMIT_STATUS: Command 0x0A04 returns a group's state, staging, readiness and abort code (R267). -/
def execCommitStatus (h : Hdr) (g : Nat) (s : State) : Host.Outcome State Fault Refusal :=
  .next (command h (.commitStatus g) s)

/-- POWER_STATUS: Command 0x0B01 returns the power state, levels, votes and pending change (R342). -/
def execPowerStatus (h : Hdr) (s : State) : Host.Outcome State Fault Refusal := .next (command h .powerStatus s)

/-- POWER_VOTE: Command 0x0B02 writes the HOST vote word (R322). -/
def execPowerVote (h : Hdr) (word : Word) (s : State) : Host.Outcome State Fault Refusal :=
  .next (command h (.powerVote word) s)

/-- POWER_SCHEDULE: Command 0x0B03 schedules a power-state change at an instant, replacing any pending one (R325). -/
def execPowerSchedule (h : Hdr) (target : PowerState) (instant : Instant) (carriers : BitVec 4) (wakeAt : Option Instant) (s : State) : Host.Outcome State Fault Refusal :=
  .next (command h (.powerSchedule target instant carriers wakeAt) s)

/-- POWER_RETENTION_STATUS: Command 0x0B04 returns retention bank validity, losses, CRCs and wake status (R342). -/
def execPowerRetentionStatus (h : Hdr) (s : State) : Host.Outcome State Fault Refusal :=
  .next (command h .powerRetentionStatus s)

/-- ENGINE_PROGRAM_LOAD: Command 0x0C01 checks and loads a program image on every engine of its directions (R284). -/
def execEngineProgramLoad (h : Hdr) (img : ProgImage) (limit : Nat) (s : State) : Host.Outcome State Fault Refusal :=
  .next (command h (.engineProgramLoad img limit) s)

/-- ENGINE_PROGRAM_UNLOAD: Command 0x0C02 removes an unreferenced program (R285). -/
def execEngineProgramUnload (h : Hdr) (prog : Nat) (s : State) : Host.Outcome State Fault Refusal :=
  .next (command h (.engineProgramUnload prog) s)

/-- ENGINE_STATUS: Command 0x0C03 returns engines in service, programs and their drops and exceptions (R286). -/
def execEngineStatus (h : Hdr) (s : State) : Host.Outcome State Fault Refusal := .next (command h .engineStatus s)

/-- ENGINE_EXCEPTION_READ: Command 0x0C04 pops exception records of a direction (R280). -/
def execEngineExceptionRead (h : Hdr) (down : Bool) (max : Nat) (s : State) : Host.Outcome State Fault Refusal :=
  .next (command h (.engineExceptionRead down max) s)

/-- PMC_CONFIG: Command 0x0D01 writes a counter's event select, filters and address ranges (R318). -/
def execPmcConfig (h : Hdr) (n : Nat) (evsel : Word) (filt : Word) (ranges : List (Nat × Word × Word)) (s : State) : Host.Outcome State Fault Refusal :=
  .next (command h (.pmcConfig n evsel filt ranges) s)

/-- SAMPLE_CONFIG: Command 0x0D02 configures instruction sampling for a direction (R313). -/
def execSampleConfig (h : Hdr) (p : SampleParams) (s : State) : Host.Outcome State Fault Refusal :=
  .next (command h (.sampleConfig p) s)

/-- TRACE_CONFIG: Command 0x0D03 configures packet tagging and the trace buffer (R315). -/
def execTraceConfig (h : Hdr) (p : TraceParams) (s : State) : Host.Outcome State Fault Refusal :=
  .next (command h (.traceConfig p) s)

/-- TRACE_READ: Command 0x0D04 returns trace entries or sample records (R316). -/
def execTraceRead (h : Hdr) (sel : TraceSel) (max : Nat) (s : State) : Host.Outcome State Fault Refusal :=
  .next (command h (.traceRead sel max) s)

end Sys2Proof.Machine
end

