-- ==== Sys2Proof/Machine/Dispatch.lean ====
section
/-! DEFINITION. One arm for each row of spec/opcode_table.json. -/

namespace Sys2Proof.Machine

def exec (i : Instr) (s : State) : Host.Outcome State Fault Refusal :=
  match i with
  | .timeStatus h => Sys2Proof.Machine.execTimeStatus h s
  | .timeCapture h input max => Sys2Proof.Machine.execTimeCapture h input max s
  | .timeCaptureConfig h input enable falling => Sys2Proof.Machine.execTimeCaptureConfig h input enable falling s
  | .timeOutputSet h p => Sys2Proof.Machine.execTimeOutputSet h p s
  | .timeSplitSet h alpha => Sys2Proof.Machine.execTimeSplitSet h alpha s
  | .timeAsymmetrySet h a clear => Sys2Proof.Machine.execTimeAsymmetrySet h a clear s
  | .timeHoldoverSet h y d limit squelch => Sys2Proof.Machine.execTimeHoldoverSet h y d limit squelch s
  | .timePtpSet h port enable domain altAddr twoStep => Sys2Proof.Machine.execTimePtpSet h port enable domain altAddr twoStep s
  | .timeSynceSet h port enable qlTrack qlHold => Sys2Proof.Machine.execTimeSynceSet h port enable qlTrack qlHold s
  | .timeCarrierSet h carrier => Sys2Proof.Machine.execTimeCarrierSet h carrier s
  | .carrierConfig h n p => Sys2Proof.Machine.execCarrierConfig h n p s
  | .carrierEnable h n => Sys2Proof.Machine.execCarrierEnable h n s
  | .carrierDisable h n => Sys2Proof.Machine.execCarrierDisable h n s
  | .carrierStatus h n => Sys2Proof.Machine.execCarrierStatus h n s
  | .carrierGateSet h n p => Sys2Proof.Machine.execCarrierGateSet h n p s
  | .carrierGateCeiling h n ceil => Sys2Proof.Machine.execCarrierGateCeiling h n ceil s
  | .carrierFeLoad h n script => Sys2Proof.Machine.execCarrierFeLoad h n script s
  | .carrierFeAccess h n t => Sys2Proof.Machine.execCarrierFeAccess h n t s
  | .carrierMonitor h n => Sys2Proof.Machine.execCarrierMonitor h n s
  | .carrierHintClear h n => Sys2Proof.Machine.execCarrierHintClear h n s
  | .regEnable h => Sys2Proof.Machine.execRegEnable h s
  | .regDisable h => Sys2Proof.Machine.execRegDisable h s
  | .regStatus h => Sys2Proof.Machine.execRegStatus h s
  | .regConfig h carrier tResume => Sys2Proof.Machine.execRegConfig h carrier tResume s
  | .regHeadlistSet h heads => Sys2Proof.Machine.execRegHeadlistSet h heads s
  | .regEpochReset h => Sys2Proof.Machine.execRegEpochReset h s
  | .grantStats h n => Sys2Proof.Machine.execGrantStats h n s
  | .forecastConfig h n a b => Sys2Proof.Machine.execForecastConfig h n a b s
  | .forecastRead h n => Sys2Proof.Machine.execForecastRead h n s
  | .frameStatus h n => Sys2Proof.Machine.execFrameStatus h n s
  | .cellStats h n => Sys2Proof.Machine.execCellStats h n s
  | .cellGroupsSet h bitmap => Sys2Proof.Machine.execCellGroupsSet h bitmap s
  | .mchConfig h ch enable carrier rate => Sys2Proof.Machine.execMchConfig h ch enable carrier rate s
  | .mchStats h ch => Sys2Proof.Machine.execMchStats h ch s
  | .tribPageWrite h first entries => Sys2Proof.Machine.execTribPageWrite h first entries s
  | .tribPageSwap h instant fence => Sys2Proof.Machine.execTribPageSwap h instant fence s
  | .tribPageRead h active => Sys2Proof.Machine.execTribPageRead h active s
  | .tribStatus h => Sys2Proof.Machine.execTribStatus h s
  | .flowInsert h e key => Sys2Proof.Machine.execFlowInsert h e key s
  | .flowModify h profile key e => Sys2Proof.Machine.execFlowModify h profile key e s
  | .flowDelete h profile key => Sys2Proof.Machine.execFlowDelete h profile key s
  | .flowLookup h profile key => Sys2Proof.Machine.execFlowLookup h profile key s
  | .flowActionWrite h idx acts => Sys2Proof.Machine.execFlowActionWrite h idx acts s
  | .ternaryWrite h idx e value mask => Sys2Proof.Machine.execTernaryWrite h idx e value mask s
  | .ternaryDelete h idx => Sys2Proof.Machine.execTernaryDelete h idx s
  | .parseNodeSet h node d => Sys2Proof.Machine.execParseNodeSet h node d s
  | .classProfileSet h profile exact ternary => Sys2Proof.Machine.execClassProfileSet h profile exact ternary s
  | .classDefaultSet h port actionSet profile => Sys2Proof.Machine.execClassDefaultSet h port actionSet profile s
  | .classStatus h => Sys2Proof.Machine.execClassStatus h s
  | .flowScan h first count => Sys2Proof.Machine.execFlowScan h first count s
  | .queueCreate h q assoc cls group p => Sys2Proof.Machine.execQueueCreate h q assoc cls group p s
  | .queueDelete h q => Sys2Proof.Machine.execQueueDelete h q s
  | .queueSet h q p => Sys2Proof.Machine.execQueueSet h q p s
  | .queueStatus h q => Sys2Proof.Machine.execQueueStatus h q s
  | .queueFlush h q => Sys2Proof.Machine.execQueueFlush h q s
  | .schedNodeSet h assoc cls weight shaper expedite => Sys2Proof.Machine.execSchedNodeSet h assoc cls weight shaper expedite s
  | .egressConfig h port queues shaper => Sys2Proof.Machine.execEgressConfig h port queues shaper s
  | .policerSet h idx p refill => Sys2Proof.Machine.execPolicerSet h idx p refill s
  | .policerRead h idx clear => Sys2Proof.Machine.execPolicerRead h idx clear s
  | .gateListSet h port g => Sys2Proof.Machine.execGateListSet h port g s
  | .gateStatus h port => Sys2Proof.Machine.execGateStatus h port s
  | .barometerWatch h slot p => Sys2Proof.Machine.execBarometerWatch h slot p s
  | .barometerRead h slot clear => Sys2Proof.Machine.execBarometerRead h slot clear s
  | .storeStatus h => Sys2Proof.Machine.execStoreStatus h s
  | .laneConfig h lane txInv rxInv preset => Sys2Proof.Machine.execLaneConfig h lane txInv rxInv preset s
  | .laneRefclkSet h t => Sys2Proof.Machine.execLaneRefclkSet h t s
  | .laneStatus h lane => Sys2Proof.Machine.execLaneStatus h lane s
  | .laneMonitorSet h lane m => Sys2Proof.Machine.execLaneMonitorSet h lane m s
  | .lanePatternRead h lane clear => Sys2Proof.Machine.execLanePatternRead h lane clear s
  | .dieStatus h => Sys2Proof.Machine.execDieStatus h s
  | .dieRetrain h widen => Sys2Proof.Machine.execDieRetrain h widen s
  | .portConfig h port p => Sys2Proof.Machine.execPortConfig h port p s
  | .portStatus h port => Sys2Proof.Machine.execPortStatus h port s
  | .portFilterSet h port p => Sys2Proof.Machine.execPortFilterSet h port p s
  | .portPauseSet h port p => Sys2Proof.Machine.execPortPauseSet h port p s
  | .portTsConfig h port rx tx => Sys2Proof.Machine.execPortTsConfig h port rx tx s
  | .portTsRead h port max => Sys2Proof.Machine.execPortTsRead h port max s
  | .portLpiSet h port enable idleHold rxTw => Sys2Proof.Machine.execPortLpiSet h port enable idleHold rxTw s
  | .portSleep h port sleep wakeOnTx => Sys2Proof.Machine.execPortSleep h port sleep wakeOnTx s
  | .statsSnapshot h instant ports => Sys2Proof.Machine.execStatsSnapshot h instant ports s
  | .statsRead h buffer release => Sys2Proof.Machine.execStatsRead h buffer release s
  | .portStatsRead h port clear => Sys2Proof.Machine.execPortStatsRead h port clear s
  | .secStatus h => Sys2Proof.Machine.execSecStatus h s
  | .secIdentity h => Sys2Proof.Machine.execSecIdentity h s
  | .secChallenge h => Sys2Proof.Machine.execSecChallenge h s
  | .secOwnerEnrol h challenge digest sigEcOk sigMldsaOk => Sys2Proof.Machine.execSecOwnerEnrol h challenge digest sigEcOk sigMldsaOk s
  | .secAssocCreate h idx p => Sys2Proof.Machine.execSecAssocCreate h idx p s
  | .secAssocRekey h idx => Sys2Proof.Machine.execSecAssocRekey h idx s
  | .secAssocDelete h idx => Sys2Proof.Machine.execSecAssocDelete h idx s
  | .secAssocStatus h idx => Sys2Proof.Machine.execSecAssocStatus h idx s
  | .secAssocConfig h idx threshold hold => Sys2Proof.Machine.execSecAssocConfig h idx threshold hold s
  | .secAssocResume h idx => Sys2Proof.Machine.execSecAssocResume h idx s
  | .secSidechannelSet h dmax => Sys2Proof.Machine.execSecSidechannelSet h dmax s
  | .secDebugUnlock h => Sys2Proof.Machine.execSecDebugUnlock h s
  | .secCompatSet h enable => Sys2Proof.Machine.execSecCompatSet h enable s
  | .cipherJob h isSeal idx addr len urgent => Sys2Proof.Machine.execCipherJob h isSeal idx addr len urgent s
  | .deviceInfo h => Sys2Proof.Machine.execDeviceInfo h s
  | .deviceStatus h => Sys2Proof.Machine.execDeviceStatus h s
  | .deviceReset h k => Sys2Proof.Machine.execDeviceReset h k s
  | .deviceFwLoad h offset len last => Sys2Proof.Machine.execDeviceFwLoad h offset len last s
  | .devicePing h bytes => Sys2Proof.Machine.execDevicePing h bytes s
  | .commitOpen h timeout => Sys2Proof.Machine.execCommitOpen h timeout s
  | .commitApply h g instant => Sys2Proof.Machine.execCommitApply h g instant s
  | .commitAbort h g => Sys2Proof.Machine.execCommitAbort h g s
  | .commitStatus h g => Sys2Proof.Machine.execCommitStatus h g s
  | .powerStatus h => Sys2Proof.Machine.execPowerStatus h s
  | .powerVote h word => Sys2Proof.Machine.execPowerVote h word s
  | .powerSchedule h target instant carriers wakeAt => Sys2Proof.Machine.execPowerSchedule h target instant carriers wakeAt s
  | .powerRetentionStatus h => Sys2Proof.Machine.execPowerRetentionStatus h s
  | .engineProgramLoad h img limit => Sys2Proof.Machine.execEngineProgramLoad h img limit s
  | .engineProgramUnload h prog => Sys2Proof.Machine.execEngineProgramUnload h prog s
  | .engineStatus h => Sys2Proof.Machine.execEngineStatus h s
  | .engineExceptionRead h down max => Sys2Proof.Machine.execEngineExceptionRead h down max s
  | .pmcConfig h n evsel filt ranges => Sys2Proof.Machine.execPmcConfig h n evsel filt ranges s
  | .sampleConfig h p => Sys2Proof.Machine.execSampleConfig h p s
  | .traceConfig h p => Sys2Proof.Machine.execTraceConfig h p s
  | .traceRead h sel max => Sys2Proof.Machine.execTraceRead h sel max s
  | .cmdSqTailWrite v => Sys2Proof.Machine.execCmdSqTailWrite v s
  | .cmdRqHeadWrite v => Sys2Proof.Machine.execCmdRqHeadWrite v s
  | .cmdCtrlEnWrite v => Sys2Proof.Machine.execCmdCtrlEnWrite v s
  | .ringSubmissionFetch e p dmaError => Sys2Proof.Machine.execRingSubmissionFetch e p dmaError s
  | .writeCmd p => Sys2Proof.Machine.execWriteCmd p s
  | .readReply => Sys2Proof.Machine.execReadReply s
  | .readStatus => Sys2Proof.Machine.execReadStatus s
  | .inbandCommandFrame port f p => Sys2Proof.Machine.execInbandCommandFrame port f p s
  | .registerWrite offset v => Sys2Proof.Machine.execRegisterWrite offset v s
  | .timeNowLoRead edge => Sys2Proof.Machine.execTimeNowLoRead edge s
  | .timeNowHiRead sec edge => Sys2Proof.Machine.execTimeNowHiRead sec edge s
  | .tpWrite addr v => Sys2Proof.Machine.execTpWrite addr v s
  | .tptTimeNowLoRead => Sys2Proof.Machine.execTptTimeNowLoRead s
  | .capLoRead n => Sys2Proof.Machine.execCapLoRead n s
  | .capLostRead n => Sys2Proof.Machine.execCapLostRead n s
  | .evcClaim t => Sys2Proof.Machine.execEvcClaim t s
  | .evcComplete t v => Sys2Proof.Machine.execEvcComplete t v s
  | .evcTrigger v => Sys2Proof.Machine.execEvcTrigger v s
  | .evcDiscard v => Sys2Proof.Machine.execEvcDiscard v s
  | .evcPendingWrite w v => Sys2Proof.Machine.execEvcPendingWrite w v s
  | .evcMaskWrite w v => Sys2Proof.Machine.execEvcMaskWrite w v s
  | .evcIntegPop => Sys2Proof.Machine.execEvcIntegPop s
  | .evcIntegLostRead => Sys2Proof.Machine.execEvcIntegLostRead s
  | .evcIntegCorrRead => Sys2Proof.Machine.execEvcIntegCorrRead s
  | .pmcCntLoRead n => Sys2Proof.Machine.execPmcCntLoRead n s
  | .pmcCntWrite n hi v => Sys2Proof.Machine.execPmcCntWrite n hi v s
  | .pmcFreezeWrite v => Sys2Proof.Machine.execPmcFreezeWrite v s
  | .aonWakeReq v => Sys2Proof.Machine.execAonWakeReq v s
  | .aonVoteHostWrite v => Sys2Proof.Machine.execAonVoteHostWrite v s
  | .aonHoldNsRead => Sys2Proof.Machine.execAonHoldNsRead s
  | .porstAssert => Sys2Proof.Machine.execPorstAssert s
  | .resetNAssert => Sys2Proof.Machine.execResetNAssert s
  | .bootStart => Sys2Proof.Machine.execBootStart s
  | .bootStageComplete r => Sys2Proof.Machine.execBootStageComplete r s
  | .watchdogReset => Sys2Proof.Machine.execWatchdogReset s
  | .commandResetStart => Sys2Proof.Machine.execCommandResetStart s
  | .pciePerstAssert => Sys2Proof.Machine.execPciePerstAssert s
  | .pcieLinkChange width rate state => Sys2Proof.Machine.execPcieLinkChange width rate state s
  | .supplyFault rail => Sys2Proof.Machine.execSupplyFault rail s
  | .thermalWarn die above => Sys2Proof.Machine.execThermalWarn die above s
  | .thermalTrip lineDie => Sys2Proof.Machine.execThermalTrip lineDie s
  | .hardwareStop => Sys2Proof.Machine.execHardwareStop s
  | .ocxoFail => Sys2Proof.Machine.execOcxoFail s
  | .refclkRecovered => Sys2Proof.Machine.execRefclkRecovered s
  | .laneRefFault input => Sys2Proof.Machine.execLaneRefFault input s
  | .tcapEdge n falling sub => Sys2Proof.Machine.execTcapEdge n falling sub s
  | .ppsInEdge sub => Sys2Proof.Machine.execPpsInEdge sub s
  | .servoTrackEntry => Sys2Proof.Machine.execServoTrackEntry s
  | .servoStampTimeout => Sys2Proof.Machine.execServoStampTimeout s
  | .holdoverLimit => Sys2Proof.Machine.execHoldoverLimit s
  | .downstreamFrame n f => Sys2Proof.Machine.execDownstreamFrame n f s
  | .superframeVerified n signer => Sys2Proof.Machine.execSuperframeVerified n signer s
  | .rangeAssign n signer => Sys2Proof.Machine.execRangeAssign n signer s
  | .regConfirm n signer unwraps => Sys2Proof.Machine.execRegConfirm n signer unwraps s
  | .rangeUpdate n signer => Sys2Proof.Machine.execRangeUpdate n signer s
  | .resume n signer => Sys2Proof.Machine.execResume n signer s
  | .deregister n signer => Sys2Proof.Machine.execDeregister n signer s
  | .keyRoll n signer unwraps => Sys2Proof.Machine.execKeyRoll n signer unwraps s
  | .msgTimeout n msgId => Sys2Proof.Machine.execMsgTimeout n msgId s
  | .regEvaluation => Sys2Proof.Machine.execRegEvaluation s
  | .rangingTimeout => Sys2Proof.Machine.execRangingTimeout s
  | .tResume => Sys2Proof.Machine.execTResume s
  | .gust => Sys2Proof.Machine.execGust s
  | .gustUnanswered => Sys2Proof.Machine.execGustUnanswered s
  | .rangingBurst => Sys2Proof.Machine.execRangingBurst s
  | .burstDraw n => Sys2Proof.Machine.execBurstDraw n s
  | .burstEmission n => Sys2Proof.Machine.execBurstEmission n s
  | .forecastUpdate => Sys2Proof.Machine.execForecastUpdate s
  | .tuneComplete n => Sys2Proof.Machine.execTuneComplete n s
  | .tuneTimeout n => Sys2Proof.Machine.execTuneTimeout n s
  | .carrierLocked n power dispersion first second => Sys2Proof.Machine.execCarrierLocked n power dispersion first second s
  | .acqTimeout n => Sys2Proof.Machine.execAcqTimeout n s
  | .carrierLost n power => Sys2Proof.Machine.execCarrierLost n power s
  | .lostTimeout n => Sys2Proof.Machine.execLostTimeout n s
  | .laserFineTune n offsetMhz => Sys2Proof.Machine.execLaserFineTune n offsetMhz s
  | .feDuty n d ok alarms => Sys2Proof.Machine.execFeDuty n d ok alarms s
  | .spiTimeout n duty t => Sys2Proof.Machine.execSpiTimeout n duty t s
  | .gateFault n sensed held => Sys2Proof.Machine.execGateFault n sensed held s
  | .carrierSecond n m => Sys2Proof.Machine.execCarrierSecond n m s
  | .mchPortFrame ch bits => Sys2Proof.Machine.execMchPortFrame ch bits s
  | .mchUpstreamCell ch => Sys2Proof.Machine.execMchUpstreamCell ch s
  | .tribSwap => Sys2Proof.Machine.execTribSwap s
  | .fenceTimeout trib => Sys2Proof.Machine.execFenceTimeout trib s
  | .frameReceive port f => Sys2Proof.Machine.execFrameReceive port f s
  | .pauseTimerExpiry port q => Sys2Proof.Machine.execPauseTimerExpiry port q s
  | .pauseWatchdog port q => Sys2Proof.Machine.execPauseWatchdog port q s
  | .pauseWatchdogRecovery port q => Sys2Proof.Machine.execPauseWatchdogRecovery port q s
  | .pauseRefresh port acct => Sys2Proof.Machine.execPauseRefresh port acct s
  | .pipelinePass src miss => Sys2Proof.Machine.execPipelinePass src miss s
  | .flowCacheFill down => Sys2Proof.Machine.execFlowCacheFill down s
  | .programDispatch down engine => Sys2Proof.Machine.execProgramDispatch down engine s
  | .dispatchTimeout down => Sys2Proof.Machine.execDispatchTimeout down s
  | .callReturn ctx issued pc st => Sys2Proof.Machine.execCallReturn ctx issued pc st s
  | .waitAuth ctx => Sys2Proof.Machine.execWaitAuth ctx s
  | .programTimeException ctx => Sys2Proof.Machine.execProgramTimeException ctx s
  | .engineReload engine => Sys2Proof.Machine.execEngineReload engine s
  | .engineRestart control engine => Sys2Proof.Machine.execEngineRestart control engine s
  | .generationDrain => Sys2Proof.Machine.execGenerationDrain s
  | .writeInComplete => Sys2Proof.Machine.execWriteInComplete s
  | .sealPacket => Sys2Proof.Machine.execSeal s
  | .segmentation => Sys2Proof.Machine.execSegmentation s
  | .ageCheck => Sys2Proof.Machine.execAgeCheck s
  | .unsealPacket => Sys2Proof.Machine.execUnseal s
  | .tagResult id ok => Sys2Proof.Machine.execTagResult id ok s
  | .reassemblyTimeout carrier assoc cls => Sys2Proof.Machine.execReassemblyTimeout carrier assoc cls s
  | .hello m => Sys2Proof.Machine.execHello m s
  | .reply m => Sys2Proof.Machine.execReply m s
  | .confirmI m => Sys2Proof.Machine.execConfirmI m s
  | .confirmR m => Sys2Proof.Machine.execConfirmR m s
  | .close m => Sys2Proof.Machine.execClose m s
  | .helloRetry idx => Sys2Proof.Machine.execHelloRetry idx s
  | .confirmTimeout idx => Sys2Proof.Machine.execConfirmTimeout idx s
  | .peerTimeout idx => Sys2Proof.Machine.execPeerTimeout idx s
  | .armExpired idx => Sys2Proof.Machine.execArmExpired idx s
  | .oldKeyHold idx => Sys2Proof.Machine.execOldKeyHold idx s
  | .challengeLapse => Sys2Proof.Machine.execChallengeLapse s
  | .rngFail => Sys2Proof.Machine.execRngFail s
  | .egressFrameStart port => Sys2Proof.Machine.execEgressFrameStart port s
  | .egressAge port q => Sys2Proof.Machine.execEgressAge port q s
  | .hostFrameSend f => Sys2Proof.Machine.execHostFrameSend f s
  | .portUp port => Sys2Proof.Machine.execPortUp port s
  | .portDown port remote => Sys2Proof.Machine.execPortDown port remote s
  | .lpiEntry port => Sys2Proof.Machine.execLpiEntry port s
  | .lpiWake port => Sys2Proof.Machine.execLpiWake port s
  | .lldpTransmit port => Sys2Proof.Machine.execLldpTransmit port s
  | .portWake port => Sys2Proof.Machine.execPortWake port s
  | .laneLos lane => Sys2Proof.Machine.execLaneLos lane s
  | .laneLol lane => Sys2Proof.Machine.execLaneLol lane s
  | .laneAlignLock lane e => Sys2Proof.Machine.execLaneAlignLock lane e s
  | .laneAlignLost lane e => Sys2Proof.Machine.execLaneAlignLost lane e s
  | .laneBerHigh lane high => Sys2Proof.Machine.execLaneBerHigh lane high s
  | .lanePatternLock lane gained window bits errors => Sys2Proof.Machine.execLanePatternLock lane gained window bits errors s
  | .dieLaneSpared down lane => Sys2Proof.Machine.execDieLaneSpared down lane s
  | .dieLaneLoss down lane => Sys2Proof.Machine.execDieLaneLoss down lane s
  | .dieRetrainComplete goodUp goodDown => Sys2Proof.Machine.execDieRetrainComplete goodUp goodDown s
  | .dieSplit => Sys2Proof.Machine.execDieSplit s
  | .splitRetrainAttempt goodUp goodDown => Sys2Proof.Machine.execSplitRetrainAttempt goodUp goodDown s
  | .commitReadinessCheck g => Sys2Proof.Machine.execCommitReadinessCheck g s
  | .commitInstant g => Sys2Proof.Machine.execCommitInstant g s
  | .groupLapsed g => Sys2Proof.Machine.execGroupLapsed g s
  | .groupFree g => Sys2Proof.Machine.execGroupFree g s
  | .gateListStart port => Sys2Proof.Machine.execGateListStart port s
  | .gateEvent port => Sys2Proof.Machine.execGateEvent port s
  | .wheelSlot => Sys2Proof.Machine.execWheelSlot s
  | .barometerSample slot => Sys2Proof.Machine.execBarometerSample slot s
  | .snapshotDue buffer => Sys2Proof.Machine.execSnapshotDue buffer s
  | .powerScheduleDue => Sys2Proof.Machine.execPowerScheduleDue s
  | .wakeRequest src => Sys2Proof.Machine.execWakeRequest src s
  | .wakeStepReady r => Sys2Proof.Machine.execWakeStepReady r s
  | .wakeStepTimeout cause => Sys2Proof.Machine.execWakeStepTimeout cause s
  | .coalescingTimer t => Sys2Proof.Machine.execCoalescingTimer t s
  | .scrub f => Sys2Proof.Machine.execScrub f s
  | .timeOutputEdge o => Sys2Proof.Machine.execTimeOutputEdge o s
  | .carrierDisableComplete n => Sys2Proof.Machine.execCarrierDisableComplete n s
  | .mchPortTransmit ch => Sys2Proof.Machine.execMchPortTransmit ch s
  | .partnerLpi port enter => Sys2Proof.Machine.execPartnerLpi port enter s
  | .laneSignalDetect lane => Sys2Proof.Machine.execLaneSignalDetect lane s
  | .laneCdrLock lane => Sys2Proof.Machine.execLaneCdrLock lane s
  | .rngRecovered => Sys2Proof.Machine.execRngRecovered s
  | .msixVectorUnmask v => Sys2Proof.Machine.execMsixVectorUnmask v s
  | .pmcCounterWrap n => Sys2Proof.Machine.execPmcCounterWrap n s
  | .thermalTripClear => Sys2Proof.Machine.execThermalTripClear s
  | .ptpMessageTransmit port announce => Sys2Proof.Machine.execPtpMessageTransmit port announce s
  | .esmcTransmit port => Sys2Proof.Machine.execEsmcTransmit port s

end Sys2Proof.Machine
end

