-- ==== Sys2Proof/Safety.lean ====
section
/-! DEFINITION. The terms that statements use: a command that runs at once and completes, what no command changes, and the
order of the fuses. -/

namespace Sys2Proof.Machine

/-- A Palgil command that runs at once: direct, on a terminal that can run it, past the security checks (R247, R254, R305,
R327). -/
abbrev runsNow (h : Hdr) (c : Cmd) (s : State) : Prop :=
  h.group = 0 ∧ notReady (Cmd.opcode c) (takeUp h s) = false ∧ (secCheck h (Cmd.opcode c) (takeUp h s)).1 = none

/-- The state in which a command's body runs: the command is taken, and the challenge its token names consumed. -/
def begun (h : Hdr) (c : Cmd) (s : State) : State := (secCheck h (Cmd.opcode c) (takeUp h s)).2

/-- The row completes: it answers a next state, which is the reply OK with some data to a state that `P` describes. -/
def completes (i : Instr) (h : Hdr) (o : Nat) (s : State) (P : State → Prop) : Prop :=
  ∃ d s', exec i s = .next (sendReply h o { data := d } s') ∧ P s'

/-- The row fails with a status and changes nothing but what taking and answering a command changes (R248, R258). -/
def failsWith (i : Instr) (h : Hdr) (o : Nat) (st : Status) (s : State) : Prop :=
  exec i s = .next (sendReply h o { status := st } (takeUp h s))

/-- The row answers OK with the data that `f` reads from the state the command finds, and changes nothing but what taking and
answering a command changes. -/
def reads (i : Instr) (h : Hdr) (o : Nat) (s : State) (f : State → List Nat) : Prop :=
  exec i s = .next (sendReply h o { data := f (takeUp h s) } (takeUp h s))

/-- The row of command `c`: where its body answers at once, the row answers a next state, which is the body's reply to the state the
body leaves. -/
def runsAs (i : Instr) (h : Hdr) (c : Cmd) : Prop :=
  ∀ (s u : State) (a : Ans), runsNow h c s → bodyOf h c (begun h c s) = (some a, u) →
    exec i s = .next (sendReply h (Cmd.opcode c) a u)

/-- The row answers a next state, whatever the state is that it finds. -/
def answers (i : Instr) : Prop := ∀ s : State, ∃ t, exec i s = .next t

/-- The row answers a next state that `P` describes. -/
def nextWith (i : Instr) (s : State) (P : State → Prop) : Prop := ∃ t, exec i s = .next t ∧ P t

/-- No unit but those named: carriers other than `n`, ports other than `p`, lanes other than `n`, associations other than
`i`, channels other than `c`, groups other than `g` are as they were. -/
def otherCarriers (n : Nat) (s t : State) : Prop := ∀ m, m ≠ n → t.carrier m = s.carrier m
def otherPorts (p : Nat) (s t : State) : Prop := ∀ m, m ≠ p → t.port m = s.port m
def otherLanes (n : Nat) (s t : State) : Prop := ∀ m, m ≠ n → t.lane m = s.lane m
def otherAssocs (i : Nat) (s t : State) : Prop := ∀ m, m ≠ i → t.assoc m = s.assoc m
def otherChannels (c : Nat) (s t : State) : Prop := ∀ m, m ≠ c → t.channel m = s.channel m
def otherGroups (g : Nat) (s t : State) : Prop := ∀ m, m ≠ g → t.grp m = s.grp m

/-- The fuses agree: a device is OWNED exactly when an owner digest is fused (R213, R216). -/
abbrev fusesOk (s : State) : Prop := s.fuses.lifecycle = .owned ↔ s.fuses.owner ≠ none

/-- The order of lifecycle states (R213). -/
def lifecycleRank (l : Lifecycle) : Nat := match l with | .blank => 0 | .unowned => 1 | .owned => 2

/-- Fuses only go forward (R213, R216, R338). -/
def fusesForward (a b : Fuses) : Prop :=
  b.variant = a.variant ∧ b.stepMajor = a.stepMajor ∧ b.stepMinor = a.stepMinor ∧ a.minSec ≤ b.minSec ∧
    lifecycleRank a.lifecycle ≤ lifecycleRank b.lifecycle ∧ (∀ d, a.owner = some d → b.owner = some d)

end Sys2Proof.Machine
end

