-- ==== Sys2Proof/Certificates/Slice0/Obligations.lean ====
section
/-! DEFINITION. The statements for the provers: what the commands do, family by family, and what every step keeps. The words
that they share stand in Safety.lean. -/

open Sys2Proof Sys2Proof.Machine

/-- A step takes the command at the front of the queue and runs it with the rest of the queue. -/
def Obligations.StepRunsFrontCommand : Prop :=
  ∀ (c : Instr) (rest : List Instr) (s : State),
    step { s with pending := c :: rest } = exec c { s with pending := rest }

/-- The state after power-on reset: values that the reset columns of the spec's register and state tables give, for every kind of
state (chapters 02 to 15). -/
def Obligations.ResetState : Prop :=
  let s := State.reset
  s.pending = [] ∧ s.clk.now = 0 ∧ s.fuses.lifecycle = .blank ∧ s.fuses.owner = none ∧
    s.dev.bootStage = 0 ∧ s.dev.linkWidth = 0 ∧ s.dev.linkRate = 0 ∧ s.dev.linkState = 0 ∧ s.dev.booting = false ∧
    s.time.servo = .free ∧ s.time.dDown = none ∧ timeValid s = false ∧ s.time.alpha = 0x8000 ∧ s.time.asym = 0 ∧ s.time.rtt = 0 ∧
    s.time.y = 50 ∧ s.time.drift = 100 ∧ s.time.limit = 1000 ∧ s.time.aligned = false ∧
    s.tio.flags = 0 ∧ s.tio.ppsOffset = 0x80000000 ∧
    (∀ n, (s.carrier n).state = .off ∧ (s.carrier n).slot = none ∧ (s.carrier n).ceil = 0 ∧ (s.carrier n).rxDelay = 0 ∧
      (s.carrier n).txDelay = 0 ∧ (s.carrier n).tuneTime = 60 ∧ (s.carrier n).held = [] ∧ (s.carrier n).standing = [] ∧
      (s.carrier n).gainA = 64 ∧ (s.carrier n).gainB = 16) ∧
    s.reg.state = .off ∧ s.reg.number = none ∧ s.reg.eMax = 0 ∧ s.reg.heads = [] ∧ s.reg.tResume = 1000 ∧
    (∀ c, (s.channel c).carrier = 0) ∧ s.cls.gen = 0 ∧ s.cls.curB = false ∧ s.cls.flows = [] ∧
    (∀ q, s.queue q = none) ∧ (∀ n, (s.lane n).mode = .monitor) ∧ (∀ q, s.refs.quadRef q = .board0) ∧ s.refs.outEn = 0 ∧
    s.die.widthUp = 20 ∧ s.die.widthDown = 20 ∧ s.die.split = false ∧
    (∀ p, (s.port p).cfg = none ∧ (s.port p).up = false ∧ (s.port p).promisc = true ∧ (s.port p).bcast = true ∧
      (s.port p).mcast = true ∧ (s.port p).pause.mode = .none ∧ (s.port p).idleHold = 10 ∧ (s.port p).gates = 0xFF) ∧
    (∀ i, (s.assoc i).state = .free ∧ (s.assoc i).threshold = 64 ∧ (s.assoc i).oldHold = 1100) ∧ s.sec.dmax = 2 ∧
    s.sec.unlocked = false ∧ s.sec.challenges = [] ∧
    s.cmd.sqBase = 0 ∧ s.cmd.rqBase = 0 ∧ s.cmd.sqLog = 4 ∧ s.cmd.rqLog = 4 ∧ s.cmd.sqTail = 0 ∧ s.cmd.sqHead = 0 ∧
    s.cmd.rqHead = 0 ∧ s.cmd.rqTail = 0 ∧ s.cmd.en = false ∧ s.cmd.ready = false ∧ s.cmd.cfgErr = false ∧
    s.cmd.inFlight = 0 ∧ s.cmd.phase = true ∧
    (∀ g, (s.grp g).state = .free) ∧ s.evc.pend = 0 ∧ s.evc.mask = BitVec.allOnes 256 ∧
    (∀ n, s.evc.cfgOf n = { bypass := false, target := 0, prio := 0 }) ∧
    (∀ t, (s.evc.target t).irqEn = false ∧ (s.evc.target t).msixEn = false ∧ (s.evc.target t).coalTime = 1 ∧
      (s.evc.target t).coalCount = 1 ∧ (s.evc.target t).stack = []) ∧
    s.pmc.freeze = false ∧ s.pmc.ovf = 0 ∧ (∀ n, s.pmc.evselOf n = 0 ∧ s.pmc.count n = 0) ∧
    s.pwr.hostVote = 0 ∧ s.pwr.wakeEn = 1 ∧ s.pwr.lastUs = 0xFFFF ∧ s.pwr.warmCount = 0 ∧ s.pwr.cause = 1 ∧ s.pwr.retLost = 0 ∧
    s.pwr.retValid = 0 ∧ s.pwr.vreq = 0

/-- The fuses agree after reset: not OWNED, and no owner fused (R213, R216). -/
def Obligations.ResetFusesOk : Prop :=
  fusesOk State.reset

/-- Every step keeps the fuses' agreement: the device is OWNED exactly when an owner's digest is fused (R213, R216). -/
def Obligations.StepKeepsFusesOk : Prop :=
  ∀ s t : State, fusesOk s → step s = .next t → fusesOk t

/-- No step takes a fuse back (R213, R216, R338): variant and stepping stay, the minimum security version does not fall, the
lifecycle does not go back, and a fused owner stays. `fusesOk` rules out states that no run reaches (StepKeepsFusesOk). -/
def Obligations.FusesOnlyForward : Prop :=
  ∀ s t : State, fusesOk s → step s = .next t → fusesForward s.fuses t.fuses

/-- A step takes one command from the queue and adds none; only a power-on reset sets local time back, and no command
advances it: on an empty queue a tick does (R9; log entry 10). -/
def Obligations.QueueAndLocalTime : Prop :=
  (∀ s t : State, step s = .next t → t.pending = s.pending.tail) ∧
    (∀ (c : Instr) (s t : State), c ≠ .porstAssert → exec c s = .next t → t.clk.now = s.clk.now) ∧
    (∀ s : State, s.pending = [] → ∃ t, step s = .next t ∧ t.clk.now = s.clk.now + tick)

/-- No command is refused, and none stops but a register write outside BAR0 or off a word boundary (R7, R8; log entry 45). -/
def Obligations.StepsStopOnlyOnBadOffsets : Prop :=
  (∀ (s : State) (r : Refusal), step s ≠ .refused r) ∧
    ∀ (s : State) (f : Fault), step s = .fault f →
      ∃ o v rest, s.pending = .registerWrite o v :: rest ∧ (0x10000 ≤ o ∨ o % 4 ≠ 0)

/-- Time settings (Table 2-7; R30, R34, R40, R42, R44): each sets what its parameters name and nothing else of the time
ports.
Writes of the time port (R45, R47, Table 2-6): each register takes its read-write fields, TP_FLAGS clears where 1 is
written, a read-only or reserved address changes nothing. -/
def Obligations.TimePort : Prop :=
  (∀ (h : Hdr) (s : State),
    (∀ input enable falling, runsNow h (.timeCaptureConfig input enable falling) s → input < 4 →
      completes (.timeCaptureConfig h input enable falling) h 0x0203 s fun t =>
        t = { takeUp h s with tio := { s.tio with cap := t.tio.cap } } ∧
        (Tbl.get {} t.tio.cap input).en = enable ∧ (Tbl.get {} t.tio.cap input).falling = falling ∧
        ∀ k, k ≠ input → Tbl.get {} t.tio.cap k = Tbl.get {} s.tio.cap k) ∧
    (∀ n en low mode period width phase comp, runsNow h (.timeOutputSet ⟨.tout n, en, low, mode, period, width, phase, comp, none⟩) s →
      n < 4 → mode < 4 → period < 4294967296 → width < 4294967296 → phase < 4294967296 →
      completes (.timeOutputSet h ⟨.tout n, en, low, mode, period, width, phase, comp, none⟩) h 0x0204 s fun t =>
        t = { takeUp h s with tio := { s.tio with tout := t.tio.tout } } ∧
        Tbl.get {} t.tio.tout n = { en := en, low := low, mode := mode, period := period, width := width, phase := phase } ∧
        ∀ k, k ≠ n → Tbl.get {} t.tio.tout k = Tbl.get {} s.tio.tout k) ∧
    (∀ en low mode period width phase comp thr, runsNow h (.timeOutputSet ⟨.pps, en, low, mode, period, width, phase, comp, some thr⟩) s →
      100 ≤ width → width ≤ 500000000 →
      completes (.timeOutputSet h ⟨.pps, en, low, mode, period, width, phase, comp, some thr⟩) h 0x0204 s fun t =>
        t = { takeUp h s with tio := { s.tio with
          ppsEn := en, ppsLow := low, ppsWidth := width, ppsComp := comp, ppsThreshold := thr } }) ∧
    (∀ en low mode period width phase comp, runsNow h (.timeOutputSet ⟨.freq, en, low, mode, period, width, phase, comp, none⟩) s →
      completes (.timeOutputSet h ⟨.freq, en, low, mode, period, width, phase, comp, none⟩) h 0x0204 s fun t =>
        t = { takeUp h s with tio := { s.tio with freqEn := en } }) ∧
    (∀ port enable domain alt two, runsNow h (.timePtpSet port enable domain alt two) s → port < 32 → s.hasPort port = true →
      24 ≤ domain → domain ≤ 43 →
      completes (.timePtpSet h port enable domain alt two) h 0x0208 s fun t =>
        t = { takeUp h s with tio := { s.tio with ptp := t.tio.ptp } } ∧
        (Tbl.get {} t.tio.ptp port).en = enable ∧ (Tbl.get {} t.tio.ptp port).domain = domain ∧
        (Tbl.get {} t.tio.ptp port).altAddr = alt ∧ (Tbl.get {} t.tio.ptp port).twoStep = two ∧
        ∀ k, k ≠ port → Tbl.get {} t.tio.ptp k = Tbl.get {} s.tio.ptp k) ∧
    (∀ port enable qt qh, runsNow h (.timeSynceSet port enable qt qh) s → port < 32 → s.hasPort port = true →
      qt < 16 → qh < 16 →
      completes (.timeSynceSet h port enable qt qh) h 0x0209 s fun t =>
        t = { takeUp h s with tio := { s.tio with synce := t.tio.synce } } ∧
        Tbl.get {} t.tio.synce port = { en := enable, qlTrack := qt, qlHold := qh } ∧
        ∀ k, k ≠ port → Tbl.get {} t.tio.synce k = Tbl.get {} s.tio.synce k)) ∧
  (∀ (s : State) (v : Word), s.pwr.asleep = false →
    exec (.tpWrite 0x04 v) s = .next { s with tio := { s.tio with flags := s.tio.flags &&& ~~~ v.setWidth 6 } } ∧
    exec (.tpWrite 0x28 v) s = .next { s with tio := { s.tio with
      ppsEn := v.getLsbD 31, ppsLow := v.getLsbD 30, ppsWidth := v.toNat % 2 ^ 30 } } ∧
    exec (.tpWrite 0x29 v) s = .next { s with tio := { s.tio with ppsComp := v.setWidth 16 } } ∧
    exec (.tpWrite 0x2A v) s = .next { s with tio := { s.tio with freqEn := v.getLsbD 31 } } ∧
    (∀ n : Fin 4, nextWith (.tpWrite (BitVec.ofNat 6 (0x0B + 4 * n)) v) s fun t =>
      Tbl.get {} t.tio.cap n = { Tbl.get {} s.tio.cap n with en := v.getLsbD 31, falling := v.getLsbD 30 } ∧
      (∀ k, k ≠ n.val → Tbl.get {} t.tio.cap k = Tbl.get {} s.tio.cap k) ∧
      t = { s with tio := { s.tio with cap := t.tio.cap } }) ∧
    (∀ n : Fin 4, ∀ r : Fin 4, nextWith (.tpWrite (BitVec.ofNat 6 (0x18 + 4 * n + r)) v) s fun t =>
      Tbl.get {} t.tio.tout n = (match r.val with
        | 0 => { Tbl.get {} s.tio.tout n with en := v.getLsbD 31, low := v.getLsbD 30, mode := v.toNat / 2 ^ 28 % 4 }
        | 1 => { Tbl.get {} s.tio.tout n with period := v.toNat }
        | 2 => { Tbl.get {} s.tio.tout n with width := v.toNat }
        | _ => { Tbl.get {} s.tio.tout n with phase := v.toNat }) ∧
      (∀ k, k ≠ n.val → Tbl.get {} t.tio.tout k = Tbl.get {} s.tio.tout k) ∧
      t = { s with tio := { s.tio with tout := t.tio.tout } }) ∧
    (∀ a : BitVec 6, (a.toNat < 4 ∨ (4 < a.toNat ∧ a.toNat < 0x0B) ∨ 0x2B ≤ a.toNat) →
      exec (.tpWrite a v) s = .next s))

/-- Line time settings (Table 2-7; R27, R29, R30, R34): α within 0x4000 to 0xC000, the asymmetry override, the holdover
constants and the host's time carrier take their new values; no carrier, no registration, no queue and no association is
touched. -/
def Obligations.LineTimeSettings : Prop :=
  ∀ (h : Hdr) (s : State),
    (∀ alpha, runsNow h (.timeSplitSet alpha) s → 0x4000 ≤ alpha → alpha ≤ 0xC000 →
      completes (.timeSplitSet h alpha) h 0x0205 s fun t =>
        t.time.alpha = alpha ∧ t.carriers = s.carriers ∧ t.reg = s.reg ∧ t.q = s.q ∧ t.fuses = s.fuses) ∧
    (∀ alpha, runsNow h (.timeSplitSet alpha) s → alpha < 0x4000 ∨ 0xC000 < alpha →
      failsWith (.timeSplitSet h alpha) h 0x0205 .paramRange s) ∧
    (∀ a, runsNow h (.timeAsymmetrySet a false) s → -2 ^ 31 ≤ a → a < 2 ^ 31 →
      completes (.timeAsymmetrySet h a false) h 0x0206 s fun t =>
        t.time.asym = a ∧ t.time.asymOvr = true ∧ t.time.alpha = s.time.alpha ∧ t.carriers = s.carriers ∧ t.reg = s.reg) ∧
    (∀ a, runsNow h (.timeAsymmetrySet a true) s →
      completes (.timeAsymmetrySet h a true) h 0x0206 s fun t =>
        t = { takeUp h s with time := { s.time with asymOvr := false } }) ∧
    (∀ y d limit sq, runsNow h (.timeHoldoverSet y d limit sq) s →
      completes (.timeHoldoverSet h y d limit sq) h 0x0207 s fun t =>
        t.time.y = y ∧ t.time.drift = d ∧ t.time.limit = limit ∧ t.time.squelch = sq ∧ t.time.servo = s.time.servo ∧
        t.time.holdover = s.time.holdover ∧ t = { takeUp h s with time := t.time, evc := t.evc, out := t.out }) ∧
    (∀ n, runsNow h (.timeCarrierSet (some n)) s → n < 4 → s.hasCarrier n = true →
      completes (.timeCarrierSet h (some n)) h 0x020A s fun t =>
        t.time.hostCarrier = some n ∧ t.carriers = s.carriers ∧ t.reg = s.reg) ∧
    (runsNow h (.timeCarrierSet none) s →
      completes (.timeCarrierSet h none) h 0x020A s fun t =>
        t.time.hostCarrier = none ∧ t.carriers = s.carriers ∧ t.reg = s.reg)

/-- Capture inputs (R44): an accepted edge is stored with line time, validity and GAP; one less than 16 ns after the previous
accepted edge and one that finds 16 entries are counted as lost, the latter with GAP and TP_FLAGS.CAP_OVF; CAPn_LO pops
the oldest entry, which CAPn_HI and CAPn_SEC then show, CAPn_STAT clears LOST, time.capture pops up to `max` entries and leaves
what CAPn_HI and CAPn_SEC show. No other input and no other time register
changes. On an empty FIFO what CAPn_LO reads is a free value (log entry 3). -/
def Obligations.CaptureInputs : Prop :=
  ∀ (s : State) (n : Nat), s.pwr.asleep = false → n < 4 →
    (∀ sub, sub < 4 → (Tbl.get {} s.tio.cap n).en = true →
      (∀ e, (Tbl.get {} s.tio.cap n).lastEdge = some e → e + ns 16 ≤ s.clk.now + sub * quarter) →
      (Tbl.get {} s.tio.cap n).fifo.length < 16 →
      nextWith (.tcapEdge n (Tbl.get {} s.tio.cap n).falling sub) s fun t =>
        Tbl.get {} t.tio.cap n = { Tbl.get {} s.tio.cap n with
          fifo := (Tbl.get {} s.tio.cap n).fifo ++
            [{ time := lineTime s + sub * quarter, valid := timeValid s, gap := (Tbl.get {} s.tio.cap n).gapNext }],
          gapNext := false, lastEdge := some (s.clk.now + sub * quarter) } ∧
        (∀ k, k ≠ n → Tbl.get {} t.tio.cap k = Tbl.get {} s.tio.cap k) ∧
        t = { s with tio := { s.tio with cap := t.tio.cap }, evc := t.evc, out := t.out }) ∧
    (∀ sub e, sub < 4 → (Tbl.get {} s.tio.cap n).en = true → (Tbl.get {} s.tio.cap n).lastEdge = some e →
      s.clk.now + sub * quarter < e + ns 16 →
      nextWith (.tcapEdge n (Tbl.get {} s.tio.cap n).falling sub) s fun t =>
        Tbl.get {} t.tio.cap n = { Tbl.get {} s.tio.cap n with lost := satInc 16 (Tbl.get {} s.tio.cap n).lost } ∧
        (∀ k, k ≠ n → Tbl.get {} t.tio.cap k = Tbl.get {} s.tio.cap k) ∧
        t = { s with tio := { s.tio with cap := t.tio.cap } }) ∧
    (∀ sub, sub < 4 → (Tbl.get {} s.tio.cap n).en = true →
      (∀ e, (Tbl.get {} s.tio.cap n).lastEdge = some e → e + ns 16 ≤ s.clk.now + sub * quarter) →
      16 ≤ (Tbl.get {} s.tio.cap n).fifo.length →
      nextWith (.tcapEdge n (Tbl.get {} s.tio.cap n).falling sub) s fun t =>
        Tbl.get {} t.tio.cap n = { Tbl.get {} s.tio.cap n with
          lost := satInc 16 (Tbl.get {} s.tio.cap n).lost, gapNext := true,
          lastEdge := some (s.clk.now + sub * quarter) } ∧
        t.tio.flags = s.tio.flags ||| 8 ∧
        (∀ k, k ≠ n → Tbl.get {} t.tio.cap k = Tbl.get {} s.tio.cap k) ∧
        t = { s with tio := { s.tio with cap := t.tio.cap, flags := t.tio.flags }, evc := t.evc, out := t.out }) ∧
    (∀ e l, (Tbl.get {} s.tio.cap n).fifo = e :: l →
      ∃ t, exec (.capLoRead n) s = .next (emit (.read (loWord e.time)) t) ∧
        Tbl.get {} t.tio.cap n = { Tbl.get {} s.tio.cap n with fifo := l, popped := e, shown := e.time } ∧
        (∀ k, k ≠ n → Tbl.get {} t.tio.cap k = Tbl.get {} s.tio.cap k) ∧
        t = { s with tio := { s.tio with cap := t.tio.cap }, evc := t.evc, out := t.out }) ∧
    ((Tbl.get {} s.tio.cap n).fifo = [] →
      ∃ v, exec (.capLoRead n) s =
        .next (emit (.read v) { s with clk := { s.clk with draws := s.clk.draws + 1 } })) ∧
    (∃ t, exec (.capLostRead n) s = .next (emit (.read (Capture.stat (Tbl.get {} s.tio.cap n))) t) ∧
        Tbl.get {} t.tio.cap n = { Tbl.get {} s.tio.cap n with lost := 0 } ∧
        (∀ k, k ≠ n → Tbl.get {} t.tio.cap k = Tbl.get {} s.tio.cap k) ∧
        t = { s with tio := { s.tio with cap := t.tio.cap } }) ∧
    (∀ h max, runsNow h (.timeCapture n max) s → 1 ≤ max → max ≤ 16 →
      completes (.timeCapture h n max) h 0x0202 s fun t =>
        (Tbl.get {} t.tio.cap n).fifo = (Tbl.get {} s.tio.cap n).fifo.drop max ∧
        (Tbl.get {} t.tio.cap n).lost = (Tbl.get {} s.tio.cap n).lost ∧
        (Tbl.get {} t.tio.cap n).shown = (Tbl.get {} s.tio.cap n).shown ∧
        (∀ k, k ≠ n → Tbl.get {} t.tio.cap k = Tbl.get {} s.tio.cap k) ∧
        t = { takeUp h s with tio := { s.tio with cap := t.tio.cap }, evc := t.evc, out := t.out })

/-- The TIME_NOW latch (R46): TIME_NOW_LO loads all three words from line time; TIME_NOW_HI and TIME_NOW_SEC return that
latch on the next 4 edges and load a new one at any other time. -/
def Obligations.TimeNowLatch : Prop :=
  ∀ (s : State) (edge : Nat), s.pwr.asleep = false →
    (exec (.timeNowLoRead edge) s = .next (emit (.read (loWord (lineTime s)))
      { s with tio := { s.tio with latch := lineTime s, latchEdge := some edge } })) ∧
    (∀ isSec e, s.tio.latchEdge = some e → e < edge → edge ≤ e + 4 →
      exec (.timeNowHiRead isSec edge) s =
        .next (emit (.read (if isSec then secWord s.tio.latch else hiWord s.tio.latch)) s)) ∧
    (∀ isSec, (∀ e, s.tio.latchEdge = some e → edge ≤ e ∨ e + 4 < edge) →
      exec (.timeNowHiRead isSec edge) s =
        .next (emit (.read (if isSec then secWord (lineTime s) else hiWord (lineTime s)))
          { s with tio := { s.tio with latch := lineTime s } })) ∧
    exec .tptTimeNowLoRead s =
      .next (emit (.read (loWord (lineTime s))) { s with tio := { s.tio with mirror := lineTime s } })

/-- PPS_IN (R43): each rising edge stores its signed offset from the nearest second and never steers line time; the mismatch
event and flag come when the offset's magnitude exceeds the threshold, 100 ns after reset. -/
def Obligations.PpsInput : Prop :=
  State.reset.tio.ppsThreshold = 100 ∧ ∀ (s : State) (sub : Nat) (off : Int), s.pwr.asleep = false →
    (((lineTime s + sub * quarter) % sec 1 ≤ sec 1 / 2 →
        off = (((lineTime s + sub * quarter) % sec 1 : Nat) : Int) / 16384) ∧
      (sec 1 / 2 < (lineTime s + sub * quarter) % sec 1 →
        off = ((((lineTime s + sub * quarter) % sec 1 : Nat) : Int) - sec 1) / 16384)) →
    (off.natAbs ≤ 4 * s.tio.ppsThreshold →
      exec (.ppsInEdge sub) s =
        .next { s with tio := { s.tio with ppsOffset := BitVec.ofNat 32 (unsigned 32 off) } }) ∧
    (4 * s.tio.ppsThreshold < off.natAbs →
      exec (.ppsInEdge sub) s = .next (raise 0x2A { s with tio := { s.tio with
        ppsOffset := BitVec.ofNat 32 (unsigned 32 off), flags := s.tio.flags ||| 0x20 } }))

/-- The servo's events (R32, R34, R36, Table 2-2): TRACK after 10 s under 50 ns, HOLDOVER after 50 ms without stamps, the
holdover limit, the oscillator's return. None of them touches a carrier, the registration or the key state.
What the terminal sends by its clock (R37, R39 to R42, R204): a running output's next edge once line time has reached it, at the
level that POL gives; an Announce with the clock class in force, a Sync with its stamp, or with the stamp in a Follow_Up, each at
its rate; an ESMC message with the QL in force. Nothing else changes but the port that sends. -/
def Obligations.LineTimeEvents : Prop :=
  (∀ (s : State),
    (∀ t0, s.time.servo = .acquireFree ∨ s.time.servo = .acquireHoldover → s.time.phaseOk = some t0 →
      t0 + sec 10 ≤ s.clk.now → stampsLive s = true → nextWith .servoTrackEntry s fun t =>
        t.time.servo = .track ∧ t.time.holdover = none ∧ t.time.phaseOk = none ∧ t.tio.flags.getLsbD 2 = true ∧
        t.carriers = s.carriers ∧ t.reg = s.reg ∧ t.sec.selfTest = s.sec.selfTest ∧ t.cmd = s.cmd) ∧
    (∀ t0, s.time.stampAt = some t0 → t0 + ms 50 < s.clk.now → s.time.servo = .track ∨ s.time.servo = .acquireHoldover →
      nextWith .servoStampTimeout s fun t =>
        t.time.servo = .holdover ∧ t.time.holdover.isSome = true ∧ t.tio.flags.getLsbD 1 = true ∧
        t.time.dDown = s.time.dDown ∧ t.carriers = s.carriers ∧ t.reg = { s.reg with servoFell := true } ∧ t.cmd = s.cmd) ∧
    (s.time.holdover.isSome = true → s.time.beyond = false → holdoverBeyond s = true →
      exec .holdoverLimit s = .next (raise 0x2C { s with time := { s.time with beyond := true } })) ∧
    exec .refclkRecovered s = .next { s with time := { s.time with refOk := true, refHeld := false } }) ∧
  (∀ (s : State),
    (∀ o e active tr, nextEdge o s = some (e, active) → trainOf o s = some tr → e ≤ lineTime s →
      nextWith (.timeOutputEdge o) s fun t =>
        Tbl.get none t.tio.outEdge (outKey o) = some e ∧ Tbl.get false t.tio.outOn (outKey o) = active ∧
        (Tbl.get false s.tio.outOn (outKey o) ≠ active → t.out = .edge o e (active != tr.low) :: s.out) ∧
        (Tbl.get false s.tio.outOn (outKey o) = active → t.out = s.out) ∧
        (∀ k, k ≠ outKey o → Tbl.get none t.tio.outEdge k = Tbl.get none s.tio.outEdge k ∧
          Tbl.get false t.tio.outOn k = Tbl.get false s.tio.outOn k) ∧
        t = { s with tio := { s.tio with outEdge := t.tio.outEdge, outOn := t.tio.outOn }, out := t.out }) ∧
    (∀ o, nextEdge o s = none ∨ (∃ e active, nextEdge o s = some (e, active) ∧ lineTime s < e) →
      exec (.timeOutputEdge o) s = .next s) ∧
    (∀ port p start, p = Tbl.get {} s.tio.ptp port → start = (s.port port).nextStart s.clk.now →
      p.en = true → (s.port port).up = true → s.pwr.asleep = false →
      (ptpDue p.annAt 8 s = true → nextWith (.ptpMessageTransmit port true) s fun t =>
        t.out = .ptp port start {
          kind := .announce, dst := p.addr, domain := p.domain, seq := p.annId, clockClass := clockClass s
          utcOffset := (s.time.utc >>> 8).setWidth 16, leap := s.time.utc.setWidth 8 } :: s.out ∧
        Tbl.get {} t.tio.ptp port = { p with annId := (p.annId + 1) % 65536, annAt := some s.clk.now } ∧
        (∀ k, k ≠ port → Tbl.get {} t.tio.ptp k = Tbl.get {} s.tio.ptp k) ∧ otherPorts port s t ∧
        t = { s with tio := { s.tio with ptp := t.tio.ptp }, ports := t.ports, out := t.out }) ∧
      (ptpDue p.syncAt 16 s = true → p.twoStep = false → nextWith (.ptpMessageTransmit port false) s fun t =>
        (∃ m, t.out = .ptp port start m :: s.out ∧ m.kind = .sync ∧ m.dst = p.addr ∧ m.domain = p.domain ∧ m.seq = p.seqId ∧
          m.secs = secOf (txInstant (s.port port) (lineAt start s)) ∧
          m.nanos = nsOf (txInstant (s.port port) (lineAt start s)) ∧
          m.correction = fracOf (txInstant (s.port port) (lineAt start s))) ∧
        Tbl.get {} t.tio.ptp port = { p with seqId := (p.seqId + 1) % 65536, syncAt := some s.clk.now } ∧
        (∀ k, k ≠ port → Tbl.get {} t.tio.ptp k = Tbl.get {} s.tio.ptp k) ∧ otherPorts port s t ∧
        t = { s with tio := { s.tio with ptp := t.tio.ptp }, ports := t.ports, out := t.out }) ∧
      (ptpDue p.syncAt 16 s = true → p.twoStep = true → nextWith (.ptpMessageTransmit port false) s fun t =>
        (∃ m n after, t.out = .ptp port after n :: .ptp port start m :: s.out ∧ m.kind = .sync ∧ m.twoStep = true ∧
          m.seq = p.seqId ∧ n.kind = .followUp ∧ n.seq = p.seqId ∧ n.dst = p.addr ∧ m.dst = p.addr ∧ start < after ∧
          n.secs = secOf (txInstant (s.port port) (lineAt start s)) ∧
          n.nanos = nsOf (txInstant (s.port port) (lineAt start s))) ∧
        otherPorts port s t ∧
        t = { s with clk := t.clk, tio := { s.tio with ptp := t.tio.ptp }, ports := t.ports, out := t.out }) ∧
      (ptpDue p.annAt 8 s = false → exec (.ptpMessageTransmit port true) s = .next s) ∧
      (ptpDue p.syncAt 16 s = false → exec (.ptpMessageTransmit port false) s = .next s)) ∧
    (∀ port, (Tbl.get {} s.tio.synce port).en = true → (s.port port).up = true → s.pwr.asleep = false →
      nextWith (.esmcTransmit port) s fun t =>
        t.out = .esmc port ((s.port port).nextStart s.clk.now) (qlSent s (Tbl.get {} s.tio.synce port)) :: s.out ∧
        otherPorts port s t ∧ t = { s with ports := t.ports, out := t.out }))

/-- carrier.config given directly (R11, R51, R73): the carrier takes the fields, no other carrier changes; a slot in use and
a move of a carrier that is not OFF are refused.
The carrier commands (Table 3-10; R59, R65, R67, R71, R72, R356) on a carrier this variant has. -/
def Obligations.CarrierCommands : Prop :=
  (∀ (h : Hdr) (s : State) (n : Nat) (p : CarrierParams), runsNow h (.carrierConfig n p) s → n < 4 → s.hasCarrier n = true →
    carrierParamsOk p = true →
    (slotTaken n p.slot s = false → (s.carrier n).moves p = false ∨ (s.carrier n).state = .off →
      completes (.carrierConfig h n p) h 0x0301 s fun t =>
        (t.carrier n).slot = some p.slot ∧ (t.carrier n).band = p.band ∧ (t.carrier n).profile = p.profile ∧
        (t.carrier n).rxDelay = p.rxDelay ∧ (t.carrier n).txDelay = p.txDelay ∧ (t.carrier n).state = (s.carrier n).state ∧
        (t.carrier n).gate = (s.carrier n).gate ∧ (t.carrier n).ceil = (s.carrier n).ceil ∧
        ((s.carrier n).moves p = false → (t.carrier n).standing = (s.carrier n).standing ∧ t.reg = s.reg) ∧
        ((s.carrier n).slot ≠ some p.slot → (t.carrier n).held = [] ∧ (t.carrier n).standing = [] ∧
          (t.carrier n).ranged = false ∧ (∀ w, s.reg.window = some (n, w) → t.reg.window = none)) ∧
        otherCarriers n s t ∧ t.reg = { s.reg with window := t.reg.window } ∧ t.q = s.q) ∧
    (slotTaken n p.slot s = true → failsWith (.carrierConfig h n p) h 0x0301 .slotDuplicate s) ∧
    (slotTaken n p.slot s = false → (s.carrier n).moves p = true → (s.carrier n).state ≠ .off →
      failsWith (.carrierConfig h n p) h 0x0301 .carrierNotOff s)) ∧
  (∀ (h : Hdr) (s : State) (n : Nat), n < 4 → s.hasCarrier n = true →
    (runsNow h (.carrierEnable n) s → (s.carrier n).gateInhibit = none → (s.carrier n).state = .off →
      (s.carrier n).slot.isSome = true →
      completes (.carrierEnable h n) h 0x0302 s fun t =>
        (t.carrier n).state = .tune ∧ (t.carrier n).since = s.clk.now ∧ otherCarriers n s t ∧ t.reg = s.reg) ∧
    (runsNow h (.carrierEnable n) s → (s.carrier n).slot = none →
      failsWith (.carrierEnable h n) h 0x0302 .notConfigured s) ∧
    (∀ why, runsNow h (.carrierEnable n) s → (s.carrier n).slot.isSome = true → (s.carrier n).gateInhibit = some why →
      (completes (.carrierEnable h n) h 0x0302 s fun t =>
        (t.carrier n).gateInhibit = none ∧ (t.carrier n).state = (s.carrier n).state ∧ otherCarriers n s t ∧ t.reg = s.reg) ∨
      ∃ t, exec (.carrierEnable h n) s = .next (sendReply h 0x0302 { status := .gateTestFail } t) ∧
        (t.carrier n).gateInhibit = some why ∧ (t.carrier n).state = (s.carrier n).state ∧ otherCarriers n s t ∧
        t.reg = s.reg) ∧
    (runsNow h (.carrierDisable n) s → (s.carrier n).state ≠ .off →
      completes (.carrierDisable h n) h 0x0303 s fun t =>
        (t.carrier n).disabling = true ∧ (t.carrier n).state = (s.carrier n).state ∧ (t.carrier n).held = [] ∧
        (t.carrier n).drawn = [] ∧ otherCarriers n s t ∧ t.reg = s.reg) ∧
    (∀ p, runsNow h (.carrierGateSet n p) s → gateParamsOk p (s.carrier n).ceil = true →
      completes (.carrierGateSet h n p) h 0x0305 s fun t =>
        (t.carrier n).gateWait = (s.carrier n).gateWait ++ [{
          from_ := received s + us 1
          p := { p with table := if p.table = [] then
            (((s.carrier n).gateWait.getLast?.map (·.p)).getD (s.carrier n).gate).table else p.table } }] ∧
        (t.carrier n).gate = (s.carrier n).gate ∧ otherCarriers n s t ∧ t = { takeUp h s with carriers := t.carriers }) ∧
    (∀ p, runsNow h (.carrierGateSet n p) s → gateParamsOk p (s.carrier n).ceil = false →
      failsWith (.carrierGateSet h n p) h 0x0305 .paramRange s) ∧
    (∀ ceil, runsNow h (.carrierGateCeiling n ceil) s → ceil ≤ 4000 → (s.carrier n).state = .off →
      completes (.carrierGateCeiling h n ceil) h 0x0306 s fun t =>
        (t.carrier n).ceil = ceil ∧ (t.carrier n).gate.on = min (s.carrier n).gate.on ceil ∧
        (t.carrier n).gate.off = min (s.carrier n).gate.off ceil ∧ otherCarriers n s t ∧
        t = { begun h (.carrierGateCeiling n ceil) s with carriers := t.carriers }) ∧
    (∀ script, runsNow h (.carrierFeLoad n script) s → (∃ d ∈ script.duties, ∃ x ∈ d.2, 3 ≤ x.cs ∨ x.bits < 8 ∨ 32 < x.bits) →
      failsWith (.carrierFeLoad h n script) h 0x0307 .paramRange s) ∧
    (∀ script, runsNow h (.carrierFeLoad n script) s → (∀ d ∈ script.duties, ∀ x ∈ d.2, x.cs < 3 ∧ 8 ≤ x.bits ∧ x.bits ≤ 32) →
      completes (.carrierFeLoad h n script) h 0x0307 s fun t =>
        t.carrier n = { s.carrier n with script := script } ∧ otherCarriers n s t ∧
        t = { takeUp h s with carriers := t.carriers }) ∧
    (∀ x, runsNow h (.carrierFeAccess n x) s → x.cs < 3 → 8 ≤ x.bits → x.bits ≤ 32 → (s.carrier n).state = .off →
      FeScript.allows (s.carrier n).script x = true →
      completes (.carrierFeAccess h n x) h 0x0308 s fun t =>
        t = { takeUp h s with clk := { s.clk with draws := s.clk.draws + 1 }, out := .frontEnd (3 * n + x.cs) x :: s.out }) ∧
    (runsNow h (.carrierHintClear n) s →
      completes (.carrierHintClear h n) h 0x030A s fun t =>
        t.carrier n = { s.carrier n with hint := none } ∧ otherCarriers n s t ∧
        t = { takeUp h s with carriers := t.carriers }))

/-- Carrier states (Table 3-4; R57 to R60, R72): each event moves its carrier and leaves the others, the registration
and the command channel; a lock is a lock only with power above the threshold, dispersion within ±90,000 ps/nm, alignment found
and the slot plan of both frames.
Front-end and gate events (R52, R67, R70, R71, R74; Table 3-9): the hardware that guards the gate, the retry of a transfer, the
monitor of a second LOCKED throughout. -/
def Obligations.CarrierEvents : Prop :=
  (∀ (s : State) (n : Nat),
    ((s.carrier n).state = .tune → nextWith (.tuneComplete n) s fun t =>
      (t.carrier n).state = .acquire ∧ (t.carrier n).since = s.clk.now ∧ otherCarriers n s t ∧ t.reg = s.reg ∧
      t.cmd = s.cmd) ∧
    ((s.carrier n).state = .tune → (s.carrier n).since + sec (s.carrier n).tuneRun ≤ s.clk.now →
      nextWith (.tuneTimeout n) s fun t =>
        (t.carrier n).state = .off ∧ (t.carrier n).lastFault = .tuneTimeout ∧ otherCarriers n s t ∧ t.reg = s.reg ∧
        t.cmd = s.cmd) ∧
    (∀ pow d a b, (s.carrier n).state = .acquire ∨ (s.carrier n).state = .lost → (s.carrier n).disabling = false →
      (s.carrier n).threshold < pow → -90000 ≤ d → d ≤ 90000 → (s.carrier n).aligned = true →
      nextWith (.carrierLocked n pow d a b) s fun t =>
        (planMatches (s.carrier n) (s.carrier n).profile a = true → planMatches (s.carrier n) (s.carrier n).profile b = true →
          (t.carrier n).state = .locked ∧ (t.carrier n).hint = (s.carrier n).slot.map (fun k => (k, d)) ∧
          (t.carrier n).monitor = none) ∧
        (planMatches (s.carrier n) (s.carrier n).profile a = false ∨ planMatches (s.carrier n) (s.carrier n).profile b = false →
          (t.carrier n).state = .mismatch ∧ (t.carrier n).hint = (s.carrier n).hint) ∧
        (t.carrier n).since = s.clk.now ∧ otherCarriers n s t ∧ t.reg = s.reg ∧ t.cmd = s.cmd) ∧
    (∀ pow d a b, pow ≤ (s.carrier n).threshold ∨ (s.carrier n).aligned = false ∨ d < -90000 ∨ 90000 < d →
      exec (.carrierLocked n pow d a b) s = .next s) ∧
    ((s.carrier n).state = .acquire → nextWith (.acqTimeout n) s fun t =>
      (t.carrier n).acqFailed = true ∧ (t.carrier n).state = .acquire ∧ otherCarriers n s t ∧
      t = { s with carriers := t.carriers, evc := t.evc, out := t.out }) ∧
    (∀ pow, (s.carrier n).threshold ≤ pow → exec (.carrierLost n pow) s = .next s) ∧
    (∀ pow, (s.carrier n).state = .locked ∨ (s.carrier n).state = .mismatch → pow < (s.carrier n).threshold →
      nextWith (.carrierLost n pow) s fun t =>
      (t.carrier n).state = .lost ∧ (t.carrier n).since = s.clk.now ∧ otherCarriers n s t ∧ t.reg = s.reg ∧
      t.cmd = s.cmd) ∧
    ((s.carrier n).state = .lost → (s.carrier n).since + ms 50 ≤ s.clk.now → nextWith (.lostTimeout n) s fun t =>
      (t.carrier n).state = .acquire ∧ (t.carrier n).held = [] ∧ (t.carrier n).drawn = [] ∧ otherCarriers n s t ∧
      t.reg = s.reg ∧ t.cmd = s.cmd) ∧
    (received s < (s.carrier n).winEnd → exec (.carrierDisableComplete n) s = .next s) ∧
    ((s.carrier n).disabling = true → (s.carrier n).winEnd ≤ received s → nextWith (.carrierDisableComplete n) s fun t =>
      (t.carrier n).state = .off ∧ (t.carrier n).disabling = false ∧ (t.carrier n).held = [] ∧ otherCarriers n s t ∧
      t.reg = s.reg ∧ t.cmd = s.cmd)) ∧
  (∀ (s : State) (n : Nat),
    (∀ off, (s.carrier n).state = .locked ∨ (s.carrier n).state = .lost → nextWith (.laserFineTune n off) s fun t =>
      (t.carrier n).laserOff = off ∧ (t.carrier n).laserInhibit = decide (200 < off.natAbs) ∧
      (t.carrier n).state = (s.carrier n).state ∧ otherCarriers n s t ∧
      t = { s with carriers := t.carriers, evc := t.evc, out := t.out }) ∧
    (∀ a, (s.carrier n).state ≠ .off → nextWith (.feDuty n .bias true a) s fun t =>
      (t.carrier n).biasFail = 0 ∧ (t.carrier n).biasGood = satInc 8 (s.carrier n).biasGood ∧ otherCarriers n s t ∧
      t = { s with carriers := t.carriers, evc := t.evc, out := t.out }) ∧
    (∀ a, (s.carrier n).state ≠ .off → nextWith (.feDuty n .bias false a) s fun t =>
      (t.carrier n).biasGood = 0 ∧
      ((t.carrier n).biasInhibit = ((s.carrier n).biasInhibit || decide (16 ≤ satInc 8 (s.carrier n).biasFail))) ∧
      otherCarriers n s t ∧ t = { s with carriers := t.carriers, evc := t.evc, out := t.out }) ∧
    (∀ ok a, (s.carrier n).state ≠ .off → nextWith (.feDuty n .receiver ok a) s fun t =>
      (t.carrier n).rxFail = (if ok then 0 else satInc 8 (s.carrier n).rxFail) ∧ otherCarriers n s t ∧
      t = { s with carriers := t.carriers, evc := t.evc, out := t.out }) ∧
    (∀ ok a, (s.carrier n).state ≠ .off → nextWith (.feDuty n .alarms ok a) s fun t =>
      (t.carrier n).alarms = a ∧ otherCarriers n s t ∧ t = { s with carriers := t.carriers, evc := t.evc, out := t.out }) ∧
    (∀ duty x, s.hasCarrier n = true → FeScript.allows (s.carrier n).script x = true →
      nextWith (.spiTimeout n duty x) s fun t =>
        (t.carrier n).lastFault = (if duty = 5 then .shutdown else .spiTimeout) ∧ .frontEnd (3 * n + x.cs) x ∈ t.out ∧
        (t.carrier n).state = (s.carrier n).state ∧ otherCarriers n s t ∧
        t = { s with carriers := t.carriers, evc := t.evc, out := t.out }) ∧
    (∀ duty x, FeScript.allows (s.carrier n).script x = false → exec (.spiTimeout n duty x) s = .next s) ∧
    (∀ sensed held cause, s.hasCarrier n = true → gateAlarm n sensed held s = some cause →
      nextWith (.gateFault n sensed held) s fun t =>
        (t.carrier n).gateInhibit = some cause ∧ (t.carrier n).lastFault = cause ∧ (t.carrier n).drawn = [] ∧
        (received s < (s.carrier n).winEnd → .gateStop n false ∈ t.out) ∧
        (t.carrier n).winEnd = min (s.carrier n).winEnd (received s) ∧ gateDrive n (received s) t = 0 ∧
        (t.carrier n).state = (s.carrier n).state ∧ otherCarriers n s t ∧ t.reg = s.reg ∧ t.cmd = s.cmd) ∧
    (∀ sensed held, gateAlarm n sensed held s = none → exec (.gateFault n sensed held) s = .next s) ∧
    (∀ sensed held, (s.carrier n).ceil * 105 < sensed * 100 → 100 ≤ held → gateAlarm n sensed held s = some .ceiling) ∧
    (∀ sensed held, sensed ≤ (s.carrier n).gate.off → held < 100 → gateAlarm n sensed held s = none) ∧
    (∀ m, (s.carrier n).state = .locked → (s.carrier n).second ≠ secondOf s → (s.carrier n).whole = true →
      nextWith (.carrierSecond n m) s fun t =>
        (t.carrier n).monitor = some { m with uncorr := (s.carrier n).nUncorr } ∧ (t.carrier n).nUncorr = 0 ∧
        (t.carrier n).hint = (s.carrier n).slot.map (fun k => (k, m.disp)) ∧
        (t.carrier n).degraded = (((s.carrier n).degraded || decide ((s.carrier n).degradeRun < m.preFec)) &&
          !decide (m.preFec * 10 < (s.carrier n).degradeRun * 9)) ∧
        otherCarriers n s t ∧ t = { s with carriers := t.carriers, evc := t.evc, out := t.out }) ∧
    (∀ m, (s.carrier n).state = .locked → (s.carrier n).second ≠ secondOf s → (s.carrier n).whole = false →
      nextWith (.carrierSecond n m) s fun t =>
        (t.carrier n).monitor = (s.carrier n).monitor ∧ (t.carrier n).whole = true ∧ otherCarriers n s t ∧
        t = { s with carriers := t.carriers }) ∧
    (∀ m, (s.carrier n).second = secondOf s → exec (.carrierSecond n m) s = .next s))

/-- The registration commands (Table 4-9; R78, R83, R93, R95, R97). -/
def Obligations.RegistrationCommands : Prop :=
  ∀ (h : Hdr) (s : State),
    (runsNow h .regEnable s → s.reg.heads ≠ [] → s.reg.state = .off →
      completes (.regEnable h) h 0x0401 s fun t =>
        t.reg = { s.reg with state := .listen } ∧ t = { takeUp h s with reg := t.reg, evc := t.evc, out := t.out }) ∧
    (runsNow h .regEnable s → s.reg.heads ≠ [] → s.reg.state ≠ .off →
      completes (.regEnable h) h 0x0401 s fun t => t = takeUp h s) ∧
    (runsNow h .regEnable s → s.reg.heads = [] → failsWith (.regEnable h) h 0x0401 .noHeadList s) ∧
    (runsNow h .regDisable s → s.reg.state ≠ .off →
      completes (.regDisable h) h 0x0402 s fun t =>
        t.reg.state = .off ∧ t.reg.session = false ∧ t.reg.number = none ∧ t.reg.key = none ∧ t.reg.heads = s.reg.heads ∧
        t.reg.eMax = s.reg.eMax ∧
        (∀ n, n < s.variant.carriers → (t.carrier n).held = [] ∧ (t.carrier n).standing = [] ∧ (t.carrier n).ranged = false ∧
          (t.carrier n).state = (s.carrier n).state) ∧
        t = { takeUp h s with
          clk := t.clk, carriers := t.carriers, reg := t.reg, q := t.q, evc := t.evc, pmc := t.pmc, out := t.out }) ∧
    (∀ c tResume, runsNow h (.regConfig c tResume) s → 100 ≤ tResume → tResume ≤ 60000 →
      (∀ n, c = some n → n < 4 ∧ s.hasCarrier n = true) →
      completes (.regConfig h c tResume) h 0x0404 s fun t =>
        t = { takeUp h s with reg := { s.reg with carrier := c, tResume := tResume } }) ∧
    (∀ c tResume, runsNow h (.regConfig c tResume) s → tResume < 100 ∨ 60000 < tResume →
      failsWith (.regConfig h c tResume) h 0x0404 .paramRange s) ∧
    (∀ heads, runsNow h (.regHeadlistSet heads) s → heads.length ≤ 8 →
      completes (.regHeadlistSet h heads) h 0x0405 s fun t =>
        t = { begun h (.regHeadlistSet heads) s with reg := { s.reg with heads := heads } }) ∧
    (runsNow h .regEpochReset s → s.reg.state = .off →
      completes (.regEpochReset h) h 0x0406 s fun t =>
        t = { begun h .regEpochReset s with reg := { s.reg with eMax := 0, eMaxHead := none } }) ∧
    (runsNow h .regEpochReset s → s.reg.state ≠ .off →
      exec (.regEpochReset h) s =
        .next (sendReply h 0x0406 { status := .regNotOff } (begun h .regEpochReset s))) ∧
    (∀ n a b, runsNow h (.forecastConfig n a b) s → n < 4 → s.hasCarrier n = true → 1 ≤ a → a ≤ 255 → 1 ≤ b → b ≤ 255 →
      completes (.forecastConfig h n a b) h 0x0408 s fun t =>
        t.carrier n = { s.carrier n with gainA := a, gainB := b } ∧ otherCarriers n s t ∧
        t = { takeUp h s with carriers := t.carriers })

/-- The registration states (Table 4-2; R78 to R80, R84): each transition that an evaluation, a ranging timeout or T_RESUME
makes, the earlier row of the table first; none of them touches a client port, a key, an engine or a command.
Gusts (R81 to R84): an open discovery window is used by one gust with a fresh nonce; 100 ms without an answer draw a
back-off below 2 to the number of unanswered gusts, at most 2^6. -/
def Obligations.RegistrationStates : Prop :=
  (∀ (s : State),
    (s.reg.state = .off → nextWith .regEvaluation s fun t => t.reg.state = .off ∧ t.reg.session = s.reg.session) ∧
    (s.reg.state ≠ .off → s.reg.epochRose = true → nextWith .regEvaluation s fun t =>
      t.reg.state = .listen ∧ t.reg.session = false ∧ t.reg.key = none ∧ t.reg.epochRose = false) ∧
    (s.reg.state ≠ .off → s.reg.state ≠ .fenced → s.reg.epochRose = false → onlyRefused s = true →
      nextWith .regEvaluation s fun t => t.reg.state = .fenced ∧ t.reg.session = s.reg.session) ∧
    (s.reg.epochRose = false → onlyRefused s = false → s.reg.state = .listen → listenOk s = true →
      nextWith .regEvaluation s fun t => t.reg.state = .discover ∧ t.reg.attempt = 0 ∧ t.reg.unanswered = 0) ∧
    (∀ a, s.reg.epochRose = false → onlyRefused s = false → s.reg.state = .discover → s.reg.assigned = some a →
      nextWith .regEvaluation s fun t => t.reg.state = .ranging ∧ t.reg.assigned = some a) ∧
    (∀ x t0, s.reg.epochRose = false → onlyRefused s = false → s.reg.state = .ranging → s.reg.confirmed = some x →
      boundaryPassed s = true → s.reg.assigned = some t0 → nextWith .regEvaluation s fun t =>
        t.reg.state = .operating ∧ t.reg.session = true ∧ t.reg.number = some t0.1 ∧ t.reg.key = s.reg.key) ∧
    (s.reg.epochRose = false → onlyRefused s = false → s.reg.state = .operating →
      s.reg.servoFell = true ∨ (∀ t0, s.reg.tagAt = some t0 → t0 + ms 50 < s.clk.now) →
      nextWith .regEvaluation s fun t => t.reg.state = .holdover ∧ t.reg.session = s.reg.session) ∧
    (s.reg.epochRose = false → onlyRefused s = false → s.reg.state = .holdover ∨ s.reg.state = .fenced →
      s.reg.session = true → s.reg.resumed = true →
      nextWith .regEvaluation s fun t => t.reg.state = .operating ∧ t.reg.session = true ∧ t.reg.number = s.reg.number) ∧
    (s.reg.epochRose = false → onlyRefused s = false → s.reg.state = .holdover ∨ s.reg.state = .fenced →
      s.reg.session = true → s.reg.resumed = false → resumeOver s = true ∨ s.reg.deregister = true →
      nextWith .regEvaluation s fun t => t.reg.state = .listen ∧ t.reg.session = false ∧ t.reg.number = none) ∧
    (nextWith .regEvaluation s fun t =>
      t.reg.heads = s.reg.heads ∧ t.reg.eMax = s.reg.eMax ∧ t.reg.deregister = false ∧ t.reg.resumed = false ∧
      t.reg.servoFell = false ∧
      t = { s with clk := t.clk, carriers := t.carriers, reg := t.reg, q := t.q, evc := t.evc, pmc := t.pmc, out := t.out }) ∧
    (s.reg.state = .ranging → rangingOver s = true → nextWith .rangingTimeout s fun t =>
      t.reg.state = .discover ∧ t.reg.assigned = none ∧ t.reg.session = s.reg.session ∧
      t = { s with reg := t.reg, evc := t.evc, out := t.out }) ∧
    (s.reg.state = .holdover ∨ s.reg.state = .fenced → s.reg.session = true → resumeOver s = true → s.reg.resumed = false →
      nextWith .tResume s fun t => t.reg.state = .listen ∧ t.reg.session = false ∧ t.reg.key = none ∧
        t = { s with clk := t.clk, carriers := t.carriers, reg := t.reg, q := t.q, evc := t.evc, pmc := t.pmc, out := t.out })) ∧
  (∀ (s : State),
    (∀ n w spread, s.reg.window = some (n, w, spread) → regCarrier s = some n → s.reg.state = .discover → received s ≤ w →
      (∀ x, w ≤ x → (s.carrier n).mayEmit x = true) →
      nextWith .gust s fun t =>
        t.reg.window = none ∧ t.reg.attempt = s.reg.attempt + 1 ∧ t.reg.gust.isSome = true ∧ t.reg.inUse = some n ∧
        t.reg.unanswered = s.reg.unanswered ∧ t.reg.state = .discover ∧
        (∃ (win : Window) (b : List Byte), t.out = .gust n win b :: s.out ∧ w ≤ win.at_ ∧ (spread = 0 → win.at_ = w) ∧
          (1000 ≤ spread → win.at_ < w + ns spread) ∧ (t.carrier n).winStart = win.at_ ∧
          (t.carrier n).winEnd = win.at_ + win.len) ∧ otherCarriers n s t ∧
        t = { s with clk := t.clk, carriers := t.carriers, reg := t.reg, out := t.out } ∧ t.clk.now = s.clk.now) ∧
    (s.reg.window = none → exec .gust s = .next s) ∧
    (∀ n w spread, s.reg.window = some (n, w, spread) → regCarrier s ≠ some n ∨ s.reg.state ≠ .discover →
      nextWith .gust s fun t => t.out = s.out ∧ t.carriers = s.carriers ∧ t.reg = { s.reg with window := none }) ∧
    (∀ x t0, s.reg.gust = some (x, t0) → t0 + ms 100 ≤ s.clk.now →
      nextWith .gustUnanswered s fun t =>
        t.reg.gust = none ∧ t.reg.unanswered = s.reg.unanswered + 1 ∧ t.reg.backoff < 2 ^ min (s.reg.unanswered + 1) 6 ∧
        t.reg.state = s.reg.state ∧
        t = { s with clk := { s.clk with draws := s.clk.draws + 1 }, reg := t.reg, evc := t.evc, out := t.out }) ∧
    (∀ x t0, s.reg.gust = some (x, t0) → s.clk.now < t0 + ms 100 → exec .gustUnanswered s = .next s))

/-- Superframe signatures (R96, R97, R106): a complete superframe is unverifiable, failed or verified; a verified one of a
refused head is refused, of an acceptable one raises E_max and is the head to follow. -/
def Obligations.SuperframeVerdicts : Prop :=
  ∀ (s : State) (n : Nat) (signer : Option Ident) (a : SfAcc), (s.carrier n).sfDone = some a → s.reg.heads ≠ [] →
    ((a.absent = true ∨ a.agree = false) → nextWith (.superframeVerified n signer) s fun t =>
      t.carrier n = { s.carrier n with sfDone := none, nSfUnver := (s.carrier n).nSfUnver + 1 } ∧ otherCarriers n s t ∧
      t.time = s.time ∧ t.reg.eMax = s.reg.eMax ∧ t.reg.lastSf = s.reg.lastSf ∧
      t = { s with carriers := t.carriers, reg := t.reg, evc := t.evc, out := t.out }) ∧
    (a.absent = false → a.agree = true → signer ≠ some a.head ∨ (∀ k ∈ s.reg.heads, k.ident ≠ a.head) →
      nextWith (.superframeVerified n signer) s fun t =>
        t.carrier n = { s.carrier n with sfDone := none, nSfBad := (s.carrier n).nSfBad + 1 } ∧ otherCarriers n s t ∧
        t.time = s.time ∧ t.reg.eMax = s.reg.eMax ∧ t.reg.lastSf = s.reg.lastSf ∧
        t = { s with carriers := t.carriers, reg := t.reg, evc := t.evc, out := t.out }) ∧
    (a.absent = false → a.agree = true → signer = some a.head → (∃ k ∈ s.reg.heads, k.ident = a.head) →
      refusedHead a.head a.epoch s = true → nextWith (.superframeVerified n signer) s fun t =>
        (t.carrier n).nSfOk = (s.carrier n).nSfOk + 1 ∧ t.reg.fencedSeen = true ∧ t.reg.refusedAt = some s.clk.now ∧
        t.reg.eMax = s.reg.eMax ∧ t.reg.lastSf = s.reg.lastSf ∧ t.time = s.time ∧ otherCarriers n s t) ∧
    (a.absent = false → a.agree = true → signer = some a.head → (∃ k ∈ s.reg.heads, k.ident = a.head) →
      refusedHead a.head a.epoch s = false → nextWith (.superframeVerified n signer) s fun t =>
        (t.carrier n).nSfOk = (s.carrier n).nSfOk + 1 ∧ t.reg.eMax = (if s.reg.eMax.toNat < a.epoch.toNat then a.epoch else s.reg.eMax) ∧
        t.reg.lastSf = some (a.epoch, a.head) ∧ t.reg.acceptAt = some s.clk.now ∧ t.reg.state = s.reg.state ∧
        t.time.tEq = a.tEq ∧ t.time.headDelay = a.headDelay ∧ otherCarriers n s t ∧ t.q = s.q ∧ t.cmd = s.cmd)

/-- Registration messages (Table 5-3; R3, R85 to R88, R98): what the oldest message of each type does once its items are in order and
it verifies against a head the terminal acts on; a carrier that the variant has not receives none.
Messages that are not whole (R107): items out of order and a message that stays incomplete for 64 frames are discarded
and counted, and the registration stays as it is. -/
def Obligations.RegistrationMessages : Prop :=
  (∀ (s : State) (n k type : Nat) (w : Message) (l : List (List Byte)) (hd : Ident), s.hasCarrier n = true →
    (s.carrier n).message type = some w → messageItems type w.body = some l → headOk hd w.epoch s = true →
    (∀ m, type = 1 → m = rangeAssignOf l → slotCarrier m.slot s = some k → s.reg.state = .discover →
      s.reg.nonce = some (BitVec.ofNat 64 m.nonce) → m.nonce ≠ 0 → eqdOk s m.eqd = true →
      (∀ x ∈ (s.carrier n).mapWait, x.msg ≠ w) → nextWith (.rangeAssign n (some hd)) s fun t =>
        t.reg.assigned = some (m.number % 64, s.clk.now) ∧ t.reg.gust = none ∧ t.reg.inUse = some k ∧
        t.reg.state = .discover ∧ (t.carrier k).eqd = m.eqd ∧ (t.carrier k).ranged = false ∧
        t = { s with carriers := t.carriers, reg := t.reg }) ∧
    (∀ m, type = 1 → m = rangeAssignOf l → slotCarrier m.slot s = some k → s.reg.state = .operating → s.reg.session = true →
      s.reg.number = some m.number → (s.carrier k).ranged = false → eqdOk s m.eqd = true →
      (∀ x ∈ (s.carrier n).mapWait, x.msg ≠ w) → nextWith (.rangeAssign n (some hd)) s fun t =>
        (t.carrier k).eqd = m.eqd ∧ (t.carrier k).ranged = false ∧ t = { s with carriers := t.carriers }) ∧
    (∀ m, type = 2 → m = regConfirmOf l → slotCarrier m.slot s = some k → s.reg.state = .ranging → s.reg.confirmed = none →
      ownNumber s = some m.number → eqdOk s m.eqd = true → nextWith (.regConfirm n (some hd) true) s fun t =>
        (t.carrier k).eqd = m.eqd ∧ (t.carrier k).ranged = true ∧ t.reg.confirmed = some (received s) ∧
        t.reg.epoch = m.epoch ∧ t.reg.key.map (·.name) = some m.key ∧ t.reg.state = .ranging ∧ t.q = s.q ∧ t.cmd = s.cmd) ∧
    (∀ m, type = 3 → m = rangeUpdateOf l → slotCarrier m.slot s = some k → s.reg.state = .operating →
      s.reg.number = some m.number → (s.carrier k).ranged = true → eqdOk s m.eqd = true →
      ((m.eqd : Int) - (s.carrier k).eqdAt m.gsw).natAbs ≤ 40000 → nextWith (.rangeUpdate n (some hd)) s fun t =>
        (t.carrier k).eqdNext.getLast? = some (m.eqd, m.gsw) ∧ (t.carrier k).eqdAt m.gsw = m.eqd ∧
        t.reg = s.reg ∧ t.q = s.q ∧ t.cmd = s.cmd) ∧
    (∀ m, type = 3 → m = rangeUpdateOf l → slotCarrier m.slot s = some k → s.reg.state = .operating →
      s.reg.number = some m.number → (s.carrier k).ranged = true →
      40000 < ((m.eqd : Int) - (s.carrier k).eqdAt m.gsw).natAbs → nextWith (.rangeUpdate n (some hd)) s fun t =>
        (t.carrier k).eqd = (s.carrier k).eqd ∧ (t.carrier k).eqdNext = (s.carrier k).eqdNext ∧ t.time = s.time ∧
        t.reg = s.reg) ∧
    (∀ m, type = 4 → m = resumeOf l → s.reg.number = some m.number → s.reg.session = true → m.epoch = s.reg.epoch →
      s.reg.state = .holdover ∨ s.reg.state = .fenced → resumeOver s = false → (∀ p ∈ m.pairs, eqdOk s p.2 = true) →
      nextWith (.resume n (some hd)) s fun t =>
        t.reg = { s.reg with resumed := true } ∧ t.q = s.q ∧ t.cmd = s.cmd) ∧
    (type = 5 → s.reg.number = some (itemNat l 0) → nextWith (.deregister n (some hd)) s fun t =>
      t.reg = { s.reg with deregister := true } ∧
      t = { s with carriers := t.carriers, reg := t.reg, evc := t.evc, out := t.out }) ∧
    (∀ m, type = 6 → m = keyRollOf l → s.reg.number = some m.number → s.reg.session = true →
      nextWith (.keyRoll n (some hd) true) s fun t =>
        t.reg = { s.reg with keyNext := some { name := m.key, frame := m.frame } } ∧
        t = { s with carriers := t.carriers, reg := t.reg })) ∧
  (∀ (s : State) (n : Nat),
    (∀ w signer u, s.hasCarrier n = true → (s.carrier n).message 6 = some w → messageItems 6 w.body = none →
      nextWith (.keyRoll n signer u) s fun t =>
        (t.carrier n).nMsgBad = (s.carrier n).nMsgBad + 1 ∧ (t.carrier n).msgsDone = (s.carrier n).msgsDone.erase w ∧
        otherCarriers n s t ∧ t = { s with carriers := t.carriers }) ∧
    (∀ w l, s.hasCarrier n = true → (s.carrier n).message 5 = some w → messageItems 5 w.body = some l →
      nextWith (.deregister n none) s fun t =>
        (t.carrier n).nMsgBad = (s.carrier n).nMsgBad ∧ otherCarriers n s t ∧ t.reg.state = s.reg.state ∧
        t.reg.deregister = s.reg.deregister) ∧
    (∀ signer u, s.hasCarrier n = false →
      exec (.rangeAssign n signer) s = .next s ∧ exec (.regConfirm n signer u) s = .next s ∧
      exec (.rangeUpdate n signer) s = .next s ∧ exec (.resume n signer) s = .next s ∧
      exec (.deregister n signer) s = .next s ∧ exec (.keyRoll n signer u) s = .next s) ∧
    (∀ id, (s.carrier n).msgs.any (fun m => m.msgId == id && decide (64 ≤ m.age)) = true →
      nextWith (.msgTimeout n id) s fun t =>
        t.carrier n = { s.carrier n with
          msgs := (s.carrier n).msgs.filter (fun m => m.msgId != id), nMsgTimeout := (s.carrier n).nMsgTimeout + 1 } ∧
        otherCarriers n s t ∧ t = { s with carriers := t.carriers, evc := t.evc, out := t.out }))

/-- Downstream frames and carrier states (Table 3-4; R17, R57, R58, R61, R73, R103 to R105): the hunt, a slot-plan mismatch, its end,
the fourth consecutive miss of the alignment word, an absent overhead, a frame whose control tag fails, the first frame of
another symbol rate; a carrier that is OFF or tuning takes no frame.
Cells of the line (R110; R109 for the timeout's count): a reassembly context not closed within 10 ms is discarded and
counted, the others stay.
cell.groups.set (R109): the terminal listens to the groups of the bitmap. -/
def Obligations.Downstream : Prop :=
  (∀ (s : State) (n : Nat) (f : DownFrame) (p : Profile), p = (s.carrier n).profileFor (received s) →
    ((s.carrier n).state = .off ∨ (s.carrier n).state = .tune → exec (.downstreamFrame n f) s = .next s) ∧
    ((s.carrier n).state = .acquire ∨ (s.carrier n).state = .lost → nextWith (.downstreamFrame n f) s fun t =>
      t.carrier n = huntFrame f (s.carrier n) ∧ otherCarriers n s t ∧ t = { s with carriers := t.carriers }) ∧
    (∀ x w, (s.carrier n).aligned = false → (s.carrier n).hunt = [(x, 2)] → f.signs = [(x, w)] →
      x < Prof.symbols (s.carrier n).profile →
      (fawMatch w = true → (huntFrame f (s.carrier n)).aligned = true) ∧
      (fawMatch w = false → (huntFrame f (s.carrier n)).aligned = false ∧ (huntFrame f (s.carrier n)).hunt = [])) ∧
    (∀ i, (s.carrier n).state = .locked → (s.carrier n).relockAt = some i → i ≤ received s →
      nextWith (.downstreamFrame n f) s fun t =>
        (t.carrier n).state = .lost ∧ otherCarriers n s t ∧ t.reg = s.reg ∧ t.down = s.down ∧ t.cmd = s.cmd) ∧
    ((∀ i, (s.carrier n).relockAt = some i → received s < i) →
      ((s.carrier n).state = .mismatch → fawMatch f.faw = true → (∀ k ∈ f.badCw, 5 < k) →
        planMatches (s.carrier n) p f.overhead = true → nextWith (.downstreamFrame n f) s fun t =>
          (t.carrier n).state = .locked ∧ (t.carrier n).misses = 0 ∧ otherCarriers n s t ∧ t.reg = s.reg ∧ t.down = s.down ∧
          t.cmd = s.cmd) ∧
      ((s.carrier n).state = .locked → fawMatch f.faw = false → 3 ≤ (s.carrier n).misses →
        nextWith (.downstreamFrame n f) s fun t =>
          (t.carrier n).state = .lost ∧ otherCarriers n s t ∧ t.reg = s.reg ∧ t.down = s.down ∧ t.cmd = s.cmd) ∧
      ((s.carrier n).state = .locked → fawMatch f.faw = true → (∀ k ∈ f.badCw, 5 < k) →
        planMatches (s.carrier n) p f.overhead = false → nextWith (.downstreamFrame n f) s fun t =>
          (t.carrier n).state = .mismatch ∧ otherCarriers n s t ∧ t.reg = s.reg ∧ t.down = s.down ∧ t.cmd = s.cmd) ∧
      ((s.carrier n).state = .locked → fawMatch f.faw = true → (∃ k ∈ f.badCw, k ≤ 5) → f.cells = [] →
        nextWith (.downstreamFrame n f) s fun t =>
          (t.carrier n).state = .locked ∧ (t.carrier n).misses = 0 ∧ (t.carrier n).nAbsent = (s.carrier n).nAbsent + 1 ∧
          (t.carrier n).nUncorr = satAdd 32 (s.carrier n).nUncorr f.badCw.dedup.length ∧ otherCarriers n s t ∧
          t.reg = s.reg ∧ t.down = s.down ∧ t.cmd = s.cmd) ∧
      ((s.carrier n).state = .locked → fawMatch f.faw = true → (∀ k ∈ f.badCw, 5 < k) →
        planMatches (s.carrier n) p f.overhead = true → s.reg.session = true → tagHolds f.overhead (rollKey s) = false →
        nextWith (.downstreamFrame n f) s fun t =>
          (t.carrier n).state = .locked ∧ (t.carrier n).nTagFail = (s.carrier n).nTagFail + 1 ∧
          (t.carrier n).nCalm = (s.carrier n).nCalm ∧ t.down = s.down ∧ t.cls = s.cls ∧ t.reg.state = s.reg.state ∧
          t.cmd = s.cmd))) ∧
  (∀ (s : State) (c a k : Nat),
    (∀ r ∈ s.down.ctxs, r.carrier = c → r.assoc = a → r.cls = k → r.since + ms 10 ≤ s.clk.now →
      nextWith (.reassemblyTimeout c a k) s fun t =>
        (t.carrier c).nTimedOut = (s.carrier c).nTimedOut + 1 ∧ r ∉ t.down.ctxs ∧
        (∀ x ∈ s.down.ctxs, x.carrier ≠ c ∨ x.assoc ≠ a ∨ x.cls ≠ k → x ∈ t.down.ctxs) ∧ t.down.ready = s.down.ready ∧
        otherCarriers c s t ∧ t = { s with carriers := t.carriers, down := t.down, evc := t.evc, out := t.out }) ∧
    ((∀ r ∈ s.down.ctxs, r.carrier = c → r.assoc = a → r.cls = k → s.clk.now < r.since + ms 10) →
      exec (.reassemblyTimeout c a k) s = .next s)) ∧
  (∀ (h : Hdr) (s : State) (b : BitVec 64), runsNow h (.cellGroupsSet b) s →
    completes (.cellGroupsSet h b) h 0x0503 s fun t =>
      t = { takeUp h s with down := { s.down with groups := b } })

/-- The tributary pages (R116 to R118; Table 5-7): a page write reaches the standby page alone, a swap waits for its
instant, exchanges the pages there and fences what moved, for 50 ms unless the command says otherwise; an unmet fence is released at
its timeout and counted, a met one is released. -/
def Obligations.TributaryPages : Prop :=
  ∀ (h : Hdr) (s : State),
    (∀ first es, runsNow h (.tribPageWrite first es) s → checkTribPageWrite first es s = .ok → s.trib.swap = none →
      tribLocked s = false → completes (.tribPageWrite h first es) h 0x0506 s fun t =>
        (∀ i e, es[i]? = some e → Tbl.get {} t.trib.standby (first + i) = e) ∧
        (∀ k, k < first ∨ first + es.length ≤ k → Tbl.get {} t.trib.standby k = Tbl.get {} s.trib.standby k) ∧
        t = { takeUp h s with trib := { s.trib with standby := t.trib.standby } }) ∧
    (∀ i f, runsNow h (.tribPageSwap i f) s → checkTribPageSwap i f s = .ok → s.trib.swap = none → tribLocked s = false →
      instantStatus i s = .ok → completes (.tribPageSwap h i f) h 0x0507 s fun t =>
        t = { takeUp h s with trib := { s.trib with swap := some { at_ := i, fence := f.getD 50 } } }) ∧
    (∀ i f, runsNow h (.tribPageSwap i f) s → checkTribPageSwap i f s = .ok → s.trib.swap ≠ none →
      exec (.tribPageSwap h i f) s =
        .next (sendReply h 0x0507 { status := .tribSwapPending } (raise 0x92 (takeUp h s)))) ∧
    (∀ w, s.trib.swap = some w → timeValid s = true → w.at_ ≤ lineTime s → nextWith .tribSwap s fun t =>
      t.trib.active = s.trib.standby ∧ t.trib.standby = s.trib.active ∧ t.trib.swap = none ∧
      (∀ k, k < 64 → (Tbl.get {} s.trib.active k).upCarrier ≠ (Tbl.get {} s.trib.standby k).upCarrier →
        ({ trib := k, old := (Tbl.get {} s.trib.active k).upCarrier, new := (Tbl.get {} s.trib.standby k).upCarrier
           until_ := w.at_ + ms w.fence } : Fence) ∈ t.trib.fences) ∧
      t = { s with trib := t.trib, evc := t.evc, out := t.out }) ∧
    (∀ w, s.trib.swap = some w → lineTime s < w.at_ → exec .tribSwap s = .next s) ∧
    (∀ k, ∀ f ∈ s.trib.fences, f.trib = k → f.until_ ≤ lineTime s →
      tribWaits s f.old k = true ∨ f.until_ < lastEnd s f.old k →
      nextWith (.fenceTimeout k) s fun t =>
        f ∉ t.trib.fences ∧ t.trib.nTimeout = s.trib.nTimeout + 1 ∧
        (∀ x ∈ s.trib.fences, x.trib ≠ k ∨ lineTime s < x.until_ → x ∈ t.trib.fences) ∧
        t.trib.active = s.trib.active ∧ t = { s with trib := t.trib, evc := t.evc, out := t.out }) ∧
    (∀ k, (∀ f ∈ s.trib.fences, f.trib = k → f.until_ ≤ lineTime s → tribWaits s f.old k = false ∧ lastEnd s f.old k ≤ f.until_) →
      nextWith (.fenceTimeout k) s fun t =>
        (∀ x, x ∈ t.trib.fences ↔ x ∈ s.trib.fences ∧ (x.trib ≠ k ∨ lineTime s < x.until_)) ∧
        t = { s with trib := { s.trib with fences := t.trib.fences } })

/-- The management channels (R114, R115; Table 5-7): configuration, a frame received on the serial port with its length and
FCS checks, one cell per 125 µs of line time, and what the port sends. -/
def Obligations.ManagementChannels : Prop :=
  ∀ (s : State) (ch : Nat), ch < 4 →
    (∀ h en c rate, runsNow h (.mchConfig ch en c rate) s → c < 4 → s.hasCarrier c = true → rate < 5 →
      completes (.mchConfig h ch en c rate) h 0x0504 s fun t =>
        t.channel ch = { s.channel ch with en := en, carrier := c, rate := rate } ∧ otherChannels ch s t ∧
        t = { takeUp h s with mch := t.mch }) ∧
    (∀ bits o b, (s.channel ch).en = true → hdlcOctets bits = some o → hdlcContent o = some b → 1 ≤ b.length →
      b.length ≤ 1600 → (s.channel ch).upQ.length + 2 + b.length ≤ 16384 → nextWith (.mchPortFrame ch bits) s fun t =>
        t.channel ch = { s.channel ch with
          upQ := (s.channel ch).upQ ++ beBytes 2 b.length ++ b, nUp := (s.channel ch).nUp + 1,
          bUp := (s.channel ch).bUp + b.length } ∧ otherChannels ch s t ∧ t = { s with mch := t.mch }) ∧
    (∀ bits, (s.channel ch).en = true → hdlcOctets bits = none ∨ (∃ o, hdlcOctets bits = some o ∧ hdlcContent o = none) →
      nextWith (.mchPortFrame ch bits) s fun t =>
      t.channel ch = { s.channel ch with nFcs := (s.channel ch).nFcs + 1 } ∧ otherChannels ch s t ∧
      t = { s with mch := t.mch, evc := t.evc, out := t.out }) ∧
    ((s.channel ch).en = true → s.reg.state = .operating → (s.channel ch).cells = [] →
      (s.channel ch).upQ ≠ [] → (s.channel ch).lastCell ≠ some (lineTime s / frameTime) →
      nextWith (.mchUpstreamCell ch) s fun t =>
        t.channel ch = { s.channel ch with
          cells := [(s.channel ch).upQ.take 248], upQ := (s.channel ch).upQ.drop 248,
          lastCell := some (lineTime s / frameTime) } ∧ otherChannels ch s t ∧ t = { s with mch := t.mch }) ∧
    (∀ f l, (s.channel ch).en = true → (s.channel ch).downQ = f :: l → (s.carrier (s.channel ch).carrier).state = .locked →
      nextWith (.mchPortTransmit ch) s fun t =>
        t.channel ch = { s.channel ch with
          downQ := l, nDown := (s.channel ch).nDown + 1, bDown := (s.channel ch).bDown + f.length } ∧
        otherChannels ch s t ∧ t = { s with mch := t.mch, out := .hdlc ch (hdlcBits f) :: s.out }) ∧
    ((s.channel ch).en = true → (s.channel ch).downQ = [] ∨ (s.carrier (s.channel ch).carrier).state ≠ .locked →
      exec (.mchPortTransmit ch) s = .next (emit (.flags ch) s))

/-- Bursts (R15, R60, R62 to R65, R93, R105, R112, R113, R118): a draw, the emission of the due grant with the window it was
accepted with, or its being refused or left dark, and a ranging burst; each leaves the registration's state, and of another
carrier a draw touches only the mark that its old cells were discarded (R153). A draw for an earlier grant takes the place of
bursts drawn for later ones. -/
def Obligations.Bursts : Prop :=
  ∀ (s : State) (n : Nat) (g : Grant),
    (nextUndrawn n s = some g → s.reg.state = .operating → s.die.split = false → received s + us 10 ≤ g.emit →
      nextWith (.burstDraw n) s fun t =>
        (∃ b, (t.carrier n).drawn =
            ((s.carrier n).drawn.takeWhile fun x => decide (x.grant.emit ≤ g.emit)) ++ [b] ∧ b.grant = g) ∧
        (t.carrier n).held = (s.carrier n).held ∧
        (∀ m, m ≠ n → t.carrier m = { s.carrier m with discarding := (t.carrier m).discarding }) ∧
        t = { s with
          clk := t.clk, carriers := t.carriers, mch := t.mch, trib := t.trib, q := t.q, evc := t.evc, pmc := t.pmc,
          out := t.out }) ∧
    (dueGrant n s = some g → received s < g.emit → exec (.burstEmission n) s = .next s) ∧
    (dueGrant n s = some g → g.emit ≤ received s → s.reg.state ≠ .operating →
      ∃ t, exec (.burstEmission n) s = .next (emit (.dark n g.id) t) ∧
        (t.carrier n).nDropped = (s.carrier n).nDropped + 1 ∧ t.reg.state = s.reg.state ∧ t.cmd = s.cmd) ∧
    (dueGrant n s = some g → g.emit ≤ received s → s.reg.state = .operating →
      (s.carrier n).ranged = false ∨ windowRefused n g g.window (noteKey (rollKey s)) = true →
      nextWith (.burstEmission n) s fun t =>
        (t.carrier n).nInvalid = (s.carrier n).nInvalid + 1 ∧ (t.carrier n).nEmitted = (s.carrier n).nEmitted ∧
        t.reg.state = .operating ∧ t.cmd = s.cmd) ∧
    (dueGrant n s = some g → g.emit ≤ received s → s.reg.state = .operating → (s.carrier n).ranged = true →
      windowRefused n g g.window (noteKey (rollKey s)) = false →
      ((noteKey (rollKey s)).carrier n).canEmit g.emit = true → keptDark n (noteKey (rollKey s)) = false →
      nextWith (.burstEmission n) s fun t =>
        (t.carrier n).nEmitted = (s.carrier n).nEmitted + 1 ∧ (t.carrier n).winStart = g.emit ∧
        (t.carrier n).winEnd = g.emit + g.window ∧
        (t.carrier n).burstSeq = ((noteKey (rollKey s)).carrier n).burstSeq + 1 ∧
        (∃ w hd b, Output.burst n w hd b ∈ t.out ∧ w.at_ = g.emit ∧ w.len = g.window) ∧ t.reg.state = .operating ∧
        t.cmd = s.cmd) ∧
    (dueRanging s = some (n, g) → s.die.split = false →
      s.reg.state = .ranging ∨ (s.reg.state = .operating ∧ (s.carrier n).ranged = false) →
      windowRefused n g g.window (modCarrier n (fun c => { c with held := c.held.filter fun x => x != g }) s) = false →
      (s.carrier n).canEmit g.emit = true → nextWith .rangingBurst s fun t =>
        (t.carrier n).nEmitted = (s.carrier n).nEmitted + 1 ∧ g ∉ (t.carrier n).held ∧
        (t.carrier n).winEnd = g.emit + g.window ∧
        (∃ w hd b, t.out = .burst n w hd b :: s.out ∧ w.at_ = g.emit ∧ w.len = g.window) ∧ otherCarriers n s t ∧
        t = { s with clk := { s.clk with draws := s.clk.draws + 1 }, carriers := t.carriers, out := t.out }) ∧
    (nextWith .forecastUpdate s fun t =>
      (n < s.variant.carriers → (t.carrier n).lastFc = some (lineTime s / superTime) ∧
        (t.carrier n).state = (s.carrier n).state ∧ (t.carrier n).held = (s.carrier n).held ∧
        ((s.carrier n).lastFc = some (lineTime s / superTime) → t.carrier n = s.carrier n) ∧
        ((s.carrier n).lastFc ≠ some (lineTime s / superTime) →
          (t.carrier n).discarding = (s.carrier n).discarding - 1)) ∧
      t = { s with carriers := t.carriers, evc := t.evc, out := t.out })

/-- The flow-table commands (R133, R136, R145; Table 6-7): insert, modify, delete, lookup and scan act on the current
generation; a check that fails changes nothing; no other entry that is visible anywhere changes.
The other classifier commands (R124, R128, R132, R137, R141; Table 6-7), each in the current generation. -/
def Obligations.ClassificationCommands : Prop :=
  (∀ (h : Hdr) (s : State) (key : List Byte),
    (∀ w, runsNow h (.flowInsert w key) s → checkFlowInsert w key s = .ok → completes (.flowInsert h w key) h 0x0601 s fun t =>
      (∃ e, findFlow t.cls.curB w.profile key t = some e ∧ e.word = { w with override := false } ∧ e.key = key) ∧
      (∀ e ∈ s.cls.flows, e.word.profile ≠ w.profile ∨ e.key ≠ key → e.visA = true ∨ e.visB = true →
        ∃ x ∈ t.cls.flows, { x with bucket := e.bucket } = e) ∧
      t = { takeUp h s with
        cls := { s.cls with flows := t.cls.flows, tableHigh := t.cls.tableHigh }, evc := t.evc, out := t.out }) ∧
    (∀ w, runsNow h (.flowInsert w key) s → checkFlowInsert w key s ≠ .ok →
      failsWith (.flowInsert h w key) h 0x0601 (checkFlowInsert w key s) s) ∧
    (∀ k w, runsNow h (.flowModify k key w) s → checkFlowModify k key w s = .ok →
      completes (.flowModify h k key w) h 0x0602 s fun t =>
        (∃ e, findFlow t.cls.curB k key t = some e ∧ e.word = { w with profile := k, override := false } ∧ e.key = key) ∧
        (∀ e ∈ s.cls.flows, e.word.profile ≠ k ∨ e.key ≠ key → e.visA = true ∨ e.visB = true →
          ∃ x ∈ t.cls.flows, { x with bucket := e.bucket } = e) ∧
        t = { takeUp h s with
          cls := { s.cls with flows := t.cls.flows, tableHigh := t.cls.tableHigh }, evc := t.evc, out := t.out }) ∧
    (∀ k, runsNow h (.flowDelete k key) s → checkFlowKey k key s = .ok → completes (.flowDelete h k key) h 0x0603 s fun t =>
      findFlow t.cls.curB k key t = none ∧
      (∀ e ∈ s.cls.flows, e.word.profile ≠ k ∨ e.key ≠ key → e.visA = true ∨ e.visB = true → e ∈ t.cls.flows) ∧
      t = { takeUp h s with
        cls := { s.cls with flows := t.cls.flows, tableHigh := t.cls.tableHigh }, evc := t.evc, out := t.out }) ∧
    (∀ k, runsNow h (.flowDelete k key) s → checkFlowKey k key s ≠ .ok →
      failsWith (.flowDelete h k key) h 0x0603 (checkFlowKey k key s) s) ∧
    (∀ k e, runsNow h (.flowLookup k key) s → key.length = 44 → k ≤ 15 → findFlow s.cls.curB k key s = some e →
      exec (.flowLookup h k key) s = .next (sendReply h 0x0604 { data := e.layout.map (·.toNat) } (takeUp h s))) ∧
    (∀ k, runsNow h (.flowLookup k key) s → key.length = 44 → k ≤ 15 → findFlow s.cls.curB k key s = none →
      failsWith (.flowLookup h k key) h 0x0604 .entryAbsent s) ∧
    (∀ first count, runsNow h (.flowScan first count) s → 1 ≤ count → count ≤ 4096 → first + count ≤ 1048576 →
      completes (.flowScan h first count) h 0x060C s fun t =>
        (∀ e ∈ t.cls.flows, first ≤ e.bucket → e.bucket < first + count → e.hit = false) ∧
        t.cls.flows.length = s.cls.flows.length ∧ t = { takeUp h s with cls := { s.cls with flows := t.cls.flows } })) ∧
  (∀ (h : Hdr) (s : State),
    (∀ i acts, runsNow h (.flowActionWrite i acts) s → checkActions i acts s = .ok →
      completes (.flowActionWrite h i acts) h 0x0605 s fun t =>
        (Tbl.get {} t.cls.actions i).at t.cls.curB = some acts ∧
        (∀ k, k ≠ i → Tbl.get {} t.cls.actions k = Tbl.get {} s.cls.actions k) ∧
        t = { takeUp h s with cls := { s.cls with actions := t.cls.actions } }) ∧
    (∀ i acts, runsNow h (.flowActionWrite i acts) s → checkActions i acts s ≠ .ok →
      failsWith (.flowActionWrite h i acts) h 0x0605 (checkActions i acts s) s) ∧
    (∀ i w v m, runsNow h (.ternaryWrite i w v m) s → checkTernWrite i w v m s = .ok →
      completes (.ternaryWrite h i w v m) h 0x0606 s fun t =>
        (∃ e ∈ t.cls.tern, e.index = i ∧ e.word = w ∧ e.value = v ∧ e.mask = m ∧ e.vis t.cls.curB = true) ∧
        (∀ e ∈ t.cls.tern, e.index = i → e.vis t.cls.curB = true → e.word = w ∧ e.value = v ∧ e.mask = m) ∧
        (∀ e ∈ s.cls.tern, e.index ≠ i → e.visA = true ∨ e.visB = true → e ∈ t.cls.tern) ∧
        t = { takeUp h s with cls := { s.cls with tern := t.cls.tern } }) ∧
    (∀ i, runsNow h (.ternaryDelete i) s → i ≤ 65535 → completes (.ternaryDelete h i) h 0x0607 s fun t =>
      (∀ e ∈ t.cls.tern, e.index = i → e.vis t.cls.curB = false) ∧
      (∀ e ∈ s.cls.tern, e.index ≠ i → e.visA = true ∨ e.visB = true → e ∈ t.cls.tern) ∧
      t = { takeUp h s with cls := { s.cls with tern := t.cls.tern } }) ∧
    (∀ n d, runsNow h (.parseNodeSet n d) s → checkNode n d s = .ok → completes (.parseNodeSet h n d) h 0x0608 s fun t =>
      Tbl.get none (t.cls.tables t.cls.curB).nodes n = d ∧
      (∀ k, k ≠ n → Tbl.get none (t.cls.tables t.cls.curB).nodes k = Tbl.get none (s.cls.tables s.cls.curB).nodes k) ∧
      t = { takeUp h s with cls := { s.cls with slotA := t.cls.slotA, slotB := t.cls.slotB } }) ∧
    (∀ k ex te, runsNow h (.classProfileSet k ex te) s → checkProfile k ex te = .ok →
      completes (.classProfileSet h k ex te) h 0x0609 s fun t =>
        Tbl.get {} (t.cls.tables t.cls.curB).profiles k = { exact := ex, ternary := te } ∧
        (∀ j, j ≠ k → Tbl.get {} (t.cls.tables t.cls.curB).profiles j = Tbl.get {} (s.cls.tables s.cls.curB).profiles j) ∧
        t = { takeUp h s with cls := { s.cls with slotA := t.cls.slotA, slotB := t.cls.slotB } }) ∧
    (∀ p a k, runsNow h (.classDefaultSet p a k) s → checkDefault p a k s = .ok →
      completes (.classDefaultSet h p a k) h 0x060A s fun t =>
        Tbl.get {} (t.cls.tables t.cls.curB).defaults p = { set := some a, profile := k } ∧
        (∀ j, j ≠ p → Tbl.get {} (t.cls.tables t.cls.curB).defaults j = Tbl.get {} (s.cls.tables s.cls.curB).defaults j) ∧
        t = { takeUp h s with cls := { s.cls with slotA := t.cls.slotA, slotB := t.cls.slotB } }) ∧
    (∀ p a k, runsNow h (.classDefaultSet p a k) s → checkDefault p a k s ≠ .ok →
      failsWith (.classDefaultSet h p a k) h 0x060A (checkDefault p a k s) s))

/-- Passes through the pipeline (R121, R122, R127, R131): a pass takes the oldest packet of its source, a recirculated one
before a first one; a parse that fails is counted with its reason; a miss waits; a fill goes on with the oldest that
waits.
Generations (R143, R144): once no packet holds the older generation its entries go and a waiting write-in begins; a
write-in that has begun completes. Neither changes the current generation. -/
def Obligations.Passes : Prop :=
  (∀ (s : State) (miss : Bool),
    (∀ n p l, (s.port n).fifo = p :: l → s.cls.recUp = [] → nextWith (.pipelinePass (.port n) miss) s fun t =>
      (t.port n).fifo = l ∧ t.cls.line = s.cls.line ∧
      t = { s with
        clk := t.clk, cls := t.cls, q := t.q, ports := t.ports, eng := t.eng, evc := t.evc, pmc := t.pmc, out := t.out }) ∧
    (∀ n, s.cls.recUp ≠ [] → exec (.pipelinePass (.port n) miss) s = .next s) ∧
    (∀ p l, s.cls.line = p :: l → s.cls.recDown = [] → nextWith (.pipelinePass .line miss) s fun t =>
      t.cls.line = l ∧ (∀ n, (t.port n).fifo = (s.port n).fifo) ∧
      t = { s with
        clk := t.clk, cls := t.cls, q := t.q, ports := t.ports, eng := t.eng, evc := t.evc, pmc := t.pmc, out := t.out }) ∧
    (s.cls.recDown ≠ [] → exec (.pipelinePass .line miss) s = .next s) ∧
    (∀ p l, s.cls.recUp = p :: l → nextWith (.pipelinePass (.recirc false) miss) s fun t =>
      (∃ x, t.cls.recUp = l ++ x) ∧ t.cls.line = s.cls.line ∧ (∀ n, (t.port n).fifo = (s.port n).fifo)) ∧
    (∀ p l, s.cls.recDown = p :: l → nextWith (.pipelinePass (.recirc true) miss) s fun t =>
      (∃ x, t.cls.recDown = l ++ x) ∧ t.cls.line = s.cls.line ∧ (∀ n, (t.port n).fifo = (s.port n).fifo)) ∧
    (∀ p l r, s.cls.line = p :: l → s.cls.recDown = [] → r = 2 ∨ r = 3 →
      (parse (s.cls.tables s.cls.curB).nodes p.bytes).reason = r → nextWith (.pipelinePass .line false) s fun t =>
        Tbl.get 0 t.cls.passes r = Tbl.get 0 s.cls.passes r + 1) ∧
    (∀ p l, s.cls.line = p :: l → s.cls.recDown = [] → s.cls.missDown.length < 8192 → s.cls.missUp.length < 8192 →
      nextWith (.pipelinePass .line true) s fun t =>
        (if p.md.down then t.cls.missDown.length = s.cls.missDown.length + 1 ∧ t.cls.missUp = s.cls.missUp
          else t.cls.missUp.length = s.cls.missUp.length + 1 ∧ t.cls.missDown = s.cls.missDown) ∧
        t.cls.passes = s.cls.passes ∧ t.ports = s.ports) ∧
    (∀ p l, s.cls.missUp = p :: l → nextWith (.flowCacheFill false) s fun t =>
      t.cls.missUp = l ∧ t.cls.missDown = s.cls.missDown ∧ t.cls.line = s.cls.line ∧
      t = { s with
        clk := t.clk, cls := t.cls, q := t.q, ports := t.ports, eng := t.eng, evc := t.evc, pmc := t.pmc, out := t.out }) ∧
    (∀ p l, s.cls.missDown = p :: l → nextWith (.flowCacheFill true) s fun t =>
      t.cls.missDown = l ∧ t.cls.missUp = s.cls.missUp ∧ t.cls.line = s.cls.line)) ∧
  (∀ (s : State),
    (s.cls.draining.isSome = true → (∀ p ∈ inClassification s, p.md.slotB = s.cls.curB) →
      nextWith .generationDrain s fun t =>
        t.cls.draining = none ∧ t.cls.curB = s.cls.curB ∧ t.cls.gen = s.cls.gen ∧
        (∀ e ∈ s.cls.flows, e.vis s.cls.curB = true →
          ∃ x ∈ t.cls.flows, x.word = e.word ∧ x.key = e.key ∧ x.vis s.cls.curB = true) ∧
        (∀ e ∈ s.cls.tern, e.vis s.cls.curB = true → ∃ x ∈ t.cls.tern,
          x.index = e.index ∧ x.word = e.word ∧ x.value = e.value ∧ x.mask = e.mask ∧ x.vis s.cls.curB = true) ∧
        ((∀ w, s.cls.writeIn = some w → w.started.isSome = true) →
          (∀ e ∈ t.cls.flows, e.vis s.cls.curB = true ∧ e.vis (!s.cls.curB) = false) ∧
          (∀ e ∈ t.cls.tern, e.vis s.cls.curB = true ∧ e.vis (!s.cls.curB) = false) ∧
          t = { s with cls := { s.cls with draining := none, flows := t.cls.flows, tern := t.cls.tern } }) ∧
        (∀ w, s.cls.writeIn = some w → ∃ x, t.cls.writeIn = some x ∧ x.started.isSome = true) ∧
        t = { s with cls := t.cls, evc := t.evc, out := t.out }) ∧
    ((∃ p ∈ inClassification s, p.md.slotB ≠ s.cls.curB) → exec .generationDrain s = .next s) ∧
    (∀ w, s.cls.writeIn = some w → w.started.isSome = true →
      exec .writeInComplete s = .next { s with cls := { s.cls with writeIn := some { w with done := true } } }))

/-- The leaf-queue commands (R149, R168): create, set, delete and flush of an upstream leaf queue; no other queue, and no
other counter of the store than the command's, changes. -/
def Obligations.LeafQueueCommands : Prop :=
  ∀ (h : Hdr) (s : State) (q : Nat), 256 ≤ q → q ≤ 65535 →
    (∀ a c g p, runsNow h (.queueCreate q a c g p) s → a ≤ 4095 → c < 8 → g < 16 → queueParamsOk p s = true →
      s.queue q = none → (∀ x ∈ s.q.tab, ∀ v, x.2 = some v → v.assoc ≠ a ∨ v.cls ≠ c ∨ v.group ≠ g) →
      completes (.queueCreate h q a c g p) h 0x0701 s fun t =>
        t.queue q = some {
          assoc := a, cls := c, group := g, weight := p.weight.getD 1, limit := p.limit.getD (storeCells s),
          ylim := p.ylim.getD (p.limit.getD (storeCells s)), sojourn := p.maxSojourn.getD 100 } ∧
        (∀ k, k ≠ q → t.queue k = s.queue k) ∧
        t = { takeUp h s with q := { s.q with tab := t.q.tab }, carriers := t.carriers }) ∧
    (∀ a c g p, runsNow h (.queueCreate q a c g p) s → a ≤ 4095 → c < 8 → g < 16 → queueParamsOk p s = true →
      s.queue q ≠ none → failsWith (.queueCreate h q a c g p) h 0x0701 .queueExists s) ∧
    (∀ v, runsNow h (.queueDelete q) s → s.queue q = some v → v.cells = 0 → (∀ x ∈ s.q.staging, x.1 ≠ q) →
      completes (.queueDelete h q) h 0x0702 s fun t =>
        t.queue q = none ∧ (∀ k, k ≠ q → t.queue k = s.queue k) ∧ t.q = { s.q with tab := t.q.tab } ∧
        t = { takeUp h s with
          carriers := t.carriers, q := t.q, cls := t.cls, sec := t.sec, groups := t.groups, evc := t.evc, out := t.out }) ∧
    (∀ v, runsNow h (.queueDelete q) s → s.queue q = some v → v.cells ≠ 0 ∨ (∃ x ∈ s.q.staging, x.1 = q) →
      ∃ t, exec (.queueDelete h q) s = .next (sendReply h 0x0702 { status := .queueNotEmpty } t) ∧ t.q = s.q ∧
        t.carriers = s.carriers) ∧
    (∀ v p, runsNow h (.queueSet q p) s → s.queue q = some v → queueParamsOk p s = true →
      completes (.queueSet h q p) h 0x0703 s fun t =>
        t.queue q = some { v with
          weight := p.weight.getD v.weight, limit := p.limit.getD v.limit, ylim := p.ylim.getD v.ylim,
          sojourn := p.maxSojourn.getD v.sojourn } ∧
        (∀ k, k ≠ q → t.queue k = s.queue k) ∧ t = { takeUp h s with q := { s.q with tab := t.q.tab } }) ∧
    (∀ v, runsNow h (.queueFlush q) s → s.queue q = some v →
      completes (.queueFlush h q) h 0x0705 s fun t =>
        (∃ w, t.queue q = some w ∧ (∀ x ∈ w.lists, ∀ p ∈ x.2, p.drawn ≠ 0) ∧
          (∀ x ∈ v.lists, ∀ p ∈ x.2, p.drawn ≠ 0 → ∃ y ∈ w.lists, y.1 = x.1 ∧ p ∈ y.2) ∧ w.limit = v.limit ∧
          w.assoc = v.assoc ∧ w.cls = v.cls) ∧
        (∀ k, k ≠ q → t.queue k = s.queue k) ∧ t.carriers = s.carriers ∧
        t = { takeUp h s with clk := t.clk, q := t.q, evc := t.evc, pmc := t.pmc, out := t.out })

/-- Nodes, egress settings and policers (R154, R158 to R161; Table 7-5). The tokens a new shaper starts with are a free
value within its BURST (log entry 23). -/
def Obligations.ShapingCommands : Prop :=
  ∀ (h : Hdr) (s : State),
    (∀ a w sh, runsNow h (.schedNodeSet a none w sh false) s → checkSchedNode a none w sh false = .ok →
      completes (.schedNodeSet h a none w sh false) h 0x0706 s fun t =>
        (t.node a).weight = w ∧ (t.node a).expedite = false ∧
        (t.node a).shaper.map (·.p) = sh ∧
        (∀ x, (t.node a).shaper = some x → 0 ≤ x.tokens ∧ x.tokens ≤ x.p.burst * tokenByte ∧ x.at_ = switchTime s) ∧
        (∀ k, k ≠ a → t.node k = s.node k) ∧ t.q.classNodes = s.q.classNodes ∧ t.q.tab = s.q.tab ∧
        t = { takeUp h s with clk := t.clk, q := t.q }) ∧
    (∀ a c w sh ex, runsNow h (.schedNodeSet a (some c) w sh ex) s → checkSchedNode a (some c) w sh ex = .ok →
      completes (.schedNodeSet h a (some c) w sh ex) h 0x0706 s fun t =>
        (t.classNode a c).weight = w ∧ (t.classNode a c).expedite = ex ∧ (t.classNode a c).shaper.map (·.p) = sh ∧
        (∀ k, k ≠ 8 * a + c → Tbl.get {} t.q.classNodes k = Tbl.get {} s.q.classNodes k) ∧ t.q.nodes = s.q.nodes ∧
        t.q.tab = s.q.tab ∧ t = { takeUp h s with clk := t.clk, q := t.q }) ∧
    (∀ a c w sh ex, runsNow h (.schedNodeSet a c w sh ex) s → checkSchedNode a c w sh ex = .paramRange →
      failsWith (.schedNodeSet h a c w sh ex) h 0x0706 .paramRange s) ∧
    (∀ p es sh, runsNow h (.egressConfig p es sh) s → checkEgress p es sh s = .ok →
      completes (.egressConfig h p es sh) h 0x0707 s fun t =>
        (∀ i e, es[i]? = some e → Tbl.get {} (t.port p).eg i = e ∧
          (Tbl.get none (t.port p).shapers i).map (·.p) = e.shaper) ∧
        (Tbl.get none (t.port p).shapers 8).map (·.p) = sh ∧ (t.port p).queues = (s.port p).queues ∧
        (t.port p).up = (s.port p).up ∧ otherPorts p s t ∧ t.q.tab = s.q.tab ∧
        t = { takeUp h s with clk := t.clk, q := t.q, ports := t.ports }) ∧
    (∀ i p refill, runsNow h (.policerSet i p refill) s → checkPolicer i p = .ok → Tbl.get none s.q.policers i = none →
      completes (.policerSet h i p refill) h 0x0708 s fun t =>
        Tbl.get none t.q.policers i =
          some { p := p, tc := p.cbs * 65536, tx := p.xbs * 65536, at_ := switchTime s } ∧
        (∀ k, k ≠ i → Tbl.get none t.q.policers k = Tbl.get none s.q.policers k) ∧
        t = { takeUp h s with q := { s.q with policers := t.q.policers } }) ∧
    (∀ i p refill old, runsNow h (.policerSet i p refill) s → checkPolicer i p = .ok → Tbl.get none s.q.policers i = some old →
      completes (.policerSet h i p refill) h 0x0708 s fun t =>
        (∃ x, Tbl.get none t.q.policers i = some x ∧ x.p = p ∧ x.tc ≤ p.cbs * 65536 ∧ x.tx ≤ p.xbs * 65536 ∧
          x.nGreen = old.nGreen ∧ x.nYellow = old.nYellow ∧ x.nRed = old.nRed ∧
          (refill = true ∨ old.p.mode ≠ p.mode → x.tc = p.cbs * 65536 ∧ x.tx = p.xbs * 65536)) ∧
        (∀ k, k ≠ i → Tbl.get none t.q.policers k = Tbl.get none s.q.policers k) ∧
        t = { takeUp h s with q := { s.q with policers := t.q.policers } }) ∧
    (∀ i clear old, runsNow h (.policerRead i clear) s → i < 2097152 → Tbl.get none s.q.policers i = some old →
      completes (.policerRead h i clear) h 0x0709 s fun t =>
        (∃ x, Tbl.get none t.q.policers i = some x ∧ x.p = old.p ∧ x.nGreen = (if clear then 0 else old.nGreen) ∧
          x.nYellow = (if clear then 0 else old.nYellow) ∧ x.nRed = (if clear then 0 else old.nRed) ∧
          x.bGreen = (if clear then 0 else old.bGreen) ∧ x.bYellow = (if clear then 0 else old.bYellow) ∧
          x.bRed = (if clear then 0 else old.bRed)) ∧
        (∀ k, k ≠ i → Tbl.get none t.q.policers k = Tbl.get none s.q.policers k) ∧
        t = { takeUp h s with q := { s.q with policers := t.q.policers } }) ∧
    (∀ i clear, runsNow h (.policerRead i clear) s → i < 2097152 → Tbl.get none s.q.policers i = none →
      failsWith (.policerRead h i clear) h 0x0709 .entryAbsent s)

/-- Admission to the upstream store (R117, R148, R151, R152): the oldest staged packet joins one carrier's list whole, or is
dropped with the first reason that holds; the age check runs each 1 ms while the terminal emits nothing (R153). -/
def Obligations.UpstreamAdmission : Prop :=
  ∀ (s : State),
    (s.q.staging = [] → exec .segmentation s = .next s) ∧
    (∀ k col p l, s.q.staging = (k, col, p) :: l → nextWith .segmentation s fun t =>
      t.q.staging = l ∧ t.reg = s.reg ∧
      t = { s with clk := t.clk, carriers := t.carriers, q := t.q, evc := t.evc, pmc := t.pmc, out := t.out }) ∧
    (∀ k col p l, s.q.staging = (k, col, p) :: l → s.queue k = none → nextWith .segmentation s fun t =>
      t.q = { s.q with staging := l, nFlush := s.q.nFlush + 1 }) ∧
    (∀ k col p l v, s.q.staging = (k, col, p) :: l → s.queue k = some v → s.die.split = true →
      nextWith .segmentation s fun t => t.q = { s.q with staging := l, nSplit := s.q.nSplit + 1 }) ∧
    (∀ k col p l v, s.q.staging = (k, col, p) :: l → s.queue k = some v → s.die.split = false →
      (s.tribEntry p.trib).enable = false →
      nextWith .segmentation s fun t =>
        t.q = { s.q with staging := l, nTrib := s.q.nTrib + 1, tab := t.q.tab } ∧ t.queue k = some { v with nTrib := v.nTrib + 1 } ∧
        (∀ j, j ≠ k → t.queue j = s.queue j) ∧
        (t.carrier (s.tribEntry p.trib).upCarrier).discarding = 2) ∧
    (∀ k col p l v, s.q.staging = (k, col, p) :: l → s.queue k = some v → s.die.split = false →
      (s.tribEntry p.trib).enable = true → storeCells s < s.q.used + cellsOf p.bytes.length →
      nextWith .segmentation s fun t =>
        t.q = { s.q with staging := l, nStore := s.q.nStore + 1, tab := t.q.tab } ∧ t.queue k = some { v with nStore := v.nStore + 1 } ∧
        (∀ j, j ≠ k → t.queue j = s.queue j) ∧
        (t.carrier (s.tribEntry p.trib).upCarrier).discarding = 2) ∧
    (∀ k col p l v, s.q.staging = (k, col, p) :: l → s.queue k = some v → s.die.split = false →
      (s.tribEntry p.trib).enable = true → s.q.used + cellsOf p.bytes.length ≤ storeCells s →
      v.limit < v.cells + cellsOf p.bytes.length →
      nextWith .segmentation s fun t => t.q.nLimit = s.q.nLimit + 1 ∧ t.q.used = s.q.used ∧
        t.queue k = some { v with nLimit := v.nLimit + 1 }) ∧
    (∀ k p l v, s.q.staging = (k, .yellow, p) :: l → s.queue k = some v → s.die.split = false →
      (s.tribEntry p.trib).enable = true → s.q.used + cellsOf p.bytes.length ≤ storeCells s →
      v.cells + cellsOf p.bytes.length ≤ v.limit → v.ylim < v.cells + cellsOf p.bytes.length →
      nextWith .segmentation s fun t => t.q.nYellow = s.q.nYellow + 1 ∧ t.q.used = s.q.used ∧
        t.queue k = some { v with nYellow := v.nYellow + 1 }) ∧
    (∀ k col p l v, s.q.staging = (k, col, p) :: l → s.queue k = some v → s.die.split = false →
      (s.tribEntry p.trib).enable = true → s.q.used + cellsOf p.bytes.length ≤ storeCells s →
      v.cells + cellsOf p.bytes.length ≤ v.limit → (col = .yellow → v.cells + cellsOf p.bytes.length ≤ v.ylim) →
      nextWith .segmentation s fun t => t.q.used = s.q.used + cellsOf p.bytes.length ∧
        (∀ j, j ≠ k → t.queue j = s.queue j) ∧
        ∃ w, t.queue k = some w ∧
          Tbl.get [] w.lists (s.tribEntry p.trib).upCarrier =
            Tbl.get [] v.lists (s.tribEntry p.trib).upCarrier ++ [{ p with at_ := switchTime s }] ∧
          ∀ n, n ≠ (s.tribEntry p.trib).upCarrier → Tbl.get [] w.lists n = Tbl.get [] v.lists n) ∧
    (s.reg.state ≠ .operating ∨ s.die.split = true ∨ emitsNothing s = true → s.q.agedAt + ms 1 ≤ s.clk.now → nextWith .ageCheck s fun t =>
      t.q.agedAt = s.clk.now ∧ t.q.staging = s.q.staging ∧ t.reg = s.reg ∧ t.cmd = s.cmd) ∧
    (s.reg.state = .operating → s.die.split = false → emitsNothing s = false → exec .ageCheck s = .next s)

/-- Timing wheels, gate lists and the barometer (R156, R157, R162, R163, R166, R167). -/
def Obligations.WheelsGatesBarometer : Prop :=
  ∀ (h : Hdr) (s : State),
    ((∀ k x, shaperOf s k = some x → 1 ≤ x.p.rate) → nextWith .wheelSlot s fun t =>
      (∀ i ∈ t.q.coarse, coarseSlot (switchTime s) < i.slot) ∧
      (∀ i ∈ t.q.fine, 5 * switchTime s / gridFifths < i.slot ∨ i.kind.hasRow = true) ∧
      t = { s with q := { s.q with fine := t.q.fine, coarse := t.q.coarse } }) ∧
    (∀ p g, runsNow h (.gateListSet p g) s → checkGateList p g s = .ok → completes (.gateListSet h p g) h 0x070A s fun t =>
      t.port p = { s.port p with gateNext := some {
        list := g, s := (gateStart g (switchTime s)).1, late := (gateStart g (switchTime s)).2 } } ∧
      otherPorts p s t ∧ t = { takeUp h s with ports := t.ports, q := { s.q with fine := t.q.fine, coarse := t.q.coarse } }) ∧
    (∀ p r, (s.port p).gateNext = some r → switchValid s = true → r.s ≤ switchTime s → wheelTurn (.gateStart p) s = true →
      nextWith (.gateListStart p) s fun t =>
      t.port p = { s.port p with gate := some r, gateNext := none, gates := gatesOf r.list (switchTime s), fellBack := false } ∧
      .gateStarted p r.s r.late ∈ t.out ∧ waits (.gate p) t = true ∧ otherPorts p s t ∧
      t = { s with
        ports := t.ports, q := { s.q with fine := t.q.fine, coarse := t.q.coarse }, evc := t.evc, out := t.out }) ∧
    (∀ p r, (s.port p).gateNext = some r → switchTime s < r.s → exec (.gateListStart p) s = .next s) ∧
    (∀ p r, (s.port p).gate = some r → switchValid s = true → wheelTurn (.gate p) s = true → nextWith (.gateEvent p) s fun t =>
      t.port p = { s.port p with gates := gatesOf r.list (switchTime s), fellBack := false } ∧ otherPorts p s t ∧
      waits (.gate p) t = true ∧
      t = { s with ports := t.ports, q := { s.q with fine := t.q.fine, coarse := t.q.coarse } }) ∧
    (∀ i w, runsNow h (.barometerWatch i (some w)) s → i < 4096 → w.queue ≤ 65535 → 1 ≤ w.period → w.period ≤ 65535 →
      1 ≤ w.depthBase → w.depthBase ≤ 16777215 → 1 ≤ w.sojBase → w.sojBase ≤ 16777215 →
      (w.queue < 256 → s.hasPort (w.queue / 8) = true) →
      completes (.barometerWatch h i (some w)) h 0x070C s fun t =>
        Tbl.get none t.q.watch i = some { p := w, due := nextSample w.period (switchTime s) } ∧
        (∀ k, k ≠ i → Tbl.get none t.q.watch k = Tbl.get none s.q.watch k) ∧ waits (.barometer i) t = true ∧
        t = { takeUp h s with q := { s.q with watch := t.q.watch, fine := t.q.fine, coarse := t.q.coarse } }) ∧
    (∀ i w, runsNow h (.barometerWatch i (some w)) s → i < 4096 → w.queue < 256 → 1 ≤ w.period → w.period ≤ 65535 →
      1 ≤ w.depthBase → w.depthBase ≤ 16777215 → 1 ≤ w.sojBase → w.sojBase ≤ 16777215 → s.hasPort (w.queue / 8) = false →
      failsWith (.barometerWatch h i (some w)) h 0x070C .unitAbsent s) ∧
    (∀ i, runsNow h (.barometerWatch i none) s → i < 4096 → completes (.barometerWatch h i none) h 0x070C s fun t =>
      Tbl.get none t.q.watch i = none ∧ (∀ k, k ≠ i → Tbl.get none t.q.watch k = Tbl.get none s.q.watch k) ∧
      waits (.barometer i) t = false) ∧
    (∀ i w, runsNow h (.barometerRead i true) s → i < 4096 → Tbl.get none s.q.watch i = some w →
      completes (.barometerRead h i true) h 0x070D s fun t =>
        Tbl.get none t.q.watch i = some { p := w.p, due := w.due } ∧
        (∀ k, k ≠ i → Tbl.get none t.q.watch k = Tbl.get none s.q.watch k) ∧
        t = { takeUp h s with q := { s.q with watch := t.q.watch } }) ∧
    (∀ i w, runsNow h (.barometerRead i false) s → i < 4096 → Tbl.get none s.q.watch i = some w →
      completes (.barometerRead h i false) h 0x070D s fun t => t = takeUp h s) ∧
    (∀ i w, Tbl.get none s.q.watch i = some w → w.due ≤ switchTime s → wheelTurn (.barometer i) s = true →
      nextWith (.barometerSample i) s fun t =>
      (∃ x, Tbl.get none t.q.watch i = some x ∧ x.p = w.p ∧ x.due = w.due + us w.p.period ∧ x.n = w.n + 1 ∧
        x.sumD = w.sumD + (sampleOf w.p.queue s).1 ∧ x.sumS = w.sumS + (sampleOf w.p.queue s).2 ∧
        x.maxD = max w.maxD (sampleOf w.p.queue s).1 ∧ x.maxS = max w.maxS (sampleOf w.p.queue s).2 ∧
        x.last = switchTime s ∧
        (x.alarm = true ↔ w.alarm = true ∨ (0 < w.p.alarm ∧ w.p.alarm < (sampleOf w.p.queue s).2))) ∧
      (∀ k, k ≠ i → Tbl.get none t.q.watch k = Tbl.get none s.q.watch k) ∧ t.q.tab = s.q.tab ∧
      t = { s with clk := t.clk, q := t.q, evc := t.evc, out := t.out }) ∧
    (∀ i w, Tbl.get none s.q.watch i = some w → switchTime s < w.due → exec (.barometerSample i) s = .next s)

/-- Client egress (R159, R164, R165, R194 to R196, R269): the head frame of the queue chosen starts and occupies the port; when its
last byte has left it ends, with its FCS inverted if its tag has failed or has not come; a host frame joins its queue, or is
counted on a port that is DOWN; frames older than 2 s are discarded. -/
def Obligations.ClientEgress : Prop :=
  ∀ (s : State) (p : Nat),
    (∀ l u q d f rest, ((headChecks p (creditPort p s)).port p).mayStart s.clk.now = true →
      eligibleQs p (headChecks p (creditPort p s)) = (l, u) → chooseQ (u.port p) l = some (q, d) →
      Tbl.get [] (u.port p).queues q = f :: rest → nextWith (.egressFrameStart p) s fun t =>
        (t.port p).busy = s.clk.now +
          byteTime (s.port p).gbps (frameLen (if f.csum then writeChecksums f.pkt.bytes else f.pkt.bytes) + 20) ∧
        (∃ x, (t.port p).started = some x ∧ x.q = q ∧
          x.pkt.bytes = (if f.csum then writeChecksums f.pkt.bytes else f.pkt.bytes) ∧
          x.ends = s.clk.now + byteTime (s.port p).gbps (8 + frameLen x.pkt.bytes)) ∧
        (t.port p).up = (s.port p).up ∧ (t.port p).cfg = (s.port p).cfg ∧ otherPorts p s t ∧
        t = { s with clk := t.clk, q := t.q, ports := t.ports, evc := t.evc, pmc := t.pmc, out := t.out }) ∧
    (((headChecks p (creditPort p s)).port p).mayStart s.clk.now = false →
      exec (.egressFrameStart p) s = .next (headChecks p (creditPort p s))) ∧
    (∀ f : HostFrame, f.port = p → s.hasPort p = true → f.queue < 8 → (s.port p).cfg.isSome = true → (s.port p).up = true →
      (s.port p).asleep = false →
      egressBytes (Tbl.get [] (s.port p).queues f.queue) + frameLen f.bytes ≤ (Tbl.get {} (s.port p).eg f.queue : EgressQ).limit →
      poolBytes s + frameLen f.bytes ≤ poolSize →
      (∀ x l, Tbl.get [] (s.port p).queues f.queue = x :: l →
        x.pkt.md.auth ≠ .fail ∧ (s.port p).tooLong f.queue (frameLen x.pkt.bytes) = false) →
      (Tbl.get [] (s.port p).queues f.queue = [] → (s.port p).tooLong f.queue (frameLen f.bytes) = false) →
      nextWith (.hostFrameSend f) s fun t =>
        (∃ x, Tbl.get [] (t.port p).queues f.queue = Tbl.get [] (s.port p).queues f.queue ++ [x] ∧ x.pkt.bytes = f.bytes ∧
          x.at_ = switchTime s ∧ x.csum = f.csum ∧ x.pkt.md.tsReq = f.tsReq ∧ x.pkt.md.tsTag = f.tsTag) ∧
        (∀ k, k ≠ f.queue → Tbl.get [] (t.port p).queues k = Tbl.get [] (s.port p).queues k) ∧ otherPorts p s t ∧
        t = { s with clk := { s.clk with draws := s.clk.draws + 1 }, ports := t.ports }) ∧
    (∀ x, (s.port p).started = some x → x.ends ≤ s.clk.now →
      ((endFrame p s).port p).started = none ∧ otherPorts p s (endFrame p s) ∧
      Output.frame p x.q x.pkt.bytes (x.pkt.md.auth == .fail || x.pkt.md.auth == .pending) ∈ (endFrame p s).out) ∧
    (∀ f : HostFrame, f.port = p → s.hasPort p = true → f.queue < 8 → (s.port p).up = false → nextWith (.hostFrameSend f) s fun t =>
        (t.port p).stats.portDown = (s.port p).stats.portDown + 1 ∧ (t.port p).queues = (s.port p).queues ∧ otherPorts p s t) ∧
    (∀ q, (∃ f ∈ Tbl.get [] (s.port p).queues q, f.at_ + sec 2 < switchTime s) → nextWith (.egressAge p q) s fun t =>
      Tbl.get 0 (t.port p).stats.egAge q = Tbl.get 0 (s.port p).stats.egAge q +
        ((Tbl.get [] (s.port p).queues q).filter fun f => decide (f.at_ + sec 2 < switchTime s)).length ∧
      (∀ f ∈ Tbl.get [] (t.port p).queues q, f ∈ Tbl.get [] (s.port p).queues q ∧ switchTime s ≤ f.at_ + sec 2) ∧
      otherPorts p s t ∧ t = { s with clk := t.clk, ports := t.ports, evc := t.evc, pmc := t.pmc, out := t.out }) ∧
    (∀ q, (∀ f ∈ Tbl.get [] (s.port p).queues q, switchTime s ≤ f.at_ + sec 2) → exec (.egressAge p q) s = .next s)

/-- Lane and reference commands (R171, R178, R179, R186; Table 8-5) change the named lane, or the references, and nothing
else.
Lane events (R172, R173, R175 to R179, R189): loss of signal, of lock and of alignment take the lane's ports DOWN; which headers,
markers and skew make and break alignment, and which error counts the pattern lock; a lost reference input gives way to LINE. -/
def Obligations.Lanes : Prop :=
  (∀ (h : Hdr) (s : State) (n : Nat), n < s.variant.lanes → n < 32 →
    (∀ a b p, runsNow h (.laneConfig n a b p) s → p ≤ 15 → completes (.laneConfig h n a b p) h 0x0801 s fun t =>
      t.lane n = { s.lane n with txInv := a, rxInv := b, preset := p } ∧ otherLanes n s t ∧
      t = { takeUp h s with lanes := t.lanes }) ∧
    (∀ a b p, runsNow h (.laneConfig n a b p) s → 15 < p → failsWith (.laneConfig h n a b p) h 0x0801 .paramRange s) ∧
    (runsNow h (.laneStatus n) s → completes (.laneStatus h n) h 0x0803 s fun t =>
      t.lane n = { s.lane n with ppm := (t.lane n).ppm } ∧ otherLanes n s t ∧
      t = { takeUp h s with lanes := t.lanes, clk := { s.clk with draws := s.clk.draws + 2 } }) ∧
    (runsNow h (.laneMonitorSet n .monitor) s → (s.lane n).mode ≠ .monitor →
      completes (.laneMonitorSet h n .monitor) h 0x0804 s fun t =>
        t.lane n = { s.lane n with mode := .monitor, align := false, block := false, patLock := false } ∧ otherLanes n s t ∧
        t = { takeUp h s with lanes := t.lanes }) ∧
    (∀ m, runsNow h (.laneMonitorSet n m) s → m ≠ .monitor → m ≠ (s.lane n).mode → (m = .ssprq → ∀ x, laneRate n s ≠ some (.g25, x)) →
      completes (.laneMonitorSet h n m) h 0x0804 s fun t =>
        t.lane n = { s.lane n with mode := m, patLock := false } ∧ otherLanes n s t ∧
        (∀ p ∈ portsOfLane n s, (t.port p).up = false) ∧ (∀ p, p ∉ portsOfLane n s → t.port p = s.port p) ∧
        t = { takeUp h s with
          clk := t.clk, lanes := t.lanes, ports := t.ports, evc := t.evc, pmc := t.pmc, out := t.out }) ∧
    (∀ m, runsNow h (.laneMonitorSet n m) s → m = (s.lane n).mode → (m = .ssprq → ∀ x, laneRate n s ≠ some (.g25, x)) →
      completes (.laneMonitorSet h n m) h 0x0804 s fun t => t = takeUp h s) ∧
    (∀ x, runsNow h (.laneMonitorSet n .ssprq) s → laneRate n s = some (.g25, x) →
      failsWith (.laneMonitorSet h n .ssprq) h 0x0804 .paramRange s) ∧
    (runsNow h (.lanePatternRead n true) s → completes (.lanePatternRead h n true) h 0x0805 s fun t =>
      t.lane n = { s.lane n with patBits := 0, patErrs := 0 } ∧ otherLanes n s t ∧
      t = { takeUp h s with lanes := t.lanes, clk := { s.clk with draws := s.clk.draws + 2 } }) ∧
    (runsNow h (.lanePatternRead n false) s → completes (.lanePatternRead h n false) h 0x0805 s fun t =>
      t.lane n = { s.lane n with patBits := (t.lane n).patBits, patErrs := (t.lane n).patErrs } ∧
      ((s.lane n).patLock = false → t.lane n = s.lane n) ∧ otherLanes n s t ∧
      t = { takeUp h s with lanes := t.lanes, clk := { s.clk with draws := s.clk.draws + 2 } }) ∧
    (∀ q src, runsNow h (.laneRefclkSet (.quad q src)) s → q < 8 → q < s.quads →
      completes (.laneRefclkSet h (.quad q src)) h 0x0802 s fun t =>
        t.refs.quadRef q = src ∧ (∀ k, k ≠ q → t.refs.quadRef k = s.refs.quadRef k) ∧ t.refs.out = s.refs.out ∧
        t.refs.outEn = s.refs.outEn ∧ t = { takeUp h s with refs := t.refs }) ∧
    (∀ o src en, runsNow h (.laneRefclkSet (.output o src en)) s → o < 2 → src ≠ .board1 →
      completes (.laneRefclkSet h (.output o src en)) h 0x0802 s fun t =>
        t.refs.outRef o = src ∧ t.refs.outEn.getLsbD o = en ∧ (∀ k, k ≠ o → t.refs.outRef k = s.refs.outRef k) ∧
        t.refs.quad = s.refs.quad ∧ t = { takeUp h s with refs := t.refs })) ∧
  (∀ (s : State) (n : Nat), n < s.variant.lanes → s.pwr.asleep = false →
    ((s.lane n).signal = true → nextWith (.laneLos n) s fun t =>
      t.lane n = { s.lane n with signal := false, nLos := (s.lane n).nLos + 1 } ∧ otherLanes n s t ∧
      (∀ p ∈ portsOfLane n s, (t.port p).up = false) ∧ (∀ p, p ∉ portsOfLane n s → t.port p = s.port p) ∧
      t = { s with clk := t.clk, lanes := t.lanes, ports := t.ports, evc := t.evc, pmc := t.pmc, out := t.out }) ∧
    ((s.lane n).signal = false → exec (.laneLos n) s = .next s) ∧
    ((s.lane n).mode = .monitor → (s.lane n).cdr = true → nextWith (.laneLol n) s fun t =>
      t.lane n = { s.lane n with cdr := false, nLol := (s.lane n).nLol + 1 } ∧ otherLanes n s t ∧
      (∀ p ∈ portsOfLane n s, (t.port p).up = false) ∧ (∀ p, p ∉ portsOfLane n s → t.port p = s.port p) ∧
      t = { s with clk := t.clk, lanes := t.lanes, ports := t.ports, evc := t.evc, pmc := t.pmc, out := t.out }) ∧
    (∀ r multi e, laneRate n s = some (r, multi) → (s.lane n).mode = .monitor →
      (∀ l, (s.lane n).locks r multi e = some l → nextWith (.laneAlignLock n e) s fun t =>
        t.lane n = l ∧ otherLanes n s t ∧ t = { s with lanes := t.lanes }) ∧
      ((s.lane n).locks r multi e = none → exec (.laneAlignLock n e) s = .next s)) ∧
    (∀ l : Lane, l.block = false →
      (∀ x : List (BitVec 2), x.length = 64 → (∀ y ∈ x, y = 1 ∨ y = 2) → ∀ multi,
        l.locks .g25 multi (.headers x) = some { l with block := true, align := !multi, skew := false }) ∧
      (∀ x : List (BitVec 2), (∃ y ∈ x, y = 0 ∨ y = 3) → ∀ r multi, l.locks r multi (.headers x) = none)) ∧
    (∀ l : Lane, l.align = false → ∀ r multi a b, r ≠ .g25 ∨ (multi = true ∧ l.block = true) →
      (a ≤ 3 → b ≤ 3 → l.locks r multi (.markers a b) = some { l with align := true, skew := false }) ∧
      (3 < a ∨ 3 < b → l.locks r multi (.markers a b) = none)) ∧
    (∀ r multi e, laneRate n s = some (r, multi) → (s.lane n).mode = .monitor →
      (∀ l, (s.lane n).loses r multi e = some l → nextWith (.laneAlignLost n e) s fun t =>
        t.lane n = l ∧ otherLanes n s t ∧
        (∀ p ∈ portsOfLane n s, (t.port p).up = false) ∧ (∀ p, p ∉ portsOfLane n s → t.port p = s.port p) ∧
        t = { s with clk := t.clk, lanes := t.lanes, ports := t.ports, evc := t.evc, pmc := t.pmc, out := t.out }) ∧
      ((s.lane n).loses r multi e = none → exec (.laneAlignLost n e) s = .next s)) ∧
    (∀ (l : Lane) (multi : Bool),
      (∀ x : List (BitVec 2), l.block = true → x.length = 64 → 16 ≤ (x.filter fun y => y == 0 || y == 3).length →
        l.loses .g25 multi (.headers x) = some { l with align := false, block := false, nAlign := l.nAlign + 1 }) ∧
      (∀ x : List (BitVec 2), (x.filter fun y => y == 0 || y == 3).length < 16 → ∀ r, l.loses r multi (.headers x) = none) ∧
      (∀ a b c d r, l.align = true → r ≠ .g25 ∨ multi = true → 3 < a → 3 < b → 3 < c → 3 < d →
        l.loses r multi (.markers [a, b, c, d]) = some { l with align := false, nAlign := l.nAlign + 1 }) ∧
      (∀ m r, (∃ a ∈ m, a ≤ 3) → l.loses r multi (.markers m) = none) ∧
      (∀ ps r, l.loses r true (.skew ps) =
        if 180000 < ps then some { l with align := false, nAlign := l.nAlign + 1, skew := true } else none)) ∧
    (∀ b, (s.lane n).mode = .monitor → nextWith (.laneBerHigh n b) s fun t =>
      t.lane n = { s.lane n with ber := b } ∧ otherLanes n s t ∧
      t = { s with lanes := t.lanes, evc := t.evc, out := t.out }) ∧
    (∀ g w x e, (s.lane n).mode ≠ .monitor → (s.lane n).patLock ≠ g → (g = true → w = 0) → (g = false → 64 ≤ w) →
      nextWith (.lanePatternLock n g w x e) s fun t =>
      t.lane n = { s.lane n with
        patLock := g, patBits := satAdd 48 (s.lane n).patBits x, patErrs := satAdd 48 (s.lane n).patErrs e } ∧
      otherLanes n s t ∧ t = { s with lanes := t.lanes, evc := t.evc, out := t.out }) ∧
    (∀ w x e, 0 < w → exec (.lanePatternLock n true w x e) s = .next s) ∧
    (∀ w x e, w < 64 → exec (.lanePatternLock n false w x e) s = .next s) ∧
    (nextWith (.laneSignalDetect n) s fun t =>
      t.lane n = { s.lane n with signal := true } ∧ otherLanes n s t ∧ t = { s with lanes := t.lanes }) ∧
    ((s.lane n).mode = .monitor → nextWith (.laneCdrLock n) s fun t =>
      t.lane n = { s.lane n with cdr := true } ∧ otherLanes n s t ∧ t = { s with lanes := t.lanes }) ∧
    ((∃ q, q < s.quads ∧ s.refs.quadRef q = .board0) → nextWith (.laneRefFault 0) s fun t =>
      (∀ q, q < s.quads → t.refs.quadRef q = (if s.refs.quadRef q = .board0 then .line else s.refs.quadRef q)) ∧
      (∀ k, k < 2 → t.refs.outRef k =
        (if s.refs.outEn.getLsbD k = true ∧ s.refs.outRef k = .board0 then .line else s.refs.outRef k)) ∧
      t.refs.lost.getLsbD 0 = true ∧ t.refs.outEn = s.refs.outEn ∧
      t = { s with refs := t.refs, evc := t.evc, out := t.out }))

/-- The die-to-die link (R181, R183 to R185, R304, R306): sparing, loss of a lane, retrains and their end, the split and the
rejoin. -/
def Obligations.DieLink : Prop :=
  ∀ (h : Hdr) (s : State),
    (∀ w, runsNow h (.dieRetrain w) s → s.die.split = false → ∃ t,
      exec (.dieRetrain h w) s = .next (keepOpen h (.dieRetrain w) t) ∧ t.die.retrain = true ∧
      t.die.waiter = s.die.waiter ++ [h] ∧ t.die.widen = (s.die.widen || w) ∧ t.die.goodUp = s.die.goodUp ∧
      t.die.goodDown = s.die.goodDown ∧ t = { takeUp h s with clk := t.clk, die := t.die, evc := t.evc, out := t.out }) ∧
    (∀ w, runsNow h (.dieRetrain w) s → s.die.split = true →
      exec (.dieRetrain h w) s = .next (keepOpen h (.dieRetrain w) { takeUp h s with
        die := { s.die with waiter := s.die.waiter ++ [h], widen := s.die.widen || w } })) ∧
    (∀ k, s.die.split = false → k < 24 → s.die.widthUp < s.die.goodUp → nextWith (.dieLaneSpared false k) s fun t =>
      t.die = { s.die with goodUp := s.die.goodUp - 1, nSpared := s.die.nSpared + 1, errs := t.die.errs } ∧
      Tbl.get 0 s.die.errs k < Tbl.get 0 t.die.errs k ∧
      t = { s with clk := { s.clk with draws := s.clk.draws + 1 }, die := t.die, evc := t.evc, out := t.out }) ∧
    (∀ k, s.die.split = false → k < 24 → s.die.widthDown < s.die.goodDown → nextWith (.dieLaneSpared true k) s fun t =>
      t.die = { s.die with goodDown := s.die.goodDown - 1, nSpared := s.die.nSpared + 1, errs := t.die.errs } ∧
      Tbl.get 0 s.die.errs (24 + k) < Tbl.get 0 t.die.errs (24 + k) ∧
      t = { s with clk := { s.clk with draws := s.clk.draws + 1 }, die := t.die, evc := t.evc, out := t.out }) ∧
    (∀ k, s.die.split = false → k < 24 → 1 < s.die.goodUp → nextWith (.dieLaneLoss false k) s fun t =>
      t.die.retrain = true ∧ t.die.split = false ∧ t.die.goodUp = s.die.goodUp - 1 ∧ t.die.goodDown = s.die.goodDown ∧
      t.die.nFailed = s.die.nFailed + 1 ∧
      t.die.nSpared = s.die.nSpared + (if s.die.widthUp < s.die.goodUp then 1 else 0) ∧ t.time = s.time ∧
      t.carriers = s.carriers ∧ t = { s with clk := t.clk, die := t.die, evc := t.evc, out := t.out }) ∧
    (∀ d k, s.die.split = false → k < 24 → (if d then s.die.goodDown else s.die.goodUp) = 1 →
      nextWith (.dieLaneLoss d k) s fun t => t.die.split = true ∧ t.die.widthUp = 0 ∧ t.die.widthDown = 0) ∧
    (∀ u d x y, s.die.retrain = true → x = min u (if s.die.widen then 24 else s.die.goodUp) →
      y = min d (if s.die.widen then 24 else s.die.goodDown) → 0 < x → 0 < y →
      nextWith (.dieRetrainComplete u d) s fun t =>
        t.die.retrain = false ∧ t.die.goodUp = x ∧ t.die.goodDown = y ∧ t.die.widthUp = dieWidth x ∧
        t.die.widthDown = dieWidth y ∧
        t.die.waiter = [] ∧ t.die.split = s.die.split ∧ t.carriers = s.carriers ∧ t.time = s.time) ∧
    (∀ u d, s.die.retrain = false → exec (.dieRetrainComplete u d) s = .next s) ∧
    (s.die.split = false → nextWith .dieSplit s fun t =>
      t.die.split = true ∧ t.die.retrain = false ∧ t.die.widthUp = 0 ∧ t.die.widthDown = 0 ∧ t.time.aligned = false ∧
      t.time.copy = some (lineTime s) ∧ t.time.copyValid = timeValid s ∧
      (∀ n ∈ s.carrierNums, (t.carrier n).drawn = []) ∧ t.reg = s.reg ∧ t.ports = s.ports ∧ t.sec = s.sec ∧
      t = { s with
        time := t.time, carriers := t.carriers, q := t.q, die := t.die, evc := t.evc, pmc := t.pmc, out := t.out }) ∧
    (s.die.split = true → exec .dieSplit s = .next s) ∧
    (∀ u d, s.die.split = true → 0 < u → 0 < d → nextWith (.splitRetrainAttempt u d) s fun t =>
      t.die.split = false ∧ t.die.goodUp = min u 24 ∧ t.die.goodDown = min d 24 ∧ t.die.widthUp = dieWidth (min u 24) ∧
      t.die.widthDown = dieWidth (min d 24) ∧ t.die.waiter = [] ∧ t.time.aligned = true ∧ t.time.copy = none ∧
      t.fuses = s.fuses ∧ t.reg = s.reg) ∧
    (∀ u d, s.die.split = true → u = 0 ∨ d = 0 → nextWith (.splitRetrainAttempt u d) s fun t =>
      t.die = { s.die with waiter := [] } ∧ t.time = s.time ∧ t.carriers = s.carriers) ∧
    (∀ u d, s.die.split = false → exec (.splitRetrainAttempt u d) s = .next s)

/-- Port commands (R4, R170, R188, R192, R199 to R209; Table 9-5) change the named port; a new mode, sleep and freeing take it
DOWN; a mode over another port's lanes is refused. -/
def Obligations.PortCommands : Prop :=
  ∀ (h : Hdr) (s : State) (p : Nat), p < 32 → s.hasPort p = true →
    (∀ c, runsNow h (.portConfig p (some c)) s → checkPortConfig p c s = .ok →
      completes (.portConfig h p (some c)) h 0x0806 s fun t =>
        (t.port p).cfg = some c ∧ otherPorts p s t ∧
        (∀ d, (s.port p).cfg = some d → d.lanes = c.lanes → d.rate = c.rate → d.fec = c.fec →
          t.port p = { s.port p with cfg := some c }) ∧
        (∀ d, (s.port p).cfg = some d → d.lanes ≠ c.lanes ∨ d.rate ≠ c.rate ∨ d.fec ≠ c.fec → (t.port p).up = false) ∧
        t = { takeUp h s with
          clk := t.clk, ports := t.ports, groups := t.groups, sec := t.sec, cls := t.cls, evc := t.evc, pmc := t.pmc
          out := t.out }) ∧
    (∀ c, runsNow h (.portConfig p (some c)) s → checkPortConfig p c s = .lanesInUse → groupsIn .committed s = [] →
      failsWith (.portConfig h p (some c)) h 0x0806 .lanesInUse s) ∧
    (runsNow h (.portConfig p none) s → completes (.portConfig h p none) h 0x0806 s fun t =>
      (t.port p).cfg = none ∧ (t.port p).up = false ∧ otherPorts p s t ∧
      t = { takeUp h s with
        clk := t.clk, ports := t.ports, groups := t.groups, sec := t.sec, cls := t.cls, evc := t.evc, pmc := t.pmc
        out := t.out }) ∧
    (∀ f, runsNow h (.portFilterSet p f) s → (∀ x ∈ f.entries, x.1 < 64) → completes (.portFilterSet h p f) h 0x0808 s fun t =>
      t.port p = { s.port p with
        promisc := f.promisc, bcast := f.bcast, mcast := f.mcast
        filter := f.entries.foldl (fun t x => Tbl.set (0, false) t x.1 x.2) (s.port p).filter } ∧
      otherPorts p s t ∧ t = { takeUp h s with ports := t.ports }) ∧
    (∀ x, runsNow h (.portPauseSet p x) s → pauseOk x = true → completes (.portPauseSet h p x) h 0x0809 s fun t =>
      (t.port p).pause = x ∧ (t.port p).up = (s.port p).up ∧ (t.port p).fifo = (s.port p).fifo ∧
      ((s.port p).pause.mode ≠ x.mode → (t.port p).paused = []) ∧ otherPorts p s t ∧
      t = { takeUp h s with ports := t.ports, out := t.out }) ∧
    (∀ x, runsNow h (.portPauseSet p x) s → pauseOk x = false →
      failsWith (.portPauseSet h p x) h 0x0809 .paramRange s) ∧
    (∀ rx tx, runsNow h (.portTsConfig p rx tx) s → rx ≤ 800 → tx ≤ 800 →
      completes (.portTsConfig h p rx tx) h 0x080A s fun t =>
        t.port p = { s.port p with rxLat := rx, txLat := tx } ∧ otherPorts p s t ∧ t = { takeUp h s with ports := t.ports }) ∧
    (∀ n, runsNow h (.portTsRead p n) s → 1 ≤ n → n ≤ 64 → completes (.portTsRead h p n) h 0x080B s fun t =>
      t.port p = { s.port p with stamps := (s.port p).stamps.drop n } ∧ otherPorts p s t ∧
      t = { takeUp h s with ports := t.ports, evc := t.evc, out := t.out }) ∧
    (∀ ih tw, runsNow h (.portLpiSet p true ih tw) s → 1 ≤ ih → ih ≤ 10000 → tw ≤ 65535 → s.variant.lpi = true →
      lpiMode (s.port p) = true → completes (.portLpiSet h p true ih tw) h 0x080C s fun t =>
        t.port p = { s.port p with lpi := true, idleHold := ih, rxTw := tw, lldpAt := none } ∧ otherPorts p s t ∧
        t = { takeUp h s with ports := t.ports }) ∧
    (∀ ih tw, runsNow h (.portLpiSet p false ih tw) s → 1 ≤ ih → ih ≤ 10000 → tw ≤ 65535 → s.variant.lpi = true →
      lpiMode (s.port p) = true → completes (.portLpiSet h p false ih tw) h 0x080C s fun t =>
        (t.port p).lpi = false ∧ (t.port p).tw = none ∧ (t.port p).inLpi = none ∧ (t.port p).idleHold = ih ∧
        otherPorts p s t ∧ t = { takeUp h s with ports := t.ports }) ∧
    (∀ e ih tw, runsNow h (.portLpiSet p e ih tw) s → 1 ≤ ih → ih ≤ 10000 → tw ≤ 65535 → s.variant.lpi = true →
      lpiMode (s.port p) = false → failsWith (.portLpiSet h p e ih tw) h 0x080C .lpiUnsupported s) ∧
    (∀ e ih tw, runsNow h (.portLpiSet p e ih tw) s → 1 ≤ ih → ih ≤ 10000 → tw ≤ 65535 → s.variant.lpi = false →
      failsWith (.portLpiSet h p e ih tw) h 0x080C .unitAbsent s) ∧
    (∀ w, runsNow h (.portSleep p true w) s → (s.port p).cfg.isSome = true → completes (.portSleep h p true w) h 0x080D s fun t =>
      (t.port p).asleep = true ∧ (t.port p).wakeOnTx = w ∧ (t.port p).up = false ∧ (t.port p).cfg = (s.port p).cfg ∧
      (∀ n ∈ (s.port p).laneNums p, (t.lane n).cdr = false ∧ (t.lane n).align = false ∧ (t.lane n).mode = (s.lane n).mode) ∧
      (∀ n, n ∉ (s.port p).laneNums p → t.lane n = s.lane n) ∧ otherPorts p s t ∧
      t = { takeUp h s with
        clk := t.clk, lanes := t.lanes, ports := t.ports, evc := t.evc, pmc := t.pmc, out := t.out }) ∧
    (∀ w, runsNow h (.portSleep p false w) s → (s.port p).cfg.isSome = true →
      completes (.portSleep h p false w) h 0x080D s fun t =>
        t.port p = { s.port p with asleep := false, wakeOnTx := w } ∧ otherPorts p s t ∧
        t = { takeUp h s with ports := t.ports, evc := t.evc, out := t.out }) ∧
    (∀ x w, runsNow h (.portSleep p x w) s → (s.port p).cfg = none →
      completes (.portSleep h p x w) h 0x080D s fun t => t = takeUp h s) ∧
    (runsNow h (.portStatsRead p true) s → completes (.portStatsRead h p true) h 0x0810 s fun t =>
      t.port p = { s.port p with stats := {} } ∧ otherPorts p s t ∧ t = { takeUp h s with ports := t.ports }) ∧
    (runsNow h (.portStatsRead p false) s → completes (.portStatsRead h p false) h 0x0810 s fun t => t = takeUp h s)

/-- Reception of a frame (R190 to R192, R197, R209; Table 9-2): the first row that applies takes it; a frame that passes the
filter is stored if the FIFO of 256 KiB has room. -/
def Obligations.FrameReception : Prop :=
  ∀ (s : State) (p : Nat) (f : RxFrame),
    ((s.port p).up = false → exec (.frameReceive p f) s = .next s) ∧
    ((s.port p).up = true → nextWith (.frameReceive p f) s fun t =>
      otherPorts p s t ∧ (t.port p).up = true ∧ (t.port p).cfg = (s.port p).cfg ∧
      t = { s with clk := t.clk, tio := t.tio, cls := t.cls, ports := t.ports, evc := t.evc, out := t.out }) ∧
    ((s.port p).up = true → f.fcsOk = false ∨ f.pcsErr = true → nextWith (.frameReceive p f) s fun t =>
      t.port p = { s.port p with stats := { (s.port p).stats with fcsErr := (s.port p).stats.fcsErr + 1 } } ∧
      t.cls = s.cls) ∧
    ((s.port p).up = true → f.fcsOk = true → f.pcsErr = false → frameLen f.bytes < 64 →
      nextWith (.frameReceive p f) s fun t =>
        t.port p = { s.port p with stats := { (s.port p).stats with runt := (s.port p).stats.runt + 1 } } ∧
        t = { s with ports := t.ports }) ∧
    (∀ c, (s.port p).up = true → f.fcsOk = true → f.pcsErr = false → 64 ≤ frameLen f.bytes → (s.port p).cfg = some c →
      c.maxFrame < frameLen f.bytes → nextWith (.frameReceive p f) s fun t =>
        t.port p = { s.port p with stats := { (s.port p).stats with oversize := (s.port p).stats.oversize + 1 } } ∧
        t = { s with ports := t.ports }) ∧
    (∀ c, (s.port p).up = true → f.fcsOk = true → f.pcsErr = false → 64 ≤ frameLen f.bytes → (s.port p).cfg = some c →
      frameLen f.bytes ≤ c.maxFrame → be f.bytes 12 2 ≠ 0x8808 → innerType f.bytes ≠ 0x88B5 → be f.bytes 12 2 ≠ 0x88F7 →
      be f.bytes 12 2 ≠ 0x88CC → (s.port p).accepts (dstOf f.bytes) = false → nextWith (.frameReceive p f) s fun t =>
        (t.port p).stats.filtered = (s.port p).stats.filtered + 1 ∧ (t.port p).fifo = (s.port p).fifo ∧
        t = { s with ports := t.ports }) ∧
    (∀ c, (s.port p).up = true → f.fcsOk = true → f.pcsErr = false → 64 ≤ frameLen f.bytes → (s.port p).cfg = some c →
      frameLen f.bytes ≤ c.maxFrame → be f.bytes 12 2 ≠ 0x8808 → innerType f.bytes ≠ 0x88B5 → be f.bytes 12 2 ≠ 0x88F7 →
      be f.bytes 12 2 ≠ 0x88CC → (s.port p).accepts (dstOf f.bytes) = true →
      262144 < fifoBytes (s.port p).fifo + frameLen f.bytes → nextWith (.frameReceive p f) s fun t =>
        (t.port p).stats.overrun = (s.port p).stats.overrun + 1 ∧ (t.port p).fifo = (s.port p).fifo ∧
        t.cls = { s.cls with nIngress := s.cls.nIngress + 1 }) ∧
    (∀ c, (s.port p).up = true → f.fcsOk = true → f.pcsErr = false → 64 ≤ frameLen f.bytes → (s.port p).cfg = some c →
      frameLen f.bytes ≤ c.maxFrame → be f.bytes 12 2 ≠ 0x8808 → innerType f.bytes ≠ 0x88B5 → be f.bytes 12 2 ≠ 0x88F7 →
      be f.bytes 12 2 ≠ 0x88CC → (s.port p).accepts (dstOf f.bytes) = true →
      fifoBytes (s.port p).fifo + frameLen f.bytes ≤ 262144 → nextWith (.frameReceive p f) s fun t =>
        ∃ x, (t.port p).fifo = (s.port p).fifo ++ [x] ∧ x.bytes = f.bytes ∧ x.md.port = p ∧ x.md.len = frameLen f.bytes ∧
          x.md.rxTime = rxInstant (s.port p) (frameLen f.bytes) f.sub s ∧ x.md.rxValid = switchValid s) ∧
    ((s.port p).up = true → f.fcsOk = true → f.pcsErr = false → 64 ≤ frameLen f.bytes → frameLen f.bytes ≤ 9600 →
      (s.port p).cfg = none → be f.bytes 12 2 = 0x8808 → nextWith (.frameReceive p f) s fun t =>
        (t.port p).fifo = (s.port p).fifo ∧ t = { s with ports := t.ports })

/-- The pause accounts of a port (R198 to R200): the timer's end, the watchdog, its recovery, and the refresh.
A port's state (R188, R189, R205 to R208): it goes UP with its lanes aligned and no fault, DOWN on a fault; low-power idle;
LLDP; waking. -/
def Obligations.PortEvents : Prop :=
  (∀ (s : State) (p q : Nat) (x : Pause), Tbl.get {} (s.port p).paused q = x →
    (∀ u, x.until_ = some u → u ≤ s.clk.now → nextWith (.pauseTimerExpiry p q) s fun t =>
      Tbl.get {} (t.port p).paused q = { x with until_ := none, since := none } ∧
      (∀ k, k ≠ q → Tbl.get {} (t.port p).paused k = Tbl.get {} (s.port p).paused k) ∧
      t.port p = { s.port p with paused := (t.port p).paused } ∧ otherPorts p s t ∧ t = { s with ports := t.ports }) ∧
    (∀ u, x.until_ = some u → s.clk.now < u → exec (.pauseTimerExpiry p q) s = .next s) ∧
    (∀ b u, x.since = some b → b + ms (s.port p).pause.watchdog ≤ s.clk.now → x.until_ = some u → s.clk.now < u →
      nextWith (.pauseWatchdog p q) s fun t =>
        Tbl.get {} (t.port p).paused q = { ignore := some (s.clk.now + ms (s.port p).pause.watchdog) } ∧
        (∀ k, k ≠ q → Tbl.get {} (t.port p).paused k = Tbl.get {} (s.port p).paused k) ∧
        t.port p = { s.port p with paused := (t.port p).paused } ∧ otherPorts p s t ∧
        t = { s with ports := t.ports, evc := t.evc, out := t.out }) ∧
    (∀ b, x.since = some b → s.clk.now < b + ms (s.port p).pause.watchdog → exec (.pauseWatchdog p q) s = .next s) ∧
    (∀ u, x.ignore = some u → u ≤ s.clk.now → nextWith (.pauseWatchdogRecovery p q) s fun t =>
      Tbl.get {} (t.port p).paused q = { x with ignore := none } ∧
      (∀ k, k ≠ q → Tbl.get {} (t.port p).paused k = Tbl.get {} (s.port p).paused k) ∧
      t.port p = { s.port p with paused := (t.port p).paused } ∧ otherPorts p s t ∧ t = { s with ports := t.ports }) ∧
    (∀ u, x.ignore = some u → s.clk.now < u → exec (.pauseWatchdogRecovery p q) s = .next s) ∧
    (∀ due, Tbl.get none (s.port p).xoff q = some due → due ≤ s.clk.now →
      (s.port p).xonAt q < (s.port p).account q → (s.port p).up = true → nextWith (.pauseRefresh p q) s fun t =>
        t.out = .pauseFrame p ((s.port p).nextStart s.clk.now) (if q = 8 then 0xFF else 1 <<< q) (s.port p).pause.time :: s.out ∧
        Tbl.get none (t.port p).xoff q = some (s.clk.now + (s.port p).halfPause) ∧ otherPorts p s t ∧
        (t.port p).fifo = (s.port p).fifo ∧ t = { s with ports := t.ports, out := t.out }) ∧
    (∀ due, Tbl.get none (s.port p).xoff q = some due → s.clk.now < due → exec (.pauseRefresh p q) s = .next s)) ∧
  (∀ (s : State) (p : Nat),
    ((s.port p).cfg.isSome = true → (s.port p).up = false → (s.port p).asleep = false → lanesReady p s = true →
      nextWith (.portUp p) s fun t =>
        t.port p = { s.port p with up := true, localFault := false, remoteFault := false, idleFrom := s.clk.now } ∧
        otherPorts p s t ∧ t = { s with ports := t.ports, evc := t.evc, out := t.out }) ∧
    (lanesReady p s = false ∨ (s.port p).asleep = true ∨ (s.port p).cfg = none → exec (.portUp p) s = .next s) ∧
    (∀ r, (s.port p).cfg.isSome = true → nextWith (.portDown p r) s fun t =>
      (t.port p).up = false ∧ (t.port p).cfg = (s.port p).cfg ∧ (if r then (t.port p).remoteFault else (t.port p).localFault) = true ∧
      ((s.port p).up = true → (t.port p).paused = [] ∧ (t.port p).queues = []) ∧ otherPorts p s t ∧
      t = { s with clk := t.clk, ports := t.ports, evc := t.evc, pmc := t.pmc, out := t.out }) ∧
    (∀ tw, (s.port p).lpi = true → (s.port p).up = true → (s.port p).tw = some tw →
      (s.port p).isAwake s.clk.now = true → (s.port p).started = none → (s.port p).busy ≤ s.clk.now →
      (s.port p).idleFrom + us (s.port p).idleHold ≤ s.clk.now → (∀ k, Tbl.get [] (s.port p).queues k = []) →
      nextWith (.lpiEntry p) s fun t =>
        (t.port p).inLpi = some s.clk.now ∧ (t.port p).stats = { (s.port p).stats with lpiTx := (s.port p).stats.lpiTx + 1 } ∧
        (t.port p).up = true ∧ otherPorts p s t ∧ t = { s with clk := t.clk, ports := t.ports }) ∧
    (∀ b, (s.port p).inLpi = some b → (eligibleQs p (creditPort p s)).1 ≠ [] → nextWith (.lpiWake p) s fun t =>
      (t.port p).inLpi = none ∧ (t.port p).wakeAt = some (s.clk.now + us ((s.port p).tw.getD (s.port p).twDefault)) ∧
      otherPorts p s t ∧ t = { s with clk := t.clk, ports := t.ports }) ∧
    ((s.port p).lpi = true → (s.port p).up = true → (∀ b, (s.port p).lldpAt = some b → b + sec 30 ≤ s.clk.now) →
      nextWith (.lldpTransmit p) s fun t =>
        (t.port p).lldpAt = some s.clk.now ∧ (t.port p).inLpi = none ∧ (t.port p).fifo = (s.port p).fifo ∧
        t.out = .lldp p ((s.port p).nextStart s.clk.now) ((s.port p).lldpdu p) :: s.out ∧ otherPorts p s t ∧
        t = { s with ports := t.ports, out := t.out }) ∧
    ((s.port p).lpi = false ∨ (s.port p).up = false → exec (.lldpTransmit p) s = .next s) ∧
    ((s.port p).asleep = true → s.pwr.asleep = false → nextWith (.portWake p) s fun t =>
      t.port p = { s.port p with asleep := false } ∧ otherPorts p s t ∧
      t = { s with ports := t.ports, evc := t.evc, out := t.out }) ∧
    ((s.port p).asleep = false → exec (.portWake p) s = .next s) ∧
    ((s.port p).up = true → lpiMode (s.port p) = true → s.variant.lpi = true → (s.port p).rxLpi = none →
      nextWith (.partnerLpi p true) s fun t =>
        t.port p = { s.port p with
          rxLpi := some s.clk.now, stats := { (s.port p).stats with lpiRx := (s.port p).stats.lpiRx + 1 } } ∧
        otherPorts p s t ∧ t = { s with ports := t.ports }) ∧
    (∀ b, (s.port p).up = true → lpiMode (s.port p) = true → s.variant.lpi = true → (s.port p).rxLpi = some b →
      nextWith (.partnerLpi p false) s fun t =>
        (t.port p).rxLpi = none ∧ otherPorts p s t ∧
        (t.port p).stats.lpiRxUs = (s.port p).stats.lpiRxUs + (s.clk.now - b) / us 1 ∧ t = { s with ports := t.ports }))

/-- Snapshots (R38, R210): a free buffer takes the request; the set is sampled at the instant, of all the named ports at once;
a read releases it. -/
def Obligations.Snapshots : Prop :=
  ∀ (h : Hdr) (s : State),
    (∀ i b k, runsNow h (.statsSnapshot i b) s → (∀ p ∈ bitmapPorts b, s.hasPort p = true) → instantStatus i s = .ok →
      i ≤ switchTime s + coarseHorizon → k < 8 → Tbl.get .free s.snaps k = Snapshot.free →
      (∀ j, j < k → Tbl.get .free s.snaps j ≠ Snapshot.free) → completes (.statsSnapshot h i b) h 0x080E s fun t =>
        Tbl.get .free t.snaps k = .pending i b ∧
        (∀ j, j ≠ k → Tbl.get .free t.snaps j = Tbl.get .free s.snaps j) ∧ t = { takeUp h s with snaps := t.snaps }) ∧
    (∀ i b, runsNow h (.statsSnapshot i b) s → (∀ p ∈ bitmapPorts b, s.hasPort p = true) → instantStatus i s = .ok →
      i ≤ switchTime s + coarseHorizon → (∀ j, j < 8 → Tbl.get .free s.snaps j ≠ Snapshot.free) →
      failsWith (.statsSnapshot h i b) h 0x080E .snapshotBusy s) ∧
    (∀ i b, runsNow h (.statsSnapshot i b) s → (∀ p ∈ bitmapPorts b, s.hasPort p = true) → instantStatus i s ≠ .ok →
      failsWith (.statsSnapshot h i b) h 0x080E (instantStatus i s) s) ∧
    (∀ k at_ b, Tbl.get .free s.snaps k = .pending at_ b → switchValid s = true → at_ ≤ switchTime s →
      nextWith (.snapshotDue k) s fun t =>
        Tbl.get .free t.snaps k = .taken at_ ((bitmapPorts b).map fun p => (p, (s.port p).stats)) ∧
        (∀ j, j ≠ k → Tbl.get .free t.snaps j = Tbl.get .free s.snaps j) ∧ t.ports = s.ports ∧
        t = { s with snaps := t.snaps, evc := t.evc, out := t.out }) ∧
    (∀ k at_ b, Tbl.get .free s.snaps k = .pending at_ b → switchTime s < at_ → exec (.snapshotDue k) s = .next s) ∧
    (∀ k r at_ l, runsNow h (.statsRead k r) s → k < 8 → Tbl.get .free s.snaps k = .taken at_ l →
      completes (.statsRead h k r) h 0x080F s fun t =>
        Tbl.get .free t.snaps k = (if r then .free else .taken at_ l) ∧
        (∀ j, j ≠ k → Tbl.get .free t.snaps j = Tbl.get .free s.snaps j) ∧ t = { takeUp h s with snaps := t.snaps }) ∧
    (∀ k r, runsNow h (.statsRead k r) s → k < 8 → Tbl.get .free s.snaps k = Snapshot.free →
      failsWith (.statsRead h k r) h 0x080F .entryAbsent s) ∧
    (∀ k r at_ b, runsNow h (.statsRead k r) s → k < 8 → Tbl.get .free s.snaps k = .pending at_ b →
      failsWith (.statsRead h k r) h 0x080F .notReady s) ∧
    (∀ k why, runsNow h (.statsRead k false) s → k < 8 → Tbl.get .free s.snaps k = .failed why →
      failsWith (.statsRead h k false) h 0x080F why s)

/-- The checks on a security-relevant command (R217, R218, R240, R247): no owner, no identity, no token, a token that does not
hold; a challenge is consumed by the first token that names it, whatever the verdict. -/
def Obligations.TokenChecks : Prop :=
  ∀ (h : Hdr) (c : Cmd) (s : State), secRelevant (Cmd.opcode c) = true → notReady (Cmd.opcode c) (takeUp h s) = false →
    (s.fuses.lifecycle = .blank →
      command h c s = sendReply h (Cmd.opcode c) { status := .securityFault } (takeUp h s)) ∧
    (s.fuses.lifecycle = .unowned →
      command h c s = sendReply h (Cmd.opcode c) { status := .noOwner } (takeUp h s)) ∧
    (s.fuses.lifecycle = .owned → s.sec.selfTest = false →
      command h c s = sendReply h (Cmd.opcode c) { status := .securityFault } (takeUp h s)) ∧
    (s.fuses.lifecycle = .owned → s.sec.selfTest = true → h.token = none →
      command h c s = sendReply h (Cmd.opcode c) { status := .tokenInvalid } (takeUp h s)) ∧
    (∀ t, s.fuses.lifecycle = .owned → s.sec.selfTest = true → h.token = some t → tokenOk t (Cmd.opcode c) s = false →
      command h c s =
        sendReply h (Cmd.opcode c) { status := .tokenInvalid } (consume t.challenge (takeUp h s))) ∧
    (∀ t, s.fuses.lifecycle = .owned → s.sec.selfTest = true → h.token = some t → tokenOk t (Cmd.opcode c) s = true →
      begun h c s = consume t.challenge (takeUp h s) ∧ ∀ x ∈ (begun h c s).sec.challenges, x.1 ≠ t.challenge)

/-- Challenges and the owner (R213, R216, R218): at most 8 challenges stand; enrolment consumes its challenge, fuses the
owner's digest once and makes the device OWNED.
The device's security settings (R240, R241, R243): the side-channel distance, compatibility mode, and the debug port,
whose unlocking clears every peer association. -/
def Obligations.SecuritySettings : Prop :=
  (∀ (h : Hdr) (s : State),
    (runsNow h .secChallenge s → s.sec.rngOk = true → completes (.secChallenge h) h 0x0903 s fun t =>
      (∃ c, t.sec.challenges = s.sec.challenges.drop (s.sec.challenges.length - 7) ++ [(c, s.clk.now)]) ∧
      t.sec.challenges.length ≤ 8 ∧
      t = { takeUp h s with
        clk := { s.clk with draws := s.clk.draws + 1 }, sec := { s.sec with challenges := t.sec.challenges } }) ∧
    (runsNow h .secChallenge s → s.sec.rngOk = false → failsWith (.secChallenge h) h 0x0903 .securityFault s) ∧
    (∀ c d, runsNow h (.secOwnerEnrol c d true true) s → s.fuses.lifecycle ≠ .owned →
      (∃ x ∈ s.sec.challenges, x.1 = c) → completes (.secOwnerEnrol h c d true true) h 0x0904 s fun t =>
        t = { takeUp h s with
          fuses := { s.fuses with owner := some d, lifecycle := .owned },
          sec := { s.sec with challenges := s.sec.challenges.filter fun x => x.1 != c } }) ∧
    (∀ c d a b, runsNow h (.secOwnerEnrol c d a b) s → s.fuses.lifecycle = .owned →
      failsWith (.secOwnerEnrol h c d a b) h 0x0904 .ownerEnrolled s) ∧
    (∀ c d a b, runsNow h (.secOwnerEnrol c d a b) s → s.fuses.lifecycle ≠ .owned →
      a = false ∨ b = false ∨ (∀ x ∈ s.sec.challenges, x.1 ≠ c) →
      exec (.secOwnerEnrol h c d a b) s =
        .next (sendReply h 0x0904 { status := .tokenInvalid } (consume c (takeUp h s)))) ∧
    (nextWith .challengeLapse s fun t =>
      (∀ x ∈ t.sec.challenges, x ∈ s.sec.challenges ∧ s.clk.now < x.2 + sec 600) ∧
      (∀ x ∈ s.sec.challenges, s.clk.now < x.2 + sec 600 → x ∈ t.sec.challenges) ∧
      t = { s with sec := { s.sec with challenges := t.sec.challenges } })) ∧
  (∀ (h : Hdr) (s : State),
    (∀ d, runsNow h (.secSidechannelSet d) s → d ≤ 2 → completes (.secSidechannelSet h d) h 0x090B s fun t =>
      t = { begun h (.secSidechannelSet d) s with sec := { (begun h (.secSidechannelSet d) s).sec with dmax := d } }) ∧
    (∀ d, runsNow h (.secSidechannelSet d) s → 2 < d →
      exec (.secSidechannelSet h d) s =
        .next (sendReply h 0x090B { status := .paramRange } (begun h (.secSidechannelSet d) s))) ∧
    (runsNow h .secDebugUnlock s → completes (.secDebugUnlock h) h 0x090C s fun t =>
      t.sec.unlocked = true ∧ (∀ i, i ≠ 0 → t.assoc i = {}) ∧ t.sec.suspended = [] ∧ t.fuses = s.fuses ∧ t.reg = s.reg ∧
      t.carriers = s.carriers ∧ t.groups = s.groups) ∧
    (∀ e, runsNow h (.secCompatSet e) s → completes (.secCompatSet h e) h 0x090D s fun t =>
      t = { begun h (.secCompatSet e) s with sec := { (begun h (.secCompatSet e) s).sec with compat := e } }) ∧
    (exec .rngRecovered s = .next { s with sec := { s.sec with rngOk := true } }) ∧
    (nextWith .rngFail s fun t =>
      t.sec.rngOk = false ∧ (∀ i, (s.assoc i).state ≠ .free → 1 ≤ i → (t.assoc i).agree = none) ∧ t.fuses = s.fuses ∧
      t.reg = s.reg ∧
      t = { s with
        clk := t.clk, q := t.q, ports := t.ports, sec := t.sec, cmd := t.cmd, evc := t.evc, out := t.out }))

/-- The association commands (R220, R221, R226, R228, R238; Table 10-11), under an owner's token; no other association
changes. -/
def Obligations.AssociationCommands : Prop :=
  ∀ (h : Hdr) (s : State) (i : Nat), 1 ≤ i → i ≤ 4095 →
    (∀ p, runsNow h (.secAssocCreate i p) s → p.initiate = false → p.trib ≤ 63 → 1 ≤ p.armTime → p.armTime ≤ 86400 →
      s.sec.unlocked = false → (s.assoc i).state = .free → completes (.secAssocCreate h i p) h 0x0905 s fun t =>
        t.assoc i = {
          state := .armed, peer := p.peer, suite := p.suite, trib := p.trib, classMask := p.classMask,
          armUntil := s.clk.now + sec p.armTime } ∧
        otherAssocs i s t ∧
        t = { begun h (.secAssocCreate i p) s with
          sec := { (begun h (.secAssocCreate i p) s).sec with assocs := t.sec.assocs } }) ∧
    (∀ p, runsNow h (.secAssocCreate i p) s → p.initiate = true → p.trib ≤ 63 → p.peerNum ≤ 63 →
      s.sec.unlocked = false → (s.assoc i).state = .free → s.sec.rngOk = true →
      ∃ t, exec (.secAssocCreate h i p) s = .next (keepOpen h (.secAssocCreate i p) t) ∧ (t.assoc i).state = .agreeing ∧
        (t.assoc i).peer = p.peer ∧ (t.assoc i).peerNum = p.peerNum ∧ (t.assoc i).suite = p.suite ∧
        (∃ g, (t.assoc i).agree = some g ∧ g.initiator = true ∧ g.rekey = false ∧ g.start = s.clk.now ∧ g.sent = 1) ∧
        otherAssocs i s t ∧ t.groups = s.groups ∧ t.fuses = s.fuses) ∧
    (∀ p, runsNow h (.secAssocCreate i p) s → p.trib ≤ 63 → (p.initiate = true → p.peerNum ≤ 63) →
      (p.initiate = false → 1 ≤ p.armTime ∧ p.armTime ≤ 86400) → s.sec.unlocked = false → (s.assoc i).state ≠ .free →
      exec (.secAssocCreate h i p) s =
        .next (sendReply h 0x0905 { status := .assocState } (begun h (.secAssocCreate i p) s))) ∧
    (runsNow h (.secAssocRekey i) s → (s.assoc i).state = .active → (s.assoc i).agree = none → (s.assoc i).staged = none →
      max (((s.assoc i).tx.map (·.gen)).getD 0) (s.assoc i).lastGen < 2 ^ 32 - 1 → s.sec.rngOk = true →
      ∃ t, exec (.secAssocRekey h i) s = .next (keepOpen h (.secAssocRekey i) t) ∧ (t.assoc i).state = .active ∧
        (t.assoc i).tx = (s.assoc i).tx ∧ (t.assoc i).pn = (s.assoc i).pn ∧
        (∃ g, (t.assoc i).agree = some g ∧ g.initiator = true ∧ g.rekey = true ∧
          g.gen = max (((s.assoc i).tx.map (·.gen)).getD 0) (s.assoc i).lastGen + 1) ∧
        otherAssocs i s t ∧ t.groups = s.groups) ∧
    (runsNow h (.secAssocDelete i) s → (s.assoc i).state ≠ .free → completes (.secAssocDelete h i) h 0x0907 s fun t =>
      t.assoc i = {} ∧ t.fuses = s.fuses ∧ t.reg = s.reg ∧ t.carriers = s.carriers) ∧
    (∀ n hold, runsNow h (.secAssocConfig i n hold) s → 1 ≤ n → n ≤ 65535 → 10 ≤ hold → hold ≤ 2000 →
      (s.assoc i).state ≠ .free → completes (.secAssocConfig h i n hold) h 0x0909 s fun t =>
        t.assoc i = { s.assoc i with threshold := n, oldHold := hold } ∧ otherAssocs i s t ∧
        t = { begun h (.secAssocConfig i n hold) s with
          sec := { (begun h (.secAssocConfig i n hold) s).sec with assocs := t.sec.assocs } }) ∧
    (runsNow h (.secAssocResume i) s → (s.assoc i).state = .active → completes (.secAssocResume h i) h 0x090A s fun t =>
      t.assoc i = { s.assoc i with suspended := false, failCount := 0 } ∧ otherAssocs i s t ∧
      t = { begun h (.secAssocResume i) s with
        sec := { (begun h (.secAssocResume i) s).sec with assocs := t.sec.assocs } })

/-- Host cipher jobs (R242, R243): a short job runs at once, a seal job taking the next packet number; a long or urgent one
goes to cluster 19 and is answered when it has run; an association that cannot serve fails the job. -/
def Obligations.CipherJobs : Prop :=
  ∀ (h : Hdr) (s : State) (i a len : Nat), 1 ≤ i → i ≤ 4095 → 1 ≤ len →
    (runsNow h (.cipherJob true i a len false) s → len ≤ 16384 → jobOk true i s = true →
      ∃ t, exec (.cipherJob h true i a len false) s = .next (sendReply h 0x0910 { data := [len + 32, 1] } t) ∧
        (t.assoc i).pn = (s.assoc i).pn + 1 ∧ otherAssocs i s t ∧ t.sec.job = s.sec.job ∧ t.sec.jobs = s.sec.jobs ∧
        t = { takeUp h s with sec := t.sec, evc := t.evc, out := t.out }) ∧
    (runsNow h (.cipherJob false i a len false) s → len ≤ 16384 → jobOk false i s = true →
      completes (.cipherJob h false i a len false) h 0x0910 s fun t =>
        t = { takeUp h s with clk := { s.clk with draws := s.clk.draws + 1 }, out := t.out }) ∧
    (∀ x, runsNow h (.cipherJob x i a len false) s → len ≤ 16384 → jobOk x i s = false →
      failsWith (.cipherJob h x i a len false) h 0x0910 .assocState s) ∧
    (∀ x, runsNow h (.cipherJob x i a len false) s → s.sec.compat = false → 16384 < len →
      failsWith (.cipherJob h x i a len false) h 0x0910 .lengthLimit s) ∧
    (∀ x, runsNow h (.cipherJob x i a len false) s → s.sec.compat = true → 16384 < len → len ≤ 1048576 →
      jobOk x i s = true → s.sec.job = none →
      ∃ t, exec (.cipherJob h x i a len false) s = .next (keepOpen h (.cipherJob x i a len false) t) ∧
        (∃ j, t.sec.job = some j ∧ j.hdr = h ∧ j.len = len ∧ j.assoc = i ∧ j.isSeal = x) ∧
        (t.assoc i).pn = (s.assoc i).pn + x.toNat ∧ otherAssocs i s t)

/-- Sealing and unsealing (R232 to R236, R238): the oldest packet takes the next packet number and goes to staging, or is
dropped with its reason; a received one enters the pipeline with its tag pending, or is discarded; the tag result marks its
number or counts a failure, up to suspension. -/
def Obligations.SealingAndUnsealing : Prop :=
  ∀ (s : State),
    (∀ p l, s.cls.sealQ = p :: l → stagingRoom (p.bytes.length + 32) s = false → exec .sealPacket s = .next s) ∧
    (∀ p l f, s.cls.sealQ = p :: l → stagingRoom (p.bytes.length + 32) s = true →
      sealCheck p.md.assoc p.md.cls p.bytes.length s = some f →
      nextWith .sealPacket s fun t => t.cls = { s.cls with sealQ := l } ∧ t.q = f s.q ∧ t.sec = s.sec) ∧
    (∀ p l k key, s.cls.sealQ = p :: l → stagingRoom (p.bytes.length + 32) s = true → sealCheck p.md.assoc p.md.cls p.bytes.length s = none →
      leafOf p.md.assoc p.md.cls p.md.flowGroup s = some k → (s.assoc p.md.assoc).tx = some key →
      nextWith .sealPacket s fun t =>
        t.cls = { s.cls with sealQ := l } ∧ (t.assoc p.md.assoc).pn = (s.assoc p.md.assoc).pn + 1 ∧
        otherAssocs p.md.assoc s t ∧
        (∃ x : QPkt, t.q = { s.q with staging := s.q.staging ++ [(k, p.md.colour, x)] } ∧
          x.bytes = sealedBytes (s.assoc p.md.assoc).suite (s.assoc p.md.assoc).peerIdx key.name key.gen
            (s.assoc p.md.assoc).pn p.bytes ∧ x.cls = p.md.cls ∧ x.assoc = p.md.assoc) ∧
        t = { s with clk := t.clk, cls := t.cls, q := t.q, sec := t.sec, evc := t.evc, pmc := t.pmc, out := t.out }) ∧
    (∀ x l, s.down.ready = x :: l → nextWith .unsealPacket s fun t =>
      t.down = { s.down with ready := l } ∧
      t = { s with
        clk := t.clk, carriers := t.carriers, down := t.down, cls := t.cls, sec := t.sec, evc := t.evc, pmc := t.pmc
        out := t.out }) ∧
    (∀ x l, s.down.ready = x :: l → x.assoc ≠ 0 → (s.assoc x.assoc).state = .free → nextWith .unsealPacket s fun t =>
      t.carrier x.carrier = { s.carrier x.carrier with nUnknown := (s.carrier x.carrier).nUnknown + 1 } ∧
      otherCarriers x.carrier s t ∧ t.cls = s.cls ∧ t.sec = s.sec) ∧
    (∀ x l k, s.down.ready = x :: l → x.assoc ≠ 0 → unsealCheck x s = .inr k → nextWith .unsealPacket s fun t =>
      (∃ p : Pkt, t.cls.line = s.cls.line ++ [p] ∧ p.md.assoc = x.assoc ∧ p.md.auth = .pending ∧ p.md.port = 32 + x.carrier) ∧
      t.sec.unsealing.length = s.sec.unsealing.length + 1 ∧ t.sec.assocs = s.sec.assocs) ∧
    (∀ x l r, s.down.ready = x :: l → x.assoc ≠ 0 → unsealCheck x s = .inl r → (s.assoc x.assoc).state ≠ .free →
      nextWith .unsealPacket s fun t =>
        Tbl.get 0 (t.assoc x.assoc).discards r = Tbl.get 0 (s.assoc x.assoc).discards r + 1 ∧ otherAssocs x.assoc s t ∧
        t.cls = s.cls ∧ t.sec.unsealing = s.sec.unsealing) ∧
    (∀ id u, s.sec.unsealing.find? (fun u => u.id == id) = some u → (s.assoc u.assoc).state ≠ .free →
      nextWith (.tagResult id true) s fun t =>
        (∀ v ∈ t.sec.unsealing, v.id ≠ id) ∧ (t.assoc u.assoc).peerNum = u.src ∧
        (t.assoc u.assoc).rx = (s.assoc u.assoc).rx.map (fun k => if k.gen = u.gen then k.mark u.pn else k) ∧
        (t.assoc u.assoc).failCount = (s.assoc u.assoc).failCount ∧ otherAssocs u.assoc s t ∧ t.q = s.q) ∧
    (∀ id u, s.sec.unsealing.find? (fun u => u.id == id) = some u → (s.assoc u.assoc).state ≠ .free →
      nextWith (.tagResult id false) s fun t =>
        (∀ v ∈ t.sec.unsealing, v.id ≠ id) ∧ (t.assoc u.assoc).failCount = (s.assoc u.assoc).failCount + 1 ∧
        (t.assoc u.assoc).suspended = ((s.assoc u.assoc).suspended ||
          decide ((s.assoc u.assoc).threshold ≤ (s.assoc u.assoc).failCount + 1)) ∧
        (t.assoc u.assoc).rx = (s.assoc u.assoc).rx ∧ otherAssocs u.assoc s t ∧ t.q = s.q)

/-- The messages of a key agreement (R222, R224 to R226, R228): what each does to its association once it verifies; one that
does not verify is discarded and counted. No other association changes.
The timers of a key agreement (R221, R222, R227): HELLO again, an answer not confirmed, a peer that stays silent, an arm
time over, an old key released. -/
def Obligations.Agreements : Prop :=
  (∀ (s : State),
    (∀ m i, m.sigsOk = true → m.itemsOk = true → m.responder = s.sec.digest → helloFor m s = .take i → s.sec.rngOk = true →
      nextWith (.hello m) s fun t =>
        (∃ g, (t.assoc i).agree = some g ∧ g.initiator = false ∧ g.gen = m.gen ∧ g.peerNonce = some m.nonce) ∧
        (t.assoc i).peerIdx = m.idx ∧ (t.assoc i).peerNum = m.senderNum ∧
        (t.assoc i).state = (if (s.assoc i).state = .active then .active else .agreeing) ∧ otherAssocs i s t ∧
        t = { s with clk := t.clk, q := t.q, sec := t.sec, evc := t.evc, out := t.out }) ∧
    (∀ m, m.sigsOk = false → nextWith (.hello m) s fun t =>
      t = { s with sec := { s.sec with hsIn := s.sec.hsIn.drop 1, nBadMsg := s.sec.nBadMsg + 1 } }) ∧
    (∀ m g, (s.assoc m.idx).agree = some g → g.initiator = true → g.gen = m.gen → g.replied = false → m.itemsOk = true →
      m.sigsOk = true → m.sender = (s.assoc m.idx).peer → nextWith (.reply m) s fun t =>
        (t.assoc m.idx).agree = some { g with replied := true } ∧ (t.assoc m.idx).peerIdx = m.peerIdx ∧
        (t.assoc m.idx).rx = armRx g.gen g.keyRx (s.assoc m.idx).rx ∧ (t.assoc m.idx).state = (s.assoc m.idx).state ∧
        otherAssocs m.idx s t ∧ t.fuses = s.fuses ∧ t.cmd = s.cmd) ∧
    (∀ m g, (s.assoc m.idx).agree = some g → g.initiator = false → g.gen = m.gen → g.rekey = false → m.hmacOk = true →
      nextWith (.confirmI m) s fun t =>
        (t.assoc m.idx).state = .active ∧ (t.assoc m.idx).agree = none ∧ (t.assoc m.idx).pn = 1 ∧
        (t.assoc m.idx).tx = some { name := g.keyTx, gen := g.gen } ∧ otherAssocs m.idx s t ∧ t.groups = s.groups) ∧
    (∀ m g, (s.assoc m.idx).agree = some g → g.initiator = true → g.replied = true → g.gen = m.gen → g.rekey = false →
      m.hmacOk = true → nextWith (.confirmR m) s fun t =>
        (t.assoc m.idx).state = .active ∧ (t.assoc m.idx).agree = none ∧ (t.assoc m.idx).pn = 1 ∧
        (t.assoc m.idx).tx = some { name := g.keyTx, gen := g.gen } ∧ otherAssocs m.idx s t ∧ t.groups = s.groups) ∧
    (∀ m, (s.assoc m.idx).state = .active → (s.assoc m.idx).closed = false → m.hmacOk = true →
      nextWith (.close m) s fun t =>
        t.assoc m.idx = { s.assoc m.idx with closed := true } ∧ otherAssocs m.idx s t ∧
        t = { s with sec := t.sec, evc := t.evc, out := t.out }) ∧
    (∀ m, m.hmacOk = false → nextWith (.close m) s fun t =>
      t = { s with sec := { s.sec with hsIn := s.sec.hsIn.drop 1, nBadMsg := s.sec.nBadMsg + 1 } })) ∧
  (∀ (s : State) (i : Nat),
    (∀ g, (s.assoc i).agree = some g → g.initiator = true → g.replied = false → g.sent < 4 → g.lastSend + ms 400 ≤ s.clk.now →
      nextWith (.helloRetry i) s fun t =>
        t.assoc i = { s.assoc i with agree := some { g with sent := g.sent + 1, lastSend := s.clk.now } } ∧
        otherAssocs i s t ∧ t = { s with clk := t.clk, q := t.q, sec := t.sec, evc := t.evc, out := t.out }) ∧
    (∀ g, (s.assoc i).agree = some g → g.initiator = false → g.hdr = none → g.rekey = false →
      g.lastSend + ms 1500 ≤ s.clk.now → nextWith (.confirmTimeout i) s fun t =>
        t.assoc i = { s.assoc i with agree := none, rx := [], state := .armed, peerIdx := 0 } ∧ otherAssocs i s t ∧
        t.cmd = s.cmd ∧ t.groups = s.groups) ∧
    (∀ g, (s.assoc i).agree = some g → g.initiator = true → g.rekey = false → g.start + ms 2000 ≤ s.clk.now →
      nextWith (.peerTimeout i) s fun t => t.assoc i = {} ∧ otherAssocs i s t ∧ t.groups = s.groups) ∧
    (∀ g, (s.assoc i).agree = some g → g.initiator = true → g.rekey = true → g.start + ms 2000 ≤ s.clk.now →
      nextWith (.peerTimeout i) s fun t =>
        (t.assoc i).agree = none ∧ (t.assoc i).state = (s.assoc i).state ∧ (t.assoc i).tx = (s.assoc i).tx ∧
        (t.assoc i).pn = (s.assoc i).pn ∧ otherAssocs i s t ∧ t.groups = s.groups) ∧
    ((s.assoc i).state = .armed → (s.assoc i).armUntil ≤ s.clk.now → nextWith (.armExpired i) s fun t =>
      t.assoc i = {} ∧ otherAssocs i s t ∧ t = { s with sec := t.sec, evc := t.evc, out := t.out }) ∧
    (∀ t0, (s.assoc i).oldUntil = some t0 → t0 ≤ s.clk.now → nextWith (.oldKeyHold i) s fun t =>
      t.assoc i = { s.assoc i with
        rx := (s.assoc i).rx.filter (fun k => k.gen == (s.assoc i).rx.foldl (fun g k => max g k.gen) 0), oldUntil := none } ∧
      otherAssocs i s t ∧ t = { s with sec := { s.sec with assocs := t.sec.assocs } }) ∧
    (∀ t0, (s.assoc i).oldUntil = some t0 → s.clk.now < t0 → exec (.oldKeyHold i) s = .next s))

/-- commit.apply (R262): its six checks in their order, each failure changing nothing; on success the group is COMMITTED with
the effective instant, a frame boundary or the next 12.8 ns grid instant; a group with nothing staged becomes DONE. -/
def Obligations.CommitApply : Prop :=
  ∀ (h : Hdr) (s : State) (g : Nat) (i : Instant), 1 ≤ g → g ≤ 255 →
    (runsNow h (.commitApply g i) s →
      ((s.grp g).state ≠ .open_ ∨ (s.grp g).owner ≠ h.transport →
        failsWith (.commitApply h g i) h 0x0A02 .groupState s) ∧
      ((s.grp g).state = .open_ → (s.grp g).owner = h.transport →
        (switchValid s = false → failsWith (.commitApply h g i) h 0x0A02 .timeInvalid s) ∧
        (switchValid s = true → i < switchTime s + us 10 → failsWith (.commitApply h g i) h 0x0A02 .instantPassed s) ∧
        (switchValid s = true → switchTime s + us 10 ≤ i → switchTime s + sec 60 < i →
          failsWith (.commitApply h g i) h 0x0A02 .instantTooFar s) ∧
        (switchValid s = true → switchTime s + us 10 ≤ i → i ≤ switchTime s + sec 60 →
          needsFrame (s.grp g).changes s = true → i % frameTime ≠ 0 →
          failsWith (.commitApply h g i) h 0x0A02 .instantMisaligned s) ∧
        (switchValid s = true → switchTime s + us 10 ≤ i → i ≤ switchTime s + sec 60 →
          (needsFrame (s.grp g).changes s = true → i % frameTime = 0) → wrongSwap (s.grp g).changes i = false →
          (∀ st, st ≠ .ok → locksStatus g (effective i) (locksOf (s.grp g).changes) s = st →
            failsWith (.commitApply h g i) h 0x0A02 st s) ∧
          (locksStatus g (effective i) (locksOf (s.grp g).changes) s = .ok →
            ∃ k j t, exec (.commitApply h g i) s = .next (sendReply h 0x0A02 {
                data := [secOf (effective i), nsOf (effective i), fracOf (effective i), k, j] } t) ∧
              t.grp g = { s.grp g with
                state := .committed, eff := effective i, locks := locksOf (s.grp g).changes, ahead := j, active := s.clk.now,
                checked := false } ∧
              otherGroups g s t ∧ t.cls.curB = s.cls.curB ∧ t.cls.gen = s.cls.gen ∧
              (s.cls.writeIn.isSome = true → t.cls = s.cls) ∧
              t = { takeUp h s with groups := t.groups, cls := t.cls, evc := t.evc, out := t.out })))) ∧
    (i % frameTime = 0 → effective i = i) ∧
    (i % frameTime ≠ 0 → ∃ k, effective i = slotStart k ∧ 5 * i ≤ k * gridFifths ∧ ∀ j, 5 * i ≤ j * gridFifths → k ≤ j) ∧
    ((s.grp g).state = .committed → (s.grp g).changes = [] → (s.grp g).shadowBad = none → switchValid s = true →
      (s.grp g).eff ≤ switchTime s → nextWith (.commitInstant g) s fun t => (t.grp g).state = .done)

/-- Opening and aborting a group (R259, R265, R266; Table 11-11): the lowest FREE number is taken, at most 32 groups live;
an abort before the check erases the keys of the staged rekeys; a staged page swap of another instant is turned away (log
entry 62).
The life of a group after its apply (R259, R264, R265): the check, once, at the effective instant less 1 µs; the switch of
every block at the instant; the idle timeout; and 10 s after its end the number is FREE. -/
def Obligations.CommitGroups : Prop :=
  (∀ (h : Hdr) (s : State),
    (∀ n g, runsNow h (.commitOpen n) s → 1 ≤ n → n ≤ 3600 → 1 ≤ g → g ≤ 255 → (s.grp g).state = .free →
      (∀ k, 1 ≤ k → k < g → (s.grp k).state ≠ .free) →
      (s.groups.filter fun (x : Nat × Group) => x.2.state == .open_ || x.2.state == .committed).length < 32 →
      ∃ t, exec (.commitOpen h n) s = .next (sendReply h 0x0A01 { data := [g] } t) ∧
        t.grp g = { state := .open_, owner := h.transport, timeout := n, active := s.clk.now } ∧ otherGroups g s t ∧
        t = { takeUp h s with groups := t.groups }) ∧
    (∀ n, runsNow h (.commitOpen n) s → 1 ≤ n → n ≤ 3600 →
      32 ≤ (s.groups.filter fun (x : Nat × Group) => x.2.state == .open_ || x.2.state == .committed).length ∨
        (∀ k, 1 ≤ k → k ≤ 255 → (s.grp k).state ≠ .free) →
      failsWith (.commitOpen h n) h 0x0A01 .noGroup s) ∧
    (∀ n, runsNow h (.commitOpen n) s → n = 0 ∨ 3600 < n → failsWith (.commitOpen h n) h 0x0A01 .paramRange s) ∧
    (∀ g, runsNow h (.commitAbort g) s → 1 ≤ g → g ≤ 255 → (s.grp g).state = .open_ ∨ (s.grp g).state = .committed →
      (s.grp g).owner = h.transport → (s.grp g).checked = false →
      completes (.commitAbort h g) h 0x0A03 s fun t =>
        t.grp g = { s.grp g with
          state := .aborted, active := s.clk.now, locks := [], checked := false, abort := some (.hostAbort, 0) } ∧
        otherGroups g s t ∧
        (∀ i, (∀ c ∈ (s.grp g).changes, c.cmd ≠ .secAssocRekey i) → t.assoc i = s.assoc i) ∧
        (∀ i, (∃ c ∈ (s.grp g).changes, c.cmd = .secAssocRekey i) → (t.assoc i).staged = none) ∧
        t.cls.curB = s.cls.curB ∧ t.cls.gen = s.cls.gen ∧
        t = { takeUp h s with
          groups := t.groups, sec := { s.sec with assocs := t.sec.assocs }, cls := t.cls, evc := t.evc, out := t.out }) ∧
    (∀ g, runsNow h (.commitAbort g) s → 1 ≤ g → g ≤ 255 →
      ((s.grp g).state ≠ .open_ ∧ (s.grp g).state ≠ .committed) ∨ (s.grp g).owner ≠ h.transport ∨
        (s.grp g).checked = true →
      failsWith (.commitAbort h g) h 0x0A03 .groupState s) ∧
    (∀ g i, runsNow h (.commitApply g i) s → 1 ≤ g → g ≤ 255 → (s.grp g).state = .open_ → (s.grp g).owner = h.transport →
      instantStatus i s = .ok → i ≤ switchTime s + sec 60 → wrongSwap (s.grp g).changes i = true →
      failsWith (.commitApply h g i) h 0x0A02 .instantMisaligned s)) ∧
  (∀ (s : State) (g : Nat),
    ((s.grp g).state = .committed → (s.grp g).checked = false → (s.grp g).eff ≤ switchTime s + us 1 →
      readiness g s = none → nextWith (.commitReadinessCheck g) s fun t =>
        t.grp g = { s.grp g with checked := true } ∧ otherGroups g s t ∧ t = { s with groups := t.groups }) ∧
    (∀ why k, (s.grp g).state = .committed → (s.grp g).checked = false → (s.grp g).eff ≤ switchTime s + us 1 →
      readiness g s = some (why, k) → nextWith (.commitReadinessCheck g) s fun t =>
        (t.grp g).state = .aborted ∧ (t.grp g).abort = some (why, k) ∧ (t.grp g).locks = [] ∧ otherGroups g s t ∧
        t.cls.curB = s.cls.curB ∧ t.cls.gen = s.cls.gen ∧
        t = { s with
          groups := t.groups, sec := { s.sec with assocs := t.sec.assocs }, cls := t.cls, evc := t.evc, out := t.out }) ∧
    (switchTime s + us 1 < (s.grp g).eff → exec (.commitReadinessCheck g) s = .next s) ∧
    ((s.grp g).state ≠ .committed ∨ switchTime s < (s.grp g).eff → exec (.commitInstant g) s = .next s) ∧
    ((s.grp g).state = .committed → (s.grp g).checked = true → (s.grp g).eff ≤ switchTime s →
      nextWith (.commitInstant g) s fun t =>
        (t.grp g).state = .done ∧ (t.grp g).locks = [] ∧ (t.grp g).changes = (s.grp g).changes ∧
        t.fuses = s.fuses ∧ t.lanes = s.lanes ∧ t.die = s.die ∧
        t = { s with
          clk := t.clk, time := t.time, tio := t.tio, carriers := t.carriers, reg := { s.reg with window := t.reg.window }
          trib := t.trib, cls := t.cls, q := t.q, ports := t.ports, snaps := t.snaps, sec := t.sec, groups := t.groups, evc := t.evc, pmc := t.pmc, pwr := t.pwr
          out := t.out }) ∧
    ((s.grp g).state = .committed → (s.grp g).checked = true → (s.grp g).eff ≤ switchTime s → (s.grp g).changes = [] →
      nextWith (.commitInstant g) s fun t =>
        t.grp g = { s.grp g with state := .done, active := s.clk.now, locks := [] } ∧ otherGroups g s t ∧
        t.cls.curB = s.cls.curB ∧ t.cls.gen = s.cls.gen ∧
        t = { s with groups := t.groups, cls := t.cls, evc := t.evc, out := t.out }) ∧
    (∀ c q p v, (s.grp g).state = .committed → (s.grp g).checked = true → (s.grp g).eff ≤ switchTime s →
      (s.grp g).changes = [c] → c.cmd = .queueSet q p → s.queue q = some v → nextWith (.commitInstant g) s fun t =>
        t.queue q = some { v with
          weight := p.weight.getD v.weight, limit := p.limit.getD v.limit, ylim := p.ylim.getD v.ylim,
          sojourn := p.maxSojourn.getD v.sojourn } ∧
        (∀ k, k ≠ q → t.queue k = s.queue k)) ∧
    ((s.grp g).state = .open_ → (s.grp g).active + sec (s.grp g).timeout ≤ s.clk.now →
      nextWith (.groupLapsed g) s fun t =>
        t.grp g = { s.grp g with state := .aborted, active := s.clk.now, abort := some (.groupLapsed, 0) } ∧
        otherGroups g s t ∧
        (∀ i, (∀ c ∈ (s.grp g).changes, c.cmd ≠ .secAssocRekey i) → t.assoc i = s.assoc i) ∧
        t = { s with
          groups := t.groups, sec := { s.sec with assocs := t.sec.assocs }, evc := t.evc, out := t.out }) ∧
    ((s.grp g).state = .done ∨ (s.grp g).state = .aborted → (s.grp g).active + sec 10 ≤ s.clk.now →
      nextWith (.groupFree g) s fun t => t.grp g = {} ∧ otherGroups g s t ∧ t = { s with groups := t.groups }) ∧
    (s.clk.now < (s.grp g).active + sec 10 → exec (.groupFree g) s = .next s))

/-- The ring's indices and its enable (R250, R252, R253, R327; Table 11-3): an index at or beyond the ring size, or a change of
base or size while the ring runs, is ignored with CFG_ERR; in DOLDRUMS the indices are latched. -/
def Obligations.RingRegisters : Prop :=
  ∀ (s : State) (v : Word),
    (s.pwr.asleep = false → v.toNat % 65536 < 2 ^ s.cmd.sqLog → exec (.cmdSqTailWrite v) s =
      .next { s with cmd := { s.cmd with sqTail := v.toNat % 65536 } }) ∧
    (s.pwr.asleep = false → 2 ^ s.cmd.sqLog ≤ v.toNat % 65536 → nextWith (.cmdSqTailWrite v) s fun t =>
      t.cmd = { s.cmd with cfgErr := true, errCause := 2 } ∧ t = { s with cmd := t.cmd, evc := t.evc, out := t.out }) ∧
    (s.pwr.asleep = true → nextWith (.cmdSqTailWrite v) s fun t =>
      t.cmd = { s.cmd with latchTail := some (v.toNat % 65536) } ∧ (s.pwr.wakeEn.getLsbD 1 = false → t.pwr = s.pwr) ∧
      (s.pwr.wakeEn.getLsbD 1 = true → s.pwr.wake = none → ∃ w, t.pwr.wake = some w ∧ w.step = 1 ∧ w.start = s.clk.now) ∧
      t = { s with cmd := t.cmd, pwr := t.pwr }) ∧
    (s.pwr.asleep = false → v.toNat % 65536 < 2 ^ s.cmd.rqLog → nextWith (.cmdRqHeadWrite v) s fun t =>
      t.cmd = { s.cmd with
        rqHead := v.toNat % 65536
        entries := s.cmd.entries.drop ((v.toNat % 65536 + 2 ^ s.cmd.rqLog - s.cmd.rqHead) % 2 ^ s.cmd.rqLog) } ∧
      t = { s with cmd := t.cmd, evc := t.evc, out := t.out }) ∧
    (s.pwr.asleep = false → 2 ^ s.cmd.rqLog ≤ v.toNat % 65536 → nextWith (.cmdRqHeadWrite v) s fun t =>
      t.cmd = { s.cmd with cfgErr := true, errCause := 2 } ∧ t = { s with cmd := t.cmd, evc := t.evc, out := t.out }) ∧
    (s.pwr.asleep = true → exec (.cmdRqHeadWrite v) s =
      .next { s with cmd := { s.cmd with latchHead := some (v.toNat % 65536) } }) ∧
    (s.pwr.asleep = false → v.getLsbD 0 = true → s.cmd.ready = true → s.cmd.en = false →
      nextWith (.cmdCtrlEnWrite v) s fun t =>
        t.cmd = { s.cmd with
          en := true, sqTail := 0, sqHead := 0, rqHead := 0, rqTail := 0, phase := true, entries := [] } ∧
        t = { s with cmd := t.cmd, evc := t.evc, out := t.out }) ∧
    (s.pwr.asleep = false → v.getLsbD 0 = true → s.cmd.ready = false → nextWith (.cmdCtrlEnWrite v) s fun t =>
      t.cmd = { s.cmd with cfgErr := true, errCause := 3 } ∧ t = { s with cmd := t.cmd, evc := t.evc, out := t.out }) ∧
    (s.pwr.asleep = false → v.getLsbD 0 = true → s.cmd.ready = true → s.cmd.en = true →
      exec (.cmdCtrlEnWrite v) s = .next s) ∧
    (s.pwr.asleep = false → v.getLsbD 0 = false → exec (.cmdCtrlEnWrite v) s =
      .next { s with cmd := { s.cmd with en := false } }) ∧
    (s.pwr.asleep = true → exec (.cmdCtrlEnWrite v) s = .next s) ∧
    (∀ o, o = 0x1000 ∨ o = 0x1004 ∨ o = 0x1008 ∨ o = 0x1020 ∨ o = 0x1024 ∨ o = 0x1028 → s.pwr.asleep = false →
      s.cmd.en = true ∨ s.cmd.inFlight ≠ 0 → nextWith (.registerWrite o v) s fun t =>
        t.cmd = { s.cmd with cfgErr := true, errCause := 3 } ∧ t = { s with cmd := t.cmd, evc := t.evc, out := t.out }) ∧
    (s.pwr.asleep = false → s.cmd.en = false → s.cmd.inFlight = 0 → 4 ≤ v.toNat % 32 → v.toNat % 32 ≤ 16 →
      exec (.registerWrite 0x1008 v) s = .next { s with cmd := { s.cmd with sqLog := v.toNat % 32 } } ∧
      exec (.registerWrite 0x1028 v) s = .next { s with cmd := { s.cmd with rqLog := v.toNat % 32 } })

/-- The three transports (R247, R249, R251, R254, R255): a packet whose header and parameters are right, with no command of its
transport before it, runs its command; a header that is not is answered without being taken; a command behind another
waits.
A repeated SEQ (R249): the stored reply is sent again, marked as replayed, and the command does not run again. -/
def Obligations.Transports : Prop :=
  (∀ (s : State) (p : Packet),
    (∀ e x, mayFetch s = false → exec (.ringSubmissionFetch e p x) s = .next s) ∧
    (∀ e h u c, Packet.command p = some c → mayFetch s = true → h = { hdrOf .ring p with cap := some e.rplCap } →
      u = { s with cmd := { s.cmd with sqHead := (s.cmd.sqHead + 1) % 2 ^ s.cmd.sqLog } } →
      headerCheck p (decide (e.cmdLen = 16 + p.paramLen)) = none →
      (blocked h c u.cmd.wait (takeUp h u) = false →
        exec (.ringSubmissionFetch e p false) s = .next (command h c u)) ∧
      (blocked h c u.cmd.wait (takeUp h u) = true →
        exec (.ringSubmissionFetch e p false) s = .next { takeUp h u with
          cmd := { (takeUp h u).cmd with wait := s.cmd.wait ++ [(h, c)] } })) ∧
    (∀ e h u, Packet.command p = none → mayFetch s = true → h = { hdrOf .ring p with cap := some e.rplCap } →
      u = { s with cmd := { s.cmd with sqHead := (s.cmd.sqHead + 1) % 2 ^ s.cmd.sqLog } } →
      headerCheck p (decide (e.cmdLen = 16 + p.paramLen)) = none →
      exec (.ringSubmissionFetch e p false) s = .next (sendReply h p.opcode { status := .paramLength } (takeUp h u))) ∧
    (∀ e h st, mayFetch s = true → h = { hdrOf .ring p with cap := some e.rplCap } →
      headerCheck p (decide (e.cmdLen = 16 + p.paramLen)) = some st → exec (.ringSubmissionFetch e p false) s =
        .next (answer false h p.opcode { status := st } { s with cmd := { s.cmd with
          sqHead := (s.cmd.sqHead + 1) % 2 ^ s.cmd.sqLog, inFlight := s.cmd.inFlight + 1 } })) ∧
    (∀ e h, mayFetch s = true → h = { hdrOf .ring p with cap := some e.rplCap } →
      exec (.ringSubmissionFetch e p true) s =
        .next (answer false h p.opcode { status := .dmaError } { s with cmd := { s.cmd with
          sqHead := (s.cmd.sqHead + 1) % 2 ^ s.cmd.sqLog, inFlight := s.cmd.inFlight + 1 } })) ∧
    (cmdReady s = false → nextWith (.writeCmd p) s fun t =>
      t.cmd = { s.cmd with spiIgnored := s.cmd.spiIgnored + 1 } ∧ t = { s with cmd := t.cmd, pwr := t.pwr }) ∧
    (∀ c, Packet.command p = some c → cmdReady s = true → headerCheck p (decide (16 + p.paramLen ≤ 65536)) = none →
      (∀ x ∈ Tbl.get [] s.cmd.replay 0, x.1 ≠ p.seq) →
      blocked (hdrOf .spi p) c s.cmd.wait (takeUp (hdrOf .spi p) s) = false →
      exec (.writeCmd p) s = .next (command (hdrOf .spi p) c s)) ∧
    (∀ st, cmdReady s = true → headerCheck p (decide (16 + p.paramLen ≤ 65536)) = some st →
      exec (.writeCmd p) s = .next (answer false (hdrOf .spi p) p.opcode { status := st } s)) ∧
    (∀ r l, s.pwr.asleep = false → s.cmd.spiReply = r :: l → exec .readReply s =
      .next { s with cmd := { s.cmd with spiReply := l }, out := .reply r :: s.out }) ∧
    (s.cmd.spiReply = [] → exec .readReply s = .next s) ∧
    (exec .readStatus s = .next { s with out := .status (BitVec.ofNat 8 ((cmdReady s).toNat +
      2 * (if s.cmd.spiReply = [] then 0 else 1) + 4 * s.dev.booting.toNat)) :: s.out }) ∧
    (∀ n f h k c, Packet.command p = some c → s.pwr.asleep = false → (s.port n).up = true → (s.port n).cfg = some k → k.inband = true →
      h = { hdrOf (.inband n) p with src := f.src, dst := f.dst, vlan := f.vlan } →
      headerCheck p (decide (16 + p.paramLen ≤ f.bytes)) = none →
      (∀ x ∈ Tbl.get [] s.cmd.replay (1 + n), x.1 ≠ p.seq) → blocked h c s.cmd.wait (takeUp h s) = false →
      exec (.inbandCommandFrame n f p) s = .next (command h c s)) ∧
    (∀ n f, s.pwr.asleep = true ∨ (s.port n).up = false ∨ (s.port n).cfg = none →
      exec (.inbandCommandFrame n f p) s = .next s)) ∧
  (∀ (s : State) (p : Packet) (r : Reply), cmdReady s = true →
    headerCheck p (decide (16 + p.paramLen ≤ 65536)) = none → r.transport = .spi →
    ((Tbl.get [] s.cmd.replay 0).find? fun x => x.1 == p.seq) = some (p.seq, some r) →
    nextWith (.writeCmd p) s fun t =>
      t.cmd.spiReply = s.cmd.spiReply ++ [{ r with replayed := true }] ∧ t.cmd.replay = s.cmd.replay ∧
      t = { s with cmd := t.cmd })

/-- Register writes (R7, R8): a write that has a row of its own is that row; a write in BAR0 at a word boundary always completes,
one outside BAR0 or off a word boundary stops by name (log entry 45). -/
def Obligations.RegisterWrites : Prop :=
  ∀ (s : State) (o : Nat) (v : Word),
    (0x10000 ≤ o → exec (.registerWrite o v) s = .fault (.outsideBar o)) ∧
    (o < 0x10000 → o % 4 ≠ 0 → exec (.registerWrite o v) s = .fault (.unalignedRegister o)) ∧
    (o < 0x10000 → o % 4 = 0 → ∃ t, exec (.registerWrite o v) s = .next t ∧ t.fuses = s.fuses ∧ t.pending = s.pending) ∧
    exec (.registerWrite 0x100C v) s = exec (.cmdSqTailWrite v) s ∧
    exec (.registerWrite 0x102C v) s = exec (.cmdRqHeadWrite v) s ∧
    exec (.registerWrite 0x7010 v) s = exec (.aonVoteHostWrite v) s ∧
    exec (.registerWrite 0x7044 v) s = exec (.aonWakeReq v) s ∧
    (s.pwr.asleep = true → 0x1000 ≤ o → o < 0x7000 → o % 4 = 0 → o ≠ 0x100C → o ≠ 0x102C →
      exec (.registerWrite o v) s = .next s) ∧
    (s.pwr.asleep = false →
      exec (.registerWrite 0x1040 v) s = exec (.cmdCtrlEnWrite v) s ∧
      exec (.registerWrite 0x2300 v) s = exec (.evcTrigger v) s ∧
      exec (.registerWrite 0x2304 v) s = exec (.evcDiscard v) s ∧
      exec (.registerWrite 0x5000 v) s = exec (.pmcFreezeWrite v) s ∧
      (∀ k, k < 8 → exec (.registerWrite (0x2000 + 4 * k) v) s = exec (.evcPendingWrite k v) s ∧
        exec (.registerWrite (0x2020 + 4 * k) v) s = exec (.evcMaskWrite k v) s) ∧
      (∀ k, k < 4 → exec (.registerWrite (0x2208 + 0x40 * k) v) s = exec (.evcComplete k v) s) ∧
      (∀ k, k < 64 → exec (.registerWrite (0x5800 + 8 * k) v) s = exec (.pmcCntWrite k false v) s ∧
        exec (.registerWrite (0x5804 + 8 * k) v) s = exec (.pmcCntWrite k true v) s) ∧
      (∀ n, n < 256 → exec (.registerWrite (0x2400 + 4 * n) v) s = .next (settleEvc s.evc { s with evc := { s.evc with
        cfg := Tbl.set {} s.evc.cfg n { bypass := v.getLsbD 7, target := v.toNat / 16 % 4, prio := v.toNat % 16 } } })))

/-- The engine commands (R280, R284, R285; Table 12-8): a program that passes the checks is loaded under its number and takes
its space; one that is not loaded, or that an action set names, is not unloaded; none of them can be staged. -/
def Obligations.EngineCommands : Prop :=
  ∀ (h : Hdr) (s : State),
    (∀ img limit, runsNow h (.engineProgramLoad img limit) s → checkLoad img limit s = .ok →
      completes (.engineProgramLoad h img limit) h 0x0C01 s fun t =>
        Tbl.get none t.eng.progs img.program = some { img := img, limit := limit } ∧
        (∀ k, k ≠ img.program → Tbl.get none t.eng.progs k = Tbl.get none s.eng.progs k) ∧
        t = { takeUp h s with eng := { s.eng with progs := t.eng.progs } }) ∧
    (∀ img limit, runsNow h (.engineProgramLoad img limit) s →
      (img.magicOk && img.formatOk && img.abiOk && img.checkOk && img.legal) = false →
      failsWith (.engineProgramLoad h img limit) h 0x0C01 .actionInvalid s) ∧
    (∀ img limit, runsNow h (.engineProgramLoad img limit) s → checkLoad img limit s ≠ .ok →
      failsWith (.engineProgramLoad h img limit) h 0x0C01 (checkLoad img limit s) s) ∧
    (∀ k, runsNow h (.engineProgramUnload k) s → k ≤ 4095 → Tbl.get none s.eng.progs k = none →
      failsWith (.engineProgramUnload h k) h 0x0C02 .entryAbsent s) ∧
    (∀ k, runsNow h (.engineProgramUnload k) s → k ≤ 4095 → Tbl.get none s.eng.progs k ≠ none → named k s = true →
      failsWith (.engineProgramUnload h k) h 0x0C02 .actionInvalid s) ∧
    (∀ k, runsNow h (.engineProgramUnload k) s → k ≤ 4095 → Tbl.get none s.eng.progs k ≠ none → named k s = false →
      completes (.engineProgramUnload h k) h 0x0C02 s fun t =>
        Tbl.get none t.eng.progs k = none ∧ (∀ j, j ≠ k → Tbl.get none t.eng.progs j = Tbl.get none s.eng.progs j) ∧
        t = { takeUp h s with eng := { s.eng with progs := t.eng.progs } }) ∧
    (∀ k, h.group ≠ 0 → notReady 0x0C02 (takeUp h s) = false →
      failsWith (.engineProgramUnload h k) h 0x0C02 .notStageable s) ∧
    (∀ img limit, h.group ≠ 0 → notReady 0x0C01 (takeUp h s) = false →
      failsWith (.engineProgramLoad h img limit) h 0x0C01 .notStageable s) ∧
    (∀ n, runsNow h (.engineExceptionRead false n) s → 1 ≤ n → n ≤ 64 →
      completes (.engineExceptionRead h false n) h 0x0C04 s fun t =>
        t.eng = { s.eng with exUp := s.eng.exUp.drop n } ∧
        t = { takeUp h s with eng := t.eng, evc := t.evc, out := t.out }) ∧
    (∀ n, runsNow h (.engineExceptionRead true n) s → 1 ≤ n → n ≤ 64 →
      completes (.engineExceptionRead h true n) h 0x0C04 s fun t =>
        t.eng = { s.eng with exDown := s.eng.exDown.drop n } ∧
        t = { takeUp h s with eng := t.eng, evc := t.evc, out := t.out })

/-- Dispatch and engines in service (R272, R273, R276, R282, R302): a free context takes the oldest entry that has waited less
than 2 µs; older ones are dropped and counted; a waiting run goes on once AUTH is known; an engine returns to service.
A run of a program (R274, R276 to R280): the time, instruction and call limits end it with an exception, its record and
the drop counted; a call that is answered and a verdict leave the other contexts as they were. -/
def Obligations.EngineRuns : Prop :=
  (∀ (s : State),
    (∀ e c r l, s.eng.dispUp = r :: l → e < 64 → e ∉ s.eng.out → s.clk.now < r.queued + us 2 →
      ((List.range 8).find? fun c => (s.ctx (e * 8 + c)).isNone) = some c → nextWith (.programDispatch false e) s fun t =>
        t.eng.dispUp = l ∧ t.ctx (e * 8 + c) = some { r with engine := e, start := s.clk.now } ∧
        (∀ k, k ≠ e * 8 + c → t.ctx k = s.ctx k) ∧
        t = { s with eng := { s.eng with dispUp := l, ctxs := t.eng.ctxs } }) ∧
    (∀ e c r l, s.eng.dispDown = r :: l → e < 64 → e + 64 ∉ s.eng.out → s.clk.now < r.queued + us 2 →
      ((List.range 8).find? fun c => (s.ctx ((e + 64) * 8 + c)).isNone) = some c →
      nextWith (.programDispatch true e) s fun t =>
        t.eng.dispDown = l ∧ t.ctx ((e + 64) * 8 + c) = some { r with engine := e + 64, start := s.clk.now } ∧
        (∀ k, k ≠ (e + 64) * 8 + c → t.ctx k = s.ctx k) ∧
        t = { s with eng := { s.eng with dispDown := l, ctxs := t.eng.ctxs } }) ∧
    (∀ e, e < 64 → e ∈ s.eng.out → exec (.programDispatch false e) s = .next s) ∧
    (nextWith (.dispatchTimeout false) s fun t =>
      t.eng = { s.eng with
        dispUp := s.eng.dispUp.filter fun r => decide (s.clk.now < r.queued + us 2)
        nOverrun := s.eng.nOverrun + (s.eng.dispUp.filter fun r => decide (r.queued + us 2 ≤ s.clk.now)).length } ∧
      t = { s with clk := t.clk, eng := t.eng, evc := t.evc, pmc := t.pmc, out := t.out }) ∧
    (nextWith (.dispatchTimeout true) s fun t =>
      t.eng = { s.eng with
        dispDown := s.eng.dispDown.filter fun r => decide (s.clk.now < r.queued + us 2)
        nOverrun := s.eng.nOverrun + (s.eng.dispDown.filter fun r => decide (r.queued + us 2 ≤ s.clk.now)).length } ∧
      t = { s with clk := t.clk, eng := t.eng, evc := t.evc, pmc := t.pmc, out := t.out }) ∧
    (∀ k r, s.ctx k = some r → r.waiting = true → r.pkt.md.auth ≠ .pending → nextWith (.waitAuth k) s fun t =>
      t.ctx k = some { r with waiting := false } ∧ (∀ j, j ≠ k → t.ctx j = s.ctx j) ∧
      t = { s with eng := { s.eng with ctxs := t.eng.ctxs } }) ∧
    (∀ k r, s.ctx k = some r → r.pkt.md.auth = .pending → exec (.waitAuth k) s = .next s) ∧
    (∀ e, e < 128 → nextWith (.engineReload e) s fun t =>
      (∀ x, x ∈ t.eng.out ↔ x ∈ s.eng.out ∧ x ≠ e) ∧ t = { s with eng := { s.eng with out := t.eng.out } }) ∧
    (∀ e, e < 48 → nextWith (.engineRestart false e) s fun t =>
      (∀ x, x ∈ t.eng.out ↔ x ∈ s.eng.out ∧ x ≠ 256 + e) ∧ t = { s with eng := { s.eng with out := t.eng.out } }) ∧
    (∀ e, e < 16 → nextWith (.engineRestart true e) s fun t =>
      (∀ x, x ∈ t.eng.out ↔ x ∈ s.eng.out ∧ x ≠ 512 + e) ∧ t = { s with eng := { s.eng with out := t.eng.out } })) ∧
  (∀ (s : State) (k i pc : Nat) (st : RunStep),
    (s.ctx k = none → exec (.callReturn k i pc st) s = .next s) ∧
    (∀ r, s.ctx k = some r → r.waiting = true → exec (.callReturn k i pc st) s = .next s) ∧
    (∀ r, s.ctx k = some r → r.waiting = false → r.start + us 6 ≤ s.clk.now ∨ 512 < r.issued + i →
      nextWith (.callReturn k i pc st) s fun t =>
        t.ctx k = none ∧ (∀ j, j ≠ k → t.ctx j = s.ctx j) ∧
        (if r.pkt.md.auth = .fail then t.eng.nAuthFail = s.eng.nAuthFail + 1 ∧ t.eng.nException = s.eng.nException
          else t.eng.nException = s.eng.nException + 1 ∧ t.eng.nAuthFail = s.eng.nAuthFail) ∧
        (r.pkt.md.down = false → s.eng.exUp.length < 1024 → ∃ x, t.eng.exUp = s.eng.exUp ++ [x] ∧
          x.code = (if r.start + us 6 ≤ s.clk.now then 2 else 1) ∧ x.prog = r.prog ∧ x.pc = pc ∧ x.gap = s.eng.gapUp ∧
          t.eng.gapUp = false ∧ t.eng.lostUp = s.eng.lostUp ∧ t.eng.exDown = s.eng.exDown) ∧
        (r.pkt.md.down = false → 1024 ≤ s.eng.exUp.length → t.eng.exUp = s.eng.exUp ∧ t.eng.gapUp = true ∧
          t.eng.lostUp = satInc 16 s.eng.lostUp ∧ t.eng.exDown = s.eng.exDown) ∧
        t = { s with clk := t.clk, eng := t.eng, evc := t.evc, pmc := t.pmc, out := t.out }) ∧
    (∀ r, s.ctx k = some r → r.waiting = false → s.clk.now < r.start + us 6 → r.issued + i < 512 →
      nextWith (.callReturn k i pc .timeRead) s fun t =>
        (if r.calls < 16 then
          t.ctx k = some { r with issued := r.issued + i + 1, pc := pc, calls := r.calls + 1 } ∧
            t.eng = { s.eng with ctxs := t.eng.ctxs }
        else t.ctx k = none ∧ t.eng.nException + t.eng.nAuthFail = s.eng.nException + s.eng.nAuthFail + 1) ∧
        (∀ j, j ≠ k → t.ctx j = s.ctx j) ∧
        t = { s with clk := t.clk, eng := t.eng, evc := t.evc, pmc := t.pmc, out := t.out }) ∧
    (∀ r, s.ctx k = some r → r.waiting = false → s.clk.now < r.start + us 6 → r.issued + i < 512 →
      nextWith (.callReturn k i pc .waitAuth) s fun t =>
        (r.calls < 16 → t.ctx k = some { r with
          issued := r.issued + i + 1, pc := pc, calls := r.calls + 1, waiting := r.pkt.md.auth == .pending }) ∧
        (∀ j, j ≠ k → t.ctx j = s.ctx j) ∧
        t = { s with clk := t.clk, eng := t.eng, evc := t.evc, pmc := t.pmc, out := t.out }) ∧
    (∀ r, s.ctx k = some r → r.waiting = false → s.clk.now < r.start + us 6 → r.issued + i < 512 →
      nextWith (.callReturn k i pc .exitSkip) s fun t =>
        t.ctx k = none ∧ (∀ j, j ≠ k → t.ctx j = s.ctx j) ∧ t.eng.nException = s.eng.nException ∧
        t = { s with
          clk := t.clk, cls := t.cls, q := t.q, ports := t.ports, eng := t.eng, evc := t.evc, pmc := t.pmc, out := t.out }) ∧
    (∀ r, s.ctx k = some r → r.start + us 6 ≤ s.clk.now → nextWith (.programTimeException k) s fun t =>
      t.ctx k = none ∧ (∀ j, j ≠ k → t.ctx j = s.ctx j) ∧
      t.eng.nException + t.eng.nAuthFail = s.eng.nException + s.eng.nAuthFail + 1 ∧
      t = { s with clk := t.clk, eng := t.eng, evc := t.evc, pmc := t.pmc, out := t.out }) ∧
    (∀ r, s.ctx k = some r → s.clk.now < r.start + us 6 → exec (.programTimeException k) s = .next s))

/-- Claim and completion (R288, R293 to R296): a claim takes the selected source, clears its counter and, for an EDGE source,
its pending bit; completion of the top in-service source removes it; another number sets the error bit. -/
def Obligations.ClaimAndComplete : Prop :=
  ∀ (s : State) (k : Nat), k < 4 → s.pwr.asleep = false →
    (∀ n p, s.evc.select k = some (n, p) → (∀ x, (s.evc.target k).shown = some x → x.2 ≤ p) →
      nextWith (.evcClaim k) s fun t =>
      Tbl.get 0 t.evc.count n = 0 ∧ (∀ m, m ≠ n → Tbl.get 0 t.evc.count m = Tbl.get 0 s.evc.count m) ∧
      (t.evc.target k).stack = (n, p) :: (s.evc.target k).stack ∧ (t.evc.target k).shown = none ∧
      (∀ m, m < 256 → t.evc.pend.getLsbD m = (s.evc.pend.getLsbD m && (m != n || isLevel n))) ∧
      (∀ j, j ≠ k → t.evc.target j = s.evc.target j) ∧ t.evc.mask = s.evc.mask ∧
      .read (claimWord n p (Tbl.get 0 s.evc.count n)) ∈ t.out ∧ t = { s with evc := t.evc, out := t.out }) ∧
    (s.evc.select k = none → exec (.evcClaim k) s = .next { s with out := .read (claimWord 0x3FF 0 0) :: s.out }) ∧
    (∀ n p x, s.evc.select k = some (n, p) → (s.evc.target k).shown = some x → p < x.2 →
      exec (.evcClaim k) s = .next { s with out := .read (claimWord 0x3FF 0 0) :: s.out }) ∧
    (∀ v n p l, (s.evc.target k).stack = (n, p) :: l → v.toNat % 256 = n → nextWith (.evcComplete k v) s fun t =>
      (t.evc.target k).stack = l ∧ (∀ j, j ≠ k → t.evc.target j = s.evc.target j) ∧ t.evc.pend = s.evc.pend ∧
      t.evc.count = s.evc.count ∧ (l = [] → t.evc.anyEligible k = false → (t.evc.target k).active = false) ∧
      t = { s with evc := t.evc, out := t.out }) ∧
    (∀ v, (∀ n p l, (s.evc.target k).stack = (n, p) :: l → v.toNat % 256 ≠ n) → nextWith (.evcComplete k v) s fun t =>
      t.evc.target k = { s.evc.target k with bad := true } ∧ (∀ j, j ≠ k → t.evc.target j = s.evc.target j) ∧
      t = { s with evc := { s.evc with targets := t.evc.targets } })

/-- The event controller's other writes (R288, R293, R297, R298): trigger, discard, pending and mask words; the coalescing timer
and a vector's unmask. -/
def Obligations.EventWrites : Prop :=
  ∀ (s : State) (v : Word), s.pwr.asleep = false →
    (isLevel (v.toNat % 256) = false → mayPend (v.toNat % 256) s = true → nextWith (.evcTrigger v) s fun t =>
      t.evc.pend.getLsbD (v.toNat % 256) = true ∧ 1 ≤ Tbl.get 0 t.evc.count (v.toNat % 256) ∧
      (∀ m, m ≠ v.toNat % 256 → t.evc.pend.getLsbD m = s.evc.pend.getLsbD m ∧
        Tbl.get 0 t.evc.count m = Tbl.get 0 s.evc.count m) ∧
      t.evc.mask = s.evc.mask ∧ t = { s with evc := t.evc, out := t.out }) ∧
    (isLevel (v.toNat % 256) = true ∨ mayPend (v.toNat % 256) s = false → exec (.evcTrigger v) s = .next s) ∧
    (nextWith (.evcDiscard v) s fun t =>
      Tbl.get 0 t.evc.count (v.toNat % 256) = 0 ∧
      t.evc.pend.getLsbD (v.toNat % 256) = (isLevel (v.toNat % 256) && s.evc.pend.getLsbD (v.toNat % 256)) ∧
      (∀ m, m ≠ v.toNat % 256 → t.evc.pend.getLsbD m = s.evc.pend.getLsbD m ∧
        Tbl.get 0 t.evc.count m = Tbl.get 0 s.evc.count m) ∧
      t.evc.mask = s.evc.mask ∧ t = { s with evc := t.evc, out := t.out }) ∧
    (∀ w, w < 8 → nextWith (.evcPendingWrite w v) s fun t =>
      (∀ m, m < 256 → t.evc.pend.getLsbD m =
        (if m / 32 = w ∧ isLevel m = false ∧ mayPend m s = true then v.getLsbD (m % 32) else s.evc.pend.getLsbD m)) ∧
      t.evc.count = s.evc.count ∧ t.evc.mask = s.evc.mask ∧ t = { s with evc := t.evc, out := t.out }) ∧
    (∀ w, w < 8 → nextWith (.evcMaskWrite w v) s fun t =>
      (∀ m, m < 256 → t.evc.mask.getLsbD m = (if m / 32 = w then v.getLsbD (m % 32) else s.evc.mask.getLsbD m)) ∧
      t.evc.pend = s.evc.pend ∧ t.evc.count = s.evc.count ∧ t = { s with evc := t.evc, out := t.out }) ∧
    (∀ k f, k < 4 → (s.evc.target k).active = false → (s.evc.target k).firstAt = some f →
      f + ns (100 * max (s.evc.target k).coalTime 1) ≤ s.clk.now → nextWith (.coalescingTimer k) s fun t =>
        (t.evc.target k).firstAt = none ∧ (t.evc.target k).arrivals = 0 ∧
        (s.evc.anyEligible k = true → (t.evc.target k).active = true) ∧ t.evc.pend = s.evc.pend ∧
        (∀ j, j ≠ k → t.evc.target j = s.evc.target j) ∧ t = { s with evc := t.evc, out := t.out }) ∧
    (∀ k f, (s.evc.target k).firstAt = some f → s.clk.now < f + ns (100 * max (s.evc.target k).coalTime 1) →
      exec (.coalescingTimer k) s = .next s) ∧
    (∀ k, k < 4 → (s.evc.target k).vecHeld = true → (s.evc.target k).active = true → (s.evc.target k).msixEn = true →
      nextWith (.msixVectorUnmask k) s fun t =>
        t.out = .msix k :: s.out ∧ t.evc.target k = { s.evc.target k with vecMasked := false, vecHeld := false } ∧
        (∀ j, j ≠ k → t.evc.target j = s.evc.target j) ∧
        t = { s with evc := { s.evc with targets := t.evc.targets }, out := t.out }) ∧
    (∀ k, k < 4 → (s.evc.target k).vecHeld = false ∨ (s.evc.target k).active = false ∨ (s.evc.target k).msixEn = false →
      nextWith (.msixVectorUnmask k) s fun t =>
        t.evc.target k = { s.evc.target k with vecMasked := false, vecHeld := false } ∧
        t = { s with evc := { s.evc with targets := t.evc.targets } })

/-- The integrity log and the scrubber (R300, R303; Table 13-6): the log's reads; a corrected error is counted; an uncorrectable
error breaks the ternary entry it is in; residue mismatches of the counters and of the line-time arithmetic are noted. -/
def Obligations.IntegrityLog : Prop :=
  ∀ (s : State), s.pwr.asleep = false →
    (∀ x l, s.evc.log = x :: l → nextWith .evcIntegPop s fun t =>
      t.evc.log = l ∧ t.evc.popped = x ∧ .read (integWord x) ∈ t.out ∧ t = { s with evc := t.evc, out := t.out }) ∧
    (s.evc.log = [] → exec .evcIntegPop s =
      .next { s with evc := { s.evc with popped := {} }, out := .read (integWord {}) :: s.out }) ∧
    (exec .evcIntegLostRead s =
      .next { s with evc := { s.evc with lost := 0 }, out := .read (integStat s) :: s.out }) ∧
    (exec .evcIntegCorrRead s = .next { s with
      evc := { s.evc with corrected := 0 }, out := .read (BitVec.ofNat 32 s.evc.corrected) :: s.out }) ∧
    (∀ f, f.kind = 1 ∨ f.kind = 3 → nextWith (.scrub f) s fun t =>
      t.evc.corrected = satInc 32 s.evc.corrected ∧ t = { s with clk := t.clk, evc := t.evc, out := t.out }) ∧
    (∀ f, f.kind = 5 → f.unit = 0x20 → f.lineDie = false → s.evc.log.length < 256 → s.groups = [] →
      nextWith (.scrub f) s fun t =>
        t.pmc = { s.pmc with residue := true } ∧
        (∃ e, t.evc.log = s.evc.log ++ [e] ∧ e.kind = 5 ∧ e.lineDie = false ∧ e.unit = 0x20 ∧ e.index = f.index ∧
          e.time = switchTime s ∧ e.valid = switchValid s ∧ e.gap = s.evc.gapNext) ∧
        t = { s with evc := t.evc, pmc := t.pmc, out := t.out }) ∧
    (∀ f, f.kind = 2 → f.unit = 0x03 → f.lineDie = false → s.groups = [] → nextWith (.scrub f) s fun t =>
      (∀ e ∈ t.cls.tern, e.index = f.index → e.broken = true) ∧
      t.cls.flows = s.cls.flows ∧ t = { s with cls := { s.cls with tern := t.cls.tern }, evc := t.evc, out := t.out }) ∧
    (∀ f, f.kind = 5 → f.unit = 0x24 → s.time.mismatch = none → s.groups = [] → nextWith (.scrub f) s fun t =>
      t.time = { s.time with mismatch := some s.clk.now } ∧ t = { s with time := t.time, evc := t.evc, out := t.out }) ∧
    (∀ f, f.kind = 0 ∨ 5 < f.kind → exec (.scrub f) s = .next s)

/-- The counters (R307, R308, R310, R318): a low-half read latches the counter, and its pair, with line time; writes replace one
word; a wrap sets the overflow; configuration by command writes the registers' fields.
Sampling and tracing (R313 to R316, R318): configuration and reads; trace.read resumes a stopped tagging. The generator's
seed is a free value. -/
def Obligations.CountersAndTracing : Prop :=
  (∀ (h : Hdr) (s : State) (n : Nat), n < 64 →
    (s.pwr.asleep = false → s.pmc.chain n = false → nextWith (.pmcCntLoRead n) s fun t =>
      Tbl.get 0 t.pmc.latch n = s.pmc.count n ∧
      (n % 2 = 0 → s.pmc.chain (n + 1) = true → Tbl.get 0 t.pmc.latch (n + 1) = s.pmc.count (n + 1)) ∧
      (∀ m, m ≠ n → m ≠ n + 1 → Tbl.get 0 t.pmc.latch m = Tbl.get 0 s.pmc.latch m) ∧
      t.out = .read (BitVec.ofNat 32 (s.pmc.count n)) :: s.out ∧
      t = { s with pmc := { s.pmc with latch := t.pmc.latch, latchTime := switchTime s }, out := t.out }) ∧
    (s.pwr.asleep = false → s.pmc.chain n = true → exec (.pmcCntLoRead n) s =
      .next { s with out := .read (BitVec.ofNat 32 (Tbl.get 0 s.pmc.latch n)) :: s.out }) ∧
    (∀ hi v, s.pwr.asleep = false → nextWith (.pmcCntWrite n hi v) s fun t =>
      t.pmc.count n = (if hi then v.toNat % 65536 * 2 ^ 32 + s.pmc.count n % 2 ^ 32
        else s.pmc.count n / 2 ^ 32 * 2 ^ 32 + v.toNat) ∧
      (∀ m, m ≠ n → t.pmc.count m = s.pmc.count m) ∧ t = { s with pmc := { s.pmc with cnt := t.pmc.cnt } }) ∧
    (∀ v, s.pwr.asleep = false → exec (.pmcFreezeWrite v) s = .next { s with pmc := { s.pmc with freeze := v.getLsbD 31 } }) ∧
    (∀ v, s.pwr.asleep = true → exec (.pmcFreezeWrite v) s = .next s) ∧
    (s.pmc.en n = true → s.pmc.freeze = false → s.pmc.chain (n + 1) = false → s.pmc.chain n = false →
      s.pmc.count n < 2 ^ 48 → nextWith (.pmcCounterWrap n) s fun t =>
        t.pmc.count n = 0 ∧ t.pmc.ovf.getLsbD n = true ∧ (∀ m, m ≠ n → t.pmc.count m = s.pmc.count m) ∧
        t = { s with pmc := t.pmc, evc := t.evc, out := t.out }) ∧
    (s.pmc.en n = false ∨ s.pmc.freeze = true → exec (.pmcCounterWrap n) s = .next s) ∧
    (∀ ev fl r, runsNow h (.pmcConfig n ev fl r) s → (∀ x ∈ r, x.1 < 8) →
      completes (.pmcConfig h n ev fl r) h 0x0D01 s fun t =>
        t.pmc.evselOf n = evselBits n ev ∧ t.pmc.filtOf n = filtBits fl ∧
        (∀ m, m ≠ n → t.pmc.evselOf m = s.pmc.evselOf m ∧ t.pmc.filtOf m = s.pmc.filtOf m) ∧
        (∀ x, r = [x] → Tbl.get 0 t.pmc.abase x.1 = x.2.1 ∧ Tbl.get 0 t.pmc.alimit x.1 = x.2.2) ∧
        (∀ k, (∀ x ∈ r, x.1 ≠ k) → Tbl.get 0 t.pmc.abase k = Tbl.get 0 s.pmc.abase k ∧
          Tbl.get 0 t.pmc.alimit k = Tbl.get 0 s.pmc.alimit k) ∧
        t = { takeUp h s with pmc := { s.pmc with
          evsel := t.pmc.evsel, filt := t.pmc.filt, abase := t.pmc.abase, alimit := t.pmc.alimit } }) ∧
    (∀ m ev fl r, 64 ≤ m → runsNow h (.pmcConfig m ev fl r) s → failsWith (.pmcConfig h m ev fl r) h 0x0D01 .paramRange s)) ∧
  (∀ (h : Hdr) (s : State),
    (∀ p, runsNow h (.sampleConfig p) s → 256 ≤ p.period → p.period ≤ 16777216 → 1 ≤ p.watermark → p.watermark ≤ 4096 →
      completes (.sampleConfig h p) h 0x0D02 s fun t =>
        t.samp p.down = { s.samp p.down with p := p, left := [] } ∧ t.samp (!p.down) = s.samp (!p.down) ∧
        t.pmc.trace = s.pmc.trace ∧ t.pmc.cnt = s.pmc.cnt ∧ t = { takeUp h s with pmc := t.pmc }) ∧
    (∀ p, runsNow h (.sampleConfig p) s → p.period < 256 ∨ 16777216 < p.period ∨ p.watermark = 0 ∨ 4096 < p.watermark →
      failsWith (.sampleConfig h p) h 0x0D02 .paramRange s) ∧
    (∀ p, runsNow h (.traceConfig p) s → p.k ≤ 24 → 1 ≤ p.watermark → p.watermark ≤ 65536 →
      (∀ a, p.assoc = some a → a ≤ 4095) → portsPresent p.ports s = true → completes (.traceConfig h p) h 0x0D03 s fun t =>
        t.pmc.trace = { s.pmc.trace with
          p := p, stopped := false, gen := t.pmc.trace.gen
          nextId := if p.enable then 0 else s.pmc.trace.nextId } ∧
        (p.enable = false → t.pmc.trace.gen = s.pmc.trace.gen) ∧
        t = { takeUp h s with
          clk := { s.clk with draws := s.clk.draws + 1 }, pmc := { s.pmc with trace := t.pmc.trace } }) ∧
    (∀ p, runsNow h (.traceConfig p) s → p.k ≤ 24 → 1 ≤ p.watermark → p.watermark ≤ 65536 →
      (∀ a, p.assoc = some a → a ≤ 4095) → portsPresent p.ports s = false →
      failsWith (.traceConfig h p) h 0x0D03 .unitAbsent s) ∧
    (∀ n, runsNow h (.traceRead .trace n) s → 1 ≤ n → n ≤ 64 → completes (.traceRead h .trace n) h 0x0D04 s fun t =>
      t.pmc.trace.done = s.pmc.trace.done.drop n ∧ t.pmc.trace.open_ = s.pmc.trace.open_ ∧
      (s.pmc.trace.done ≠ [] → t.pmc.trace.stopped = false ∧ t.pmc.trace.gapNext = false) ∧
      t = { takeUp h s with pmc := { s.pmc with trace := t.pmc.trace } }) ∧
    (∀ n, runsNow h (.traceRead .sampleUp n) s → 1 ≤ n → n ≤ 64 → completes (.traceRead h .sampleUp n) h 0x0D04 s fun t =>
      t.samp false = { s.samp false with buf := (s.samp false).buf.drop n } ∧ t.samp true = s.samp true ∧
      t.pmc.trace = s.pmc.trace ∧ t = { takeUp h s with pmc := t.pmc }) ∧
    (∀ n, runsNow h (.traceRead .sampleDown n) s → 1 ≤ n → n ≤ 64 → completes (.traceRead h .sampleDown n) h 0x0D04 s fun t =>
      t.samp true = { s.samp true with buf := (s.samp true).buf.drop n } ∧ t.samp false = s.samp false ∧
      t.pmc.trace = s.pmc.trace ∧ t = { takeUp h s with pmc := t.pmc }) ∧
    (∀ x n, runsNow h (.traceRead x n) s → n = 0 ∨ 64 < n → failsWith (.traceRead h x n) h 0x0D04 .paramRange s))

/-- Device commands and votes (R257, R321, R325, R334, R339; Tables 11-7 and 15-12): device.reset starts 1 ms after its reply;
the host's vote and schedule; the last chunk of a valid image fills a slot and an invalid one is never written.
Scheduled power changes (R325, R326): another voter blocks a change; DOLDRUMS puts the terminal to sleep with line time in
the holdover counter. -/
def Obligations.DeviceAndPower : Prop :=
  (∀ (h : Hdr) (s : State),
    (runsNow h (.deviceReset .warm) s → completes (.deviceReset h .warm) h 0x0103 s fun t =>
      t = { takeUp h s with dev := { s.dev with resetDue := some (.warm, s.clk.now + ms 1) } }) ∧
    (∀ d, runsNow h (.deviceReset (.domain d)) s → d = 2 ∨ d = 4 ∨ d = 5 ∨ (6 ≤ d ∧ d ≤ 13 ∧ s.hasCarrier ((d - 6) % 4) = true) →
      completes (.deviceReset h (.domain d)) h 0x0103 s fun t => t = { takeUp h s with dev := { s.dev with resetDue := some (.domain d, s.clk.now + ms 1) } }) ∧
    (∀ d, runsNow h (.deviceReset (.domain d)) s → d = 0 ∨ d = 1 ∨ d = 3 ∨ 13 < d →
      failsWith (.deviceReset h (.domain d)) h 0x0103 .paramRange s) ∧
    (∀ o n, runsNow h (.deviceFwLoad o n none) s → n ≤ 65000 → o + n ≤ 8388608 →
      completes (.deviceFwLoad h o n none) h 0x0104 s fun t =>
        t = { takeUp h s with dev := { s.dev with fwBytes := (if o = 0 then 0 else s.dev.fwBytes) + n } }) ∧
    (∀ o n i, runsNow h (.deviceFwLoad o n (some i)) s → n ≤ 65000 → o + n ≤ 8388608 → imageValid i s = false →
      completes (.deviceFwLoad h o n (some i)) h 0x0104 s fun t =>
        t = { takeUp h s with dev := { s.dev with fwBytes := 0 } }) ∧
    (∀ o n i, runsNow h (.deviceFwLoad o n (some i)) s → n ≤ 65000 → o + n ≤ 8388608 → imageValid i s = true →
      s.dev.bootStage ≠ 15 → completes (.deviceFwLoad h o n (some i)) h 0x0104 s fun t =>
        t = { takeUp h s with dev := { s.dev with fwBytes := 0, slots := s.dev.slots.set (loadSlot s) (some i) } }) ∧
    (∀ o n i, runsNow h (.deviceFwLoad o n (some i)) s → n ≤ 65000 → o + n ≤ 8388608 → imageValid i s = true →
      s.dev.bootStage = 15 → completes (.deviceFwLoad h o n (some i)) h 0x0104 s fun t =>
        t = { takeUp h s with
          fuses := { s.fuses with minSec := max s.fuses.minSec i.secVersion }
          dev := { s.dev with
            fwBytes := 0, slots := s.dev.slots.set (loadSlot s) (some i), booted := some (i.version, loadSlot s), bootStage := 5 } }) ∧
    (∀ w, runsNow h (.powerVote w) s → groupsIn .committed s = [] → completes (.powerVote h w) h 0x0B02 s fun t =>
      t.pwr = { s.pwr with hostVote := w } ∧ t = { takeUp h s with pwr := t.pwr, evc := t.evc, out := t.out }) ∧
    (∀ w, groupsIn .committed s = [] → nextWith (.aonVoteHostWrite w) s fun t =>
      t.pwr = { s.pwr with hostVote := w } ∧ t = { s with pwr := t.pwr, evc := t.evc, out := t.out }) ∧
    (∀ x i b w, runsNow h (.powerSchedule x i b w) s → (∀ n ∈ bitmapCarriers b, s.hasCarrier n = true) →
      instantStatus i s = .ok → (x = .lull ∨ x = .doldrums → s.reg.state = .off) →
      completes (.powerSchedule h x i b w) h 0x0B03 s fun t =>
        t = { takeUp h s with pwr := { s.pwr with sched := some { target := x, at_ := i, carriers := b, wakeAt := w } } }) ∧
    (∀ x i b w, runsNow h (.powerSchedule x i b w) s → (∀ n ∈ bitmapCarriers b, s.hasCarrier n = true) →
      instantStatus i s = .ok → x = .lull ∨ x = .doldrums → s.reg.state ≠ .off →
      failsWith (.powerSchedule h x i b w) h 0x0B03 .regNotOff s) ∧
    (∀ x i b w, runsNow h (.powerSchedule x i b w) s → (∀ n ∈ bitmapCarriers b, s.hasCarrier n = true) →
      instantStatus i s ≠ .ok → failsWith (.powerSchedule h x i b w) h 0x0B03 (instantStatus i s) s)) ∧
  (∀ (s : State) (c : Sched),
    (s.pwr.sched = none → exec .powerScheduleDue s = .next s) ∧
    (s.pwr.sched = some c → s.pwr.asleep = true ∨ switchTime s < c.at_ → exec .powerScheduleDue s = .next s) ∧
    (s.pwr.sched = some c → s.pwr.asleep = false → c.at_ ≤ switchTime s → blockers c.target s ≠ [] →
      blockers c.target s ≠ [8] ∨ c.at_ + sec 2 ≤ switchTime s → nextWith .powerScheduleDue s fun t =>
        t.pwr = { s.pwr with
          sched := none
          outcome := .blocked (BitVec.ofNat 9 ((blockers c.target s).foldl (fun a v => a + 2 ^ v) 0)) } ∧
        t = { s with pwr := t.pwr, evc := t.evc, out := t.out }) ∧
    (s.pwr.sched = some c → s.pwr.asleep = false → c.at_ ≤ switchTime s → blockers c.target s = [] → c.target = .trim →
      nextWith .powerScheduleDue s fun t =>
        t.pwr = { s.pwr with sched := none, outcome := .ok, fw := some .trim } ∧ t.time = s.time ∧ t.reg = s.reg ∧
        (∀ n ∈ bitmapCarriers c.carriers, (s.carrier n).state ≠ .off →
          (t.carrier n).disabling = true ∧ (t.carrier n).held = []) ∧
        t = { s with carriers := t.carriers, q := t.q, evc := t.evc, pmc := t.pmc, pwr := t.pwr, out := t.out }) ∧
    (s.pwr.sched = some c → s.pwr.asleep = false → c.at_ ≤ switchTime s → blockers c.target s = [] → c.target = .doldrums →
      nextWith .powerScheduleDue s fun t =>
        t.pwr.asleep = true ∧ t.pwr.fw = some .doldrums ∧ t.pwr.sched = none ∧ t.pwr.outcome = .ok ∧ t.pwr.wakeAt = c.wakeAt ∧
        t.pwr.retValid = BitVec.allOnes 16 ∧ t.pwr.holdTime = lineTime s ∧ t.pwr.holdValid = Servo.holds s.time.servo ∧
        t.pwr.vreq = s.pwr.vreq &&& 0x10#5 ∧ t.cmd.ready = false ∧ t.groups = [] ∧ t.time.aligned = false ∧
        t.fuses = s.fuses ∧ t.clk.now = s.clk.now ∧ t.cls.curB = s.cls.curB))

/-- Resets (R334 to R336, R349, R350; Tables 15-8 and 15-9): what a pin, command, watchdog, hardware-stop or power-on reset
keeps: the fuses and the flash slots, and outside power-on the always-on registers. -/
def Obligations.Resets : Prop :=
  ∀ (s : State),
    (nextWith .porstAssert s fun t =>
      t = { State.reset with
        fuses := s.fuses, dev := { State.reset.dev with slots := s.dev.slots }
        clk := { State.reset.clk with draws := s.clk.draws }, time := { State.reset.time with refOk := s.time.refOk }
        pwr := { State.reset.pwr with warn := s.pwr.warn, trip := s.pwr.trip, porst := true }, out := t.out
        pending := s.pending }) ∧
    (s.pwr.porst = true → exec .resetNAssert s = .next { s with pwr := { s.pwr with resetN := true } }) ∧
    (s.pwr.porst = false → nextWith .resetNAssert s fun t =>
      t.fuses = s.fuses ∧ t.dev.slots = s.dev.slots ∧ t.dev.bootStage = 0 ∧ t.dev.resetAt = s.clk.now ∧
      t.clk.now = s.clk.now ∧ t.pwr.cause = 2 ∧ t.pwr.warmCount = satInc 16 s.pwr.warmCount ∧ t.pwr.resetN = true ∧
      t.pwr.hostVote = s.pwr.hostVote ∧ t.pwr.wakeEn = s.pwr.wakeEn ∧ t.pwr.vreq = s.pwr.vreq ∧ t.pwr.fw = none ∧
      t.reg = s.reg.persistent ∧ t.cmd = {} ∧ t.q = {} ∧ t.cls = {} ∧ t.ports = [] ∧ t.groups = [] ∧ t.sec.assocs = [] ∧
      t.time.servo = .free ∧ t.pending = s.pending) ∧
    (s.cmd.ready = true → nextWith .watchdogReset s fun t =>
      t.fuses = s.fuses ∧ t.dev.slots = s.dev.slots ∧ t.pwr.cause = 4 ∧ t.pwr.warmCount = satInc 16 s.pwr.warmCount ∧
      t.reg = s.reg.persistent ∧ t.cmd = {} ∧ t.q = {} ∧ t.groups = [] ∧ t.sec.assocs = []) ∧
    (s.cmd.ready = false → exec .watchdogReset s = .next s) ∧
    (∀ i, s.dev.resetDue = some (.warm, i) → i ≤ s.clk.now → nextWith .commandResetStart s fun t =>
      t.fuses = s.fuses ∧ t.dev.slots = s.dev.slots ∧ t.dev.resetDue = none ∧ t.pwr.cause = 3 ∧
      t.pwr.warmCount = satInc 16 s.pwr.warmCount ∧ t.reg = s.reg.persistent ∧ t.cmd = {} ∧ t.q = {} ∧ t.groups = [] ∧
      t.sec.assocs = []) ∧
    (∀ k i, s.dev.resetDue = some (k, i) → s.clk.now < i → exec .commandResetStart s = .next s) ∧
    (∀ i, s.dev.resetDue = some (.domain 4, i) → i ≤ s.clk.now → s.die.retrain = false → s.die.split = false →
      nextWith .commandResetStart s fun t =>
        t.die = { s.die with retrain := true, retry := t.die.retry } ∧
        t.dev = { s.dev with resetDue := none, resetAt := s.clk.now } ∧
        t.pwr = { s.pwr with cause := 5, domain := 4 } ∧
        t = { s with
          clk := { s.clk with draws := s.clk.draws + 1 }, die := t.die, dev := t.dev, pwr := t.pwr, evc := t.evc
          out := t.out }) ∧
    (s.pwr.stop = false → s.pwr.porst = false → nextWith .hardwareStop s fun t =>
      t.fuses = s.fuses ∧ t.pwr.stop = true ∧ t.pwr.vreq = 0 ∧ t.pwr.holdTime = lineTime s ∧ t.pwr.wakeEn = s.pwr.wakeEn ∧
      t.cmd = {} ∧ t.q = {} ∧ t.ports = [] ∧ t.reg = s.reg.persistent ∧ (∀ d, d ≠ 0 → t.level d = 0)) ∧
    (s.pwr.stop = true ∨ s.pwr.porst = true → exec .hardwareStop s = .next s)

/-- Boot (R213 to R215, R337, R338): BOOT_START requests the core rail; the stages follow; LOAD takes the valid image of the
higher version and raises the fused minimum, or waits in recovery. -/
def Obligations.Boot : Prop :=
  ∀ (s : State) (r : StageResult),
    (s.dev.booting = false → s.dev.bootStage = 0 → s.pwr.stop = false → s.pwr.asleep = false → nextWith .bootStart s fun t =>
      t.dev = { s.dev with booting := true, bootStage := if s.pwr.cause = 1 then 1 else 2 } ∧
      t.pwr = { s.pwr with porst := false, resetN := false, vreq := s.pwr.vreq ||| 1#5 } ∧
      t = { s with dev := t.dev, pwr := t.pwr, evc := t.evc, out := t.out }) ∧
    (s.dev.booting = true ∨ s.dev.bootStage ≠ 0 → exec .bootStart s = .next s) ∧
    (s.dev.booting = false ∨ s.dev.bootStopped = true → exec (.bootStageComplete r) s = .next s) ∧
    (s.dev.booting = true → s.dev.bootStopped = false → r.ok = false → s.dev.bootStage ≠ 15 →
      exec (.bootStageComplete r) s = .next { s with dev := { s.dev with bootStopped := true } }) ∧
    (s.dev.booting = true → s.dev.bootStopped = false → r.ok = true → s.dev.bootStage = 1 → s.sec.rngOk = true →
      r.seedOk = true → (seedOf s.fuses.seedBanks).isSome = false → s.fuses.seedBanks.findIdx? (· == .unused) = some 0 →
      nextWith (.bootStageComplete r) s fun t =>
        (∃ v, t.fuses.seedBanks = s.fuses.seedBanks.set 0 (.valid v)) ∧
        t.fuses.lifecycle = (if s.fuses.lifecycle = .blank then .unowned else s.fuses.lifecycle) ∧
        t.fuses.owner = s.fuses.owner ∧ t.dev = { s.dev with bootStage := 2 } ∧
        t = { s with fuses := t.fuses, clk := { s.clk with draws := s.clk.draws + 1 }, dev := t.dev }) ∧
    (s.dev.booting = true → s.dev.bootStopped = false → r.ok = true → s.dev.bootStage = 2 →
      nextWith (.bootStageComplete r) s fun t =>
        t.sec.selfTest = r.selfTest ∧ t.dev = { s.dev with bootStage := 3 } ∧ t.sec.assocs = s.sec.assocs ∧
        ((seedOf s.fuses.seedBanks).isSome = true → t.sec.derived = true) ∧
        t = { s with sec := t.sec, dev := t.dev, evc := t.evc, out := t.out }) ∧
    (∀ u : State, s.dev.booting = true → s.dev.bootStopped = false → r.ok = true → s.dev.bootStage = 4 →
      u = (if r.images = [] then s else { s with dev := { s.dev with slots := (r.images ++ [none, none]).take 2 } }) →
      (chooseImage u = none → exec (.bootStageComplete r) s = .next { u with dev := { u.dev with bootStage := 15 } }) ∧
      (∀ k i, chooseImage u = some (k, i) → exec (.bootStageComplete r) s = .next { u with
        dev := { u.dev with bootStage := 5, booted := some (i.version, k) }
        fuses := { s.fuses with minSec := max s.fuses.minSec i.secVersion } })) ∧
    (∀ (k : Nat) (i : FwImage), chooseImage s = some (k, i) →
      imageValid i s = true ∧ s.dev.slots[k]? = some (some i) ∧
        ∀ (j : Nat) (x : FwImage), s.dev.slots[j]? = some (some x) → imageValid x s = true → x.version ≤ i.version) ∧
    (s.dev.booting = true → s.dev.bootStopped = false → r.ok = true → s.dev.bootStage = 5 →
      exec (.bootStageComplete r) s = .next { s with
        dev := { s.dev with bootStage := 6 }, pwr := { s.pwr with vreq := s.pwr.vreq ||| 0x10#5 } }) ∧
    (s.dev.booting = true → s.dev.bootStopped = false → r.ok = true → s.dev.bootStage = 7 →
      nextWith (.bootStageComplete r) s fun t =>
        t.cmd.ready = true ∧ t.dev.bootStage = 8 ∧ t.dev.booting = false ∧ t.time.aligned = true ∧
        t.pwr.fw = some .active ∧ t.pwr.failDue = false ∧ t.fuses = s.fuses ∧
        t = { s with cmd := t.cmd, dev := t.dev, time := t.time, pwr := t.pwr, evc := t.evc, out := t.out })

/-- Waking from DOLDRUMS (R327, R330, R331, R333, R341; Table 15-5): an enabled source starts step 1; each ready signal begins
the next step; a step that times out runs once more, and then the wake fails with its step and cause. -/
def Obligations.Waking : Prop :=
  ∀ (s : State) (w : Wake),
    (∀ v : Word, s.pwr.asleep = true → s.pwr.wake = none → v.getLsbD 0 = true → exec (.aonWakeReq v) s = .next { s with
      pwr := { s.pwr with
        wake := some { step := 1, start := s.clk.now, since := s.clk.now }, wakeFail := false, changing := true, vreq := s.pwr.vreq ||| 1#5 } }) ∧
    (∀ v : Word, s.pwr.asleep = false ∨ v.getLsbD 0 = false → exec (.aonWakeReq v) s = .next s) ∧
    (∀ x, s.pwr.asleep = false → exec (.wakeRequest x) s = .next s) ∧
    (s.pwr.asleep = true → s.pwr.wake = none → exec (.wakeRequest .request) s = .next { s with
      pwr := { s.pwr with
        wake := some { step := 1, start := s.clk.now, since := s.clk.now }, wakeFail := false, changing := true, vreq := s.pwr.vreq ||| 1#5 } }) ∧
    (∀ i, s.pwr.asleep = true → s.pwr.wake = none → s.pwr.wakeAt = some i → i ≤ s.pwr.holdTime →
      s.pwr.wakeEn.getLsbD 0 = true → nextWith (.wakeRequest .schedule) s fun t =>
        t.pwr.wake = some { step := 1, start := s.clk.now, since := s.clk.now } ∧ t.pwr.wakeAt = none ∧ t = { s with pwr := t.pwr }) ∧
    (s.pwr.asleep = true → s.pwr.wakeEn.getLsbD 3 = false → exec (.wakeRequest .spi) s = .next s) ∧
    (∀ r, s.pwr.wake = none → exec (.wakeStepReady r) s = .next s) ∧
    (∀ r, s.pwr.wake = some w → s.clk.now < w.since → exec (.wakeStepReady r) s = .next s) ∧
    (∀ r, s.pwr.wake = some w → w.since ≤ s.clk.now →
      w.step = 1 ∨ w.step = 2 ∨ w.step = 5 ∨ w.step = 7 ∨ w.step = 8 → exec (.wakeStepReady r) s = .next { s with
        pwr := { s.pwr with
          wake := some { w with step := w.step + 1, retry := false, since := s.clk.now }
          vreq := s.pwr.vreq ||| stepRails w.step } }) ∧
    (∀ r, s.pwr.wake = some w → w.since ≤ s.clk.now → w.step = 3 → nextWith (.wakeStepReady r) s fun t =>
      t.pwr = { s.pwr with wake := some { w with step := 4, retry := false, since := s.clk.now }, failDue := false } ∧
      t = { s with pwr := t.pwr, evc := t.evc, out := t.out }) ∧
    (∀ r, s.pwr.wake = some w → w.since ≤ s.clk.now → w.step = 6 → w.retry = false → s.dev.fwCopy = true →
      exec (.wakeStepReady r) s = .next { s with pwr := { s.pwr with
        wake := some { w with step := 7, retry := false, since := s.clk.now }, vreq := s.pwr.vreq ||| 0x06#5 } }) ∧
    (∀ r k i, s.pwr.wake = some w → w.since ≤ s.clk.now → w.step = 6 → w.retry = true → chooseImage s = some (k, i) →
      exec (.wakeStepReady r) s = .next { s with
        dev := { s.dev with booted := some (i.version, k) }
        fuses := { s.fuses with minSec := max s.fuses.minSec i.secVersion }
        pwr := { s.pwr with
          wake := some { w with step := 7, retry := false, since := s.clk.now }, vreq := s.pwr.vreq ||| 0x06#5 } }) ∧
    (∀ r, s.pwr.wake = some w → w.since ≤ s.clk.now → w.step = 4 → nextWith (.wakeStepReady r) s fun t =>
      t.pwr.wake = some { w with
        step := 5, retry := false, since := s.clk.now
        lost := (r.badBanks ||| s.pwr.ruined) &&& s.pwr.retValid } ∧
      t.pwr.retLost = s.pwr.retLost ||| ((r.badBanks ||| s.pwr.ruined) &&& s.pwr.retValid) ∧
      t.pwr.retValid = s.pwr.retValid &&& ~~~((r.badBanks ||| s.pwr.ruined) &&& s.pwr.retValid) ∧
      t = { s with pwr := t.pwr }) ∧
    (∀ r, s.pwr.wake = some w → w.since ≤ s.clk.now → w.step = 9 → 0 < r.lanesUp → 0 < r.lanesDown → nextWith (.wakeStepReady r) s fun t =>
      t.die = { s.die with
        goodUp := min r.lanesUp 24, goodDown := min r.lanesDown 24, widthUp := dieWidth (min r.lanesUp 24)
        widthDown := dieWidth (min r.lanesDown 24) } ∧
      t.pwr = { s.pwr with
        wake := some { w with step := 10, retry := false, since := s.clk.now }, vreq := s.pwr.vreq ||| 0x08#5 } ∧
      t = { s with die := t.die, pwr := t.pwr }) ∧
    (∀ r, s.pwr.wake = some w → w.since ≤ s.clk.now → w.step = 10 → nextWith (.wakeStepReady r) s fun t =>
      t.pwr.asleep = false ∧ t.pwr.wake = none ∧ t.pwr.fw = some .active ∧ t.pwr.changing = false ∧
      t.cmd.ready = true ∧ t.fuses = s.fuses ∧ t.clk.now = s.clk.now) ∧
    (∀ c, s.pwr.wake = none → exec (.wakeStepTimeout c) s = .next s) ∧
    (∀ c, s.pwr.wake = some w → s.clk.now < w.since + stepTimeout w.step w.retry → exec (.wakeStepTimeout c) s = .next s) ∧
    (∀ c, s.pwr.wake = some w → w.since + stepTimeout w.step w.retry ≤ s.clk.now → w.retry = false →
      exec (.wakeStepTimeout c) s = .next { s with pwr := { s.pwr with
        wake := some { w with retry := true, since := s.clk.now + ms 1 }, vreq := s.pwr.vreq &&& ~~~stepRails w.step } }) ∧
    (∀ c, s.pwr.wake = some w → w.since + stepTimeout w.step w.retry ≤ s.clk.now → w.retry = true → nextWith (.wakeStepTimeout c) s fun t =>
      t.pwr.wake = none ∧ t.pwr.changing = false ∧ t.pwr.wakeFail = true ∧ t.pwr.failStep = w.step ∧
      t.pwr.failCause = wakeCause w.step c ∧ t.pwr.failDue = true ∧ t.pwr.vreq = s.pwr.vreq &&& 0x10#5 ∧
      (w.step = 2 ∨ w.step = 8 → t.pwr.holdValid = false) ∧ t.pwr.asleep = s.pwr.asleep ∧ t.fuses = s.fuses ∧
      t.reg = s.reg ∧ t.time = s.time) ∧
    (nextWith .aonHoldNsRead s fun t =>
      t.out = .read (loWord s.pwr.holdTime) :: s.out ∧
      t.pwr = { s.pwr with holdLatch := (s.pwr.holdTime, s.pwr.holdValid, holdErr s) } ∧
      t = { s with pwr := t.pwr, out := t.out })

/-- Pins (R36, R180, R349, R351, R352): the PCIe link, the reference, supply faults and the thermal limits. -/
def Obligations.PinsAndFaults : Prop :=
  ∀ (s : State),
    (∀ a b c, a ≤ 2 ∨ a = 4 ∨ a = 8 → b ≤ 5 → c ≤ 5 → nextWith (.pcieLinkChange a b c) s fun t =>
      t.dev = { s.dev with linkWidth := a, linkRate := b, linkState := c } ∧
      (t.dev ≠ s.dev → t.evc.pend.getLsbD 0x1C = true) ∧
      t = { s with dev := t.dev, evc := t.evc, out := t.out }) ∧
    (s.sec.job = none → nextWith .pciePerstAssert s fun t =>
      t.dev = { s.dev with linkWidth := 0, linkRate := 0, linkState := 0 } ∧
      t = { s with dev := t.dev, evc := t.evc, out := t.out }) ∧
    (∀ j, s.sec.job = some j → nextWith .pciePerstAssert s fun t =>
      t.dev = { s.dev with linkWidth := 0, linkRate := 0, linkState := 0 } ∧ (s.sec.jobs = [] → t.sec.assocs = s.sec.assocs) ∧ t.groups = s.groups ∧
      t.reg = s.reg ∧ t.carriers = s.carriers ∧ t.fuses = s.fuses ∧
      t = { s with
        dev := t.dev, clk := t.clk, ports := t.ports, sec := t.sec, cmd := t.cmd, evc := t.evc, out := t.out }) ∧
    (s.pwr.asleep = false → nextWith .ocxoFail s fun t =>
      t.time.refOk = false ∧ t.time.refHeld = true ∧ t.time.servo = .free ∧ t.time.holdover = none ∧
      t.tio.flags.getLsbD 4 = true ∧ t.reg = s.reg ∧ t.carriers = s.carriers ∧ t.fuses = s.fuses) ∧
    (s.pwr.asleep = true → s.pwr.wake = none → nextWith .ocxoFail s fun t =>
      t.time.refOk = false ∧ t.pwr.holdValid = false ∧ t.pwr.wake = some { step := 1, start := s.clk.now, since := s.clk.now } ∧
      t.reg = s.reg ∧ t.fuses = s.fuses) ∧
    (∀ x, s.pwr.vreq.getLsbD (railBit x) = false ∨ s.pwr.wake.isSome = true ∨ s.pwr.supply.getLsbD (railBit x) = true →
      exec (.supplyFault x) s = .next s) ∧
    (∀ x, s.pwr.vreq.getLsbD (railBit x) = true → s.pwr.wake = none → s.pwr.supply.getLsbD (railBit x) = false →
      s.pwr.stop = false → nextWith (.supplyFault x) s fun t =>
        t.pwr.supply = s.pwr.supply ||| (1#5 <<< railBit x) ∧ t.fuses = s.fuses ∧ t.pending = s.pending) ∧
    (∀ x, s.pwr.vreq.getLsbD (railBit x) = true → s.pwr.wake = none → s.pwr.supply.getLsbD (railBit x) = false →
      s.pwr.stop = false → x = .hbm → nextWith (.supplyFault x) s fun t =>
        t.level 3 = 0 ∧ t.cls.flows = [] ∧ t.cls.actions = [] ∧ t.q.tab = [] ∧ t.q.used = 0 ∧ t.dev.fwCopy = false ∧
        t.reg = s.reg ∧ t.sec = s.sec) ∧
    (∀ d a, nextWith (.thermalWarn d a) s fun t =>
      t.pwr.warn.getLsbD d.toNat = a ∧ (∀ k, k ≠ d.toNat → t.pwr.warn.getLsbD k = s.pwr.warn.getLsbD k) ∧
      t = { s with pwr := { s.pwr with warn := t.pwr.warn }, evc := t.evc, out := t.out }) ∧
    (∀ d, s.pwr.trip.getLsbD d.toNat = false → nextWith (.thermalTrip d) s fun t =>
      t.pwr = { s.pwr with trip := s.pwr.trip ||| (1#2 <<< d.toNat) } ∧
      (∀ n ∈ s.carrierNums, s.time.carrier ≠ some n → (s.carrier n).state ≠ .off →
        (t.carrier n).disabling = true ∧ (t.carrier n).held = []) ∧
      (∀ n, s.time.carrier = some n → t.carrier n = s.carrier n) ∧
      t = { s with carriers := t.carriers, q := t.q, evc := t.evc, pmc := t.pmc, pwr := t.pwr, out := t.out }) ∧
    (∀ d, s.pwr.trip.getLsbD d.toNat = true → exec (.thermalTrip d) s = .next s) ∧
    (exec .thermalTripClear s = .next { s with pwr := { s.pwr with trip := 0 } })

/-- Commands that only read (the command tables of chapters 02 to 15): each answers OK with the values its table names, in their
order, and changes nothing but what taking and answering a command changes; die.status in service also counts the CRC errors seen
since, free values (log entry 3). A unit that is absent and a seed that is lost fail. -/
def Obligations.StatusReads : Prop :=
  ∀ (h : Hdr) (s : State),
    (runsNow h .timeStatus s → reads (.timeStatus h) h 0x0201 s fun s =>
      [servoCode s.time.servo, (timeValid s).toNat, s.time.dDown.isSome.toNat, errEst s, dsDelay s, s.time.rtt,
        unsigned 32 s.time.asym, s.time.alpha, (s.time.carrier.map (· + 1)).getD 0]) ∧
    (∀ n, n < 4 → s.hasCarrier n = true →
      (runsNow h (.carrierStatus n) s → reads (.carrierStatus h n) h 0x0304 s fun s =>
        [carrierCode (s.carrier n).state, ((s.carrier n).slot.map (· + 1)).getD 0, Prof.code (s.carrier n).profile,
          (s.carrier n).hasHint.toNat, causeCode (s.carrier n).lastFault, (s.carrier n).nDropped, (s.carrier n).attempts]) ∧
      (runsNow h (.carrierMonitor n) s → reads (.carrierMonitor h n) h 0x0309 s fun s =>
        match (s.carrier n).monitor with
        | none => List.replicate 11 0xFFFF
        | some m => [m.preFec, m.corrected, m.uncorr, m.iters, m.snr, unsigned 32 m.disp, m.dgd, unsigned 16 m.freqOff,
            unsigned 16 m.laserOff, unsigned 16 m.rxPower, m.gateCur]) ∧
      (runsNow h (.grantStats n) s → reads (.grantStats h n) h 0x0407 s fun s =>
        [(s.carrier n).held.length, (s.carrier n).nEmitted, (s.carrier n).nLate, (s.carrier n).nInvalid, (s.carrier n).nDropped,
          (s.carrier n).nDiscarded, ((s.carrier n).standing.filter fun g => !g.ended s (s.carrier n)).length]) ∧
      (runsNow h (.forecastRead n) s → reads (.forecastRead h n) h 0x0409 s fun s => (s.carrier n).report.map (·.toNat)) ∧
      (runsNow h (.frameStatus n) s → reads (.frameStatus h n) h 0x0501 s fun s =>
        [((s.carrier n).state == .locked || (s.carrier n).state == .mismatch).toNat, (s.carrier n).hunt.length,
          (s.carrier n).nAbsent, (s.carrier n).nTagFail, (s.carrier n).nSfOk, (s.carrier n).nSfBad, (s.carrier n).nSfUnver]) ∧
      (runsNow h (.cellStats n) s → reads (.cellStats h n) h 0x0502 s fun s =>
        [(s.carrier n).nHec, (s.carrier n).nCalm, (s.carrier n).nFiltered, (s.carrier n).nTrib, (s.carrier n).nUnknown,
          (s.carrier n).nTruncated, (s.carrier n).nOrphan, (s.carrier n).nOversize, (s.carrier n).nTimedOut,
          (s.carrier n).nRemainder])) ∧
    (∀ n, n < 4 → s.hasCarrier n = false → runsNow h (.carrierStatus n) s →
      failsWith (.carrierStatus h n) h 0x0304 .unitAbsent s) ∧
    (runsNow h .regStatus s → reads (.regStatus h) h 0x0403 s fun s =>
      [regCode s.reg.state, (s.reg.number.map (· + 1)).getD 0, s.reg.epoch.toNat, s.reg.eMax.toNat, headIndex s.reg.head s,
        s.time.tEq] ++ (s.carrierNums.map fun n => [(s.carrier n).ranged.toNat, (s.carrier n).eqdAt (lineTime s),
          ((s.carrier n).eqdHint.any fun h => (s.carrier n).slot == some h.1).toNat]).flatten) ∧
    (∀ k, k < 4 → runsNow h (.mchStats k) s → reads (.mchStats h k) h 0x0505 s fun s =>
      [(s.channel k).nDown, (s.channel k).bDown, (s.channel k).nUp, (s.channel k).bUp, (s.channel k).nFcs, (s.channel k).nOver,
        (s.channel k).nFull]) ∧
    (∀ a, s.variant.trib = true → runsNow h (.tribPageRead a) s → reads (.tribPageRead h a) h 0x0508 s fun s =>
      pageWords (if a then s.trib.active else s.trib.standby)) ∧
    (∀ a, s.variant.trib = false → runsNow h (.tribPageRead a) s → failsWith (.tribPageRead h a) h 0x0508 .unitAbsent s) ∧
    (s.variant.trib = true → runsNow h .tribStatus s → reads (.tribStatus h) h 0x0509 s fun s =>
      [(swapPending s).isSome.toNat, secOf ((swapPending s).getD 0), nsOf ((swapPending s).getD 0),
        fracOf ((swapPending s).getD 0), ((s.trib.fences.map (·.trib)).dedup).length, s.trib.nTimeout]) ∧
    (runsNow h .classStatus s → reads (.classStatus h) h 0x060B s fun s =>
      [s.cls.gen, s.cls.curB.toNat, if s.cls.draining.isSome then 1 + (s.cls.gen - 1) else 0,
        (match s.cls.writeIn with | none => 0 | some w => if w.done then 3 else if w.started.isSome then 2 else 1),
        s.cls.flows.length, s.cls.nIngress, s.cls.nMiss, s.cls.nRecirc, s.cls.nTtl, s.cls.nNoop] ++
        (List.range 4).map fun k => Tbl.get 0 s.cls.passes k) ∧
    (∀ q v, 256 ≤ q → q ≤ 65535 → s.queue q = some v → runsNow h (.queueStatus q) s →
      reads (.queueStatus h q) h 0x0704 s fun _ => ([0, 1, 2, 3].map fun n => listCells (Tbl.get [] v.lists n)) ++
        [v.nTrib, v.nStore, v.nLimit, v.nYellow, v.nAge, v.nFlush, v.cFlush, v.nIntegrity, v.nSession]) ∧
    (∀ q, 256 ≤ q → q ≤ 65535 → s.queue q = none → runsNow h (.queueStatus q) s →
      failsWith (.queueStatus h q) h 0x0704 .entryAbsent s) ∧
    (∀ p, p < 32 → s.hasPort p = true →
      (∀ k, k < 8 → runsNow h (.queueStatus (8 * p + k)) s → reads (.queueStatus h (8 * p + k)) h 0x0704 s fun s =>
        [egressBytes (Tbl.get [] (s.port p).queues k), Tbl.get 0 (s.port p).stats.egLimit k, Tbl.get 0 (s.port p).stats.egYellow k,
          Tbl.get 0 (s.port p).stats.egPool k, Tbl.get 0 (s.port p).stats.egAge k, Tbl.get 0 (s.port p).stats.egGate k]) ∧
      (runsNow h (.gateStatus p) s → reads (.gateStatus h p) h 0x070B s fun s =>
        gateListWords (s.port p).gate ++ gateListWords (s.port p).gateNext ++
          [(s.port p).stats.egGate.foldl (fun a x => a + x.2) 0]) ∧
      (runsNow h (.portStatus p) s → reads (.portStatus h p) h 0x0807 s fun s =>
        [(s.port p).up.toNat, (s.port p).localFault.toNat, (s.port p).remoteFault.toNat] ++ cfgWords (s.port p) ++
          [(s.port p).inLpi.isSome.toNat, (s.port p).rxLpi.isSome.toNat, (s.port p).tw.isSome.toNat, (s.port p).tw.getD 0,
            (s.port p).asleep.toNat, (s.port p).stoppedBits s.clk.now])) ∧
    (∀ p, p < 32 → s.hasPort p = false → runsNow h (.portStatus p) s → failsWith (.portStatus h p) h 0x0807 .unitAbsent s) ∧
    (runsNow h .storeStatus s → reads (.storeStatus h) h 0x070E s fun s =>
      [s.q.used, poolBytes s, s.q.nTrib, s.q.nStore, s.q.nLimit, s.q.nYellow, s.q.nAge, s.q.nNoQueue, s.q.nSplit, s.q.nSession,
        s.q.nFlush, s.q.nIntegrity, s.q.nAssocState, s.q.nExhausted, s.q.nClosed, s.q.nClass, s.q.nLength,
        egressDrops (fun c => sumOf c.egLimit) s, egressDrops (fun c => sumOf c.egYellow) s,
        egressDrops (fun c => sumOf c.egPool) s, egressDrops (fun c => sumOf c.egAge) s, egressDrops (fun c => sumOf c.egGate) s,
        egressDrops (fun c => c.portDown) s, egressDrops (fun c => c.authFail) s]) ∧
    (runsNow h .dieStatus s → s.die.split = true → reads (.dieStatus h) h 0x0120 s fun s =>
      [s.die.widthUp, s.die.widthDown, s.die.goodUp, s.die.goodDown, s.die.nSpared, s.die.nFailed] ++
        ((List.range 48).map fun k => Tbl.get 0 s.die.errs k) ++ [s.die.nRetrain, s.die.nOverrun]) ∧
    (runsNow h .dieStatus s → s.die.split = false → ∃ t, exec (.dieStatus h) s = .next (sendReply h 0x0120 {
        data := [s.die.widthUp, s.die.widthDown, s.die.goodUp, s.die.goodDown, s.die.nSpared, s.die.nFailed] ++
          ((List.range 48).map fun k => Tbl.get 0 t.die.errs k) ++ [s.die.nRetrain, s.die.nOverrun] } t) ∧
      (∀ k, Tbl.get 0 s.die.errs k ≤ Tbl.get 0 t.die.errs k) ∧
      t = { takeUp h s with
        clk := { s.clk with draws := s.clk.draws + 48 }, die := { s.die with errs := t.die.errs } }) ∧
    (runsNow h .secStatus s → reads (.secStatus h) h 0x0901 s fun s =>
      [lifecycleCode s.fuses.lifecycle, s.sec.digest.toNat, (s.fuses.owner.map (·.toNat)).getD 0, s.sec.unlocked.toNat,
        s.sec.dmax, s.sec.compat.toNat, s.sec.rngOk.toNat, s.sec.selfTest.toNat]) ∧
    (∀ v, seedOf s.fuses.seedBanks = some v → runsNow h .secIdentity s → reads (.secIdentity h) h 0x0902 s fun _ =>
      ((Config.identityKeys v).1 ++ (Config.identityKeys v).2).map (·.toNat)) ∧
    (seedOf s.fuses.seedBanks = none → runsNow h .secIdentity s → failsWith (.secIdentity h) h 0x0902 .securityFault s) ∧
    (∀ i, i ≤ 4095 → runsNow h (.secAssocStatus i) s → reads (.secAssocStatus h i) h 0x0908 s fun s =>
      [assocCode (s.assoc i).state, (s.assoc i).suspended.toNat, (s.assoc i).exhausted.toNat, (s.assoc i).closed.toNat,
        (s.assoc i).peerIdx, (s.assoc i).peerNum, ((s.assoc i).tx.map (·.gen)).getD 0, (s.assoc i).pn] ++
        (s.assoc i).rx.map (·.gen) ++ [(s.assoc i).failCount] ++ (List.range 7).map fun k => Tbl.get 0 (s.assoc i).discards k) ∧
    (runsNow h .deviceInfo s → reads (.deviceInfo h) h 0x0101 s fun s =>
      [devId s, devRev s, (s.dev.booted.map (·.1)).getD 0, Config.bootRomVersion, s.sec.digest.toNat / 2 ^ 256]) ∧
    (runsNow h .deviceStatus s → reads (.deviceStatus h) h 0x0102 s fun s =>
      [devStatus s, s.dev.bootStage, (s.clk.now - s.dev.resetAt) / ms 1, s.pwr.cause]) ∧
    (∀ b, b.length ≤ 256 → runsNow h (.devicePing b) s → reads (.devicePing h b) h 0x0105 s fun _ => b.map BitVec.toNat) ∧
    (∀ b, 256 < b.length → runsNow h (.devicePing b) s → failsWith (.devicePing h b) h 0x0105 .paramLength s) ∧
    (∀ g, 1 ≤ g → g ≤ 255 → runsNow h (.commitStatus g) s → reads (.commitStatus h g) h 0x0A04 s fun s =>
      [groupCode (s.grp g).state, (s.grp g).changes.length, (s.grp g).bytes, secOf (s.grp g).eff, nsOf (s.grp g).eff,
        fracOf (s.grp g).eff,
        (if (s.grp g).state = .committed then (((s.grp g).locks.map (·.cls)).dedup.filter fun k =>
          (s.grp g).checked || classReady g k s).foldl (fun a c => a + 2 ^ c) 0 else 0),
        Status.code ((s.grp g).abort.getD (.ok, 0)).1, ((s.grp g).abort.getD (.ok, 0)).2]) ∧
    (runsNow h .powerStatus s → reads (.powerStatus h) h 0x0B01 s fun s =>
      [powerCode s.powerState, s.levelWord.toNat] ++ ((List.range 9).map fun v => (s.vote v).toNat) ++
        (match s.pwr.sched with
          | some c => (powerCode c.target + 1) :: instantWords c.at_
          | none => [0, 0, 0, 0]) ++
        (match s.pwr.outcome with
          | .none => [0, 0] | .ok => [1, 0] | .blocked v => [2, v.toNat] | .timeInvalid => [3, 0])) ∧
    (runsNow h .powerRetentionStatus s → reads (.powerRetentionStatus h) h 0x0B04 s fun s =>
      [s.pwr.retValid.toNat, s.pwr.retLost.toNat] ++ ((List.range 16).map fun b => Tbl.get 0 s.pwr.bankCrc b) ++
        [wakeStatus s.pwr]) ∧
    (runsNow h .engineStatus s → reads (.engineStatus h) h 0x0C03 s fun s =>
      ((List.range 8).map fun c => 16 - (s.eng.out.filter fun e => decide (16 * c ≤ e ∧ e < 16 * c + 16)).length) ++
        ((List.range 3).map fun c => 16 - (s.eng.out.filter fun e => decide (256 + 16 * c ≤ e ∧ e < 256 + 16 * c + 16)).length) ++
        [16 - (s.eng.out.filter fun e => decide (512 ≤ e ∧ e < 512 + 16)).length] ++
        (s.eng.progs.filterMap fun (x : Nat × Option Prog) => x.2.map fun g =>
          [x.1, g.img.version, g.img.build, g.disabled.toNat, g.total]).flatten ++
        [s.eng.dispUp.length, s.eng.dispDown.length, s.eng.nOverrun, s.eng.nException, s.eng.nDisabled])

/-- EVERY ROW ANSWERS. The row of each Palgil command of Table 11-5 runs the command of its own opcode, with all of its
operands: whatever the command's body answers at once is the reply, and the state the body leaves is the next state (R247, R256). Every
other row answers a next state whatever state it finds, and a direct write of BAR2 does inside the BAR at an aligned offset: no row
is turned away. What the next state holds is said family by family by the statements above. -/
def Obligations.RowsAnswer : Prop :=
  (∀ h,
    runsAs (.timeStatus h) h .timeStatus ∧ (∀ input max, runsAs (.timeCapture h input max) h (.timeCapture input max)) ∧
    (∀ input enable falling, runsAs (.timeCaptureConfig h input enable falling) h (.timeCaptureConfig input enable falling)) ∧
    (∀ p, runsAs (.timeOutputSet h p) h (.timeOutputSet p)) ∧
    (∀ alpha, runsAs (.timeSplitSet h alpha) h (.timeSplitSet alpha)) ∧
    (∀ a clear, runsAs (.timeAsymmetrySet h a clear) h (.timeAsymmetrySet a clear)) ∧
    (∀ y d limit squelch, runsAs (.timeHoldoverSet h y d limit squelch) h (.timeHoldoverSet y d limit squelch)) ∧
    (∀ port enable domain altAddr twoStep, runsAs (.timePtpSet h port enable domain altAddr twoStep) h (.timePtpSet port enable domain altAddr twoStep)) ∧
    (∀ port enable qlTrack qlHold, runsAs (.timeSynceSet h port enable qlTrack qlHold) h (.timeSynceSet port enable qlTrack qlHold)) ∧
    (∀ carrier, runsAs (.timeCarrierSet h carrier) h (.timeCarrierSet carrier)) ∧
    (∀ n p, runsAs (.carrierConfig h n p) h (.carrierConfig n p)) ∧ (∀ n, runsAs (.carrierEnable h n) h (.carrierEnable n)) ∧
    (∀ n, runsAs (.carrierDisable h n) h (.carrierDisable n)) ∧ (∀ n, runsAs (.carrierStatus h n) h (.carrierStatus n)) ∧
    (∀ n p, runsAs (.carrierGateSet h n p) h (.carrierGateSet n p)) ∧
    (∀ n ceil, runsAs (.carrierGateCeiling h n ceil) h (.carrierGateCeiling n ceil)) ∧
    (∀ n script, runsAs (.carrierFeLoad h n script) h (.carrierFeLoad n script)) ∧
    (∀ n t, runsAs (.carrierFeAccess h n t) h (.carrierFeAccess n t)) ∧
    (∀ n, runsAs (.carrierMonitor h n) h (.carrierMonitor n)) ∧ (∀ n, runsAs (.carrierHintClear h n) h (.carrierHintClear n)) ∧
    runsAs (.regEnable h) h .regEnable ∧ runsAs (.regDisable h) h .regDisable ∧ runsAs (.regStatus h) h .regStatus ∧
    (∀ carrier tResume, runsAs (.regConfig h carrier tResume) h (.regConfig carrier tResume)) ∧
    (∀ heads, runsAs (.regHeadlistSet h heads) h (.regHeadlistSet heads)) ∧ runsAs (.regEpochReset h) h .regEpochReset ∧
    (∀ n, runsAs (.grantStats h n) h (.grantStats n)) ∧ (∀ n a b, runsAs (.forecastConfig h n a b) h (.forecastConfig n a b)) ∧
    (∀ n, runsAs (.forecastRead h n) h (.forecastRead n)) ∧ (∀ n, runsAs (.frameStatus h n) h (.frameStatus n)) ∧
    (∀ n, runsAs (.cellStats h n) h (.cellStats n)) ∧ (∀ bitmap, runsAs (.cellGroupsSet h bitmap) h (.cellGroupsSet bitmap)) ∧
    (∀ ch enable carrier rate, runsAs (.mchConfig h ch enable carrier rate) h (.mchConfig ch enable carrier rate)) ∧
    (∀ ch, runsAs (.mchStats h ch) h (.mchStats ch)) ∧
    (∀ first entries, runsAs (.tribPageWrite h first entries) h (.tribPageWrite first entries)) ∧
    (∀ instant fence, runsAs (.tribPageSwap h instant fence) h (.tribPageSwap instant fence)) ∧
    (∀ active, runsAs (.tribPageRead h active) h (.tribPageRead active)) ∧ runsAs (.tribStatus h) h .tribStatus ∧
    (∀ e key, runsAs (.flowInsert h e key) h (.flowInsert e key)) ∧
    (∀ profile key e, runsAs (.flowModify h profile key e) h (.flowModify profile key e)) ∧
    (∀ profile key, runsAs (.flowDelete h profile key) h (.flowDelete profile key)) ∧
    (∀ profile key, runsAs (.flowLookup h profile key) h (.flowLookup profile key)) ∧
    (∀ idx acts, runsAs (.flowActionWrite h idx acts) h (.flowActionWrite idx acts)) ∧
    (∀ idx e value mask, runsAs (.ternaryWrite h idx e value mask) h (.ternaryWrite idx e value mask)) ∧
    (∀ idx, runsAs (.ternaryDelete h idx) h (.ternaryDelete idx)) ∧
    (∀ node d, runsAs (.parseNodeSet h node d) h (.parseNodeSet node d)) ∧
    (∀ profile exact ternary, runsAs (.classProfileSet h profile exact ternary) h (.classProfileSet profile exact ternary)) ∧
    (∀ port actionSet profile, runsAs (.classDefaultSet h port actionSet profile) h (.classDefaultSet port actionSet profile)) ∧
    runsAs (.classStatus h) h .classStatus ∧ (∀ first count, runsAs (.flowScan h first count) h (.flowScan first count)) ∧
    (∀ q assoc cls group p, runsAs (.queueCreate h q assoc cls group p) h (.queueCreate q assoc cls group p)) ∧
    (∀ q, runsAs (.queueDelete h q) h (.queueDelete q)) ∧ (∀ q p, runsAs (.queueSet h q p) h (.queueSet q p)) ∧
    (∀ q, runsAs (.queueStatus h q) h (.queueStatus q)) ∧ (∀ q, runsAs (.queueFlush h q) h (.queueFlush q)) ∧
    (∀ assoc cls weight shaper expedite, runsAs (.schedNodeSet h assoc cls weight shaper expedite) h (.schedNodeSet assoc cls weight shaper expedite)) ∧
    (∀ port queues shaper, runsAs (.egressConfig h port queues shaper) h (.egressConfig port queues shaper)) ∧
    (∀ idx p refill, runsAs (.policerSet h idx p refill) h (.policerSet idx p refill)) ∧
    (∀ idx clear, runsAs (.policerRead h idx clear) h (.policerRead idx clear)) ∧
    (∀ port g, runsAs (.gateListSet h port g) h (.gateListSet port g)) ∧
    (∀ port, runsAs (.gateStatus h port) h (.gateStatus port)) ∧
    (∀ slot p, runsAs (.barometerWatch h slot p) h (.barometerWatch slot p)) ∧
    (∀ slot clear, runsAs (.barometerRead h slot clear) h (.barometerRead slot clear)) ∧
    runsAs (.storeStatus h) h .storeStatus ∧
    (∀ lane txInv rxInv preset, runsAs (.laneConfig h lane txInv rxInv preset) h (.laneConfig lane txInv rxInv preset)) ∧
    (∀ t, runsAs (.laneRefclkSet h t) h (.laneRefclkSet t)) ∧ (∀ lane, runsAs (.laneStatus h lane) h (.laneStatus lane)) ∧
    (∀ lane m, runsAs (.laneMonitorSet h lane m) h (.laneMonitorSet lane m)) ∧
    (∀ lane clear, runsAs (.lanePatternRead h lane clear) h (.lanePatternRead lane clear)) ∧
    runsAs (.dieStatus h) h .dieStatus ∧ (∀ widen, runsAs (.dieRetrain h widen) h (.dieRetrain widen)) ∧
    (∀ port p, runsAs (.portConfig h port p) h (.portConfig port p)) ∧
    (∀ port, runsAs (.portStatus h port) h (.portStatus port)) ∧
    (∀ port p, runsAs (.portFilterSet h port p) h (.portFilterSet port p)) ∧
    (∀ port p, runsAs (.portPauseSet h port p) h (.portPauseSet port p)) ∧
    (∀ port rx tx, runsAs (.portTsConfig h port rx tx) h (.portTsConfig port rx tx)) ∧
    (∀ port max, runsAs (.portTsRead h port max) h (.portTsRead port max)) ∧
    (∀ port enable idleHold rxTw, runsAs (.portLpiSet h port enable idleHold rxTw) h (.portLpiSet port enable idleHold rxTw)) ∧
    (∀ port sleep wakeOnTx, runsAs (.portSleep h port sleep wakeOnTx) h (.portSleep port sleep wakeOnTx)) ∧
    (∀ instant ports, runsAs (.statsSnapshot h instant ports) h (.statsSnapshot instant ports)) ∧
    (∀ buffer release, runsAs (.statsRead h buffer release) h (.statsRead buffer release)) ∧
    (∀ port clear, runsAs (.portStatsRead h port clear) h (.portStatsRead port clear)) ∧ runsAs (.secStatus h) h .secStatus ∧
    runsAs (.secIdentity h) h .secIdentity ∧ runsAs (.secChallenge h) h .secChallenge ∧
    (∀ challenge digest sigEcOk sigMldsaOk, runsAs (.secOwnerEnrol h challenge digest sigEcOk sigMldsaOk) h (.secOwnerEnrol challenge digest sigEcOk sigMldsaOk)) ∧
    (∀ idx p, runsAs (.secAssocCreate h idx p) h (.secAssocCreate idx p)) ∧
    (∀ idx, runsAs (.secAssocRekey h idx) h (.secAssocRekey idx)) ∧
    (∀ idx, runsAs (.secAssocDelete h idx) h (.secAssocDelete idx)) ∧
    (∀ idx, runsAs (.secAssocStatus h idx) h (.secAssocStatus idx)) ∧
    (∀ idx threshold hold, runsAs (.secAssocConfig h idx threshold hold) h (.secAssocConfig idx threshold hold)) ∧
    (∀ idx, runsAs (.secAssocResume h idx) h (.secAssocResume idx)) ∧
    (∀ dmax, runsAs (.secSidechannelSet h dmax) h (.secSidechannelSet dmax)) ∧ runsAs (.secDebugUnlock h) h .secDebugUnlock ∧
    (∀ enable, runsAs (.secCompatSet h enable) h (.secCompatSet enable)) ∧
    (∀ isSeal idx addr len urgent, runsAs (.cipherJob h isSeal idx addr len urgent) h (.cipherJob isSeal idx addr len urgent)) ∧
    runsAs (.deviceInfo h) h .deviceInfo ∧ runsAs (.deviceStatus h) h .deviceStatus ∧
    (∀ k, runsAs (.deviceReset h k) h (.deviceReset k)) ∧
    (∀ offset len last, runsAs (.deviceFwLoad h offset len last) h (.deviceFwLoad offset len last)) ∧
    (∀ bytes, runsAs (.devicePing h bytes) h (.devicePing bytes)) ∧
    (∀ timeout, runsAs (.commitOpen h timeout) h (.commitOpen timeout)) ∧
    (∀ g instant, runsAs (.commitApply h g instant) h (.commitApply g instant)) ∧
    (∀ g, runsAs (.commitAbort h g) h (.commitAbort g)) ∧ (∀ g, runsAs (.commitStatus h g) h (.commitStatus g)) ∧
    runsAs (.powerStatus h) h .powerStatus ∧ (∀ word, runsAs (.powerVote h word) h (.powerVote word)) ∧
    (∀ target instant carriers wakeAt, runsAs (.powerSchedule h target instant carriers wakeAt) h (.powerSchedule target instant carriers wakeAt)) ∧
    runsAs (.powerRetentionStatus h) h .powerRetentionStatus ∧
    (∀ img limit, runsAs (.engineProgramLoad h img limit) h (.engineProgramLoad img limit)) ∧
    (∀ prog, runsAs (.engineProgramUnload h prog) h (.engineProgramUnload prog)) ∧ runsAs (.engineStatus h) h .engineStatus ∧
    (∀ down max, runsAs (.engineExceptionRead h down max) h (.engineExceptionRead down max)) ∧
    (∀ n evsel filt ranges, runsAs (.pmcConfig h n evsel filt ranges) h (.pmcConfig n evsel filt ranges)) ∧
    (∀ p, runsAs (.sampleConfig h p) h (.sampleConfig p)) ∧ (∀ p, runsAs (.traceConfig h p) h (.traceConfig p)) ∧
    (∀ sel max, runsAs (.traceRead h sel max) h (.traceRead sel max))) ∧
  (∀ v, answers (.cmdSqTailWrite v)) ∧ (∀ v, answers (.cmdRqHeadWrite v)) ∧ (∀ v, answers (.cmdCtrlEnWrite v)) ∧
  (∀ e p dmaError, answers (.ringSubmissionFetch e p dmaError)) ∧ (∀ p, answers (.writeCmd p)) ∧ answers .readReply ∧
  answers .readStatus ∧ (∀ port f p, answers (.inbandCommandFrame port f p)) ∧ (∀ edge, answers (.timeNowLoRead edge)) ∧
  (∀ sec edge, answers (.timeNowHiRead sec edge)) ∧ (∀ addr v, answers (.tpWrite addr v)) ∧ answers .tptTimeNowLoRead ∧
  (∀ n, answers (.capLoRead n)) ∧ (∀ n, answers (.capLostRead n)) ∧ (∀ t, answers (.evcClaim t)) ∧
  (∀ t v, answers (.evcComplete t v)) ∧ (∀ v, answers (.evcTrigger v)) ∧ (∀ v, answers (.evcDiscard v)) ∧
  (∀ w v, answers (.evcPendingWrite w v)) ∧ (∀ w v, answers (.evcMaskWrite w v)) ∧ answers .evcIntegPop ∧
  answers .evcIntegLostRead ∧ answers .evcIntegCorrRead ∧ (∀ n, answers (.pmcCntLoRead n)) ∧
  (∀ n hi v, answers (.pmcCntWrite n hi v)) ∧ (∀ v, answers (.pmcFreezeWrite v)) ∧ (∀ v, answers (.aonWakeReq v)) ∧
  (∀ v, answers (.aonVoteHostWrite v)) ∧ answers .aonHoldNsRead ∧ answers .porstAssert ∧ answers .resetNAssert ∧
  answers .bootStart ∧ (∀ r, answers (.bootStageComplete r)) ∧ answers .watchdogReset ∧ answers .commandResetStart ∧
  answers .pciePerstAssert ∧ (∀ width rate state, answers (.pcieLinkChange width rate state)) ∧
  (∀ rail, answers (.supplyFault rail)) ∧ (∀ die above, answers (.thermalWarn die above)) ∧
  (∀ lineDie, answers (.thermalTrip lineDie)) ∧ answers .hardwareStop ∧ answers .ocxoFail ∧ answers .refclkRecovered ∧
  (∀ input, answers (.laneRefFault input)) ∧ (∀ n falling sub, answers (.tcapEdge n falling sub)) ∧
  (∀ sub, answers (.ppsInEdge sub)) ∧ answers .servoTrackEntry ∧ answers .servoStampTimeout ∧ answers .holdoverLimit ∧
  (∀ n f, answers (.downstreamFrame n f)) ∧ (∀ n signer, answers (.superframeVerified n signer)) ∧
  (∀ n signer, answers (.rangeAssign n signer)) ∧ (∀ n signer unwraps, answers (.regConfirm n signer unwraps)) ∧
  (∀ n signer, answers (.rangeUpdate n signer)) ∧ (∀ n signer, answers (.resume n signer)) ∧
  (∀ n signer, answers (.deregister n signer)) ∧ (∀ n signer unwraps, answers (.keyRoll n signer unwraps)) ∧
  (∀ n msgId, answers (.msgTimeout n msgId)) ∧ answers .regEvaluation ∧ answers .rangingTimeout ∧ answers .tResume ∧
  answers .gust ∧ answers .gustUnanswered ∧ answers .rangingBurst ∧ (∀ n, answers (.burstDraw n)) ∧
  (∀ n, answers (.burstEmission n)) ∧ answers .forecastUpdate ∧ (∀ n, answers (.tuneComplete n)) ∧
  (∀ n, answers (.tuneTimeout n)) ∧
  (∀ n power dispersion first second, answers (.carrierLocked n power dispersion first second)) ∧
  (∀ n, answers (.acqTimeout n)) ∧ (∀ n power, answers (.carrierLost n power)) ∧ (∀ n, answers (.lostTimeout n)) ∧
  (∀ n offsetMhz, answers (.laserFineTune n offsetMhz)) ∧ (∀ n d ok alarms, answers (.feDuty n d ok alarms)) ∧
  (∀ n duty t, answers (.spiTimeout n duty t)) ∧ (∀ n sensed held, answers (.gateFault n sensed held)) ∧
  (∀ n m, answers (.carrierSecond n m)) ∧ (∀ ch bits, answers (.mchPortFrame ch bits)) ∧
  (∀ ch, answers (.mchUpstreamCell ch)) ∧ answers .tribSwap ∧ (∀ trib, answers (.fenceTimeout trib)) ∧
  (∀ port f, answers (.frameReceive port f)) ∧ (∀ port q, answers (.pauseTimerExpiry port q)) ∧
  (∀ port q, answers (.pauseWatchdog port q)) ∧ (∀ port q, answers (.pauseWatchdogRecovery port q)) ∧
  (∀ port acct, answers (.pauseRefresh port acct)) ∧ (∀ src miss, answers (.pipelinePass src miss)) ∧
  (∀ down, answers (.flowCacheFill down)) ∧ (∀ down engine, answers (.programDispatch down engine)) ∧
  (∀ down, answers (.dispatchTimeout down)) ∧ (∀ ctx issued pc st, answers (.callReturn ctx issued pc st)) ∧
  (∀ ctx, answers (.waitAuth ctx)) ∧ (∀ ctx, answers (.programTimeException ctx)) ∧
  (∀ engine, answers (.engineReload engine)) ∧ (∀ control engine, answers (.engineRestart control engine)) ∧
  answers .generationDrain ∧ answers .writeInComplete ∧ answers .sealPacket ∧ answers .segmentation ∧ answers .ageCheck ∧
  answers .unsealPacket ∧ (∀ id ok, answers (.tagResult id ok)) ∧
  (∀ carrier assoc cls, answers (.reassemblyTimeout carrier assoc cls)) ∧ (∀ m, answers (.hello m)) ∧
  (∀ m, answers (.reply m)) ∧ (∀ m, answers (.confirmI m)) ∧ (∀ m, answers (.confirmR m)) ∧ (∀ m, answers (.close m)) ∧
  (∀ idx, answers (.helloRetry idx)) ∧ (∀ idx, answers (.confirmTimeout idx)) ∧ (∀ idx, answers (.peerTimeout idx)) ∧
  (∀ idx, answers (.armExpired idx)) ∧ (∀ idx, answers (.oldKeyHold idx)) ∧ answers .challengeLapse ∧ answers .rngFail ∧
  (∀ port, answers (.egressFrameStart port)) ∧ (∀ port q, answers (.egressAge port q)) ∧ (∀ f, answers (.hostFrameSend f)) ∧
  (∀ port, answers (.portUp port)) ∧ (∀ port remote, answers (.portDown port remote)) ∧ (∀ port, answers (.lpiEntry port)) ∧
  (∀ port, answers (.lpiWake port)) ∧ (∀ port, answers (.lldpTransmit port)) ∧ (∀ port, answers (.portWake port)) ∧
  (∀ lane, answers (.laneLos lane)) ∧ (∀ lane, answers (.laneLol lane)) ∧ (∀ lane e, answers (.laneAlignLock lane e)) ∧
  (∀ lane e, answers (.laneAlignLost lane e)) ∧ (∀ lane high, answers (.laneBerHigh lane high)) ∧
  (∀ lane gained window bits errors, answers (.lanePatternLock lane gained window bits errors)) ∧
  (∀ down lane, answers (.dieLaneSpared down lane)) ∧ (∀ down lane, answers (.dieLaneLoss down lane)) ∧
  (∀ goodUp goodDown, answers (.dieRetrainComplete goodUp goodDown)) ∧ answers .dieSplit ∧
  (∀ goodUp goodDown, answers (.splitRetrainAttempt goodUp goodDown)) ∧ (∀ g, answers (.commitReadinessCheck g)) ∧
  (∀ g, answers (.commitInstant g)) ∧ (∀ g, answers (.groupLapsed g)) ∧ (∀ g, answers (.groupFree g)) ∧
  (∀ port, answers (.gateListStart port)) ∧ (∀ port, answers (.gateEvent port)) ∧ answers .wheelSlot ∧
  (∀ slot, answers (.barometerSample slot)) ∧ (∀ buffer, answers (.snapshotDue buffer)) ∧ answers .powerScheduleDue ∧
  (∀ src, answers (.wakeRequest src)) ∧ (∀ r, answers (.wakeStepReady r)) ∧ (∀ cause, answers (.wakeStepTimeout cause)) ∧
  (∀ t, answers (.coalescingTimer t)) ∧ (∀ f, answers (.scrub f)) ∧ (∀ o, answers (.timeOutputEdge o)) ∧
  (∀ n, answers (.carrierDisableComplete n)) ∧ (∀ ch, answers (.mchPortTransmit ch)) ∧
  (∀ port enter, answers (.partnerLpi port enter)) ∧ (∀ lane, answers (.laneSignalDetect lane)) ∧
  (∀ lane, answers (.laneCdrLock lane)) ∧ answers .rngRecovered ∧ (∀ v, answers (.msixVectorUnmask v)) ∧
  (∀ n, answers (.pmcCounterWrap n)) ∧ answers .thermalTripClear ∧
  (∀ port announce, answers (.ptpMessageTransmit port announce)) ∧ (∀ port, answers (.esmcTransmit port)) ∧
  (∀ o v, o < 0x10000 → o % 4 = 0 → answers (.registerWrite o v))
end

