-- ==== Sys2Proof/Laws/Channel.lean ====
section
/-! SUPPORT. What the start of a Palgil command does: the lemmas that statements about a command's effect go through. -/

namespace Sys2Proof.Machine

/-- A command that runs at once and whose body answers OK is answered OK. -/
theorem command_runs {h : Hdr} {c : Cmd} {s t : State} {d : List Nat} (hr : runsNow h c s)
    (hb : bodyOf h c (begun h c s) = (some { data := d }, t)) :
    command h c s = sendReply h (Cmd.opcode c) { data := d } t := by
  obtain ⟨hg, hn, hs⟩ := hr
  unfold begun at hb
  simp only [command, run, hn, Bool.false_eq_true, if_false, hg, if_true]
  cases hk : secCheck h (Cmd.opcode c) (takeUp h s) with
  | mk st s1 =>
    rw [hk] at hs hb
    simp only at hs hb
    subst hs
    simp only [hb]

/-- A command that runs at once and whose body fails is answered with the status. -/
theorem command_fails {h : Hdr} {c : Cmd} {s t : State} {st : Status} (hr : runsNow h c s)
    (hb : bodyOf h c (begun h c s) = (some { status := st }, t)) :
    command h c s = sendReply h (Cmd.opcode c) { status := st } t := by
  obtain ⟨hg, hn, hs⟩ := hr
  unfold begun at hb
  simp only [command, run, hn, Bool.false_eq_true, if_false, hg, if_true]
  cases hk : secCheck h (Cmd.opcode c) (takeUp h s) with
  | mk st' s1 =>
    rw [hk] at hs hb
    simp only at hs hb
    subst hs
    simp only [hb]

/-- A command that runs at once and replies later stays open. -/
theorem command_later {h : Hdr} {c : Cmd} {s t : State} (hr : runsNow h c s)
    (hb : bodyOf h c (begun h c s) = (none, t)) : command h c s = keepOpen h c t := by
  obtain ⟨hg, hn, hs⟩ := hr
  unfold begun at hb
  simp only [command, run, hn, Bool.false_eq_true, if_false, hg, if_true]
  cases hk : secCheck h (Cmd.opcode c) (takeUp h s) with
  | mk st' s1 =>
    rw [hk] at hs hb
    simp only at hs hb
    subst hs
    simp only [hb]

/-- A command that is not ready is answered NOT_READY (R254, R305, R327). -/
theorem command_notReady {h : Hdr} {c : Cmd} {s : State} (hn : notReady (Cmd.opcode c) (takeUp h s) = true) :
    command h c s = sendReply h (Cmd.opcode c) { status := .notReady } (takeUp h s) := by
  simp only [command, run, hn, if_true]

/-- Taking a command up changes only the command channel (R249, R250, R254). -/
theorem takeUp_eq (h : Hdr) (s : State) : takeUp h s = { s with cmd := (takeUp h s).cmd } := by
  unfold takeUp
  cases h.transport <;> simp [replayKey, modCmd]

/-- A command that is not security-relevant finds its state as it was taken (R247). -/
theorem begun_plain {h : Hdr} {c : Cmd} {s : State} (hs : secRelevant (Cmd.opcode c) = false) :
    begun h c s = takeUp h s := by
  unfold begun secCheck
  split
  · rfl
  · simp [hs]

/-- A row that starts a Palgil command completes as its body says. -/
theorem completes_of {i : Instr} {h : Hdr} {c : Cmd} {o : Nat} {s t : State} {d : List Nat} {P : State → Prop}
    (hr : runsNow h c s) (he : exec i s = .next (command h c s)) (ho : Cmd.opcode c = o)
    (hb : bodyOf h c (begun h c s) = (some { data := d }, t)) (hp : P t) : completes i h o s P :=
  ⟨d, t, by rw [he, command_runs hr hb, ho], hp⟩

/-- The same for a command that is not security-relevant. -/
theorem completes_plain {i : Instr} {h : Hdr} {c : Cmd} {o : Nat} {s t : State} {d : List Nat} {P : State → Prop}
    (hr : runsNow h c s) (he : exec i s = .next (command h c s)) (ho : Cmd.opcode c = o) (hs : secRelevant o = false)
    (hb : bodyOf h c (takeUp h s) = (some { data := d }, t)) (hp : P t) : completes i h o s P :=
  completes_of hr he ho (by rw [begun_plain (by rw [ho]; exact hs)]; exact hb) hp

/-- A row whose body fails and changes nothing. -/
theorem failsWith_plain {i : Instr} {h : Hdr} {c : Cmd} {o : Nat} {s : State} {st : Status}
    (hr : runsNow h c s) (he : exec i s = .next (command h c s)) (ho : Cmd.opcode c = o) (hs : secRelevant o = false)
    (hb : bodyOf h c (takeUp h s) = (some { status := st }, takeUp h s)) : failsWith i h o st s := by
  unfold failsWith
  rw [he, command_fails hr (by rw [begun_plain (by rw [ho]; exact hs)]; exact hb), ho]

set_option Elab.async false

/-! Components that taking a command up leaves alone. -/

@[simp] theorem takeUp_fuses (h : Hdr) (s : State) : (takeUp h s).fuses = s.fuses := by rw [takeUp_eq]
@[simp] theorem takeUp_dev (h : Hdr) (s : State) : (takeUp h s).dev = s.dev := by rw [takeUp_eq]
@[simp] theorem takeUp_clk (h : Hdr) (s : State) : (takeUp h s).clk = s.clk := by rw [takeUp_eq]
@[simp] theorem takeUp_time (h : Hdr) (s : State) : (takeUp h s).time = s.time := by rw [takeUp_eq]
@[simp] theorem takeUp_tio (h : Hdr) (s : State) : (takeUp h s).tio = s.tio := by rw [takeUp_eq]
@[simp] theorem takeUp_carriers (h : Hdr) (s : State) : (takeUp h s).carriers = s.carriers := by rw [takeUp_eq]
@[simp] theorem takeUp_reg (h : Hdr) (s : State) : (takeUp h s).reg = s.reg := by rw [takeUp_eq]
@[simp] theorem takeUp_down (h : Hdr) (s : State) : (takeUp h s).down = s.down := by rw [takeUp_eq]
@[simp] theorem takeUp_mch (h : Hdr) (s : State) : (takeUp h s).mch = s.mch := by rw [takeUp_eq]
@[simp] theorem takeUp_trib (h : Hdr) (s : State) : (takeUp h s).trib = s.trib := by rw [takeUp_eq]
@[simp] theorem takeUp_cls (h : Hdr) (s : State) : (takeUp h s).cls = s.cls := by rw [takeUp_eq]
@[simp] theorem takeUp_q (h : Hdr) (s : State) : (takeUp h s).q = s.q := by rw [takeUp_eq]
@[simp] theorem takeUp_lanes (h : Hdr) (s : State) : (takeUp h s).lanes = s.lanes := by rw [takeUp_eq]
@[simp] theorem takeUp_refs (h : Hdr) (s : State) : (takeUp h s).refs = s.refs := by rw [takeUp_eq]
@[simp] theorem takeUp_die (h : Hdr) (s : State) : (takeUp h s).die = s.die := by rw [takeUp_eq]
@[simp] theorem takeUp_ports (h : Hdr) (s : State) : (takeUp h s).ports = s.ports := by rw [takeUp_eq]
@[simp] theorem takeUp_snaps (h : Hdr) (s : State) : (takeUp h s).snaps = s.snaps := by rw [takeUp_eq]
@[simp] theorem takeUp_sec (h : Hdr) (s : State) : (takeUp h s).sec = s.sec := by rw [takeUp_eq]
@[simp] theorem takeUp_groups (h : Hdr) (s : State) : (takeUp h s).groups = s.groups := by rw [takeUp_eq]
@[simp] theorem takeUp_eng (h : Hdr) (s : State) : (takeUp h s).eng = s.eng := by rw [takeUp_eq]
@[simp] theorem takeUp_evc (h : Hdr) (s : State) : (takeUp h s).evc = s.evc := by rw [takeUp_eq]
@[simp] theorem takeUp_pmc (h : Hdr) (s : State) : (takeUp h s).pmc = s.pmc := by rw [takeUp_eq]
@[simp] theorem takeUp_pwr (h : Hdr) (s : State) : (takeUp h s).pwr = s.pwr := by rw [takeUp_eq]
@[simp] theorem takeUp_out (h : Hdr) (s : State) : (takeUp h s).out = s.out := by rw [takeUp_eq]
@[simp] theorem takeUp_pending (h : Hdr) (s : State) : (takeUp h s).pending = s.pending := by rw [takeUp_eq]

/-! Accessors of a command just taken. -/

@[simp] theorem takeUp_carrier (h : Hdr) (s : State) (n : Nat) : (takeUp h s).carrier n = s.carrier n := by simp [State.carrier]
@[simp] theorem takeUp_port (h : Hdr) (s : State) (n : Nat) : (takeUp h s).port n = s.port n := by simp [State.port]
@[simp] theorem takeUp_lane (h : Hdr) (s : State) (n : Nat) : (takeUp h s).lane n = s.lane n := by simp [State.lane]
@[simp] theorem takeUp_assoc (h : Hdr) (s : State) (n : Nat) : (takeUp h s).assoc n = s.assoc n := by simp [State.assoc]
@[simp] theorem takeUp_channel (h : Hdr) (s : State) (n : Nat) : (takeUp h s).channel n = s.channel n := by simp [State.channel]
@[simp] theorem takeUp_grp (h : Hdr) (s : State) (n : Nat) : (takeUp h s).grp n = s.grp n := by simp [State.grp]
@[simp] theorem takeUp_queue (h : Hdr) (s : State) (n : Nat) : (takeUp h s).queue n = s.queue n := by simp [State.queue]
@[simp] theorem takeUp_variant (h : Hdr) (s : State) : (takeUp h s).variant = s.variant := by simp [State.variant]
@[simp] theorem takeUp_hasPort (h : Hdr) (s : State) (n : Nat) : (takeUp h s).hasPort n = s.hasPort n := by simp [State.hasPort]
@[simp] theorem takeUp_hasCarrier (h : Hdr) (s : State) (n : Nat) : (takeUp h s).hasCarrier n = s.hasCarrier n := by
  simp [State.hasCarrier]

end Sys2Proof.Machine
end

