-- ==== Sys2Proof/Laws/Kept.lean ====
section
/-! SUPPORT. The shared operations keep the fuses, local time and the queue of waiting commands: one lemma for each.
The operations without one are those that do not: a boot that raises the fused minimum, the seed stage, an enrolment, a
firmware load in recovery, a tick (its lemma says what it adds), and what runs an arbitrary command. -/

namespace Sys2Proof.Machine

/-- What almost no operation touches: the fuses, local time, and the queue of waiting commands. -/
def kept (s : State) : Fuses × Instant × List Instr := (s.fuses, s.clk.now, s.pending)
/-- `kept` of a state given by its fields. -/
theorem kept_upd (a b c d e f g h i j k l m n o p q r t u v w x y z aa) :
  kept ⟨a,b,c,d,e,f,g,h,i,j,k,l,m,n,o,p,q,r,t,u,v,w,x,y,z,aa⟩ = (a, c.now, aa) := rfl
theorem fuses_kept (s : State) : s.fuses = (kept s).1 := rfl
theorem now_kept (s : State) : s.clk.now = (kept s).2.1 := rfl
theorem pending_kept (s : State) : s.pending = (kept s).2.2 := rfl
@[simp] theorem kept_foldl {α : Type} (l : List α) (g : State → α → State) (h : ∀ s a, kept (g s a) = kept s) (s : State) :
    kept (l.foldl g s) = kept s := by
  induction l generalizing s with
  | nil => rfl
  | cons a l ih => simp only [List.foldl_cons]; rw [ih, h]
@[simp] theorem kept_foldl2 {α β : Type} (l : List α) (g : β × State → α → β × State) (h : ∀ p a, kept (g p a).2 = kept p.2)
    (p : β × State) : kept (l.foldl g p).2 = kept p.2 := by
  induction l generalizing p with
  | nil => rfl
  | cons a l ih => simp only [List.foldl_cons]; rw [ih, h]
@[simp] theorem kept_iter (f : State → State) (h : ∀ s, kept (f s) = kept s) (n : Nat) (s : State) : kept (iter f n s) = kept s := by
  induction n generalizing s with
  | zero => rfl
  | succ n ih => rw [iter, ih, h]
@[simp] theorem kept_ite {c : Prop} [Decidable c] (a b : State) : kept (if c then a else b) = if c then kept a else kept b := by split <;> rfl
@[simp] theorem kept_ite2 {α : Type} {c : Prop} [Decidable c] (a b : α × State) : kept (if c then a else b).2 = if c then kept a.2 else kept b.2 := by split <;> rfl

@[simp] theorem draw_kept (s : State) : kept (draw s).2 = kept s := by
  simp only [draw]
  repeat' split
  all_goals (try simp [kept_upd, fuses_kept, now_kept, pending_kept])
  all_goals (try rfl)

@[simp] theorem emit_kept (a0 : Output) (s : State) : kept (emit a0 s) = kept s := by
  simp only [emit]
  repeat' split
  all_goals (try simp [kept_upd, fuses_kept, now_kept, pending_kept])
  all_goals (try rfl)

@[simp] theorem sendMsix_kept (a0 : Nat) (s : State) : kept (sendMsix a0 s) = kept s := by
  simp only [sendMsix]
  repeat' split
  all_goals (try simp [kept_upd, fuses_kept, now_kept, pending_kept])
  all_goals (try rfl)

@[simp] theorem fire_kept (a0 : Nat) (s : State) : kept (fire a0 s) = kept s := by
  simp only [fire]
  repeat' split
  all_goals (try simp [kept_upd, fuses_kept, now_kept, pending_kept])
  all_goals (try rfl)

@[simp] theorem quiet_kept (a0 : Nat) (s : State) : kept (quiet a0 s) = kept s := by
  simp only [quiet]
  repeat' split
  all_goals (try simp [kept_upd, fuses_kept, now_kept, pending_kept])
  all_goals (try rfl)

@[simp] theorem quietAll_kept (s : State) : kept (quietAll s) = kept s := by
  simp only [quietAll]
  repeat' split
  all_goals (try simp [kept_upd, fuses_kept, now_kept, pending_kept])
  all_goals (try rfl)

@[simp] theorem arrive_kept (a0 : Nat) (s : State) : kept (arrive a0 s) = kept s := by
  simp only [arrive]
  repeat' split
  all_goals (try simp [kept_upd, fuses_kept, now_kept, pending_kept])
  all_goals (try rfl)

@[simp] theorem nest_kept (a0 : Evc) (a1 : Nat) (s : State) : kept (nest a0 a1 s) = kept s := by
  simp only [nest]
  repeat' split
  all_goals (try simp [kept_upd, fuses_kept, now_kept, pending_kept])
  all_goals (try rfl)

@[simp] theorem land_kept (a0 : Nat) (s : State) : kept (land a0 s) = kept s := by
  simp only [land]
  repeat' split
  all_goals (try simp [kept_upd, fuses_kept, now_kept, pending_kept])
  all_goals (try rfl)

@[simp] theorem raiseOn_kept (a0 : Bool) (a1 : Nat) (s : State) : kept (raiseOn a0 a1 s) = kept s := by
  simp only [raiseOn]
  repeat' split
  all_goals (try simp [kept_upd, fuses_kept, now_kept, pending_kept])
  all_goals (try rfl)

@[simp] theorem raise_kept (a0 : Nat) (s : State) : kept (raise a0 s) = kept s := by
  simp only [raise]
  repeat' split
  all_goals (try simp [kept_upd, fuses_kept, now_kept, pending_kept])
  all_goals (try rfl)

@[simp] theorem raiseOnceKey_kept (a0 : Nat) (a1 : Nat) (s : State) : kept (raiseOnceKey a0 a1 s) = kept s := by
  simp only [raiseOnceKey]
  repeat' split
  all_goals (try simp [kept_upd, fuses_kept, now_kept, pending_kept])
  all_goals (try rfl)

@[simp] theorem raiseOnce_kept (a0 : Nat) (s : State) : kept (raiseOnce a0 s) = kept s := by
  simp only [raiseOnce]
  repeat' split
  all_goals (try simp [kept_upd, fuses_kept, now_kept, pending_kept])
  all_goals (try rfl)

@[simp] theorem setLevel_kept (a0 : Nat) (a1 : Bool) (s : State) : kept (setLevel a0 a1 s) = kept s := by
  simp only [setLevel]
  repeat' split
  all_goals (try simp [kept_upd, fuses_kept, now_kept, pending_kept])
  all_goals (try rfl)

@[simp] theorem holdRising_kept (a0 : Nat) (s : State) : kept (holdRising a0 s) = kept s := by
  simp only [holdRising]
  repeat' split
  all_goals (try simp [kept_upd, fuses_kept, now_kept, pending_kept])
  all_goals (try rfl)

@[simp] theorem syncReply_kept (s : State) : kept (syncReply s) = kept s := by
  simp only [syncReply]
  repeat' split
  all_goals (try simp [kept_upd, fuses_kept, now_kept, pending_kept])
  all_goals (try rfl)

@[simp] theorem syncCap_kept (a0 : Nat) (s : State) : kept (syncCap a0 s) = kept s := by
  simp only [syncCap]
  repeat' split
  all_goals (try simp [kept_upd, fuses_kept, now_kept, pending_kept])
  all_goals (try rfl)

@[simp] theorem syncTs_kept (s : State) : kept (syncTs s) = kept s := by
  simp only [syncTs]
  repeat' split
  all_goals (try simp [kept_upd, fuses_kept, now_kept, pending_kept])
  all_goals (try rfl)

@[simp] theorem syncEx_kept (s : State) : kept (syncEx s) = kept s := by
  simp only [syncEx]
  repeat' split
  all_goals (try simp [kept_upd, fuses_kept, now_kept, pending_kept])
  all_goals (try rfl)

@[simp] theorem syncLog_kept (s : State) : kept (syncLog s) = kept s := by
  simp only [syncLog]
  repeat' split
  all_goals (try simp [kept_upd, fuses_kept, now_kept, pending_kept])
  all_goals (try rfl)

@[simp] theorem syncWarn_kept (s : State) : kept (syncWarn s) = kept s := by
  simp only [syncWarn]
  repeat' split
  all_goals (try simp [kept_upd, fuses_kept, now_kept, pending_kept])
  all_goals (try rfl)

@[simp] theorem setCarrier_kept (a0 : Nat) (a1 : Carrier) (s : State) : kept (setCarrier a0 a1 s) = kept s := by
  simp only [setCarrier]
  repeat' split
  all_goals (try simp [kept_upd, fuses_kept, now_kept, pending_kept])
  all_goals (try rfl)

@[simp] theorem setPort_kept (a0 : Nat) (a1 : Port) (s : State) : kept (setPort a0 a1 s) = kept s := by
  simp only [setPort]
  repeat' split
  all_goals (try simp [kept_upd, fuses_kept, now_kept, pending_kept])
  all_goals (try rfl)

@[simp] theorem setLane_kept (a0 : Nat) (a1 : Lane) (s : State) : kept (setLane a0 a1 s) = kept s := by
  simp only [setLane]
  repeat' split
  all_goals (try simp [kept_upd, fuses_kept, now_kept, pending_kept])
  all_goals (try rfl)

@[simp] theorem setAssoc_kept (a0 : Nat) (a1 : Assoc) (s : State) : kept (setAssoc a0 a1 s) = kept s := by
  simp only [setAssoc]
  repeat' split
  all_goals (try simp [kept_upd, fuses_kept, now_kept, pending_kept])
  all_goals (try rfl)

@[simp] theorem setChannel_kept (a0 : Nat) (a1 : Mch) (s : State) : kept (setChannel a0 a1 s) = kept s := by
  simp only [setChannel]
  repeat' split
  all_goals (try simp [kept_upd, fuses_kept, now_kept, pending_kept])
  all_goals (try rfl)

@[simp] theorem setGrp_kept (a0 : Nat) (a1 : Group) (s : State) : kept (setGrp a0 a1 s) = kept s := by
  simp only [setGrp]
  repeat' split
  all_goals (try simp [kept_upd, fuses_kept, now_kept, pending_kept])
  all_goals (try rfl)

@[simp] theorem setQueue_kept (a0 : Nat) (a1 : Option Queue) (s : State) : kept (setQueue a0 a1 s) = kept s := by
  simp only [setQueue]
  repeat' split
  all_goals (try simp [kept_upd, fuses_kept, now_kept, pending_kept])
  all_goals (try rfl)

@[simp] theorem modCarrier_kept (a0 : Nat) (a1 : Carrier → Carrier) (s : State) : kept (modCarrier a0 a1 s) = kept s := by
  simp only [modCarrier]
  repeat' split
  all_goals (try simp [kept_upd, fuses_kept, now_kept, pending_kept])
  all_goals (try rfl)

@[simp] theorem modPort_kept (a0 : Nat) (a1 : Port → Port) (s : State) : kept (modPort a0 a1 s) = kept s := by
  simp only [modPort]
  repeat' split
  all_goals (try simp [kept_upd, fuses_kept, now_kept, pending_kept])
  all_goals (try rfl)

@[simp] theorem modLane_kept (a0 : Nat) (a1 : Lane → Lane) (s : State) : kept (modLane a0 a1 s) = kept s := by
  simp only [modLane]
  repeat' split
  all_goals (try simp [kept_upd, fuses_kept, now_kept, pending_kept])
  all_goals (try rfl)

@[simp] theorem modAssoc_kept (a0 : Nat) (a1 : Assoc → Assoc) (s : State) : kept (modAssoc a0 a1 s) = kept s := by
  simp only [modAssoc]
  repeat' split
  all_goals (try simp [kept_upd, fuses_kept, now_kept, pending_kept])
  all_goals (try rfl)

@[simp] theorem modChannel_kept (a0 : Nat) (a1 : Mch → Mch) (s : State) : kept (modChannel a0 a1 s) = kept s := by
  simp only [modChannel]
  repeat' split
  all_goals (try simp [kept_upd, fuses_kept, now_kept, pending_kept])
  all_goals (try rfl)

@[simp] theorem modGrp_kept (a0 : Nat) (a1 : Group → Group) (s : State) : kept (modGrp a0 a1 s) = kept s := by
  simp only [modGrp]
  repeat' split
  all_goals (try simp [kept_upd, fuses_kept, now_kept, pending_kept])
  all_goals (try rfl)

@[simp] theorem modStats_kept (a0 : Nat) (a1 : PortStats → PortStats) (s : State) : kept (modStats a0 a1 s) = kept s := by
  simp only [modStats]
  repeat' split
  all_goals (try simp [kept_upd, fuses_kept, now_kept, pending_kept])
  all_goals (try rfl)

@[simp] theorem forEach_kept (l : List Nat) (f : Nat → State → State) (s : State) (h : ∀ n s, kept (f n s) = kept s) :
    kept (forEach l f s) = kept s := kept_foldl _ _ (fun s a => h a s) _

@[simp] theorem newId_kept (s : State) : kept (newId s).2 = kept s := by
  simp only [newId]
  repeat' split
  all_goals (try simp [kept_upd, fuses_kept, now_kept, pending_kept])
  all_goals (try rfl)

@[simp] theorem notePower_kept (s : State) (s1 : State) : kept (notePower s s1) = kept s1 := by
  simp only [notePower]
  repeat' split
  all_goals (try simp [kept_upd, fuses_kept, now_kept, pending_kept])
  all_goals (try rfl)

@[simp] theorem startWake_kept (s : State) : kept (startWake s) = kept s := by
  simp only [startWake]
  repeat' split
  all_goals (try simp [kept_upd, fuses_kept, now_kept, pending_kept])
  all_goals (try rfl)

@[simp] theorem wakeBy_kept (a0 : Nat) (s : State) : kept (wakeBy a0 s) = kept s := by
  simp only [wakeBy]
  repeat' split
  all_goals (try simp [kept_upd, fuses_kept, now_kept, pending_kept])
  all_goals (try rfl)

@[simp] theorem awakeRead_kept (s t : State) (h : kept t = kept s) : kept (awakeRead s t) = kept s := by
  simp only [awakeRead]; split
  · simp
  · exact h

@[simp] theorem awake_kept (s t : State) (h : kept t = kept s) : kept (awake s t) = kept s := by
  simp only [awake]; split
  · rfl
  · exact h

@[simp] theorem okData_kept (a0 : List Nat) (s : State) : kept (okData a0 s).2 = kept s := by
  simp only [okData]
  repeat' split
  all_goals (try simp [kept_upd, fuses_kept, now_kept, pending_kept])
  all_goals (try rfl)

@[simp] theorem okNone_kept (s : State) : kept (okNone s).2 = kept s := by
  simp only [okNone]
  repeat' split
  all_goals (try simp [kept_upd, fuses_kept, now_kept, pending_kept])
  all_goals (try rfl)

@[simp] theorem fail_kept (a0 : Status) (s : State) : kept (fail a0 s).2 = kept s := by
  simp only [fail]
  repeat' split
  all_goals (try simp [kept_upd, fuses_kept, now_kept, pending_kept])
  all_goals (try rfl)

@[simp] theorem later_kept (s : State) : kept (later s).2 = kept s := by
  simp only [later]
  repeat' split
  all_goals (try simp [kept_upd, fuses_kept, now_kept, pending_kept])
  all_goals (try rfl)

@[simp] theorem require_kept (ok : Bool) (st : Status) (k : Body) (s : State) (h : kept (k s).2 = kept s) :
    kept (require ok st k s).2 = kept s := by
  simp only [require]; split
  · exact h
  · simp

@[simp] theorem egressPush_kept (a0 : Nat) (a1 : Nat) (a2 : EgFrame) (s : State) : kept (egressPush a0 a1 a2 s) = kept s := by
  simp only [egressPush]
  repeat' split
  all_goals (try simp [kept_upd, fuses_kept, now_kept, pending_kept])
  all_goals (try rfl)

@[simp] theorem wakePort_kept (a0 : Nat) (s : State) : kept (wakePort a0 s) = kept s := by
  simp only [wakePort]
  repeat' split
  all_goals (try simp [kept_upd, fuses_kept, now_kept, pending_kept])
  all_goals (try rfl)

@[simp] theorem offered_kept (a0 : Nat) (s : State) : kept (offered a0 s) = kept s := by
  simp only [offered]
  repeat' split
  all_goals (try simp [kept_upd, fuses_kept, now_kept, pending_kept])
  all_goals (try rfl)

@[simp] theorem storeReply_kept (a0 : Reply) (s : State) : kept (storeReply a0 s) = kept s := by
  simp only [storeReply]
  repeat' split
  all_goals (try simp [kept_upd, fuses_kept, now_kept, pending_kept])
  all_goals (try rfl)

@[simp] theorem deliver_kept (a0 : Hdr) (a1 : Reply) (s : State) : kept (deliver a0 a1 s) = kept s := by
  simp only [deliver]
  repeat' split
  all_goals (try simp [kept_upd, fuses_kept, now_kept, pending_kept])
  all_goals (try rfl)

@[simp] theorem answer_kept (a0 : Bool) (a1 : Hdr) (a2 : Nat) (a3 : Ans) (s : State) : kept (answer a0 a1 a2 a3 s) = kept s := by
  simp only [answer]
  repeat' split
  all_goals (try simp [kept_upd, fuses_kept, now_kept, pending_kept])
  all_goals (try rfl)

@[simp] theorem sendReply_kept (a0 : Hdr) (a1 : Nat) (a2 : Ans) (s : State) : kept (sendReply a0 a1 a2 s) = kept s := by
  simp only [sendReply]
  repeat' split
  all_goals (try simp [kept_upd, fuses_kept, now_kept, pending_kept])
  all_goals (try rfl)

@[simp] theorem consume_kept (a0 : Ident) (s : State) : kept (consume a0 s) = kept s := by
  simp only [consume]
  repeat' split
  all_goals (try simp [kept_upd, fuses_kept, now_kept, pending_kept])
  all_goals (try rfl)

@[simp] theorem secCheck_kept (a0 : Hdr) (a1 : Nat) (s : State) : kept (secCheck a0 a1 s).2 = kept s := by
  simp only [secCheck]
  repeat' split
  all_goals (try simp [kept_upd, fuses_kept, now_kept, pending_kept])
  all_goals (try rfl)

@[simp] theorem regate_kept (a0 : Nat) (s : State) : kept (regate a0 s) = kept s := by
  simp only [regate]
  repeat' split
  all_goals (try simp [kept_upd, fuses_kept, now_kept, pending_kept])
  all_goals (try rfl)

@[simp] theorem regateAll_kept (s : State) : kept (regateAll s) = kept s := by
  simp only [regateAll]
  repeat' split
  all_goals (try simp [kept_upd, fuses_kept, now_kept, pending_kept])
  all_goals (try rfl)

@[simp] theorem eraseStagedKey_kept (a0 : Nat) (s : State) : kept (eraseStagedKey a0 s) = kept s := by
  simp only [eraseStagedKey]
  repeat' split
  all_goals (try simp [kept_upd, fuses_kept, now_kept, pending_kept])
  all_goals (try rfl)

@[simp] theorem eraseStagedKeys_kept (l : List Staged) (s : State) : kept (eraseStagedKeys l s) = kept s := by
  apply kept_foldl
  intro s a
  split <;> simp

@[simp] theorem modCls_kept (a0 : Classifier → Classifier) (s : State) : kept (modCls a0 s) = kept s := by
  simp only [modCls]
  repeat' split
  all_goals (try simp [kept_upd, fuses_kept, now_kept, pending_kept])
  all_goals (try rfl)

@[simp] theorem releaseSlot_kept (s : State) : kept (releaseSlot s) = kept s := by
  simp only [releaseSlot]
  repeat' split
  all_goals (try simp [kept_upd, fuses_kept, now_kept, pending_kept])
  all_goals (try rfl)

@[simp] theorem abortGroup_kept (a0 : Nat) (a1 : Status) (a2 : Nat) (s : State) : kept (abortGroup a0 a1 a2 s) = kept s := by
  simp only [abortGroup]
  repeat' split
  all_goals (try simp [kept_upd, fuses_kept, now_kept, pending_kept])
  all_goals (try rfl)

@[simp] theorem onInvalid_kept (s : State) : kept (onInvalid s) = kept s := by
  simp only [onInvalid]
  repeat' split
  all_goals (try simp [kept_upd, fuses_kept, now_kept, pending_kept])
  all_goals (try rfl)

@[simp] theorem holdOutputs_kept (s : State) : kept (holdOutputs s) = kept s := by
  simp only [holdOutputs]
  repeat' split
  all_goals (try simp [kept_upd, fuses_kept, now_kept, pending_kept])
  all_goals (try rfl)

@[simp] theorem noteTime_kept (s : State) (s1 : State) : kept (noteTime s s1) = kept s1 := by
  simp only [noteTime]
  repeat' split
  all_goals (try simp [kept_upd, fuses_kept, now_kept, pending_kept])
  all_goals (try rfl)

@[simp] theorem setFlag_kept (a0 : Nat) (s : State) : kept (setFlag a0 s) = kept s := by
  simp only [setFlag]
  repeat' split
  all_goals (try simp [kept_upd, fuses_kept, now_kept, pending_kept])
  all_goals (try rfl)

@[simp] theorem noteStep_kept (s : State) : kept (noteStep s) = kept s := by
  simp only [noteStep]
  repeat' split
  all_goals (try simp [kept_upd, fuses_kept, now_kept, pending_kept])
  all_goals (try rfl)

@[simp] theorem applyDown_kept (a0 : Int) (s : State) : kept (applyDown a0 s) = kept s := by
  simp only [applyDown]
  repeat' split
  all_goals (try simp [kept_upd, fuses_kept, now_kept, pending_kept])
  all_goals (try rfl)

@[simp] theorem rerange_kept (s : State) : kept (rerange s) = kept s := by
  simp only [rerange]
  repeat' split
  all_goals (try simp [kept_upd, fuses_kept, now_kept, pending_kept])
  all_goals (try rfl)

@[simp] theorem rangeFrom_kept (a0 : Nat) (s : State) : kept (rangeFrom a0 s) = kept s := by
  simp only [rangeFrom]
  repeat' split
  all_goals (try simp [kept_upd, fuses_kept, now_kept, pending_kept])
  all_goals (try rfl)

@[simp] theorem retime_kept (s : State) : kept (retime s) = kept s := by
  simp only [retime]
  repeat' split
  all_goals (try simp [kept_upd, fuses_kept, now_kept, pending_kept])
  all_goals (try rfl)

@[simp] theorem enterTrack_kept (s : State) : kept (enterTrack s) = kept s := by
  simp only [enterTrack]
  repeat' split
  all_goals (try simp [kept_upd, fuses_kept, now_kept, pending_kept])
  all_goals (try rfl)

@[simp] theorem enterHoldover_kept (s : State) : kept (enterHoldover s) = kept s := by
  simp only [enterHoldover]
  repeat' split
  all_goals (try simp [kept_upd, fuses_kept, now_kept, pending_kept])
  all_goals (try rfl)

@[simp] theorem enterFree_kept (s : State) : kept (enterFree s) = kept s := by
  simp only [enterFree]
  repeat' split
  all_goals (try simp [kept_upd, fuses_kept, now_kept, pending_kept])
  all_goals (try rfl)

@[simp] theorem stepReceived_kept (a0 : Int) (s : State) : kept (stepReceived a0 s) = kept s := by
  simp only [stepReceived]
  repeat' split
  all_goals (try simp [kept_upd, fuses_kept, now_kept, pending_kept])
  all_goals (try rfl)

@[simp] theorem learn_kept (s : State) : kept (learn s) = kept s := by
  simp only [learn]
  repeat' split
  all_goals (try simp [kept_upd, fuses_kept, now_kept, pending_kept])
  all_goals (try rfl)

@[simp] theorem adoptStamps_kept (a0 : List Int) (s : State) : kept (adoptStamps a0 s) = kept s := by
  simp only [adoptStamps]
  repeat' split
  all_goals (try simp [kept_upd, fuses_kept, now_kept, pending_kept])
  all_goals (try rfl)

@[simp] theorem modTout_kept (a0 : Nat) (a1 : Tout → Tout) (s : State) : kept (modTout a0 a1 s) = kept s := by
  simp only [modTout]
  repeat' split
  all_goals (try simp [kept_upd, fuses_kept, now_kept, pending_kept])
  all_goals (try rfl)

@[simp] theorem takeOutputs_kept (s : State) : kept (takeOutputs s) = kept s := by
  simp only [takeOutputs]
  repeat' split
  all_goals (try simp [kept_upd, fuses_kept, now_kept, pending_kept])
  all_goals (try rfl)

@[simp] theorem tickOutputs_kept (s : State) : kept (tickOutputs s) = kept s := by
  simp only [tickOutputs]
  repeat' split
  all_goals (try simp [kept_upd, fuses_kept, now_kept, pending_kept])
  all_goals (try rfl)

@[simp] theorem driveEdge_kept (a0 : TimeOut) (a1 : Instant) (a2 : Bool) (s : State) : kept (driveEdge a0 a1 a2 s) = kept s := by
  simp only [driveEdge]
  repeat' split
  all_goals (try simp [kept_upd, fuses_kept, now_kept, pending_kept])
  all_goals (try rfl)

@[simp] theorem modCap_kept (a0 : Nat) (a1 : Capture → Capture) (s : State) : kept (modCap a0 a1 s) = kept s := by
  simp only [modCap]
  repeat' split
  all_goals (try simp [kept_upd, fuses_kept, now_kept, pending_kept])
  all_goals (try rfl)

@[simp] theorem popCap_kept (a0 : Nat) (s : State) : kept (popCap a0 s) = kept s := by
  simp only [popCap]
  repeat' split
  all_goals (try simp [kept_upd, fuses_kept, now_kept, pending_kept])
  all_goals (try rfl)

@[simp] theorem tpReg_kept (a0 : Nat) (a1 : Word) (s : State) : kept (tpReg a0 a1 s) = kept s := by
  simp only [tpReg]
  repeat' split
  all_goals (try simp [kept_upd, fuses_kept, now_kept, pending_kept])
  all_goals (try rfl)

@[simp] theorem doTimeStatus_kept (s : State) : kept (doTimeStatus s).2 = kept s := by
  simp only [doTimeStatus]
  repeat' split
  all_goals (try simp [kept_upd, fuses_kept, now_kept, pending_kept])
  all_goals (try rfl)

@[simp] theorem doTimeCapture_kept (i m : Nat) (s : State) : kept (doTimeCapture i m s).2 = kept s := by
  apply require_kept
  simp [kept_iter]

@[simp] theorem doTimeCaptureConfig_kept (a0 : Nat) (a1 : Bool) (a2 : Bool) (s : State) : kept (doTimeCaptureConfig a0 a1 a2 s).2 = kept s := by
  simp only [doTimeCaptureConfig]
  repeat' split
  all_goals (try simp [kept_upd, fuses_kept, now_kept, pending_kept])
  all_goals (try rfl)

@[simp] theorem doTimeOutputSet_kept (a0 : OutputParams) (s : State) : kept (doTimeOutputSet a0 s).2 = kept s := by
  simp only [doTimeOutputSet]
  repeat' split
  all_goals (try simp [kept_upd, fuses_kept, now_kept, pending_kept])
  all_goals (try rfl)

@[simp] theorem doTimeSplitSet_kept (a0 : Nat) (s : State) : kept (doTimeSplitSet a0 s).2 = kept s := by
  simp only [doTimeSplitSet]
  repeat' split
  all_goals (try simp [kept_upd, fuses_kept, now_kept, pending_kept])
  all_goals (try rfl)

@[simp] theorem doTimeAsymmetrySet_kept (a0 : Int) (a1 : Bool) (s : State) : kept (doTimeAsymmetrySet a0 a1 s).2 = kept s := by
  simp only [doTimeAsymmetrySet]
  repeat' split
  all_goals (try simp [kept_upd, fuses_kept, now_kept, pending_kept])
  all_goals (try rfl)

@[simp] theorem doTimeHoldoverSet_kept (a0 : Nat) (a1 : Nat) (a2 : Nat) (a3 : Bool) (s : State) : kept (doTimeHoldoverSet a0 a1 a2 a3 s).2 = kept s := by
  simp only [doTimeHoldoverSet]
  repeat' split
  all_goals (try simp [kept_upd, fuses_kept, now_kept, pending_kept])
  all_goals (try rfl)

@[simp] theorem doTimePtpSet_kept (p : Nat) (e : Bool) (d : Nat) (a t : Bool) (s : State) : kept (doTimePtpSet p e d a t s).2 = kept s := by
  apply require_kept
  apply require_kept
  rfl

@[simp] theorem doTimeSynceSet_kept (p : Nat) (e : Bool) (a b : Nat) (s : State) : kept (doTimeSynceSet p e a b s).2 = kept s := by
  apply require_kept
  apply require_kept
  rfl

@[simp] theorem doTimeCarrierSet_kept (a0 : Option Nat) (s : State) : kept (doTimeCarrierSet a0 s).2 = kept s := by
  simp only [doTimeCarrierSet]
  repeat' split
  all_goals (try simp [kept_upd, fuses_kept, now_kept, pending_kept])
  all_goals (try rfl)

theorem tickTime_kept (s : State) : kept (tickTime s) = ((kept s).1, (kept s).2.1 + tick, (kept s).2.2) := by
  simp only [tickTime]
  repeat' split
  all_goals (try simp [kept_upd, fuses_kept, now_kept, pending_kept])
  all_goals (try rfl)

@[simp] theorem pmcWrapped_kept (a0 : Nat) (s : State) : kept (pmcWrapped a0 s) = kept s := by
  simp only [pmcWrapped]
  repeat' split
  all_goals (try simp [kept_upd, fuses_kept, now_kept, pending_kept])
  all_goals (try rfl)

@[simp] theorem pmcAddOne_kept (a0 : Nat) (a1 : Nat) (s : State) : kept (pmcAddOne a0 a1 s) = kept s := by
  simp only [pmcAddOne]
  repeat' split
  all_goals (try simp [kept_upd, fuses_kept, now_kept, pending_kept])
  all_goals (try rfl)

@[simp] theorem pmcAdd_kept (a0 : Nat) (a1 : Nat) (s : State) : kept (pmcAdd a0 a1 s) = kept s := by
  simp only [pmcAdd]
  repeat' split
  all_goals (try simp [kept_upd, fuses_kept, now_kept, pending_kept])
  all_goals (try rfl)

@[simp] theorem pmcCount_kept (a0 : PmcEvent) (s : State) : kept (pmcCount a0 s) = kept s := by
  simp only [pmcCount]
  repeat' split
  all_goals (try simp [kept_upd, fuses_kept, now_kept, pending_kept])
  all_goals (try rfl)

@[simp] theorem pmcDrop_kept (a0 : Meta) (s : State) : kept (pmcDrop a0 s) = kept s := by
  simp only [pmcDrop]
  repeat' split
  all_goals (try simp [kept_upd, fuses_kept, now_kept, pending_kept])
  all_goals (try rfl)

@[simp] theorem modTrace_kept (a0 : Tracing → Tracing) (s : State) : kept (modTrace a0 s) = kept s := by
  simp only [modTrace]
  repeat' split
  all_goals (try simp [kept_upd, fuses_kept, now_kept, pending_kept])
  all_goals (try rfl)

@[simp] theorem traceEntry_kept (a0 : Option Nat) (a1 : TraceEntry → TraceEntry) (s : State) : kept (traceEntry a0 a1 s) = kept s := by
  simp only [traceEntry]
  repeat' split
  all_goals (try simp [kept_upd, fuses_kept, now_kept, pending_kept])
  all_goals (try rfl)

@[simp] theorem traceStage_kept (a0 : Option Nat) (a1 : Nat) (s : State) : kept (traceStage a0 a1 s) = kept s := by
  simp only [traceStage]
  repeat' split
  all_goals (try simp [kept_upd, fuses_kept, now_kept, pending_kept])
  all_goals (try rfl)

@[simp] theorem traceStageAt_kept (a0 : Option Nat) (a1 : Nat) (a2 : Instant) (s : State) : kept (traceStageAt a0 a1 a2 s) = kept s := by
  simp only [traceStageAt]
  repeat' split
  all_goals (try simp [kept_upd, fuses_kept, now_kept, pending_kept])
  all_goals (try rfl)

@[simp] theorem traceEnd_kept (a0 : Option Nat) (a1 : TraceEntry → TraceEntry) (s : State) : kept (traceEnd a0 a1 s) = kept s := by
  simp only [traceEnd]
  repeat' split
  all_goals (try simp [kept_upd, fuses_kept, now_kept, pending_kept])
  all_goals (try rfl)

@[simp] theorem traceDrop_kept (a0 : Option Nat) (s : State) : kept (traceDrop a0 s) = kept s := by
  simp only [traceDrop]
  repeat' split
  all_goals (try simp [kept_upd, fuses_kept, now_kept, pending_kept])
  all_goals (try rfl)

@[simp] theorem traceReserve_kept (a0 : TraceEntry) (s : State) : kept (traceReserve a0 s).2 = kept s := by
  simp only [traceReserve]
  repeat' split
  all_goals (try simp [kept_upd, fuses_kept, now_kept, pending_kept])
  all_goals (try rfl)

@[simp] theorem traceTag_kept (a0 : Pkt) (s : State) : kept (traceTag a0 s).2 = kept s := by
  simp only [traceTag]
  repeat' split
  all_goals (try simp [kept_upd, fuses_kept, now_kept, pending_kept])
  all_goals (try rfl)

@[simp] theorem modQ_kept (a0 : Queues → Queues) (s : State) : kept (modQ a0 s) = kept s := by
  simp only [modQ]
  repeat' split
  all_goals (try simp [kept_upd, fuses_kept, now_kept, pending_kept])
  all_goals (try rfl)

@[simp] theorem freeCells_kept (a0 : Nat) (s : State) : kept (freeCells a0 s) = kept s := by
  simp only [freeCells]
  repeat' split
  all_goals (try simp [kept_upd, fuses_kept, now_kept, pending_kept])
  all_goals (try rfl)

@[simp] theorem dropQ_kept (a0 : QPkt) (s : State) : kept (dropQ a0 s) = kept s := by
  simp only [dropQ]
  repeat' split
  all_goals (try simp [kept_upd, fuses_kept, now_kept, pending_kept])
  all_goals (try rfl)

@[simp] theorem runDuty_kept (a0 : Nat) (a1 : Nat) (s : State) : kept (runDuty a0 a1 s) = kept s := by
  simp only [runDuty]
  repeat' split
  all_goals (try simp [kept_upd, fuses_kept, now_kept, pending_kept])
  all_goals (try rfl)

@[simp] theorem raiseCarrier_kept (a0 : Nat) (a1 : Nat) (s : State) : kept (raiseCarrier a0 a1 s) = kept s := by
  simp only [raiseCarrier]
  repeat' split
  all_goals (try simp [kept_upd, fuses_kept, now_kept, pending_kept])
  all_goals (try rfl)

@[simp] theorem feFault_kept (a0 : Nat) (a1 : FaultCause) (s : State) : kept (feFault a0 a1 s) = kept s := by
  simp only [feFault]
  repeat' split
  all_goals (try simp [kept_upd, fuses_kept, now_kept, pending_kept])
  all_goals (try rfl)

@[simp] theorem countDropped_kept (a0 : Nat) (a1 : Nat) (s : State) : kept (countDropped a0 a1 s) = kept s := by
  simp only [countDropped]
  repeat' split
  all_goals (try simp [kept_upd, fuses_kept, now_kept, pending_kept])
  all_goals (try rfl)

@[simp] theorem dropHeld_kept (a0 : Nat) (s : State) : kept (dropHeld a0 s) = kept s := by
  simp only [dropHeld]
  repeat' split
  all_goals (try simp [kept_upd, fuses_kept, now_kept, pending_kept])
  all_goals (try rfl)

@[simp] theorem countSessionEnd_kept (a0 : Nat) (a1 : Nat) (s : State) : kept (countSessionEnd a0 a1 s) = kept s := by
  simp only [countSessionEnd]
  repeat' split
  all_goals (try simp [kept_upd, fuses_kept, now_kept, pending_kept])
  all_goals (try rfl)

@[simp] theorem loseBursts_kept (a0 : List Burst) (s : State) : kept (loseBursts a0 s) = kept s := by
  simp only [loseBursts]
  repeat' split
  all_goals (try simp [kept_upd, fuses_kept, now_kept, pending_kept])
  all_goals (try rfl)

@[simp] theorem discardDrawn_kept (a0 : Nat) (s : State) : kept (discardDrawn a0 s) = kept s := by
  simp only [discardDrawn]
  repeat' split
  all_goals (try simp [kept_upd, fuses_kept, now_kept, pending_kept])
  all_goals (try rfl)

@[simp] theorem letGo_kept (a0 : Nat) (a1 : Burst → Bool) (s : State) : kept (letGo a0 a1 s) = kept s := by
  simp only [letGo]
  repeat' split
  all_goals (try simp [kept_upd, fuses_kept, now_kept, pending_kept])
  all_goals (try rfl)

@[simp] theorem enterCarrier_kept (a0 : Nat) (a1 : CarrierState) (s : State) : kept (enterCarrier a0 a1 s) = kept s := by
  simp only [enterCarrier]
  repeat' split
  all_goals (try simp [kept_upd, fuses_kept, now_kept, pending_kept])
  all_goals (try rfl)

@[simp] theorem enterAcquire_kept (a0 : Nat) (s : State) : kept (enterAcquire a0 s) = kept s := by
  simp only [enterAcquire]
  repeat' split
  all_goals (try simp [kept_upd, fuses_kept, now_kept, pending_kept])
  all_goals (try rfl)

@[simp] theorem enterLost_kept (a0 : Nat) (s : State) : kept (enterLost a0 s) = kept s := by
  simp only [enterLost]
  repeat' split
  all_goals (try simp [kept_upd, fuses_kept, now_kept, pending_kept])
  all_goals (try rfl)

@[simp] theorem enterMismatch_kept (a0 : Nat) (s : State) : kept (enterMismatch a0 s) = kept s := by
  simp only [enterMismatch]
  repeat' split
  all_goals (try simp [kept_upd, fuses_kept, now_kept, pending_kept])
  all_goals (try rfl)

@[simp] theorem enterLocked_kept (a0 : Nat) (s : State) : kept (enterLocked a0 s) = kept s := by
  simp only [enterLocked]
  repeat' split
  all_goals (try simp [kept_upd, fuses_kept, now_kept, pending_kept])
  all_goals (try rfl)

@[simp] theorem turnOff_kept (a0 : Nat) (s : State) : kept (turnOff a0 s) = kept s := by
  simp only [turnOff]
  repeat' split
  all_goals (try simp [kept_upd, fuses_kept, now_kept, pending_kept])
  all_goals (try rfl)

@[simp] theorem startDisable_kept (a0 : Nat) (s : State) : kept (startDisable a0 s) = kept s := by
  simp only [startDisable]
  repeat' split
  all_goals (try simp [kept_upd, fuses_kept, now_kept, pending_kept])
  all_goals (try rfl)

@[simp] theorem startEnable_kept (a0 : Nat) (s : State) : kept (startEnable a0 s) = kept s := by
  simp only [startEnable]
  repeat' split
  all_goals (try simp [kept_upd, fuses_kept, now_kept, pending_kept])
  all_goals (try rfl)

@[simp] theorem withCarrier_kept (n : Nat) (k : Body) (s : State) (h : kept (k s).2 = kept s) :
    kept (withCarrier n k s).2 = kept s := require_kept _ _ _ _ h

@[simp] theorem dropWindow_kept (a0 : Nat) (s : State) : kept (dropWindow a0 s) = kept s := by
  simp only [dropWindow]
  repeat' split
  all_goals (try simp [kept_upd, fuses_kept, now_kept, pending_kept])
  all_goals (try rfl)

@[simp] theorem putCarrierConfig_kept (a0 : Nat) (a1 : CarrierParams) (s : State) : kept (putCarrierConfig a0 a1 s) = kept s := by
  simp only [putCarrierConfig]
  repeat' split
  all_goals (try simp [kept_upd, fuses_kept, now_kept, pending_kept])
  all_goals (try rfl)

@[simp] theorem doCarrierConfig_kept (a0 : Nat) (a1 : CarrierParams) (s : State) : kept (doCarrierConfig a0 a1 s).2 = kept s := by
  simp only [doCarrierConfig]
  repeat' split
  all_goals (try simp [kept_upd, fuses_kept, now_kept, pending_kept])
  all_goals (try rfl)

@[simp] theorem commitCarrierConfig_kept (a0 : Nat) (a1 : Instant) (a2 : CarrierParams) (s : State) : kept (commitCarrierConfig a0 a1 a2 s) = kept s := by
  simp only [commitCarrierConfig]
  repeat' split
  all_goals (try simp [kept_upd, fuses_kept, now_kept, pending_kept])
  all_goals (try rfl)

@[simp] theorem doCarrierEnable_kept (n : Nat) (s : State) : kept (doCarrierEnable n s).2 = kept s := by
  apply withCarrier_kept
  simp only []
  repeat' split
  all_goals first
    | (apply require_kept; simp)
    | simp

@[simp] theorem doCarrierDisable_kept (a0 : Nat) (s : State) : kept (doCarrierDisable a0 s).2 = kept s := by
  simp only [doCarrierDisable]
  repeat' split
  all_goals (try simp [kept_upd, fuses_kept, now_kept, pending_kept])
  all_goals (try rfl)

@[simp] theorem doCarrierStatus_kept (a0 : Nat) (s : State) : kept (doCarrierStatus a0 s).2 = kept s := by
  simp only [doCarrierStatus]
  repeat' split
  all_goals (try simp [kept_upd, fuses_kept, now_kept, pending_kept])
  all_goals (try rfl)

@[simp] theorem putCarrierGate_kept (a0 : Nat) (a1 : Instant) (a2 : GateParams) (s : State) : kept (putCarrierGate a0 a1 a2 s) = kept s := by
  simp only [putCarrierGate]
  repeat' split
  all_goals (try simp [kept_upd, fuses_kept, now_kept, pending_kept])
  all_goals (try rfl)

@[simp] theorem doCarrierGateSet_kept (a0 : Nat) (a1 : GateParams) (s : State) : kept (doCarrierGateSet a0 a1 s).2 = kept s := by
  simp only [doCarrierGateSet]
  repeat' split
  all_goals (try simp [kept_upd, fuses_kept, now_kept, pending_kept])
  all_goals (try rfl)

@[simp] theorem doCarrierGateCeiling_kept (n c : Nat) (s : State) : kept (doCarrierGateCeiling n c s).2 = kept s := by
  apply withCarrier_kept
  apply require_kept
  apply require_kept
  simp

@[simp] theorem doCarrierFeLoad_kept (a0 : Nat) (a1 : FeScript) (s : State) : kept (doCarrierFeLoad a0 a1 s).2 = kept s := by
  simp only [doCarrierFeLoad]
  repeat' split
  all_goals (try simp [kept_upd, fuses_kept, now_kept, pending_kept])
  all_goals (try rfl)

@[simp] theorem doCarrierFeAccess_kept (n : Nat) (t : FeTransfer) (s : State) : kept (doCarrierFeAccess n t s).2 = kept s := by
  apply withCarrier_kept
  apply require_kept
  apply require_kept
  apply require_kept
  rfl

@[simp] theorem doCarrierMonitor_kept (n : Nat) (s : State) : kept (doCarrierMonitor n s).2 = kept s := by
  apply withCarrier_kept
  split <;> simp

@[simp] theorem doCarrierHintClear_kept (a0 : Nat) (s : State) : kept (doCarrierHintClear a0 s).2 = kept s := by
  simp only [doCarrierHintClear]
  repeat' split
  all_goals (try simp [kept_upd, fuses_kept, now_kept, pending_kept])
  all_goals (try rfl)

@[simp] theorem dropBegunIn_kept (a0 : Nat) (s : State) : kept (dropBegunIn a0 s) = kept s := by
  simp only [dropBegunIn]
  repeat' split
  all_goals (try simp [kept_upd, fuses_kept, now_kept, pending_kept])
  all_goals (try rfl)

@[simp] theorem exitCarrier_kept (a0 : Nat) (s : State) : kept (exitCarrier a0 s) = kept s := by
  simp only [exitCarrier]
  repeat' split
  all_goals (try simp [kept_upd, fuses_kept, now_kept, pending_kept])
  all_goals (try rfl)

@[simp] theorem exitOperating_kept (s : State) : kept (exitOperating s) = kept s := by
  simp only [exitOperating]
  repeat' split
  all_goals (try simp [kept_upd, fuses_kept, now_kept, pending_kept])
  all_goals (try rfl)

@[simp] theorem endSession_kept (s : State) : kept (endSession s) = kept s := by
  simp only [endSession]
  repeat' split
  all_goals (try simp [kept_upd, fuses_kept, now_kept, pending_kept])
  all_goals (try rfl)

@[simp] theorem enterReg_kept (a0 : RegState) (s : State) : kept (enterReg a0 s) = kept s := by
  simp only [enterReg]
  repeat' split
  all_goals (try simp [kept_upd, fuses_kept, now_kept, pending_kept])
  all_goals (try rfl)

@[simp] theorem leaveTo_kept (a0 : RegState) (s : State) : kept (leaveTo a0 s) = kept s := by
  simp only [leaveTo]
  repeat' split
  all_goals (try simp [kept_upd, fuses_kept, now_kept, pending_kept])
  all_goals (try rfl)

@[simp] theorem enterDiscover_kept (s : State) : kept (enterDiscover s) = kept s := by
  simp only [enterDiscover]
  repeat' split
  all_goals (try simp [kept_upd, fuses_kept, now_kept, pending_kept])
  all_goals (try rfl)

@[simp] theorem startHistory_kept (a0 : Nat) (s : State) : kept (startHistory a0 s) = kept s := by
  simp only [startHistory]
  repeat' split
  all_goals (try simp [kept_upd, fuses_kept, now_kept, pending_kept])
  all_goals (try rfl)

@[simp] theorem beginSession_kept (s : State) : kept (beginSession s) = kept s := by
  simp only [beginSession]
  repeat' split
  all_goals (try simp [kept_upd, fuses_kept, now_kept, pending_kept])
  all_goals (try rfl)

@[simp] theorem regTransition_kept (s : State) : kept (regTransition s) = kept s := by
  simp only [regTransition]
  repeat' split
  all_goals (try simp [kept_upd, fuses_kept, now_kept, pending_kept])
  all_goals (try rfl)

@[simp] theorem clearConditions_kept (s : State) : kept (clearConditions s) = kept s := by
  simp only [clearConditions]
  repeat' split
  all_goals (try simp [kept_upd, fuses_kept, now_kept, pending_kept])
  all_goals (try rfl)

@[simp] theorem sfFailed_kept (a0 : Nat) (s : State) : kept (sfFailed a0 s) = kept s := by
  simp only [sfFailed]
  repeat' split
  all_goals (try simp [kept_upd, fuses_kept, now_kept, pending_kept])
  all_goals (try rfl)

@[simp] theorem refuseHead_kept (a0 : Ident) (a1 : BitVec 32) (s : State) : kept (refuseHead a0 a1 s) = kept s := by
  simp only [refuseHead]
  repeat' split
  all_goals (try simp [kept_upd, fuses_kept, now_kept, pending_kept])
  all_goals (try rfl)

@[simp] theorem raiseEpoch_kept (a0 : Ident) (a1 : BitVec 32) (s : State) : kept (raiseEpoch a0 a1 s) = kept s := by
  simp only [raiseEpoch]
  repeat' split
  all_goals (try simp [kept_upd, fuses_kept, now_kept, pending_kept])
  all_goals (try rfl)

@[simp] theorem announce_kept (a0 : Nat) (a1 : SfAcc) (s : State) : kept (announce a0 a1 s) = kept s := by
  simp only [announce]
  repeat' split
  all_goals (try simp [kept_upd, fuses_kept, now_kept, pending_kept])
  all_goals (try rfl)

@[simp] theorem grantInvalid_kept (a0 : Nat) (s : State) : kept (grantInvalid a0 s) = kept s := by
  simp only [grantInvalid]
  repeat' split
  all_goals (try simp [kept_upd, fuses_kept, now_kept, pending_kept])
  all_goals (try rfl)

@[simp] theorem grantLate_kept (a0 : Nat) (s : State) : kept (grantLate a0 s) = kept s := by
  simp only [grantLate]
  repeat' split
  all_goals (try simp [kept_upd, fuses_kept, now_kept, pending_kept])
  all_goals (try rfl)

@[simp] theorem purgeStanding_kept (a0 : Nat) (s : State) : kept (purgeStanding a0 s) = kept s := by
  simp only [purgeStanding]
  repeat' split
  all_goals (try simp [kept_upd, fuses_kept, now_kept, pending_kept])
  all_goals (try rfl)

@[simp] theorem cancelStanding_kept (a0 : Nat) (a1 : Nat) (a2 : Instant) (s : State) : kept (cancelStanding a0 a1 a2 s) = kept s := by
  simp only [cancelStanding]
  repeat' split
  all_goals (try simp [kept_upd, fuses_kept, now_kept, pending_kept])
  all_goals (try rfl)

@[simp] theorem openWindow_kept (a0 : Nat) (a1 : Instant) (a2 : Nat) (s : State) : kept (openWindow a0 a1 a2 s) = kept s := by
  simp only [openWindow]
  repeat' split
  all_goals (try simp [kept_upd, fuses_kept, now_kept, pending_kept])
  all_goals (try rfl)

@[simp] theorem holdGrant_kept (a0 : Nat) (a1 : MapEntry) (a2 : Nat) (a3 : Nat) (a4 : Nat) (a5 : Nat) (s : State) : kept (holdGrant a0 a1 a2 a3 a4 a5 s) = kept s := by
  simp only [holdGrant]
  repeat' split
  all_goals (try simp [kept_upd, fuses_kept, now_kept, pending_kept])
  all_goals (try rfl)

@[simp] theorem handleEntry_kept (a0 : Nat) (a1 : Instant) (a2 : Instant) (a3 : List Byte) (s : State) : kept (handleEntry a0 a1 a2 a3 s) = kept s := by
  simp only [handleEntry]
  repeat' split
  all_goals (try simp [kept_upd, fuses_kept, now_kept, pending_kept])
  all_goals (try rfl)

@[simp] theorem handleMap_kept (a0 : Nat) (a1 : Instant) (a2 : Instant) (a3 : List (List Byte)) (s : State) : kept (handleMap a0 a1 a2 a3 s) = kept s := by
  simp only [handleMap]
  repeat' split
  all_goals (try simp [kept_upd, fuses_kept, now_kept, pending_kept])
  all_goals (try rfl)

@[simp] theorem countRefused_kept (a0 : Nat) (a1 : List (List Byte)) (s : State) : kept (countRefused a0 a1 s) = kept s := by
  simp only [countRefused]
  repeat' split
  all_goals (try simp [kept_upd, fuses_kept, now_kept, pending_kept])
  all_goals (try rfl)

@[simp] theorem receiveMsg_kept (n t : Nat) (g : Option Ident) (m : List (List Byte) → Bool) (k : List (List Byte) → Message → State → State)
    (s : State) (h : ∀ l m s, kept (k l m s) = kept s) : kept (receiveMsg n t g m k s) = kept s := by
  simp only [receiveMsg]
  repeat' split
  all_goals (try simp [h, kept_upd, fuses_kept, now_kept, pending_kept])
  all_goals (try rfl)

@[simp] theorem rangeInvalid_kept (s : State) : kept (rangeInvalid s) = kept s := by
  simp only [rangeInvalid]
  repeat' split
  all_goals (try simp [kept_upd, fuses_kept, now_kept, pending_kept])
  all_goals (try rfl)

@[simp] theorem releaseMap_kept (a0 : Nat) (a1 : Message) (a2 : Nat) (a3 : Bool) (s : State) : kept (releaseMap a0 a1 a2 a3 s) = kept s := by
  simp only [releaseMap]
  repeat' split
  all_goals (try simp [kept_upd, fuses_kept, now_kept, pending_kept])
  all_goals (try rfl)

@[simp] theorem takeAssign_kept (a0 : RangeAssignMsg) (s : State) : kept (takeAssign a0 s) = kept s := by
  simp only [takeAssign]
  repeat' split
  all_goals (try simp [kept_upd, fuses_kept, now_kept, pending_kept])
  all_goals (try rfl)

@[simp] theorem setRanged_kept (a0 : Nat) (a1 : Nat) (s : State) : kept (setRanged a0 a1 s) = kept s := by
  simp only [setRanged]
  repeat' split
  all_goals (try simp [kept_upd, fuses_kept, now_kept, pending_kept])
  all_goals (try rfl)

@[simp] theorem takeConfirm_kept (a0 : RegConfirmMsg) (a1 : Bool) (s : State) : kept (takeConfirm a0 a1 s) = kept s := by
  simp only [takeConfirm]
  repeat' split
  all_goals (try simp [kept_upd, fuses_kept, now_kept, pending_kept])
  all_goals (try rfl)

@[simp] theorem updateEqd_kept (a0 : Nat) (a1 : Nat) (a2 : Instant) (s : State) : kept (updateEqd a0 a1 a2 s) = kept s := by
  simp only [updateEqd]
  repeat' split
  all_goals (try simp [kept_upd, fuses_kept, now_kept, pending_kept])
  all_goals (try rfl)

@[simp] theorem correctEqd_kept (a0 : Nat) (a1 : Nat) (a2 : Instant) (a3 : State → State) (s : State)
    (h : ∀ s, kept (a3 s) = kept s) : kept (correctEqd a0 a1 a2 a3 s) = kept s := by
  simp only [correctEqd]
  repeat' split
  all_goals (try simp [h, kept_upd, fuses_kept, now_kept, pending_kept])
  all_goals (try rfl)

@[simp] theorem takeUpdate_kept (a0 : RangeUpdateMsg) (s : State) : kept (takeUpdate a0 s) = kept s := by
  simp only [takeUpdate]
  repeat' split
  all_goals (try simp [kept_upd, fuses_kept, now_kept, pending_kept])
  all_goals (try rfl)

@[simp] theorem takeResume_kept (a0 : ResumeMsg) (a1 : Instant) (s : State) : kept (takeResume a0 a1 s) = kept s := by
  simp only [takeResume]
  repeat' split
  all_goals (try simp [kept_upd, fuses_kept, now_kept, pending_kept])
  all_goals (try rfl)
  all_goals (rw [kept_foldl]; intro s p; repeat' split)
  all_goals simp

@[simp] theorem doRegEnable_kept (s : State) : kept (doRegEnable s).2 = kept s := by
  simp only [doRegEnable]
  repeat' split
  all_goals (try simp [kept_upd, fuses_kept, now_kept, pending_kept])
  all_goals (try rfl)

@[simp] theorem doRegDisable_kept (s : State) : kept (doRegDisable s).2 = kept s := by
  simp only [doRegDisable]
  repeat' split
  all_goals (try simp [kept_upd, fuses_kept, now_kept, pending_kept])
  all_goals (try rfl)

@[simp] theorem doRegStatus_kept (s : State) : kept (doRegStatus s).2 = kept s := by
  simp only [doRegStatus]
  repeat' split
  all_goals (try simp [kept_upd, fuses_kept, now_kept, pending_kept])
  all_goals (try rfl)

@[simp] theorem doRegConfig_kept (a0 : Option Nat) (a1 : Nat) (s : State) : kept (doRegConfig a0 a1 s).2 = kept s := by
  simp only [doRegConfig]
  repeat' split
  all_goals (try simp [kept_upd, fuses_kept, now_kept, pending_kept])
  all_goals (try rfl)

@[simp] theorem doRegHeadlistSet_kept (a0 : List Head) (s : State) : kept (doRegHeadlistSet a0 s).2 = kept s := by
  simp only [doRegHeadlistSet]
  repeat' split
  all_goals (try simp [kept_upd, fuses_kept, now_kept, pending_kept])
  all_goals (try rfl)

@[simp] theorem doRegEpochReset_kept (s : State) : kept (doRegEpochReset s).2 = kept s := by
  simp only [doRegEpochReset]
  repeat' split
  all_goals (try simp [kept_upd, fuses_kept, now_kept, pending_kept])
  all_goals (try rfl)

@[simp] theorem doGrantStats_kept (a0 : Nat) (s : State) : kept (doGrantStats a0 s).2 = kept s := by
  simp only [doGrantStats]
  repeat' split
  all_goals (try simp [kept_upd, fuses_kept, now_kept, pending_kept])
  all_goals (try rfl)

@[simp] theorem doForecastConfig_kept (a0 : Nat) (a1 : Nat) (a2 : Nat) (s : State) : kept (doForecastConfig a0 a1 a2 s).2 = kept s := by
  simp only [doForecastConfig]
  repeat' split
  all_goals (try simp [kept_upd, fuses_kept, now_kept, pending_kept])
  all_goals (try rfl)

@[simp] theorem doForecastRead_kept (a0 : Nat) (s : State) : kept (doForecastRead a0 s).2 = kept s := by
  simp only [doForecastRead]
  repeat' split
  all_goals (try simp [kept_upd, fuses_kept, now_kept, pending_kept])
  all_goals (try rfl)

@[simp] theorem rollKey_kept (s : State) : kept (rollKey s) = kept s := by
  simp only [rollKey]
  repeat' split
  all_goals (try simp [kept_upd, fuses_kept, now_kept, pending_kept])
  all_goals (try rfl)

@[simp] theorem noteKey_kept (s : State) : kept (noteKey s) = kept s := by
  simp only [noteKey]
  repeat' split
  all_goals (try simp [kept_upd, fuses_kept, now_kept, pending_kept])
  all_goals (try rfl)

@[simp] theorem closeShort_kept (a0 : Nat) (a1 : List Byte) (s : State) : kept (closeShort a0 a1 s) = kept s := by
  simp only [closeShort]
  repeat' split
  all_goals (try simp [kept_upd, fuses_kept, now_kept, pending_kept])
  all_goals (try rfl)

@[simp] theorem closeSf_kept (a0 : Nat) (s : State) : kept (closeSf a0 s) = kept s := by
  simp only [closeSf]
  repeat' split
  all_goals (try simp [kept_upd, fuses_kept, now_kept, pending_kept])
  all_goals (try rfl)

@[simp] theorem takeSegment_kept (a0 : Nat) (a1 : List Byte) (a2 : Segment) (s : State) : kept (takeSegment a0 a1 a2 s) = kept s := by
  simp only [takeSegment]
  repeat' split
  all_goals (try simp [kept_upd, fuses_kept, now_kept, pending_kept])
  all_goals (try rfl)

@[simp] theorem swapPages_kept (a0 : Instant) (a1 : Nat) (s : State) : kept (swapPages a0 a1 s) = kept s := by
  simp only [swapPages]
  repeat' split
  all_goals (try simp [kept_upd, fuses_kept, now_kept, pending_kept])
  all_goals (try rfl)

@[simp] theorem putTribPage_kept (a0 : Nat) (a1 : List TribEntry) (s : State) : kept (putTribPage a0 a1 s) = kept s := by
  simp only [putTribPage]
  repeat' split
  all_goals (try simp [kept_upd, fuses_kept, now_kept, pending_kept])
  all_goals (try rfl)

@[simp] theorem tribRefuse_kept (a0 : Status) (s : State) : kept (tribRefuse a0 s).2 = kept s := by
  simp only [tribRefuse]
  repeat' split
  all_goals (try simp [kept_upd, fuses_kept, now_kept, pending_kept])
  all_goals (try rfl)

@[simp] theorem doTribPageWrite_kept (a0 : Nat) (a1 : List TribEntry) (s : State) : kept (doTribPageWrite a0 a1 s).2 = kept s := by
  simp only [doTribPageWrite]
  repeat' split
  all_goals (try simp [kept_upd, fuses_kept, now_kept, pending_kept])
  all_goals (try rfl)

@[simp] theorem doTribPageSwap_kept (a0 : Instant) (a1 : Option Nat) (s : State) : kept (doTribPageSwap a0 a1 s).2 = kept s := by
  simp only [doTribPageSwap]
  repeat' split
  all_goals (try simp [kept_upd, fuses_kept, now_kept, pending_kept])
  all_goals (try rfl)

@[simp] theorem doTribPageRead_kept (a0 : Bool) (s : State) : kept (doTribPageRead a0 s).2 = kept s := by
  simp only [doTribPageRead]
  repeat' split
  all_goals (try simp [kept_upd, fuses_kept, now_kept, pending_kept])
  all_goals (try rfl)

@[simp] theorem doTribStatus_kept (s : State) : kept (doTribStatus s).2 = kept s := by
  simp only [doTribStatus]
  repeat' split
  all_goals (try simp [kept_upd, fuses_kept, now_kept, pending_kept])
  all_goals (try rfl)

@[simp] theorem unknownAssoc_kept (a0 : Nat) (s : State) : kept (unknownAssoc a0 s) = kept s := by
  simp only [unknownAssoc]
  repeat' split
  all_goals (try simp [kept_upd, fuses_kept, now_kept, pending_kept])
  all_goals (try rfl)

@[simp] theorem reasmError_kept (a0 : Nat) (a1 : Carrier → Carrier) (s : State) : kept (reasmError a0 a1 s) = kept s := by
  simp only [reasmError]
  repeat' split
  all_goals (try simp [kept_upd, fuses_kept, now_kept, pending_kept])
  all_goals (try rfl)

@[simp] theorem reassemble_kept (a0 : Nat) (a1 : CellHdr) (a2 : List Byte) (s : State) : kept (reassemble a0 a1 a2 s) = kept s := by
  simp only [reassemble]
  repeat' split
  all_goals (try simp [kept_upd, fuses_kept, now_kept, pending_kept])
  all_goals (try rfl)

@[simp] theorem crossDie_kept (n : Nat) (k : State → State) (s : State) (h : ∀ s, kept (k s) = kept s) : kept (crossDie n k s) = kept s := by
  simp only [crossDie]
  repeat' split
  all_goals (try simp [h, kept_upd, fuses_kept, now_kept, pending_kept])
  all_goals (try rfl)
  all_goals (try simp only [h, draw_kept])

@[simp] theorem takeCell_kept (a0 : Nat) (a1 : Tbl TribEntry) (a2 : List Byte) (s : State) : kept (takeCell a0 a1 a2 s) = kept s := by
  simp only [takeCell]
  repeat' split
  all_goals (try simp [kept_upd, fuses_kept, now_kept, pending_kept])
  all_goals (try rfl)

@[simp] theorem mchFull_kept (a0 : Nat) (s : State) : kept (mchFull a0 s) = kept s := by
  simp only [mchFull]
  repeat' split
  all_goals (try simp [kept_upd, fuses_kept, now_kept, pending_kept])
  all_goals (try rfl)

@[simp] theorem takeBlock_kept (a0 : Nat) (a1 : List Byte) (a2 : Nat) (s : State) : kept (takeBlock a0 a1 a2 s) = kept s := by
  simp only [takeBlock]
  repeat' split
  all_goals (try simp [kept_upd, fuses_kept, now_kept, pending_kept])
  all_goals (try rfl)

@[simp] theorem takeMap_kept (a0 : Nat) (a1 : List Byte) (a2 : List Message) (s : State) : kept (takeMap a0 a1 a2 s) = kept s := by
  simp only [takeMap]
  repeat' split
  all_goals (try simp [kept_upd, fuses_kept, now_kept, pending_kept])
  all_goals (try rfl)

@[simp] theorem takeControl_kept (a0 : Nat) (a1 : List Byte) (s : State) : kept (takeControl a0 a1 s) = kept s := by
  simp only [takeControl]
  repeat' split
  all_goals (try simp [kept_upd, fuses_kept, now_kept, pending_kept])
  all_goals (try rfl)

@[simp] theorem checkTag_kept (a0 : Nat) (a1 : List Byte) (s : State) : kept (checkTag a0 a1 s).2 = kept s := by
  simp only [checkTag]
  repeat' split
  all_goals (try simp [kept_upd, fuses_kept, now_kept, pending_kept])
  all_goals (try rfl)

@[simp] theorem takeOverhead_kept (a0 : Nat) (a1 : List Byte) (s : State) : kept (takeOverhead a0 a1 s).2 = kept s := by
  simp only [takeOverhead]
  repeat' split
  all_goals (try simp [kept_upd, fuses_kept, now_kept, pending_kept])
  all_goals (try rfl)

@[simp] theorem takeCells_kept (a0 : Nat) (a1 : DownFrame) (s : State) : kept (takeCells a0 a1 s) = kept s := by
  simp only [takeCells]
  repeat' split
  all_goals (try simp [kept_upd, fuses_kept, now_kept, pending_kept])
  all_goals (try rfl)

@[simp] theorem checkFaw_kept (a0 : Nat) (a1 : DownFrame) (s : State) : kept (checkFaw a0 a1 s) = kept s := by
  simp only [checkFaw]
  repeat' split
  all_goals (try simp [kept_upd, fuses_kept, now_kept, pending_kept])
  all_goals (try rfl)

@[simp] theorem countUncorr_kept (a0 : Nat) (a1 : DownFrame) (s : State) : kept (countUncorr a0 a1 s) = kept s := by
  simp only [countUncorr]
  repeat' split
  all_goals (try simp [kept_upd, fuses_kept, now_kept, pending_kept])
  all_goals (try rfl)

@[simp] theorem relock_kept (a0 : Nat) (s : State) : kept (relock a0 s) = kept s := by
  simp only [relock]
  repeat' split
  all_goals (try simp [kept_upd, fuses_kept, now_kept, pending_kept])
  all_goals (try rfl)

@[simp] theorem doFrameStatus_kept (a0 : Nat) (s : State) : kept (doFrameStatus a0 s).2 = kept s := by
  simp only [doFrameStatus]
  repeat' split
  all_goals (try simp [kept_upd, fuses_kept, now_kept, pending_kept])
  all_goals (try rfl)

@[simp] theorem doCellStats_kept (a0 : Nat) (s : State) : kept (doCellStats a0 s).2 = kept s := by
  simp only [doCellStats]
  repeat' split
  all_goals (try simp [kept_upd, fuses_kept, now_kept, pending_kept])
  all_goals (try rfl)

@[simp] theorem doCellGroupsSet_kept (a0 : BitVec 64) (s : State) : kept (doCellGroupsSet a0 s).2 = kept s := by
  simp only [doCellGroupsSet]
  repeat' split
  all_goals (try simp [kept_upd, fuses_kept, now_kept, pending_kept])
  all_goals (try rfl)

@[simp] theorem doMchConfig_kept (a0 : Nat) (a1 : Bool) (a2 : Nat) (a3 : Nat) (s : State) : kept (doMchConfig a0 a1 a2 a3 s).2 = kept s := by
  simp only [doMchConfig]
  repeat' split
  all_goals (try simp [kept_upd, fuses_kept, now_kept, pending_kept])
  all_goals (try rfl)

@[simp] theorem doMchStats_kept (a0 : Nat) (s : State) : kept (doMchStats a0 s).2 = kept s := by
  simp only [doMchStats]
  repeat' split
  all_goals (try simp [kept_upd, fuses_kept, now_kept, pending_kept])
  all_goals (try rfl)

@[simp] theorem newShaper_kept (a0 : Option ShaperParams) (s : State) : kept (newShaper a0 s).2 = kept s := by
  simp only [newShaper]
  repeat' split
  all_goals (try simp [kept_upd, fuses_kept, now_kept, pending_kept])
  all_goals (try rfl)

@[simp] theorem placeItem_kept (a0 : WheelKind) (a1 : Instant) (s : State) : kept (placeItem a0 a1 s) = kept s := by
  simp only [placeItem]
  repeat' split
  all_goals (try simp [kept_upd, fuses_kept, now_kept, pending_kept])
  all_goals (try rfl)

@[simp] theorem unplace_kept (a0 : WheelKind) (s : State) : kept (unplace a0 s) = kept s := by
  simp only [unplace]
  repeat' split
  all_goals (try simp [kept_upd, fuses_kept, now_kept, pending_kept])
  all_goals (try rfl)

@[simp] theorem evaluateItem_kept (a0 : WheelItem) (s : State) : kept (evaluateItem a0 s) = kept s := by
  simp only [evaluateItem]
  repeat' split
  all_goals (try simp [kept_upd, fuses_kept, now_kept, pending_kept])
  all_goals (try rfl)

@[simp] theorem modQueue_kept (a0 : Nat) (a1 : Queue → Queue) (s : State) : kept (modQueue a0 a1 s) = kept s := by
  simp only [modQueue]
  repeat' split
  all_goals (try simp [kept_upd, fuses_kept, now_kept, pending_kept])
  all_goals (try rfl)

@[simp] theorem takeCellsIn_kept (a0 : Nat) (s : State) : kept (takeCellsIn a0 s) = kept s := by
  simp only [takeCellsIn]
  repeat' split
  all_goals (try simp [kept_upd, fuses_kept, now_kept, pending_kept])
  all_goals (try rfl)

@[simp] theorem markDiscarding_kept (a0 : Nat) (s : State) : kept (markDiscarding a0 s) = kept s := by
  simp only [markDiscarding]
  repeat' split
  all_goals (try simp [kept_upd, fuses_kept, now_kept, pending_kept])
  all_goals (try rfl)

@[simp] theorem ageList_kept (a0 : Nat) (a1 : Nat) (s : State) : kept (ageList a0 a1 s) = kept s := by
  simp only [ageList]
  repeat' split
  all_goals (try simp [kept_upd, fuses_kept, now_kept, pending_kept])
  all_goals (try rfl)

@[simp] theorem ageCarrier_kept (a0 : Nat) (s : State) : kept (ageCarrier a0 s) = kept s := by
  simp only [ageCarrier]
  repeat' split
  all_goals (try simp [kept_upd, fuses_kept, now_kept, pending_kept])
  all_goals (try rfl)

@[simp] theorem ageAll_kept (s : State) : kept (ageAll s) = kept s := by
  simp only [ageAll]
  repeat' split
  all_goals (try simp [kept_upd, fuses_kept, now_kept, pending_kept])
  all_goals (try rfl)

@[simp] theorem admissionDrop_kept (n : Nat) (p : QPkt) (k : State → State) (s : State) (h : ∀ s, kept (k s) = kept s) : kept (admissionDrop n p k s) = kept s := by
  simp only [admissionDrop]
  repeat' split
  all_goals (try simp [h, kept_upd, fuses_kept, now_kept, pending_kept])
  all_goals (try rfl)
  all_goals (try simp only [h, draw_kept])

@[simp] theorem countArrival_kept (a0 : Nat) (a1 : Nat) (a2 : Nat) (s : State) : kept (countArrival a0 a1 a2 s) = kept s := by
  simp only [countArrival]
  repeat' split
  all_goals (try simp [kept_upd, fuses_kept, now_kept, pending_kept])
  all_goals (try rfl)

@[simp] theorem historyOnCreate_kept (a0 : Nat) (a1 : Bool) (s : State) : kept (historyOnCreate a0 a1 s) = kept s := by
  simp only [historyOnCreate]
  repeat' split
  all_goals (try simp [kept_upd, fuses_kept, now_kept, pending_kept])
  all_goals (try rfl)

@[simp] theorem doQueueCreate_kept (a0 : Nat) (a1 : Nat) (a2 : Nat) (a3 : Nat) (a4 : QueueParams) (s : State) : kept (doQueueCreate a0 a1 a2 a3 a4 s).2 = kept s := by
  simp only [doQueueCreate]
  repeat' split
  all_goals (try simp [kept_upd, fuses_kept, now_kept, pending_kept])
  all_goals (try rfl)

@[simp] theorem withQueue_kept (q : Nat) (k : Queue → Body) (s : State) (h : ∀ v s, kept (k v s).2 = kept s) :
    kept (withQueue q k s).2 = kept s := by
  apply require_kept; split
  · simp
  · exact h _ _

@[simp] theorem doQueueDelete_kept (q : Nat) (s : State) : kept (doQueueDelete q s).2 = kept s := by
  apply withQueue_kept
  intro v s
  apply require_kept
  simp only [okNone_kept]
  split <;> simp

@[simp] theorem putQueueSet_kept (a0 : Nat) (a1 : QueueParams) (s : State) : kept (putQueueSet a0 a1 s) = kept s := by
  simp only [putQueueSet]
  repeat' split
  all_goals (try simp [kept_upd, fuses_kept, now_kept, pending_kept])
  all_goals (try rfl)

@[simp] theorem doQueueSet_kept (a0 : Nat) (a1 : QueueParams) (s : State) : kept (doQueueSet a0 a1 s).2 = kept s := by
  simp only [doQueueSet]
  repeat' split
  all_goals (try simp [kept_upd, fuses_kept, now_kept, pending_kept])
  all_goals (try rfl)

@[simp] theorem doQueueStatus_kept (a0 : Nat) (s : State) : kept (doQueueStatus a0 s).2 = kept s := by
  simp only [doQueueStatus]
  repeat' split
  all_goals (try simp [kept_upd, fuses_kept, now_kept, pending_kept])
  all_goals (try rfl)

@[simp] theorem doQueueFlush_kept (a0 : Nat) (s : State) : kept (doQueueFlush a0 s).2 = kept s := by
  simp only [doQueueFlush]
  repeat' split
  all_goals (try simp [kept_upd, fuses_kept, now_kept, pending_kept])
  all_goals (try rfl)

@[simp] theorem putSchedNode_kept (a0 : Nat) (a1 : Option Nat) (a2 : Nat) (a3 : Option ShaperParams) (a4 : Bool) (s : State) : kept (putSchedNode a0 a1 a2 a3 a4 s) = kept s := by
  simp only [putSchedNode]
  repeat' split
  all_goals (try simp [kept_upd, fuses_kept, now_kept, pending_kept])
  all_goals (try rfl)

@[simp] theorem doSchedNodeSet_kept (a0 : Nat) (a1 : Option Nat) (a2 : Nat) (a3 : Option ShaperParams) (a4 : Bool) (s : State) : kept (doSchedNodeSet a0 a1 a2 a3 a4 s).2 = kept s := by
  simp only [doSchedNodeSet]
  repeat' split
  all_goals (try simp [kept_upd, fuses_kept, now_kept, pending_kept])
  all_goals (try rfl)

@[simp] theorem putEgress_kept (a0 : Nat) (a1 : List EgressQ) (a2 : Option ShaperParams) (s : State) : kept (putEgress a0 a1 a2 s) = kept s := by
  simp only [putEgress]
  repeat' split
  all_goals (try simp [kept_upd, fuses_kept, now_kept, pending_kept])
  all_goals (try rfl)

@[simp] theorem doEgressConfig_kept (a0 : Nat) (a1 : List EgressQ) (a2 : Option ShaperParams) (s : State) : kept (doEgressConfig a0 a1 a2 s).2 = kept s := by
  simp only [doEgressConfig]
  repeat' split
  all_goals (try simp [kept_upd, fuses_kept, now_kept, pending_kept])
  all_goals (try rfl)

@[simp] theorem putPolicer_kept (a0 : Nat) (a1 : PolicerParams) (a2 : Bool) (s : State) : kept (putPolicer a0 a1 a2 s) = kept s := by
  simp only [putPolicer]
  repeat' split
  all_goals (try simp [kept_upd, fuses_kept, now_kept, pending_kept])
  all_goals (try rfl)

@[simp] theorem doPolicerSet_kept (a0 : Nat) (a1 : PolicerParams) (a2 : Bool) (s : State) : kept (doPolicerSet a0 a1 a2 s).2 = kept s := by
  simp only [doPolicerSet]
  repeat' split
  all_goals (try simp [kept_upd, fuses_kept, now_kept, pending_kept])
  all_goals (try rfl)

@[simp] theorem doPolicerRead_kept (i : Nat) (c : Bool) (s : State) : kept (doPolicerRead i c s).2 = kept s := by
  apply require_kept
  dsimp only
  split
  · simp
  · rfl

@[simp] theorem putGateList_kept (p : Nat) (g : GateList) (c : Instant) (s : State) : kept (putGateList p g c s) = kept s := by
  simp only [putGateList, placeItem_kept, modPort_kept]

@[simp] theorem doGateListSet_kept (a0 : Nat) (a1 : GateList) (s : State) : kept (doGateListSet a0 a1 s).2 = kept s := by
  simp only [doGateListSet]
  repeat' split
  all_goals (try simp [kept_upd, fuses_kept, now_kept, pending_kept])
  all_goals (try rfl)

@[simp] theorem doGateStatus_kept (a0 : Nat) (s : State) : kept (doGateStatus a0 s).2 = kept s := by
  simp only [doGateStatus]
  repeat' split
  all_goals (try simp [kept_upd, fuses_kept, now_kept, pending_kept])
  all_goals (try rfl)

@[simp] theorem doBarometerWatch_kept (a0 : Nat) (a1 : Option WatchParams) (s : State) : kept (doBarometerWatch a0 a1 s).2 = kept s := by
  simp only [doBarometerWatch]
  repeat' split
  all_goals (try simp [kept_upd, fuses_kept, now_kept, pending_kept])
  all_goals (try rfl)

@[simp] theorem doBarometerRead_kept (i : Nat) (c : Bool) (s : State) : kept (doBarometerRead i c s).2 = kept s := by
  apply require_kept
  dsimp only
  split
  · simp
  · simp only [okData]
    split <;> rfl

@[simp] theorem doStoreStatus_kept (s : State) : kept (doStoreStatus s).2 = kept s := by
  simp only [doStoreStatus]
  repeat' split
  all_goals (try simp [kept_upd, fuses_kept, now_kept, pending_kept])
  all_goals (try rfl)

@[simp] theorem updateForecast_kept (a0 : Instant) (a1 : Nat) (s : State) : kept (updateForecast a0 a1 s) = kept s := by
  simp only [updateForecast]
  repeat' split
  all_goals (try simp [kept_upd, fuses_kept, now_kept, pending_kept])
  all_goals (try rfl)

@[simp] theorem meetFences_kept (a0 : Nat) (a1 : Instant) (s : State) : kept (meetFences a0 a1 s) = kept s := by
  simp only [meetFences]
  repeat' split
  all_goals (try simp [kept_upd, fuses_kept, now_kept, pending_kept])
  all_goals (try rfl)

@[simp] theorem creditNodes_kept (a0 : Instant) (s : State) : kept (creditNodes a0 s) = kept s := by
  simp only [creditNodes]
  repeat' split
  all_goals (try simp [kept_upd, fuses_kept, now_kept, pending_kept])
  all_goals (try rfl)

theorem pickLeaf_kept (n a c : Nat) (l : List Cand) (s : State) (k : Nat) (u : State)
    (h : pickLeaf n a c l s = some (k, u)) : kept u = kept s := by
  simp only [pickLeaf] at h
  split at h
  · cases h; rfl
  · obtain ⟨r, -, h⟩ := Option.map_eq_some_iff.mp h
    cases h; rfl

theorem pickQueue_kept (n : Nat) (t : Instant) (s : State) (k : Nat) (u : State)
    (h : pickQueue n t s = some (k, u)) : kept u = kept s := by
  simp only [pickQueue] at h
  split at h
  all_goals
    obtain ⟨r, -, h⟩ := Option.bind_eq_some_iff.mp h
    rw [pickLeaf_kept _ _ _ _ _ _ _ h, modQ_kept]

@[simp] theorem serveNode_kept (k : WheelKind) (get : State → Node) (put : Node → State → State) (s : State)
    (h : ∀ n s, kept (put n s) = kept s) : kept (serveNode k get put s) = kept s := by
  simp only [serveNode]; split
  · rfl
  · split <;> simp [h]

@[simp] theorem drawCell_kept (a0 : Nat) (a1 : Nat) (s : State) : kept (drawCell a0 a1 s).2 = kept s := by
  simp only [drawCell]
  repeat' split
  all_goals (try simp [kept_upd, fuses_kept, now_kept, pending_kept])
  all_goals (try rfl)

@[simp] theorem drawCells_kept (n : Nat) (t : Instant) (f : Nat) (s : State) : kept (drawCells n t f s).2 = kept s := by
  induction f generalizing s with
  | zero => rfl
  | succ f ih =>
    simp only [drawCells]; split
    · rfl
    · rename_i k u h
      have hu : kept u = kept s := pickQueue_kept n t s k u h
      simp [ih, hu]

@[simp] theorem mchCells_kept (a0 : Nat) (a1 : Nat) (s : State) : kept (mchCells a0 a1 s).2 = kept s := by
  simp only [mchCells]
  rw [kept_foldl2]
  intro a ch
  repeat' split
  all_goals simp

@[simp] theorem drawLimit_kept (a0 : Nat) (s : State) : kept (drawLimit a0 s).2 = kept s := by
  simp only [drawLimit]
  repeat' split
  all_goals (try simp [kept_upd, fuses_kept, now_kept, pending_kept])
  all_goals (try rfl)

@[simp] theorem yieldTo_kept (a0 : Nat) (a1 : Grant) (s : State) : kept (yieldTo a0 a1 s) = kept s := by
  simp only [yieldTo]
  repeat' split
  all_goals (try simp [kept_upd, fuses_kept, now_kept, pending_kept])
  all_goals (try rfl)

@[simp] theorem assemble_kept (a0 : Nat) (a1 : Grant) (a2 : Bool) (s : State) : kept (assemble a0 a1 a2 s).2 = kept s := by
  simp only [assemble]
  repeat' split
  all_goals (try simp [kept_upd, fuses_kept, now_kept, pending_kept])
  all_goals (try rfl)

@[simp] theorem spend_kept (a0 : Nat) (a1 : Grant) (s : State) : kept (spend a0 a1 s) = kept s := by
  simp only [spend]
  repeat' split
  all_goals (try simp [kept_upd, fuses_kept, now_kept, pending_kept])
  all_goals (try rfl)

@[simp] theorem leaveDark_kept (a0 : Nat) (a1 : Grant) (s : State) : kept (leaveDark a0 a1 s) = kept s := by
  simp only [leaveDark]
  repeat' split
  all_goals (try simp [kept_upd, fuses_kept, now_kept, pending_kept])
  all_goals (try rfl)

@[simp] theorem forgo_kept (a0 : Nat) (a1 : Grant) (s : State) : kept (forgo a0 a1 s) = kept s := by
  simp only [forgo]
  repeat' split
  all_goals (try simp [kept_upd, fuses_kept, now_kept, pending_kept])
  all_goals (try rfl)

@[simp] theorem beginBurst_kept (a0 : Nat) (a1 : Grant) (a2 : List Byte) (s : State) : kept (beginBurst a0 a1 a2 s) = kept s := by
  simp only [beginBurst]
  repeat' split
  all_goals (try simp [kept_upd, fuses_kept, now_kept, pending_kept])
  all_goals (try rfl)

@[simp] theorem emitBurst_kept (a0 : Nat) (a1 : Grant) (s : State) : kept (emitBurst a0 a1 s) = kept s := by
  simp only [emitBurst]
  repeat' split
  all_goals (try simp [kept_upd, fuses_kept, now_kept, pending_kept])
  all_goals (try rfl)

@[simp] theorem dropPkt_kept (a0 : Pkt) (s : State) : kept (dropPkt a0 s) = kept s := by
  simp only [dropPkt]
  repeat' split
  all_goals (try simp [kept_upd, fuses_kept, now_kept, pending_kept])
  all_goals (try rfl)

@[simp] theorem dropEg_kept (a0 : EgFrame) (s : State) : kept (dropEg a0 s) = kept s := by
  simp only [dropEg]
  repeat' split
  all_goals (try simp [kept_upd, fuses_kept, now_kept, pending_kept])
  all_goals (try rfl)

@[simp] theorem headCheck_kept (p q f : Nat) (s : State) : kept (headCheck p q f s) = kept s := by
  induction f generalizing s with
  | zero => rfl
  | succ f ih =>
    simp only [headCheck]
    repeat' split
    all_goals (try rw [ih])
    all_goals simp

@[simp] theorem headChecks_kept (a0 : Nat) (s : State) : kept (headChecks a0 s) = kept s := by
  simp only [headChecks]
  repeat' split
  all_goals (try simp [kept_upd, fuses_kept, now_kept, pending_kept])
  all_goals (try rfl)

@[simp] theorem leaveLpi_kept (a0 : Nat) (s : State) : kept (leaveLpi a0 s) = kept s := by
  simp only [leaveLpi]
  repeat' split
  all_goals (try simp [kept_upd, fuses_kept, now_kept, pending_kept])
  all_goals (try rfl)

@[simp] theorem leaveRxLpi_kept (a0 : Nat) (s : State) : kept (leaveRxLpi a0 s) = kept s := by
  simp only [leaveRxLpi]
  repeat' split
  all_goals (try simp [kept_upd, fuses_kept, now_kept, pending_kept])
  all_goals (try rfl)

@[simp] theorem discardQueued_kept (a0 : Nat) (s : State) : kept (discardQueued a0 s) = kept s := by
  simp only [discardQueued]
  repeat' split
  all_goals (try simp [kept_upd, fuses_kept, now_kept, pending_kept])
  all_goals (try rfl)

@[simp] theorem enterDown_kept (a0 : Nat) (s : State) : kept (enterDown a0 s) = kept s := by
  simp only [enterDown]
  repeat' split
  all_goals (try simp [kept_upd, fuses_kept, now_kept, pending_kept])
  all_goals (try rfl)

@[simp] theorem egressDrop_kept (a0 : Nat) (a1 : EgFrame) (a2 : PortStats → PortStats) (s : State) : kept (egressDrop a0 a1 a2 s) = kept s := by
  simp only [egressDrop]
  repeat' split
  all_goals (try simp [kept_upd, fuses_kept, now_kept, pending_kept])
  all_goals (try rfl)

@[simp] theorem egressAdmit_kept (a0 : Nat) (a1 : Nat) (a2 : EgFrame) (s : State) : kept (egressAdmit a0 a1 a2 s) = kept s := by
  simp only [egressAdmit]
  repeat' split
  all_goals (try simp [kept_upd, fuses_kept, now_kept, pending_kept])
  all_goals (try rfl)

@[simp] theorem tagAllows_kept (a0 : Port) (a1 : EgFrame) (s : State) : kept (tagAllows a0 a1 s).2 = kept s := by
  simp only [tagAllows]
  repeat' split
  all_goals (try simp [kept_upd, fuses_kept, now_kept, pending_kept])
  all_goals (try rfl)

@[simp] theorem eligibleQ_kept (a0 : Nat) (a1 : Nat) (s : State) : kept (eligibleQ a0 a1 s).2 = kept s := by
  simp only [eligibleQ]
  repeat' split
  all_goals (try simp [kept_upd, fuses_kept, now_kept, pending_kept])
  all_goals (try rfl)

@[simp] theorem eligibleQs_kept (p : Nat) (s : State) : kept (eligibleQs p s).2 = kept s := by
  have : ∀ (l : List Nat) (a : List Nat × State), kept (l.foldl (fun (a : List Nat × State) q =>
      ((if (eligibleQ p q a.2).1 then a.1 ++ [q] else a.1), (eligibleQ p q a.2).2)) a).2 = kept a.2 := by
    intro l
    induction l with
    | nil => intro a; rfl
    | cons q l ih => intro a; rw [List.foldl_cons, ih]; exact eligibleQ_kept p q a.2
  exact this _ _

@[simp] theorem creditPort_kept (a0 : Nat) (s : State) : kept (creditPort a0 s) = kept s := by
  simp only [creditPort]
  repeat' split
  all_goals (try simp [kept_upd, fuses_kept, now_kept, pending_kept])
  all_goals (try rfl)

@[simp] theorem serveShaper_kept (a0 : WheelKind) (a1 : Nat) (a2 : Nat) (a3 : Nat) (s : State) : kept (serveShaper a0 a1 a2 a3 s) = kept s := by
  simp only [serveShaper]
  repeat' split
  all_goals (try simp [kept_upd, fuses_kept, now_kept, pending_kept])
  all_goals (try rfl)

@[simp] theorem putStamp_kept (a0 : Nat) (a1 : BitVec 16) (a2 : Instant) (s : State) : kept (putStamp a0 a1 a2 s) = kept s := by
  simp only [putStamp]
  repeat' split
  all_goals (try simp [kept_upd, fuses_kept, now_kept, pending_kept])
  all_goals (try rfl)

@[simp] theorem frameSent_kept (a0 : Nat) (a1 : Nat) (a2 : List Byte) (s : State) : kept (frameSent a0 a1 a2 s) = kept s := by
  simp only [frameSent]
  repeat' split
  all_goals (try simp [kept_upd, fuses_kept, now_kept, pending_kept])
  all_goals (try rfl)

@[simp] theorem frameAborted_kept (a0 : Nat) (a1 : Nat) (a2 : List Byte) (a3 : PortStats → PortStats) (s : State) : kept (frameAborted a0 a1 a2 a3 s) = kept s := by
  simp only [frameAborted]
  repeat' split
  all_goals (try simp [kept_upd, fuses_kept, now_kept, pending_kept])
  all_goals (try rfl)

@[simp] theorem endFrame_kept (a0 : Nat) (s : State) : kept (endFrame a0 s) = kept s := by
  simp only [endFrame]
  repeat' split
  all_goals (try simp [kept_upd, fuses_kept, now_kept, pending_kept])
  all_goals (try rfl)

@[simp] theorem startFrame_kept (a0 : Nat) (a1 : Nat) (a2 : EgFrame) (a3 : List EgFrame) (s : State) : kept (startFrame a0 a1 a2 a3 s) = kept s := by
  simp only [startFrame]
  repeat' split
  all_goals (try simp [kept_upd, fuses_kept, now_kept, pending_kept])
  all_goals (try rfl)

@[simp] theorem sendOwn_kept (a0 : Nat) (a1 : Nat) (a2 : Instant → Output) (s : State) : kept (sendOwn a0 a1 a2 s) = kept s := by
  simp only [sendOwn]
  repeat' split
  all_goals (try simp [kept_upd, fuses_kept, now_kept, pending_kept])
  all_goals (try rfl)

@[simp] theorem modHeld_kept (a0 : Nat) (a1 : Assoc → Assoc) (s : State) : kept (modHeld a0 a1 s) = kept s := by
  simp only [modHeld]
  repeat' split
  all_goals (try simp [kept_upd, fuses_kept, now_kept, pending_kept])
  all_goals (try rfl)

@[simp] theorem takePn_kept (a0 : Nat) (s : State) : kept (takePn a0 s) = kept s := by
  simp only [takePn]
  repeat' split
  all_goals (try simp [kept_upd, fuses_kept, now_kept, pending_kept])
  all_goals (try rfl)

@[simp] theorem stage_kept (a0 : Nat) (a1 : Colour) (a2 : QPkt) (s : State) : kept (stage a0 a1 a2 s) = kept s := by
  simp only [stage]
  repeat' split
  all_goals (try simp [kept_upd, fuses_kept, now_kept, pending_kept])
  all_goals (try rfl)

@[simp] theorem sealPkt_kept (a0 : Nat) (a1 : Pkt) (s : State) : kept (sealPkt a0 a1 s) = kept s := by
  simp only [sealPkt]
  repeat' split
  all_goals (try simp [kept_upd, fuses_kept, now_kept, pending_kept])
  all_goals (try rfl)

@[simp] theorem sendHandshake_kept (a0 : Nat) (a1 : Nat) (a2 : Nat) (a3 : Nat) (s : State) : kept (sendHandshake a0 a1 a2 a3 s) = kept s := by
  simp only [sendHandshake]
  repeat' split
  all_goals (try simp [kept_upd, fuses_kept, now_kept, pending_kept])
  all_goals (try rfl)

@[simp] theorem unsealDiscard_kept (a0 : Nat) (a1 : Nat) (s : State) : kept (unsealDiscard a0 a1 s) = kept s := by
  simp only [unsealDiscard]
  repeat' split
  all_goals (try simp [kept_upd, fuses_kept, now_kept, pending_kept])
  all_goals (try rfl)

@[simp] theorem startUnseal_kept (a0 : Sealed) (a1 : Key) (s : State) : kept (startUnseal a0 a1 s) = kept s := by
  simp only [startUnseal]
  repeat' split
  all_goals (try simp [kept_upd, fuses_kept, now_kept, pending_kept])
  all_goals (try rfl)

@[simp] theorem tagEverywhere_kept (a0 : Nat) (a1 : Auth) (s : State) : kept (tagEverywhere a0 a1 s) = kept s := by
  simp only [tagEverywhere]
  repeat' split
  all_goals (try simp [kept_upd, fuses_kept, now_kept, pending_kept])
  all_goals (try rfl)

@[simp] theorem sendDma_kept (a0 : Nat) (a1 : Nat) (a2 : Pkt) (s : State) : kept (sendDma a0 a1 a2 s) = kept s := by
  simp only [sendDma]
  repeat' split
  all_goals (try simp [kept_upd, fuses_kept, now_kept, pending_kept])
  all_goals (try rfl)

@[simp] theorem releaseDma_kept (s : State) : kept (releaseDma s) = kept s := by
  simp only [releaseDma]
  repeat' split
  all_goals (try simp [kept_upd, fuses_kept, now_kept, pending_kept])
  all_goals (try rfl)

@[simp] theorem tagPassed_kept (a0 : Unsealing) (s : State) : kept (tagPassed a0 s) = kept s := by
  simp only [tagPassed]
  repeat' split
  all_goals (try simp [kept_upd, fuses_kept, now_kept, pending_kept])
  all_goals (try rfl)

@[simp] theorem tagFailed_kept (a0 : Unsealing) (s : State) : kept (tagFailed a0 s) = kept s := by
  simp only [tagFailed]
  repeat' split
  all_goals (try simp [kept_upd, fuses_kept, now_kept, pending_kept])
  all_goals (try rfl)

@[simp] theorem sendPause_kept (a0 : Nat) (a1 : Nat) (a2 : BitVec 16) (s : State) : kept (sendPause a0 a1 a2 s) = kept s := by
  simp only [sendPause]
  repeat' split
  all_goals (try simp [kept_upd, fuses_kept, now_kept, pending_kept])
  all_goals (try rfl)

@[simp] theorem checkAccount_kept (a0 : Nat) (a1 : Nat) (s : State) : kept (checkAccount a0 a1 s) = kept s := by
  simp only [checkAccount]
  repeat' split
  all_goals (try simp [kept_upd, fuses_kept, now_kept, pending_kept])
  all_goals (try rfl)

@[simp] theorem fifoChanged_kept (a0 : Nat) (s : State) : kept (fifoChanged a0 s) = kept s := by
  simp only [fifoChanged]
  repeat' split
  all_goals (try simp [kept_upd, fuses_kept, now_kept, pending_kept])
  all_goals (try rfl)

@[simp] theorem modTables_kept (a0 : Bool × Bool) (a1 : GenTables → GenTables) (s : State) : kept (modTables a0 a1 s) = kept s := by
  simp only [modTables]
  repeat' split
  all_goals (try simp [kept_upd, fuses_kept, now_kept, pending_kept])
  all_goals (try rfl)

@[simp] theorem noteFlows_kept (s : State) : kept (noteFlows s) = kept s := by
  simp only [noteFlows]
  repeat' split
  all_goals (try simp [kept_upd, fuses_kept, now_kept, pending_kept])
  all_goals (try rfl)

@[simp] theorem putFlow_kept (a0 : Bool × Bool) (a1 : EntryWord) (a2 : List Byte) (s : State) : kept (putFlow a0 a1 a2 s) = kept s := by
  simp only [putFlow]
  repeat' split
  all_goals (try simp [kept_upd, fuses_kept, now_kept, pending_kept])
  all_goals (try rfl)

@[simp] theorem dropFlow_kept (a0 : Bool × Bool) (a1 : Nat) (a2 : List Byte) (s : State) : kept (dropFlow a0 a1 a2 s) = kept s := by
  simp only [dropFlow]
  repeat' split
  all_goals (try simp [kept_upd, fuses_kept, now_kept, pending_kept])
  all_goals (try rfl)

@[simp] theorem putTern_kept (a0 : Bool × Bool) (a1 : Nat) (a2 : EntryWord) (a3 : List Byte) (a4 : List Byte) (s : State) : kept (putTern a0 a1 a2 a3 a4 s) = kept s := by
  simp only [putTern]
  repeat' split
  all_goals (try simp [kept_upd, fuses_kept, now_kept, pending_kept])
  all_goals (try rfl)

@[simp] theorem dropTern_kept (a0 : Bool × Bool) (a1 : Nat) (s : State) : kept (dropTern a0 a1 s) = kept s := by
  simp only [dropTern]
  repeat' split
  all_goals (try simp [kept_upd, fuses_kept, now_kept, pending_kept])
  all_goals (try rfl)

@[simp] theorem putActions_kept (a0 : Bool × Bool) (a1 : Nat) (a2 : List Action) (s : State) : kept (putActions a0 a1 a2 s) = kept s := by
  simp only [putActions]
  repeat' split
  all_goals (try simp [kept_upd, fuses_kept, now_kept, pending_kept])
  all_goals (try rfl)

@[simp] theorem putNode_kept (a0 : Bool × Bool) (a1 : Nat) (a2 : Option UserNode) (s : State) : kept (putNode a0 a1 a2 s) = kept s := by
  simp only [putNode]
  repeat' split
  all_goals (try simp [kept_upd, fuses_kept, now_kept, pending_kept])
  all_goals (try rfl)

@[simp] theorem putProfile_kept (a0 : Bool × Bool) (a1 : Nat) (a2 : List Selection) (a3 : List Selection) (s : State) : kept (putProfile a0 a1 a2 a3 s) = kept s := by
  simp only [putProfile]
  repeat' split
  all_goals (try simp [kept_upd, fuses_kept, now_kept, pending_kept])
  all_goals (try rfl)

@[simp] theorem putDefault_kept (a0 : Bool × Bool) (a1 : Nat) (a2 : Nat) (a3 : Nat) (s : State) : kept (putDefault a0 a1 a2 a3 s) = kept s := by
  simp only [putDefault]
  repeat' split
  all_goals (try simp [kept_upd, fuses_kept, now_kept, pending_kept])
  all_goals (try rfl)

@[simp] theorem tableBody_kept (own : Cmd → Bool) (check : State → Status) (put : Bool × Bool → State → State) (s : State)
    (h : ∀ b s, kept (put b s) = kept s) : kept (tableBody own check put s).2 = kept s := by
  simp only [tableBody]; split <;> simp [h]

@[simp] theorem doFlowInsert_kept (a0 : EntryWord) (a1 : List Byte) (s : State) : kept (doFlowInsert a0 a1 s).2 = kept s := by
  simp only [doFlowInsert]
  repeat' split
  all_goals (try simp [kept_upd, fuses_kept, now_kept, pending_kept])
  all_goals (try rfl)

@[simp] theorem doFlowModify_kept (a0 : Nat) (a1 : List Byte) (a2 : EntryWord) (s : State) : kept (doFlowModify a0 a1 a2 s).2 = kept s := by
  simp only [doFlowModify]
  repeat' split
  all_goals (try simp [kept_upd, fuses_kept, now_kept, pending_kept])
  all_goals (try rfl)

@[simp] theorem doFlowDelete_kept (a0 : Nat) (a1 : List Byte) (s : State) : kept (doFlowDelete a0 a1 s).2 = kept s := by
  simp only [doFlowDelete]
  repeat' split
  all_goals (try simp [kept_upd, fuses_kept, now_kept, pending_kept])
  all_goals (try rfl)

@[simp] theorem doFlowActionWrite_kept (a0 : Nat) (a1 : List Action) (s : State) : kept (doFlowActionWrite a0 a1 s).2 = kept s := by
  simp only [doFlowActionWrite]
  repeat' split
  all_goals (try simp [kept_upd, fuses_kept, now_kept, pending_kept])
  all_goals (try rfl)

@[simp] theorem doTernaryWrite_kept (a0 : Nat) (a1 : EntryWord) (a2 : List Byte) (a3 : List Byte) (s : State) : kept (doTernaryWrite a0 a1 a2 a3 s).2 = kept s := by
  simp only [doTernaryWrite]
  repeat' split
  all_goals (try simp [kept_upd, fuses_kept, now_kept, pending_kept])
  all_goals (try rfl)

@[simp] theorem doTernaryDelete_kept (a0 : Nat) (s : State) : kept (doTernaryDelete a0 s).2 = kept s := by
  simp only [doTernaryDelete]
  repeat' split
  all_goals (try simp [kept_upd, fuses_kept, now_kept, pending_kept])
  all_goals (try rfl)

@[simp] theorem doParseNodeSet_kept (a0 : Nat) (a1 : Option UserNode) (s : State) : kept (doParseNodeSet a0 a1 s).2 = kept s := by
  simp only [doParseNodeSet]
  repeat' split
  all_goals (try simp [kept_upd, fuses_kept, now_kept, pending_kept])
  all_goals (try rfl)

@[simp] theorem doClassProfileSet_kept (a0 : Nat) (a1 : List Selection) (a2 : List Selection) (s : State) : kept (doClassProfileSet a0 a1 a2 s).2 = kept s := by
  simp only [doClassProfileSet]
  repeat' split
  all_goals (try simp [kept_upd, fuses_kept, now_kept, pending_kept])
  all_goals (try rfl)

@[simp] theorem doClassDefaultSet_kept (a0 : Nat) (a1 : Nat) (a2 : Nat) (s : State) : kept (doClassDefaultSet a0 a1 a2 s).2 = kept s := by
  simp only [doClassDefaultSet]
  repeat' split
  all_goals (try simp [kept_upd, fuses_kept, now_kept, pending_kept])
  all_goals (try rfl)

@[simp] theorem doFlowLookup_kept (a0 : Nat) (a1 : List Byte) (s : State) : kept (doFlowLookup a0 a1 s).2 = kept s := by
  simp only [doFlowLookup]
  repeat' split
  all_goals (try simp [kept_upd, fuses_kept, now_kept, pending_kept])
  all_goals (try rfl)

@[simp] theorem doFlowScan_kept (a0 : Nat) (a1 : Nat) (s : State) : kept (doFlowScan a0 a1 s).2 = kept s := by
  simp only [doFlowScan]
  repeat' split
  all_goals (try simp [kept_upd, fuses_kept, now_kept, pending_kept])
  all_goals (try rfl)

@[simp] theorem doClassStatus_kept (s : State) : kept (doClassStatus s).2 = kept s := by
  simp only [doClassStatus]
  repeat' split
  all_goals (try simp [kept_upd, fuses_kept, now_kept, pending_kept])
  all_goals (try rfl)

@[simp] theorem openGeneration_kept (s : State) : kept (openGeneration s) = kept s := by
  simp only [openGeneration]
  repeat' split
  all_goals (try simp [kept_upd, fuses_kept, now_kept, pending_kept])
  all_goals (try rfl)

@[simp] theorem putClassification_kept (a0 : Bool × Bool) (a1 : Cmd) (s : State) : kept (putClassification a0 a1 s) = kept s := by
  simp only [putClassification]
  repeat' split
  all_goals (try simp [kept_upd, fuses_kept, now_kept, pending_kept])
  all_goals (try rfl)

@[simp] theorem beginWriteIn_kept (a0 : WriteIn) (s : State) : kept (beginWriteIn a0 s) = kept s := by
  simp only [beginWriteIn]
  repeat' split
  all_goals (try simp [kept_upd, fuses_kept, now_kept, pending_kept])
  all_goals (try rfl)

@[simp] theorem switchGeneration_kept (s : State) : kept (switchGeneration s) = kept s := by
  simp only [switchGeneration]
  repeat' split
  all_goals (try simp [kept_upd, fuses_kept, now_kept, pending_kept])
  all_goals (try rfl)

@[simp] theorem settle_kept (a0 : Act) (s : State) : kept (settle a0 s) = kept s := by
  simp only [settle]
  repeat' split
  all_goals (try simp [kept_upd, fuses_kept, now_kept, pending_kept])
  all_goals (try rfl)

@[simp] theorem dropAct_kept (a0 : Act) (a1 : Classifier → Classifier) (s : State) : kept (dropAct a0 a1 s) = kept s := by
  simp only [dropAct]
  repeat' split
  all_goals (try simp [kept_upd, fuses_kept, now_kept, pending_kept])
  all_goals (try rfl)

@[simp] theorem authDrop_kept (a0 : Pkt) (s : State) : kept (authDrop a0 s) = kept s := by
  simp only [authDrop]
  repeat' split
  all_goals (try simp [kept_upd, fuses_kept, now_kept, pending_kept])
  all_goals (try rfl)

@[simp] theorem recirculate_kept (a0 : Nat) (a1 : Pkt) (s : State) : kept (recirculate a0 a1 s) = kept s := by
  simp only [recirculate]
  repeat' split
  all_goals (try simp [kept_upd, fuses_kept, now_kept, pending_kept])
  all_goals (try rfl)

@[simp] theorem terminal_kept (a0 : Action) (a1 : Act) (s : State) : kept (terminal a0 a1 s) = kept s := by
  simp only [terminal]
  repeat' split
  all_goals (try simp [kept_upd, fuses_kept, now_kept, pending_kept])
  all_goals (try rfl)

@[simp] theorem mirrorCopy_kept (a0 : Nat) (a1 : Pkt) (s : State) : kept (mirrorCopy a0 a1 s) = kept s := by
  simp only [mirrorCopy]
  repeat' split
  all_goals (try simp [kept_upd, fuses_kept, now_kept, pending_kept])
  all_goals (try rfl)

@[simp] theorem police_kept (a0 : Nat) (a1 : Meta) (s : State) : kept (police a0 a1 s).2 = kept s := by
  simp only [police]
  repeat' split
  all_goals (try simp [kept_upd, fuses_kept, now_kept, pending_kept])
  all_goals (try rfl)

@[simp] theorem countPkt_kept (a0 : Nat) (a1 : Meta) (s : State) : kept (countPkt a0 a1 s) = kept s := by
  simp only [countPkt]
  repeat' split
  all_goals (try simp [kept_upd, fuses_kept, now_kept, pending_kept])
  all_goals (try rfl)

@[simp] theorem dispatch_kept (a0 : Nat) (a1 : List Action) (a2 : Act) (s : State) : kept (dispatch a0 a1 a2 s) = kept s := by
  simp only [dispatch]
  repeat' split
  all_goals (try simp [kept_upd, fuses_kept, now_kept, pending_kept])
  all_goals (try rfl)

theorem residueFails_kept {s t : State} (h : residueFails s = some t) : kept t = kept s := by
  simp only [residueFails] at h
  split at h
  · cases h; rfl
  · cases h

@[simp] theorem runOne_kept (a0 : Action) (a1 : List Action) (a2 : Act) (s : State) : kept (runOne a0 a1 a2 s).2 = kept s := by
  simp only [runOne]
  repeat' split
  all_goals (try simp [kept_upd, fuses_kept, now_kept, pending_kept])
  all_goals (try rfl)
  all_goals (try exact residueFails_kept ‹_›)

@[simp] theorem runList_kept (l : List Action) (a : Act) (s : State) : kept (runList l a s) = kept s := by
  induction l generalizing a s with
  | nil => simp only [runList, dropPkt_kept, settle_kept]
  | cons x l ih =>
    have h := runOne_kept x l a s
    simp only [runList]
    split
    · rename_i e; rw [ih, ← h, e]
    · rename_i e; rw [← h, e]

@[simp] theorem integrityDrop_kept (a0 : Pkt) (s : State) : kept (integrityDrop a0 s) = kept s := by
  simp only [integrityDrop]
  repeat' split
  all_goals (try simp [kept_upd, fuses_kept, now_kept, pending_kept])
  all_goals (try rfl)

@[simp] theorem runFound_kept (a0 : Found) (a1 : Pkt) (s : State) : kept (runFound a0 a1 s) = kept s := by
  simp only [runFound]
  repeat' split
  all_goals (try simp [kept_upd, fuses_kept, now_kept, pending_kept])
  all_goals (try rfl)

@[simp] theorem hitFlow_kept (a0 : FlowEntry) (s : State) : kept (hitFlow a0 s) = kept s := by
  simp only [hitFlow]
  repeat' split
  all_goals (try simp [kept_upd, fuses_kept, now_kept, pending_kept])
  all_goals (try rfl)

@[simp] theorem hitTern_kept (a0 : TernEntry) (s : State) : kept (hitTern a0 s) = kept s := by
  simp only [hitTern]
  repeat' split
  all_goals (try simp [kept_upd, fuses_kept, now_kept, pending_kept])
  all_goals (try rfl)

@[simp] theorem lookup_kept (a0 : Pkt) (s : State) : kept (lookup a0 s).2 = kept s := by
  simp only [lookup]
  repeat' split
  all_goals (try simp [kept_upd, fuses_kept, now_kept, pending_kept])
  all_goals (try rfl)

@[simp] theorem setMisses_kept (a0 : Bool) (a1 : List Miss) (s : State) : kept (setMisses a0 a1 s) = kept s := by
  simp only [setMisses]
  repeat' split
  all_goals (try simp [kept_upd, fuses_kept, now_kept, pending_kept])
  all_goals (try rfl)

@[simp] theorem runPass_kept (a0 : Bool) (a1 : Pkt) (s : State) : kept (runPass a0 a1 s) = kept s := by
  simp only [runPass]
  repeat' split
  all_goals (try simp [kept_upd, fuses_kept, now_kept, pending_kept])
  all_goals (try rfl)

@[simp] theorem firstPass_kept (a0 : Bool) (a1 : Pkt) (s : State) : kept (firstPass a0 a1 s) = kept s := by
  simp only [firstPass]
  repeat' split
  all_goals (try simp [kept_upd, fuses_kept, now_kept, pending_kept])
  all_goals (try rfl)

@[simp] theorem modEng_kept (a0 : Engines → Engines) (s : State) : kept (modEng a0 s) = kept s := by
  simp only [modEng]
  repeat' split
  all_goals (try simp [kept_upd, fuses_kept, now_kept, pending_kept])
  all_goals (try rfl)

@[simp] theorem setCtx_kept (a0 : Nat) (a1 : Option Run) (s : State) : kept (setCtx a0 a1 s) = kept s := by
  simp only [setCtx]
  repeat' split
  all_goals (try simp [kept_upd, fuses_kept, now_kept, pending_kept])
  all_goals (try rfl)

@[simp] theorem putRecord_kept (a0 : Bool) (a1 : ExRecord) (s : State) : kept (putRecord a0 a1 s) = kept s := by
  simp only [putRecord]
  repeat' split
  all_goals (try simp [kept_upd, fuses_kept, now_kept, pending_kept])
  all_goals (try rfl)

@[simp] theorem countException_kept (a0 : Nat) (s : State) : kept (countException a0 s) = kept s := by
  simp only [countException]
  repeat' split
  all_goals (try simp [kept_upd, fuses_kept, now_kept, pending_kept])
  all_goals (try rfl)

@[simp] theorem runException_kept (a0 : Nat) (a1 : Nat) (a2 : Nat) (a3 : Nat) (a4 : Run) (s : State) : kept (runException a0 a1 a2 a3 a4 s) = kept s := by
  simp only [runException]
  repeat' split
  all_goals (try simp [kept_upd, fuses_kept, now_kept, pending_kept])
  all_goals (try rfl)

@[simp] theorem setSamp_kept (a0 : Bool) (a1 : Sampling) (s : State) : kept (setSamp a0 a1 s) = kept s := by
  simp only [setSamp]
  repeat' split
  all_goals (try simp [kept_upd, fuses_kept, now_kept, pending_kept])
  all_goals (try rfl)

@[simp] theorem putSample_kept (a0 : Bool) (a1 : SampleRec) (s : State) : kept (putSample a0 a1 s) = kept s := by
  simp only [putSample]
  repeat' split
  all_goals (try simp [kept_upd, fuses_kept, now_kept, pending_kept])
  all_goals (try rfl)

@[simp] theorem drawPeriod_kept (a0 : SampleParams) (s : State) : kept (drawPeriod a0 s).2 = kept s := by
  simp only [drawPeriod]
  repeat' split
  all_goals (try simp [kept_upd, fuses_kept, now_kept, pending_kept])
  all_goals (try rfl)

@[simp] theorem sampleStretch_kept (k : Nat) (r : Run) (n pc : Nat) (e w : Bool) (f d : Nat) (s : State) :
    kept (sampleStretch k r n pc e w f d s) = kept s := by
  induction f generalizing d s with
  | zero => rfl
  | succ f ih =>
    simp only [sampleStretch]
    repeat' split
    all_goals (try rw [ih])
    all_goals simp

@[simp] theorem retire_kept (a0 : Nat) (a1 : Nat) (a2 : Nat) (a3 : Run) (a4 : Bool) (a5 : Bool) (s : State) : kept (retire a0 a1 a2 a3 a4 a5 s) = kept s := by
  simp only [retire]
  repeat' split
  all_goals (try simp [kept_upd, fuses_kept, now_kept, pending_kept])
  all_goals (try rfl)

@[simp] theorem runEdit_kept (a0 : Nat) (a1 : Run) (a2 : Edit) (s : State) : kept (runEdit a0 a1 a2 s) = kept s := by
  simp only [runEdit]
  repeat' split
  all_goals (try simp [kept_upd, fuses_kept, now_kept, pending_kept])
  all_goals (try rfl)

@[simp] theorem progLookup_kept (a0 : Meta) (s : State) : kept (progLookup a0 s) = kept s := by
  simp only [progLookup]
  repeat' split
  all_goals (try simp [kept_upd, fuses_kept, now_kept, pending_kept])
  all_goals (try rfl)

@[simp] theorem runStep_kept (a0 : Nat) (a1 : Nat) (a2 : Nat) (a3 : Run) (a4 : RunStep) (s : State) : kept (runStep a0 a1 a2 a3 a4 s) = kept s := by
  simp only [runStep]
  repeat' split
  all_goals (try simp [kept_upd, fuses_kept, now_kept, pending_kept])
  all_goals (try rfl)
  all_goals (try exact residueFails_kept ‹_›)

@[simp] theorem endRuns_kept (e : Nat) (s : State) : kept (endRuns e s) = kept s := by
  apply forEach_kept
  intro k s
  split <;> simp

@[simp] theorem engineFault_kept (a0 : Nat) (s : State) : kept (engineFault a0 s) = kept s := by
  simp only [engineFault]
  repeat' split
  all_goals (try simp [kept_upd, fuses_kept, now_kept, pending_kept])
  all_goals (try rfl)

@[simp] theorem doEngineProgramLoad_kept (a0 : ProgImage) (a1 : Nat) (s : State) : kept (doEngineProgramLoad a0 a1 s).2 = kept s := by
  simp only [doEngineProgramLoad]
  repeat' split
  all_goals (try simp [kept_upd, fuses_kept, now_kept, pending_kept])
  all_goals (try rfl)

@[simp] theorem doEngineProgramUnload_kept (a0 : Nat) (s : State) : kept (doEngineProgramUnload a0 s).2 = kept s := by
  simp only [doEngineProgramUnload]
  repeat' split
  all_goals (try simp [kept_upd, fuses_kept, now_kept, pending_kept])
  all_goals (try rfl)

@[simp] theorem doEngineStatus_kept (s : State) : kept (doEngineStatus s).2 = kept s := by
  simp only [doEngineStatus]
  repeat' split
  all_goals (try simp [kept_upd, fuses_kept, now_kept, pending_kept])
  all_goals (try rfl)

@[simp] theorem doEngineExceptionRead_kept (a0 : Bool) (a1 : Nat) (s : State) : kept (doEngineExceptionRead a0 a1 s).2 = kept s := by
  simp only [doEngineExceptionRead]
  repeat' split
  all_goals (try simp [kept_upd, fuses_kept, now_kept, pending_kept])
  all_goals (try rfl)

@[simp] theorem applyPause_kept (a0 : Nat) (a1 : List (Nat × Nat)) (s : State) : kept (applyPause a0 a1 s) = kept s := by
  simp only [applyPause]
  repeat' split
  all_goals (try simp [kept_upd, fuses_kept, now_kept, pending_kept])
  all_goals (try rfl)

@[simp] theorem macControlFrame_kept (a0 : Nat) (a1 : List Byte) (s : State) : kept (macControlFrame a0 a1 s) = kept s := by
  simp only [macControlFrame]
  repeat' split
  all_goals (try simp [kept_upd, fuses_kept, now_kept, pending_kept])
  all_goals (try rfl)

@[simp] theorem lldpFrame_kept (a0 : Nat) (a1 : List Byte) (s : State) : kept (lldpFrame a0 a1 s) = kept s := by
  simp only [lldpFrame]
  repeat' split
  all_goals (try simp [kept_upd, fuses_kept, now_kept, pending_kept])
  all_goals (try rfl)

@[simp] theorem ptpFrame_kept (a0 : Nat) (a1 : List Byte) (a2 : Instant) (s : State) : kept (ptpFrame a0 a1 a2 s) = kept s := by
  simp only [ptpFrame]
  repeat' split
  all_goals (try simp [kept_upd, fuses_kept, now_kept, pending_kept])
  all_goals (try rfl)

@[simp] theorem sendSync_kept (a0 : Nat) (a1 : Ptp) (s : State) : kept (sendSync a0 a1 s) = kept s := by
  simp only [sendSync]
  repeat' split
  all_goals (try simp [kept_upd, fuses_kept, now_kept, pending_kept])
  all_goals (try rfl)

@[simp] theorem sendAnnounce_kept (a0 : Nat) (a1 : Ptp) (s : State) : kept (sendAnnounce a0 a1 s) = kept s := by
  simp only [sendAnnounce]
  repeat' split
  all_goals (try simp [kept_upd, fuses_kept, now_kept, pending_kept])
  all_goals (try rfl)

@[simp] theorem storeFrame_kept (a0 : Nat) (a1 : List Byte) (a2 : Instant) (s : State) : kept (storeFrame a0 a1 a2 s) = kept s := by
  simp only [storeFrame]
  repeat' split
  all_goals (try simp [kept_upd, fuses_kept, now_kept, pending_kept])
  all_goals (try rfl)

@[simp] theorem portTick_kept (a0 : Nat) (s : State) : kept (portTick a0 s) = kept s := by
  simp only [portTick]
  repeat' split
  all_goals (try simp [kept_upd, fuses_kept, now_kept, pending_kept])
  all_goals (try rfl)

@[simp] theorem doStatsSnapshot_kept (a0 : Instant) (a1 : BitVec 32) (s : State) : kept (doStatsSnapshot a0 a1 s).2 = kept s := by
  simp only [doStatsSnapshot]
  repeat' split
  all_goals (try simp [kept_upd, fuses_kept, now_kept, pending_kept])
  all_goals (try rfl)

@[simp] theorem doStatsRead_kept (b : Nat) (r : Bool) (s : State) : kept (doStatsRead b r s).2 = kept s := by
  apply require_kept
  dsimp only
  split
  · simp
  · simp
  · cases r <;> rfl
  · cases r <;> rfl

@[simp] theorem withPort_kept (n : Nat) (k : Body) (s : State) (h : ∀ s, kept (k s).2 = kept s) : kept (withPort n k s).2 = kept s := by
  simp only [withPort]
  repeat' split
  all_goals (try simp [kept_upd, fuses_kept, now_kept, pending_kept])
  all_goals (try rfl)
  all_goals (try simp only [h, draw_kept])

@[simp] theorem doPortConfig_kept (a0 : Nat) (a1 : Option PortParams) (s : State) : kept (doPortConfig a0 a1 s).2 = kept s := by
  simp only [doPortConfig]
  repeat' split
  all_goals (try simp [kept_upd, fuses_kept, now_kept, pending_kept])
  all_goals (try rfl)

@[simp] theorem doPortStatus_kept (a0 : Nat) (s : State) : kept (doPortStatus a0 s).2 = kept s := by
  simp only [doPortStatus]
  repeat' split
  all_goals (try simp [kept_upd, fuses_kept, now_kept, pending_kept])
  all_goals (try rfl)

@[simp] theorem doPortFilterSet_kept (a0 : Nat) (a1 : FilterParams) (s : State) : kept (doPortFilterSet a0 a1 s).2 = kept s := by
  simp only [doPortFilterSet]
  repeat' split
  all_goals (try simp [kept_upd, fuses_kept, now_kept, pending_kept])
  all_goals (try rfl)

@[simp] theorem doPortPauseSet_kept (a0 : Nat) (a1 : PauseParams) (s : State) : kept (doPortPauseSet a0 a1 s).2 = kept s := by
  simp only [doPortPauseSet]
  repeat' split
  all_goals (try simp [kept_upd, fuses_kept, now_kept, pending_kept])
  all_goals (try rfl)

@[simp] theorem doPortTsConfig_kept (a0 : Nat) (a1 : Nat) (a2 : Nat) (s : State) : kept (doPortTsConfig a0 a1 a2 s).2 = kept s := by
  simp only [doPortTsConfig]
  repeat' split
  all_goals (try simp [kept_upd, fuses_kept, now_kept, pending_kept])
  all_goals (try rfl)

@[simp] theorem doPortTsRead_kept (a0 : Nat) (a1 : Nat) (s : State) : kept (doPortTsRead a0 a1 s).2 = kept s := by
  simp only [doPortTsRead]
  repeat' split
  all_goals (try simp [kept_upd, fuses_kept, now_kept, pending_kept])
  all_goals (try rfl)

@[simp] theorem doPortLpiSet_kept (a0 : Nat) (a1 : Bool) (a2 : Nat) (a3 : Nat) (s : State) : kept (doPortLpiSet a0 a1 a2 a3 s).2 = kept s := by
  simp only [doPortLpiSet]
  repeat' split
  all_goals (try simp [kept_upd, fuses_kept, now_kept, pending_kept])
  all_goals (try rfl)

@[simp] theorem doPortSleep_kept (a0 : Nat) (a1 : Bool) (a2 : Bool) (s : State) : kept (doPortSleep a0 a1 a2 s).2 = kept s := by
  simp only [doPortSleep]
  repeat' split
  all_goals (try simp [kept_upd, fuses_kept, now_kept, pending_kept])
  all_goals (try rfl)

@[simp] theorem doPortStatsRead_kept (a0 : Nat) (a1 : Bool) (s : State) : kept (doPortStatsRead a0 a1 s).2 = kept s := by
  simp only [doPortStatsRead]
  repeat' split
  all_goals (try simp [kept_upd, fuses_kept, now_kept, pending_kept])
  all_goals (try rfl)

@[simp] theorem pushLog_kept (a0 : IntegEntry) (s : State) : kept (pushLog a0 s) = kept s := by
  simp only [pushLog]
  repeat' split
  all_goals (try simp [kept_upd, fuses_kept, now_kept, pending_kept])
  all_goals (try rfl)

@[simp] theorem dropLanePorts_kept (a0 : Nat) (s : State) : kept (dropLanePorts a0 s) = kept s := by
  simp only [dropLanePorts]
  repeat' split
  all_goals (try simp [kept_upd, fuses_kept, now_kept, pending_kept])
  all_goals (try rfl)

@[simp] theorem onLane_kept (n : Nat) (ok : Lane → Bool) (k : State → State) (s : State) (h : ∀ s, kept (k s) = kept s) : kept (onLane n ok k s) = kept s := by
  simp only [onLane]
  repeat' split
  all_goals (try simp [h, kept_upd, fuses_kept, now_kept, pending_kept])
  all_goals (try rfl)
  all_goals (try simp only [h, draw_kept])

@[simp] theorem withLane_kept (n : Nat) (k : Body) (s : State) (h : ∀ s, kept (k s).2 = kept s) : kept (withLane n k s).2 = kept s := by
  simp only [withLane]
  repeat' split
  all_goals (try simp [kept_upd, fuses_kept, now_kept, pending_kept])
  all_goals (try rfl)
  all_goals (try simp only [h, draw_kept])

@[simp] theorem doLaneConfig_kept (a0 : Nat) (a1 : Bool) (a2 : Bool) (a3 : Nat) (s : State) : kept (doLaneConfig a0 a1 a2 a3 s).2 = kept s := by
  simp only [doLaneConfig]
  repeat' split
  all_goals (try simp [kept_upd, fuses_kept, now_kept, pending_kept])
  all_goals (try rfl)

@[simp] theorem doLaneStatus_kept (a0 : Nat) (s : State) : kept (doLaneStatus a0 s).2 = kept s := by
  simp only [doLaneStatus]
  repeat' split
  all_goals (try simp [kept_upd, fuses_kept, now_kept, pending_kept])
  all_goals (try rfl)

@[simp] theorem changeMode_kept (a0 : Nat) (a1 : LaneMode) (s : State) : kept (changeMode a0 a1 s) = kept s := by
  simp only [changeMode]
  repeat' split
  all_goals (try simp [kept_upd, fuses_kept, now_kept, pending_kept])
  all_goals (try rfl)

@[simp] theorem doLaneMonitorSet_kept (a0 : Nat) (a1 : LaneMode) (s : State) : kept (doLaneMonitorSet a0 a1 s).2 = kept s := by
  simp only [doLaneMonitorSet]
  repeat' split
  all_goals (try simp [kept_upd, fuses_kept, now_kept, pending_kept])
  all_goals (try rfl)

@[simp] theorem comparePattern_kept (a0 : Nat) (s : State) : kept (comparePattern a0 s) = kept s := by
  simp only [comparePattern]
  repeat' split
  all_goals (try simp [kept_upd, fuses_kept, now_kept, pending_kept])
  all_goals (try rfl)

@[simp] theorem doLanePatternRead_kept (a0 : Nat) (a1 : Bool) (s : State) : kept (doLanePatternRead a0 a1 s).2 = kept s := by
  simp only [doLanePatternRead]
  repeat' split
  all_goals (try simp [kept_upd, fuses_kept, now_kept, pending_kept])
  all_goals (try rfl)

@[simp] theorem doLaneRefclkSet_kept (a0 : RefTarget) (s : State) : kept (doLaneRefclkSet a0 s).2 = kept s := by
  simp only [doLaneRefclkSet]
  repeat' split
  all_goals (try simp [kept_upd, fuses_kept, now_kept, pending_kept])
  all_goals (try rfl)

@[simp] theorem modDie_kept (a0 : DieLink → DieLink) (s : State) : kept (modDie a0 s) = kept s := by
  simp only [modDie]
  repeat' split
  all_goals (try simp [kept_upd, fuses_kept, now_kept, pending_kept])
  all_goals (try rfl)

@[simp] theorem laneErrors_kept (a0 : Bool) (a1 : Nat) (s : State) : kept (laneErrors a0 a1 s) = kept s := by
  simp only [laneErrors]
  repeat' split
  all_goals (try simp [kept_upd, fuses_kept, now_kept, pending_kept])
  all_goals (try rfl)

@[simp] theorem answerRetrain_kept (s : State) : kept (answerRetrain s) = kept s := by
  simp only [answerRetrain]
  repeat' split
  all_goals (try simp [kept_upd, fuses_kept, now_kept, pending_kept])
  all_goals (try rfl)

@[simp] theorem splitDies_kept (s : State) : kept (splitDies s) = kept s := by
  simp only [splitDies]
  repeat' split
  all_goals (try simp [kept_upd, fuses_kept, now_kept, pending_kept])
  all_goals (try rfl)

@[simp] theorem startRetrain_kept (s : State) : kept (startRetrain s) = kept s := by
  simp only [startRetrain]
  repeat' split
  all_goals (try simp [kept_upd, fuses_kept, now_kept, pending_kept])
  all_goals (try rfl)

@[simp] theorem countCrc_kept (s : State) : kept (countCrc s) = kept s := by
  simp only [countCrc]
  repeat' split
  all_goals (try simp [kept_upd, fuses_kept, now_kept, pending_kept])
  all_goals (try rfl)

@[simp] theorem doDieStatus_kept (s : State) : kept (doDieStatus s).2 = kept s := by
  simp only [doDieStatus]
  repeat' split
  all_goals (try simp [kept_upd, fuses_kept, now_kept, pending_kept])
  all_goals (try rfl)

@[simp] theorem doDieRetrain_kept (a0 : Hdr) (a1 : Bool) (s : State) : kept (doDieRetrain a0 a1 s).2 = kept s := by
  simp only [doDieRetrain]
  repeat' split
  all_goals (try simp [kept_upd, fuses_kept, now_kept, pending_kept])
  all_goals (try rfl)

@[simp] theorem addCount_kept (a0 : Nat) (a1 : Nat) (s : State) : kept (addCount a0 a1 s) = kept s := by
  simp only [addCount]
  repeat' split
  all_goals (try simp [kept_upd, fuses_kept, now_kept, pending_kept])
  all_goals (try rfl)

@[simp] theorem landHeld_kept (a0 : Nat) (a1 : Nat) (s : State) : kept (landHeld a0 a1 s) = kept s := by
  simp only [landHeld]
  repeat' split
  all_goals (try simp [kept_upd, fuses_kept, now_kept, pending_kept])
  all_goals (try rfl)

@[simp] theorem releaseHeld_kept (s : State) : kept (releaseHeld s) = kept s := by
  simp only [releaseHeld]
  repeat' split
  all_goals (try simp [kept_upd, fuses_kept, now_kept, pending_kept])
  all_goals (try rfl)

@[simp] theorem dropEarly_kept (a0 : Nat) (s : State) : kept (dropEarly a0 s) = kept s := by
  simp only [dropEarly]
  repeat' split
  all_goals (try simp [kept_upd, fuses_kept, now_kept, pending_kept])
  all_goals (try rfl)

@[simp] theorem realign_kept (s : State) : kept (realign s) = kept s := by
  simp only [realign]
  repeat' split
  all_goals (try simp [kept_upd, fuses_kept, now_kept, pending_kept])
  all_goals (try rfl)

@[simp] theorem modSec_kept (a0 : Security → Security) (s : State) : kept (modSec a0 s) = kept s := by
  simp only [modSec]
  repeat' split
  all_goals (try simp [kept_upd, fuses_kept, now_kept, pending_kept])
  all_goals (try rfl)

@[simp] theorem badMsg_kept (s : State) : kept (badMsg s) = kept s := by
  simp only [badMsg]
  repeat' split
  all_goals (try simp [kept_upd, fuses_kept, now_kept, pending_kept])
  all_goals (try rfl)

@[simp] theorem takeMsg_kept (s : State) : kept (takeMsg s) = kept s := by
  simp only [takeMsg]
  repeat' split
  all_goals (try simp [kept_upd, fuses_kept, now_kept, pending_kept])
  all_goals (try rfl)

@[simp] theorem pushStaged_kept (a0 : Nat) (a1 : Staged) (s : State) : kept (pushStaged a0 a1 s) = kept s := by
  simp only [pushStaged]
  repeat' split
  all_goals (try simp [kept_upd, fuses_kept, now_kept, pending_kept])
  all_goals (try rfl)

@[simp] theorem sendMade_kept (a0 : Nat) (a1 : Nat) (a2 : Nat) (a3 : Nat) (a4 : Nat) (s : State) : kept (sendMade a0 a1 a2 a3 a4 s) = kept s := by
  simp only [sendMade]
  repeat' split
  all_goals (try simp [kept_upd, fuses_kept, now_kept, pending_kept])
  all_goals (try rfl)

@[simp] theorem armKey_kept (a0 : Nat) (a1 : Agreement) (s : State) : kept (armKey a0 a1 s) = kept s := by
  simp only [armKey]
  repeat' split
  all_goals (try simp [kept_upd, fuses_kept, now_kept, pending_kept])
  all_goals (try rfl)

@[simp] theorem drawKeys_kept (a0 : Agreement) (s : State) : kept (drawKeys a0 s).2 = kept s := by
  simp only [drawKeys]
  repeat' split
  all_goals (try simp [kept_upd, fuses_kept, now_kept, pending_kept])
  all_goals (try rfl)

@[simp] theorem startAgreement_kept (a0 : Nat) (a1 : Nat) (a2 : Bool) (a3 : Hdr) (a4 : Nat) (a5 : Nat) (s : State) : kept (startAgreement a0 a1 a2 a3 a4 a5 s) = kept s := by
  simp only [startAgreement]
  repeat' split
  all_goals (try simp [kept_upd, fuses_kept, now_kept, pending_kept])
  all_goals (try rfl)

@[simp] theorem answerAgreement_kept (a0 : Agreement) (a1 : Ans) (s : State) : kept (answerAgreement a0 a1 s) = kept s := by
  simp only [answerAgreement]
  repeat' split
  all_goals (try simp [kept_upd, fuses_kept, now_kept, pending_kept])
  all_goals (try rfl)

@[simp] theorem agreementFail_kept (a0 : SecCause) (s : State) : kept (agreementFail a0 s) = kept s := by
  simp only [agreementFail]
  repeat' split
  all_goals (try simp [kept_upd, fuses_kept, now_kept, pending_kept])
  all_goals (try rfl)

@[simp] theorem assocDown_kept (a0 : SecCause) (s : State) : kept (assocDown a0 s) = kept s := by
  simp only [assocDown]
  repeat' split
  all_goals (try simp [kept_upd, fuses_kept, now_kept, pending_kept])
  all_goals (try rfl)

@[simp] theorem failAgreement_kept (a0 : Nat) (a1 : Status) (a2 : Bool) (s : State) : kept (failAgreement a0 a1 a2 s) = kept s := by
  simp only [failAgreement]
  repeat' split
  all_goals (try simp [kept_upd, fuses_kept, now_kept, pending_kept])
  all_goals (try rfl)

@[simp] theorem switchKey_kept (a0 : Nat) (a1 : Key) (a2 : Nat) (s : State) : kept (switchKey a0 a1 a2 s) = kept s := by
  simp only [switchKey]
  repeat' split
  all_goals (try simp [kept_upd, fuses_kept, now_kept, pending_kept])
  all_goals (try rfl)

@[simp] theorem commitRekey_kept (a0 : Nat) (s : State) : kept (commitRekey a0 s) = kept s := by
  simp only [commitRekey]
  repeat' split
  all_goals (try simp [kept_upd, fuses_kept, now_kept, pending_kept])
  all_goals (try rfl)

@[simp] theorem finishAgreement_kept (a0 : Nat) (s : State) : kept (finishAgreement a0 s) = kept s := by
  simp only [finishAgreement]
  repeat' split
  all_goals (try simp [kept_upd, fuses_kept, now_kept, pending_kept])
  all_goals (try rfl)

@[simp] theorem answerHello_kept (a0 : Nat) (a1 : HelloMsg) (s : State) : kept (answerHello a0 a1 s) = kept s := by
  simp only [answerHello]
  repeat' split
  all_goals (try simp [kept_upd, fuses_kept, now_kept, pending_kept])
  all_goals (try rfl)

@[simp] theorem failAgreements_kept (a0 : Status) (s : State) : kept (failAgreements a0 s) = kept s := by
  simp only [failAgreements]
  repeat' split
  all_goals (try simp [kept_upd, fuses_kept, now_kept, pending_kept])
  all_goals (try rfl)

@[simp] theorem doSecStatus_kept (s : State) : kept (doSecStatus s).2 = kept s := by
  simp only [doSecStatus]
  repeat' split
  all_goals (try simp [kept_upd, fuses_kept, now_kept, pending_kept])
  all_goals (try rfl)

@[simp] theorem doSecIdentity_kept (s : State) : kept (doSecIdentity s).2 = kept s := by
  simp only [doSecIdentity]
  repeat' split
  all_goals (try simp [kept_upd, fuses_kept, now_kept, pending_kept])
  all_goals (try rfl)

@[simp] theorem doSecChallenge_kept (s : State) : kept (doSecChallenge s).2 = kept s := by
  simp only [doSecChallenge]
  repeat' split
  all_goals (try simp [kept_upd, fuses_kept, now_kept, pending_kept])
  all_goals (try rfl)

@[simp] theorem doSecAssocCreate_kept (a0 : Hdr) (a1 : Nat) (a2 : AssocParams) (s : State) : kept (doSecAssocCreate a0 a1 a2 s).2 = kept s := by
  simp only [doSecAssocCreate]
  repeat' split
  all_goals (try simp [kept_upd, fuses_kept, now_kept, pending_kept])
  all_goals (try rfl)

@[simp] theorem doSecAssocRekey_kept (a0 : Hdr) (a1 : Nat) (a2 : Nat) (a3 : Nat) (s : State) : kept (doSecAssocRekey a0 a1 a2 a3 s).2 = kept s := by
  simp only [doSecAssocRekey]
  repeat' split
  all_goals (try simp [kept_upd, fuses_kept, now_kept, pending_kept])
  all_goals (try rfl)

@[simp] theorem doSecAssocDelete_kept (a0 : Nat) (s : State) : kept (doSecAssocDelete a0 s).2 = kept s := by
  simp only [doSecAssocDelete]
  repeat' split
  all_goals (try simp [kept_upd, fuses_kept, now_kept, pending_kept])
  all_goals (try rfl)

@[simp] theorem doSecAssocStatus_kept (a0 : Nat) (s : State) : kept (doSecAssocStatus a0 s).2 = kept s := by
  simp only [doSecAssocStatus]
  repeat' split
  all_goals (try simp [kept_upd, fuses_kept, now_kept, pending_kept])
  all_goals (try rfl)

@[simp] theorem doSecAssocConfig_kept (a0 : Nat) (a1 : Nat) (a2 : Nat) (s : State) : kept (doSecAssocConfig a0 a1 a2 s).2 = kept s := by
  simp only [doSecAssocConfig]
  repeat' split
  all_goals (try simp [kept_upd, fuses_kept, now_kept, pending_kept])
  all_goals (try rfl)

@[simp] theorem doSecAssocResume_kept (a0 : Nat) (s : State) : kept (doSecAssocResume a0 s).2 = kept s := by
  simp only [doSecAssocResume]
  repeat' split
  all_goals (try simp [kept_upd, fuses_kept, now_kept, pending_kept])
  all_goals (try rfl)

@[simp] theorem doSecSidechannelSet_kept (a0 : Nat) (s : State) : kept (doSecSidechannelSet a0 s).2 = kept s := by
  simp only [doSecSidechannelSet]
  repeat' split
  all_goals (try simp [kept_upd, fuses_kept, now_kept, pending_kept])
  all_goals (try rfl)

@[simp] theorem doSecDebugUnlock_kept (s : State) : kept (doSecDebugUnlock s).2 = kept s := by
  simp only [doSecDebugUnlock]
  repeat' split
  all_goals (try simp [kept_upd, fuses_kept, now_kept, pending_kept])
  all_goals (try rfl)

@[simp] theorem doSecCompatSet_kept (a0 : Bool) (s : State) : kept (doSecCompatSet a0 s).2 = kept s := by
  simp only [doSecCompatSet]
  repeat' split
  all_goals (try simp [kept_upd, fuses_kept, now_kept, pending_kept])
  all_goals (try rfl)

@[simp] theorem endJob_kept (a0 : Job) (s : State) : kept (endJob a0 s).2 = kept s := by
  simp only [endJob]
  repeat' split
  all_goals (try simp [kept_upd, fuses_kept, now_kept, pending_kept])
  all_goals (try rfl)

@[simp] theorem startJob_kept (a0 : Job) (s : State) : kept (startJob a0 s).2 = kept s := by
  simp only [startJob]
  repeat' split
  all_goals (try simp [kept_upd, fuses_kept, now_kept, pending_kept])
  all_goals (try rfl)

@[simp] theorem placeJob_kept (a0 : Job) (s : State) : kept (placeJob a0 s) = kept s := by
  simp only [placeJob]
  repeat' split
  all_goals (try simp [kept_upd, fuses_kept, now_kept, pending_kept])
  all_goals (try rfl)

@[simp] theorem nextJob_kept (s : State) : kept (nextJob s) = kept s := by
  simp only [nextJob]
  repeat' split
  all_goals (try simp [kept_upd, fuses_kept, now_kept, pending_kept])
  all_goals (try rfl)

@[simp] theorem finishJob_kept (s : State) : kept (finishJob s) = kept s := by
  simp only [finishJob]
  repeat' split
  all_goals (try simp [kept_upd, fuses_kept, now_kept, pending_kept])
  all_goals (try rfl)

@[simp] theorem doCipherJob_kept (a0 : Hdr) (a1 : Bool) (a2 : Nat) (a3 : Nat) (a4 : Bool) (s : State) : kept (doCipherJob a0 a1 a2 a3 a4 s).2 = kept s := by
  simp only [doCipherJob]
  repeat' split
  all_goals (try simp [kept_upd, fuses_kept, now_kept, pending_kept])
  all_goals (try rfl)

@[simp] theorem applyStaged_kept (a0 : Instant) (a1 : Bool × Bool) (a2 : Cmd) (s : State) : kept (applyStaged a0 a1 a2 s) = kept s := by
  simp only [applyStaged]
  repeat' split
  all_goals (try simp [kept_upd, fuses_kept, now_kept, pending_kept])
  all_goals (try rfl)

@[simp] theorem virtually_kept (l : List Staged) (s : State) : kept (virtually l s) = kept s := by
  apply kept_foldl
  intro s a
  split <;> simp

@[simp] theorem stageCmd_kept (a0 : Hdr) (a1 : Cmd) (a2 : Nat) (s : State) : kept (stageCmd a0 a1 a2 s).2 = kept s := by
  simp only [stageCmd]
  repeat' split
  all_goals (try simp [kept_upd, fuses_kept, now_kept, pending_kept])
  all_goals (try rfl)

@[simp] theorem startWriteIn_kept (s : State) : kept (startWriteIn s) = kept s := by
  simp only [startWriteIn]
  repeat' split
  all_goals (try simp [kept_upd, fuses_kept, now_kept, pending_kept])
  all_goals (try rfl)

@[simp] theorem abortAndGo_kept (a0 : Nat) (a1 : Status) (a2 : Nat) (s : State) : kept (abortAndGo a0 a1 a2 s) = kept s := by
  simp only [abortAndGo]
  repeat' split
  all_goals (try simp [kept_upd, fuses_kept, now_kept, pending_kept])
  all_goals (try rfl)

@[simp] theorem abortChanged_kept (s : State) : kept (abortChanged s) = kept s := by
  apply forEach_kept
  intro g s
  split
  · split <;> simp
  · rfl

@[simp] theorem doCommitOpen_kept (h : Hdr) (t : Nat) (s : State) : kept (doCommitOpen h t s).2 = kept s := by
  apply require_kept
  dsimp only
  split
  · simp
  · split <;> simp

@[simp] theorem doCommitApply_kept (h : Hdr) (g : Nat) (i : Instant) (s : State) : kept (doCommitApply h g i s).2 = kept s := by
  apply require_kept
  dsimp only
  repeat' split
  all_goals simp

@[simp] theorem doCommitAbort_kept (a0 : Hdr) (a1 : Nat) (s : State) : kept (doCommitAbort a0 a1 s).2 = kept s := by
  simp only [doCommitAbort]
  repeat' split
  all_goals (try simp [kept_upd, fuses_kept, now_kept, pending_kept])
  all_goals (try rfl)

@[simp] theorem doCommitStatus_kept (a0 : Nat) (s : State) : kept (doCommitStatus a0 s).2 = kept s := by
  simp only [doCommitStatus]
  repeat' split
  all_goals (try simp [kept_upd, fuses_kept, now_kept, pending_kept])
  all_goals (try rfl)

@[simp] theorem checkGroup_kept (a0 : Nat) (s : State) : kept (checkGroup a0 s) = kept s := by
  simp only [checkGroup]
  repeat' split
  all_goals (try simp [kept_upd, fuses_kept, now_kept, pending_kept])
  all_goals (try rfl)

@[simp] theorem commitGroup_kept (a0 : Nat) (s : State) : kept (commitGroup a0 s) = kept s := by
  simp only [commitGroup]
  repeat' split
  all_goals (try simp [kept_upd, fuses_kept, now_kept, pending_kept])
  all_goals (try rfl)

@[simp] theorem lapseGroup_kept (a0 : Nat) (s : State) : kept (lapseGroup a0 s) = kept s := by
  simp only [lapseGroup]
  repeat' split
  all_goals (try simp [kept_upd, fuses_kept, now_kept, pending_kept])
  all_goals (try rfl)

@[simp] theorem modEvc_kept (a0 : Evc → Evc) (s : State) : kept (modEvc a0 s) = kept s := by
  simp only [modEvc]
  repeat' split
  all_goals (try simp [kept_upd, fuses_kept, now_kept, pending_kept])
  all_goals (try rfl)

@[simp] theorem modTarget_kept (a0 : Nat) (a1 : Target → Target) (s : State) : kept (modTarget a0 a1 s) = kept s := by
  simp only [modTarget]
  repeat' split
  all_goals (try simp [kept_upd, fuses_kept, now_kept, pending_kept])
  all_goals (try rfl)

@[simp] theorem wakeTarget_kept (a0 : Evc) (s : State) (a2 : Nat) : kept (wakeTarget a0 s a2) = kept s := by
  simp only [wakeTarget]
  repeat' split
  all_goals (try simp [kept_upd, fuses_kept, now_kept, pending_kept])
  all_goals (try rfl)

@[simp] theorem settleEvc_kept (a0 : Evc) (s : State) : kept (settleEvc a0 s) = kept s := by
  simp only [settleEvc]
  repeat' split
  all_goals (try simp [kept_upd, fuses_kept, now_kept, pending_kept])
  all_goals (try rfl)

@[simp] theorem claim_kept (a0 : Nat) (a1 : Nat) (a2 : Nat) (s : State) : kept (claim a0 a1 a2 s) = kept s := by
  simp only [claim]
  repeat' split
  all_goals (try simp [kept_upd, fuses_kept, now_kept, pending_kept])
  all_goals (try rfl)

@[simp] theorem putEvcCfg_kept (a0 : Nat) (a1 : Word) (s : State) : kept (putEvcCfg a0 a1 s) = kept s := by
  simp only [putEvcCfg]
  repeat' split
  all_goals (try simp [kept_upd, fuses_kept, now_kept, pending_kept])
  all_goals (try rfl)

@[simp] theorem putTargetReg_kept (a0 : Nat) (a1 : Nat) (a2 : Word) (s : State) : kept (putTargetReg a0 a1 a2 s) = kept s := by
  simp only [putTargetReg]
  repeat' split
  all_goals (try simp [kept_upd, fuses_kept, now_kept, pending_kept])
  all_goals (try rfl)

@[simp] theorem evcWrite_kept (a0 : Nat) (a1 : Word) (s : State) : kept (evcWrite a0 a1 s) = kept s := by
  simp only [evcWrite]
  repeat' split
  all_goals (try simp [kept_upd, fuses_kept, now_kept, pending_kept])
  all_goals (try rfl)

@[simp] theorem modPmc_kept (a0 : Pmc → Pmc) (s : State) : kept (modPmc a0 s) = kept s := by
  simp only [modPmc]
  repeat' split
  all_goals (try simp [kept_upd, fuses_kept, now_kept, pending_kept])
  all_goals (try rfl)

@[simp] theorem bookEngine_kept (a0 : Nat) (s : State) : kept (bookEngine a0 s) = kept s := by
  simp only [bookEngine]
  repeat' split
  all_goals (try simp [kept_upd, fuses_kept, now_kept, pending_kept])
  all_goals (try rfl)

@[simp] theorem ledgerTick_kept (s : State) : kept (ledgerTick s) = kept s := by
  simp only [ledgerTick]
  repeat' split
  all_goals (try simp [kept_upd, fuses_kept, now_kept, pending_kept])
  all_goals (try rfl)

@[simp] theorem pmcTick_kept (s : State) : kept (pmcTick s) = kept s := by
  simp only [pmcTick]
  repeat' split
  all_goals (try simp [kept_upd, fuses_kept, now_kept, pending_kept])
  all_goals (try rfl)

@[simp] theorem pmcWrite_kept (a0 : Nat) (a1 : Word) (s : State) : kept (pmcWrite a0 a1 s) = kept s := by
  simp only [pmcWrite]
  repeat' split
  all_goals (try simp [kept_upd, fuses_kept, now_kept, pending_kept])
  all_goals (try rfl)

@[simp] theorem doPmcConfig_kept (a0 : Nat) (a1 : Word) (a2 : Word) (a3 : List (Nat × Word × Word)) (s : State) : kept (doPmcConfig a0 a1 a2 a3 s).2 = kept s := by
  simp only [doPmcConfig]
  repeat' split
  all_goals (try simp [kept_upd, fuses_kept, now_kept, pending_kept])
  all_goals (try rfl)

@[simp] theorem doSampleConfig_kept (a0 : SampleParams) (s : State) : kept (doSampleConfig a0 s).2 = kept s := by
  simp only [doSampleConfig]
  repeat' split
  all_goals (try simp [kept_upd, fuses_kept, now_kept, pending_kept])
  all_goals (try rfl)

@[simp] theorem doTraceConfig_kept (a0 : TraceParams) (s : State) : kept (doTraceConfig a0 s).2 = kept s := by
  simp only [doTraceConfig]
  repeat' split
  all_goals (try simp [kept_upd, fuses_kept, now_kept, pending_kept])
  all_goals (try rfl)

@[simp] theorem doTraceRead_kept (a0 : TraceSel) (a1 : Nat) (s : State) : kept (doTraceRead a0 a1 s).2 = kept s := by
  simp only [doTraceRead]
  repeat' split
  all_goals (try simp [kept_upd, fuses_kept, now_kept, pending_kept])
  all_goals (try rfl)

@[simp] theorem modCmd_kept (a0 : CmdChannel → CmdChannel) (s : State) : kept (modCmd a0 s) = kept s := by
  simp only [modCmd]
  repeat' split
  all_goals (try simp [kept_upd, fuses_kept, now_kept, pending_kept])
  all_goals (try rfl)

@[simp] theorem ringError_kept (a0 : Nat) (s : State) : kept (ringError a0 s) = kept s := by
  simp only [ringError]
  repeat' split
  all_goals (try simp [kept_upd, fuses_kept, now_kept, pending_kept])
  all_goals (try rfl)

@[simp] theorem putSqTail_kept (a0 : Nat) (s : State) : kept (putSqTail a0 s) = kept s := by
  simp only [putSqTail]
  repeat' split
  all_goals (try simp [kept_upd, fuses_kept, now_kept, pending_kept])
  all_goals (try rfl)

@[simp] theorem putRqHead_kept (a0 : Nat) (s : State) : kept (putRqHead a0 s) = kept s := by
  simp only [putRqHead]
  repeat' split
  all_goals (try simp [kept_upd, fuses_kept, now_kept, pending_kept])
  all_goals (try rfl)

@[simp] theorem applyLatched_kept (s : State) : kept (applyLatched s) = kept s := by
  simp only [applyLatched]
  repeat' split
  all_goals (try simp [kept_upd, fuses_kept, now_kept, pending_kept])
  all_goals (try rfl)

@[simp] theorem putRingReg_kept (a0 : Nat) (a1 : Word) (s : State) : kept (putRingReg a0 a1 s) = kept s := by
  simp only [putRingReg]
  repeat' split
  all_goals (try simp [kept_upd, fuses_kept, now_kept, pending_kept])
  all_goals (try rfl)

@[simp] theorem ringWrite_kept (a0 : Nat) (a1 : Word) (s : State) : kept (ringWrite a0 a1 s) = kept s := by
  simp only [ringWrite]
  repeat' split
  all_goals (try simp [kept_upd, fuses_kept, now_kept, pending_kept])
  all_goals (try rfl)

@[simp] theorem resumeServo_kept (a0 : Bool) (a1 : Nat) (s : State) (s1 : State) : kept (resumeServo a0 a1 s s1) = kept s1 := by
  simp only [resumeServo]
  repeat' split
  all_goals (try simp [kept_upd, fuses_kept, now_kept, pending_kept])
  all_goals (try rfl)

@[simp] theorem syncAll_kept (s : State) : kept (syncAll s) = kept s := by
  simp only [syncAll]
  repeat' split
  all_goals (try simp [kept_upd, fuses_kept, now_kept, pending_kept])
  all_goals (try rfl)

@[simp] theorem loseLineBuffers_kept (s : State) : kept (loseLineBuffers s) = kept s := by
  simp only [loseLineBuffers]
  repeat' split
  all_goals (try simp [kept_upd, fuses_kept, now_kept, pending_kept])
  all_goals (try rfl)

@[simp] theorem dropJobs_kept (s : State) : kept (dropJobs s) = kept s := by
  simp only [dropJobs]
  rw [kept_foldl]
  · simp
  · intro s a; simp

@[simp] theorem rewatch_kept (s : State) : kept (rewatch s) = kept s := by
  apply forEach_kept
  intro k s
  split <;> simp

@[simp] theorem losePipe_kept (s : State) : kept (losePipe s) = kept s := by
  simp only [losePipe]
  repeat' split
  all_goals (try simp [kept_upd, fuses_kept, now_kept, pending_kept])
  all_goals (try rfl)

@[simp] theorem loseKeys_kept (a0 : Nat) (s : State) : kept (loseKeys a0 s) = kept s := by
  simp only [loseKeys]
  repeat' split
  all_goals (try simp [kept_upd, fuses_kept, now_kept, pending_kept])
  all_goals (try rfl)

@[simp] theorem integrityFlush_kept (a0 : Nat) (s : State) : kept (integrityFlush a0 s) = kept s := by
  simp only [integrityFlush]
  repeat' split
  all_goals (try simp [kept_upd, fuses_kept, now_kept, pending_kept])
  all_goals (try rfl)

@[simp] theorem loseLineSettings_kept (s : State) : kept (loseLineSettings s) = kept s := by
  simp only [loseLineSettings]
  repeat' split
  all_goals (try simp [kept_upd, fuses_kept, now_kept, pending_kept])
  all_goals (try rfl)

@[simp] theorem loseSwitchSettings_kept (s : State) : kept (loseSwitchSettings s) = kept s := by
  simp only [loseSwitchSettings]
  repeat' split
  all_goals (try simp [kept_upd, fuses_kept, now_kept, pending_kept])
  all_goals (try rfl)

@[simp] theorem loseControlSettings_kept (s : State) : kept (loseControlSettings s) = kept s := by
  simp only [loseControlSettings]
  repeat' split
  all_goals (try simp [kept_upd, fuses_kept, now_kept, pending_kept])
  all_goals (try rfl)

@[simp] theorem loseBank_kept (a0 : Nat) (s : State) : kept (loseBank a0 s) = kept s := by
  simp only [loseBank]
  repeat' split
  all_goals (try simp [kept_upd, fuses_kept, now_kept, pending_kept])
  all_goals (try rfl)

@[simp] theorem loseDoldrums_kept (s : State) : kept (loseDoldrums s) = kept s := by
  simp only [loseDoldrums]
  repeat' split
  all_goals (try simp [kept_upd, fuses_kept, now_kept, pending_kept])
  all_goals (try rfl)

@[simp] theorem modPwr_kept (a0 : Power → Power) (s : State) : kept (modPwr a0 s) = kept s := by
  simp only [modPwr]
  repeat' split
  all_goals (try simp [kept_upd, fuses_kept, now_kept, pending_kept])
  all_goals (try rfl)

@[simp] theorem stopBursts_kept (a0 : Bool) (s : State) : kept (stopBursts a0 s) = kept s := by
  simp only [stopBursts]
  repeat' split
  all_goals (try simp [kept_upd, fuses_kept, now_kept, pending_kept])
  all_goals (try rfl)

@[simp] theorem abortStaging_kept (p : Cmd → Bool) (s : State) : kept (abortStaging p s) = kept s := by
  apply forEach_kept
  intro g s
  split <;> simp

@[simp] theorem putHostVote_kept (a0 : Word) (s : State) : kept (putHostVote a0 s) = kept s := by
  simp only [putHostVote]
  repeat' split
  all_goals (try simp [kept_upd, fuses_kept, now_kept, pending_kept])
  all_goals (try rfl)

@[simp] theorem doPowerStatus_kept (s : State) : kept (doPowerStatus s).2 = kept s := by
  simp only [doPowerStatus]
  repeat' split
  all_goals (try simp [kept_upd, fuses_kept, now_kept, pending_kept])
  all_goals (try rfl)

@[simp] theorem doPowerVote_kept (a0 : Word) (s : State) : kept (doPowerVote a0 s).2 = kept s := by
  simp only [doPowerVote]
  repeat' split
  all_goals (try simp [kept_upd, fuses_kept, now_kept, pending_kept])
  all_goals (try rfl)

@[simp] theorem doPowerSchedule_kept (a0 : PowerState) (a1 : Instant) (a2 : BitVec 4) (a3 : Option Instant) (s : State) : kept (doPowerSchedule a0 a1 a2 a3 s).2 = kept s := by
  simp only [doPowerSchedule]
  repeat' split
  all_goals (try simp [kept_upd, fuses_kept, now_kept, pending_kept])
  all_goals (try rfl)

@[simp] theorem doPowerRetentionStatus_kept (s : State) : kept (doPowerRetentionStatus s).2 = kept s := by
  simp only [doPowerRetentionStatus]
  repeat' split
  all_goals (try simp [kept_upd, fuses_kept, now_kept, pending_kept])
  all_goals (try rfl)

@[simp] theorem finishCommands_kept (s : State) : kept (finishCommands s) = kept s := by
  simp [finishCommands, kept_iter]

@[simp] theorem allLasersOff_kept (s : State) : kept (allLasersOff s) = kept s := by
  simp only [allLasersOff]
  repeat' split
  all_goals (try simp [kept_upd, fuses_kept, now_kept, pending_kept])
  all_goals (try rfl)

@[simp] theorem enterDoldrums_kept (a0 : Option Instant) (s : State) : kept (enterDoldrums a0 s) = kept s := by
  simp only [enterDoldrums]
  repeat' split
  all_goals (try simp [kept_upd, fuses_kept, now_kept, pending_kept])
  all_goals (try rfl)

@[simp] theorem applyPower_kept (a0 : Sched) (s : State) : kept (applyPower a0 s) = kept s := by
  simp only [applyPower]
  repeat' split
  all_goals (try simp [kept_upd, fuses_kept, now_kept, pending_kept])
  all_goals (try rfl)

@[simp] theorem doDeviceInfo_kept (s : State) : kept (doDeviceInfo s).2 = kept s := by
  simp only [doDeviceInfo]
  repeat' split
  all_goals (try simp [kept_upd, fuses_kept, now_kept, pending_kept])
  all_goals (try rfl)

@[simp] theorem doDeviceStatus_kept (s : State) : kept (doDeviceStatus s).2 = kept s := by
  simp only [doDeviceStatus]
  repeat' split
  all_goals (try simp [kept_upd, fuses_kept, now_kept, pending_kept])
  all_goals (try rfl)

@[simp] theorem doDeviceReset_kept (a0 : ResetKind) (s : State) : kept (doDeviceReset a0 s).2 = kept s := by
  simp only [doDeviceReset]
  repeat' split
  all_goals (try simp [kept_upd, fuses_kept, now_kept, pending_kept])
  all_goals (try rfl)

@[simp] theorem doDevicePing_kept (a0 : List Byte) (s : State) : kept (doDevicePing a0 s).2 = kept s := by
  simp only [doDevicePing]
  repeat' split
  all_goals (try simp [kept_upd, fuses_kept, now_kept, pending_kept])
  all_goals (try rfl)

@[simp] theorem survivors_kept (s : State) : kept (survivors s) = kept s := by
  simp only [survivors]
  repeat' split
  all_goals (try simp [kept_upd, fuses_kept, now_kept, pending_kept])
  all_goals (try rfl)

@[simp] theorem warmReset_kept (a0 : Nat) (s : State) : kept (warmReset a0 s) = kept s := by
  simp only [warmReset]
  repeat' split
  all_goals (try simp [kept_upd, fuses_kept, now_kept, pending_kept])
  all_goals (try rfl)

@[simp] theorem resetCarrier_kept (a0 : Nat) (s : State) : kept (resetCarrier a0 s) = kept s := by
  simp only [resetCarrier]
  repeat' split
  all_goals (try simp [kept_upd, fuses_kept, now_kept, pending_kept])
  all_goals (try rfl)

@[simp] theorem carryTime_kept (s : State) : kept (carryTime s) = kept s := by
  simp only [carryTime]
  repeat' split
  all_goals (try simp [kept_upd, fuses_kept, now_kept, pending_kept])
  all_goals (try rfl)

@[simp] theorem domainReset_kept (a0 : Nat) (s : State) : kept (domainReset a0 s) = kept s := by
  simp only [domainReset]
  repeat' split
  all_goals (try simp [kept_upd, fuses_kept, now_kept, pending_kept])
  all_goals (try rfl)

@[simp] theorem stopBoot_kept (s : State) : kept (stopBoot s) = kept s := by
  simp only [stopBoot]
  repeat' split
  all_goals (try simp [kept_upd, fuses_kept, now_kept, pending_kept])
  all_goals (try rfl)

@[simp] theorem toStage_kept (a0 : Nat) (s : State) : kept (toStage a0 s) = kept s := by
  simp only [toStage]
  repeat' split
  all_goals (try simp [kept_upd, fuses_kept, now_kept, pending_kept])
  all_goals (try rfl)

@[simp] theorem selfTestStage_kept (a0 : StageResult) (s : State) : kept (selfTestStage a0 s) = kept s := by
  simp only [selfTestStage]
  repeat' split
  all_goals (try simp [kept_upd, fuses_kept, now_kept, pending_kept])
  all_goals (try rfl)

@[simp] theorem becomeReady_kept (s : State) : kept (becomeReady s) = kept s := by
  simp only [becomeReady]
  repeat' split
  all_goals (try simp [kept_upd, fuses_kept, now_kept, pending_kept])
  all_goals (try rfl)

@[simp] theorem nextWakeStep_kept (a0 : Wake) (s : State) : kept (nextWakeStep a0 s) = kept s := by
  simp only [nextWakeStep]
  repeat' split
  all_goals (try simp [kept_upd, fuses_kept, now_kept, pending_kept])
  all_goals (try rfl)

@[simp] theorem wakeTick_kept (s : State) : kept (wakeTick s) = kept s := by
  simp only [wakeTick]
  repeat' split
  all_goals (try simp [kept_upd, fuses_kept, now_kept, pending_kept])
  all_goals (try rfl)

@[simp] theorem wakeTargets_kept (s : State) : kept (wakeTargets s) = kept s := by
  simp only [wakeTargets]
  repeat' split
  all_goals (try simp [kept_upd, fuses_kept, now_kept, pending_kept])
  all_goals (try rfl)

@[simp] theorem wakeDone_kept (a0 : Wake) (s : State) : kept (wakeDone a0 s) = kept s := by
  simp only [wakeDone]
  repeat' split
  all_goals (try simp [kept_upd, fuses_kept, now_kept, pending_kept])
  all_goals (try rfl)

@[simp] theorem aonWrite_kept (a0 : Nat) (a1 : Word) (s : State) : kept (aonWrite a0 a1 s) = kept s := by
  simp only [aonWrite]
  repeat' split
  all_goals (try simp [kept_upd, fuses_kept, now_kept, pending_kept])
  all_goals (try rfl)

@[simp] theorem holdLine_kept (s : State) : kept (holdLine s) = kept s := by
  simp only [holdLine]
  repeat' split
  all_goals (try simp [kept_upd, fuses_kept, now_kept, pending_kept])
  all_goals (try rfl)

@[simp] theorem loseHbm_kept (s : State) : kept (loseHbm s) = kept s := by
  simp only [loseHbm]
  repeat' split
  all_goals (try simp [kept_upd, fuses_kept, now_kept, pending_kept])
  all_goals (try rfl)

@[simp] theorem setLink_kept (a0 : Nat) (a1 : Nat) (a2 : Nat) (s : State) : kept (setLink a0 a1 a2 s) = kept s := by
  simp only [setLink]
  repeat' split
  all_goals (try simp [kept_upd, fuses_kept, now_kept, pending_kept])
  all_goals (try rfl)

@[simp] theorem logFinding_kept (a0 : Finding) (s : State) : kept (logFinding a0 s) = kept s := by
  simp only [logFinding]
  repeat' split
  all_goals (try simp [kept_upd, fuses_kept, now_kept, pending_kept])
  all_goals (try rfl)

@[simp] theorem oncePerSecond_kept (n : Nat) (k : State → State) (s : State) (h : ∀ s, kept (k s) = kept s) : kept (oncePerSecond n k s) = kept s := by
  simp only [oncePerSecond]
  repeat' split
  all_goals (try simp [h, kept_upd, fuses_kept, now_kept, pending_kept])
  all_goals (try rfl)
  all_goals (try simp only [h, draw_kept])

@[simp] theorem correctedError_kept (a0 : Finding) (s : State) : kept (correctedError a0 s) = kept s := by
  simp only [correctedError]
  repeat' split
  all_goals (try simp [kept_upd, fuses_kept, now_kept, pending_kept])
  all_goals (try rfl)

@[simp] theorem pickBelow_kept (a0 : Nat) (s : State) : kept (pickBelow a0 s).2 = kept s := by
  simp only [pickBelow]
  repeat' split
  all_goals (try simp [kept_upd, fuses_kept, now_kept, pending_kept])
  all_goals (try rfl)

@[simp] theorem dropWaiting_kept (f : Pkt → State → State) (s : State) (h : ∀ p s, kept (f p s) = kept s) :
    kept (dropWaiting f s) = kept s := by
  simp only [dropWaiting]; split
  · simp
  · simp [h, kept_upd, fuses_kept, now_kept, pending_kept]

@[simp] theorem dropFrame_kept (s : State) : kept (dropFrame s) = kept s := by
  simp only [dropFrame]
  repeat' split
  all_goals (try simp [kept_upd, fuses_kept, now_kept, pending_kept])
  all_goals (try rfl)

@[simp] theorem badCell_kept (s : State) : kept (badCell s) = kept s := by
  simp only [badCell]
  repeat' split
  all_goals (try simp [kept_upd, fuses_kept, now_kept, pending_kept])
  all_goals (try rfl)

@[simp] theorem breakFlow_kept (s : State) : kept (breakFlow s) = kept s := by
  simp only [breakFlow]
  repeat' split
  all_goals (try simp [kept_upd, fuses_kept, now_kept, pending_kept])
  all_goals (try rfl)

@[simp] theorem breakAction_kept (s : State) : kept (breakAction s) = kept s := by
  simp only [breakAction]
  repeat' split
  all_goals (try simp [kept_upd, fuses_kept, now_kept, pending_kept])
  all_goals (try rfl)

@[simp] theorem restartState_kept (a0 : Nat) (s : State) : kept (restartState a0 s) = kept s := by
  simp only [restartState]
  repeat' split
  all_goals (try simp [kept_upd, fuses_kept, now_kept, pending_kept])
  all_goals (try rfl)

@[simp] theorem misplace_kept (s : State) : kept (misplace s) = kept s := by
  simp only [misplace]
  repeat' split
  all_goals (try simp [kept_upd, fuses_kept, now_kept, pending_kept])
  all_goals (try rfl)

@[simp] theorem skipGate_kept (a0 : Nat) (s : State) : kept (skipGate a0 s) = kept s := by
  simp only [skipGate]
  repeat' split
  all_goals (try simp [kept_upd, fuses_kept, now_kept, pending_kept])
  all_goals (try rfl)

@[simp] theorem timeMismatch_kept (s : State) : kept (timeMismatch s) = kept s := by
  simp only [timeMismatch]
  repeat' split
  all_goals (try simp [kept_upd, fuses_kept, now_kept, pending_kept])
  all_goals (try rfl)

@[simp] theorem rangingMismatch_kept (a0 : Nat) (s : State) : kept (rangingMismatch a0 s) = kept s := by
  simp only [rangingMismatch]
  repeat' split
  all_goals (try simp [kept_upd, fuses_kept, now_kept, pending_kept])
  all_goals (try rfl)

@[simp] theorem engineMismatch_kept (a0 : Nat) (s : State) : kept (engineMismatch a0 s) = kept s := by
  simp only [engineMismatch]
  repeat' split
  all_goals (try simp [kept_upd, fuses_kept, now_kept, pending_kept])
  all_goals (try rfl)

@[simp] theorem engineRestarts_kept (a0 : Bool) (a1 : Nat) (s : State) : kept (engineRestarts a0 a1 s) = kept s := by
  simp only [engineRestarts]
  repeat' split
  all_goals (try simp [kept_upd, fuses_kept, now_kept, pending_kept])
  all_goals (try rfl)

@[simp] theorem unitOutcome_kept (a0 : Finding) (s : State) : kept (unitOutcome a0 s) = kept s := by
  simp only [unitOutcome]
  repeat' split
  all_goals (try simp [kept_upd, fuses_kept, now_kept, pending_kept])
  all_goals (try rfl)

@[simp] theorem placeError_kept (a0 : Finding) (s : State) : kept (placeError a0 s) = kept s := by
  simp only [placeError]
  repeat' split
  all_goals (try simp [kept_upd, fuses_kept, now_kept, pending_kept])
  all_goals (try rfl)

@[simp] theorem dropping_kept (b : Body) (s : State) (h : ∀ s, kept (b s).2 = kept s) : kept (dropping b s).2 = kept s := by
  simp [dropping, h]

@[simp] theorem bodyOf_kept (h : Hdr) (c : Cmd) (s : State) (hc : Cmd.opcode c ≠ 0x0904) (hf : Cmd.opcode c ≠ 0x0104) :
    kept (bodyOf h c s).2 = kept s := by
  cases c <;> first | exact absurd rfl hc | exact absurd rfl hf | simp [bodyOf]

@[simp] theorem takeUp_kept (a0 : Hdr) (s : State) : kept (takeUp a0 s) = kept s := by
  simp only [takeUp]
  repeat' split
  all_goals (try simp [kept_upd, fuses_kept, now_kept, pending_kept])
  all_goals (try rfl)

@[simp] theorem keepOpen_kept (a0 : Hdr) (a1 : Cmd) (s : State) : kept (keepOpen a0 a1 s) = kept s := by
  simp only [keepOpen]
  repeat' split
  all_goals (try simp [kept_upd, fuses_kept, now_kept, pending_kept])
  all_goals (try rfl)

@[simp] theorem refusePacket_kept (a0 : Hdr) (a1 : Nat) (a2 : Status) (s : State) : kept (refusePacket a0 a1 a2 s) = kept s := by
  simp only [refusePacket]
  repeat' split
  all_goals (try simp [kept_upd, fuses_kept, now_kept, pending_kept])
  all_goals (try rfl)

@[simp] theorem showTop_kept (a0 : Nat) (s : State) : kept (showTop a0 s) = kept s := by
  simp only [showTop]
  repeat' split
  all_goals (try simp [kept_upd, fuses_kept, now_kept, pending_kept])
  all_goals (try rfl)

@[simp] theorem evcTick_kept (s : State) : kept (evcTick s) = kept s := by
  simp only [evcTick]
  repeat' split
  all_goals (try simp [kept_upd, fuses_kept, now_kept, pending_kept])
  all_goals (try rfl)

end Sys2Proof.Machine
end

