-- ==== Sys2Proof/WellFormed.lean ====
section
/-! DEFINITION. Well-formed commands: every number an encoding or the block's own numbering bounds is inside its bounds
(Tables 0-2, 11-1, 11-3, 13-3). Nothing else asks for it: the meanings answer every operand. -/

namespace Sys2Proof

/-- A header's GROUP and PARAM_LEN are within Table 11-1. -/
def Hdr.wellFormed (h : Hdr) : Bool := decide (h.group < 256 ∧ h.len ≤ 4194304)

/-- A packet's header has its 16 bytes (Table 11-1). -/
def Packet.wellFormed (p : Packet) : Bool := p.header.length == 16

/-- The Palgil command that a row starts, with its header; none for a row that is no Palgil command. -/
def Instr.palgil (i : Instr) : Option (Hdr × Cmd) :=
  match i with
  | .timeStatus h => some (h, .timeStatus)
  | .timeCapture h input max => some (h, (.timeCapture input max))
  | .timeCaptureConfig h input enable falling => some (h, (.timeCaptureConfig input enable falling))
  | .timeOutputSet h p => some (h, (.timeOutputSet p))
  | .timeSplitSet h alpha => some (h, (.timeSplitSet alpha))
  | .timeAsymmetrySet h a clear => some (h, (.timeAsymmetrySet a clear))
  | .timeHoldoverSet h y d limit squelch => some (h, (.timeHoldoverSet y d limit squelch))
  | .timePtpSet h port enable domain altAddr twoStep => some (h, (.timePtpSet port enable domain altAddr twoStep))
  | .timeSynceSet h port enable qlTrack qlHold => some (h, (.timeSynceSet port enable qlTrack qlHold))
  | .timeCarrierSet h carrier => some (h, (.timeCarrierSet carrier))
  | .carrierConfig h n p => some (h, (.carrierConfig n p))
  | .carrierEnable h n => some (h, (.carrierEnable n))
  | .carrierDisable h n => some (h, (.carrierDisable n))
  | .carrierStatus h n => some (h, (.carrierStatus n))
  | .carrierGateSet h n p => some (h, (.carrierGateSet n p))
  | .carrierGateCeiling h n ceil => some (h, (.carrierGateCeiling n ceil))
  | .carrierFeLoad h n script => some (h, (.carrierFeLoad n script))
  | .carrierFeAccess h n t => some (h, (.carrierFeAccess n t))
  | .carrierMonitor h n => some (h, (.carrierMonitor n))
  | .carrierHintClear h n => some (h, (.carrierHintClear n))
  | .regEnable h => some (h, .regEnable)
  | .regDisable h => some (h, .regDisable)
  | .regStatus h => some (h, .regStatus)
  | .regConfig h carrier tResume_ => some (h, (.regConfig carrier tResume_))
  | .regHeadlistSet h heads => some (h, (.regHeadlistSet heads))
  | .regEpochReset h => some (h, .regEpochReset)
  | .grantStats h n => some (h, (.grantStats n))
  | .forecastConfig h n a b => some (h, (.forecastConfig n a b))
  | .forecastRead h n => some (h, (.forecastRead n))
  | .frameStatus h n => some (h, (.frameStatus n))
  | .cellStats h n => some (h, (.cellStats n))
  | .cellGroupsSet h bitmap => some (h, (.cellGroupsSet bitmap))
  | .mchConfig h ch enable carrier rate => some (h, (.mchConfig ch enable carrier rate))
  | .mchStats h ch => some (h, (.mchStats ch))
  | .tribPageWrite h first entries => some (h, (.tribPageWrite first entries))
  | .tribPageSwap h instant fence => some (h, (.tribPageSwap instant fence))
  | .tribPageRead h active => some (h, (.tribPageRead active))
  | .tribStatus h => some (h, .tribStatus)
  | .flowInsert h e key => some (h, (.flowInsert e key))
  | .flowModify h profile key e => some (h, (.flowModify profile key e))
  | .flowDelete h profile key => some (h, (.flowDelete profile key))
  | .flowLookup h profile key => some (h, (.flowLookup profile key))
  | .flowActionWrite h idx acts => some (h, (.flowActionWrite idx acts))
  | .ternaryWrite h idx e value mask => some (h, (.ternaryWrite idx e value mask))
  | .ternaryDelete h idx => some (h, (.ternaryDelete idx))
  | .parseNodeSet h node d => some (h, (.parseNodeSet node d))
  | .classProfileSet h profile exact ternary => some (h, (.classProfileSet profile exact ternary))
  | .classDefaultSet h port actionSet profile => some (h, (.classDefaultSet port actionSet profile))
  | .classStatus h => some (h, .classStatus)
  | .flowScan h first count => some (h, (.flowScan first count))
  | .queueCreate h q assoc cls group p => some (h, (.queueCreate q assoc cls group p))
  | .queueDelete h q => some (h, (.queueDelete q))
  | .queueSet h q p => some (h, (.queueSet q p))
  | .queueStatus h q => some (h, (.queueStatus q))
  | .queueFlush h q => some (h, (.queueFlush q))
  | .schedNodeSet h assoc cls weight shaper expedite => some (h, (.schedNodeSet assoc cls weight shaper expedite))
  | .egressConfig h port queues shaper => some (h, (.egressConfig port queues shaper))
  | .policerSet h idx p refill => some (h, (.policerSet idx p refill))
  | .policerRead h idx clear => some (h, (.policerRead idx clear))
  | .gateListSet h port g => some (h, (.gateListSet port g))
  | .gateStatus h port => some (h, (.gateStatus port))
  | .barometerWatch h slot p => some (h, (.barometerWatch slot p))
  | .barometerRead h slot clear => some (h, (.barometerRead slot clear))
  | .storeStatus h => some (h, .storeStatus)
  | .laneConfig h lane txInv rxInv preset => some (h, (.laneConfig lane txInv rxInv preset))
  | .laneRefclkSet h t => some (h, (.laneRefclkSet t))
  | .laneStatus h lane => some (h, (.laneStatus lane))
  | .laneMonitorSet h lane m => some (h, (.laneMonitorSet lane m))
  | .lanePatternRead h lane clear => some (h, (.lanePatternRead lane clear))
  | .dieStatus h => some (h, .dieStatus)
  | .dieRetrain h widen => some (h, (.dieRetrain widen))
  | .portConfig h port p => some (h, (.portConfig port p))
  | .portStatus h port => some (h, (.portStatus port))
  | .portFilterSet h port p => some (h, (.portFilterSet port p))
  | .portPauseSet h port p => some (h, (.portPauseSet port p))
  | .portTsConfig h port rx tx => some (h, (.portTsConfig port rx tx))
  | .portTsRead h port max => some (h, (.portTsRead port max))
  | .portLpiSet h port enable idleHold rxTw => some (h, (.portLpiSet port enable idleHold rxTw))
  | .portSleep h port sleep wakeOnTx => some (h, (.portSleep port sleep wakeOnTx))
  | .statsSnapshot h instant ports => some (h, (.statsSnapshot instant ports))
  | .statsRead h buffer release => some (h, (.statsRead buffer release))
  | .portStatsRead h port clear => some (h, (.portStatsRead port clear))
  | .secStatus h => some (h, .secStatus)
  | .secIdentity h => some (h, .secIdentity)
  | .secChallenge h => some (h, .secChallenge)
  | .secOwnerEnrol h challenge digest sigEcOk sigMldsaOk => some (h, (.secOwnerEnrol challenge digest sigEcOk sigMldsaOk))
  | .secAssocCreate h idx p => some (h, (.secAssocCreate idx p))
  | .secAssocRekey h idx => some (h, (.secAssocRekey idx))
  | .secAssocDelete h idx => some (h, (.secAssocDelete idx))
  | .secAssocStatus h idx => some (h, (.secAssocStatus idx))
  | .secAssocConfig h idx threshold hold => some (h, (.secAssocConfig idx threshold hold))
  | .secAssocResume h idx => some (h, (.secAssocResume idx))
  | .secSidechannelSet h dmax => some (h, (.secSidechannelSet dmax))
  | .secDebugUnlock h => some (h, .secDebugUnlock)
  | .secCompatSet h enable => some (h, (.secCompatSet enable))
  | .cipherJob h isSeal idx addr len urgent => some (h, (.cipherJob isSeal idx addr len urgent))
  | .deviceInfo h => some (h, .deviceInfo)
  | .deviceStatus h => some (h, .deviceStatus)
  | .deviceReset h k => some (h, (.deviceReset k))
  | .deviceFwLoad h offset len last => some (h, (.deviceFwLoad offset len last))
  | .devicePing h bytes => some (h, (.devicePing bytes))
  | .commitOpen h timeout => some (h, (.commitOpen timeout))
  | .commitApply h g instant => some (h, (.commitApply g instant))
  | .commitAbort h g => some (h, (.commitAbort g))
  | .commitStatus h g => some (h, (.commitStatus g))
  | .powerStatus h => some (h, .powerStatus)
  | .powerVote h word => some (h, (.powerVote word))
  | .powerSchedule h target instant carriers wakeAt => some (h, (.powerSchedule target instant carriers wakeAt))
  | .powerRetentionStatus h => some (h, .powerRetentionStatus)
  | .engineProgramLoad h img limit => some (h, (.engineProgramLoad img limit))
  | .engineProgramUnload h prog => some (h, (.engineProgramUnload prog))
  | .engineStatus h => some (h, .engineStatus)
  | .engineExceptionRead h down max => some (h, (.engineExceptionRead down max))
  | .pmcConfig h n evsel filt ranges => some (h, (.pmcConfig n evsel filt ranges))
  | .sampleConfig h p => some (h, (.sampleConfig p))
  | .traceConfig h p => some (h, (.traceConfig p))
  | .traceRead h sel max => some (h, (.traceRead sel max))
  | .cmdSqTailWrite _ => none
  | .cmdRqHeadWrite _ => none
  | .cmdCtrlEnWrite _ => none
  | .ringSubmissionFetch _ _ _ => none
  | .writeCmd _ => none
  | .readReply => none
  | .readStatus => none
  | .inbandCommandFrame _ _ _ => none
  | .registerWrite _ _ => none
  | .timeNowLoRead _ => none
  | .timeNowHiRead _ _ => none
  | .tpWrite _ _ => none
  | .tptTimeNowLoRead => none
  | .capLoRead _ => none
  | .capLostRead _ => none
  | .evcClaim _ => none
  | .evcComplete _ _ => none
  | .evcTrigger _ => none
  | .evcDiscard _ => none
  | .evcPendingWrite _ _ => none
  | .evcMaskWrite _ _ => none
  | .evcIntegPop => none
  | .evcIntegLostRead => none
  | .evcIntegCorrRead => none
  | .pmcCntLoRead _ => none
  | .pmcCntWrite _ _ _ => none
  | .pmcFreezeWrite _ => none
  | .aonWakeReq _ => none
  | .aonVoteHostWrite _ => none
  | .aonHoldNsRead => none
  | .porstAssert => none
  | .resetNAssert => none
  | .bootStart => none
  | .bootStageComplete _ => none
  | .watchdogReset => none
  | .commandResetStart => none
  | .pciePerstAssert => none
  | .pcieLinkChange _ _ _ => none
  | .supplyFault _ => none
  | .thermalWarn _ _ => none
  | .thermalTrip _ => none
  | .hardwareStop => none
  | .ocxoFail => none
  | .refclkRecovered => none
  | .laneRefFault _ => none
  | .tcapEdge _ _ _ => none
  | .ppsInEdge _ => none
  | .servoTrackEntry => none
  | .servoStampTimeout => none
  | .holdoverLimit => none
  | .downstreamFrame _ _ => none
  | .superframeVerified _ _ => none
  | .rangeAssign _ _ => none
  | .regConfirm _ _ _ => none
  | .rangeUpdate _ _ => none
  | .resume _ _ => none
  | .deregister _ _ => none
  | .keyRoll _ _ _ => none
  | .msgTimeout _ _ => none
  | .regEvaluation => none
  | .rangingTimeout => none
  | .tResume => none
  | .gust => none
  | .gustUnanswered => none
  | .rangingBurst => none
  | .burstDraw _ => none
  | .burstEmission _ => none
  | .forecastUpdate => none
  | .tuneComplete _ => none
  | .tuneTimeout _ => none
  | .carrierLocked _ _ _ _ _ => none
  | .acqTimeout _ => none
  | .carrierLost _ _ => none
  | .lostTimeout _ => none
  | .laserFineTune _ _ => none
  | .feDuty _ _ _ _ => none
  | .spiTimeout _ _ _ => none
  | .gateFault _ _ _ => none
  | .carrierSecond _ _ => none
  | .mchPortFrame _ _ => none
  | .mchUpstreamCell _ => none
  | .tribSwap => none
  | .fenceTimeout _ => none
  | .frameReceive _ _ => none
  | .pauseTimerExpiry _ _ => none
  | .pauseWatchdog _ _ => none
  | .pauseWatchdogRecovery _ _ => none
  | .pauseRefresh _ _ => none
  | .pipelinePass _ _ => none
  | .flowCacheFill _ => none
  | .programDispatch _ _ => none
  | .dispatchTimeout _ => none
  | .callReturn _ _ _ _ => none
  | .waitAuth _ => none
  | .programTimeException _ => none
  | .engineReload _ => none
  | .engineRestart _ _ => none
  | .generationDrain => none
  | .writeInComplete => none
  | .sealPacket => none
  | .segmentation => none
  | .ageCheck => none
  | .unsealPacket => none
  | .tagResult _ _ => none
  | .reassemblyTimeout _ _ _ => none
  | .hello _ => none
  | .reply _ => none
  | .confirmI _ => none
  | .confirmR _ => none
  | .close _ => none
  | .helloRetry _ => none
  | .confirmTimeout _ => none
  | .peerTimeout _ => none
  | .armExpired _ => none
  | .oldKeyHold _ => none
  | .challengeLapse => none
  | .rngFail => none
  | .egressFrameStart _ => none
  | .egressAge _ _ => none
  | .hostFrameSend _ => none
  | .portUp _ => none
  | .portDown _ _ => none
  | .lpiEntry _ => none
  | .lpiWake _ => none
  | .lldpTransmit _ => none
  | .portWake _ => none
  | .laneLos _ => none
  | .laneLol _ => none
  | .laneAlignLock _ _ => none
  | .laneAlignLost _ _ => none
  | .laneBerHigh _ _ => none
  | .lanePatternLock _ _ _ _ _ => none
  | .dieLaneSpared _ _ => none
  | .dieLaneLoss _ _ => none
  | .dieRetrainComplete _ _ => none
  | .dieSplit => none
  | .splitRetrainAttempt _ _ => none
  | .commitReadinessCheck _ => none
  | .commitInstant _ => none
  | .groupLapsed _ => none
  | .groupFree _ => none
  | .gateListStart _ => none
  | .gateEvent _ => none
  | .wheelSlot => none
  | .barometerSample _ => none
  | .snapshotDue _ => none
  | .powerScheduleDue => none
  | .wakeRequest _ => none
  | .wakeStepReady _ => none
  | .wakeStepTimeout _ => none
  | .coalescingTimer _ => none
  | .scrub _ => none
  | .timeOutputEdge _ => none
  | .carrierDisableComplete _ => none
  | .mchPortTransmit _ => none
  | .partnerLpi _ _ => none
  | .laneSignalDetect _ => none
  | .laneCdrLock _ => none
  | .rngRecovered => none
  | .msixVectorUnmask _ => none
  | .pmcCounterWrap _ => none
  | .thermalTripClear => none
  | .ptpMessageTransmit _ _ => none
  | .esmcTransmit _ => none

/-- The numbers in a command are inside their bounds: carriers 0 to 3, ports and lanes 0 to 31, die-link lanes 0 to 23,
egress queues and classes 0 to 7, packet headers and ring entries of 16 and 32 bytes, channels and targets 0 to 3, counters 0 to 63, groups 0 to 255, associations 0 to 4,095,
register offsets whole words of BAR0. -/
def Instr.wellFormed (i : Instr) : Bool :=
  match i with
  | .timeStatus h => h.wellFormed
  | .timeCapture h _ _ => h.wellFormed
  | .timeCaptureConfig h _ _ _ => h.wellFormed
  | .timeOutputSet h _ => h.wellFormed
  | .timeSplitSet h _ => h.wellFormed
  | .timeAsymmetrySet h _ _ => h.wellFormed
  | .timeHoldoverSet h _ _ _ _ => h.wellFormed
  | .timePtpSet h _ _ _ _ _ => h.wellFormed
  | .timeSynceSet h _ _ _ _ => h.wellFormed
  | .timeCarrierSet h _ => h.wellFormed
  | .carrierConfig h _ _ => h.wellFormed
  | .carrierEnable h _ => h.wellFormed
  | .carrierDisable h _ => h.wellFormed
  | .carrierStatus h _ => h.wellFormed
  | .carrierGateSet h _ _ => h.wellFormed
  | .carrierGateCeiling h _ _ => h.wellFormed
  | .carrierFeLoad h _ _ => h.wellFormed
  | .carrierFeAccess h _ _ => h.wellFormed
  | .carrierMonitor h _ => h.wellFormed
  | .carrierHintClear h _ => h.wellFormed
  | .regEnable h => h.wellFormed
  | .regDisable h => h.wellFormed
  | .regStatus h => h.wellFormed
  | .regConfig h _ _ => h.wellFormed
  | .regHeadlistSet h _ => h.wellFormed
  | .regEpochReset h => h.wellFormed
  | .grantStats h _ => h.wellFormed
  | .forecastConfig h _ _ _ => h.wellFormed
  | .forecastRead h _ => h.wellFormed
  | .frameStatus h _ => h.wellFormed
  | .cellStats h _ => h.wellFormed
  | .cellGroupsSet h _ => h.wellFormed
  | .mchConfig h _ _ _ _ => h.wellFormed
  | .mchStats h _ => h.wellFormed
  | .tribPageWrite h _ _ => h.wellFormed
  | .tribPageSwap h _ _ => h.wellFormed
  | .tribPageRead h _ => h.wellFormed
  | .tribStatus h => h.wellFormed
  | .flowInsert h _ _ => h.wellFormed
  | .flowModify h _ _ _ => h.wellFormed
  | .flowDelete h _ _ => h.wellFormed
  | .flowLookup h _ _ => h.wellFormed
  | .flowActionWrite h _ _ => h.wellFormed
  | .ternaryWrite h _ _ _ _ => h.wellFormed
  | .ternaryDelete h _ => h.wellFormed
  | .parseNodeSet h _ _ => h.wellFormed
  | .classProfileSet h _ _ _ => h.wellFormed
  | .classDefaultSet h _ _ _ => h.wellFormed
  | .classStatus h => h.wellFormed
  | .flowScan h _ _ => h.wellFormed
  | .queueCreate h _ _ _ _ _ => h.wellFormed
  | .queueDelete h _ => h.wellFormed
  | .queueSet h _ _ => h.wellFormed
  | .queueStatus h _ => h.wellFormed
  | .queueFlush h _ => h.wellFormed
  | .schedNodeSet h _ _ _ _ _ => h.wellFormed
  | .egressConfig h _ _ _ => h.wellFormed
  | .policerSet h _ _ _ => h.wellFormed
  | .policerRead h _ _ => h.wellFormed
  | .gateListSet h _ _ => h.wellFormed
  | .gateStatus h _ => h.wellFormed
  | .barometerWatch h _ _ => h.wellFormed
  | .barometerRead h _ _ => h.wellFormed
  | .storeStatus h => h.wellFormed
  | .laneConfig h _ _ _ _ => h.wellFormed
  | .laneRefclkSet h _ => h.wellFormed
  | .laneStatus h _ => h.wellFormed
  | .laneMonitorSet h _ _ => h.wellFormed
  | .lanePatternRead h _ _ => h.wellFormed
  | .dieStatus h => h.wellFormed
  | .dieRetrain h _ => h.wellFormed
  | .portConfig h _ _ => h.wellFormed
  | .portStatus h _ => h.wellFormed
  | .portFilterSet h _ _ => h.wellFormed
  | .portPauseSet h _ _ => h.wellFormed
  | .portTsConfig h _ _ _ => h.wellFormed
  | .portTsRead h _ _ => h.wellFormed
  | .portLpiSet h _ _ _ _ => h.wellFormed
  | .portSleep h _ _ _ => h.wellFormed
  | .statsSnapshot h _ _ => h.wellFormed
  | .statsRead h _ _ => h.wellFormed
  | .portStatsRead h _ _ => h.wellFormed
  | .secStatus h => h.wellFormed
  | .secIdentity h => h.wellFormed
  | .secChallenge h => h.wellFormed
  | .secOwnerEnrol h _ _ _ _ => h.wellFormed
  | .secAssocCreate h _ _ => h.wellFormed
  | .secAssocRekey h _ => h.wellFormed
  | .secAssocDelete h _ => h.wellFormed
  | .secAssocStatus h _ => h.wellFormed
  | .secAssocConfig h _ _ _ => h.wellFormed
  | .secAssocResume h _ => h.wellFormed
  | .secSidechannelSet h _ => h.wellFormed
  | .secDebugUnlock h => h.wellFormed
  | .secCompatSet h _ => h.wellFormed
  | .cipherJob h _ _ _ _ _ => h.wellFormed
  | .deviceInfo h => h.wellFormed
  | .deviceStatus h => h.wellFormed
  | .deviceReset h _ => h.wellFormed
  | .deviceFwLoad h _ _ _ => h.wellFormed
  | .devicePing h _ => h.wellFormed
  | .commitOpen h _ => h.wellFormed
  | .commitApply h _ _ => h.wellFormed
  | .commitAbort h _ => h.wellFormed
  | .commitStatus h _ => h.wellFormed
  | .powerStatus h => h.wellFormed
  | .powerVote h _ => h.wellFormed
  | .powerSchedule h _ _ _ _ => h.wellFormed
  | .powerRetentionStatus h => h.wellFormed
  | .engineProgramLoad h _ _ => h.wellFormed
  | .engineProgramUnload h _ => h.wellFormed
  | .engineStatus h => h.wellFormed
  | .engineExceptionRead h _ _ => h.wellFormed
  | .pmcConfig h _ _ _ _ => h.wellFormed
  | .sampleConfig h _ => h.wellFormed
  | .traceConfig h _ => h.wellFormed
  | .traceRead h _ _ => h.wellFormed
  | .cmdSqTailWrite _ => true
  | .cmdRqHeadWrite _ => true
  | .cmdCtrlEnWrite _ => true
  | .ringSubmissionFetch e p _ => e.bytes.length == 32 && p.wellFormed
  | .writeCmd p => p.wellFormed
  | .readReply => true
  | .readStatus => true
  | .inbandCommandFrame port _ p => decide (port < 32) && p.wellFormed
  | .registerWrite offset _ => decide (offset < 0x10000 ∧ offset % 4 = 0)
  | .timeNowLoRead _ => true
  | .timeNowHiRead _ _ => true
  | .tpWrite _ _ => true
  | .tptTimeNowLoRead => true
  | .capLoRead n => decide (n < 4)
  | .capLostRead n => decide (n < 4)
  | .evcClaim t => decide (t < 4)
  | .evcComplete t _ => decide (t < 4)
  | .evcTrigger _ => true
  | .evcDiscard _ => true
  | .evcPendingWrite w _ => decide (w < 8)
  | .evcMaskWrite w _ => decide (w < 8)
  | .evcIntegPop => true
  | .evcIntegLostRead => true
  | .evcIntegCorrRead => true
  | .pmcCntLoRead n => decide (n < 64)
  | .pmcCntWrite n _ _ => decide (n < 64)
  | .pmcFreezeWrite _ => true
  | .aonWakeReq _ => true
  | .aonVoteHostWrite _ => true
  | .aonHoldNsRead => true
  | .porstAssert => true
  | .resetNAssert => true
  | .bootStart => true
  | .bootStageComplete _ => true
  | .watchdogReset => true
  | .commandResetStart => true
  | .pciePerstAssert => true
  | .pcieLinkChange _ _ _ => true
  | .supplyFault _ => true
  | .thermalWarn _ _ => true
  | .thermalTrip _ => true
  | .hardwareStop => true
  | .ocxoFail => true
  | .refclkRecovered => true
  | .laneRefFault _ => true
  | .tcapEdge n _ _ => decide (n < 4)
  | .ppsInEdge _ => true
  | .servoTrackEntry => true
  | .servoStampTimeout => true
  | .holdoverLimit => true
  | .downstreamFrame n _ => decide (n < 4)
  | .superframeVerified n _ => decide (n < 4)
  | .rangeAssign n _ => decide (n < 4)
  | .regConfirm n _ _ => decide (n < 4)
  | .rangeUpdate n _ => decide (n < 4)
  | .resume n _ => decide (n < 4)
  | .deregister n _ => decide (n < 4)
  | .keyRoll n _ _ => decide (n < 4)
  | .msgTimeout n _ => decide (n < 4)
  | .regEvaluation => true
  | .rangingTimeout => true
  | .tResume => true
  | .gust => true
  | .gustUnanswered => true
  | .rangingBurst => true
  | .burstDraw n => decide (n < 4)
  | .burstEmission n => decide (n < 4)
  | .forecastUpdate => true
  | .tuneComplete n => decide (n < 4)
  | .tuneTimeout n => decide (n < 4)
  | .carrierLocked n _ _ _ _ => decide (n < 4)
  | .acqTimeout n => decide (n < 4)
  | .carrierLost n _ => decide (n < 4)
  | .lostTimeout n => decide (n < 4)
  | .laserFineTune n _ => decide (n < 4)
  | .feDuty n _ _ _ => decide (n < 4)
  | .spiTimeout n _ _ => decide (n < 4)
  | .gateFault n _ _ => decide (n < 4)
  | .carrierSecond n _ => decide (n < 4)
  | .mchPortFrame ch _ => decide (ch < 4)
  | .mchUpstreamCell ch => decide (ch < 4)
  | .tribSwap => true
  | .fenceTimeout trib => decide (trib < 64)
  | .frameReceive port _ => decide (port < 32)
  | .pauseTimerExpiry port q => decide (port < 32 ∧ q < 8)
  | .pauseWatchdog port q => decide (port < 32 ∧ q < 8)
  | .pauseWatchdogRecovery port q => decide (port < 32 ∧ q < 8)
  | .pauseRefresh port _ => decide (port < 32)
  | .pipelinePass _ _ => true
  | .flowCacheFill _ => true
  | .programDispatch _ _ => true
  | .dispatchTimeout _ => true
  | .callReturn ctx _ _ _ => decide (ctx < 1024)
  | .waitAuth ctx => decide (ctx < 1024)
  | .programTimeException ctx => decide (ctx < 1024)
  | .engineReload _ => true
  | .engineRestart _ _ => true
  | .generationDrain => true
  | .writeInComplete => true
  | .sealPacket => true
  | .segmentation => true
  | .ageCheck => true
  | .unsealPacket => true
  | .tagResult _ _ => true
  | .reassemblyTimeout carrier assoc cls => decide (carrier < 4 ∧ assoc < 4096 ∧ cls < 8)
  | .hello _ => true
  | .reply _ => true
  | .confirmI _ => true
  | .confirmR _ => true
  | .close _ => true
  | .helloRetry idx => decide (idx < 4096)
  | .confirmTimeout idx => decide (idx < 4096)
  | .peerTimeout idx => decide (idx < 4096)
  | .armExpired idx => decide (idx < 4096)
  | .oldKeyHold idx => decide (idx < 4096)
  | .challengeLapse => true
  | .rngFail => true
  | .egressFrameStart port => decide (port < 32)
  | .egressAge port q => decide (port < 32 ∧ q < 8)
  | .hostFrameSend _ => true
  | .portUp port => decide (port < 32)
  | .portDown port _ => decide (port < 32)
  | .lpiEntry port => decide (port < 32)
  | .lpiWake port => decide (port < 32)
  | .lldpTransmit port => decide (port < 32)
  | .portWake port => decide (port < 32)
  | .laneLos lane => decide (lane < 32)
  | .laneLol lane => decide (lane < 32)
  | .laneAlignLock lane _ => decide (lane < 32)
  | .laneAlignLost lane _ => decide (lane < 32)
  | .laneBerHigh lane _ => decide (lane < 32)
  | .lanePatternLock lane _ _ _ _ => decide (lane < 32)
  | .dieLaneSpared _ lane => decide (lane < 24)
  | .dieLaneLoss _ lane => decide (lane < 24)
  | .dieRetrainComplete _ _ => true
  | .dieSplit => true
  | .splitRetrainAttempt _ _ => true
  | .commitReadinessCheck g => decide (g < 256)
  | .commitInstant g => decide (g < 256)
  | .groupLapsed g => decide (g < 256)
  | .groupFree g => decide (g < 256)
  | .gateListStart port => decide (port < 32)
  | .gateEvent port => decide (port < 32)
  | .wheelSlot => true
  | .barometerSample slot => decide (slot < 4096)
  | .snapshotDue buffer => decide (buffer < 8)
  | .powerScheduleDue => true
  | .wakeRequest _ => true
  | .wakeStepReady _ => true
  | .wakeStepTimeout _ => true
  | .coalescingTimer t => decide (t < 4)
  | .scrub _ => true
  | .timeOutputEdge _ => true
  | .carrierDisableComplete n => decide (n < 4)
  | .mchPortTransmit ch => decide (ch < 4)
  | .partnerLpi port _ => decide (port < 32)
  | .laneSignalDetect lane => decide (lane < 32)
  | .laneCdrLock lane => decide (lane < 32)
  | .rngRecovered => true
  | .msixVectorUnmask v => decide (v < 4)
  | .pmcCounterWrap n => decide (n < 64)
  | .thermalTripClear => true
  | .ptpMessageTransmit port _ => decide (port < 32)
  | .esmcTransmit port => decide (port < 32)

end Sys2Proof
end

