-- ==== Sys2Proof/Laws/PerInstr.lean ====
section
/-! SUPPORT. A statement about every row as text, one lemma for each constructor: a row that starts a Palgil command has an
opcode of Table 11-5, and a well-formed one a header within Table 11-1. -/

namespace Sys2Proof.Laws.Palgil

open Sys2Proof.Machine

set_option Elab.async false

/-- The header and the opcode of the Palgil command that a row starts. -/
def Statement (i : Instr) : Prop :=
  ∀ h c, i.palgil = some (h, c) → opcodeKnown (Cmd.opcode c) = true ∧ (i.wellFormed = true → h.wellFormed = true)

theorem of_some {i : Instr} {h : Hdr} {c : Cmd} (h1 : i.palgil = some (h, c)) (h2 : opcodeKnown (Cmd.opcode c) = true)
    (h3 : i.wellFormed = h.wellFormed) : Statement i := by
  intro h' c' e
  obtain ⟨rfl, rfl⟩ := Prod.mk.inj (Option.some.inj (h1.symm.trans e))
  exact ⟨h2, fun w => h3 ▸ w⟩

theorem of_none {i : Instr} (h1 : i.palgil = none) : Statement i := by
  intro h c e
  rw [h1] at e
  cases e

theorem timeStatus : ∀ x0, Statement (.timeStatus x0) := fun _ => of_some rfl rfl rfl
theorem timeCapture : ∀ x0 x1 x2, Statement (.timeCapture x0 x1 x2) := fun _ _ _ => of_some rfl rfl rfl
theorem timeCaptureConfig : ∀ x0 x1 x2 x3, Statement (.timeCaptureConfig x0 x1 x2 x3) := fun _ _ _ _ => of_some rfl rfl rfl
theorem timeOutputSet : ∀ x0 x1, Statement (.timeOutputSet x0 x1) := fun _ _ => of_some rfl rfl rfl
theorem timeSplitSet : ∀ x0 x1, Statement (.timeSplitSet x0 x1) := fun _ _ => of_some rfl rfl rfl
theorem timeAsymmetrySet : ∀ x0 x1 x2, Statement (.timeAsymmetrySet x0 x1 x2) := fun _ _ _ => of_some rfl rfl rfl
theorem timeHoldoverSet : ∀ x0 x1 x2 x3 x4, Statement (.timeHoldoverSet x0 x1 x2 x3 x4) := fun _ _ _ _ _ => of_some rfl rfl rfl
theorem timePtpSet : ∀ x0 x1 x2 x3 x4 x5, Statement (.timePtpSet x0 x1 x2 x3 x4 x5) := fun _ _ _ _ _ _ => of_some rfl rfl rfl
theorem timeSynceSet : ∀ x0 x1 x2 x3 x4, Statement (.timeSynceSet x0 x1 x2 x3 x4) := fun _ _ _ _ _ => of_some rfl rfl rfl
theorem timeCarrierSet : ∀ x0 x1, Statement (.timeCarrierSet x0 x1) := fun _ _ => of_some rfl rfl rfl
theorem carrierConfig : ∀ x0 x1 x2, Statement (.carrierConfig x0 x1 x2) := fun _ _ _ => of_some rfl rfl rfl
theorem carrierEnable : ∀ x0 x1, Statement (.carrierEnable x0 x1) := fun _ _ => of_some rfl rfl rfl
theorem carrierDisable : ∀ x0 x1, Statement (.carrierDisable x0 x1) := fun _ _ => of_some rfl rfl rfl
theorem carrierStatus : ∀ x0 x1, Statement (.carrierStatus x0 x1) := fun _ _ => of_some rfl rfl rfl
theorem carrierGateSet : ∀ x0 x1 x2, Statement (.carrierGateSet x0 x1 x2) := fun _ _ _ => of_some rfl rfl rfl
theorem carrierGateCeiling : ∀ x0 x1 x2, Statement (.carrierGateCeiling x0 x1 x2) := fun _ _ _ => of_some rfl rfl rfl
theorem carrierFeLoad : ∀ x0 x1 x2, Statement (.carrierFeLoad x0 x1 x2) := fun _ _ _ => of_some rfl rfl rfl
theorem carrierFeAccess : ∀ x0 x1 x2, Statement (.carrierFeAccess x0 x1 x2) := fun _ _ _ => of_some rfl rfl rfl
theorem carrierMonitor : ∀ x0 x1, Statement (.carrierMonitor x0 x1) := fun _ _ => of_some rfl rfl rfl
theorem carrierHintClear : ∀ x0 x1, Statement (.carrierHintClear x0 x1) := fun _ _ => of_some rfl rfl rfl
theorem regEnable : ∀ x0, Statement (.regEnable x0) := fun _ => of_some rfl rfl rfl
theorem regDisable : ∀ x0, Statement (.regDisable x0) := fun _ => of_some rfl rfl rfl
theorem regStatus : ∀ x0, Statement (.regStatus x0) := fun _ => of_some rfl rfl rfl
theorem regConfig : ∀ x0 x1 x2, Statement (.regConfig x0 x1 x2) := fun _ _ _ => of_some rfl rfl rfl
theorem regHeadlistSet : ∀ x0 x1, Statement (.regHeadlistSet x0 x1) := fun _ _ => of_some rfl rfl rfl
theorem regEpochReset : ∀ x0, Statement (.regEpochReset x0) := fun _ => of_some rfl rfl rfl
theorem grantStats : ∀ x0 x1, Statement (.grantStats x0 x1) := fun _ _ => of_some rfl rfl rfl
theorem forecastConfig : ∀ x0 x1 x2 x3, Statement (.forecastConfig x0 x1 x2 x3) := fun _ _ _ _ => of_some rfl rfl rfl
theorem forecastRead : ∀ x0 x1, Statement (.forecastRead x0 x1) := fun _ _ => of_some rfl rfl rfl
theorem frameStatus : ∀ x0 x1, Statement (.frameStatus x0 x1) := fun _ _ => of_some rfl rfl rfl
theorem cellStats : ∀ x0 x1, Statement (.cellStats x0 x1) := fun _ _ => of_some rfl rfl rfl
theorem cellGroupsSet : ∀ x0 x1, Statement (.cellGroupsSet x0 x1) := fun _ _ => of_some rfl rfl rfl
theorem mchConfig : ∀ x0 x1 x2 x3 x4, Statement (.mchConfig x0 x1 x2 x3 x4) := fun _ _ _ _ _ => of_some rfl rfl rfl
theorem mchStats : ∀ x0 x1, Statement (.mchStats x0 x1) := fun _ _ => of_some rfl rfl rfl
theorem tribPageWrite : ∀ x0 x1 x2, Statement (.tribPageWrite x0 x1 x2) := fun _ _ _ => of_some rfl rfl rfl
theorem tribPageSwap : ∀ x0 x1 x2, Statement (.tribPageSwap x0 x1 x2) := fun _ _ _ => of_some rfl rfl rfl
theorem tribPageRead : ∀ x0 x1, Statement (.tribPageRead x0 x1) := fun _ _ => of_some rfl rfl rfl
theorem tribStatus : ∀ x0, Statement (.tribStatus x0) := fun _ => of_some rfl rfl rfl
theorem flowInsert : ∀ x0 x1 x2, Statement (.flowInsert x0 x1 x2) := fun _ _ _ => of_some rfl rfl rfl
theorem flowModify : ∀ x0 x1 x2 x3, Statement (.flowModify x0 x1 x2 x3) := fun _ _ _ _ => of_some rfl rfl rfl
theorem flowDelete : ∀ x0 x1 x2, Statement (.flowDelete x0 x1 x2) := fun _ _ _ => of_some rfl rfl rfl
theorem flowLookup : ∀ x0 x1 x2, Statement (.flowLookup x0 x1 x2) := fun _ _ _ => of_some rfl rfl rfl
theorem flowActionWrite : ∀ x0 x1 x2, Statement (.flowActionWrite x0 x1 x2) := fun _ _ _ => of_some rfl rfl rfl
theorem ternaryWrite : ∀ x0 x1 x2 x3 x4, Statement (.ternaryWrite x0 x1 x2 x3 x4) := fun _ _ _ _ _ => of_some rfl rfl rfl
theorem ternaryDelete : ∀ x0 x1, Statement (.ternaryDelete x0 x1) := fun _ _ => of_some rfl rfl rfl
theorem parseNodeSet : ∀ x0 x1 x2, Statement (.parseNodeSet x0 x1 x2) := fun _ _ _ => of_some rfl rfl rfl
theorem classProfileSet : ∀ x0 x1 x2 x3, Statement (.classProfileSet x0 x1 x2 x3) := fun _ _ _ _ => of_some rfl rfl rfl
theorem classDefaultSet : ∀ x0 x1 x2 x3, Statement (.classDefaultSet x0 x1 x2 x3) := fun _ _ _ _ => of_some rfl rfl rfl
theorem classStatus : ∀ x0, Statement (.classStatus x0) := fun _ => of_some rfl rfl rfl
theorem flowScan : ∀ x0 x1 x2, Statement (.flowScan x0 x1 x2) := fun _ _ _ => of_some rfl rfl rfl
theorem queueCreate : ∀ x0 x1 x2 x3 x4 x5, Statement (.queueCreate x0 x1 x2 x3 x4 x5) := fun _ _ _ _ _ _ => of_some rfl rfl rfl
theorem queueDelete : ∀ x0 x1, Statement (.queueDelete x0 x1) := fun _ _ => of_some rfl rfl rfl
theorem queueSet : ∀ x0 x1 x2, Statement (.queueSet x0 x1 x2) := fun _ _ _ => of_some rfl rfl rfl
theorem queueStatus : ∀ x0 x1, Statement (.queueStatus x0 x1) := fun _ _ => of_some rfl rfl rfl
theorem queueFlush : ∀ x0 x1, Statement (.queueFlush x0 x1) := fun _ _ => of_some rfl rfl rfl
theorem schedNodeSet : ∀ x0 x1 x2 x3 x4 x5, Statement (.schedNodeSet x0 x1 x2 x3 x4 x5) := fun _ _ _ _ _ _ => of_some rfl rfl rfl
theorem egressConfig : ∀ x0 x1 x2 x3, Statement (.egressConfig x0 x1 x2 x3) := fun _ _ _ _ => of_some rfl rfl rfl
theorem policerSet : ∀ x0 x1 x2 x3, Statement (.policerSet x0 x1 x2 x3) := fun _ _ _ _ => of_some rfl rfl rfl
theorem policerRead : ∀ x0 x1 x2, Statement (.policerRead x0 x1 x2) := fun _ _ _ => of_some rfl rfl rfl
theorem gateListSet : ∀ x0 x1 x2, Statement (.gateListSet x0 x1 x2) := fun _ _ _ => of_some rfl rfl rfl
theorem gateStatus : ∀ x0 x1, Statement (.gateStatus x0 x1) := fun _ _ => of_some rfl rfl rfl
theorem barometerWatch : ∀ x0 x1 x2, Statement (.barometerWatch x0 x1 x2) := fun _ _ _ => of_some rfl rfl rfl
theorem barometerRead : ∀ x0 x1 x2, Statement (.barometerRead x0 x1 x2) := fun _ _ _ => of_some rfl rfl rfl
theorem storeStatus : ∀ x0, Statement (.storeStatus x0) := fun _ => of_some rfl rfl rfl
theorem laneConfig : ∀ x0 x1 x2 x3 x4, Statement (.laneConfig x0 x1 x2 x3 x4) := fun _ _ _ _ _ => of_some rfl rfl rfl
theorem laneRefclkSet : ∀ x0 x1, Statement (.laneRefclkSet x0 x1) := fun _ _ => of_some rfl rfl rfl
theorem laneStatus : ∀ x0 x1, Statement (.laneStatus x0 x1) := fun _ _ => of_some rfl rfl rfl
theorem laneMonitorSet : ∀ x0 x1 x2, Statement (.laneMonitorSet x0 x1 x2) := fun _ _ _ => of_some rfl rfl rfl
theorem lanePatternRead : ∀ x0 x1 x2, Statement (.lanePatternRead x0 x1 x2) := fun _ _ _ => of_some rfl rfl rfl
theorem dieStatus : ∀ x0, Statement (.dieStatus x0) := fun _ => of_some rfl rfl rfl
theorem dieRetrain : ∀ x0 x1, Statement (.dieRetrain x0 x1) := fun _ _ => of_some rfl rfl rfl
theorem portConfig : ∀ x0 x1 x2, Statement (.portConfig x0 x1 x2) := fun _ _ _ => of_some rfl rfl rfl
theorem portStatus : ∀ x0 x1, Statement (.portStatus x0 x1) := fun _ _ => of_some rfl rfl rfl
theorem portFilterSet : ∀ x0 x1 x2, Statement (.portFilterSet x0 x1 x2) := fun _ _ _ => of_some rfl rfl rfl
theorem portPauseSet : ∀ x0 x1 x2, Statement (.portPauseSet x0 x1 x2) := fun _ _ _ => of_some rfl rfl rfl
theorem portTsConfig : ∀ x0 x1 x2 x3, Statement (.portTsConfig x0 x1 x2 x3) := fun _ _ _ _ => of_some rfl rfl rfl
theorem portTsRead : ∀ x0 x1 x2, Statement (.portTsRead x0 x1 x2) := fun _ _ _ => of_some rfl rfl rfl
theorem portLpiSet : ∀ x0 x1 x2 x3 x4, Statement (.portLpiSet x0 x1 x2 x3 x4) := fun _ _ _ _ _ => of_some rfl rfl rfl
theorem portSleep : ∀ x0 x1 x2 x3, Statement (.portSleep x0 x1 x2 x3) := fun _ _ _ _ => of_some rfl rfl rfl
theorem statsSnapshot : ∀ x0 x1 x2, Statement (.statsSnapshot x0 x1 x2) := fun _ _ _ => of_some rfl rfl rfl
theorem statsRead : ∀ x0 x1 x2, Statement (.statsRead x0 x1 x2) := fun _ _ _ => of_some rfl rfl rfl
theorem portStatsRead : ∀ x0 x1 x2, Statement (.portStatsRead x0 x1 x2) := fun _ _ _ => of_some rfl rfl rfl
theorem secStatus : ∀ x0, Statement (.secStatus x0) := fun _ => of_some rfl rfl rfl
theorem secIdentity : ∀ x0, Statement (.secIdentity x0) := fun _ => of_some rfl rfl rfl
theorem secChallenge : ∀ x0, Statement (.secChallenge x0) := fun _ => of_some rfl rfl rfl
theorem secOwnerEnrol : ∀ x0 x1 x2 x3 x4, Statement (.secOwnerEnrol x0 x1 x2 x3 x4) := fun _ _ _ _ _ => of_some rfl rfl rfl
theorem secAssocCreate : ∀ x0 x1 x2, Statement (.secAssocCreate x0 x1 x2) := fun _ _ _ => of_some rfl rfl rfl
theorem secAssocRekey : ∀ x0 x1, Statement (.secAssocRekey x0 x1) := fun _ _ => of_some rfl rfl rfl
theorem secAssocDelete : ∀ x0 x1, Statement (.secAssocDelete x0 x1) := fun _ _ => of_some rfl rfl rfl
theorem secAssocStatus : ∀ x0 x1, Statement (.secAssocStatus x0 x1) := fun _ _ => of_some rfl rfl rfl
theorem secAssocConfig : ∀ x0 x1 x2 x3, Statement (.secAssocConfig x0 x1 x2 x3) := fun _ _ _ _ => of_some rfl rfl rfl
theorem secAssocResume : ∀ x0 x1, Statement (.secAssocResume x0 x1) := fun _ _ => of_some rfl rfl rfl
theorem secSidechannelSet : ∀ x0 x1, Statement (.secSidechannelSet x0 x1) := fun _ _ => of_some rfl rfl rfl
theorem secDebugUnlock : ∀ x0, Statement (.secDebugUnlock x0) := fun _ => of_some rfl rfl rfl
theorem secCompatSet : ∀ x0 x1, Statement (.secCompatSet x0 x1) := fun _ _ => of_some rfl rfl rfl
theorem cipherJob : ∀ x0 x1 x2 x3 x4 x5, Statement (.cipherJob x0 x1 x2 x3 x4 x5) := fun _ _ _ _ _ _ => of_some rfl rfl rfl
theorem deviceInfo : ∀ x0, Statement (.deviceInfo x0) := fun _ => of_some rfl rfl rfl
theorem deviceStatus : ∀ x0, Statement (.deviceStatus x0) := fun _ => of_some rfl rfl rfl
theorem deviceReset : ∀ x0 x1, Statement (.deviceReset x0 x1) := fun _ _ => of_some rfl rfl rfl
theorem deviceFwLoad : ∀ x0 x1 x2 x3, Statement (.deviceFwLoad x0 x1 x2 x3) := fun _ _ _ _ => of_some rfl rfl rfl
theorem devicePing : ∀ x0 x1, Statement (.devicePing x0 x1) := fun _ _ => of_some rfl rfl rfl
theorem commitOpen : ∀ x0 x1, Statement (.commitOpen x0 x1) := fun _ _ => of_some rfl rfl rfl
theorem commitApply : ∀ x0 x1 x2, Statement (.commitApply x0 x1 x2) := fun _ _ _ => of_some rfl rfl rfl
theorem commitAbort : ∀ x0 x1, Statement (.commitAbort x0 x1) := fun _ _ => of_some rfl rfl rfl
theorem commitStatus : ∀ x0 x1, Statement (.commitStatus x0 x1) := fun _ _ => of_some rfl rfl rfl
theorem powerStatus : ∀ x0, Statement (.powerStatus x0) := fun _ => of_some rfl rfl rfl
theorem powerVote : ∀ x0 x1, Statement (.powerVote x0 x1) := fun _ _ => of_some rfl rfl rfl
theorem powerSchedule : ∀ x0 x1 x2 x3 x4, Statement (.powerSchedule x0 x1 x2 x3 x4) := fun _ _ _ _ _ => of_some rfl rfl rfl
theorem powerRetentionStatus : ∀ x0, Statement (.powerRetentionStatus x0) := fun _ => of_some rfl rfl rfl
theorem engineProgramLoad : ∀ x0 x1 x2, Statement (.engineProgramLoad x0 x1 x2) := fun _ _ _ => of_some rfl rfl rfl
theorem engineProgramUnload : ∀ x0 x1, Statement (.engineProgramUnload x0 x1) := fun _ _ => of_some rfl rfl rfl
theorem engineStatus : ∀ x0, Statement (.engineStatus x0) := fun _ => of_some rfl rfl rfl
theorem engineExceptionRead : ∀ x0 x1 x2, Statement (.engineExceptionRead x0 x1 x2) := fun _ _ _ => of_some rfl rfl rfl
theorem pmcConfig : ∀ x0 x1 x2 x3 x4, Statement (.pmcConfig x0 x1 x2 x3 x4) := fun _ _ _ _ _ => of_some rfl rfl rfl
theorem sampleConfig : ∀ x0 x1, Statement (.sampleConfig x0 x1) := fun _ _ => of_some rfl rfl rfl
theorem traceConfig : ∀ x0 x1, Statement (.traceConfig x0 x1) := fun _ _ => of_some rfl rfl rfl
theorem traceRead : ∀ x0 x1 x2, Statement (.traceRead x0 x1 x2) := fun _ _ _ => of_some rfl rfl rfl
theorem cmdSqTailWrite : ∀ x0, Statement (.cmdSqTailWrite x0) := fun _ => of_none rfl
theorem cmdRqHeadWrite : ∀ x0, Statement (.cmdRqHeadWrite x0) := fun _ => of_none rfl
theorem cmdCtrlEnWrite : ∀ x0, Statement (.cmdCtrlEnWrite x0) := fun _ => of_none rfl
theorem ringSubmissionFetch : ∀ x0 x1 x2, Statement (.ringSubmissionFetch x0 x1 x2) := fun _ _ _ => of_none rfl
theorem writeCmd : ∀ x0, Statement (.writeCmd x0) := fun _ => of_none rfl
theorem readReply : Statement (.readReply) := of_none rfl
theorem readStatus : Statement (.readStatus) := of_none rfl
theorem inbandCommandFrame : ∀ x0 x1 x2, Statement (.inbandCommandFrame x0 x1 x2) := fun _ _ _ => of_none rfl
theorem registerWrite : ∀ x0 x1, Statement (.registerWrite x0 x1) := fun _ _ => of_none rfl
theorem timeNowLoRead : ∀ x0, Statement (.timeNowLoRead x0) := fun _ => of_none rfl
theorem timeNowHiRead : ∀ x0 x1, Statement (.timeNowHiRead x0 x1) := fun _ _ => of_none rfl
theorem tpWrite : ∀ x0 x1, Statement (.tpWrite x0 x1) := fun _ _ => of_none rfl
theorem tptTimeNowLoRead : Statement (.tptTimeNowLoRead) := of_none rfl
theorem capLoRead : ∀ x0, Statement (.capLoRead x0) := fun _ => of_none rfl
theorem capLostRead : ∀ x0, Statement (.capLostRead x0) := fun _ => of_none rfl
theorem evcClaim : ∀ x0, Statement (.evcClaim x0) := fun _ => of_none rfl
theorem evcComplete : ∀ x0 x1, Statement (.evcComplete x0 x1) := fun _ _ => of_none rfl
theorem evcTrigger : ∀ x0, Statement (.evcTrigger x0) := fun _ => of_none rfl
theorem evcDiscard : ∀ x0, Statement (.evcDiscard x0) := fun _ => of_none rfl
theorem evcPendingWrite : ∀ x0 x1, Statement (.evcPendingWrite x0 x1) := fun _ _ => of_none rfl
theorem evcMaskWrite : ∀ x0 x1, Statement (.evcMaskWrite x0 x1) := fun _ _ => of_none rfl
theorem evcIntegPop : Statement (.evcIntegPop) := of_none rfl
theorem evcIntegLostRead : Statement (.evcIntegLostRead) := of_none rfl
theorem evcIntegCorrRead : Statement (.evcIntegCorrRead) := of_none rfl
theorem pmcCntLoRead : ∀ x0, Statement (.pmcCntLoRead x0) := fun _ => of_none rfl
theorem pmcCntWrite : ∀ x0 x1 x2, Statement (.pmcCntWrite x0 x1 x2) := fun _ _ _ => of_none rfl
theorem pmcFreezeWrite : ∀ x0, Statement (.pmcFreezeWrite x0) := fun _ => of_none rfl
theorem aonWakeReq : ∀ x0, Statement (.aonWakeReq x0) := fun _ => of_none rfl
theorem aonVoteHostWrite : ∀ x0, Statement (.aonVoteHostWrite x0) := fun _ => of_none rfl
theorem aonHoldNsRead : Statement (.aonHoldNsRead) := of_none rfl
theorem porstAssert : Statement (.porstAssert) := of_none rfl
theorem resetNAssert : Statement (.resetNAssert) := of_none rfl
theorem bootStart : Statement (.bootStart) := of_none rfl
theorem bootStageComplete : ∀ x0, Statement (.bootStageComplete x0) := fun _ => of_none rfl
theorem watchdogReset : Statement (.watchdogReset) := of_none rfl
theorem commandResetStart : Statement (.commandResetStart) := of_none rfl
theorem pciePerstAssert : Statement (.pciePerstAssert) := of_none rfl
theorem pcieLinkChange : ∀ x0 x1 x2, Statement (.pcieLinkChange x0 x1 x2) := fun _ _ _ => of_none rfl
theorem supplyFault : ∀ x0, Statement (.supplyFault x0) := fun _ => of_none rfl
theorem thermalWarn : ∀ x0 x1, Statement (.thermalWarn x0 x1) := fun _ _ => of_none rfl
theorem thermalTrip : ∀ x0, Statement (.thermalTrip x0) := fun _ => of_none rfl
theorem hardwareStop : Statement (.hardwareStop) := of_none rfl
theorem ocxoFail : Statement (.ocxoFail) := of_none rfl
theorem refclkRecovered : Statement (.refclkRecovered) := of_none rfl
theorem laneRefFault : ∀ x0, Statement (.laneRefFault x0) := fun _ => of_none rfl
theorem tcapEdge : ∀ x0 x1 x2, Statement (.tcapEdge x0 x1 x2) := fun _ _ _ => of_none rfl
theorem ppsInEdge : ∀ x0, Statement (.ppsInEdge x0) := fun _ => of_none rfl
theorem servoTrackEntry : Statement (.servoTrackEntry) := of_none rfl
theorem servoStampTimeout : Statement (.servoStampTimeout) := of_none rfl
theorem holdoverLimit : Statement (.holdoverLimit) := of_none rfl
theorem downstreamFrame : ∀ x0 x1, Statement (.downstreamFrame x0 x1) := fun _ _ => of_none rfl
theorem superframeVerified : ∀ x0 x1, Statement (.superframeVerified x0 x1) := fun _ _ => of_none rfl
theorem rangeAssign : ∀ x0 x1, Statement (.rangeAssign x0 x1) := fun _ _ => of_none rfl
theorem regConfirm : ∀ x0 x1 x2, Statement (.regConfirm x0 x1 x2) := fun _ _ _ => of_none rfl
theorem rangeUpdate : ∀ x0 x1, Statement (.rangeUpdate x0 x1) := fun _ _ => of_none rfl
theorem resume : ∀ x0 x1, Statement (.resume x0 x1) := fun _ _ => of_none rfl
theorem deregister : ∀ x0 x1, Statement (.deregister x0 x1) := fun _ _ => of_none rfl
theorem keyRoll : ∀ x0 x1 x2, Statement (.keyRoll x0 x1 x2) := fun _ _ _ => of_none rfl
theorem msgTimeout : ∀ x0 x1, Statement (.msgTimeout x0 x1) := fun _ _ => of_none rfl
theorem regEvaluation : Statement (.regEvaluation) := of_none rfl
theorem rangingTimeout : Statement (.rangingTimeout) := of_none rfl
theorem tResume : Statement (.tResume) := of_none rfl
theorem gust : Statement (.gust) := of_none rfl
theorem gustUnanswered : Statement (.gustUnanswered) := of_none rfl
theorem rangingBurst : Statement (.rangingBurst) := of_none rfl
theorem burstDraw : ∀ x0, Statement (.burstDraw x0) := fun _ => of_none rfl
theorem burstEmission : ∀ x0, Statement (.burstEmission x0) := fun _ => of_none rfl
theorem forecastUpdate : Statement (.forecastUpdate) := of_none rfl
theorem tuneComplete : ∀ x0, Statement (.tuneComplete x0) := fun _ => of_none rfl
theorem tuneTimeout : ∀ x0, Statement (.tuneTimeout x0) := fun _ => of_none rfl
theorem carrierLocked : ∀ x0 x1 x2 x3 x4, Statement (.carrierLocked x0 x1 x2 x3 x4) := fun _ _ _ _ _ => of_none rfl
theorem acqTimeout : ∀ x0, Statement (.acqTimeout x0) := fun _ => of_none rfl
theorem carrierLost : ∀ x0 x1, Statement (.carrierLost x0 x1) := fun _ _ => of_none rfl
theorem lostTimeout : ∀ x0, Statement (.lostTimeout x0) := fun _ => of_none rfl
theorem laserFineTune : ∀ x0 x1, Statement (.laserFineTune x0 x1) := fun _ _ => of_none rfl
theorem feDuty : ∀ x0 x1 x2 x3, Statement (.feDuty x0 x1 x2 x3) := fun _ _ _ _ => of_none rfl
theorem spiTimeout : ∀ x0 x1 x2, Statement (.spiTimeout x0 x1 x2) := fun _ _ _ => of_none rfl
theorem gateFault : ∀ x0 x1 x2, Statement (.gateFault x0 x1 x2) := fun _ _ _ => of_none rfl
theorem carrierSecond : ∀ x0 x1, Statement (.carrierSecond x0 x1) := fun _ _ => of_none rfl
theorem mchPortFrame : ∀ x0 x1, Statement (.mchPortFrame x0 x1) := fun _ _ => of_none rfl
theorem mchUpstreamCell : ∀ x0, Statement (.mchUpstreamCell x0) := fun _ => of_none rfl
theorem tribSwap : Statement (.tribSwap) := of_none rfl
theorem fenceTimeout : ∀ x0, Statement (.fenceTimeout x0) := fun _ => of_none rfl
theorem frameReceive : ∀ x0 x1, Statement (.frameReceive x0 x1) := fun _ _ => of_none rfl
theorem pauseTimerExpiry : ∀ x0 x1, Statement (.pauseTimerExpiry x0 x1) := fun _ _ => of_none rfl
theorem pauseWatchdog : ∀ x0 x1, Statement (.pauseWatchdog x0 x1) := fun _ _ => of_none rfl
theorem pauseWatchdogRecovery : ∀ x0 x1, Statement (.pauseWatchdogRecovery x0 x1) := fun _ _ => of_none rfl
theorem pauseRefresh : ∀ x0 x1, Statement (.pauseRefresh x0 x1) := fun _ _ => of_none rfl
theorem pipelinePass : ∀ x0 x1, Statement (.pipelinePass x0 x1) := fun _ _ => of_none rfl
theorem flowCacheFill : ∀ x0, Statement (.flowCacheFill x0) := fun _ => of_none rfl
theorem programDispatch : ∀ x0 x1, Statement (.programDispatch x0 x1) := fun _ _ => of_none rfl
theorem dispatchTimeout : ∀ x0, Statement (.dispatchTimeout x0) := fun _ => of_none rfl
theorem callReturn : ∀ x0 x1 x2 x3, Statement (.callReturn x0 x1 x2 x3) := fun _ _ _ _ => of_none rfl
theorem waitAuth : ∀ x0, Statement (.waitAuth x0) := fun _ => of_none rfl
theorem programTimeException : ∀ x0, Statement (.programTimeException x0) := fun _ => of_none rfl
theorem engineReload : ∀ x0, Statement (.engineReload x0) := fun _ => of_none rfl
theorem engineRestart : ∀ x0 x1, Statement (.engineRestart x0 x1) := fun _ _ => of_none rfl
theorem generationDrain : Statement (.generationDrain) := of_none rfl
theorem writeInComplete : Statement (.writeInComplete) := of_none rfl
theorem sealPacket : Statement (.sealPacket) := of_none rfl
theorem segmentation : Statement (.segmentation) := of_none rfl
theorem ageCheck : Statement (.ageCheck) := of_none rfl
theorem unsealPacket : Statement (.unsealPacket) := of_none rfl
theorem tagResult : ∀ x0 x1, Statement (.tagResult x0 x1) := fun _ _ => of_none rfl
theorem reassemblyTimeout : ∀ x0 x1 x2, Statement (.reassemblyTimeout x0 x1 x2) := fun _ _ _ => of_none rfl
theorem hello : ∀ x0, Statement (.hello x0) := fun _ => of_none rfl
theorem reply : ∀ x0, Statement (.reply x0) := fun _ => of_none rfl
theorem confirmI : ∀ x0, Statement (.confirmI x0) := fun _ => of_none rfl
theorem confirmR : ∀ x0, Statement (.confirmR x0) := fun _ => of_none rfl
theorem close : ∀ x0, Statement (.close x0) := fun _ => of_none rfl
theorem helloRetry : ∀ x0, Statement (.helloRetry x0) := fun _ => of_none rfl
theorem confirmTimeout : ∀ x0, Statement (.confirmTimeout x0) := fun _ => of_none rfl
theorem peerTimeout : ∀ x0, Statement (.peerTimeout x0) := fun _ => of_none rfl
theorem armExpired : ∀ x0, Statement (.armExpired x0) := fun _ => of_none rfl
theorem oldKeyHold : ∀ x0, Statement (.oldKeyHold x0) := fun _ => of_none rfl
theorem challengeLapse : Statement (.challengeLapse) := of_none rfl
theorem rngFail : Statement (.rngFail) := of_none rfl
theorem egressFrameStart : ∀ x0, Statement (.egressFrameStart x0) := fun _ => of_none rfl
theorem egressAge : ∀ x0 x1, Statement (.egressAge x0 x1) := fun _ _ => of_none rfl
theorem hostFrameSend : ∀ x0, Statement (.hostFrameSend x0) := fun _ => of_none rfl
theorem portUp : ∀ x0, Statement (.portUp x0) := fun _ => of_none rfl
theorem portDown : ∀ x0 x1, Statement (.portDown x0 x1) := fun _ _ => of_none rfl
theorem lpiEntry : ∀ x0, Statement (.lpiEntry x0) := fun _ => of_none rfl
theorem lpiWake : ∀ x0, Statement (.lpiWake x0) := fun _ => of_none rfl
theorem lldpTransmit : ∀ x0, Statement (.lldpTransmit x0) := fun _ => of_none rfl
theorem portWake : ∀ x0, Statement (.portWake x0) := fun _ => of_none rfl
theorem laneLos : ∀ x0, Statement (.laneLos x0) := fun _ => of_none rfl
theorem laneLol : ∀ x0, Statement (.laneLol x0) := fun _ => of_none rfl
theorem laneAlignLock : ∀ x0 x1, Statement (.laneAlignLock x0 x1) := fun _ _ => of_none rfl
theorem laneAlignLost : ∀ x0 x1, Statement (.laneAlignLost x0 x1) := fun _ _ => of_none rfl
theorem laneBerHigh : ∀ x0 x1, Statement (.laneBerHigh x0 x1) := fun _ _ => of_none rfl
theorem lanePatternLock : ∀ x0 x1 x2 x3 x4, Statement (.lanePatternLock x0 x1 x2 x3 x4) := fun _ _ _ _ _ => of_none rfl
theorem dieLaneSpared : ∀ x0 x1, Statement (.dieLaneSpared x0 x1) := fun _ _ => of_none rfl
theorem dieLaneLoss : ∀ x0 x1, Statement (.dieLaneLoss x0 x1) := fun _ _ => of_none rfl
theorem dieRetrainComplete : ∀ x0 x1, Statement (.dieRetrainComplete x0 x1) := fun _ _ => of_none rfl
theorem dieSplit : Statement (.dieSplit) := of_none rfl
theorem splitRetrainAttempt : ∀ x0 x1, Statement (.splitRetrainAttempt x0 x1) := fun _ _ => of_none rfl
theorem commitReadinessCheck : ∀ x0, Statement (.commitReadinessCheck x0) := fun _ => of_none rfl
theorem commitInstant : ∀ x0, Statement (.commitInstant x0) := fun _ => of_none rfl
theorem groupLapsed : ∀ x0, Statement (.groupLapsed x0) := fun _ => of_none rfl
theorem groupFree : ∀ x0, Statement (.groupFree x0) := fun _ => of_none rfl
theorem gateListStart : ∀ x0, Statement (.gateListStart x0) := fun _ => of_none rfl
theorem gateEvent : ∀ x0, Statement (.gateEvent x0) := fun _ => of_none rfl
theorem wheelSlot : Statement (.wheelSlot) := of_none rfl
theorem barometerSample : ∀ x0, Statement (.barometerSample x0) := fun _ => of_none rfl
theorem snapshotDue : ∀ x0, Statement (.snapshotDue x0) := fun _ => of_none rfl
theorem powerScheduleDue : Statement (.powerScheduleDue) := of_none rfl
theorem wakeRequest : ∀ x0, Statement (.wakeRequest x0) := fun _ => of_none rfl
theorem wakeStepReady : ∀ x0, Statement (.wakeStepReady x0) := fun _ => of_none rfl
theorem wakeStepTimeout : ∀ x0, Statement (.wakeStepTimeout x0) := fun _ => of_none rfl
theorem coalescingTimer : ∀ x0, Statement (.coalescingTimer x0) := fun _ => of_none rfl
theorem scrub : ∀ x0, Statement (.scrub x0) := fun _ => of_none rfl
theorem timeOutputEdge : ∀ x0, Statement (.timeOutputEdge x0) := fun _ => of_none rfl
theorem carrierDisableComplete : ∀ x0, Statement (.carrierDisableComplete x0) := fun _ => of_none rfl
theorem mchPortTransmit : ∀ x0, Statement (.mchPortTransmit x0) := fun _ => of_none rfl
theorem partnerLpi : ∀ x0 x1, Statement (.partnerLpi x0 x1) := fun _ _ => of_none rfl
theorem laneSignalDetect : ∀ x0, Statement (.laneSignalDetect x0) := fun _ => of_none rfl
theorem laneCdrLock : ∀ x0, Statement (.laneCdrLock x0) := fun _ => of_none rfl
theorem rngRecovered : Statement (.rngRecovered) := of_none rfl
theorem msixVectorUnmask : ∀ x0, Statement (.msixVectorUnmask x0) := fun _ => of_none rfl
theorem pmcCounterWrap : ∀ x0, Statement (.pmcCounterWrap x0) := fun _ => of_none rfl
theorem thermalTripClear : Statement (.thermalTripClear) := of_none rfl
theorem ptpMessageTransmit : ∀ x0 x1, Statement (.ptpMessageTransmit x0 x1) := fun _ _ => of_none rfl
theorem esmcTransmit : ∀ x0, Statement (.esmcTransmit x0) := fun _ => of_none rfl

end Sys2Proof.Laws.Palgil
end

