-- ==== Sys2Proof/Laws/Reads.lean ====
section
/-! SUPPORT. Taking a command up leaves what is read of the rest of the state as it is (R249, R250, R254). -/

namespace Sys2Proof.Machine
set_option Elab.async false
@[simp] theorem fenced_takeUp (n : Nat) (t : Nat) (start : Instant) (h : Hdr) (s : State) : fenced n t start (takeUp h s) = fenced n t start s := by rw [takeUp_eq]; rfl
@[simp] theorem chooseCarrier_takeUp (h : Hdr) (s : State) : chooseCarrier (takeUp h s) = chooseCarrier s := by rw [takeUp_eq]; rfl
@[simp] theorem nextGrants_takeUp (n : Nat) (h : Hdr) (s : State) : nextGrants n (takeUp h s) = nextGrants n s := by rw [takeUp_eq]; rfl
@[simp] theorem faultN_takeUp (h : Hdr) (s : State) : faultN (takeUp h s) = faultN s := by rw [takeUp_eq]; rfl
@[simp] theorem Standing.emitK_takeUp (c : Carrier) (g : Standing) (k : Nat) (h : Hdr) (s : State) : Standing.emitK (takeUp h s) c g k = Standing.emitK s c g k := by rw [takeUp_eq]; rfl
@[simp] theorem instantStatus_takeUp (i : Instant) (h : Hdr) (s : State) : instantStatus i (takeUp h s) = instantStatus i s := by rw [takeUp_eq]; rfl
@[simp] theorem checkCarrierConfig_takeUp (n : Nat) (p : CarrierParams) (staged : Bool) (h : Hdr) (s : State) : checkCarrierConfig n p staged (takeUp h s) = checkCarrierConfig n p staged s := by rw [takeUp_eq]; rfl
@[simp] theorem checkEgress_takeUp (p : Nat) (queues : List EgressQ) (shaper : Option ShaperParams) (h : Hdr) (s : State) : checkEgress p queues shaper (takeUp h s) = checkEgress p queues shaper s := by rw [takeUp_eq]; rfl
@[simp] theorem progsOf_takeUp (down : Bool) (h : Hdr) (s : State) : progsOf down (takeUp h s) = progsOf down s := by rw [takeUp_eq]; rfl
@[simp] theorem checkQueueSet_takeUp (q : Nat) (p : QueueParams) (h : Hdr) (s : State) : checkQueueSet q p (takeUp h s) = checkQueueSet q p s := by rw [takeUp_eq]; rfl
@[simp] theorem regCarrier_takeUp (h : Hdr) (s : State) : regCarrier (takeUp h s) = regCarrier s := by rw [takeUp_eq]; rfl
@[simp] theorem nextUndrawn_takeUp (n : Nat) (h : Hdr) (s : State) : nextUndrawn n (takeUp h s) = nextUndrawn n s := by rw [takeUp_eq]; rfl
@[simp] theorem rangingOver_takeUp (h : Hdr) (s : State) : rangingOver (takeUp h s) = rangingOver s := by rw [takeUp_eq]; rfl
@[simp] theorem shadowGroups_takeUp (h : Hdr) (s : State) : shadowGroups (takeUp h s) = shadowGroups s := by rw [takeUp_eq]; rfl
@[simp] theorem holdErr_takeUp (h : Hdr) (s : State) : holdErr (takeUp h s) = holdErr s := by rw [takeUp_eq]; rfl
@[simp] theorem checkFlowKey_takeUp (profile : Nat) (key : List Byte) (h : Hdr) (s : State) : checkFlowKey profile key (takeUp h s) = checkFlowKey profile key s := by rw [takeUp_eq]; rfl
@[simp] theorem checkNode_takeUp (node : Nat) (d : Option UserNode) (h : Hdr) (s : State) : checkNode node d (takeUp h s) = checkNode node d s := by rw [takeUp_eq]; rfl
@[simp] theorem tribLocked_takeUp (h : Hdr) (s : State) : tribLocked (takeUp h s) = tribLocked s := by rw [takeUp_eq]; rfl
@[simp] theorem checkTribPageWrite_takeUp (first : Nat) (entries : List TribEntry) (h : Hdr) (s : State) : checkTribPageWrite first entries (takeUp h s) = checkTribPageWrite first entries s := by rw [takeUp_eq]; rfl
@[simp] theorem classCells_takeUp (n : Nat) (c : Nat) (h : Hdr) (s : State) : classCells n c (takeUp h s) = classCells n c s := by rw [takeUp_eq]; rfl
@[simp] theorem holdoverBeyond_takeUp (h : Hdr) (s : State) : holdoverBeyond (takeUp h s) = holdoverBeyond s := by rw [takeUp_eq]; rfl
@[simp] theorem slotCarrier_takeUp (slot : Nat) (h : Hdr) (s : State) : slotCarrier slot (takeUp h s) = slotCarrier slot s := by rw [takeUp_eq]; rfl
@[simp] theorem inClassification_takeUp (h : Hdr) (s : State) : inClassification (takeUp h s) = inClassification s := by rw [takeUp_eq]; rfl
@[simp] theorem checkGateList_takeUp (p : Nat) (g : GateList) (h : Hdr) (s : State) : checkGateList p g (takeUp h s) = checkGateList p g s := by rw [takeUp_eq]; rfl
@[simp] theorem evcRead_takeUp (o : Nat) (h : Hdr) (s : State) : evcRead o (takeUp h s) = evcRead o s := by rw [takeUp_eq]; rfl
@[simp] theorem needsFrame_takeUp (l : List Staged) (h : Hdr) (s : State) : needsFrame l (takeUp h s) = needsFrame l s := by rw [takeUp_eq]; rfl
@[simp] theorem spaceWords_takeUp (h : Hdr) (s : State) : spaceWords (takeUp h s) = spaceWords s := by rw [takeUp_eq]; rfl
@[simp] theorem lanesReady_takeUp (p : Nat) (h : Hdr) (s : State) : lanesReady p (takeUp h s) = lanesReady p s := by rw [takeUp_eq]; rfl
@[simp] theorem checkTernWrite_takeUp (idx : Nat) (w : EntryWord) (value : List Byte) (mask : List Byte) (h : Hdr) (s : State) : checkTernWrite idx w value mask (takeUp h s) = checkTernWrite idx w value mask s := by rw [takeUp_eq]; rfl
@[simp] theorem rttOf_takeUp (eqd : Nat) (h : Hdr) (s : State) : rttOf (takeUp h s) eqd = rttOf s eqd := by rw [takeUp_eq]; rfl
@[simp] theorem emitOf_takeUp (c : Carrier) (start : Instant) (h : Hdr) (s : State) : emitOf (takeUp h s) c start = emitOf s c start := by rw [takeUp_eq]; rfl
@[simp] theorem waits_takeUp (k : WheelKind) (h : Hdr) (s : State) : waits k (takeUp h s) = waits k s := by rw [takeUp_eq]; rfl
@[simp] theorem mayPend_takeUp (n : Nat) (h : Hdr) (s : State) : mayPend n (takeUp h s) = mayPend n s := by rw [takeUp_eq]; rfl
@[simp] theorem helloFor_takeUp (m : HelloMsg) (h : Hdr) (s : State) : helloFor m (takeUp h s) = helloFor m s := by rw [takeUp_eq]; rfl
@[simp] theorem checkFlowModify_takeUp (profile : Nat) (key : List Byte) (w : EntryWord) (h : Hdr) (s : State) : checkFlowModify profile key w (takeUp h s) = checkFlowModify profile key w s := by rw [takeUp_eq]; rfl
@[simp] theorem assocQuanta_takeUp (base : Nat) (l : List Cand) (h : Hdr) (s : State) : assocQuanta base l (takeUp h s) = assocQuanta base l s := by rw [takeUp_eq]; rfl
@[simp] theorem setWritten_takeUp (idx : Nat) (h : Hdr) (s : State) : setWritten idx (takeUp h s) = setWritten idx s := by rw [takeUp_eq]; rfl
@[simp] theorem candidates_takeUp (n : Nat) (start : Instant) (h : Hdr) (s : State) : candidates n start (takeUp h s) = candidates n start s := by rw [takeUp_eq]; rfl
@[simp] theorem setReferenced_takeUp (idx : Nat) (h : Hdr) (s : State) : setReferenced idx (takeUp h s) = setReferenced idx s := by rw [takeUp_eq]; rfl
@[simp] theorem aonRead_takeUp (o : Nat) (h : Hdr) (s : State) : aonRead o (takeUp h s) = aonRead o s := by rw [takeUp_eq]; rfl
@[simp] theorem loaded_takeUp (k : Nat) (h : Hdr) (s : State) : loaded k (takeUp h s) = loaded k s := by rw [takeUp_eq]; rfl
@[simp] theorem dInt_takeUp (c : Carrier) (h : Hdr) (s : State) : dInt (takeUp h s) c = dInt s c := by rw [takeUp_eq]; rfl
@[simp] theorem checkDefault_takeUp (port : Nat) (set : Nat) (profile : Nat) (h : Hdr) (s : State) : checkDefault port set profile (takeUp h s) = checkDefault port set profile s := by rw [takeUp_eq]; rfl
@[simp] theorem ternHit_takeUp (b : Bool) (profile : Nat) (key : List Byte) (h : Hdr) (s : State) : ternHit b profile key (takeUp h s) = ternHit b profile key s := by rw [takeUp_eq]; rfl
@[simp] theorem heldAssocs_takeUp (h : Hdr) (s : State) : heldAssocs (takeUp h s) = heldAssocs s := by rw [takeUp_eq]; rfl
@[simp] theorem targetWord_takeUp (t : Nat) (r : Nat) (h : Hdr) (s : State) : targetWord t r (takeUp h s) = targetWord t r s := by rw [takeUp_eq]; rfl
@[simp] theorem holdoverError_takeUp (h : Hdr) (s : State) : holdoverError (takeUp h s) = holdoverError s := by rw [takeUp_eq]; rfl
@[simp] theorem State.ctx_takeUp (k : Nat) (h : Hdr) (s : State) : State.ctx (takeUp h s) k = State.ctx s k := by rw [takeUp_eq]; rfl
@[simp] theorem secondOf_takeUp (h : Hdr) (s : State) : secondOf (takeUp h s) = secondOf s := by rw [takeUp_eq]; rfl
@[simp] theorem ternKey_takeUp (profile : Nat) (p : Pkt) (h : Hdr) (s : State) : ternKey profile p (takeUp h s) = ternKey profile p s := by rw [takeUp_eq]; rfl
@[simp] theorem timeValid_takeUp (h : Hdr) (s : State) : timeValid (takeUp h s) = timeValid s := by rw [takeUp_eq]; rfl
@[simp] theorem resumeOver_takeUp (h : Hdr) (s : State) : resumeOver (takeUp h s) = resumeOver s := by rw [takeUp_eq]; rfl
@[simp] theorem State.downNow_takeUp (h : Hdr) (s : State) : State.downNow (takeUp h s) = State.downNow s := by rw [takeUp_eq]; rfl
@[simp] theorem irqAsserted_takeUp (t : Nat) (h : Hdr) (s : State) : irqAsserted t (takeUp h s) = irqAsserted t s := by rw [takeUp_eq]; rfl
@[simp] theorem freeSpace_takeUp (down : Bool) (h : Hdr) (s : State) : freeSpace down (takeUp h s) = freeSpace down s := by rw [takeUp_eq]; rfl
@[simp] theorem switchTime_takeUp (h : Hdr) (s : State) : switchTime (takeUp h s) = switchTime s := by rw [takeUp_eq]; rfl
@[simp] theorem validSlots_takeUp (h : Hdr) (s : State) : validSlots (takeUp h s) = validSlots s := by rw [takeUp_eq]; rfl
@[simp] theorem tribWaits_takeUp (c : Nat) (t : Nat) (h : Hdr) (s : State) : tribWaits (takeUp h s) c t = tribWaits s c t := by rw [takeUp_eq]; rfl
@[simp] theorem checkActions_takeUp (idx : Nat) (l : List Action) (h : Hdr) (s : State) : checkActions idx l (takeUp h s) = checkActions idx l s := by rw [takeUp_eq]; rfl
@[simp] theorem listenOk_takeUp (h : Hdr) (s : State) : listenOk (takeUp h s) = listenOk s := by rw [takeUp_eq]; rfl
@[simp] theorem named_takeUp (k : Nat) (h : Hdr) (s : State) : named k (takeUp h s) = named k s := by rw [takeUp_eq]; rfl
@[simp] theorem rangingHeader_takeUp (n : Nat) (g : Grant) (h : Hdr) (s : State) : rangingHeader n g (takeUp h s) = rangingHeader n g s := by rw [takeUp_eq]; rfl
@[simp] theorem laneRate_takeUp (n : Nat) (h : Hdr) (s : State) : laneRate n (takeUp h s) = laneRate n s := by rw [takeUp_eq]; rfl
@[simp] theorem qlSent_takeUp (p : Synce) (h : Hdr) (s : State) : qlSent (takeUp h s) p = qlSent s p := by rw [takeUp_eq]; rfl
@[simp] theorem reportOf_takeUp (n : Nat) (h : Hdr) (s : State) : reportOf n (takeUp h s) = reportOf n s := by rw [takeUp_eq]; rfl
@[simp] theorem State.levelWord_takeUp (h : Hdr) (s : State) : State.levelWord (takeUp h s) = State.levelWord s := by rw [takeUp_eq]; rfl
@[simp] theorem lineTime_takeUp (h : Hdr) (s : State) : lineTime (takeUp h s) = lineTime s := by rw [takeUp_eq]; rfl
@[simp] theorem poolBytes_takeUp (h : Hdr) (s : State) : poolBytes (takeUp h s) = poolBytes s := by rw [takeUp_eq]; rfl
@[simp] theorem chooseImage_takeUp (h : Hdr) (s : State) : chooseImage (takeUp h s) = chooseImage s := by rw [takeUp_eq]; rfl
@[simp] theorem rangingAllowed_takeUp (c : Carrier) (h : Hdr) (s : State) : rangingAllowed (takeUp h s) c = rangingAllowed s c := by rw [takeUp_eq]; rfl
@[simp] theorem alarmBits_takeUp (h : Hdr) (s : State) : alarmBits (takeUp h s) = alarmBits s := by rw [takeUp_eq]; rfl
@[simp] theorem integStat_takeUp (h : Hdr) (s : State) : integStat (takeUp h s) = integStat s := by rw [takeUp_eq]; rfl
@[simp] theorem locksStatus_takeUp (g : Nat) (eff : Instant) (l : List Lock) (h : Hdr) (s : State) : locksStatus g eff l (takeUp h s) = locksStatus g eff l s := by rw [takeUp_eq]; rfl
@[simp] theorem eqdOk_takeUp (eqd : Nat) (h : Hdr) (s : State) : eqdOk (takeUp h s) eqd = eqdOk s eqd := by rw [takeUp_eq]; rfl
@[simp] theorem lockStatus_takeUp (g : Nat) (eff : Instant) (l : Lock) (h : Hdr) (s : State) : lockStatus g eff l (takeUp h s) = lockStatus g eff l s := by rw [takeUp_eq]; rfl
@[simp] theorem portsOfLane_takeUp (n : Nat) (h : Hdr) (s : State) : portsOfLane n (takeUp h s) = portsOfLane n s := by rw [takeUp_eq]; rfl
@[simp] theorem keptDark_takeUp (n : Nat) (h : Hdr) (s : State) : keptDark n (takeUp h s) = keptDark n s := by rw [takeUp_eq]; rfl
@[simp] theorem carried_takeUp (h : Hdr) (s : State) : carried (takeUp h s) = carried s := by rw [takeUp_eq]; rfl
@[simp] theorem identity_takeUp (h : Hdr) (s : State) : identity (takeUp h s) = identity s := by rw [takeUp_eq]; rfl
@[simp] theorem received_takeUp (h : Hdr) (s : State) : received (takeUp h s) = received s := by rw [takeUp_eq]; rfl
@[simp] theorem newlyEligible_takeUp (e0 : Evc) (t : Nat) (h : Hdr) (s : State) : newlyEligible e0 t (takeUp h s) = newlyEligible e0 t s := by rw [takeUp_eq]; rfl
@[simp] theorem traceOf_takeUp (id : Nat) (h : Hdr) (s : State) : traceOf id (takeUp h s) = traceOf id s := by rw [takeUp_eq]; rfl
@[simp] theorem checkCarrierGateSet_takeUp (n : Nat) (p : GateParams) (h : Hdr) (s : State) : checkCarrierGateSet n p (takeUp h s) = checkCarrierGateSet n p s := by rw [takeUp_eq]; rfl
@[simp] theorem leafOf_takeUp (i : Nat) (c : Nat) (g : Nat) (h : Hdr) (s : State) : leafOf i c g (takeUp h s) = leafOf i c g s := by rw [takeUp_eq]; rfl
@[simp] theorem switchValid_takeUp (h : Hdr) (s : State) : switchValid (takeUp h s) = switchValid s := by rw [takeUp_eq]; rfl
@[simp] theorem loadSlot_takeUp (h : Hdr) (s : State) : loadSlot (takeUp h s) = loadSlot s := by rw [takeUp_eq]; rfl
@[simp] theorem classReady_takeUp (g : Nat) (k : Nat) (h : Hdr) (s : State) : classReady g k (takeUp h s) = classReady g k s := by rw [takeUp_eq]; rfl
@[simp] theorem imageValid_takeUp (i : FwImage) (h : Hdr) (s : State) : imageValid i (takeUp h s) = imageValid i s := by rw [takeUp_eq]; rfl
@[simp] theorem State.node_takeUp (a : Nat) (h : Hdr) (s : State) : State.node (takeUp h s) a = State.node s a := by rw [takeUp_eq]; rfl
@[simp] theorem queuedAhead_takeUp (g : Nat) (l : List Lock) (h : Hdr) (s : State) : queuedAhead g l (takeUp h s) = queuedAhead g l s := by rw [takeUp_eq]; rfl
@[simp] theorem groupsIn_takeUp (st : GroupState) (h : Hdr) (s : State) : groupsIn st (takeUp h s) = groupsIn st s := by rw [takeUp_eq]; rfl
@[simp] theorem ownNumber_takeUp (h : Hdr) (s : State) : ownNumber (takeUp h s) = ownNumber s := by rw [takeUp_eq]; rfl
@[simp] theorem downDelay_takeUp (h : Hdr) (s : State) : downDelay (takeUp h s) = downDelay s := by rw [takeUp_eq]; rfl
@[simp] theorem inFlight_takeUp (n : Nat) (h : Hdr) (s : State) : inFlight n (takeUp h s) = inFlight n s := by rw [takeUp_eq]; rfl
@[simp] theorem portStatusOf_takeUp (p : Nat) (h : Hdr) (s : State) : portStatusOf p (takeUp h s) = portStatusOf p s := by rw [takeUp_eq]; rfl
@[simp] theorem checkWord_takeUp (w : EntryWord) (h : Hdr) (s : State) : checkWord w (takeUp h s) = checkWord w s := by rw [takeUp_eq]; rfl
@[simp] theorem tokenOk_takeUp (t : Token) (o : Nat) (h : Hdr) (s : State) : tokenOk t o (takeUp h s) = tokenOk t o s := by rw [takeUp_eq]; rfl
@[simp] theorem boundaryPassed_takeUp (h : Hdr) (s : State) : boundaryPassed (takeUp h s) = boundaryPassed s := by rw [takeUp_eq]; rfl
@[simp] theorem tpRead_takeUp (a : Nat) (latch : Instant) (h : Hdr) (s : State) : tpRead a latch (takeUp h s) = tpRead a latch s := by rw [takeUp_eq]; rfl
@[simp] theorem outputsRun_takeUp (h : Hdr) (s : State) : outputsRun (takeUp h s) = outputsRun s := by rw [takeUp_eq]; rfl
@[simp] theorem devRev_takeUp (h : Hdr) (s : State) : devRev (takeUp h s) = devRev s := by rw [takeUp_eq]; rfl
@[simp] theorem devId_takeUp (h : Hdr) (s : State) : devId (takeUp h s) = devId s := by rw [takeUp_eq]; rfl
@[simp] theorem claimable_takeUp (t : Nat) (h : Hdr) (s : State) : claimable t (takeUp h s) = claimable t s := by rw [takeUp_eq]; rfl
@[simp] theorem checkLoad_takeUp (img : ProgImage) (limit : Nat) (h : Hdr) (s : State) : checkLoad img limit (takeUp h s) = checkLoad img limit s := by rw [takeUp_eq]; rfl
@[simp] theorem pmcRead_takeUp (o : Nat) (h : Hdr) (s : State) : pmcRead o (takeUp h s) = pmcRead o s := by rw [takeUp_eq]; rfl
@[simp] theorem mchBacklog_takeUp (h : Hdr) (s : State) : mchBacklog (takeUp h s) = mchBacklog s := by rw [takeUp_eq]; rfl
@[simp] theorem tpStatus_takeUp (h : Hdr) (s : State) : tpStatus (takeUp h s) = tpStatus s := by rw [takeUp_eq]; rfl
@[simp] theorem State.samp_takeUp (down : Bool) (h : Hdr) (s : State) : State.samp (takeUp h s) down = State.samp s down := by rw [takeUp_eq]; rfl
@[simp] theorem lockBehind_takeUp (g : Nat) (l : Lock) (h : Hdr) (s : State) : lockBehind g l (takeUp h s) = lockBehind g l s := by rw [takeUp_eq]; rfl
@[simp] theorem sampleOf_takeUp (q : Nat) (h : Hdr) (s : State) : sampleOf q (takeUp h s) = sampleOf q s := by rw [takeUp_eq]; rfl
@[simp] theorem checkPortConfig_takeUp (p : Nat) (c : PortParams) (h : Hdr) (s : State) : checkPortConfig p c (takeUp h s) = checkPortConfig p c s := by rw [takeUp_eq]; rfl
@[simp] theorem storeCells_takeUp (h : Hdr) (s : State) : storeCells (takeUp h s) = storeCells s := by rw [takeUp_eq]; rfl
@[simp] theorem queueWords_takeUp (q : Nat) (h : Hdr) (s : State) : queueWords q (takeUp h s) = queueWords q s := by rw [takeUp_eq]; rfl
@[simp] theorem checkFlowInsert_takeUp (w : EntryWord) (key : List Byte) (h : Hdr) (s : State) : checkFlowInsert w key (takeUp h s) = checkFlowInsert w key s := by rw [takeUp_eq]; rfl
@[simp] theorem onlyRefused_takeUp (h : Hdr) (s : State) : onlyRefused (takeUp h s) = onlyRefused s := by rw [takeUp_eq]; rfl
@[simp] theorem sealCheck_takeUp (i : Nat) (c : Nat) (len : Nat) (h : Hdr) (s : State) : sealCheck i c len (takeUp h s) = sealCheck i c len s := by rw [takeUp_eq]; rfl
@[simp] theorem stageRoom_takeUp (g : Nat) (b : Nat) (h : Hdr) (s : State) : stageRoom g b (takeUp h s) = stageRoom g b s := by rw [takeUp_eq]; rfl
@[simp] theorem stagedTotals_takeUp (h : Hdr) (s : State) : stagedTotals (takeUp h s) = stagedTotals s := by rw [takeUp_eq]; rfl
@[simp] theorem clockClass_takeUp (h : Hdr) (s : State) : clockClass (takeUp h s) = clockClass s := by rw [takeUp_eq]; rfl
@[simp] theorem holdsAssoc_takeUp (i : Nat) (h : Hdr) (s : State) : holdsAssoc (takeUp h s) i = holdsAssoc s i := by rw [takeUp_eq]; rfl
@[simp] theorem straddles_takeUp (n : Nat) (e : Nat) (w : Nat) (h : Hdr) (s : State) : straddles (takeUp h s) n e w = straddles s n e w := by rw [takeUp_eq]; rfl
@[simp] theorem State.carrierNums_takeUp (h : Hdr) (s : State) : State.carrierNums (takeUp h s) = State.carrierNums s := by rw [takeUp_eq]; rfl
@[simp] theorem slewLeft_takeUp (h : Hdr) (s : State) : slewLeft (takeUp h s) = slewLeft s := by rw [takeUp_eq]; rfl
@[simp] theorem State.level_takeUp (d : Nat) (h : Hdr) (s : State) : State.level (takeUp h s) d = State.level s d := by rw [takeUp_eq]; rfl
@[simp] theorem dueRanging_takeUp (h : Hdr) (s : State) : dueRanging (takeUp h s) = dueRanging s := by rw [takeUp_eq]; rfl
@[simp] theorem windowRefused_takeUp (n : Nat) (g : Grant) (w : Nat) (h : Hdr) (s : State) : windowRefused n g w (takeUp h s) = windowRefused n g w s := by rw [takeUp_eq]; rfl
@[simp] theorem keyUsedUp_takeUp (h : Hdr) (s : State) : keyUsedUp (takeUp h s) = keyUsedUp s := by rw [takeUp_eq]; rfl
@[simp] theorem dsDelay_takeUp (h : Hdr) (s : State) : dsDelay (takeUp h s) = dsDelay s := by rw [takeUp_eq]; rfl
@[simp] theorem slotTaken_takeUp (n : Nat) (slot : Nat) (h : Hdr) (s : State) : slotTaken n slot (takeUp h s) = slotTaken n slot s := by rw [takeUp_eq]; rfl
@[simp] theorem findFlow_takeUp (b : Bool) (profile : Nat) (key : List Byte) (h : Hdr) (s : State) : findFlow b profile key (takeUp h s) = findFlow b profile key s := by rw [takeUp_eq]; rfl
@[simp] theorem errEst_takeUp (h : Hdr) (s : State) : errEst (takeUp h s) = errEst s := by rw [takeUp_eq]; rfl
@[simp] theorem jobOk_takeUp (isSeal : Bool) (i : Nat) (h : Hdr) (s : State) : jobOk isSeal i (takeUp h s) = jobOk isSeal i s := by rw [takeUp_eq]; rfl
@[simp] theorem devStatus_takeUp (h : Hdr) (s : State) : devStatus (takeUp h s) = devStatus s := by rw [takeUp_eq]; rfl
@[simp] theorem headerOf_takeUp (n : Nat) (b : Burst) (g : Grant) (h : Hdr) (s : State) : headerOf n b g (takeUp h s) = headerOf n b g s := by rw [takeUp_eq]; rfl
@[simp] theorem frameNow_takeUp (h : Hdr) (s : State) : frameNow (takeUp h s) = frameNow s := by rw [takeUp_eq]; rfl
@[simp] theorem keyAged_takeUp (h : Hdr) (s : State) : keyAged (takeUp h s) = keyAged s := by rw [takeUp_eq]; rfl
@[simp] theorem pageFor_takeUp (b : Instant) (h : Hdr) (s : State) : pageFor (takeUp h s) b = pageFor s b := by rw [takeUp_eq]; rfl
@[simp] theorem blockers_takeUp (t : PowerState) (h : Hdr) (s : State) : blockers t (takeUp h s) = blockers t s := by rw [takeUp_eq]; rfl
@[simp] theorem holders_takeUp (g : Nat) (l : Lock) (h : Hdr) (s : State) : holders g l (takeUp h s) = holders g l s := by rw [takeUp_eq]; rfl
@[simp] theorem progVersion_takeUp (k : Nat) (h : Hdr) (s : State) : progVersion k (takeUp h s) = progVersion k s := by rw [takeUp_eq]; rfl
@[simp] theorem State.held_takeUp (d : Nat) (h : Hdr) (s : State) : State.held (takeUp h s) d = State.held s d := by rw [takeUp_eq]; rfl
@[simp] theorem replayCheck_takeUp (k : Key) (i : Nat) (pn : Nat) (h : Hdr) (s : State) : replayCheck k i pn (takeUp h s) = replayCheck k i pn s := by rw [takeUp_eq]; rfl
@[simp] theorem dueGrant_takeUp (n : Nat) (h : Hdr) (s : State) : dueGrant n (takeUp h s) = dueGrant n s := by rw [takeUp_eq]; rfl
@[simp] theorem checkTribPageSwap_takeUp (instant : Instant) (fence : Nat) (h : Hdr) (s : State) : checkTribPageSwap instant fence (takeUp h s) = checkTribPageSwap instant fence s := by rw [takeUp_eq]; rfl
@[simp] theorem State.vote_takeUp (v : Nat) (h : Hdr) (s : State) : State.vote (takeUp h s) v = State.vote s v := by rw [takeUp_eq]; rfl
@[simp] theorem State.quads_takeUp (h : Hdr) (s : State) : State.quads (takeUp h s) = State.quads s := by rw [takeUp_eq]; rfl
@[simp] theorem refWords_takeUp (h : Hdr) (s : State) : refWords (takeUp h s) = refWords s := by rw [takeUp_eq]; rfl
@[simp] theorem checkStaged_takeUp (c : Cmd) (h : Hdr) (s : State) : checkStaged c (takeUp h s) = checkStaged c s := by rw [takeUp_eq]; rfl
@[simp] theorem classHasQueue_takeUp (c : Nat) (h : Hdr) (s : State) : classHasQueue c (takeUp h s) = classHasQueue c s := by rw [takeUp_eq]; rfl
@[simp] theorem State.tribEntry_takeUp (t : Nat) (h : Hdr) (s : State) : State.tribEntry (takeUp h s) t = State.tribEntry s t := by rw [takeUp_eq]; rfl
@[simp] theorem exactKey_takeUp (profile : Nat) (p : Pkt) (h : Hdr) (s : State) : exactKey profile p (takeUp h s) = exactKey profile p s := by rw [takeUp_eq]; rfl
@[simp] theorem State.powerState_takeUp (h : Hdr) (s : State) : State.powerState (takeUp h s) = State.powerState s := by rw [takeUp_eq]; rfl
@[simp] theorem exactHit_takeUp (b : Bool) (profile : Nat) (key : List Byte) (h : Hdr) (s : State) : exactHit b profile key (takeUp h s) = exactHit b profile key s := by rw [takeUp_eq]; rfl
@[simp] theorem headIndex_takeUp (h : Option Ident) (hh : Hdr) (s : State) : headIndex h (takeUp hh s) = headIndex h s := by rw [takeUp_eq]; rfl
@[simp] theorem refusedHead_takeUp (h : Ident) (e : BitVec 32) (hh : Hdr) (s : State) : refusedHead h e (takeUp hh s) = refusedHead h e s := by rw [takeUp_eq]; rfl
@[simp] theorem queueParamsOk_takeUp (p : QueueParams) (h : Hdr) (s : State) : queueParamsOk p (takeUp h s) = queueParamsOk p s := by rw [takeUp_eq]; rfl
@[simp] theorem State.classNode_takeUp (a : Nat) (c : Nat) (h : Hdr) (s : State) : State.classNode (takeUp h s) a c = State.classNode s a c := by rw [takeUp_eq]; rfl
@[simp] theorem State.presentVote_takeUp (w : Word) (h : Hdr) (s : State) : State.presentVote (takeUp h s) w = State.presentVote s w := by rw [takeUp_eq]; rfl@[simp] theorem waitsBefore_takeUp (a0 : Pkt) (a1 : Option (List Byte)) (h : Hdr) (s : State) : waitsBefore a0 a1 (takeUp h s) = waitsBefore a0 a1 s := by rw [takeUp_eq]; rfl
@[simp] theorem headOk_takeUp (a0 : Ident) (a1 : BitVec 32) (h : Hdr) (s : State) : headOk a0 a1 (takeUp h s) = headOk a0 a1 s := by rw [takeUp_eq]; rfl
@[simp] theorem rxInstant_takeUp (a0 : Port) (a1 : Nat) (a2 : Nat) (h : Hdr) (s : State) : rxInstant a0 a1 a2 (takeUp h s) = rxInstant a0 a1 a2 s := by rw [takeUp_eq]; rfl
@[simp] theorem hitsStanding_takeUp (a1 : Nat) (a2 : Carrier) (a3 : Nat) (a4 : Nat) (a5 : Standing) (h : Hdr) (s : State) : hitsStanding (takeUp h s) a1 a2 a3 a4 a5 = hitsStanding s a1 a2 a3 a4 a5 := by rw [takeUp_eq]; rfl
@[simp] theorem trainOf_takeUp (a0 : TimeOut) (h : Hdr) (s : State) : trainOf a0 (takeUp h s) = trainOf a0 s := by rw [takeUp_eq]; rfl
@[simp] theorem nextEdge_takeUp (a0 : TimeOut) (h : Hdr) (s : State) : nextEdge a0 (takeUp h s) = nextEdge a0 s := by rw [takeUp_eq]; rfl
@[simp] theorem gateDrive_takeUp (a0 : Nat) (a1 : Instant) (h : Hdr) (s : State) : gateDrive a0 a1 (takeUp h s) = gateDrive a0 a1 s := by rw [takeUp_eq]; rfl
@[simp] theorem gateAlarm_takeUp (a0 : Nat) (a1 : Nat) (a2 : Nat) (h : Hdr) (s : State) : gateAlarm a0 a1 a2 (takeUp h s) = gateAlarm a0 a1 a2 s := by rw [takeUp_eq]; rfl
@[simp] theorem portsPresent_takeUp (a0 : BitVec 36) (h : Hdr) (s : State) : portsPresent a0 (takeUp h s) = portsPresent a0 s := by rw [takeUp_eq]; rfl
@[simp] theorem biasOf_takeUp (a0 : Nat) (h : Hdr) (s : State) : biasOf a0 (takeUp h s) = biasOf a0 s := by rw [takeUp_eq]; rfl
@[simp] theorem windowProfile_takeUp (a0 : Nat) (a1 : Instant) (h : Hdr) (s : State) : windowProfile a0 a1 (takeUp h s) = windowProfile a0 a1 s := by rw [takeUp_eq]; rfl
@[simp] theorem committedConfigs_takeUp (a0 : Nat) (h : Hdr) (s : State) : committedConfigs a0 (takeUp h s) = committedConfigs a0 s := by rw [takeUp_eq]; rfl
@[simp] theorem namesUs_takeUp (a1 : List (List Byte)) (h : Hdr) (s : State) : namesUs (takeUp h s) a1 = namesUs s a1 := by rw [takeUp_eq]; rfl

end Sys2Proof.Machine
end

