-- ==== Sys2Proof/Laws/Shared.lean ====
section
/-! SUPPORT. What the shared operations can change: raising an event and the conditions of the LEVEL sources touch the event
controller and what is sent, nothing else. -/

namespace Sys2Proof.Machine

set_option Elab.async false

/-- Only the event controller and what is sent differ between two states. -/
def evOnly (s t : State) : Prop := t = { s with evc := t.evc, out := t.out }

theorem evOnly.refl (s : State) : evOnly s s := rfl

theorem evOnly.trans {s t u : State} (h : evOnly s t) (k : evOnly t u) : evOnly s u := by
  unfold evOnly at *
  rw [k, h]

theorem evOnly_evc (s : State) (e : Evc) : evOnly s { s with evc := e } := rfl

theorem evOnly_emit (o : Output) (s : State) : evOnly s (emit o s) := rfl

theorem sendMsix_only (k : Nat) (s : State) : evOnly s (sendMsix k s) := by
  unfold sendMsix
  dsimp only
  split
  · exact .refl s
  · split <;> rfl

theorem fire_only (k : Nat) (s : State) : evOnly s (fire k s) := by
  unfold fire
  dsimp only
  split
  · rfl
  · exact (evOnly_evc s _).trans (sendMsix_only k _)

theorem quiet_only (k : Nat) (s : State) : evOnly s (quiet k s) := by
  unfold quiet
  dsimp only
  split <;> rfl

theorem quietAll_only (s : State) : evOnly s (quietAll s) :=
  (((quiet_only 0 s).trans (quiet_only 1 _)).trans (quiet_only 2 _)).trans (quiet_only 3 _)

theorem arrive_only (k : Nat) (s : State) : evOnly s (arrive k s) := by
  unfold arrive
  dsimp only
  split
  · exact .refl s
  · split
    · exact (evOnly_evc s _).trans (fire_only _ _)
    · rfl

theorem nest_only (e : Evc) (k : Nat) (s : State) : evOnly s (nest e k s) := by
  unfold nest
  dsimp only
  split
  · exact sendMsix_only _ s
  · exact .refl s

theorem land_only (k : Nat) (s : State) : evOnly s (land k s) := by
  unfold land
  dsimp only
  split
  · rfl
  · exact ((evOnly_evc s _).trans (arrive_only k _)).trans (nest_only _ k _)

/-- Raising an event changes the event controller and what is sent, nothing else (R288 to R290). -/
theorem raiseOn_only (l : Bool) (k : Nat) (s : State) : evOnly s (raiseOn l k s) := by
  unfold raiseOn
  split
  · exact .refl s
  · split
    · rfl
    · exact land_only k s

theorem raise_only (k : Nat) (s : State) : evOnly s (raise k s) := raiseOn_only false k s

theorem setLevel_only (k : Nat) (c : Bool) (s : State) : evOnly s (setLevel k c s) := by
  unfold setLevel
  split
  · exact .refl s
  · split
    · exact .refl s
    · split
      · exact land_only k s
      · exact (evOnly_evc s _).trans (quietAll_only _)

theorem holdRising_only (k : Nat) (s : State) : evOnly s (holdRising k s) := by
  unfold holdRising
  split <;> rfl

theorem syncReply_only (s : State) : evOnly s (syncReply s) := setLevel_only _ _ s
theorem syncCap_only (k : Nat) (s : State) : evOnly s (syncCap k s) := setLevel_only _ _ s
theorem syncTs_only (s : State) : evOnly s (syncTs s) := setLevel_only _ _ s
theorem syncEx_only (s : State) : evOnly s (syncEx s) := setLevel_only _ _ s
theorem syncLog_only (s : State) : evOnly s (syncLog s) := setLevel_only _ _ s
theorem syncWarn_only (s : State) : evOnly s (syncWarn s) := setLevel_only _ _ s

/-- Raising at most once a second also notes the second (R355). -/
theorem raiseOnceKey_only (key k : Nat) (s : State) :
    raiseOnceKey key k s = { s with
      clk := (raiseOnceKey key k s).clk, evc := (raiseOnceKey key k s).evc, out := (raiseOnceKey key k s).out } ∧
    (raiseOnceKey key k s).clk.now = s.clk.now := by
  unfold raiseOnceKey
  split
  · exact ⟨rfl, rfl⟩
  · have h := raise_only k { s with clk := { s.clk with
      lastRaise := Tbl.set (0, 0) s.clk.lastRaise key ((secondOf s).1, (secondOf s).2 + 1) } }
    unfold evOnly at h
    constructor
    · rw [h]
    · rw [h]

/-- A change of power state raises power.state (R325). -/
theorem notePower_only (s0 s : State) : evOnly s (notePower s0 s) := by
  unfold notePower
  split
  · exact .refl s
  · exact raise_only _ s

theorem evOnly.fuses {s t : State} (h : evOnly s t) : t.fuses = s.fuses := by
  unfold evOnly at h
  rw [h]
theorem evOnly.dev {s t : State} (h : evOnly s t) : t.dev = s.dev := by
  unfold evOnly at h
  rw [h]
theorem evOnly.clk {s t : State} (h : evOnly s t) : t.clk = s.clk := by
  unfold evOnly at h
  rw [h]
theorem evOnly.time {s t : State} (h : evOnly s t) : t.time = s.time := by
  unfold evOnly at h
  rw [h]
theorem evOnly.tio {s t : State} (h : evOnly s t) : t.tio = s.tio := by
  unfold evOnly at h
  rw [h]
theorem evOnly.carriers {s t : State} (h : evOnly s t) : t.carriers = s.carriers := by
  unfold evOnly at h
  rw [h]
theorem evOnly.reg {s t : State} (h : evOnly s t) : t.reg = s.reg := by
  unfold evOnly at h
  rw [h]
theorem evOnly.down {s t : State} (h : evOnly s t) : t.down = s.down := by
  unfold evOnly at h
  rw [h]
theorem evOnly.mch {s t : State} (h : evOnly s t) : t.mch = s.mch := by
  unfold evOnly at h
  rw [h]
theorem evOnly.trib {s t : State} (h : evOnly s t) : t.trib = s.trib := by
  unfold evOnly at h
  rw [h]
theorem evOnly.cls {s t : State} (h : evOnly s t) : t.cls = s.cls := by
  unfold evOnly at h
  rw [h]
theorem evOnly.q {s t : State} (h : evOnly s t) : t.q = s.q := by
  unfold evOnly at h
  rw [h]
theorem evOnly.lanes {s t : State} (h : evOnly s t) : t.lanes = s.lanes := by
  unfold evOnly at h
  rw [h]
theorem evOnly.refs {s t : State} (h : evOnly s t) : t.refs = s.refs := by
  unfold evOnly at h
  rw [h]
theorem evOnly.die {s t : State} (h : evOnly s t) : t.die = s.die := by
  unfold evOnly at h
  rw [h]
theorem evOnly.ports {s t : State} (h : evOnly s t) : t.ports = s.ports := by
  unfold evOnly at h
  rw [h]
theorem evOnly.snaps {s t : State} (h : evOnly s t) : t.snaps = s.snaps := by
  unfold evOnly at h
  rw [h]
theorem evOnly.sec {s t : State} (h : evOnly s t) : t.sec = s.sec := by
  unfold evOnly at h
  rw [h]
theorem evOnly.groups {s t : State} (h : evOnly s t) : t.groups = s.groups := by
  unfold evOnly at h
  rw [h]
theorem evOnly.cmd {s t : State} (h : evOnly s t) : t.cmd = s.cmd := by
  unfold evOnly at h
  rw [h]
theorem evOnly.eng {s t : State} (h : evOnly s t) : t.eng = s.eng := by
  unfold evOnly at h
  rw [h]
theorem evOnly.pmc {s t : State} (h : evOnly s t) : t.pmc = s.pmc := by
  unfold evOnly at h
  rw [h]
theorem evOnly.pwr {s t : State} (h : evOnly s t) : t.pwr = s.pwr := by
  unfold evOnly at h
  rw [h]
theorem evOnly.pending {s t : State} (h : evOnly s t) : t.pending = s.pending := by
  unfold evOnly at h
  rw [h]

/-! What these operations leave alone. -/

@[simp] theorem raise_fuses (k : Nat) (s : State) : (raise k s).fuses = s.fuses := (raise_only k s).fuses
@[simp] theorem raise_dev (k : Nat) (s : State) : (raise k s).dev = s.dev := (raise_only k s).dev
@[simp] theorem raise_clk (k : Nat) (s : State) : (raise k s).clk = s.clk := (raise_only k s).clk
@[simp] theorem raise_time (k : Nat) (s : State) : (raise k s).time = s.time := (raise_only k s).time
@[simp] theorem raise_tio (k : Nat) (s : State) : (raise k s).tio = s.tio := (raise_only k s).tio
@[simp] theorem raise_carriers (k : Nat) (s : State) : (raise k s).carriers = s.carriers := (raise_only k s).carriers
@[simp] theorem raise_reg (k : Nat) (s : State) : (raise k s).reg = s.reg := (raise_only k s).reg
@[simp] theorem raise_down (k : Nat) (s : State) : (raise k s).down = s.down := (raise_only k s).down
@[simp] theorem raise_mch (k : Nat) (s : State) : (raise k s).mch = s.mch := (raise_only k s).mch
@[simp] theorem raise_trib (k : Nat) (s : State) : (raise k s).trib = s.trib := (raise_only k s).trib
@[simp] theorem raise_cls (k : Nat) (s : State) : (raise k s).cls = s.cls := (raise_only k s).cls
@[simp] theorem raise_q (k : Nat) (s : State) : (raise k s).q = s.q := (raise_only k s).q
@[simp] theorem raise_lanes (k : Nat) (s : State) : (raise k s).lanes = s.lanes := (raise_only k s).lanes
@[simp] theorem raise_refs (k : Nat) (s : State) : (raise k s).refs = s.refs := (raise_only k s).refs
@[simp] theorem raise_die (k : Nat) (s : State) : (raise k s).die = s.die := (raise_only k s).die
@[simp] theorem raise_ports (k : Nat) (s : State) : (raise k s).ports = s.ports := (raise_only k s).ports
@[simp] theorem raise_snaps (k : Nat) (s : State) : (raise k s).snaps = s.snaps := (raise_only k s).snaps
@[simp] theorem raise_sec (k : Nat) (s : State) : (raise k s).sec = s.sec := (raise_only k s).sec
@[simp] theorem raise_groups (k : Nat) (s : State) : (raise k s).groups = s.groups := (raise_only k s).groups
@[simp] theorem raise_cmd (k : Nat) (s : State) : (raise k s).cmd = s.cmd := (raise_only k s).cmd
@[simp] theorem raise_eng (k : Nat) (s : State) : (raise k s).eng = s.eng := (raise_only k s).eng
@[simp] theorem raise_pmc (k : Nat) (s : State) : (raise k s).pmc = s.pmc := (raise_only k s).pmc
@[simp] theorem raise_pwr (k : Nat) (s : State) : (raise k s).pwr = s.pwr := (raise_only k s).pwr
@[simp] theorem raise_pending (k : Nat) (s : State) : (raise k s).pending = s.pending := (raise_only k s).pending

@[simp] theorem raiseOn_fuses (l : Bool) (k : Nat) (s : State) : (raiseOn l k s).fuses = s.fuses := (raiseOn_only l k s).fuses
@[simp] theorem raiseOn_dev (l : Bool) (k : Nat) (s : State) : (raiseOn l k s).dev = s.dev := (raiseOn_only l k s).dev
@[simp] theorem raiseOn_clk (l : Bool) (k : Nat) (s : State) : (raiseOn l k s).clk = s.clk := (raiseOn_only l k s).clk
@[simp] theorem raiseOn_time (l : Bool) (k : Nat) (s : State) : (raiseOn l k s).time = s.time := (raiseOn_only l k s).time
@[simp] theorem raiseOn_tio (l : Bool) (k : Nat) (s : State) : (raiseOn l k s).tio = s.tio := (raiseOn_only l k s).tio
@[simp] theorem raiseOn_carriers (l : Bool) (k : Nat) (s : State) : (raiseOn l k s).carriers = s.carriers := (raiseOn_only l k s).carriers
@[simp] theorem raiseOn_reg (l : Bool) (k : Nat) (s : State) : (raiseOn l k s).reg = s.reg := (raiseOn_only l k s).reg
@[simp] theorem raiseOn_down (l : Bool) (k : Nat) (s : State) : (raiseOn l k s).down = s.down := (raiseOn_only l k s).down
@[simp] theorem raiseOn_mch (l : Bool) (k : Nat) (s : State) : (raiseOn l k s).mch = s.mch := (raiseOn_only l k s).mch
@[simp] theorem raiseOn_trib (l : Bool) (k : Nat) (s : State) : (raiseOn l k s).trib = s.trib := (raiseOn_only l k s).trib
@[simp] theorem raiseOn_cls (l : Bool) (k : Nat) (s : State) : (raiseOn l k s).cls = s.cls := (raiseOn_only l k s).cls
@[simp] theorem raiseOn_q (l : Bool) (k : Nat) (s : State) : (raiseOn l k s).q = s.q := (raiseOn_only l k s).q
@[simp] theorem raiseOn_lanes (l : Bool) (k : Nat) (s : State) : (raiseOn l k s).lanes = s.lanes := (raiseOn_only l k s).lanes
@[simp] theorem raiseOn_refs (l : Bool) (k : Nat) (s : State) : (raiseOn l k s).refs = s.refs := (raiseOn_only l k s).refs
@[simp] theorem raiseOn_die (l : Bool) (k : Nat) (s : State) : (raiseOn l k s).die = s.die := (raiseOn_only l k s).die
@[simp] theorem raiseOn_ports (l : Bool) (k : Nat) (s : State) : (raiseOn l k s).ports = s.ports := (raiseOn_only l k s).ports
@[simp] theorem raiseOn_snaps (l : Bool) (k : Nat) (s : State) : (raiseOn l k s).snaps = s.snaps := (raiseOn_only l k s).snaps
@[simp] theorem raiseOn_sec (l : Bool) (k : Nat) (s : State) : (raiseOn l k s).sec = s.sec := (raiseOn_only l k s).sec
@[simp] theorem raiseOn_groups (l : Bool) (k : Nat) (s : State) : (raiseOn l k s).groups = s.groups := (raiseOn_only l k s).groups
@[simp] theorem raiseOn_cmd (l : Bool) (k : Nat) (s : State) : (raiseOn l k s).cmd = s.cmd := (raiseOn_only l k s).cmd
@[simp] theorem raiseOn_eng (l : Bool) (k : Nat) (s : State) : (raiseOn l k s).eng = s.eng := (raiseOn_only l k s).eng
@[simp] theorem raiseOn_pmc (l : Bool) (k : Nat) (s : State) : (raiseOn l k s).pmc = s.pmc := (raiseOn_only l k s).pmc
@[simp] theorem raiseOn_pwr (l : Bool) (k : Nat) (s : State) : (raiseOn l k s).pwr = s.pwr := (raiseOn_only l k s).pwr
@[simp] theorem raiseOn_pending (l : Bool) (k : Nat) (s : State) : (raiseOn l k s).pending = s.pending := (raiseOn_only l k s).pending

@[simp] theorem setLevel_fuses (k : Nat) (c : Bool) (s : State) : (setLevel k c s).fuses = s.fuses := (setLevel_only k c s).fuses
@[simp] theorem setLevel_dev (k : Nat) (c : Bool) (s : State) : (setLevel k c s).dev = s.dev := (setLevel_only k c s).dev
@[simp] theorem setLevel_clk (k : Nat) (c : Bool) (s : State) : (setLevel k c s).clk = s.clk := (setLevel_only k c s).clk
@[simp] theorem setLevel_time (k : Nat) (c : Bool) (s : State) : (setLevel k c s).time = s.time := (setLevel_only k c s).time
@[simp] theorem setLevel_tio (k : Nat) (c : Bool) (s : State) : (setLevel k c s).tio = s.tio := (setLevel_only k c s).tio
@[simp] theorem setLevel_carriers (k : Nat) (c : Bool) (s : State) : (setLevel k c s).carriers = s.carriers := (setLevel_only k c s).carriers
@[simp] theorem setLevel_reg (k : Nat) (c : Bool) (s : State) : (setLevel k c s).reg = s.reg := (setLevel_only k c s).reg
@[simp] theorem setLevel_down (k : Nat) (c : Bool) (s : State) : (setLevel k c s).down = s.down := (setLevel_only k c s).down
@[simp] theorem setLevel_mch (k : Nat) (c : Bool) (s : State) : (setLevel k c s).mch = s.mch := (setLevel_only k c s).mch
@[simp] theorem setLevel_trib (k : Nat) (c : Bool) (s : State) : (setLevel k c s).trib = s.trib := (setLevel_only k c s).trib
@[simp] theorem setLevel_cls (k : Nat) (c : Bool) (s : State) : (setLevel k c s).cls = s.cls := (setLevel_only k c s).cls
@[simp] theorem setLevel_q (k : Nat) (c : Bool) (s : State) : (setLevel k c s).q = s.q := (setLevel_only k c s).q
@[simp] theorem setLevel_lanes (k : Nat) (c : Bool) (s : State) : (setLevel k c s).lanes = s.lanes := (setLevel_only k c s).lanes
@[simp] theorem setLevel_refs (k : Nat) (c : Bool) (s : State) : (setLevel k c s).refs = s.refs := (setLevel_only k c s).refs
@[simp] theorem setLevel_die (k : Nat) (c : Bool) (s : State) : (setLevel k c s).die = s.die := (setLevel_only k c s).die
@[simp] theorem setLevel_ports (k : Nat) (c : Bool) (s : State) : (setLevel k c s).ports = s.ports := (setLevel_only k c s).ports
@[simp] theorem setLevel_snaps (k : Nat) (c : Bool) (s : State) : (setLevel k c s).snaps = s.snaps := (setLevel_only k c s).snaps
@[simp] theorem setLevel_sec (k : Nat) (c : Bool) (s : State) : (setLevel k c s).sec = s.sec := (setLevel_only k c s).sec
@[simp] theorem setLevel_groups (k : Nat) (c : Bool) (s : State) : (setLevel k c s).groups = s.groups := (setLevel_only k c s).groups
@[simp] theorem setLevel_cmd (k : Nat) (c : Bool) (s : State) : (setLevel k c s).cmd = s.cmd := (setLevel_only k c s).cmd
@[simp] theorem setLevel_eng (k : Nat) (c : Bool) (s : State) : (setLevel k c s).eng = s.eng := (setLevel_only k c s).eng
@[simp] theorem setLevel_pmc (k : Nat) (c : Bool) (s : State) : (setLevel k c s).pmc = s.pmc := (setLevel_only k c s).pmc
@[simp] theorem setLevel_pwr (k : Nat) (c : Bool) (s : State) : (setLevel k c s).pwr = s.pwr := (setLevel_only k c s).pwr
@[simp] theorem setLevel_pending (k : Nat) (c : Bool) (s : State) : (setLevel k c s).pending = s.pending := (setLevel_only k c s).pending

@[simp] theorem holdRising_fuses (k : Nat) (s : State) : (holdRising k s).fuses = s.fuses := (holdRising_only k s).fuses
@[simp] theorem holdRising_dev (k : Nat) (s : State) : (holdRising k s).dev = s.dev := (holdRising_only k s).dev
@[simp] theorem holdRising_clk (k : Nat) (s : State) : (holdRising k s).clk = s.clk := (holdRising_only k s).clk
@[simp] theorem holdRising_time (k : Nat) (s : State) : (holdRising k s).time = s.time := (holdRising_only k s).time
@[simp] theorem holdRising_tio (k : Nat) (s : State) : (holdRising k s).tio = s.tio := (holdRising_only k s).tio
@[simp] theorem holdRising_carriers (k : Nat) (s : State) : (holdRising k s).carriers = s.carriers := (holdRising_only k s).carriers
@[simp] theorem holdRising_reg (k : Nat) (s : State) : (holdRising k s).reg = s.reg := (holdRising_only k s).reg
@[simp] theorem holdRising_down (k : Nat) (s : State) : (holdRising k s).down = s.down := (holdRising_only k s).down
@[simp] theorem holdRising_mch (k : Nat) (s : State) : (holdRising k s).mch = s.mch := (holdRising_only k s).mch
@[simp] theorem holdRising_trib (k : Nat) (s : State) : (holdRising k s).trib = s.trib := (holdRising_only k s).trib
@[simp] theorem holdRising_cls (k : Nat) (s : State) : (holdRising k s).cls = s.cls := (holdRising_only k s).cls
@[simp] theorem holdRising_q (k : Nat) (s : State) : (holdRising k s).q = s.q := (holdRising_only k s).q
@[simp] theorem holdRising_lanes (k : Nat) (s : State) : (holdRising k s).lanes = s.lanes := (holdRising_only k s).lanes
@[simp] theorem holdRising_refs (k : Nat) (s : State) : (holdRising k s).refs = s.refs := (holdRising_only k s).refs
@[simp] theorem holdRising_die (k : Nat) (s : State) : (holdRising k s).die = s.die := (holdRising_only k s).die
@[simp] theorem holdRising_ports (k : Nat) (s : State) : (holdRising k s).ports = s.ports := (holdRising_only k s).ports
@[simp] theorem holdRising_snaps (k : Nat) (s : State) : (holdRising k s).snaps = s.snaps := (holdRising_only k s).snaps
@[simp] theorem holdRising_sec (k : Nat) (s : State) : (holdRising k s).sec = s.sec := (holdRising_only k s).sec
@[simp] theorem holdRising_groups (k : Nat) (s : State) : (holdRising k s).groups = s.groups := (holdRising_only k s).groups
@[simp] theorem holdRising_cmd (k : Nat) (s : State) : (holdRising k s).cmd = s.cmd := (holdRising_only k s).cmd
@[simp] theorem holdRising_eng (k : Nat) (s : State) : (holdRising k s).eng = s.eng := (holdRising_only k s).eng
@[simp] theorem holdRising_pmc (k : Nat) (s : State) : (holdRising k s).pmc = s.pmc := (holdRising_only k s).pmc
@[simp] theorem holdRising_pwr (k : Nat) (s : State) : (holdRising k s).pwr = s.pwr := (holdRising_only k s).pwr
@[simp] theorem holdRising_pending (k : Nat) (s : State) : (holdRising k s).pending = s.pending := (holdRising_only k s).pending

@[simp] theorem land_fuses (k : Nat) (s : State) : (land k s).fuses = s.fuses := (land_only k s).fuses
@[simp] theorem land_dev (k : Nat) (s : State) : (land k s).dev = s.dev := (land_only k s).dev
@[simp] theorem land_clk (k : Nat) (s : State) : (land k s).clk = s.clk := (land_only k s).clk
@[simp] theorem land_time (k : Nat) (s : State) : (land k s).time = s.time := (land_only k s).time
@[simp] theorem land_tio (k : Nat) (s : State) : (land k s).tio = s.tio := (land_only k s).tio
@[simp] theorem land_carriers (k : Nat) (s : State) : (land k s).carriers = s.carriers := (land_only k s).carriers
@[simp] theorem land_reg (k : Nat) (s : State) : (land k s).reg = s.reg := (land_only k s).reg
@[simp] theorem land_down (k : Nat) (s : State) : (land k s).down = s.down := (land_only k s).down
@[simp] theorem land_mch (k : Nat) (s : State) : (land k s).mch = s.mch := (land_only k s).mch
@[simp] theorem land_trib (k : Nat) (s : State) : (land k s).trib = s.trib := (land_only k s).trib
@[simp] theorem land_cls (k : Nat) (s : State) : (land k s).cls = s.cls := (land_only k s).cls
@[simp] theorem land_q (k : Nat) (s : State) : (land k s).q = s.q := (land_only k s).q
@[simp] theorem land_lanes (k : Nat) (s : State) : (land k s).lanes = s.lanes := (land_only k s).lanes
@[simp] theorem land_refs (k : Nat) (s : State) : (land k s).refs = s.refs := (land_only k s).refs
@[simp] theorem land_die (k : Nat) (s : State) : (land k s).die = s.die := (land_only k s).die
@[simp] theorem land_ports (k : Nat) (s : State) : (land k s).ports = s.ports := (land_only k s).ports
@[simp] theorem land_snaps (k : Nat) (s : State) : (land k s).snaps = s.snaps := (land_only k s).snaps
@[simp] theorem land_sec (k : Nat) (s : State) : (land k s).sec = s.sec := (land_only k s).sec
@[simp] theorem land_groups (k : Nat) (s : State) : (land k s).groups = s.groups := (land_only k s).groups
@[simp] theorem land_cmd (k : Nat) (s : State) : (land k s).cmd = s.cmd := (land_only k s).cmd
@[simp] theorem land_eng (k : Nat) (s : State) : (land k s).eng = s.eng := (land_only k s).eng
@[simp] theorem land_pmc (k : Nat) (s : State) : (land k s).pmc = s.pmc := (land_only k s).pmc
@[simp] theorem land_pwr (k : Nat) (s : State) : (land k s).pwr = s.pwr := (land_only k s).pwr
@[simp] theorem land_pending (k : Nat) (s : State) : (land k s).pending = s.pending := (land_only k s).pending

@[simp] theorem quietAll_fuses (s : State) : (quietAll s).fuses = s.fuses := (quietAll_only s).fuses
@[simp] theorem quietAll_dev (s : State) : (quietAll s).dev = s.dev := (quietAll_only s).dev
@[simp] theorem quietAll_clk (s : State) : (quietAll s).clk = s.clk := (quietAll_only s).clk
@[simp] theorem quietAll_time (s : State) : (quietAll s).time = s.time := (quietAll_only s).time
@[simp] theorem quietAll_tio (s : State) : (quietAll s).tio = s.tio := (quietAll_only s).tio
@[simp] theorem quietAll_carriers (s : State) : (quietAll s).carriers = s.carriers := (quietAll_only s).carriers
@[simp] theorem quietAll_reg (s : State) : (quietAll s).reg = s.reg := (quietAll_only s).reg
@[simp] theorem quietAll_down (s : State) : (quietAll s).down = s.down := (quietAll_only s).down
@[simp] theorem quietAll_mch (s : State) : (quietAll s).mch = s.mch := (quietAll_only s).mch
@[simp] theorem quietAll_trib (s : State) : (quietAll s).trib = s.trib := (quietAll_only s).trib
@[simp] theorem quietAll_cls (s : State) : (quietAll s).cls = s.cls := (quietAll_only s).cls
@[simp] theorem quietAll_q (s : State) : (quietAll s).q = s.q := (quietAll_only s).q
@[simp] theorem quietAll_lanes (s : State) : (quietAll s).lanes = s.lanes := (quietAll_only s).lanes
@[simp] theorem quietAll_refs (s : State) : (quietAll s).refs = s.refs := (quietAll_only s).refs
@[simp] theorem quietAll_die (s : State) : (quietAll s).die = s.die := (quietAll_only s).die
@[simp] theorem quietAll_ports (s : State) : (quietAll s).ports = s.ports := (quietAll_only s).ports
@[simp] theorem quietAll_snaps (s : State) : (quietAll s).snaps = s.snaps := (quietAll_only s).snaps
@[simp] theorem quietAll_sec (s : State) : (quietAll s).sec = s.sec := (quietAll_only s).sec
@[simp] theorem quietAll_groups (s : State) : (quietAll s).groups = s.groups := (quietAll_only s).groups
@[simp] theorem quietAll_cmd (s : State) : (quietAll s).cmd = s.cmd := (quietAll_only s).cmd
@[simp] theorem quietAll_eng (s : State) : (quietAll s).eng = s.eng := (quietAll_only s).eng
@[simp] theorem quietAll_pmc (s : State) : (quietAll s).pmc = s.pmc := (quietAll_only s).pmc
@[simp] theorem quietAll_pwr (s : State) : (quietAll s).pwr = s.pwr := (quietAll_only s).pwr
@[simp] theorem quietAll_pending (s : State) : (quietAll s).pending = s.pending := (quietAll_only s).pending

@[simp] theorem syncReply_fuses (s : State) : (syncReply s).fuses = s.fuses := (syncReply_only s).fuses
@[simp] theorem syncReply_dev (s : State) : (syncReply s).dev = s.dev := (syncReply_only s).dev
@[simp] theorem syncReply_clk (s : State) : (syncReply s).clk = s.clk := (syncReply_only s).clk
@[simp] theorem syncReply_time (s : State) : (syncReply s).time = s.time := (syncReply_only s).time
@[simp] theorem syncReply_tio (s : State) : (syncReply s).tio = s.tio := (syncReply_only s).tio
@[simp] theorem syncReply_carriers (s : State) : (syncReply s).carriers = s.carriers := (syncReply_only s).carriers
@[simp] theorem syncReply_reg (s : State) : (syncReply s).reg = s.reg := (syncReply_only s).reg
@[simp] theorem syncReply_down (s : State) : (syncReply s).down = s.down := (syncReply_only s).down
@[simp] theorem syncReply_mch (s : State) : (syncReply s).mch = s.mch := (syncReply_only s).mch
@[simp] theorem syncReply_trib (s : State) : (syncReply s).trib = s.trib := (syncReply_only s).trib
@[simp] theorem syncReply_cls (s : State) : (syncReply s).cls = s.cls := (syncReply_only s).cls
@[simp] theorem syncReply_q (s : State) : (syncReply s).q = s.q := (syncReply_only s).q
@[simp] theorem syncReply_lanes (s : State) : (syncReply s).lanes = s.lanes := (syncReply_only s).lanes
@[simp] theorem syncReply_refs (s : State) : (syncReply s).refs = s.refs := (syncReply_only s).refs
@[simp] theorem syncReply_die (s : State) : (syncReply s).die = s.die := (syncReply_only s).die
@[simp] theorem syncReply_ports (s : State) : (syncReply s).ports = s.ports := (syncReply_only s).ports
@[simp] theorem syncReply_snaps (s : State) : (syncReply s).snaps = s.snaps := (syncReply_only s).snaps
@[simp] theorem syncReply_sec (s : State) : (syncReply s).sec = s.sec := (syncReply_only s).sec
@[simp] theorem syncReply_groups (s : State) : (syncReply s).groups = s.groups := (syncReply_only s).groups
@[simp] theorem syncReply_cmd (s : State) : (syncReply s).cmd = s.cmd := (syncReply_only s).cmd
@[simp] theorem syncReply_eng (s : State) : (syncReply s).eng = s.eng := (syncReply_only s).eng
@[simp] theorem syncReply_pmc (s : State) : (syncReply s).pmc = s.pmc := (syncReply_only s).pmc
@[simp] theorem syncReply_pwr (s : State) : (syncReply s).pwr = s.pwr := (syncReply_only s).pwr
@[simp] theorem syncReply_pending (s : State) : (syncReply s).pending = s.pending := (syncReply_only s).pending

@[simp] theorem syncCap_fuses (k : Nat) (s : State) : (syncCap k s).fuses = s.fuses := (syncCap_only k s).fuses
@[simp] theorem syncCap_dev (k : Nat) (s : State) : (syncCap k s).dev = s.dev := (syncCap_only k s).dev
@[simp] theorem syncCap_clk (k : Nat) (s : State) : (syncCap k s).clk = s.clk := (syncCap_only k s).clk
@[simp] theorem syncCap_time (k : Nat) (s : State) : (syncCap k s).time = s.time := (syncCap_only k s).time
@[simp] theorem syncCap_tio (k : Nat) (s : State) : (syncCap k s).tio = s.tio := (syncCap_only k s).tio
@[simp] theorem syncCap_carriers (k : Nat) (s : State) : (syncCap k s).carriers = s.carriers := (syncCap_only k s).carriers
@[simp] theorem syncCap_reg (k : Nat) (s : State) : (syncCap k s).reg = s.reg := (syncCap_only k s).reg
@[simp] theorem syncCap_down (k : Nat) (s : State) : (syncCap k s).down = s.down := (syncCap_only k s).down
@[simp] theorem syncCap_mch (k : Nat) (s : State) : (syncCap k s).mch = s.mch := (syncCap_only k s).mch
@[simp] theorem syncCap_trib (k : Nat) (s : State) : (syncCap k s).trib = s.trib := (syncCap_only k s).trib
@[simp] theorem syncCap_cls (k : Nat) (s : State) : (syncCap k s).cls = s.cls := (syncCap_only k s).cls
@[simp] theorem syncCap_q (k : Nat) (s : State) : (syncCap k s).q = s.q := (syncCap_only k s).q
@[simp] theorem syncCap_lanes (k : Nat) (s : State) : (syncCap k s).lanes = s.lanes := (syncCap_only k s).lanes
@[simp] theorem syncCap_refs (k : Nat) (s : State) : (syncCap k s).refs = s.refs := (syncCap_only k s).refs
@[simp] theorem syncCap_die (k : Nat) (s : State) : (syncCap k s).die = s.die := (syncCap_only k s).die
@[simp] theorem syncCap_ports (k : Nat) (s : State) : (syncCap k s).ports = s.ports := (syncCap_only k s).ports
@[simp] theorem syncCap_snaps (k : Nat) (s : State) : (syncCap k s).snaps = s.snaps := (syncCap_only k s).snaps
@[simp] theorem syncCap_sec (k : Nat) (s : State) : (syncCap k s).sec = s.sec := (syncCap_only k s).sec
@[simp] theorem syncCap_groups (k : Nat) (s : State) : (syncCap k s).groups = s.groups := (syncCap_only k s).groups
@[simp] theorem syncCap_cmd (k : Nat) (s : State) : (syncCap k s).cmd = s.cmd := (syncCap_only k s).cmd
@[simp] theorem syncCap_eng (k : Nat) (s : State) : (syncCap k s).eng = s.eng := (syncCap_only k s).eng
@[simp] theorem syncCap_pmc (k : Nat) (s : State) : (syncCap k s).pmc = s.pmc := (syncCap_only k s).pmc
@[simp] theorem syncCap_pwr (k : Nat) (s : State) : (syncCap k s).pwr = s.pwr := (syncCap_only k s).pwr
@[simp] theorem syncCap_pending (k : Nat) (s : State) : (syncCap k s).pending = s.pending := (syncCap_only k s).pending

@[simp] theorem syncTs_fuses (s : State) : (syncTs s).fuses = s.fuses := (syncTs_only s).fuses
@[simp] theorem syncTs_dev (s : State) : (syncTs s).dev = s.dev := (syncTs_only s).dev
@[simp] theorem syncTs_clk (s : State) : (syncTs s).clk = s.clk := (syncTs_only s).clk
@[simp] theorem syncTs_time (s : State) : (syncTs s).time = s.time := (syncTs_only s).time
@[simp] theorem syncTs_tio (s : State) : (syncTs s).tio = s.tio := (syncTs_only s).tio
@[simp] theorem syncTs_carriers (s : State) : (syncTs s).carriers = s.carriers := (syncTs_only s).carriers
@[simp] theorem syncTs_reg (s : State) : (syncTs s).reg = s.reg := (syncTs_only s).reg
@[simp] theorem syncTs_down (s : State) : (syncTs s).down = s.down := (syncTs_only s).down
@[simp] theorem syncTs_mch (s : State) : (syncTs s).mch = s.mch := (syncTs_only s).mch
@[simp] theorem syncTs_trib (s : State) : (syncTs s).trib = s.trib := (syncTs_only s).trib
@[simp] theorem syncTs_cls (s : State) : (syncTs s).cls = s.cls := (syncTs_only s).cls
@[simp] theorem syncTs_q (s : State) : (syncTs s).q = s.q := (syncTs_only s).q
@[simp] theorem syncTs_lanes (s : State) : (syncTs s).lanes = s.lanes := (syncTs_only s).lanes
@[simp] theorem syncTs_refs (s : State) : (syncTs s).refs = s.refs := (syncTs_only s).refs
@[simp] theorem syncTs_die (s : State) : (syncTs s).die = s.die := (syncTs_only s).die
@[simp] theorem syncTs_ports (s : State) : (syncTs s).ports = s.ports := (syncTs_only s).ports
@[simp] theorem syncTs_snaps (s : State) : (syncTs s).snaps = s.snaps := (syncTs_only s).snaps
@[simp] theorem syncTs_sec (s : State) : (syncTs s).sec = s.sec := (syncTs_only s).sec
@[simp] theorem syncTs_groups (s : State) : (syncTs s).groups = s.groups := (syncTs_only s).groups
@[simp] theorem syncTs_cmd (s : State) : (syncTs s).cmd = s.cmd := (syncTs_only s).cmd
@[simp] theorem syncTs_eng (s : State) : (syncTs s).eng = s.eng := (syncTs_only s).eng
@[simp] theorem syncTs_pmc (s : State) : (syncTs s).pmc = s.pmc := (syncTs_only s).pmc
@[simp] theorem syncTs_pwr (s : State) : (syncTs s).pwr = s.pwr := (syncTs_only s).pwr
@[simp] theorem syncTs_pending (s : State) : (syncTs s).pending = s.pending := (syncTs_only s).pending

@[simp] theorem syncEx_fuses (s : State) : (syncEx s).fuses = s.fuses := (syncEx_only s).fuses
@[simp] theorem syncEx_dev (s : State) : (syncEx s).dev = s.dev := (syncEx_only s).dev
@[simp] theorem syncEx_clk (s : State) : (syncEx s).clk = s.clk := (syncEx_only s).clk
@[simp] theorem syncEx_time (s : State) : (syncEx s).time = s.time := (syncEx_only s).time
@[simp] theorem syncEx_tio (s : State) : (syncEx s).tio = s.tio := (syncEx_only s).tio
@[simp] theorem syncEx_carriers (s : State) : (syncEx s).carriers = s.carriers := (syncEx_only s).carriers
@[simp] theorem syncEx_reg (s : State) : (syncEx s).reg = s.reg := (syncEx_only s).reg
@[simp] theorem syncEx_down (s : State) : (syncEx s).down = s.down := (syncEx_only s).down
@[simp] theorem syncEx_mch (s : State) : (syncEx s).mch = s.mch := (syncEx_only s).mch
@[simp] theorem syncEx_trib (s : State) : (syncEx s).trib = s.trib := (syncEx_only s).trib
@[simp] theorem syncEx_cls (s : State) : (syncEx s).cls = s.cls := (syncEx_only s).cls
@[simp] theorem syncEx_q (s : State) : (syncEx s).q = s.q := (syncEx_only s).q
@[simp] theorem syncEx_lanes (s : State) : (syncEx s).lanes = s.lanes := (syncEx_only s).lanes
@[simp] theorem syncEx_refs (s : State) : (syncEx s).refs = s.refs := (syncEx_only s).refs
@[simp] theorem syncEx_die (s : State) : (syncEx s).die = s.die := (syncEx_only s).die
@[simp] theorem syncEx_ports (s : State) : (syncEx s).ports = s.ports := (syncEx_only s).ports
@[simp] theorem syncEx_snaps (s : State) : (syncEx s).snaps = s.snaps := (syncEx_only s).snaps
@[simp] theorem syncEx_sec (s : State) : (syncEx s).sec = s.sec := (syncEx_only s).sec
@[simp] theorem syncEx_groups (s : State) : (syncEx s).groups = s.groups := (syncEx_only s).groups
@[simp] theorem syncEx_cmd (s : State) : (syncEx s).cmd = s.cmd := (syncEx_only s).cmd
@[simp] theorem syncEx_eng (s : State) : (syncEx s).eng = s.eng := (syncEx_only s).eng
@[simp] theorem syncEx_pmc (s : State) : (syncEx s).pmc = s.pmc := (syncEx_only s).pmc
@[simp] theorem syncEx_pwr (s : State) : (syncEx s).pwr = s.pwr := (syncEx_only s).pwr
@[simp] theorem syncEx_pending (s : State) : (syncEx s).pending = s.pending := (syncEx_only s).pending

@[simp] theorem syncLog_fuses (s : State) : (syncLog s).fuses = s.fuses := (syncLog_only s).fuses
@[simp] theorem syncLog_dev (s : State) : (syncLog s).dev = s.dev := (syncLog_only s).dev
@[simp] theorem syncLog_clk (s : State) : (syncLog s).clk = s.clk := (syncLog_only s).clk
@[simp] theorem syncLog_time (s : State) : (syncLog s).time = s.time := (syncLog_only s).time
@[simp] theorem syncLog_tio (s : State) : (syncLog s).tio = s.tio := (syncLog_only s).tio
@[simp] theorem syncLog_carriers (s : State) : (syncLog s).carriers = s.carriers := (syncLog_only s).carriers
@[simp] theorem syncLog_reg (s : State) : (syncLog s).reg = s.reg := (syncLog_only s).reg
@[simp] theorem syncLog_down (s : State) : (syncLog s).down = s.down := (syncLog_only s).down
@[simp] theorem syncLog_mch (s : State) : (syncLog s).mch = s.mch := (syncLog_only s).mch
@[simp] theorem syncLog_trib (s : State) : (syncLog s).trib = s.trib := (syncLog_only s).trib
@[simp] theorem syncLog_cls (s : State) : (syncLog s).cls = s.cls := (syncLog_only s).cls
@[simp] theorem syncLog_q (s : State) : (syncLog s).q = s.q := (syncLog_only s).q
@[simp] theorem syncLog_lanes (s : State) : (syncLog s).lanes = s.lanes := (syncLog_only s).lanes
@[simp] theorem syncLog_refs (s : State) : (syncLog s).refs = s.refs := (syncLog_only s).refs
@[simp] theorem syncLog_die (s : State) : (syncLog s).die = s.die := (syncLog_only s).die
@[simp] theorem syncLog_ports (s : State) : (syncLog s).ports = s.ports := (syncLog_only s).ports
@[simp] theorem syncLog_snaps (s : State) : (syncLog s).snaps = s.snaps := (syncLog_only s).snaps
@[simp] theorem syncLog_sec (s : State) : (syncLog s).sec = s.sec := (syncLog_only s).sec
@[simp] theorem syncLog_groups (s : State) : (syncLog s).groups = s.groups := (syncLog_only s).groups
@[simp] theorem syncLog_cmd (s : State) : (syncLog s).cmd = s.cmd := (syncLog_only s).cmd
@[simp] theorem syncLog_eng (s : State) : (syncLog s).eng = s.eng := (syncLog_only s).eng
@[simp] theorem syncLog_pmc (s : State) : (syncLog s).pmc = s.pmc := (syncLog_only s).pmc
@[simp] theorem syncLog_pwr (s : State) : (syncLog s).pwr = s.pwr := (syncLog_only s).pwr
@[simp] theorem syncLog_pending (s : State) : (syncLog s).pending = s.pending := (syncLog_only s).pending

@[simp] theorem syncWarn_fuses (s : State) : (syncWarn s).fuses = s.fuses := (syncWarn_only s).fuses
@[simp] theorem syncWarn_dev (s : State) : (syncWarn s).dev = s.dev := (syncWarn_only s).dev
@[simp] theorem syncWarn_clk (s : State) : (syncWarn s).clk = s.clk := (syncWarn_only s).clk
@[simp] theorem syncWarn_time (s : State) : (syncWarn s).time = s.time := (syncWarn_only s).time
@[simp] theorem syncWarn_tio (s : State) : (syncWarn s).tio = s.tio := (syncWarn_only s).tio
@[simp] theorem syncWarn_carriers (s : State) : (syncWarn s).carriers = s.carriers := (syncWarn_only s).carriers
@[simp] theorem syncWarn_reg (s : State) : (syncWarn s).reg = s.reg := (syncWarn_only s).reg
@[simp] theorem syncWarn_down (s : State) : (syncWarn s).down = s.down := (syncWarn_only s).down
@[simp] theorem syncWarn_mch (s : State) : (syncWarn s).mch = s.mch := (syncWarn_only s).mch
@[simp] theorem syncWarn_trib (s : State) : (syncWarn s).trib = s.trib := (syncWarn_only s).trib
@[simp] theorem syncWarn_cls (s : State) : (syncWarn s).cls = s.cls := (syncWarn_only s).cls
@[simp] theorem syncWarn_q (s : State) : (syncWarn s).q = s.q := (syncWarn_only s).q
@[simp] theorem syncWarn_lanes (s : State) : (syncWarn s).lanes = s.lanes := (syncWarn_only s).lanes
@[simp] theorem syncWarn_refs (s : State) : (syncWarn s).refs = s.refs := (syncWarn_only s).refs
@[simp] theorem syncWarn_die (s : State) : (syncWarn s).die = s.die := (syncWarn_only s).die
@[simp] theorem syncWarn_ports (s : State) : (syncWarn s).ports = s.ports := (syncWarn_only s).ports
@[simp] theorem syncWarn_snaps (s : State) : (syncWarn s).snaps = s.snaps := (syncWarn_only s).snaps
@[simp] theorem syncWarn_sec (s : State) : (syncWarn s).sec = s.sec := (syncWarn_only s).sec
@[simp] theorem syncWarn_groups (s : State) : (syncWarn s).groups = s.groups := (syncWarn_only s).groups
@[simp] theorem syncWarn_cmd (s : State) : (syncWarn s).cmd = s.cmd := (syncWarn_only s).cmd
@[simp] theorem syncWarn_eng (s : State) : (syncWarn s).eng = s.eng := (syncWarn_only s).eng
@[simp] theorem syncWarn_pmc (s : State) : (syncWarn s).pmc = s.pmc := (syncWarn_only s).pmc
@[simp] theorem syncWarn_pwr (s : State) : (syncWarn s).pwr = s.pwr := (syncWarn_only s).pwr
@[simp] theorem syncWarn_pending (s : State) : (syncWarn s).pending = s.pending := (syncWarn_only s).pending

@[simp] theorem notePower_fuses (s0 : State) (s : State) : (notePower s0 s).fuses = s.fuses := (notePower_only s0 s).fuses
@[simp] theorem notePower_dev (s0 : State) (s : State) : (notePower s0 s).dev = s.dev := (notePower_only s0 s).dev
@[simp] theorem notePower_clk (s0 : State) (s : State) : (notePower s0 s).clk = s.clk := (notePower_only s0 s).clk
@[simp] theorem notePower_time (s0 : State) (s : State) : (notePower s0 s).time = s.time := (notePower_only s0 s).time
@[simp] theorem notePower_tio (s0 : State) (s : State) : (notePower s0 s).tio = s.tio := (notePower_only s0 s).tio
@[simp] theorem notePower_carriers (s0 : State) (s : State) : (notePower s0 s).carriers = s.carriers := (notePower_only s0 s).carriers
@[simp] theorem notePower_reg (s0 : State) (s : State) : (notePower s0 s).reg = s.reg := (notePower_only s0 s).reg
@[simp] theorem notePower_down (s0 : State) (s : State) : (notePower s0 s).down = s.down := (notePower_only s0 s).down
@[simp] theorem notePower_mch (s0 : State) (s : State) : (notePower s0 s).mch = s.mch := (notePower_only s0 s).mch
@[simp] theorem notePower_trib (s0 : State) (s : State) : (notePower s0 s).trib = s.trib := (notePower_only s0 s).trib
@[simp] theorem notePower_cls (s0 : State) (s : State) : (notePower s0 s).cls = s.cls := (notePower_only s0 s).cls
@[simp] theorem notePower_q (s0 : State) (s : State) : (notePower s0 s).q = s.q := (notePower_only s0 s).q
@[simp] theorem notePower_lanes (s0 : State) (s : State) : (notePower s0 s).lanes = s.lanes := (notePower_only s0 s).lanes
@[simp] theorem notePower_refs (s0 : State) (s : State) : (notePower s0 s).refs = s.refs := (notePower_only s0 s).refs
@[simp] theorem notePower_die (s0 : State) (s : State) : (notePower s0 s).die = s.die := (notePower_only s0 s).die
@[simp] theorem notePower_ports (s0 : State) (s : State) : (notePower s0 s).ports = s.ports := (notePower_only s0 s).ports
@[simp] theorem notePower_snaps (s0 : State) (s : State) : (notePower s0 s).snaps = s.snaps := (notePower_only s0 s).snaps
@[simp] theorem notePower_sec (s0 : State) (s : State) : (notePower s0 s).sec = s.sec := (notePower_only s0 s).sec
@[simp] theorem notePower_groups (s0 : State) (s : State) : (notePower s0 s).groups = s.groups := (notePower_only s0 s).groups
@[simp] theorem notePower_cmd (s0 : State) (s : State) : (notePower s0 s).cmd = s.cmd := (notePower_only s0 s).cmd
@[simp] theorem notePower_eng (s0 : State) (s : State) : (notePower s0 s).eng = s.eng := (notePower_only s0 s).eng
@[simp] theorem notePower_pmc (s0 : State) (s : State) : (notePower s0 s).pmc = s.pmc := (notePower_only s0 s).pmc
@[simp] theorem notePower_pwr (s0 : State) (s : State) : (notePower s0 s).pwr = s.pwr := (notePower_only s0 s).pwr
@[simp] theorem notePower_pending (s0 : State) (s : State) : (notePower s0 s).pending = s.pending := (notePower_only s0 s).pending

@[simp] theorem raiseOnceKey_fuses (key k : Nat) (s : State) : (raiseOnceKey key k s).fuses = s.fuses := by
  rw [(raiseOnceKey_only key k s).1]
@[simp] theorem raiseOnceKey_dev (key k : Nat) (s : State) : (raiseOnceKey key k s).dev = s.dev := by
  rw [(raiseOnceKey_only key k s).1]
@[simp] theorem raiseOnceKey_time (key k : Nat) (s : State) : (raiseOnceKey key k s).time = s.time := by
  rw [(raiseOnceKey_only key k s).1]
@[simp] theorem raiseOnceKey_tio (key k : Nat) (s : State) : (raiseOnceKey key k s).tio = s.tio := by
  rw [(raiseOnceKey_only key k s).1]
@[simp] theorem raiseOnceKey_carriers (key k : Nat) (s : State) : (raiseOnceKey key k s).carriers = s.carriers := by
  rw [(raiseOnceKey_only key k s).1]
@[simp] theorem raiseOnceKey_reg (key k : Nat) (s : State) : (raiseOnceKey key k s).reg = s.reg := by
  rw [(raiseOnceKey_only key k s).1]
@[simp] theorem raiseOnceKey_down (key k : Nat) (s : State) : (raiseOnceKey key k s).down = s.down := by
  rw [(raiseOnceKey_only key k s).1]
@[simp] theorem raiseOnceKey_mch (key k : Nat) (s : State) : (raiseOnceKey key k s).mch = s.mch := by
  rw [(raiseOnceKey_only key k s).1]
@[simp] theorem raiseOnceKey_trib (key k : Nat) (s : State) : (raiseOnceKey key k s).trib = s.trib := by
  rw [(raiseOnceKey_only key k s).1]
@[simp] theorem raiseOnceKey_cls (key k : Nat) (s : State) : (raiseOnceKey key k s).cls = s.cls := by
  rw [(raiseOnceKey_only key k s).1]
@[simp] theorem raiseOnceKey_q (key k : Nat) (s : State) : (raiseOnceKey key k s).q = s.q := by
  rw [(raiseOnceKey_only key k s).1]
@[simp] theorem raiseOnceKey_lanes (key k : Nat) (s : State) : (raiseOnceKey key k s).lanes = s.lanes := by
  rw [(raiseOnceKey_only key k s).1]
@[simp] theorem raiseOnceKey_refs (key k : Nat) (s : State) : (raiseOnceKey key k s).refs = s.refs := by
  rw [(raiseOnceKey_only key k s).1]
@[simp] theorem raiseOnceKey_die (key k : Nat) (s : State) : (raiseOnceKey key k s).die = s.die := by
  rw [(raiseOnceKey_only key k s).1]
@[simp] theorem raiseOnceKey_ports (key k : Nat) (s : State) : (raiseOnceKey key k s).ports = s.ports := by
  rw [(raiseOnceKey_only key k s).1]
@[simp] theorem raiseOnceKey_snaps (key k : Nat) (s : State) : (raiseOnceKey key k s).snaps = s.snaps := by
  rw [(raiseOnceKey_only key k s).1]
@[simp] theorem raiseOnceKey_sec (key k : Nat) (s : State) : (raiseOnceKey key k s).sec = s.sec := by
  rw [(raiseOnceKey_only key k s).1]
@[simp] theorem raiseOnceKey_groups (key k : Nat) (s : State) : (raiseOnceKey key k s).groups = s.groups := by
  rw [(raiseOnceKey_only key k s).1]
@[simp] theorem raiseOnceKey_cmd (key k : Nat) (s : State) : (raiseOnceKey key k s).cmd = s.cmd := by
  rw [(raiseOnceKey_only key k s).1]
@[simp] theorem raiseOnceKey_eng (key k : Nat) (s : State) : (raiseOnceKey key k s).eng = s.eng := by
  rw [(raiseOnceKey_only key k s).1]
@[simp] theorem raiseOnceKey_pmc (key k : Nat) (s : State) : (raiseOnceKey key k s).pmc = s.pmc := by
  rw [(raiseOnceKey_only key k s).1]
@[simp] theorem raiseOnceKey_pwr (key k : Nat) (s : State) : (raiseOnceKey key k s).pwr = s.pwr := by
  rw [(raiseOnceKey_only key k s).1]
@[simp] theorem raiseOnceKey_pending (key k : Nat) (s : State) : (raiseOnceKey key k s).pending = s.pending := by
  rw [(raiseOnceKey_only key k s).1]

@[simp] theorem raiseOnce_fuses (k : Nat) (s : State) : (raiseOnce k s).fuses = s.fuses := raiseOnceKey_fuses k k s
@[simp] theorem raiseOnce_dev (k : Nat) (s : State) : (raiseOnce k s).dev = s.dev := raiseOnceKey_dev k k s
@[simp] theorem raiseOnce_time (k : Nat) (s : State) : (raiseOnce k s).time = s.time := raiseOnceKey_time k k s
@[simp] theorem raiseOnce_tio (k : Nat) (s : State) : (raiseOnce k s).tio = s.tio := raiseOnceKey_tio k k s
@[simp] theorem raiseOnce_carriers (k : Nat) (s : State) : (raiseOnce k s).carriers = s.carriers := raiseOnceKey_carriers k k s
@[simp] theorem raiseOnce_reg (k : Nat) (s : State) : (raiseOnce k s).reg = s.reg := raiseOnceKey_reg k k s
@[simp] theorem raiseOnce_down (k : Nat) (s : State) : (raiseOnce k s).down = s.down := raiseOnceKey_down k k s
@[simp] theorem raiseOnce_mch (k : Nat) (s : State) : (raiseOnce k s).mch = s.mch := raiseOnceKey_mch k k s
@[simp] theorem raiseOnce_trib (k : Nat) (s : State) : (raiseOnce k s).trib = s.trib := raiseOnceKey_trib k k s
@[simp] theorem raiseOnce_cls (k : Nat) (s : State) : (raiseOnce k s).cls = s.cls := raiseOnceKey_cls k k s
@[simp] theorem raiseOnce_q (k : Nat) (s : State) : (raiseOnce k s).q = s.q := raiseOnceKey_q k k s
@[simp] theorem raiseOnce_lanes (k : Nat) (s : State) : (raiseOnce k s).lanes = s.lanes := raiseOnceKey_lanes k k s
@[simp] theorem raiseOnce_refs (k : Nat) (s : State) : (raiseOnce k s).refs = s.refs := raiseOnceKey_refs k k s
@[simp] theorem raiseOnce_die (k : Nat) (s : State) : (raiseOnce k s).die = s.die := raiseOnceKey_die k k s
@[simp] theorem raiseOnce_ports (k : Nat) (s : State) : (raiseOnce k s).ports = s.ports := raiseOnceKey_ports k k s
@[simp] theorem raiseOnce_snaps (k : Nat) (s : State) : (raiseOnce k s).snaps = s.snaps := raiseOnceKey_snaps k k s
@[simp] theorem raiseOnce_sec (k : Nat) (s : State) : (raiseOnce k s).sec = s.sec := raiseOnceKey_sec k k s
@[simp] theorem raiseOnce_groups (k : Nat) (s : State) : (raiseOnce k s).groups = s.groups := raiseOnceKey_groups k k s
@[simp] theorem raiseOnce_cmd (k : Nat) (s : State) : (raiseOnce k s).cmd = s.cmd := raiseOnceKey_cmd k k s
@[simp] theorem raiseOnce_eng (k : Nat) (s : State) : (raiseOnce k s).eng = s.eng := raiseOnceKey_eng k k s
@[simp] theorem raiseOnce_pmc (k : Nat) (s : State) : (raiseOnce k s).pmc = s.pmc := raiseOnceKey_pmc k k s
@[simp] theorem raiseOnce_pwr (k : Nat) (s : State) : (raiseOnce k s).pwr = s.pwr := raiseOnceKey_pwr k k s
@[simp] theorem raiseOnce_pending (k : Nat) (s : State) : (raiseOnce k s).pending = s.pending := raiseOnceKey_pending k k s
@[simp] theorem raiseOnce_now (k : Nat) (s : State) : (raiseOnce k s).clk.now = s.clk.now := (raiseOnceKey_only k k s).2
@[simp] theorem raiseOnceKey_now (key k : Nat) (s : State) : (raiseOnceKey key k s).clk.now = s.clk.now :=
  (raiseOnceKey_only key k s).2
@[simp] theorem emit_fuses (x : Output) (s : State) : (emit x s).fuses = s.fuses := rfl
@[simp] theorem emit_dev (x : Output) (s : State) : (emit x s).dev = s.dev := rfl
@[simp] theorem emit_clk (x : Output) (s : State) : (emit x s).clk = s.clk := rfl
@[simp] theorem emit_time (x : Output) (s : State) : (emit x s).time = s.time := rfl
@[simp] theorem emit_tio (x : Output) (s : State) : (emit x s).tio = s.tio := rfl
@[simp] theorem emit_carriers (x : Output) (s : State) : (emit x s).carriers = s.carriers := rfl
@[simp] theorem emit_reg (x : Output) (s : State) : (emit x s).reg = s.reg := rfl
@[simp] theorem emit_down (x : Output) (s : State) : (emit x s).down = s.down := rfl
@[simp] theorem emit_mch (x : Output) (s : State) : (emit x s).mch = s.mch := rfl
@[simp] theorem emit_trib (x : Output) (s : State) : (emit x s).trib = s.trib := rfl
@[simp] theorem emit_cls (x : Output) (s : State) : (emit x s).cls = s.cls := rfl
@[simp] theorem emit_q (x : Output) (s : State) : (emit x s).q = s.q := rfl
@[simp] theorem emit_lanes (x : Output) (s : State) : (emit x s).lanes = s.lanes := rfl
@[simp] theorem emit_refs (x : Output) (s : State) : (emit x s).refs = s.refs := rfl
@[simp] theorem emit_die (x : Output) (s : State) : (emit x s).die = s.die := rfl
@[simp] theorem emit_ports (x : Output) (s : State) : (emit x s).ports = s.ports := rfl
@[simp] theorem emit_snaps (x : Output) (s : State) : (emit x s).snaps = s.snaps := rfl
@[simp] theorem emit_sec (x : Output) (s : State) : (emit x s).sec = s.sec := rfl
@[simp] theorem emit_groups (x : Output) (s : State) : (emit x s).groups = s.groups := rfl
@[simp] theorem emit_cmd (x : Output) (s : State) : (emit x s).cmd = s.cmd := rfl
@[simp] theorem emit_eng (x : Output) (s : State) : (emit x s).eng = s.eng := rfl
@[simp] theorem emit_evc (x : Output) (s : State) : (emit x s).evc = s.evc := rfl
@[simp] theorem emit_pmc (x : Output) (s : State) : (emit x s).pmc = s.pmc := rfl
@[simp] theorem emit_pwr (x : Output) (s : State) : (emit x s).pwr = s.pwr := rfl
@[simp] theorem emit_pending (x : Output) (s : State) : (emit x s).pending = s.pending := rfl

end Sys2Proof.Machine
end

