-- ==== Sys2Proof/Laws/Tables.lean ====
section
/-! SUPPORT. Sparse tables: a read after a write, the frame of a write, and the canonical form that every write keeps. -/

namespace Sys2Proof.Machine

variable {α : Type}

@[simp] theorem Tbl.get_nil (d : α) (k : Nat) : Tbl.get d [] k = d := rfl

theorem Tbl.get_cons (d : α) (j : Nat) (a : α) (t : Tbl α) (k : Nat) :
    Tbl.get d ((j, a) :: t) k = if k = j then a else Tbl.get d t k := rfl

@[simp] theorem Tbl.get_erase_self (d : α) (t : Tbl α) (k : Nat) : Tbl.get d (Tbl.erase t k) k = d := by
  induction t with
  | nil => rfl
  | cons x t ih =>
    obtain ⟨j, a⟩ := x
    unfold Tbl.erase
    split
    · exact ih
    · rw [Tbl.get_cons, if_neg (by assumption), ih]

theorem Tbl.get_erase_ne (d : α) (t : Tbl α) {k i : Nat} (h : i ≠ k) : Tbl.get d (Tbl.erase t k) i = Tbl.get d t i := by
  induction t with
  | nil => rfl
  | cons x t ih =>
    obtain ⟨j, a⟩ := x
    unfold Tbl.erase
    split
    · subst_vars
      rw [ih, Tbl.get_cons, if_neg h]
    · rw [Tbl.get_cons, Tbl.get_cons, ih]

@[simp] theorem Tbl.get_insert_self (d : α) (t : Tbl α) (k : Nat) (a : α) : Tbl.get d (Tbl.insert t k a) k = a := by
  induction t with
  | nil => simp [Tbl.insert, Tbl.get]
  | cons x t ih =>
    obtain ⟨j, b⟩ := x
    unfold Tbl.insert
    split
    · simp [Tbl.get]
    · split
      · simp [Tbl.get]
      · rw [Tbl.get_cons, if_neg (by assumption), ih]

theorem Tbl.get_insert_ne (d : α) (t : Tbl α) {k i : Nat} (a : α) (h : i ≠ k) :
    Tbl.get d (Tbl.insert t k a) i = Tbl.get d t i := by
  induction t with
  | nil => simp [Tbl.insert, Tbl.get, h]
  | cons x t ih =>
    obtain ⟨j, b⟩ := x
    unfold Tbl.insert
    split
    · subst_vars
      simp [Tbl.get, h]
    · split
      · simp [Tbl.get, h]
      · rw [Tbl.get_cons, Tbl.get_cons, ih]

variable [DecidableEq α]

/-- A read after a write to the same key gives the value written. -/
@[simp] theorem Tbl.get_set_self (d : α) (t : Tbl α) (k : Nat) (a : α) : Tbl.get d (Tbl.set d t k a) k = a := by
  unfold Tbl.set
  split
  · simp_all
  · simp

/-- A write leaves every other key alone. -/
theorem Tbl.get_set_ne (d : α) (t : Tbl α) {k i : Nat} (a : α) (h : i ≠ k) :
    Tbl.get d (Tbl.set d t k a) i = Tbl.get d t i := by
  unfold Tbl.set
  split
  · exact Tbl.get_erase_ne d t h
  · exact Tbl.get_insert_ne d t a h

@[simp] theorem Tbl.get_modify_self (d : α) (t : Tbl α) (k : Nat) (f : α → α) :
    Tbl.get d (Tbl.modify d t k f) k = f (Tbl.get d t k) := by
  unfold Tbl.modify
  simp

theorem Tbl.get_modify_ne (d : α) (t : Tbl α) {k i : Nat} (f : α → α) (h : i ≠ k) :
    Tbl.get d (Tbl.modify d t k f) i = Tbl.get d t i := by
  unfold Tbl.modify
  exact Tbl.get_set_ne d t _ h

theorem Tbl.wfFrom_le (d : α) {lo hi : Nat} (h : lo ≤ hi) (t : Tbl α) (w : Tbl.wfFrom d hi t = true) :
    Tbl.wfFrom d lo t = true := by
  cases t with
  | nil => rfl
  | cons x t =>
    obtain ⟨j, a⟩ := x
    simp only [Tbl.wfFrom, Bool.and_eq_true, decide_eq_true_eq] at w ⊢
    exact ⟨⟨h.trans w.1.1, w.1.2⟩, w.2⟩

theorem Tbl.erase_wfFrom (d : α) (t : Tbl α) (k lo : Nat) (w : Tbl.wfFrom d lo t = true) :
    Tbl.wfFrom d lo (Tbl.erase t k) = true := by
  induction t generalizing lo with
  | nil => rfl
  | cons x t ih =>
    obtain ⟨j, a⟩ := x
    simp only [Tbl.wfFrom, Bool.and_eq_true, decide_eq_true_eq] at w
    unfold Tbl.erase
    split
    · exact ih lo (Tbl.wfFrom_le d (by omega) t w.2)
    · simp only [Tbl.wfFrom, Bool.and_eq_true, decide_eq_true_eq]
      exact ⟨w.1, ih (j + 1) w.2⟩

theorem Tbl.insert_wfFrom (d : α) (t : Tbl α) (k lo : Nat) (a : α) (hl : lo ≤ k) (ha : a ≠ d)
    (w : Tbl.wfFrom d lo t = true) : Tbl.wfFrom d lo (Tbl.insert t k a) = true := by
  induction t generalizing lo with
  | nil => simp [Tbl.insert, Tbl.wfFrom, hl, ha]
  | cons x t ih =>
    obtain ⟨j, b⟩ := x
    simp only [Tbl.wfFrom, Bool.and_eq_true, decide_eq_true_eq] at w
    unfold Tbl.insert
    split
    · subst_vars
      simp only [Tbl.wfFrom, Bool.and_eq_true, decide_eq_true_eq]
      exact ⟨⟨hl, ha⟩, w.2⟩
    · split
      · simp only [Tbl.wfFrom, Bool.and_eq_true, decide_eq_true_eq]
        exact ⟨⟨hl, ha⟩, ⟨by omega, w.1.2⟩, w.2⟩
      · simp only [Tbl.wfFrom, Bool.and_eq_true, decide_eq_true_eq]
        exact ⟨w.1, ih (j + 1) (by omega) w.2⟩

/-- A write keeps the canonical form. -/
theorem Tbl.set_wf (d : α) (t : Tbl α) (k : Nat) (a : α) (w : Tbl.wf d t = true) : Tbl.wf d (Tbl.set d t k a) = true := by
  unfold Tbl.wf Tbl.set at *
  split
  · exact Tbl.erase_wfFrom d t k 0 w
  · exact Tbl.insert_wfFrom d t k 0 a (Nat.zero_le k) (by assumption) w

theorem Tbl.modify_wf (d : α) (t : Tbl α) (k : Nat) (f : α → α) (w : Tbl.wf d t = true) :
    Tbl.wf d (Tbl.modify d t k f) = true := by
  unfold Tbl.modify
  exact Tbl.set_wf d t k _ w

end Sys2Proof.Machine
end

