-- ==== Sys2Proof/Laws/State.lean ====
section
/-! SUPPORT. One lemma for each part of the state under each shared update, so that no proof unfolds a record update: an update
touches its own part alone; a unit that was set reads as it was set, and the others as before. (Shared.lean says the same of the
operations on events.) -/

namespace Sys2Proof.Machine

set_option Elab.async false

@[simp] theorem setCarrier_fuses (n : Nat) (c : Carrier) (s : State) : (setCarrier n c s).fuses = s.fuses := rfl
@[simp] theorem setCarrier_dev (n : Nat) (c : Carrier) (s : State) : (setCarrier n c s).dev = s.dev := rfl
@[simp] theorem setCarrier_clk (n : Nat) (c : Carrier) (s : State) : (setCarrier n c s).clk = s.clk := rfl
@[simp] theorem setCarrier_time (n : Nat) (c : Carrier) (s : State) : (setCarrier n c s).time = s.time := rfl
@[simp] theorem setCarrier_tio (n : Nat) (c : Carrier) (s : State) : (setCarrier n c s).tio = s.tio := rfl
@[simp] theorem setCarrier_carriers (n : Nat) (c : Carrier) (s : State) : (setCarrier n c s).carriers = Tbl.set {} s.carriers n c := rfl
@[simp] theorem setCarrier_reg (n : Nat) (c : Carrier) (s : State) : (setCarrier n c s).reg = s.reg := rfl
@[simp] theorem setCarrier_down (n : Nat) (c : Carrier) (s : State) : (setCarrier n c s).down = s.down := rfl
@[simp] theorem setCarrier_mch (n : Nat) (c : Carrier) (s : State) : (setCarrier n c s).mch = s.mch := rfl
@[simp] theorem setCarrier_trib (n : Nat) (c : Carrier) (s : State) : (setCarrier n c s).trib = s.trib := rfl
@[simp] theorem setCarrier_cls (n : Nat) (c : Carrier) (s : State) : (setCarrier n c s).cls = s.cls := rfl
@[simp] theorem setCarrier_q (n : Nat) (c : Carrier) (s : State) : (setCarrier n c s).q = s.q := rfl
@[simp] theorem setCarrier_lanes (n : Nat) (c : Carrier) (s : State) : (setCarrier n c s).lanes = s.lanes := rfl
@[simp] theorem setCarrier_refs (n : Nat) (c : Carrier) (s : State) : (setCarrier n c s).refs = s.refs := rfl
@[simp] theorem setCarrier_die (n : Nat) (c : Carrier) (s : State) : (setCarrier n c s).die = s.die := rfl
@[simp] theorem setCarrier_ports (n : Nat) (c : Carrier) (s : State) : (setCarrier n c s).ports = s.ports := rfl
@[simp] theorem setCarrier_snaps (n : Nat) (c : Carrier) (s : State) : (setCarrier n c s).snaps = s.snaps := rfl
@[simp] theorem setCarrier_sec (n : Nat) (c : Carrier) (s : State) : (setCarrier n c s).sec = s.sec := rfl
@[simp] theorem setCarrier_cmd (n : Nat) (c : Carrier) (s : State) : (setCarrier n c s).cmd = s.cmd := rfl
@[simp] theorem setCarrier_groups (n : Nat) (c : Carrier) (s : State) : (setCarrier n c s).groups = s.groups := rfl
@[simp] theorem setCarrier_eng (n : Nat) (c : Carrier) (s : State) : (setCarrier n c s).eng = s.eng := rfl
@[simp] theorem setCarrier_evc (n : Nat) (c : Carrier) (s : State) : (setCarrier n c s).evc = s.evc := rfl
@[simp] theorem setCarrier_pmc (n : Nat) (c : Carrier) (s : State) : (setCarrier n c s).pmc = s.pmc := rfl
@[simp] theorem setCarrier_pwr (n : Nat) (c : Carrier) (s : State) : (setCarrier n c s).pwr = s.pwr := rfl
@[simp] theorem setCarrier_out (n : Nat) (c : Carrier) (s : State) : (setCarrier n c s).out = s.out := rfl
@[simp] theorem setCarrier_pending (n : Nat) (c : Carrier) (s : State) : (setCarrier n c s).pending = s.pending := rfl

@[simp] theorem setPort_fuses (p : Nat) (v : Port) (s : State) : (setPort p v s).fuses = s.fuses := rfl
@[simp] theorem setPort_dev (p : Nat) (v : Port) (s : State) : (setPort p v s).dev = s.dev := rfl
@[simp] theorem setPort_clk (p : Nat) (v : Port) (s : State) : (setPort p v s).clk = s.clk := rfl
@[simp] theorem setPort_time (p : Nat) (v : Port) (s : State) : (setPort p v s).time = s.time := rfl
@[simp] theorem setPort_tio (p : Nat) (v : Port) (s : State) : (setPort p v s).tio = s.tio := rfl
@[simp] theorem setPort_carriers (p : Nat) (v : Port) (s : State) : (setPort p v s).carriers = s.carriers := rfl
@[simp] theorem setPort_reg (p : Nat) (v : Port) (s : State) : (setPort p v s).reg = s.reg := rfl
@[simp] theorem setPort_down (p : Nat) (v : Port) (s : State) : (setPort p v s).down = s.down := rfl
@[simp] theorem setPort_mch (p : Nat) (v : Port) (s : State) : (setPort p v s).mch = s.mch := rfl
@[simp] theorem setPort_trib (p : Nat) (v : Port) (s : State) : (setPort p v s).trib = s.trib := rfl
@[simp] theorem setPort_cls (p : Nat) (v : Port) (s : State) : (setPort p v s).cls = s.cls := rfl
@[simp] theorem setPort_q (p : Nat) (v : Port) (s : State) : (setPort p v s).q = s.q := rfl
@[simp] theorem setPort_lanes (p : Nat) (v : Port) (s : State) : (setPort p v s).lanes = s.lanes := rfl
@[simp] theorem setPort_refs (p : Nat) (v : Port) (s : State) : (setPort p v s).refs = s.refs := rfl
@[simp] theorem setPort_die (p : Nat) (v : Port) (s : State) : (setPort p v s).die = s.die := rfl
@[simp] theorem setPort_ports (p : Nat) (v : Port) (s : State) : (setPort p v s).ports = Tbl.set {} s.ports p v := rfl
@[simp] theorem setPort_snaps (p : Nat) (v : Port) (s : State) : (setPort p v s).snaps = s.snaps := rfl
@[simp] theorem setPort_sec (p : Nat) (v : Port) (s : State) : (setPort p v s).sec = s.sec := rfl
@[simp] theorem setPort_cmd (p : Nat) (v : Port) (s : State) : (setPort p v s).cmd = s.cmd := rfl
@[simp] theorem setPort_groups (p : Nat) (v : Port) (s : State) : (setPort p v s).groups = s.groups := rfl
@[simp] theorem setPort_eng (p : Nat) (v : Port) (s : State) : (setPort p v s).eng = s.eng := rfl
@[simp] theorem setPort_evc (p : Nat) (v : Port) (s : State) : (setPort p v s).evc = s.evc := rfl
@[simp] theorem setPort_pmc (p : Nat) (v : Port) (s : State) : (setPort p v s).pmc = s.pmc := rfl
@[simp] theorem setPort_pwr (p : Nat) (v : Port) (s : State) : (setPort p v s).pwr = s.pwr := rfl
@[simp] theorem setPort_out (p : Nat) (v : Port) (s : State) : (setPort p v s).out = s.out := rfl
@[simp] theorem setPort_pending (p : Nat) (v : Port) (s : State) : (setPort p v s).pending = s.pending := rfl

@[simp] theorem setLane_fuses (n : Nat) (v : Lane) (s : State) : (setLane n v s).fuses = s.fuses := rfl
@[simp] theorem setLane_dev (n : Nat) (v : Lane) (s : State) : (setLane n v s).dev = s.dev := rfl
@[simp] theorem setLane_clk (n : Nat) (v : Lane) (s : State) : (setLane n v s).clk = s.clk := rfl
@[simp] theorem setLane_time (n : Nat) (v : Lane) (s : State) : (setLane n v s).time = s.time := rfl
@[simp] theorem setLane_tio (n : Nat) (v : Lane) (s : State) : (setLane n v s).tio = s.tio := rfl
@[simp] theorem setLane_carriers (n : Nat) (v : Lane) (s : State) : (setLane n v s).carriers = s.carriers := rfl
@[simp] theorem setLane_reg (n : Nat) (v : Lane) (s : State) : (setLane n v s).reg = s.reg := rfl
@[simp] theorem setLane_down (n : Nat) (v : Lane) (s : State) : (setLane n v s).down = s.down := rfl
@[simp] theorem setLane_mch (n : Nat) (v : Lane) (s : State) : (setLane n v s).mch = s.mch := rfl
@[simp] theorem setLane_trib (n : Nat) (v : Lane) (s : State) : (setLane n v s).trib = s.trib := rfl
@[simp] theorem setLane_cls (n : Nat) (v : Lane) (s : State) : (setLane n v s).cls = s.cls := rfl
@[simp] theorem setLane_q (n : Nat) (v : Lane) (s : State) : (setLane n v s).q = s.q := rfl
@[simp] theorem setLane_lanes (n : Nat) (v : Lane) (s : State) : (setLane n v s).lanes = Tbl.set {} s.lanes n v := rfl
@[simp] theorem setLane_refs (n : Nat) (v : Lane) (s : State) : (setLane n v s).refs = s.refs := rfl
@[simp] theorem setLane_die (n : Nat) (v : Lane) (s : State) : (setLane n v s).die = s.die := rfl
@[simp] theorem setLane_ports (n : Nat) (v : Lane) (s : State) : (setLane n v s).ports = s.ports := rfl
@[simp] theorem setLane_snaps (n : Nat) (v : Lane) (s : State) : (setLane n v s).snaps = s.snaps := rfl
@[simp] theorem setLane_sec (n : Nat) (v : Lane) (s : State) : (setLane n v s).sec = s.sec := rfl
@[simp] theorem setLane_cmd (n : Nat) (v : Lane) (s : State) : (setLane n v s).cmd = s.cmd := rfl
@[simp] theorem setLane_groups (n : Nat) (v : Lane) (s : State) : (setLane n v s).groups = s.groups := rfl
@[simp] theorem setLane_eng (n : Nat) (v : Lane) (s : State) : (setLane n v s).eng = s.eng := rfl
@[simp] theorem setLane_evc (n : Nat) (v : Lane) (s : State) : (setLane n v s).evc = s.evc := rfl
@[simp] theorem setLane_pmc (n : Nat) (v : Lane) (s : State) : (setLane n v s).pmc = s.pmc := rfl
@[simp] theorem setLane_pwr (n : Nat) (v : Lane) (s : State) : (setLane n v s).pwr = s.pwr := rfl
@[simp] theorem setLane_out (n : Nat) (v : Lane) (s : State) : (setLane n v s).out = s.out := rfl
@[simp] theorem setLane_pending (n : Nat) (v : Lane) (s : State) : (setLane n v s).pending = s.pending := rfl

@[simp] theorem setAssoc_fuses (i : Nat) (a : Assoc) (s : State) : (setAssoc i a s).fuses = s.fuses := rfl
@[simp] theorem setAssoc_dev (i : Nat) (a : Assoc) (s : State) : (setAssoc i a s).dev = s.dev := rfl
@[simp] theorem setAssoc_clk (i : Nat) (a : Assoc) (s : State) : (setAssoc i a s).clk = s.clk := rfl
@[simp] theorem setAssoc_time (i : Nat) (a : Assoc) (s : State) : (setAssoc i a s).time = s.time := rfl
@[simp] theorem setAssoc_tio (i : Nat) (a : Assoc) (s : State) : (setAssoc i a s).tio = s.tio := rfl
@[simp] theorem setAssoc_carriers (i : Nat) (a : Assoc) (s : State) : (setAssoc i a s).carriers = s.carriers := rfl
@[simp] theorem setAssoc_reg (i : Nat) (a : Assoc) (s : State) : (setAssoc i a s).reg = s.reg := rfl
@[simp] theorem setAssoc_down (i : Nat) (a : Assoc) (s : State) : (setAssoc i a s).down = s.down := rfl
@[simp] theorem setAssoc_mch (i : Nat) (a : Assoc) (s : State) : (setAssoc i a s).mch = s.mch := rfl
@[simp] theorem setAssoc_trib (i : Nat) (a : Assoc) (s : State) : (setAssoc i a s).trib = s.trib := rfl
@[simp] theorem setAssoc_cls (i : Nat) (a : Assoc) (s : State) : (setAssoc i a s).cls = s.cls := rfl
@[simp] theorem setAssoc_q (i : Nat) (a : Assoc) (s : State) : (setAssoc i a s).q = s.q := rfl
@[simp] theorem setAssoc_lanes (i : Nat) (a : Assoc) (s : State) : (setAssoc i a s).lanes = s.lanes := rfl
@[simp] theorem setAssoc_refs (i : Nat) (a : Assoc) (s : State) : (setAssoc i a s).refs = s.refs := rfl
@[simp] theorem setAssoc_die (i : Nat) (a : Assoc) (s : State) : (setAssoc i a s).die = s.die := rfl
@[simp] theorem setAssoc_ports (i : Nat) (a : Assoc) (s : State) : (setAssoc i a s).ports = s.ports := rfl
@[simp] theorem setAssoc_snaps (i : Nat) (a : Assoc) (s : State) : (setAssoc i a s).snaps = s.snaps := rfl
@[simp] theorem setAssoc_cmd (i : Nat) (a : Assoc) (s : State) : (setAssoc i a s).cmd = s.cmd := rfl
@[simp] theorem setAssoc_groups (i : Nat) (a : Assoc) (s : State) : (setAssoc i a s).groups = s.groups := rfl
@[simp] theorem setAssoc_eng (i : Nat) (a : Assoc) (s : State) : (setAssoc i a s).eng = s.eng := rfl
@[simp] theorem setAssoc_evc (i : Nat) (a : Assoc) (s : State) : (setAssoc i a s).evc = s.evc := rfl
@[simp] theorem setAssoc_pmc (i : Nat) (a : Assoc) (s : State) : (setAssoc i a s).pmc = s.pmc := rfl
@[simp] theorem setAssoc_pwr (i : Nat) (a : Assoc) (s : State) : (setAssoc i a s).pwr = s.pwr := rfl
@[simp] theorem setAssoc_out (i : Nat) (a : Assoc) (s : State) : (setAssoc i a s).out = s.out := rfl
@[simp] theorem setAssoc_pending (i : Nat) (a : Assoc) (s : State) : (setAssoc i a s).pending = s.pending := rfl

@[simp] theorem setChannel_fuses (c : Nat) (v : Mch) (s : State) : (setChannel c v s).fuses = s.fuses := rfl
@[simp] theorem setChannel_dev (c : Nat) (v : Mch) (s : State) : (setChannel c v s).dev = s.dev := rfl
@[simp] theorem setChannel_clk (c : Nat) (v : Mch) (s : State) : (setChannel c v s).clk = s.clk := rfl
@[simp] theorem setChannel_time (c : Nat) (v : Mch) (s : State) : (setChannel c v s).time = s.time := rfl
@[simp] theorem setChannel_tio (c : Nat) (v : Mch) (s : State) : (setChannel c v s).tio = s.tio := rfl
@[simp] theorem setChannel_carriers (c : Nat) (v : Mch) (s : State) : (setChannel c v s).carriers = s.carriers := rfl
@[simp] theorem setChannel_reg (c : Nat) (v : Mch) (s : State) : (setChannel c v s).reg = s.reg := rfl
@[simp] theorem setChannel_down (c : Nat) (v : Mch) (s : State) : (setChannel c v s).down = s.down := rfl
@[simp] theorem setChannel_mch (c : Nat) (v : Mch) (s : State) : (setChannel c v s).mch = Tbl.set {} s.mch c v := rfl
@[simp] theorem setChannel_trib (c : Nat) (v : Mch) (s : State) : (setChannel c v s).trib = s.trib := rfl
@[simp] theorem setChannel_cls (c : Nat) (v : Mch) (s : State) : (setChannel c v s).cls = s.cls := rfl
@[simp] theorem setChannel_q (c : Nat) (v : Mch) (s : State) : (setChannel c v s).q = s.q := rfl
@[simp] theorem setChannel_lanes (c : Nat) (v : Mch) (s : State) : (setChannel c v s).lanes = s.lanes := rfl
@[simp] theorem setChannel_refs (c : Nat) (v : Mch) (s : State) : (setChannel c v s).refs = s.refs := rfl
@[simp] theorem setChannel_die (c : Nat) (v : Mch) (s : State) : (setChannel c v s).die = s.die := rfl
@[simp] theorem setChannel_ports (c : Nat) (v : Mch) (s : State) : (setChannel c v s).ports = s.ports := rfl
@[simp] theorem setChannel_snaps (c : Nat) (v : Mch) (s : State) : (setChannel c v s).snaps = s.snaps := rfl
@[simp] theorem setChannel_sec (c : Nat) (v : Mch) (s : State) : (setChannel c v s).sec = s.sec := rfl
@[simp] theorem setChannel_cmd (c : Nat) (v : Mch) (s : State) : (setChannel c v s).cmd = s.cmd := rfl
@[simp] theorem setChannel_groups (c : Nat) (v : Mch) (s : State) : (setChannel c v s).groups = s.groups := rfl
@[simp] theorem setChannel_eng (c : Nat) (v : Mch) (s : State) : (setChannel c v s).eng = s.eng := rfl
@[simp] theorem setChannel_evc (c : Nat) (v : Mch) (s : State) : (setChannel c v s).evc = s.evc := rfl
@[simp] theorem setChannel_pmc (c : Nat) (v : Mch) (s : State) : (setChannel c v s).pmc = s.pmc := rfl
@[simp] theorem setChannel_pwr (c : Nat) (v : Mch) (s : State) : (setChannel c v s).pwr = s.pwr := rfl
@[simp] theorem setChannel_out (c : Nat) (v : Mch) (s : State) : (setChannel c v s).out = s.out := rfl
@[simp] theorem setChannel_pending (c : Nat) (v : Mch) (s : State) : (setChannel c v s).pending = s.pending := rfl

@[simp] theorem setGrp_fuses (g : Nat) (v : Group) (s : State) : (setGrp g v s).fuses = s.fuses := rfl
@[simp] theorem setGrp_dev (g : Nat) (v : Group) (s : State) : (setGrp g v s).dev = s.dev := rfl
@[simp] theorem setGrp_clk (g : Nat) (v : Group) (s : State) : (setGrp g v s).clk = s.clk := rfl
@[simp] theorem setGrp_time (g : Nat) (v : Group) (s : State) : (setGrp g v s).time = s.time := rfl
@[simp] theorem setGrp_tio (g : Nat) (v : Group) (s : State) : (setGrp g v s).tio = s.tio := rfl
@[simp] theorem setGrp_carriers (g : Nat) (v : Group) (s : State) : (setGrp g v s).carriers = s.carriers := rfl
@[simp] theorem setGrp_reg (g : Nat) (v : Group) (s : State) : (setGrp g v s).reg = s.reg := rfl
@[simp] theorem setGrp_down (g : Nat) (v : Group) (s : State) : (setGrp g v s).down = s.down := rfl
@[simp] theorem setGrp_mch (g : Nat) (v : Group) (s : State) : (setGrp g v s).mch = s.mch := rfl
@[simp] theorem setGrp_trib (g : Nat) (v : Group) (s : State) : (setGrp g v s).trib = s.trib := rfl
@[simp] theorem setGrp_cls (g : Nat) (v : Group) (s : State) : (setGrp g v s).cls = s.cls := rfl
@[simp] theorem setGrp_q (g : Nat) (v : Group) (s : State) : (setGrp g v s).q = s.q := rfl
@[simp] theorem setGrp_lanes (g : Nat) (v : Group) (s : State) : (setGrp g v s).lanes = s.lanes := rfl
@[simp] theorem setGrp_refs (g : Nat) (v : Group) (s : State) : (setGrp g v s).refs = s.refs := rfl
@[simp] theorem setGrp_die (g : Nat) (v : Group) (s : State) : (setGrp g v s).die = s.die := rfl
@[simp] theorem setGrp_ports (g : Nat) (v : Group) (s : State) : (setGrp g v s).ports = s.ports := rfl
@[simp] theorem setGrp_snaps (g : Nat) (v : Group) (s : State) : (setGrp g v s).snaps = s.snaps := rfl
@[simp] theorem setGrp_sec (g : Nat) (v : Group) (s : State) : (setGrp g v s).sec = s.sec := rfl
@[simp] theorem setGrp_cmd (g : Nat) (v : Group) (s : State) : (setGrp g v s).cmd = s.cmd := rfl
@[simp] theorem setGrp_groups (g : Nat) (v : Group) (s : State) : (setGrp g v s).groups = Tbl.set {} s.groups g v := rfl
@[simp] theorem setGrp_eng (g : Nat) (v : Group) (s : State) : (setGrp g v s).eng = s.eng := rfl
@[simp] theorem setGrp_evc (g : Nat) (v : Group) (s : State) : (setGrp g v s).evc = s.evc := rfl
@[simp] theorem setGrp_pmc (g : Nat) (v : Group) (s : State) : (setGrp g v s).pmc = s.pmc := rfl
@[simp] theorem setGrp_pwr (g : Nat) (v : Group) (s : State) : (setGrp g v s).pwr = s.pwr := rfl
@[simp] theorem setGrp_out (g : Nat) (v : Group) (s : State) : (setGrp g v s).out = s.out := rfl
@[simp] theorem setGrp_pending (g : Nat) (v : Group) (s : State) : (setGrp g v s).pending = s.pending := rfl

@[simp] theorem setQueue_fuses (q : Nat) (v : Option Queue) (s : State) : (setQueue q v s).fuses = s.fuses := rfl
@[simp] theorem setQueue_dev (q : Nat) (v : Option Queue) (s : State) : (setQueue q v s).dev = s.dev := rfl
@[simp] theorem setQueue_clk (q : Nat) (v : Option Queue) (s : State) : (setQueue q v s).clk = s.clk := rfl
@[simp] theorem setQueue_time (q : Nat) (v : Option Queue) (s : State) : (setQueue q v s).time = s.time := rfl
@[simp] theorem setQueue_tio (q : Nat) (v : Option Queue) (s : State) : (setQueue q v s).tio = s.tio := rfl
@[simp] theorem setQueue_carriers (q : Nat) (v : Option Queue) (s : State) : (setQueue q v s).carriers = s.carriers := rfl
@[simp] theorem setQueue_reg (q : Nat) (v : Option Queue) (s : State) : (setQueue q v s).reg = s.reg := rfl
@[simp] theorem setQueue_down (q : Nat) (v : Option Queue) (s : State) : (setQueue q v s).down = s.down := rfl
@[simp] theorem setQueue_mch (q : Nat) (v : Option Queue) (s : State) : (setQueue q v s).mch = s.mch := rfl
@[simp] theorem setQueue_trib (q : Nat) (v : Option Queue) (s : State) : (setQueue q v s).trib = s.trib := rfl
@[simp] theorem setQueue_cls (q : Nat) (v : Option Queue) (s : State) : (setQueue q v s).cls = s.cls := rfl
@[simp] theorem setQueue_lanes (q : Nat) (v : Option Queue) (s : State) : (setQueue q v s).lanes = s.lanes := rfl
@[simp] theorem setQueue_refs (q : Nat) (v : Option Queue) (s : State) : (setQueue q v s).refs = s.refs := rfl
@[simp] theorem setQueue_die (q : Nat) (v : Option Queue) (s : State) : (setQueue q v s).die = s.die := rfl
@[simp] theorem setQueue_ports (q : Nat) (v : Option Queue) (s : State) : (setQueue q v s).ports = s.ports := rfl
@[simp] theorem setQueue_snaps (q : Nat) (v : Option Queue) (s : State) : (setQueue q v s).snaps = s.snaps := rfl
@[simp] theorem setQueue_sec (q : Nat) (v : Option Queue) (s : State) : (setQueue q v s).sec = s.sec := rfl
@[simp] theorem setQueue_cmd (q : Nat) (v : Option Queue) (s : State) : (setQueue q v s).cmd = s.cmd := rfl
@[simp] theorem setQueue_groups (q : Nat) (v : Option Queue) (s : State) : (setQueue q v s).groups = s.groups := rfl
@[simp] theorem setQueue_eng (q : Nat) (v : Option Queue) (s : State) : (setQueue q v s).eng = s.eng := rfl
@[simp] theorem setQueue_evc (q : Nat) (v : Option Queue) (s : State) : (setQueue q v s).evc = s.evc := rfl
@[simp] theorem setQueue_pmc (q : Nat) (v : Option Queue) (s : State) : (setQueue q v s).pmc = s.pmc := rfl
@[simp] theorem setQueue_pwr (q : Nat) (v : Option Queue) (s : State) : (setQueue q v s).pwr = s.pwr := rfl
@[simp] theorem setQueue_out (q : Nat) (v : Option Queue) (s : State) : (setQueue q v s).out = s.out := rfl
@[simp] theorem setQueue_pending (q : Nat) (v : Option Queue) (s : State) : (setQueue q v s).pending = s.pending := rfl

@[simp] theorem modCarrier_fuses (n : Nat) (f : Carrier → Carrier) (s : State) : (modCarrier n f s).fuses = s.fuses := rfl
@[simp] theorem modCarrier_dev (n : Nat) (f : Carrier → Carrier) (s : State) : (modCarrier n f s).dev = s.dev := rfl
@[simp] theorem modCarrier_clk (n : Nat) (f : Carrier → Carrier) (s : State) : (modCarrier n f s).clk = s.clk := rfl
@[simp] theorem modCarrier_time (n : Nat) (f : Carrier → Carrier) (s : State) : (modCarrier n f s).time = s.time := rfl
@[simp] theorem modCarrier_tio (n : Nat) (f : Carrier → Carrier) (s : State) : (modCarrier n f s).tio = s.tio := rfl
@[simp] theorem modCarrier_reg (n : Nat) (f : Carrier → Carrier) (s : State) : (modCarrier n f s).reg = s.reg := rfl
@[simp] theorem modCarrier_down (n : Nat) (f : Carrier → Carrier) (s : State) : (modCarrier n f s).down = s.down := rfl
@[simp] theorem modCarrier_mch (n : Nat) (f : Carrier → Carrier) (s : State) : (modCarrier n f s).mch = s.mch := rfl
@[simp] theorem modCarrier_trib (n : Nat) (f : Carrier → Carrier) (s : State) : (modCarrier n f s).trib = s.trib := rfl
@[simp] theorem modCarrier_cls (n : Nat) (f : Carrier → Carrier) (s : State) : (modCarrier n f s).cls = s.cls := rfl
@[simp] theorem modCarrier_q (n : Nat) (f : Carrier → Carrier) (s : State) : (modCarrier n f s).q = s.q := rfl
@[simp] theorem modCarrier_lanes (n : Nat) (f : Carrier → Carrier) (s : State) : (modCarrier n f s).lanes = s.lanes := rfl
@[simp] theorem modCarrier_refs (n : Nat) (f : Carrier → Carrier) (s : State) : (modCarrier n f s).refs = s.refs := rfl
@[simp] theorem modCarrier_die (n : Nat) (f : Carrier → Carrier) (s : State) : (modCarrier n f s).die = s.die := rfl
@[simp] theorem modCarrier_ports (n : Nat) (f : Carrier → Carrier) (s : State) : (modCarrier n f s).ports = s.ports := rfl
@[simp] theorem modCarrier_snaps (n : Nat) (f : Carrier → Carrier) (s : State) : (modCarrier n f s).snaps = s.snaps := rfl
@[simp] theorem modCarrier_sec (n : Nat) (f : Carrier → Carrier) (s : State) : (modCarrier n f s).sec = s.sec := rfl
@[simp] theorem modCarrier_cmd (n : Nat) (f : Carrier → Carrier) (s : State) : (modCarrier n f s).cmd = s.cmd := rfl
@[simp] theorem modCarrier_groups (n : Nat) (f : Carrier → Carrier) (s : State) : (modCarrier n f s).groups = s.groups := rfl
@[simp] theorem modCarrier_eng (n : Nat) (f : Carrier → Carrier) (s : State) : (modCarrier n f s).eng = s.eng := rfl
@[simp] theorem modCarrier_evc (n : Nat) (f : Carrier → Carrier) (s : State) : (modCarrier n f s).evc = s.evc := rfl
@[simp] theorem modCarrier_pmc (n : Nat) (f : Carrier → Carrier) (s : State) : (modCarrier n f s).pmc = s.pmc := rfl
@[simp] theorem modCarrier_pwr (n : Nat) (f : Carrier → Carrier) (s : State) : (modCarrier n f s).pwr = s.pwr := rfl
@[simp] theorem modCarrier_out (n : Nat) (f : Carrier → Carrier) (s : State) : (modCarrier n f s).out = s.out := rfl
@[simp] theorem modCarrier_pending (n : Nat) (f : Carrier → Carrier) (s : State) : (modCarrier n f s).pending = s.pending := rfl

@[simp] theorem modPort_fuses (p : Nat) (f : Port → Port) (s : State) : (modPort p f s).fuses = s.fuses := rfl
@[simp] theorem modPort_dev (p : Nat) (f : Port → Port) (s : State) : (modPort p f s).dev = s.dev := rfl
@[simp] theorem modPort_clk (p : Nat) (f : Port → Port) (s : State) : (modPort p f s).clk = s.clk := rfl
@[simp] theorem modPort_time (p : Nat) (f : Port → Port) (s : State) : (modPort p f s).time = s.time := rfl
@[simp] theorem modPort_tio (p : Nat) (f : Port → Port) (s : State) : (modPort p f s).tio = s.tio := rfl
@[simp] theorem modPort_carriers (p : Nat) (f : Port → Port) (s : State) : (modPort p f s).carriers = s.carriers := rfl
@[simp] theorem modPort_reg (p : Nat) (f : Port → Port) (s : State) : (modPort p f s).reg = s.reg := rfl
@[simp] theorem modPort_down (p : Nat) (f : Port → Port) (s : State) : (modPort p f s).down = s.down := rfl
@[simp] theorem modPort_mch (p : Nat) (f : Port → Port) (s : State) : (modPort p f s).mch = s.mch := rfl
@[simp] theorem modPort_trib (p : Nat) (f : Port → Port) (s : State) : (modPort p f s).trib = s.trib := rfl
@[simp] theorem modPort_cls (p : Nat) (f : Port → Port) (s : State) : (modPort p f s).cls = s.cls := rfl
@[simp] theorem modPort_q (p : Nat) (f : Port → Port) (s : State) : (modPort p f s).q = s.q := rfl
@[simp] theorem modPort_lanes (p : Nat) (f : Port → Port) (s : State) : (modPort p f s).lanes = s.lanes := rfl
@[simp] theorem modPort_refs (p : Nat) (f : Port → Port) (s : State) : (modPort p f s).refs = s.refs := rfl
@[simp] theorem modPort_die (p : Nat) (f : Port → Port) (s : State) : (modPort p f s).die = s.die := rfl
@[simp] theorem modPort_snaps (p : Nat) (f : Port → Port) (s : State) : (modPort p f s).snaps = s.snaps := rfl
@[simp] theorem modPort_sec (p : Nat) (f : Port → Port) (s : State) : (modPort p f s).sec = s.sec := rfl
@[simp] theorem modPort_cmd (p : Nat) (f : Port → Port) (s : State) : (modPort p f s).cmd = s.cmd := rfl
@[simp] theorem modPort_groups (p : Nat) (f : Port → Port) (s : State) : (modPort p f s).groups = s.groups := rfl
@[simp] theorem modPort_eng (p : Nat) (f : Port → Port) (s : State) : (modPort p f s).eng = s.eng := rfl
@[simp] theorem modPort_evc (p : Nat) (f : Port → Port) (s : State) : (modPort p f s).evc = s.evc := rfl
@[simp] theorem modPort_pmc (p : Nat) (f : Port → Port) (s : State) : (modPort p f s).pmc = s.pmc := rfl
@[simp] theorem modPort_pwr (p : Nat) (f : Port → Port) (s : State) : (modPort p f s).pwr = s.pwr := rfl
@[simp] theorem modPort_out (p : Nat) (f : Port → Port) (s : State) : (modPort p f s).out = s.out := rfl
@[simp] theorem modPort_pending (p : Nat) (f : Port → Port) (s : State) : (modPort p f s).pending = s.pending := rfl

@[simp] theorem modLane_fuses (n : Nat) (f : Lane → Lane) (s : State) : (modLane n f s).fuses = s.fuses := rfl
@[simp] theorem modLane_dev (n : Nat) (f : Lane → Lane) (s : State) : (modLane n f s).dev = s.dev := rfl
@[simp] theorem modLane_clk (n : Nat) (f : Lane → Lane) (s : State) : (modLane n f s).clk = s.clk := rfl
@[simp] theorem modLane_time (n : Nat) (f : Lane → Lane) (s : State) : (modLane n f s).time = s.time := rfl
@[simp] theorem modLane_tio (n : Nat) (f : Lane → Lane) (s : State) : (modLane n f s).tio = s.tio := rfl
@[simp] theorem modLane_carriers (n : Nat) (f : Lane → Lane) (s : State) : (modLane n f s).carriers = s.carriers := rfl
@[simp] theorem modLane_reg (n : Nat) (f : Lane → Lane) (s : State) : (modLane n f s).reg = s.reg := rfl
@[simp] theorem modLane_down (n : Nat) (f : Lane → Lane) (s : State) : (modLane n f s).down = s.down := rfl
@[simp] theorem modLane_mch (n : Nat) (f : Lane → Lane) (s : State) : (modLane n f s).mch = s.mch := rfl
@[simp] theorem modLane_trib (n : Nat) (f : Lane → Lane) (s : State) : (modLane n f s).trib = s.trib := rfl
@[simp] theorem modLane_cls (n : Nat) (f : Lane → Lane) (s : State) : (modLane n f s).cls = s.cls := rfl
@[simp] theorem modLane_q (n : Nat) (f : Lane → Lane) (s : State) : (modLane n f s).q = s.q := rfl
@[simp] theorem modLane_refs (n : Nat) (f : Lane → Lane) (s : State) : (modLane n f s).refs = s.refs := rfl
@[simp] theorem modLane_die (n : Nat) (f : Lane → Lane) (s : State) : (modLane n f s).die = s.die := rfl
@[simp] theorem modLane_ports (n : Nat) (f : Lane → Lane) (s : State) : (modLane n f s).ports = s.ports := rfl
@[simp] theorem modLane_snaps (n : Nat) (f : Lane → Lane) (s : State) : (modLane n f s).snaps = s.snaps := rfl
@[simp] theorem modLane_sec (n : Nat) (f : Lane → Lane) (s : State) : (modLane n f s).sec = s.sec := rfl
@[simp] theorem modLane_cmd (n : Nat) (f : Lane → Lane) (s : State) : (modLane n f s).cmd = s.cmd := rfl
@[simp] theorem modLane_groups (n : Nat) (f : Lane → Lane) (s : State) : (modLane n f s).groups = s.groups := rfl
@[simp] theorem modLane_eng (n : Nat) (f : Lane → Lane) (s : State) : (modLane n f s).eng = s.eng := rfl
@[simp] theorem modLane_evc (n : Nat) (f : Lane → Lane) (s : State) : (modLane n f s).evc = s.evc := rfl
@[simp] theorem modLane_pmc (n : Nat) (f : Lane → Lane) (s : State) : (modLane n f s).pmc = s.pmc := rfl
@[simp] theorem modLane_pwr (n : Nat) (f : Lane → Lane) (s : State) : (modLane n f s).pwr = s.pwr := rfl
@[simp] theorem modLane_out (n : Nat) (f : Lane → Lane) (s : State) : (modLane n f s).out = s.out := rfl
@[simp] theorem modLane_pending (n : Nat) (f : Lane → Lane) (s : State) : (modLane n f s).pending = s.pending := rfl

@[simp] theorem modAssoc_fuses (i : Nat) (f : Assoc → Assoc) (s : State) : (modAssoc i f s).fuses = s.fuses := rfl
@[simp] theorem modAssoc_dev (i : Nat) (f : Assoc → Assoc) (s : State) : (modAssoc i f s).dev = s.dev := rfl
@[simp] theorem modAssoc_clk (i : Nat) (f : Assoc → Assoc) (s : State) : (modAssoc i f s).clk = s.clk := rfl
@[simp] theorem modAssoc_time (i : Nat) (f : Assoc → Assoc) (s : State) : (modAssoc i f s).time = s.time := rfl
@[simp] theorem modAssoc_tio (i : Nat) (f : Assoc → Assoc) (s : State) : (modAssoc i f s).tio = s.tio := rfl
@[simp] theorem modAssoc_carriers (i : Nat) (f : Assoc → Assoc) (s : State) : (modAssoc i f s).carriers = s.carriers := rfl
@[simp] theorem modAssoc_reg (i : Nat) (f : Assoc → Assoc) (s : State) : (modAssoc i f s).reg = s.reg := rfl
@[simp] theorem modAssoc_down (i : Nat) (f : Assoc → Assoc) (s : State) : (modAssoc i f s).down = s.down := rfl
@[simp] theorem modAssoc_mch (i : Nat) (f : Assoc → Assoc) (s : State) : (modAssoc i f s).mch = s.mch := rfl
@[simp] theorem modAssoc_trib (i : Nat) (f : Assoc → Assoc) (s : State) : (modAssoc i f s).trib = s.trib := rfl
@[simp] theorem modAssoc_cls (i : Nat) (f : Assoc → Assoc) (s : State) : (modAssoc i f s).cls = s.cls := rfl
@[simp] theorem modAssoc_q (i : Nat) (f : Assoc → Assoc) (s : State) : (modAssoc i f s).q = s.q := rfl
@[simp] theorem modAssoc_lanes (i : Nat) (f : Assoc → Assoc) (s : State) : (modAssoc i f s).lanes = s.lanes := rfl
@[simp] theorem modAssoc_refs (i : Nat) (f : Assoc → Assoc) (s : State) : (modAssoc i f s).refs = s.refs := rfl
@[simp] theorem modAssoc_die (i : Nat) (f : Assoc → Assoc) (s : State) : (modAssoc i f s).die = s.die := rfl
@[simp] theorem modAssoc_ports (i : Nat) (f : Assoc → Assoc) (s : State) : (modAssoc i f s).ports = s.ports := rfl
@[simp] theorem modAssoc_snaps (i : Nat) (f : Assoc → Assoc) (s : State) : (modAssoc i f s).snaps = s.snaps := rfl
@[simp] theorem modAssoc_cmd (i : Nat) (f : Assoc → Assoc) (s : State) : (modAssoc i f s).cmd = s.cmd := rfl
@[simp] theorem modAssoc_groups (i : Nat) (f : Assoc → Assoc) (s : State) : (modAssoc i f s).groups = s.groups := rfl
@[simp] theorem modAssoc_eng (i : Nat) (f : Assoc → Assoc) (s : State) : (modAssoc i f s).eng = s.eng := rfl
@[simp] theorem modAssoc_evc (i : Nat) (f : Assoc → Assoc) (s : State) : (modAssoc i f s).evc = s.evc := rfl
@[simp] theorem modAssoc_pmc (i : Nat) (f : Assoc → Assoc) (s : State) : (modAssoc i f s).pmc = s.pmc := rfl
@[simp] theorem modAssoc_pwr (i : Nat) (f : Assoc → Assoc) (s : State) : (modAssoc i f s).pwr = s.pwr := rfl
@[simp] theorem modAssoc_out (i : Nat) (f : Assoc → Assoc) (s : State) : (modAssoc i f s).out = s.out := rfl
@[simp] theorem modAssoc_pending (i : Nat) (f : Assoc → Assoc) (s : State) : (modAssoc i f s).pending = s.pending := rfl

@[simp] theorem modChannel_fuses (c : Nat) (f : Mch → Mch) (s : State) : (modChannel c f s).fuses = s.fuses := rfl
@[simp] theorem modChannel_dev (c : Nat) (f : Mch → Mch) (s : State) : (modChannel c f s).dev = s.dev := rfl
@[simp] theorem modChannel_clk (c : Nat) (f : Mch → Mch) (s : State) : (modChannel c f s).clk = s.clk := rfl
@[simp] theorem modChannel_time (c : Nat) (f : Mch → Mch) (s : State) : (modChannel c f s).time = s.time := rfl
@[simp] theorem modChannel_tio (c : Nat) (f : Mch → Mch) (s : State) : (modChannel c f s).tio = s.tio := rfl
@[simp] theorem modChannel_carriers (c : Nat) (f : Mch → Mch) (s : State) : (modChannel c f s).carriers = s.carriers := rfl
@[simp] theorem modChannel_reg (c : Nat) (f : Mch → Mch) (s : State) : (modChannel c f s).reg = s.reg := rfl
@[simp] theorem modChannel_down (c : Nat) (f : Mch → Mch) (s : State) : (modChannel c f s).down = s.down := rfl
@[simp] theorem modChannel_trib (c : Nat) (f : Mch → Mch) (s : State) : (modChannel c f s).trib = s.trib := rfl
@[simp] theorem modChannel_cls (c : Nat) (f : Mch → Mch) (s : State) : (modChannel c f s).cls = s.cls := rfl
@[simp] theorem modChannel_q (c : Nat) (f : Mch → Mch) (s : State) : (modChannel c f s).q = s.q := rfl
@[simp] theorem modChannel_lanes (c : Nat) (f : Mch → Mch) (s : State) : (modChannel c f s).lanes = s.lanes := rfl
@[simp] theorem modChannel_refs (c : Nat) (f : Mch → Mch) (s : State) : (modChannel c f s).refs = s.refs := rfl
@[simp] theorem modChannel_die (c : Nat) (f : Mch → Mch) (s : State) : (modChannel c f s).die = s.die := rfl
@[simp] theorem modChannel_ports (c : Nat) (f : Mch → Mch) (s : State) : (modChannel c f s).ports = s.ports := rfl
@[simp] theorem modChannel_snaps (c : Nat) (f : Mch → Mch) (s : State) : (modChannel c f s).snaps = s.snaps := rfl
@[simp] theorem modChannel_sec (c : Nat) (f : Mch → Mch) (s : State) : (modChannel c f s).sec = s.sec := rfl
@[simp] theorem modChannel_cmd (c : Nat) (f : Mch → Mch) (s : State) : (modChannel c f s).cmd = s.cmd := rfl
@[simp] theorem modChannel_groups (c : Nat) (f : Mch → Mch) (s : State) : (modChannel c f s).groups = s.groups := rfl
@[simp] theorem modChannel_eng (c : Nat) (f : Mch → Mch) (s : State) : (modChannel c f s).eng = s.eng := rfl
@[simp] theorem modChannel_evc (c : Nat) (f : Mch → Mch) (s : State) : (modChannel c f s).evc = s.evc := rfl
@[simp] theorem modChannel_pmc (c : Nat) (f : Mch → Mch) (s : State) : (modChannel c f s).pmc = s.pmc := rfl
@[simp] theorem modChannel_pwr (c : Nat) (f : Mch → Mch) (s : State) : (modChannel c f s).pwr = s.pwr := rfl
@[simp] theorem modChannel_out (c : Nat) (f : Mch → Mch) (s : State) : (modChannel c f s).out = s.out := rfl
@[simp] theorem modChannel_pending (c : Nat) (f : Mch → Mch) (s : State) : (modChannel c f s).pending = s.pending := rfl

@[simp] theorem modGrp_fuses (g : Nat) (f : Group → Group) (s : State) : (modGrp g f s).fuses = s.fuses := rfl
@[simp] theorem modGrp_dev (g : Nat) (f : Group → Group) (s : State) : (modGrp g f s).dev = s.dev := rfl
@[simp] theorem modGrp_clk (g : Nat) (f : Group → Group) (s : State) : (modGrp g f s).clk = s.clk := rfl
@[simp] theorem modGrp_time (g : Nat) (f : Group → Group) (s : State) : (modGrp g f s).time = s.time := rfl
@[simp] theorem modGrp_tio (g : Nat) (f : Group → Group) (s : State) : (modGrp g f s).tio = s.tio := rfl
@[simp] theorem modGrp_carriers (g : Nat) (f : Group → Group) (s : State) : (modGrp g f s).carriers = s.carriers := rfl
@[simp] theorem modGrp_reg (g : Nat) (f : Group → Group) (s : State) : (modGrp g f s).reg = s.reg := rfl
@[simp] theorem modGrp_down (g : Nat) (f : Group → Group) (s : State) : (modGrp g f s).down = s.down := rfl
@[simp] theorem modGrp_mch (g : Nat) (f : Group → Group) (s : State) : (modGrp g f s).mch = s.mch := rfl
@[simp] theorem modGrp_trib (g : Nat) (f : Group → Group) (s : State) : (modGrp g f s).trib = s.trib := rfl
@[simp] theorem modGrp_cls (g : Nat) (f : Group → Group) (s : State) : (modGrp g f s).cls = s.cls := rfl
@[simp] theorem modGrp_q (g : Nat) (f : Group → Group) (s : State) : (modGrp g f s).q = s.q := rfl
@[simp] theorem modGrp_lanes (g : Nat) (f : Group → Group) (s : State) : (modGrp g f s).lanes = s.lanes := rfl
@[simp] theorem modGrp_refs (g : Nat) (f : Group → Group) (s : State) : (modGrp g f s).refs = s.refs := rfl
@[simp] theorem modGrp_die (g : Nat) (f : Group → Group) (s : State) : (modGrp g f s).die = s.die := rfl
@[simp] theorem modGrp_ports (g : Nat) (f : Group → Group) (s : State) : (modGrp g f s).ports = s.ports := rfl
@[simp] theorem modGrp_snaps (g : Nat) (f : Group → Group) (s : State) : (modGrp g f s).snaps = s.snaps := rfl
@[simp] theorem modGrp_sec (g : Nat) (f : Group → Group) (s : State) : (modGrp g f s).sec = s.sec := rfl
@[simp] theorem modGrp_cmd (g : Nat) (f : Group → Group) (s : State) : (modGrp g f s).cmd = s.cmd := rfl
@[simp] theorem modGrp_eng (g : Nat) (f : Group → Group) (s : State) : (modGrp g f s).eng = s.eng := rfl
@[simp] theorem modGrp_evc (g : Nat) (f : Group → Group) (s : State) : (modGrp g f s).evc = s.evc := rfl
@[simp] theorem modGrp_pmc (g : Nat) (f : Group → Group) (s : State) : (modGrp g f s).pmc = s.pmc := rfl
@[simp] theorem modGrp_pwr (g : Nat) (f : Group → Group) (s : State) : (modGrp g f s).pwr = s.pwr := rfl
@[simp] theorem modGrp_out (g : Nat) (f : Group → Group) (s : State) : (modGrp g f s).out = s.out := rfl
@[simp] theorem modGrp_pending (g : Nat) (f : Group → Group) (s : State) : (modGrp g f s).pending = s.pending := rfl

@[simp] theorem modStats_fuses (p : Nat) (f : PortStats → PortStats) (s : State) : (modStats p f s).fuses = s.fuses := rfl
@[simp] theorem modStats_dev (p : Nat) (f : PortStats → PortStats) (s : State) : (modStats p f s).dev = s.dev := rfl
@[simp] theorem modStats_clk (p : Nat) (f : PortStats → PortStats) (s : State) : (modStats p f s).clk = s.clk := rfl
@[simp] theorem modStats_time (p : Nat) (f : PortStats → PortStats) (s : State) : (modStats p f s).time = s.time := rfl
@[simp] theorem modStats_tio (p : Nat) (f : PortStats → PortStats) (s : State) : (modStats p f s).tio = s.tio := rfl
@[simp] theorem modStats_carriers (p : Nat) (f : PortStats → PortStats) (s : State) : (modStats p f s).carriers = s.carriers := rfl
@[simp] theorem modStats_reg (p : Nat) (f : PortStats → PortStats) (s : State) : (modStats p f s).reg = s.reg := rfl
@[simp] theorem modStats_down (p : Nat) (f : PortStats → PortStats) (s : State) : (modStats p f s).down = s.down := rfl
@[simp] theorem modStats_mch (p : Nat) (f : PortStats → PortStats) (s : State) : (modStats p f s).mch = s.mch := rfl
@[simp] theorem modStats_trib (p : Nat) (f : PortStats → PortStats) (s : State) : (modStats p f s).trib = s.trib := rfl
@[simp] theorem modStats_cls (p : Nat) (f : PortStats → PortStats) (s : State) : (modStats p f s).cls = s.cls := rfl
@[simp] theorem modStats_q (p : Nat) (f : PortStats → PortStats) (s : State) : (modStats p f s).q = s.q := rfl
@[simp] theorem modStats_lanes (p : Nat) (f : PortStats → PortStats) (s : State) : (modStats p f s).lanes = s.lanes := rfl
@[simp] theorem modStats_refs (p : Nat) (f : PortStats → PortStats) (s : State) : (modStats p f s).refs = s.refs := rfl
@[simp] theorem modStats_die (p : Nat) (f : PortStats → PortStats) (s : State) : (modStats p f s).die = s.die := rfl
@[simp] theorem modStats_snaps (p : Nat) (f : PortStats → PortStats) (s : State) : (modStats p f s).snaps = s.snaps := rfl
@[simp] theorem modStats_sec (p : Nat) (f : PortStats → PortStats) (s : State) : (modStats p f s).sec = s.sec := rfl
@[simp] theorem modStats_cmd (p : Nat) (f : PortStats → PortStats) (s : State) : (modStats p f s).cmd = s.cmd := rfl
@[simp] theorem modStats_groups (p : Nat) (f : PortStats → PortStats) (s : State) : (modStats p f s).groups = s.groups := rfl
@[simp] theorem modStats_eng (p : Nat) (f : PortStats → PortStats) (s : State) : (modStats p f s).eng = s.eng := rfl
@[simp] theorem modStats_evc (p : Nat) (f : PortStats → PortStats) (s : State) : (modStats p f s).evc = s.evc := rfl
@[simp] theorem modStats_pmc (p : Nat) (f : PortStats → PortStats) (s : State) : (modStats p f s).pmc = s.pmc := rfl
@[simp] theorem modStats_pwr (p : Nat) (f : PortStats → PortStats) (s : State) : (modStats p f s).pwr = s.pwr := rfl
@[simp] theorem modStats_out (p : Nat) (f : PortStats → PortStats) (s : State) : (modStats p f s).out = s.out := rfl
@[simp] theorem modStats_pending (p : Nat) (f : PortStats → PortStats) (s : State) : (modStats p f s).pending = s.pending := rfl

@[simp] theorem modCls_fuses (f : Classifier → Classifier) (s : State) : (modCls f s).fuses = s.fuses := rfl
@[simp] theorem modCls_dev (f : Classifier → Classifier) (s : State) : (modCls f s).dev = s.dev := rfl
@[simp] theorem modCls_clk (f : Classifier → Classifier) (s : State) : (modCls f s).clk = s.clk := rfl
@[simp] theorem modCls_time (f : Classifier → Classifier) (s : State) : (modCls f s).time = s.time := rfl
@[simp] theorem modCls_tio (f : Classifier → Classifier) (s : State) : (modCls f s).tio = s.tio := rfl
@[simp] theorem modCls_carriers (f : Classifier → Classifier) (s : State) : (modCls f s).carriers = s.carriers := rfl
@[simp] theorem modCls_reg (f : Classifier → Classifier) (s : State) : (modCls f s).reg = s.reg := rfl
@[simp] theorem modCls_down (f : Classifier → Classifier) (s : State) : (modCls f s).down = s.down := rfl
@[simp] theorem modCls_mch (f : Classifier → Classifier) (s : State) : (modCls f s).mch = s.mch := rfl
@[simp] theorem modCls_trib (f : Classifier → Classifier) (s : State) : (modCls f s).trib = s.trib := rfl
@[simp] theorem modCls_cls (f : Classifier → Classifier) (s : State) : (modCls f s).cls = f s.cls := rfl
@[simp] theorem modCls_q (f : Classifier → Classifier) (s : State) : (modCls f s).q = s.q := rfl
@[simp] theorem modCls_lanes (f : Classifier → Classifier) (s : State) : (modCls f s).lanes = s.lanes := rfl
@[simp] theorem modCls_refs (f : Classifier → Classifier) (s : State) : (modCls f s).refs = s.refs := rfl
@[simp] theorem modCls_die (f : Classifier → Classifier) (s : State) : (modCls f s).die = s.die := rfl
@[simp] theorem modCls_ports (f : Classifier → Classifier) (s : State) : (modCls f s).ports = s.ports := rfl
@[simp] theorem modCls_snaps (f : Classifier → Classifier) (s : State) : (modCls f s).snaps = s.snaps := rfl
@[simp] theorem modCls_sec (f : Classifier → Classifier) (s : State) : (modCls f s).sec = s.sec := rfl
@[simp] theorem modCls_cmd (f : Classifier → Classifier) (s : State) : (modCls f s).cmd = s.cmd := rfl
@[simp] theorem modCls_groups (f : Classifier → Classifier) (s : State) : (modCls f s).groups = s.groups := rfl
@[simp] theorem modCls_eng (f : Classifier → Classifier) (s : State) : (modCls f s).eng = s.eng := rfl
@[simp] theorem modCls_evc (f : Classifier → Classifier) (s : State) : (modCls f s).evc = s.evc := rfl
@[simp] theorem modCls_pmc (f : Classifier → Classifier) (s : State) : (modCls f s).pmc = s.pmc := rfl
@[simp] theorem modCls_pwr (f : Classifier → Classifier) (s : State) : (modCls f s).pwr = s.pwr := rfl
@[simp] theorem modCls_out (f : Classifier → Classifier) (s : State) : (modCls f s).out = s.out := rfl
@[simp] theorem modCls_pending (f : Classifier → Classifier) (s : State) : (modCls f s).pending = s.pending := rfl

@[simp] theorem modEng_fuses (f : Engines → Engines) (s : State) : (modEng f s).fuses = s.fuses := rfl
@[simp] theorem modEng_dev (f : Engines → Engines) (s : State) : (modEng f s).dev = s.dev := rfl
@[simp] theorem modEng_clk (f : Engines → Engines) (s : State) : (modEng f s).clk = s.clk := rfl
@[simp] theorem modEng_time (f : Engines → Engines) (s : State) : (modEng f s).time = s.time := rfl
@[simp] theorem modEng_tio (f : Engines → Engines) (s : State) : (modEng f s).tio = s.tio := rfl
@[simp] theorem modEng_carriers (f : Engines → Engines) (s : State) : (modEng f s).carriers = s.carriers := rfl
@[simp] theorem modEng_reg (f : Engines → Engines) (s : State) : (modEng f s).reg = s.reg := rfl
@[simp] theorem modEng_down (f : Engines → Engines) (s : State) : (modEng f s).down = s.down := rfl
@[simp] theorem modEng_mch (f : Engines → Engines) (s : State) : (modEng f s).mch = s.mch := rfl
@[simp] theorem modEng_trib (f : Engines → Engines) (s : State) : (modEng f s).trib = s.trib := rfl
@[simp] theorem modEng_cls (f : Engines → Engines) (s : State) : (modEng f s).cls = s.cls := rfl
@[simp] theorem modEng_q (f : Engines → Engines) (s : State) : (modEng f s).q = s.q := rfl
@[simp] theorem modEng_lanes (f : Engines → Engines) (s : State) : (modEng f s).lanes = s.lanes := rfl
@[simp] theorem modEng_refs (f : Engines → Engines) (s : State) : (modEng f s).refs = s.refs := rfl
@[simp] theorem modEng_die (f : Engines → Engines) (s : State) : (modEng f s).die = s.die := rfl
@[simp] theorem modEng_ports (f : Engines → Engines) (s : State) : (modEng f s).ports = s.ports := rfl
@[simp] theorem modEng_snaps (f : Engines → Engines) (s : State) : (modEng f s).snaps = s.snaps := rfl
@[simp] theorem modEng_sec (f : Engines → Engines) (s : State) : (modEng f s).sec = s.sec := rfl
@[simp] theorem modEng_cmd (f : Engines → Engines) (s : State) : (modEng f s).cmd = s.cmd := rfl
@[simp] theorem modEng_groups (f : Engines → Engines) (s : State) : (modEng f s).groups = s.groups := rfl
@[simp] theorem modEng_eng (f : Engines → Engines) (s : State) : (modEng f s).eng = f s.eng := rfl
@[simp] theorem modEng_evc (f : Engines → Engines) (s : State) : (modEng f s).evc = s.evc := rfl
@[simp] theorem modEng_pmc (f : Engines → Engines) (s : State) : (modEng f s).pmc = s.pmc := rfl
@[simp] theorem modEng_pwr (f : Engines → Engines) (s : State) : (modEng f s).pwr = s.pwr := rfl
@[simp] theorem modEng_out (f : Engines → Engines) (s : State) : (modEng f s).out = s.out := rfl
@[simp] theorem modEng_pending (f : Engines → Engines) (s : State) : (modEng f s).pending = s.pending := rfl

@[simp] theorem modEvc_fuses (f : Evc → Evc) (s : State) : (modEvc f s).fuses = s.fuses := rfl
@[simp] theorem modEvc_dev (f : Evc → Evc) (s : State) : (modEvc f s).dev = s.dev := rfl
@[simp] theorem modEvc_clk (f : Evc → Evc) (s : State) : (modEvc f s).clk = s.clk := rfl
@[simp] theorem modEvc_time (f : Evc → Evc) (s : State) : (modEvc f s).time = s.time := rfl
@[simp] theorem modEvc_tio (f : Evc → Evc) (s : State) : (modEvc f s).tio = s.tio := rfl
@[simp] theorem modEvc_carriers (f : Evc → Evc) (s : State) : (modEvc f s).carriers = s.carriers := rfl
@[simp] theorem modEvc_reg (f : Evc → Evc) (s : State) : (modEvc f s).reg = s.reg := rfl
@[simp] theorem modEvc_down (f : Evc → Evc) (s : State) : (modEvc f s).down = s.down := rfl
@[simp] theorem modEvc_mch (f : Evc → Evc) (s : State) : (modEvc f s).mch = s.mch := rfl
@[simp] theorem modEvc_trib (f : Evc → Evc) (s : State) : (modEvc f s).trib = s.trib := rfl
@[simp] theorem modEvc_cls (f : Evc → Evc) (s : State) : (modEvc f s).cls = s.cls := rfl
@[simp] theorem modEvc_q (f : Evc → Evc) (s : State) : (modEvc f s).q = s.q := rfl
@[simp] theorem modEvc_lanes (f : Evc → Evc) (s : State) : (modEvc f s).lanes = s.lanes := rfl
@[simp] theorem modEvc_refs (f : Evc → Evc) (s : State) : (modEvc f s).refs = s.refs := rfl
@[simp] theorem modEvc_die (f : Evc → Evc) (s : State) : (modEvc f s).die = s.die := rfl
@[simp] theorem modEvc_ports (f : Evc → Evc) (s : State) : (modEvc f s).ports = s.ports := rfl
@[simp] theorem modEvc_snaps (f : Evc → Evc) (s : State) : (modEvc f s).snaps = s.snaps := rfl
@[simp] theorem modEvc_sec (f : Evc → Evc) (s : State) : (modEvc f s).sec = s.sec := rfl
@[simp] theorem modEvc_cmd (f : Evc → Evc) (s : State) : (modEvc f s).cmd = s.cmd := rfl
@[simp] theorem modEvc_groups (f : Evc → Evc) (s : State) : (modEvc f s).groups = s.groups := rfl
@[simp] theorem modEvc_eng (f : Evc → Evc) (s : State) : (modEvc f s).eng = s.eng := rfl
@[simp] theorem modEvc_evc (f : Evc → Evc) (s : State) : (modEvc f s).evc = f s.evc := rfl
@[simp] theorem modEvc_pmc (f : Evc → Evc) (s : State) : (modEvc f s).pmc = s.pmc := rfl
@[simp] theorem modEvc_pwr (f : Evc → Evc) (s : State) : (modEvc f s).pwr = s.pwr := rfl
@[simp] theorem modEvc_out (f : Evc → Evc) (s : State) : (modEvc f s).out = s.out := rfl
@[simp] theorem modEvc_pending (f : Evc → Evc) (s : State) : (modEvc f s).pending = s.pending := rfl

@[simp] theorem modTarget_fuses (n : Nat) (f : Target → Target) (s : State) : (modTarget n f s).fuses = s.fuses := rfl
@[simp] theorem modTarget_dev (n : Nat) (f : Target → Target) (s : State) : (modTarget n f s).dev = s.dev := rfl
@[simp] theorem modTarget_clk (n : Nat) (f : Target → Target) (s : State) : (modTarget n f s).clk = s.clk := rfl
@[simp] theorem modTarget_time (n : Nat) (f : Target → Target) (s : State) : (modTarget n f s).time = s.time := rfl
@[simp] theorem modTarget_tio (n : Nat) (f : Target → Target) (s : State) : (modTarget n f s).tio = s.tio := rfl
@[simp] theorem modTarget_carriers (n : Nat) (f : Target → Target) (s : State) : (modTarget n f s).carriers = s.carriers := rfl
@[simp] theorem modTarget_reg (n : Nat) (f : Target → Target) (s : State) : (modTarget n f s).reg = s.reg := rfl
@[simp] theorem modTarget_down (n : Nat) (f : Target → Target) (s : State) : (modTarget n f s).down = s.down := rfl
@[simp] theorem modTarget_mch (n : Nat) (f : Target → Target) (s : State) : (modTarget n f s).mch = s.mch := rfl
@[simp] theorem modTarget_trib (n : Nat) (f : Target → Target) (s : State) : (modTarget n f s).trib = s.trib := rfl
@[simp] theorem modTarget_cls (n : Nat) (f : Target → Target) (s : State) : (modTarget n f s).cls = s.cls := rfl
@[simp] theorem modTarget_q (n : Nat) (f : Target → Target) (s : State) : (modTarget n f s).q = s.q := rfl
@[simp] theorem modTarget_lanes (n : Nat) (f : Target → Target) (s : State) : (modTarget n f s).lanes = s.lanes := rfl
@[simp] theorem modTarget_refs (n : Nat) (f : Target → Target) (s : State) : (modTarget n f s).refs = s.refs := rfl
@[simp] theorem modTarget_die (n : Nat) (f : Target → Target) (s : State) : (modTarget n f s).die = s.die := rfl
@[simp] theorem modTarget_ports (n : Nat) (f : Target → Target) (s : State) : (modTarget n f s).ports = s.ports := rfl
@[simp] theorem modTarget_snaps (n : Nat) (f : Target → Target) (s : State) : (modTarget n f s).snaps = s.snaps := rfl
@[simp] theorem modTarget_sec (n : Nat) (f : Target → Target) (s : State) : (modTarget n f s).sec = s.sec := rfl
@[simp] theorem modTarget_cmd (n : Nat) (f : Target → Target) (s : State) : (modTarget n f s).cmd = s.cmd := rfl
@[simp] theorem modTarget_groups (n : Nat) (f : Target → Target) (s : State) : (modTarget n f s).groups = s.groups := rfl
@[simp] theorem modTarget_eng (n : Nat) (f : Target → Target) (s : State) : (modTarget n f s).eng = s.eng := rfl
@[simp] theorem modTarget_pmc (n : Nat) (f : Target → Target) (s : State) : (modTarget n f s).pmc = s.pmc := rfl
@[simp] theorem modTarget_pwr (n : Nat) (f : Target → Target) (s : State) : (modTarget n f s).pwr = s.pwr := rfl
@[simp] theorem modTarget_out (n : Nat) (f : Target → Target) (s : State) : (modTarget n f s).out = s.out := rfl
@[simp] theorem modTarget_pending (n : Nat) (f : Target → Target) (s : State) : (modTarget n f s).pending = s.pending := rfl

@[simp] theorem modDie_fuses (f : DieLink → DieLink) (s : State) : (modDie f s).fuses = s.fuses := rfl
@[simp] theorem modDie_dev (f : DieLink → DieLink) (s : State) : (modDie f s).dev = s.dev := rfl
@[simp] theorem modDie_clk (f : DieLink → DieLink) (s : State) : (modDie f s).clk = s.clk := rfl
@[simp] theorem modDie_time (f : DieLink → DieLink) (s : State) : (modDie f s).time = s.time := rfl
@[simp] theorem modDie_tio (f : DieLink → DieLink) (s : State) : (modDie f s).tio = s.tio := rfl
@[simp] theorem modDie_carriers (f : DieLink → DieLink) (s : State) : (modDie f s).carriers = s.carriers := rfl
@[simp] theorem modDie_reg (f : DieLink → DieLink) (s : State) : (modDie f s).reg = s.reg := rfl
@[simp] theorem modDie_down (f : DieLink → DieLink) (s : State) : (modDie f s).down = s.down := rfl
@[simp] theorem modDie_mch (f : DieLink → DieLink) (s : State) : (modDie f s).mch = s.mch := rfl
@[simp] theorem modDie_trib (f : DieLink → DieLink) (s : State) : (modDie f s).trib = s.trib := rfl
@[simp] theorem modDie_cls (f : DieLink → DieLink) (s : State) : (modDie f s).cls = s.cls := rfl
@[simp] theorem modDie_q (f : DieLink → DieLink) (s : State) : (modDie f s).q = s.q := rfl
@[simp] theorem modDie_lanes (f : DieLink → DieLink) (s : State) : (modDie f s).lanes = s.lanes := rfl
@[simp] theorem modDie_refs (f : DieLink → DieLink) (s : State) : (modDie f s).refs = s.refs := rfl
@[simp] theorem modDie_die (f : DieLink → DieLink) (s : State) : (modDie f s).die = f s.die := rfl
@[simp] theorem modDie_ports (f : DieLink → DieLink) (s : State) : (modDie f s).ports = s.ports := rfl
@[simp] theorem modDie_snaps (f : DieLink → DieLink) (s : State) : (modDie f s).snaps = s.snaps := rfl
@[simp] theorem modDie_sec (f : DieLink → DieLink) (s : State) : (modDie f s).sec = s.sec := rfl
@[simp] theorem modDie_cmd (f : DieLink → DieLink) (s : State) : (modDie f s).cmd = s.cmd := rfl
@[simp] theorem modDie_groups (f : DieLink → DieLink) (s : State) : (modDie f s).groups = s.groups := rfl
@[simp] theorem modDie_eng (f : DieLink → DieLink) (s : State) : (modDie f s).eng = s.eng := rfl
@[simp] theorem modDie_evc (f : DieLink → DieLink) (s : State) : (modDie f s).evc = s.evc := rfl
@[simp] theorem modDie_pmc (f : DieLink → DieLink) (s : State) : (modDie f s).pmc = s.pmc := rfl
@[simp] theorem modDie_pwr (f : DieLink → DieLink) (s : State) : (modDie f s).pwr = s.pwr := rfl
@[simp] theorem modDie_out (f : DieLink → DieLink) (s : State) : (modDie f s).out = s.out := rfl
@[simp] theorem modDie_pending (f : DieLink → DieLink) (s : State) : (modDie f s).pending = s.pending := rfl

@[simp] theorem modPmc_fuses (f : Pmc → Pmc) (s : State) : (modPmc f s).fuses = s.fuses := rfl
@[simp] theorem modPmc_dev (f : Pmc → Pmc) (s : State) : (modPmc f s).dev = s.dev := rfl
@[simp] theorem modPmc_clk (f : Pmc → Pmc) (s : State) : (modPmc f s).clk = s.clk := rfl
@[simp] theorem modPmc_time (f : Pmc → Pmc) (s : State) : (modPmc f s).time = s.time := rfl
@[simp] theorem modPmc_tio (f : Pmc → Pmc) (s : State) : (modPmc f s).tio = s.tio := rfl
@[simp] theorem modPmc_carriers (f : Pmc → Pmc) (s : State) : (modPmc f s).carriers = s.carriers := rfl
@[simp] theorem modPmc_reg (f : Pmc → Pmc) (s : State) : (modPmc f s).reg = s.reg := rfl
@[simp] theorem modPmc_down (f : Pmc → Pmc) (s : State) : (modPmc f s).down = s.down := rfl
@[simp] theorem modPmc_mch (f : Pmc → Pmc) (s : State) : (modPmc f s).mch = s.mch := rfl
@[simp] theorem modPmc_trib (f : Pmc → Pmc) (s : State) : (modPmc f s).trib = s.trib := rfl
@[simp] theorem modPmc_cls (f : Pmc → Pmc) (s : State) : (modPmc f s).cls = s.cls := rfl
@[simp] theorem modPmc_q (f : Pmc → Pmc) (s : State) : (modPmc f s).q = s.q := rfl
@[simp] theorem modPmc_lanes (f : Pmc → Pmc) (s : State) : (modPmc f s).lanes = s.lanes := rfl
@[simp] theorem modPmc_refs (f : Pmc → Pmc) (s : State) : (modPmc f s).refs = s.refs := rfl
@[simp] theorem modPmc_die (f : Pmc → Pmc) (s : State) : (modPmc f s).die = s.die := rfl
@[simp] theorem modPmc_ports (f : Pmc → Pmc) (s : State) : (modPmc f s).ports = s.ports := rfl
@[simp] theorem modPmc_snaps (f : Pmc → Pmc) (s : State) : (modPmc f s).snaps = s.snaps := rfl
@[simp] theorem modPmc_sec (f : Pmc → Pmc) (s : State) : (modPmc f s).sec = s.sec := rfl
@[simp] theorem modPmc_cmd (f : Pmc → Pmc) (s : State) : (modPmc f s).cmd = s.cmd := rfl
@[simp] theorem modPmc_groups (f : Pmc → Pmc) (s : State) : (modPmc f s).groups = s.groups := rfl
@[simp] theorem modPmc_eng (f : Pmc → Pmc) (s : State) : (modPmc f s).eng = s.eng := rfl
@[simp] theorem modPmc_evc (f : Pmc → Pmc) (s : State) : (modPmc f s).evc = s.evc := rfl
@[simp] theorem modPmc_pmc (f : Pmc → Pmc) (s : State) : (modPmc f s).pmc = f s.pmc := rfl
@[simp] theorem modPmc_pwr (f : Pmc → Pmc) (s : State) : (modPmc f s).pwr = s.pwr := rfl
@[simp] theorem modPmc_out (f : Pmc → Pmc) (s : State) : (modPmc f s).out = s.out := rfl
@[simp] theorem modPmc_pending (f : Pmc → Pmc) (s : State) : (modPmc f s).pending = s.pending := rfl

@[simp] theorem modTrace_fuses (f : Tracing → Tracing) (s : State) : (modTrace f s).fuses = s.fuses := rfl
@[simp] theorem modTrace_dev (f : Tracing → Tracing) (s : State) : (modTrace f s).dev = s.dev := rfl
@[simp] theorem modTrace_clk (f : Tracing → Tracing) (s : State) : (modTrace f s).clk = s.clk := rfl
@[simp] theorem modTrace_time (f : Tracing → Tracing) (s : State) : (modTrace f s).time = s.time := rfl
@[simp] theorem modTrace_tio (f : Tracing → Tracing) (s : State) : (modTrace f s).tio = s.tio := rfl
@[simp] theorem modTrace_carriers (f : Tracing → Tracing) (s : State) : (modTrace f s).carriers = s.carriers := rfl
@[simp] theorem modTrace_reg (f : Tracing → Tracing) (s : State) : (modTrace f s).reg = s.reg := rfl
@[simp] theorem modTrace_down (f : Tracing → Tracing) (s : State) : (modTrace f s).down = s.down := rfl
@[simp] theorem modTrace_mch (f : Tracing → Tracing) (s : State) : (modTrace f s).mch = s.mch := rfl
@[simp] theorem modTrace_trib (f : Tracing → Tracing) (s : State) : (modTrace f s).trib = s.trib := rfl
@[simp] theorem modTrace_cls (f : Tracing → Tracing) (s : State) : (modTrace f s).cls = s.cls := rfl
@[simp] theorem modTrace_q (f : Tracing → Tracing) (s : State) : (modTrace f s).q = s.q := rfl
@[simp] theorem modTrace_lanes (f : Tracing → Tracing) (s : State) : (modTrace f s).lanes = s.lanes := rfl
@[simp] theorem modTrace_refs (f : Tracing → Tracing) (s : State) : (modTrace f s).refs = s.refs := rfl
@[simp] theorem modTrace_die (f : Tracing → Tracing) (s : State) : (modTrace f s).die = s.die := rfl
@[simp] theorem modTrace_ports (f : Tracing → Tracing) (s : State) : (modTrace f s).ports = s.ports := rfl
@[simp] theorem modTrace_snaps (f : Tracing → Tracing) (s : State) : (modTrace f s).snaps = s.snaps := rfl
@[simp] theorem modTrace_sec (f : Tracing → Tracing) (s : State) : (modTrace f s).sec = s.sec := rfl
@[simp] theorem modTrace_cmd (f : Tracing → Tracing) (s : State) : (modTrace f s).cmd = s.cmd := rfl
@[simp] theorem modTrace_groups (f : Tracing → Tracing) (s : State) : (modTrace f s).groups = s.groups := rfl
@[simp] theorem modTrace_eng (f : Tracing → Tracing) (s : State) : (modTrace f s).eng = s.eng := rfl
@[simp] theorem modTrace_evc (f : Tracing → Tracing) (s : State) : (modTrace f s).evc = s.evc := rfl
@[simp] theorem modTrace_pwr (f : Tracing → Tracing) (s : State) : (modTrace f s).pwr = s.pwr := rfl
@[simp] theorem modTrace_out (f : Tracing → Tracing) (s : State) : (modTrace f s).out = s.out := rfl
@[simp] theorem modTrace_pending (f : Tracing → Tracing) (s : State) : (modTrace f s).pending = s.pending := rfl

@[simp] theorem modPwr_fuses (f : Power → Power) (s : State) : (modPwr f s).fuses = s.fuses := rfl
@[simp] theorem modPwr_dev (f : Power → Power) (s : State) : (modPwr f s).dev = s.dev := rfl
@[simp] theorem modPwr_clk (f : Power → Power) (s : State) : (modPwr f s).clk = s.clk := rfl
@[simp] theorem modPwr_time (f : Power → Power) (s : State) : (modPwr f s).time = s.time := rfl
@[simp] theorem modPwr_tio (f : Power → Power) (s : State) : (modPwr f s).tio = s.tio := rfl
@[simp] theorem modPwr_carriers (f : Power → Power) (s : State) : (modPwr f s).carriers = s.carriers := rfl
@[simp] theorem modPwr_reg (f : Power → Power) (s : State) : (modPwr f s).reg = s.reg := rfl
@[simp] theorem modPwr_down (f : Power → Power) (s : State) : (modPwr f s).down = s.down := rfl
@[simp] theorem modPwr_mch (f : Power → Power) (s : State) : (modPwr f s).mch = s.mch := rfl
@[simp] theorem modPwr_trib (f : Power → Power) (s : State) : (modPwr f s).trib = s.trib := rfl
@[simp] theorem modPwr_cls (f : Power → Power) (s : State) : (modPwr f s).cls = s.cls := rfl
@[simp] theorem modPwr_q (f : Power → Power) (s : State) : (modPwr f s).q = s.q := rfl
@[simp] theorem modPwr_lanes (f : Power → Power) (s : State) : (modPwr f s).lanes = s.lanes := rfl
@[simp] theorem modPwr_refs (f : Power → Power) (s : State) : (modPwr f s).refs = s.refs := rfl
@[simp] theorem modPwr_die (f : Power → Power) (s : State) : (modPwr f s).die = s.die := rfl
@[simp] theorem modPwr_ports (f : Power → Power) (s : State) : (modPwr f s).ports = s.ports := rfl
@[simp] theorem modPwr_snaps (f : Power → Power) (s : State) : (modPwr f s).snaps = s.snaps := rfl
@[simp] theorem modPwr_sec (f : Power → Power) (s : State) : (modPwr f s).sec = s.sec := rfl
@[simp] theorem modPwr_cmd (f : Power → Power) (s : State) : (modPwr f s).cmd = s.cmd := rfl
@[simp] theorem modPwr_groups (f : Power → Power) (s : State) : (modPwr f s).groups = s.groups := rfl
@[simp] theorem modPwr_eng (f : Power → Power) (s : State) : (modPwr f s).eng = s.eng := rfl
@[simp] theorem modPwr_evc (f : Power → Power) (s : State) : (modPwr f s).evc = s.evc := rfl
@[simp] theorem modPwr_pmc (f : Power → Power) (s : State) : (modPwr f s).pmc = s.pmc := rfl
@[simp] theorem modPwr_pwr (f : Power → Power) (s : State) : (modPwr f s).pwr = f s.pwr := rfl
@[simp] theorem modPwr_out (f : Power → Power) (s : State) : (modPwr f s).out = s.out := rfl
@[simp] theorem modPwr_pending (f : Power → Power) (s : State) : (modPwr f s).pending = s.pending := rfl

@[simp] theorem modCmd_fuses (f : CmdChannel → CmdChannel) (s : State) : (modCmd f s).fuses = s.fuses := rfl
@[simp] theorem modCmd_dev (f : CmdChannel → CmdChannel) (s : State) : (modCmd f s).dev = s.dev := rfl
@[simp] theorem modCmd_clk (f : CmdChannel → CmdChannel) (s : State) : (modCmd f s).clk = s.clk := rfl
@[simp] theorem modCmd_time (f : CmdChannel → CmdChannel) (s : State) : (modCmd f s).time = s.time := rfl
@[simp] theorem modCmd_tio (f : CmdChannel → CmdChannel) (s : State) : (modCmd f s).tio = s.tio := rfl
@[simp] theorem modCmd_carriers (f : CmdChannel → CmdChannel) (s : State) : (modCmd f s).carriers = s.carriers := rfl
@[simp] theorem modCmd_reg (f : CmdChannel → CmdChannel) (s : State) : (modCmd f s).reg = s.reg := rfl
@[simp] theorem modCmd_down (f : CmdChannel → CmdChannel) (s : State) : (modCmd f s).down = s.down := rfl
@[simp] theorem modCmd_mch (f : CmdChannel → CmdChannel) (s : State) : (modCmd f s).mch = s.mch := rfl
@[simp] theorem modCmd_trib (f : CmdChannel → CmdChannel) (s : State) : (modCmd f s).trib = s.trib := rfl
@[simp] theorem modCmd_cls (f : CmdChannel → CmdChannel) (s : State) : (modCmd f s).cls = s.cls := rfl
@[simp] theorem modCmd_q (f : CmdChannel → CmdChannel) (s : State) : (modCmd f s).q = s.q := rfl
@[simp] theorem modCmd_lanes (f : CmdChannel → CmdChannel) (s : State) : (modCmd f s).lanes = s.lanes := rfl
@[simp] theorem modCmd_refs (f : CmdChannel → CmdChannel) (s : State) : (modCmd f s).refs = s.refs := rfl
@[simp] theorem modCmd_die (f : CmdChannel → CmdChannel) (s : State) : (modCmd f s).die = s.die := rfl
@[simp] theorem modCmd_ports (f : CmdChannel → CmdChannel) (s : State) : (modCmd f s).ports = s.ports := rfl
@[simp] theorem modCmd_snaps (f : CmdChannel → CmdChannel) (s : State) : (modCmd f s).snaps = s.snaps := rfl
@[simp] theorem modCmd_sec (f : CmdChannel → CmdChannel) (s : State) : (modCmd f s).sec = s.sec := rfl
@[simp] theorem modCmd_cmd (f : CmdChannel → CmdChannel) (s : State) : (modCmd f s).cmd = f s.cmd := rfl
@[simp] theorem modCmd_groups (f : CmdChannel → CmdChannel) (s : State) : (modCmd f s).groups = s.groups := rfl
@[simp] theorem modCmd_eng (f : CmdChannel → CmdChannel) (s : State) : (modCmd f s).eng = s.eng := rfl
@[simp] theorem modCmd_evc (f : CmdChannel → CmdChannel) (s : State) : (modCmd f s).evc = s.evc := rfl
@[simp] theorem modCmd_pmc (f : CmdChannel → CmdChannel) (s : State) : (modCmd f s).pmc = s.pmc := rfl
@[simp] theorem modCmd_pwr (f : CmdChannel → CmdChannel) (s : State) : (modCmd f s).pwr = s.pwr := rfl
@[simp] theorem modCmd_out (f : CmdChannel → CmdChannel) (s : State) : (modCmd f s).out = s.out := rfl
@[simp] theorem modCmd_pending (f : CmdChannel → CmdChannel) (s : State) : (modCmd f s).pending = s.pending := rfl

@[simp] theorem modSec_fuses (f : Security → Security) (s : State) : (modSec f s).fuses = s.fuses := rfl
@[simp] theorem modSec_dev (f : Security → Security) (s : State) : (modSec f s).dev = s.dev := rfl
@[simp] theorem modSec_clk (f : Security → Security) (s : State) : (modSec f s).clk = s.clk := rfl
@[simp] theorem modSec_time (f : Security → Security) (s : State) : (modSec f s).time = s.time := rfl
@[simp] theorem modSec_tio (f : Security → Security) (s : State) : (modSec f s).tio = s.tio := rfl
@[simp] theorem modSec_carriers (f : Security → Security) (s : State) : (modSec f s).carriers = s.carriers := rfl
@[simp] theorem modSec_reg (f : Security → Security) (s : State) : (modSec f s).reg = s.reg := rfl
@[simp] theorem modSec_down (f : Security → Security) (s : State) : (modSec f s).down = s.down := rfl
@[simp] theorem modSec_mch (f : Security → Security) (s : State) : (modSec f s).mch = s.mch := rfl
@[simp] theorem modSec_trib (f : Security → Security) (s : State) : (modSec f s).trib = s.trib := rfl
@[simp] theorem modSec_cls (f : Security → Security) (s : State) : (modSec f s).cls = s.cls := rfl
@[simp] theorem modSec_q (f : Security → Security) (s : State) : (modSec f s).q = s.q := rfl
@[simp] theorem modSec_lanes (f : Security → Security) (s : State) : (modSec f s).lanes = s.lanes := rfl
@[simp] theorem modSec_refs (f : Security → Security) (s : State) : (modSec f s).refs = s.refs := rfl
@[simp] theorem modSec_die (f : Security → Security) (s : State) : (modSec f s).die = s.die := rfl
@[simp] theorem modSec_ports (f : Security → Security) (s : State) : (modSec f s).ports = s.ports := rfl
@[simp] theorem modSec_snaps (f : Security → Security) (s : State) : (modSec f s).snaps = s.snaps := rfl
@[simp] theorem modSec_sec (f : Security → Security) (s : State) : (modSec f s).sec = f s.sec := rfl
@[simp] theorem modSec_cmd (f : Security → Security) (s : State) : (modSec f s).cmd = s.cmd := rfl
@[simp] theorem modSec_groups (f : Security → Security) (s : State) : (modSec f s).groups = s.groups := rfl
@[simp] theorem modSec_eng (f : Security → Security) (s : State) : (modSec f s).eng = s.eng := rfl
@[simp] theorem modSec_evc (f : Security → Security) (s : State) : (modSec f s).evc = s.evc := rfl
@[simp] theorem modSec_pmc (f : Security → Security) (s : State) : (modSec f s).pmc = s.pmc := rfl
@[simp] theorem modSec_pwr (f : Security → Security) (s : State) : (modSec f s).pwr = s.pwr := rfl
@[simp] theorem modSec_out (f : Security → Security) (s : State) : (modSec f s).out = s.out := rfl
@[simp] theorem modSec_pending (f : Security → Security) (s : State) : (modSec f s).pending = s.pending := rfl

@[simp] theorem modQ_fuses (f : Queues → Queues) (s : State) : (modQ f s).fuses = s.fuses := rfl
@[simp] theorem modQ_dev (f : Queues → Queues) (s : State) : (modQ f s).dev = s.dev := rfl
@[simp] theorem modQ_clk (f : Queues → Queues) (s : State) : (modQ f s).clk = s.clk := rfl
@[simp] theorem modQ_time (f : Queues → Queues) (s : State) : (modQ f s).time = s.time := rfl
@[simp] theorem modQ_tio (f : Queues → Queues) (s : State) : (modQ f s).tio = s.tio := rfl
@[simp] theorem modQ_carriers (f : Queues → Queues) (s : State) : (modQ f s).carriers = s.carriers := rfl
@[simp] theorem modQ_reg (f : Queues → Queues) (s : State) : (modQ f s).reg = s.reg := rfl
@[simp] theorem modQ_down (f : Queues → Queues) (s : State) : (modQ f s).down = s.down := rfl
@[simp] theorem modQ_mch (f : Queues → Queues) (s : State) : (modQ f s).mch = s.mch := rfl
@[simp] theorem modQ_trib (f : Queues → Queues) (s : State) : (modQ f s).trib = s.trib := rfl
@[simp] theorem modQ_cls (f : Queues → Queues) (s : State) : (modQ f s).cls = s.cls := rfl
@[simp] theorem modQ_q (f : Queues → Queues) (s : State) : (modQ f s).q = f s.q := rfl
@[simp] theorem modQ_lanes (f : Queues → Queues) (s : State) : (modQ f s).lanes = s.lanes := rfl
@[simp] theorem modQ_refs (f : Queues → Queues) (s : State) : (modQ f s).refs = s.refs := rfl
@[simp] theorem modQ_die (f : Queues → Queues) (s : State) : (modQ f s).die = s.die := rfl
@[simp] theorem modQ_ports (f : Queues → Queues) (s : State) : (modQ f s).ports = s.ports := rfl
@[simp] theorem modQ_snaps (f : Queues → Queues) (s : State) : (modQ f s).snaps = s.snaps := rfl
@[simp] theorem modQ_sec (f : Queues → Queues) (s : State) : (modQ f s).sec = s.sec := rfl
@[simp] theorem modQ_cmd (f : Queues → Queues) (s : State) : (modQ f s).cmd = s.cmd := rfl
@[simp] theorem modQ_groups (f : Queues → Queues) (s : State) : (modQ f s).groups = s.groups := rfl
@[simp] theorem modQ_eng (f : Queues → Queues) (s : State) : (modQ f s).eng = s.eng := rfl
@[simp] theorem modQ_evc (f : Queues → Queues) (s : State) : (modQ f s).evc = s.evc := rfl
@[simp] theorem modQ_pmc (f : Queues → Queues) (s : State) : (modQ f s).pmc = s.pmc := rfl
@[simp] theorem modQ_pwr (f : Queues → Queues) (s : State) : (modQ f s).pwr = s.pwr := rfl
@[simp] theorem modQ_out (f : Queues → Queues) (s : State) : (modQ f s).out = s.out := rfl
@[simp] theorem modQ_pending (f : Queues → Queues) (s : State) : (modQ f s).pending = s.pending := rfl

@[simp] theorem modCap_fuses (n : Nat) (f : Capture → Capture) (s : State) : (modCap n f s).fuses = s.fuses := rfl
@[simp] theorem modCap_dev (n : Nat) (f : Capture → Capture) (s : State) : (modCap n f s).dev = s.dev := rfl
@[simp] theorem modCap_clk (n : Nat) (f : Capture → Capture) (s : State) : (modCap n f s).clk = s.clk := rfl
@[simp] theorem modCap_time (n : Nat) (f : Capture → Capture) (s : State) : (modCap n f s).time = s.time := rfl
@[simp] theorem modCap_carriers (n : Nat) (f : Capture → Capture) (s : State) : (modCap n f s).carriers = s.carriers := rfl
@[simp] theorem modCap_reg (n : Nat) (f : Capture → Capture) (s : State) : (modCap n f s).reg = s.reg := rfl
@[simp] theorem modCap_down (n : Nat) (f : Capture → Capture) (s : State) : (modCap n f s).down = s.down := rfl
@[simp] theorem modCap_mch (n : Nat) (f : Capture → Capture) (s : State) : (modCap n f s).mch = s.mch := rfl
@[simp] theorem modCap_trib (n : Nat) (f : Capture → Capture) (s : State) : (modCap n f s).trib = s.trib := rfl
@[simp] theorem modCap_cls (n : Nat) (f : Capture → Capture) (s : State) : (modCap n f s).cls = s.cls := rfl
@[simp] theorem modCap_q (n : Nat) (f : Capture → Capture) (s : State) : (modCap n f s).q = s.q := rfl
@[simp] theorem modCap_lanes (n : Nat) (f : Capture → Capture) (s : State) : (modCap n f s).lanes = s.lanes := rfl
@[simp] theorem modCap_refs (n : Nat) (f : Capture → Capture) (s : State) : (modCap n f s).refs = s.refs := rfl
@[simp] theorem modCap_die (n : Nat) (f : Capture → Capture) (s : State) : (modCap n f s).die = s.die := rfl
@[simp] theorem modCap_ports (n : Nat) (f : Capture → Capture) (s : State) : (modCap n f s).ports = s.ports := rfl
@[simp] theorem modCap_snaps (n : Nat) (f : Capture → Capture) (s : State) : (modCap n f s).snaps = s.snaps := rfl
@[simp] theorem modCap_sec (n : Nat) (f : Capture → Capture) (s : State) : (modCap n f s).sec = s.sec := rfl
@[simp] theorem modCap_cmd (n : Nat) (f : Capture → Capture) (s : State) : (modCap n f s).cmd = s.cmd := rfl
@[simp] theorem modCap_groups (n : Nat) (f : Capture → Capture) (s : State) : (modCap n f s).groups = s.groups := rfl
@[simp] theorem modCap_eng (n : Nat) (f : Capture → Capture) (s : State) : (modCap n f s).eng = s.eng := rfl
@[simp] theorem modCap_evc (n : Nat) (f : Capture → Capture) (s : State) : (modCap n f s).evc = s.evc := rfl
@[simp] theorem modCap_pmc (n : Nat) (f : Capture → Capture) (s : State) : (modCap n f s).pmc = s.pmc := rfl
@[simp] theorem modCap_pwr (n : Nat) (f : Capture → Capture) (s : State) : (modCap n f s).pwr = s.pwr := rfl
@[simp] theorem modCap_out (n : Nat) (f : Capture → Capture) (s : State) : (modCap n f s).out = s.out := rfl
@[simp] theorem modCap_pending (n : Nat) (f : Capture → Capture) (s : State) : (modCap n f s).pending = s.pending := rfl

@[simp] theorem modTout_fuses (n : Nat) (f : Tout → Tout) (s : State) : (modTout n f s).fuses = s.fuses := rfl
@[simp] theorem modTout_dev (n : Nat) (f : Tout → Tout) (s : State) : (modTout n f s).dev = s.dev := rfl
@[simp] theorem modTout_clk (n : Nat) (f : Tout → Tout) (s : State) : (modTout n f s).clk = s.clk := rfl
@[simp] theorem modTout_time (n : Nat) (f : Tout → Tout) (s : State) : (modTout n f s).time = s.time := rfl
@[simp] theorem modTout_carriers (n : Nat) (f : Tout → Tout) (s : State) : (modTout n f s).carriers = s.carriers := rfl
@[simp] theorem modTout_reg (n : Nat) (f : Tout → Tout) (s : State) : (modTout n f s).reg = s.reg := rfl
@[simp] theorem modTout_down (n : Nat) (f : Tout → Tout) (s : State) : (modTout n f s).down = s.down := rfl
@[simp] theorem modTout_mch (n : Nat) (f : Tout → Tout) (s : State) : (modTout n f s).mch = s.mch := rfl
@[simp] theorem modTout_trib (n : Nat) (f : Tout → Tout) (s : State) : (modTout n f s).trib = s.trib := rfl
@[simp] theorem modTout_cls (n : Nat) (f : Tout → Tout) (s : State) : (modTout n f s).cls = s.cls := rfl
@[simp] theorem modTout_q (n : Nat) (f : Tout → Tout) (s : State) : (modTout n f s).q = s.q := rfl
@[simp] theorem modTout_lanes (n : Nat) (f : Tout → Tout) (s : State) : (modTout n f s).lanes = s.lanes := rfl
@[simp] theorem modTout_refs (n : Nat) (f : Tout → Tout) (s : State) : (modTout n f s).refs = s.refs := rfl
@[simp] theorem modTout_die (n : Nat) (f : Tout → Tout) (s : State) : (modTout n f s).die = s.die := rfl
@[simp] theorem modTout_ports (n : Nat) (f : Tout → Tout) (s : State) : (modTout n f s).ports = s.ports := rfl
@[simp] theorem modTout_snaps (n : Nat) (f : Tout → Tout) (s : State) : (modTout n f s).snaps = s.snaps := rfl
@[simp] theorem modTout_sec (n : Nat) (f : Tout → Tout) (s : State) : (modTout n f s).sec = s.sec := rfl
@[simp] theorem modTout_cmd (n : Nat) (f : Tout → Tout) (s : State) : (modTout n f s).cmd = s.cmd := rfl
@[simp] theorem modTout_groups (n : Nat) (f : Tout → Tout) (s : State) : (modTout n f s).groups = s.groups := rfl
@[simp] theorem modTout_eng (n : Nat) (f : Tout → Tout) (s : State) : (modTout n f s).eng = s.eng := rfl
@[simp] theorem modTout_evc (n : Nat) (f : Tout → Tout) (s : State) : (modTout n f s).evc = s.evc := rfl
@[simp] theorem modTout_pmc (n : Nat) (f : Tout → Tout) (s : State) : (modTout n f s).pmc = s.pmc := rfl
@[simp] theorem modTout_pwr (n : Nat) (f : Tout → Tout) (s : State) : (modTout n f s).pwr = s.pwr := rfl
@[simp] theorem modTout_out (n : Nat) (f : Tout → Tout) (s : State) : (modTout n f s).out = s.out := rfl
@[simp] theorem modTout_pending (n : Nat) (f : Tout → Tout) (s : State) : (modTout n f s).pending = s.pending := rfl

@[simp] theorem setFlag_fuses (i : Nat) (s : State) : (setFlag i s).fuses = s.fuses := rfl
@[simp] theorem setFlag_dev (i : Nat) (s : State) : (setFlag i s).dev = s.dev := rfl
@[simp] theorem setFlag_clk (i : Nat) (s : State) : (setFlag i s).clk = s.clk := rfl
@[simp] theorem setFlag_time (i : Nat) (s : State) : (setFlag i s).time = s.time := rfl
@[simp] theorem setFlag_carriers (i : Nat) (s : State) : (setFlag i s).carriers = s.carriers := rfl
@[simp] theorem setFlag_reg (i : Nat) (s : State) : (setFlag i s).reg = s.reg := rfl
@[simp] theorem setFlag_down (i : Nat) (s : State) : (setFlag i s).down = s.down := rfl
@[simp] theorem setFlag_mch (i : Nat) (s : State) : (setFlag i s).mch = s.mch := rfl
@[simp] theorem setFlag_trib (i : Nat) (s : State) : (setFlag i s).trib = s.trib := rfl
@[simp] theorem setFlag_cls (i : Nat) (s : State) : (setFlag i s).cls = s.cls := rfl
@[simp] theorem setFlag_q (i : Nat) (s : State) : (setFlag i s).q = s.q := rfl
@[simp] theorem setFlag_lanes (i : Nat) (s : State) : (setFlag i s).lanes = s.lanes := rfl
@[simp] theorem setFlag_refs (i : Nat) (s : State) : (setFlag i s).refs = s.refs := rfl
@[simp] theorem setFlag_die (i : Nat) (s : State) : (setFlag i s).die = s.die := rfl
@[simp] theorem setFlag_ports (i : Nat) (s : State) : (setFlag i s).ports = s.ports := rfl
@[simp] theorem setFlag_snaps (i : Nat) (s : State) : (setFlag i s).snaps = s.snaps := rfl
@[simp] theorem setFlag_sec (i : Nat) (s : State) : (setFlag i s).sec = s.sec := rfl
@[simp] theorem setFlag_cmd (i : Nat) (s : State) : (setFlag i s).cmd = s.cmd := rfl
@[simp] theorem setFlag_groups (i : Nat) (s : State) : (setFlag i s).groups = s.groups := rfl
@[simp] theorem setFlag_eng (i : Nat) (s : State) : (setFlag i s).eng = s.eng := rfl
@[simp] theorem setFlag_evc (i : Nat) (s : State) : (setFlag i s).evc = s.evc := rfl
@[simp] theorem setFlag_pmc (i : Nat) (s : State) : (setFlag i s).pmc = s.pmc := rfl
@[simp] theorem setFlag_pwr (i : Nat) (s : State) : (setFlag i s).pwr = s.pwr := rfl
@[simp] theorem setFlag_out (i : Nat) (s : State) : (setFlag i s).out = s.out := rfl
@[simp] theorem setFlag_pending (i : Nat) (s : State) : (setFlag i s).pending = s.pending := rfl

/-! A unit that was set, and the others. -/

@[simp] theorem setCarrier_self (k : Nat) (v : Carrier) (s : State) : (setCarrier k v s).carrier k = v := Tbl.get_set_self _ _ _ _
theorem setCarrier_ne (j k : Nat) (v : Carrier) (s : State) (h : j ≠ k) : (setCarrier k v s).carrier j = s.carrier j := Tbl.get_set_ne _ _ _ h
@[simp] theorem modCarrier_self (k : Nat) (f : Carrier → Carrier) (s : State) : (modCarrier k f s).carrier k = f (s.carrier k) := Tbl.get_set_self _ _ _ _
theorem modCarrier_ne (j k : Nat) (f : Carrier → Carrier) (s : State) (h : j ≠ k) : (modCarrier k f s).carrier j = s.carrier j := Tbl.get_set_ne _ _ _ h
@[simp] theorem setPort_self (k : Nat) (v : Port) (s : State) : (setPort k v s).port k = v := Tbl.get_set_self _ _ _ _
theorem setPort_ne (j k : Nat) (v : Port) (s : State) (h : j ≠ k) : (setPort k v s).port j = s.port j := Tbl.get_set_ne _ _ _ h
@[simp] theorem modPort_self (k : Nat) (f : Port → Port) (s : State) : (modPort k f s).port k = f (s.port k) := Tbl.get_set_self _ _ _ _
theorem modPort_ne (j k : Nat) (f : Port → Port) (s : State) (h : j ≠ k) : (modPort k f s).port j = s.port j := Tbl.get_set_ne _ _ _ h
@[simp] theorem setLane_self (k : Nat) (v : Lane) (s : State) : (setLane k v s).lane k = v := Tbl.get_set_self _ _ _ _
theorem setLane_ne (j k : Nat) (v : Lane) (s : State) (h : j ≠ k) : (setLane k v s).lane j = s.lane j := Tbl.get_set_ne _ _ _ h
@[simp] theorem modLane_self (k : Nat) (f : Lane → Lane) (s : State) : (modLane k f s).lane k = f (s.lane k) := Tbl.get_set_self _ _ _ _
theorem modLane_ne (j k : Nat) (f : Lane → Lane) (s : State) (h : j ≠ k) : (modLane k f s).lane j = s.lane j := Tbl.get_set_ne _ _ _ h
@[simp] theorem setAssoc_self (k : Nat) (v : Assoc) (s : State) : (setAssoc k v s).assoc k = v := Tbl.get_set_self _ _ _ _
theorem setAssoc_ne (j k : Nat) (v : Assoc) (s : State) (h : j ≠ k) : (setAssoc k v s).assoc j = s.assoc j := Tbl.get_set_ne _ _ _ h
@[simp] theorem modAssoc_self (k : Nat) (f : Assoc → Assoc) (s : State) : (modAssoc k f s).assoc k = f (s.assoc k) := Tbl.get_set_self _ _ _ _
theorem modAssoc_ne (j k : Nat) (f : Assoc → Assoc) (s : State) (h : j ≠ k) : (modAssoc k f s).assoc j = s.assoc j := Tbl.get_set_ne _ _ _ h
@[simp] theorem setChannel_self (k : Nat) (v : Mch) (s : State) : (setChannel k v s).channel k = v := Tbl.get_set_self _ _ _ _
theorem setChannel_ne (j k : Nat) (v : Mch) (s : State) (h : j ≠ k) : (setChannel k v s).channel j = s.channel j := Tbl.get_set_ne _ _ _ h
@[simp] theorem modChannel_self (k : Nat) (f : Mch → Mch) (s : State) : (modChannel k f s).channel k = f (s.channel k) := Tbl.get_set_self _ _ _ _
theorem modChannel_ne (j k : Nat) (f : Mch → Mch) (s : State) (h : j ≠ k) : (modChannel k f s).channel j = s.channel j := Tbl.get_set_ne _ _ _ h
@[simp] theorem setGrp_self (k : Nat) (v : Group) (s : State) : (setGrp k v s).grp k = v := Tbl.get_set_self _ _ _ _
theorem setGrp_ne (j k : Nat) (v : Group) (s : State) (h : j ≠ k) : (setGrp k v s).grp j = s.grp j := Tbl.get_set_ne _ _ _ h
@[simp] theorem modGrp_self (k : Nat) (f : Group → Group) (s : State) : (modGrp k f s).grp k = f (s.grp k) := Tbl.get_set_self _ _ _ _
theorem modGrp_ne (j k : Nat) (f : Group → Group) (s : State) (h : j ≠ k) : (modGrp k f s).grp j = s.grp j := Tbl.get_set_ne _ _ _ h
@[simp] theorem setQueue_self (k : Nat) (v : Option Queue) (s : State) : (setQueue k v s).queue k = v := Tbl.get_set_self _ _ _ _
theorem setQueue_ne (j k : Nat) (v : Option Queue) (s : State) (h : j ≠ k) : (setQueue k v s).queue j = s.queue j := Tbl.get_set_ne _ _ _ h
end Sys2Proof.Machine
end

