-- ==== Sys2Proof/Tests/Slice0.lean ====
section
/-! SUPPORT. Tests: ill-formed commands that WellFormed refuses, single steps with values from the manual, and one
witness for the hypotheses of each clause of the obligations. -/

namespace Sys2Proof.Tests

open Sys2Proof Sys2Proof.Machine

/-! ### Ill-formed commands: each check of WellFormed.lean refuses one -/

theorem test_wellFormed_refuses_header :
    (Instr.timeStatus { group := 256 }).wellFormed = false ∧ (Instr.traceRead { len := 4194305 } .trace 1).wellFormed = false ∧
    ∀ h, (Instr.deviceInfo h).wellFormed = h.wellFormed := ⟨rfl, rfl, fun _ => rfl⟩

theorem test_wellFormed_accepts :
    (Instr.timeStatus { group := 255, len := 4194304 }).wellFormed = true ∧ (Instr.registerWrite 0xFFFC 0).wellFormed = true ∧
    (Instr.reassemblyTimeout 3 4095 7).wellFormed = true := ⟨rfl, rfl, rfl⟩

theorem test_wellFormed_refuses_port :
    (∀ x1 x2, (Instr.inbandCommandFrame 32 x1 x2).wellFormed = false) ∧
    (∀ x1, (Instr.frameReceive 32 x1).wellFormed = false) ∧
    (Instr.pauseTimerExpiry 32 0).wellFormed = false ∧
    (Instr.pauseWatchdog 32 0).wellFormed = false ∧
    (Instr.pauseWatchdogRecovery 32 0).wellFormed = false ∧
    (∀ x1, (Instr.pauseRefresh 32 x1).wellFormed = false) ∧
    (Instr.egressFrameStart 32).wellFormed = false ∧
    (Instr.egressAge 32 0).wellFormed = false ∧
    (Instr.portUp 32).wellFormed = false ∧
    (∀ x1, (Instr.portDown 32 x1).wellFormed = false) ∧
    (Instr.lpiEntry 32).wellFormed = false ∧
    (Instr.lpiWake 32).wellFormed = false ∧
    (Instr.lldpTransmit 32).wellFormed = false ∧
    (Instr.portWake 32).wellFormed = false ∧
    (Instr.gateListStart 32).wellFormed = false ∧
    (Instr.gateEvent 32).wellFormed = false ∧
    (∀ x1, (Instr.partnerLpi 32 x1).wellFormed = false) ∧
    (∀ x1, (Instr.ptpMessageTransmit 32 x1).wellFormed = false) ∧
    (Instr.esmcTransmit 32).wellFormed = false :=
  ⟨fun _ _ => rfl, fun _ => rfl, rfl, rfl, rfl, fun _ => rfl, rfl, rfl, rfl, fun _ => rfl, rfl, rfl, rfl, rfl, rfl,
    rfl, fun _ => rfl, fun _ => rfl, rfl⟩

theorem test_wellFormed_refuses_offset :
    (∀ x1, (Instr.registerWrite 0x10000 x1).wellFormed = false) ∧
    (∀ x1, (Instr.registerWrite 2 x1).wellFormed = false) :=
  ⟨fun _ => rfl, fun _ => rfl⟩

theorem test_wellFormed_refuses_carrier_and_counter :
    (Instr.capLoRead 4).wellFormed = false ∧
    (Instr.capLostRead 4).wellFormed = false ∧
    (Instr.pmcCntLoRead 64).wellFormed = false ∧
    (∀ x1 x2, (Instr.pmcCntWrite 64 x1 x2).wellFormed = false) ∧
    (∀ x1 x2, (Instr.tcapEdge 4 x1 x2).wellFormed = false) ∧
    (∀ x1, (Instr.downstreamFrame 4 x1).wellFormed = false) ∧
    (∀ x1, (Instr.superframeVerified 4 x1).wellFormed = false) ∧
    (∀ x1, (Instr.rangeAssign 4 x1).wellFormed = false) ∧
    (∀ x1 x2, (Instr.regConfirm 4 x1 x2).wellFormed = false) ∧
    (∀ x1, (Instr.rangeUpdate 4 x1).wellFormed = false) ∧
    (∀ x1, (Instr.resume 4 x1).wellFormed = false) ∧
    (∀ x1, (Instr.deregister 4 x1).wellFormed = false) ∧
    (∀ x1 x2, (Instr.keyRoll 4 x1 x2).wellFormed = false) ∧
    (∀ x1, (Instr.msgTimeout 4 x1).wellFormed = false) ∧
    (Instr.burstDraw 4).wellFormed = false ∧
    (Instr.burstEmission 4).wellFormed = false ∧
    (Instr.tuneComplete 4).wellFormed = false ∧
    (Instr.tuneTimeout 4).wellFormed = false ∧
    (∀ x1 x2 x3 x4, (Instr.carrierLocked 4 x1 x2 x3 x4).wellFormed = false) ∧
    (Instr.acqTimeout 4).wellFormed = false ∧
    (∀ x1, (Instr.carrierLost 4 x1).wellFormed = false) ∧
    (Instr.lostTimeout 4).wellFormed = false ∧
    (∀ x1, (Instr.laserFineTune 4 x1).wellFormed = false) ∧
    (∀ x1 x2 x3, (Instr.feDuty 4 x1 x2 x3).wellFormed = false) ∧
    (∀ x1 x2, (Instr.spiTimeout 4 x1 x2).wellFormed = false) ∧
    (∀ x1 x2, (Instr.gateFault 4 x1 x2).wellFormed = false) ∧
    (∀ x1, (Instr.carrierSecond 4 x1).wellFormed = false) ∧
    (Instr.carrierDisableComplete 4).wellFormed = false ∧
    (Instr.pmcCounterWrap 64).wellFormed = false :=
  ⟨rfl, rfl, rfl, fun _ _ => rfl, fun _ _ => rfl, fun _ => rfl, fun _ => rfl, fun _ => rfl, fun _ _ => rfl, fun _ =>
    rfl, fun _ => rfl, fun _ => rfl, fun _ _ => rfl, fun _ => rfl, rfl, rfl, rfl, rfl, fun _ _ _ _ => rfl, rfl, fun _
    => rfl, rfl, fun _ => rfl, fun _ _ _ => rfl, fun _ _ => rfl, fun _ _ => rfl, fun _ => rfl, rfl, rfl⟩

theorem test_wellFormed_refuses_t :
    (Instr.evcClaim 4).wellFormed = false ∧
    (∀ x1, (Instr.evcComplete 4 x1).wellFormed = false) ∧
    (Instr.coalescingTimer 4).wellFormed = false :=
  ⟨rfl, fun _ => rfl, rfl⟩

theorem test_wellFormed_refuses_w :
    (∀ x1, (Instr.evcPendingWrite 8 x1).wellFormed = false) ∧
    (∀ x1, (Instr.evcMaskWrite 8 x1).wellFormed = false) :=
  ⟨fun _ => rfl, fun _ => rfl⟩

theorem test_wellFormed_refuses_ch :
    (∀ x1, (Instr.mchPortFrame 4 x1).wellFormed = false) ∧
    (Instr.mchUpstreamCell 4).wellFormed = false ∧
    (Instr.mchPortTransmit 4).wellFormed = false :=
  ⟨fun _ => rfl, rfl, rfl⟩

theorem test_wellFormed_refuses_trib :
    (Instr.fenceTimeout 64).wellFormed = false :=
  rfl

theorem test_wellFormed_refuses_q :
    (Instr.pauseTimerExpiry 0 8).wellFormed = false ∧
    (Instr.pauseWatchdog 0 8).wellFormed = false ∧
    (Instr.pauseWatchdogRecovery 0 8).wellFormed = false ∧
    (Instr.egressAge 0 8).wellFormed = false :=
  ⟨rfl, rfl, rfl, rfl⟩

theorem test_wellFormed_refuses_ctx :
    (∀ x1 x2 x3, (Instr.callReturn 1024 x1 x2 x3).wellFormed = false) ∧
    (Instr.waitAuth 1024).wellFormed = false ∧
    (Instr.programTimeException 1024).wellFormed = false :=
  ⟨fun _ _ _ => rfl, rfl, rfl⟩

theorem test_wellFormed_refuses_carrier :
    (Instr.reassemblyTimeout 4 0 0).wellFormed = false :=
  rfl

theorem test_wellFormed_refuses_assoc :
    (Instr.reassemblyTimeout 0 4096 0).wellFormed = false :=
  rfl

theorem test_wellFormed_refuses_cls :
    (Instr.reassemblyTimeout 0 0 8).wellFormed = false :=
  rfl

theorem test_wellFormed_refuses_idx :
    (Instr.helloRetry 4096).wellFormed = false ∧
    (Instr.confirmTimeout 4096).wellFormed = false ∧
    (Instr.peerTimeout 4096).wellFormed = false ∧
    (Instr.armExpired 4096).wellFormed = false ∧
    (Instr.oldKeyHold 4096).wellFormed = false :=
  ⟨rfl, rfl, rfl, rfl, rfl⟩

theorem test_wellFormed_refuses_lane :
    (Instr.laneLos 32).wellFormed = false ∧
    (Instr.laneLol 32).wellFormed = false ∧
    (∀ x1, (Instr.laneAlignLock 32 x1).wellFormed = false) ∧
    (∀ x1, (Instr.laneAlignLost 32 x1).wellFormed = false) ∧
    (∀ x1, (Instr.laneBerHigh 32 x1).wellFormed = false) ∧
    (∀ x1 x2 x3 x4, (Instr.lanePatternLock 32 x1 x2 x3 x4).wellFormed = false) ∧
    (∀ x1, (Instr.dieLaneSpared x1 24).wellFormed = false) ∧
    (∀ x1, (Instr.dieLaneLoss x1 24).wellFormed = false) ∧
    (Instr.laneSignalDetect 32).wellFormed = false ∧
    (Instr.laneCdrLock 32).wellFormed = false :=
  ⟨rfl, rfl, fun _ => rfl, fun _ => rfl, fun _ => rfl, fun _ _ _ _ => rfl, fun _ => rfl, fun _ => rfl, rfl, rfl⟩

theorem test_wellFormed_refuses_g :
    (Instr.commitReadinessCheck 256).wellFormed = false ∧
    (Instr.commitInstant 256).wellFormed = false ∧
    (Instr.groupLapsed 256).wellFormed = false ∧
    (Instr.groupFree 256).wellFormed = false :=
  ⟨rfl, rfl, rfl, rfl⟩

theorem test_wellFormed_refuses_slot :
    (Instr.barometerSample 4096).wellFormed = false :=
  rfl

theorem test_wellFormed_refuses_buffer :
    (Instr.snapshotDue 8).wellFormed = false :=
  rfl

theorem test_wellFormed_refuses_v :
    (Instr.msixVectorUnmask 4).wellFormed = false :=
  rfl

/-- A submission entry has 32 bytes, a packet's header 16 (Tables 11-1 and 11-4). -/
theorem test_wellFormed_refuses_bytes :
    (Instr.ringSubmissionFetch { bytes := List.replicate 31 0 } { header := List.replicate 16 0 } false).wellFormed = false ∧
    (Instr.ringSubmissionFetch { bytes := List.replicate 32 0 } { header := List.replicate 15 0 } false).wellFormed = false ∧
    (Instr.ringSubmissionFetch { bytes := List.replicate 32 0 } { header := List.replicate 16 0 } false).wellFormed = true ∧
    (Instr.writeCmd { header := List.replicate 17 0 }).wellFormed = false := ⟨rfl, rfl, rfl, rfl⟩

/-! ### Small states -/

/-- An owned terminal, awake and ready, with one challenge. -/
def up : State := { State.reset with
  fuses := { lifecycle := .owned, owner := some 5 }, dev := { bootStage := 8 }, cmd := { ready := true }
  pwr := { hostVote := 0xAAAAAAA }, sec := { challenges := [(7, 0)] } }

/-- A header without a token, and one with the owner's token for an opcode, for a device whose digest is 0 (Table 10-2). -/
def hd : Hdr := {}
def token (o : Nat) : Token := {
  head := beBytes 2 0x4F54 ++ [1, 0] ++ beBytes 16 7 ++ beBytes 2 o ++ zeros 66, ownerDigest := 5
  paramDigestOk := true, sigEcOk := true, sigMldsaOk := true }
def tok (o : Nat) : Hdr := { token := some (token o) }

/-- A packet of SEQ 5 whose header gives an opcode and a parameter length (Table 11-1). -/
def pkt (o len : Nat) (c : Cmd) : Packet :=
  { header := [0x50, 0x47, 1, 0] ++ beBytes 2 o ++ [0, 0, 0] ++ beBytes 4 len ++ [0, 0, 5], cmd := some c }

/-- A submission entry of a command of `len` bytes, with room for a reply of 64 (R251). -/
def sub (len : Nat) : SubEntry := { bytes := zeros 8 ++ [BitVec.ofNat 8 len, 0, 0, 0, 64, 0, 0, 0] ++ zeros 8 }

/-- The header of a program of `n` words with its check word (Table 12-6), and one that is legal. -/
def imgHead (n dat : Nat) : List Byte :=
  [0x51, 0x50, 1, 1] ++ beBytes 2 4095 ++ [0, 1, 0, 0, 0, 0] ++ beBytes 2 n ++ beBytes 2 dat ++ [3] ++ zeros 11
def img : ProgImage := { header := imgHead 1 0 ++ beBytes 4 (crc32 (imgHead 1 0 ++ zeros 4)).toNat, code := zeros 4 }

/-- A firmware image for every variant, of a version and a security version (Table 15-10). -/
def fw (v sv : Nat) : FwImage :=
  { header := [0x4B, 0x46, 1, BitVec.ofNat 8 sv] ++ beBytes 4 v ++ zeros 4 ++ [7] ++ zeros 3, digestOk := true, sigsOk := true }

/-- The states of the witnesses, each `up` with one part set. -/
def atTime (t : Instant) : State := { up with clk := { now := t } }
def withC (c : Carrier) : State := { up with carriers := [(3, c)], clk := { now := sec 100 } }
def withP (p : Port) : State := { up with ports := [(31, p)], clk := { now := sec 100 } }
def withT (t : TimeUnit) : State := { up with time := t, clk := { now := sec 100 } }

/-- The bytes that one frame takes in a FIFO. -/
theorem fifo_frame (n : Nat) : fifoBytes [{ id := 1, bytes := List.replicate n 0 }] = n + 4 := by
  simp [fifoBytes, frameLen]

/-- A port whose FIFO holds one frame of `n` bytes. -/
def fullPort (n : Nat) : State := withP { up := true, cfg := some { lanes := 1, rate := .g25 }, fifo := [{ id := 1, bytes := List.replicate n 0 }] }

/-- A frame of 64 bytes that the FIFO of such a port has no room for. -/
theorem full_fifo (n : Nat) (h : 262144 < n + 4 + 64) : ∃ (s : State) (c : PortParams) (f : RxFrame), (s.port 31).up = true ∧ f.fcsOk = true ∧ f.pcsErr = false ∧ 64 ≤ frameLen f.bytes ∧ (s.port 31).cfg = some c ∧ frameLen f.bytes ≤ c.maxFrame ∧ be f.bytes 12 2 ≠ 0x8808 ∧ innerType f.bytes ≠ 0x88B5 ∧ be f.bytes 12 2 ≠ 0x88F7 ∧ be f.bytes 12 2 ≠ 0x88CC ∧ (s.port 31).accepts (dstOf f.bytes) = true ∧ 262144 < fifoBytes (s.port 31).fifo + frameLen f.bytes := by
  refine ⟨fullPort n, { lanes := 1, rate := .g25 }, { bytes := List.replicate 60 0 }, rfl, rfl, rfl, by decide, rfl, by decide, by decide,
    by decide, by decide, by decide, rfl, ?_⟩
  show 262144 < fifoBytes [{ id := 1, bytes := List.replicate n 0 }] + 64
  rw [fifo_frame]; exact h

/-- The octets between the flags of a management frame. -/
def mchOct (l : List Byte) : List Byte := l ++ [(fcs16 l).setWidth 8, ((fcs16 l) >>> 8).setWidth 8]

/-- A message of the head: its items, tagged from 1, and two signatures (R107). -/
def bodyItems (l : List (List Byte)) : List Byte := ((l ++ [[], []]).zipIdx.map fun (x : List Byte × Nat) => itemBytes (x.2 + 1) x.1).flatten
def msg (t : Nat) (l : List (List Byte)) : Message := { type := t, body := bodyItems l, head := 9 }

/-- A terminal with head 9 in its list, whose carrier 3, on slot 0, has heard a message; T_EQ is 100,000 units. -/
def heard (t : Nat) (l : List (List Byte)) (r : Registration) (ranged : Bool) : State := { up with
  carriers := [(3, { slot := some 0, ranged := ranged, eqd := 50000, msgsDone := [msg t l] })], time := { tEq := 100000 }
  reg := { r with heads := [{ ident := 9 }], lastSf := some (0, 9), head := some 9, epoch := 4 } }

/-- A sealing queue whose head finds segmentation staging full. -/
theorem full_staging (n : Nat) (h : 8388608 < n + 33) :
    ∃ (s : State) (p : Pkt) (l : List Pkt), s.cls.sealQ = p :: l ∧ stagingRoom (p.bytes.length + 32) s = false := by
  refine ⟨{ up with
      cls := { sealQ := [{ id := 1, bytes := [0] }] }
      q := { staging := [(65535, .green, { bytes := List.replicate n 0, at_ := 0, trib := 0, dst := 0, peer := 0, assoc := 0, cls := 0 })] } },
    { id := 1, bytes := [0] }, [], rfl, ?_⟩
  simp [stagingRoom, stagedBytes, stagingSize]; omega


/-! ### Single steps and operations, expected values from the manual's worked examples and tables -/

/-- The state after a command, where there is one. -/
def after (s : State) (i : Instr) : Option State :=
  match exec i s with
  | .next t => some t
  | _ => none

/-- Brennock, Table 4-5: EqD 79,920,654 gives DS_DELAY 42,150,794 units of 0.25 ns. -/
theorem test_rangeFrom_brennock :
    (rangeFrom 1 { State.reset with
      time := { tEq := 164000000, headDelay := 10858, asym := 117521 }
      carriers := [(1, { profile := .p1200, rxDelay := 24, txDelay := 18, eqd := 79920654 })] }).time.dDown =
    some (42150794 * 16384) := by decide

/-- Harrowend: A = 23,504 gives DS_DELAY 23,627,556. D_int is 12,800 units, 1,900 of them the P-1600 paths. -/
theorem test_timeAsymmetrySet_harrowend :
    (after { up with time := { rtt := 47220904, headDelay := 10900, dDown := some 0, rangedFrom := some 0 } }
      (.timeAsymmetrySet hd 23504 false)).map (·.time.dDown) = some (some (23627556 * 16384)) := by decide

/-- R34's example: with the defaults and E0 = 2 ns, E(t) reaches 1,000 ns after about 1,960 s. -/
theorem test_holdover_example :
    holdoverScaled 2 50 100 (1961 * 10 ^ 9) / (172800 * 10 ^ 20) ≥ 1000 ∧
    holdoverScaled 2 50 100 (1950 * 10 ^ 9) / (172800 * 10 ^ 20) < 1000 := by decide

/-- Table 3-7: a burst of 400 codewords at P-1200 with RAMP 60 ns has a window of 8,871.36 ns. -/
theorem test_windowLen_cawdleFen : windowLen .p1200 60 400 = (887136 * 65536 + 99) / 100 := by decide

/-- Table 7-3, blind, 2 µs: 250 and 3,500 bytes before, so yellow. -/
theorem test_police_blind :
    (police 40117 { len := 1500 } { State.reset with
      time := { rx := us 2 * 65536 }
      q := { policers := [(40117, some {
        p := { mode := .trtcm, cir := 1000000, cbs := 3000, xir := 2000000, xbs := 6000 }
        tc := 125 * 65536, tx := 3250 * 65536, at_ := us 1 })] } }).1 = .yellow := by decide

/-- Table 7-3, aware, 2 µs: the yellow packet left C alone, so packet 3 finds 1,750 bytes and is green. -/
theorem test_police_aware :
    let x : Policer := {
      p := { mode := .trtcm, aware := true, cir := 1000000, cbs := 3000, xir := 2000000, xbs := 6000 }
      tc := 1625 * 65536, tx := 4750 * 65536, at_ := us 1 }
    let y := (x.meter (us 1) 1500 .yellow).2
    (x.meter (us 1) 1500 .yellow).1 = .yellow ∧ y.tc = 1625 * 65536 ∧ (y.meter (us 2) 1500 .green).1 = .green ∧
    (y.credit (us 2)).tc = 1750 * 65536 := by decide

/-- Table 7-4: accepted at s + 2,740 µs a list starts at s + 2,750 µs, late; 1 µs later, at s + 3,000 µs. -/
theorem test_gateStart_caddow :
    gateStart { base := sec 5, cycle := 250000, entries := [(0x80, 50000), (0x7F, 200000)] } (sec 5 + ns 2740000) =
      (sec 5 + ns 2750000, true) ∧
    (gateStart { base := sec 5, cycle := 250000, entries := [(0x80, 50000), (0x7F, 200000)] } (sec 5 + ns 2741000)).1 =
      sec 5 + ns 3000000 := by decide

/-- Table 8-4: 19 good lanes give width 16. -/
theorem test_dieWidth_selwick : dieWidth 19 = 16 ∧ dieWidth 20 = 20 ∧ dieWidth 7 = 4 := by decide

/-- Merrowgate: 250,000,000 ns is a frame boundary, so the effective instant is I itself. -/
theorem test_effective_merrowgate :
    (sec 9 + ns 250000000) % frameTime = 0 ∧ effective (sec 9 + ns 250000000) = sec 9 + ns 250000000 := by decide

/-- R43: an edge 101 ns after a second is a mismatch at the threshold of reset, 100 ns; one 100 ns before is not. -/
theorem test_ppsInEdge_threshold :
    (after { up with time := { rx := (ns 101) * 65536 } } (.ppsInEdge 0)).map (·.tio.ppsOffset) = some 404 ∧
    (after { up with time := { rx := (sec 1 - ns 100) * 65536 } } (.ppsInEdge 0)).map (·.tio.ppsOffset) =
      some (BitVec.ofInt 32 (-400)) := by decide

/-- Table 11-3: a tail outside the ring sets CFG_ERR; the last index does not. -/
theorem test_cmdSqTailWrite_bounds :
    (after up (.cmdSqTailWrite 15)).map (fun t => (t.cmd.sqTail, t.cmd.cfgErr)) = some (15, false) ∧
    (after up (.cmdSqTailWrite 16)).map (fun t => (t.cmd.sqTail, t.cmd.cfgErr)) = some (0, true) := by decide

/-- R250: EN from 0 to 1 sets the index registers to 0. -/
theorem test_cmdCtrlEnWrite_clears :
    (after { up with cmd := { ready := true, sqTail := 3, sqHead := 2, rqHead := 1, rqTail := 5 } }
      (.cmdCtrlEnWrite 1)).map (fun t => (t.cmd.en, t.cmd.sqTail, t.cmd.sqHead, t.cmd.rqHead, t.cmd.rqTail)) =
    some (true, 0, 0, 0, 0) := by decide

/-- The fetch index wraps at the ring's size. -/
theorem test_ringSubmissionFetch_wraps :
    (after { up with cmd := { ready := true, en := true, sqHead := 15, sqTail := 0 } }
      (.ringSubmissionFetch (sub 16) (pkt 0x0101 0 .deviceInfo) false)).map (·.cmd.sqHead) =
    some 0 := by decide

/-- R293: of two eligible sources the one of higher priority is claimed, and its pending bit falls. -/
theorem test_evcClaim_priority :
    (after { up with evc := { pend := 3 <<< 0x60, mask := 0, cfg := [(0x60, { prio := 4 }), (0x61, { prio := 9 })] } }
      (.evcClaim 0)).map (fun t => ((t.evc.target 0).stack, t.evc.pend)) = some ([(0x61, 9)], (1 : BitVec 256) <<< 0x60) := by decide

/-- R295: a completion of another source than the top one changes no stack and sets COMPLETE_INVALID. -/
theorem test_evcComplete_other :
    (after { up with evc := { targets := [(2, { stack := [(0x61, 9), (0x60, 4)] })] } } (.evcComplete 2 0x60)).map
      (fun t => ((t.evc.target 2).stack, (t.evc.target 2).bad)) = some ([(0x61, 9), (0x60, 4)], true) := by decide

/-- R307: counters are 48 bits wide: all ones, one more event, and the counter reads 0 with its overflow bit set. -/
theorem test_pmcCounterWrap_48 :
    (after { up with pmc := { evsel := [(62, 0x80000000)], cnt := [(62, 2 ^ 48 - 1)] } } (.pmcCounterWrap 62)).map
      (fun t => (t.pmc.count 62, t.pmc.ovf)) = some (0, (1 : BitVec 64) <<< 62) := by decide

/-- R310: a write of the high half leaves the low half. -/
theorem test_pmcCntWrite_high :
    (after { up with pmc := { cnt := [(5, 0x1234)] } } (.pmcCntWrite 5 true 0xFFFF0001)).map (·.pmc.count 5) =
    some 0x000100001234 := by decide

/-- R48: the mirror's latch takes the whole time at the read of its low word. -/
theorem test_tptTimeNowLoRead_latch :
    (after { up with time := { rx := (sec 7 + ns 5) * 65536 } } .tptTimeNowLoRead).map (fun t => lineTime t) =
    some (sec 7 + ns 5) := by decide

/-- R163 and R162: at the start of Table 7-4's entry 1 queues 0 to 6 are open. -/
theorem test_gatesOf_caddow :
    let g : GateList := { base := sec 5, cycle := 250000, entries := [(0x80, 50000), (0x7F, 200000)] }
    gatesOf g (sec 5 + ns 2750000) = 0x80 ∧ gatesOf g (sec 5 + ns 2800000) = 0x7F := by decide

/-- R7: most significant byte first. -/
theorem test_be_order : be [1, 2, 3, 4] 1 2 = 0x0203 ∧ beBytes 3 0x010203 = [1, 2, 3] := by decide

/-- R216: a second owner is refused and the fused digest stays. -/
theorem test_secOwnerEnrol_owned :
    (after up (.secOwnerEnrol hd 7 99 true true)).map (·.fuses.owner) = some (some 5) := by decide

/-- R216: in UNOWNED both signatures must verify. -/
theorem test_secOwnerEnrol_signatures :
    (after { up with fuses := { lifecycle := .unowned } } (.secOwnerEnrol hd 7 99 true false)).map (·.fuses.lifecycle) =
      some .unowned ∧
    (after { up with fuses := { lifecycle := .unowned } } (.secOwnerEnrol hd 7 99 true true)).map
      (fun t => (t.fuses.lifecycle, t.fuses.owner)) = some (.owned, some 99) := by decide

/-- R117: a swap at an instant off a frame boundary fails; on one it is held. -/
theorem test_tribPageSwap_misaligned :
    (after { up with time := { servo := .track, dDown := some 0 } } (.tribPageSwap hd (frameTime + 1) (some 50))).map
      (·.trib.swap.isSome) = some false ∧
    (after { up with time := { servo := .track, dDown := some 0 } } (.tribPageSwap hd frameTime none)).map
      (·.trib.swap.isSome) = some true := by decide

/-- R259: an opened group has the lowest free number and the transport that opened it. -/
theorem test_commitOpen_first :
    (after { up with groups := [(1, { state := .done })] } (.commitOpen hd 60)).map
      (fun t => ((t.grp 1).state, (t.grp 2).state, (t.grp 2).timeout)) = some (.done, .open_, 60) := by decide

/-- R338: of two valid images the higher version boots, whichever slot it is in. -/
theorem test_chooseImage_version :
    (chooseImage { State.reset with dev := { slots := [some (fw 4 3), some (fw 5 3)] } }).map (·.1) = some 1 ∧
    (chooseImage { State.reset with dev := { slots := [some (fw 5 3), some (fw 4 3)] } }).map (·.1) = some 0 := by decide

/-- R338: an image below the fused minimum is not valid. -/
theorem test_chooseImage_minimum :
    chooseImage { State.reset with
      fuses := { minSec := 4 }
      dev := { slots := [some (fw 9 3), none] } } = none := by decide

/-- The fuses outlive a power-on reset. -/
theorem test_porstAssert_fuses :
    (after { up with reg := { state := .operating } } .porstAssert).map (fun t => (t.fuses.owner, t.reg.state)) =
    some (some 5, .off) := by decide

/-- R300: EVC_INTEG_CORR counts what was corrected, and R303's log names it. -/
theorem test_scrub_corrected :
    (after up (.scrub { kind := 1, unit := 3 })).map (fun t => (t.evc.corrected, t.evc.log.map (·.kind))) = some (1, [1]) := by decide

/-- R196: a frame for a port that is DOWN is not queued. -/
theorem test_hostFrame_portDown :
    ((egressAdmit 4 0 { pkt := { id := 1, bytes := List.replicate 60 0 }, at_ := 0 }
      { State.reset with ports := [(4, { up := false })] }).port 4 |>.queues) = [] := by decide

/-- Offsets beyond BAR0 and unaligned ones fault; a reserved aligned one changes nothing. -/
theorem test_registerWrite_stops :
    (match exec (.registerWrite 0x10000 1) up with | .fault (.outsideBar 0x10000) => true | _ => false) = true ∧
    (match exec (.registerWrite 0x2002 1) up with | .fault (.unalignedRegister 0x2002) => true | _ => false) = true ∧
    after up (.registerWrite 0x7FFC 1) = some up := by decide

/-- An absent carrier of a smaller variant takes no command. -/
theorem test_carrierEnable_absent :
    (after { up with fuses := { variant := .krt9610, lifecycle := .owned, owner := some 5 } } (.carrierEnable hd 3)).map
      (fun t => (t.carrier 3).state) = some .off := by decide

/-- The step takes the front command and leaves the rest. -/
theorem test_step_front :
    (match step { up with pending := [.evcDiscard 0, .readReply] } with | .next t => t.pending | _ => []) =
    [.readReply] := by decide

/-- Table 5-1: the alignment word is the first 256 bits of PRBS-9; R103: two bits off match, three do not. -/
theorem test_faw : ((List.range 256).map fun i => fawWord.getLsbD i) = prbs9 256 ∧
    fawMatch (fawWord ^^^ 3) = true ∧ fawMatch (fawWord ^^^ 7) = false := by decide +kernel

/-- The check values of CRC-32 (IEEE 802.3) and of FCS-16 (ISO/IEC 13239) over "123456789". -/
theorem test_checkValues :
    crc32 [0x31, 0x32, 0x33, 0x34, 0x35, 0x36, 0x37, 0x38, 0x39] = 0xCBF43926 ∧
    fcs16 [0x31, 0x32, 0x33, 0x34, 0x35, 0x36, 0x37, 0x38, 0x39] = 0x906E := by decide +kernel

/-- R115: a frame of ones is stuffed, and what it was comes back from between the flags. -/
theorem test_hdlc : (hdlcBits [0xFF]).length = 8 + 24 + 2 + 8 ∧
    (hdlcOctets (stuff (octetBits (mchOct [0xFF, 0x7E])) 0)).bind hdlcContent = some [0xFF, 0x7E] := by decide +kernel

/-- R67: one unit above 105 % of the ceiling for 100 ns inhibits the carrier; at 105 % nothing happens. -/
theorem test_gateFault_ceiling :
    (after (withC { ceil := 100, gate := { off := 200 } }) (.gateFault 3 106 100)).map (fun t => (t.carrier 3).gateInhibit) =
      some (some .ceiling) ∧
    (after (withC { ceil := 100, gate := { off := 200 } }) (.gateFault 3 105 100)).map (fun t => (t.carrier 3).gateInhibit) =
      some none := by decide

/-- R177: more than 180 ns between the lanes of a port is a loss with the cause SKEW, 180 ns is not. -/
theorem test_laneAlignLost_skew :
    (({ align := true } : Lane).loses .g53 true (.skew 180001)).map (fun l => (l.align, l.skew)) = some (false, true) ∧
    ({ align := true } : Lane).loses .g53 true (.skew 180000) = none := by decide

/-- R4: a port that the variant has not cannot be watched. -/
theorem test_barometerWatch_absent :
    (after { up with fuses := { variant := .krt9610, lifecycle := .owned, owner := some 5 } }
      (.barometerWatch hd 0 (some { queue := 255, period := 1, depthBase := 1, sojBase := 1 }))).map
      (fun t => Tbl.get none t.q.watch 0) = some none := by decide

/-! ### Witnesses: the hypotheses of every clause are met -/

/-- Hypotheses of each clause of Obligations.StepKeepsFusesOk are met. -/
theorem witness_StepKeepsFusesOk :
    ∃ (s : State) (t : State), fusesOk s ∧ step s = Host.Outcome.next t :=
  ⟨up, idle up, by decide, rfl⟩

/-- Hypotheses of each clause of Obligations.FusesOnlyForward are met. -/
theorem witness_FusesOnlyForward :
    ∃ (s : State) (t : State), fusesOk s ∧ step s = Host.Outcome.next t :=
  ⟨up, idle up, by decide, rfl⟩

/-- Hypotheses of each clause of Obligations.QueueAndLocalTime are met. -/
theorem witness_QueueAndLocalTime :
    (∃ (s : State) (t : State), step s = Host.Outcome.next t) ∧
    (∃ (c : Instr) (s : State) (t : State), c ≠ Instr.porstAssert ∧ exec c s = Host.Outcome.next t) ∧
    (∃ (s : State), s.pending = []) := ⟨
    ⟨up, idle up, rfl⟩,
    ⟨.readReply, up, up, nofun, rfl⟩,
    ⟨up, by decide⟩⟩

/-- Hypotheses of each clause of Obligations.StepsStopOnlyOnBadOffsets are met. -/
theorem witness_StepsStopOnlyOnBadOffsets :
    ∃ (s : State) (f : Fault), step s = Host.Outcome.fault f :=
  ⟨{ up with pending := [.registerWrite 0x10000 0] }, .outsideBar 0x10000, rfl⟩

/-- Hypotheses of each clause of Obligations.TimePort are met. -/
theorem witness_TimePort :
    (∃ (h : Hdr) (s : State) (input : Nat) (enable : Bool) (falling : Bool), runsNow h (Cmd.timeCaptureConfig input
      enable falling) s ∧ input < 4) ∧
    (∃ (h : Hdr) (s : State) (n : Nat) (en : Bool) (low : Bool) (mode : Nat) (period : Nat) (width : Nat) (phase :
      Nat) (comp : BitVec 16), runsNow h (Cmd.timeOutputSet
      { out := TimeOut.tout n, enable := en, activeLow := low, mode := mode, period := period, width := width, phase := phase, comp := comp })
      s ∧ n < 4 ∧ mode < 4 ∧ period < 4294967296 ∧ width < 4294967296 ∧ phase < 4294967296) ∧
    (∃ (h : Hdr) (s : State) (en : Bool) (low : Bool) (mode : Nat) (period : Nat) (width : Nat) (phase : Nat) (comp :
      BitVec 16) (thr : Nat), runsNow h (Cmd.timeOutputSet
      { out := TimeOut.pps, enable := en, activeLow := low, mode := mode, period := period, width := width, phase := phase, comp := comp, threshold := some thr })
      s ∧ 100 ≤ width ∧ width ≤ 500000000) ∧
    (∃ (h : Hdr) (s : State) (en : Bool) (low : Bool) (mode : Nat) (period : Nat) (width : Nat) (phase : Nat) (comp :
      BitVec 16), runsNow h (Cmd.timeOutputSet
      { out := TimeOut.freq, enable := en, activeLow := low, mode := mode, period := period, width := width, phase := phase, comp := comp })
      s) ∧
    (∃ (h : Hdr) (s : State) (port : Nat) (enable : Bool) (domain : Nat) (alt : Bool) (two : Bool), runsNow h
      (Cmd.timePtpSet port enable domain alt two) s ∧ port < 32 ∧ s.hasPort port = true ∧ 24 ≤ domain ∧ domain ≤ 43) ∧
    (∃ (h : Hdr) (s : State) (port : Nat) (enable : Bool) (qt : Nat) (qh : Nat), runsNow h (Cmd.timeSynceSet port
      enable qt qh) s ∧ port < 32 ∧ s.hasPort port = true ∧ qt < 16 ∧ qh < 16) ∧
    (∃ (s : State), s.pwr.asleep = false) ∧
    (∃ (s : State) (a : BitVec 6), s.pwr.asleep = false ∧ (a.toNat < 4 ∨ 4 < a.toNat ∧ a.toNat < 11 ∨ 43 ≤ a.toNat)) := ⟨
    ⟨hd, up, 3, true, true, by decide⟩,
    ⟨hd, up, 3, true, true, 3, 4294967295, 4294967295, 4294967295, 0, by decide⟩,
    ⟨hd, up, true, false, 0, 0, 500000000, 0, 0, 0, by decide⟩,
    ⟨hd, up, true, false, 0, 0, 0, 0, 0, by decide⟩,
    ⟨hd, up, 31, true, 43, true, true, by decide⟩,
    ⟨hd, up, 31, true, 15, 15, by decide⟩,
    ⟨up, by decide⟩,
    ⟨up, 0x2B, by decide⟩⟩

/-- Hypotheses of each clause of Obligations.LineTimeSettings are met. -/
theorem witness_LineTimeSettings :
    (∃ (h : Hdr) (s : State) (alpha : Nat), runsNow h (Cmd.timeSplitSet alpha) s ∧ 16384 ≤ alpha ∧ alpha ≤ 49152) ∧
    (∃ (h : Hdr) (s : State) (alpha : Nat), runsNow h (Cmd.timeSplitSet alpha) s ∧ (alpha < 16384 ∨ 49152 < alpha)) ∧
    (∃ (h : Hdr) (s : State) (a : Int), runsNow h (Cmd.timeAsymmetrySet a false) s ∧ -2 ^ 31 ≤ a ∧ a < 2 ^ 31) ∧
    (∃ (h : Hdr) (s : State) (a : Int), runsNow h (Cmd.timeAsymmetrySet a true) s) ∧
    (∃ (h : Hdr) (s : State) (y : Nat) (d : Nat) (limit : Nat) (sq : Bool), runsNow h (Cmd.timeHoldoverSet y d limit
      sq) s) ∧
    (∃ (h : Hdr) (s : State) (n : Nat), runsNow h (Cmd.timeCarrierSet (some n)) s ∧ n < 4 ∧ s.hasCarrier n = true) ∧
    (∃ (h : Hdr) (s : State), runsNow h (Cmd.timeCarrierSet none) s) := ⟨
    ⟨hd, up, 0xC000, by decide⟩,
    ⟨hd, up, 0xC001, by decide⟩,
    ⟨hd, up, 0xC000, by decide⟩,
    ⟨hd, up, 0xC000, by decide⟩,
    ⟨hd, up, 0, 0, 0, true, by decide⟩,
    ⟨hd, up, 0, by decide⟩,
    ⟨hd, up, by decide⟩⟩

/-- Hypotheses of each clause of Obligations.CaptureInputs are met. -/
theorem witness_CaptureInputs :
    (∃ (s : State) (n : Nat) (sub : Instant), s.pwr.asleep = false ∧ n < 4 ∧ sub < 4 ∧ (Tbl.get { } s.tio.cap n).en =
      true ∧ (∀ (e : Instant), (Tbl.get { } s.tio.cap n).lastEdge = some e → e + ns 16 ≤ s.clk.now + sub * quarter) ∧
      (Tbl.get { } s.tio.cap n).fifo.length < 16) ∧
    (∃ (s : State) (n : Nat) (sub : Instant) (e : Instant), s.pwr.asleep = false ∧ n < 4 ∧ sub < 4 ∧ (Tbl.get { }
      s.tio.cap n).en = true ∧ (Tbl.get { } s.tio.cap n).lastEdge = some e ∧ s.clk.now + sub * quarter < e + ns 16) ∧
    (∃ (s : State) (n : Nat) (sub : Instant), s.pwr.asleep = false ∧ n < 4 ∧ sub < 4 ∧ (Tbl.get { } s.tio.cap n).en =
      true ∧ (∀ (e : Instant), (Tbl.get { } s.tio.cap n).lastEdge = some e → e + ns 16 ≤ s.clk.now + sub * quarter) ∧
      16 ≤ (Tbl.get { } s.tio.cap n).fifo.length) ∧
    (∃ (s : State) (n : Nat) (e : CapEntry) (l : List CapEntry), s.pwr.asleep = false ∧ n < 4 ∧ (Tbl.get { }
      s.tio.cap n).fifo = e :: l) ∧
    (∃ (s : State) (n : Nat), s.pwr.asleep = false ∧ n < 4 ∧ (Tbl.get { } s.tio.cap n).fifo = []) ∧
    (∃ (s : State) (n : Nat), s.pwr.asleep = false ∧ n < 4) ∧
    (∃ (s : State) (n : Nat) (h : Hdr) (max : Nat), s.pwr.asleep = false ∧ n < 4 ∧ runsNow h (Cmd.timeCapture n max)
      s ∧ 1 ≤ max ∧ max ≤ 16) := ⟨
    ⟨{ up with tio := { cap := [(3, { en := true, fifo := List.replicate 15 {} })] } }, 3, 3, by decide, by decide,
      by decide, by decide, (fun e h => nomatch h), by decide⟩,
    ⟨{ up with tio := { cap := [(3, { en := true, lastEdge := some 0 })] } }, 3, 3, 0, by decide⟩,
    ⟨{ up with tio := { cap := [(3, { en := true, fifo := List.replicate 16 {} })] } }, 3, 3, by decide, by decide,
      by decide, by decide, (fun e h => nomatch h), by decide⟩,
    ⟨{ up with tio := { cap := [(3, { fifo := [{}] })] } }, 3, {}, [], by decide⟩,
    ⟨up, 3, by decide⟩,
    ⟨up, 3, by decide⟩,
    ⟨up, 3, hd, 16, by decide⟩⟩

/-- Hypotheses of each clause of Obligations.TimeNowLatch are met. -/
theorem witness_TimeNowLatch :
    (∃ (s : State), s.pwr.asleep = false) ∧
    (∃ (s : State) (edge : Nat) (e : Nat), s.pwr.asleep = false ∧ s.tio.latchEdge = some e ∧ e < edge ∧ edge ≤ e + 4) ∧
    (∃ (s : State) (edge : Nat), s.pwr.asleep = false ∧ (∀ (e : Nat), s.tio.latchEdge = some e → edge ≤ e ∨ e + 4 <
      edge)) := ⟨
    ⟨up, by decide⟩,
    ⟨{ up with tio := { latchEdge := some 1 } }, 5, 1, by decide⟩,
    ⟨{ up with tio := { latchEdge := some 0 } }, 5, by decide, (fun e h => by cases h; decide)⟩⟩

/-- Hypotheses of each clause of Obligations.PpsInput are met. -/
theorem witness_PpsInput :
    (∃ (s : State) (sub : Nat) (off : Int), s.pwr.asleep = false ∧ ((lineTime s + sub * quarter) % sec 1 ≤ sec 1 / 2
      → off = ↑((lineTime s + sub * quarter) % sec 1) / 16384) ∧ (sec 1 / 2 < (lineTime s + sub * quarter) % sec 1 →
      off = (↑((lineTime s + sub * quarter) % sec 1) - ↑(sec 1)) / 16384) ∧ off.natAbs ≤ 4 * s.tio.ppsThreshold) ∧
    (∃ (s : State) (sub : Nat) (off : Int), s.pwr.asleep = false ∧ ((lineTime s + sub * quarter) % sec 1 ≤ sec 1 / 2
      → off = ↑((lineTime s + sub * quarter) % sec 1) / 16384) ∧ (sec 1 / 2 < (lineTime s + sub * quarter) % sec 1 →
      off = (↑((lineTime s + sub * quarter) % sec 1) - ↑(sec 1)) / 16384) ∧ 4 * s.tio.ppsThreshold < off.natAbs) := ⟨
    ⟨up, 0, 0, by decide⟩,
    ⟨{ up with time := { rx := (ns 101) * 65536 } }, 0, 404, by decide⟩⟩

/-- Hypotheses of each clause of Obligations.LineTimeEvents are met. -/
theorem witness_LineTimeEvents :
    (∃ (s : State) (t0 : Instant), (s.time.servo = Servo.acquireFree ∨ s.time.servo = Servo.acquireHoldover) ∧
      s.time.phaseOk = some t0 ∧ t0 + sec 10 ≤ s.clk.now ∧ stampsLive s = true) ∧
    (∃ (s : State) (t0 : Instant), s.time.stampAt = some t0 ∧ t0 + ms 50 < s.clk.now ∧ (s.time.servo = Servo.track ∨
      s.time.servo = Servo.acquireHoldover)) ∧
    (∃ (s : State), s.time.holdover.isSome = true ∧ s.time.beyond = false ∧ holdoverBeyond s = true) ∧
    (∃ (s : State) (o : TimeOut) (e : Instant) (active : Bool) (tr : Train), nextEdge o s = some (e, active) ∧
      trainOf o s = some tr ∧ e ≤ lineTime s) ∧
    (∃ (s : State) (o : TimeOut), (nextEdge o s = none ∨ ∃ e active, nextEdge o s = some (e, active) ∧ lineTime s <
      e)) ∧
    (∃ (s : State) (port : Nat) (p : Ptp) (start : Instant), p = Tbl.get { } s.tio.ptp port ∧ start = (s.port
      port).nextStart s.clk.now ∧ p.en = true ∧ (s.port port).up = true ∧ s.pwr.asleep = false ∧ ptpDue p.annAt 8 s =
      true) ∧
    (∃ (s : State) (port : Nat) (p : Ptp) (start : Instant), p = Tbl.get { } s.tio.ptp port ∧ start = (s.port
      port).nextStart s.clk.now ∧ p.en = true ∧ (s.port port).up = true ∧ s.pwr.asleep = false ∧ ptpDue p.syncAt 16 s
      = true ∧ p.twoStep = false) ∧
    (∃ (s : State) (port : Nat) (p : Ptp) (start : Instant), p = Tbl.get { } s.tio.ptp port ∧ start = (s.port
      port).nextStart s.clk.now ∧ p.en = true ∧ (s.port port).up = true ∧ s.pwr.asleep = false ∧ ptpDue p.syncAt 16 s
      = true ∧ p.twoStep = true) ∧
    (∃ (s : State) (port : Nat) (p : Ptp) (start : Instant), p = Tbl.get { } s.tio.ptp port ∧ start = (s.port
      port).nextStart s.clk.now ∧ p.en = true ∧ (s.port port).up = true ∧ s.pwr.asleep = false ∧ ptpDue p.annAt 8 s =
      false) ∧
    (∃ (s : State) (port : Nat) (p : Ptp) (start : Instant), p = Tbl.get { } s.tio.ptp port ∧ start = (s.port
      port).nextStart s.clk.now ∧ p.en = true ∧ (s.port port).up = true ∧ s.pwr.asleep = false ∧ ptpDue p.syncAt 16 s
      = false) ∧
    (∃ (s : State) (port : Nat), (Tbl.get { } s.tio.synce port).en = true ∧ (s.port port).up = true ∧ s.pwr.asleep =
      false) := ⟨
    ⟨withT { servo := .acquireFree, phaseOk := some (sec 90), stampAt := some (sec 100 - ms 50) }, sec 90, by decide⟩,
    ⟨withT { servo := .track, stampAt := some 0 }, 0, by decide⟩,
    ⟨withT { holdover := some (0, 0), limit := 0 }, by decide⟩,
    ⟨{ up with time := { servo := .track, dDown := some 0, rx := ns 50 * 65536 } }, .freq, ns 50, false,
      { period := ns 100, lead := 0, width := ns 50, low := false }, by decide⟩,
    ⟨{ up with time := { servo := .track, dDown := some 0, rx := (ns 50 - 1) * 65536 } }, .freq, by right; exact ⟨ns
      50, false, by decide⟩⟩,
    ⟨{ withP { up := true } with tio := { ptp := [(31, { en := true, syncAt := none, annAt := some (sec 100 - sec 1 / 8), twoStep := false })] } },
      31, { en := true, syncAt := none, annAt := some (sec 100 - sec 1 / 8), twoStep := false }, sec 100, by decide⟩,
    ⟨{ withP { up := true } with tio := { ptp := [(31, { en := true, syncAt := some (sec 100 - sec 1 / 16), annAt := none, twoStep := false })] } },
      31, { en := true, syncAt := some (sec 100 - sec 1 / 16), annAt := none, twoStep := false }, sec 100, by decide⟩,
    ⟨{ withP { up := true } with tio := { ptp := [(31, { en := true, syncAt := some (sec 100 - sec 1 / 16), annAt := none, twoStep := true })] } },
      31, { en := true, syncAt := some (sec 100 - sec 1 / 16), annAt := none, twoStep := true }, sec 100, by decide⟩,
    ⟨{ withP { up := true } with tio := { ptp := [(31, { en := true, syncAt := none, annAt := some (sec 100 - sec 1 / 8 + 1), twoStep := false })] } },
      31, { en := true, syncAt := none, annAt := some (sec 100 - sec 1 / 8 + 1), twoStep := false }, sec 100, by
      decide⟩,
    ⟨{ withP { up := true } with tio := { ptp := [(31, { en := true, syncAt := some (sec 100 - sec 1 / 16 + 1), annAt := none, twoStep := false })] } },
      31, { en := true, syncAt := some (sec 100 - sec 1 / 16 + 1), annAt := none, twoStep := false }, sec 100, by
      decide⟩,
    ⟨{ withP { up := true } with tio := { synce := [(31, { en := true })] } }, 31, by decide⟩⟩

/-- Hypotheses of each clause of Obligations.CarrierCommands are met. -/
theorem witness_CarrierCommands :
    (∃ (h : Hdr) (s : State) (n : Nat) (p : CarrierParams), runsNow h (Cmd.carrierConfig n p) s ∧ n < 4 ∧
      s.hasCarrier n = true ∧ carrierParamsOk p = true ∧ slotTaken n p.slot s = false ∧ ((s.carrier n).moves p =
      false ∨ (s.carrier n).state = CarrierState.off)) ∧
    (∃ (h : Hdr) (s : State) (n : Nat) (p : CarrierParams), runsNow h (Cmd.carrierConfig n p) s ∧ n < 4 ∧
      s.hasCarrier n = true ∧ carrierParamsOk p = true ∧ slotTaken n p.slot s = true) ∧
    (∃ (h : Hdr) (s : State) (n : Nat) (p : CarrierParams), runsNow h (Cmd.carrierConfig n p) s ∧ n < 4 ∧
      s.hasCarrier n = true ∧ carrierParamsOk p = true ∧ slotTaken n p.slot s = false ∧ (s.carrier n).moves p = true
      ∧ (s.carrier n).state ≠ CarrierState.off) ∧
    (∃ (h : Hdr) (s : State) (n : Nat), n < 4 ∧ s.hasCarrier n = true ∧ runsNow h (Cmd.carrierEnable n) s ∧
      (s.carrier n).gateInhibit = none ∧ (s.carrier n).state = CarrierState.off ∧ (s.carrier n).slot.isSome = true) ∧
    (∃ (h : Hdr) (s : State) (n : Nat), n < 4 ∧ s.hasCarrier n = true ∧ runsNow h (Cmd.carrierEnable n) s ∧
      (s.carrier n).slot = none) ∧
    (∃ (h : Hdr) (s : State) (n : Nat) (why : FaultCause), n < 4 ∧ s.hasCarrier n = true ∧ runsNow h
      (Cmd.carrierEnable n) s ∧ (s.carrier n).slot.isSome = true ∧ (s.carrier n).gateInhibit = some why) ∧
    (∃ (h : Hdr) (s : State) (n : Nat), n < 4 ∧ s.hasCarrier n = true ∧ runsNow h (Cmd.carrierDisable n) s ∧
      (s.carrier n).state ≠ CarrierState.off) ∧
    (∃ (h : Hdr) (s : State) (n : Nat) (p : GateParams), n < 4 ∧ s.hasCarrier n = true ∧ runsNow h
      (Cmd.carrierGateSet n p) s ∧ gateParamsOk p (s.carrier n).ceil = true) ∧
    (∃ (h : Hdr) (s : State) (n : Nat) (p : GateParams), n < 4 ∧ s.hasCarrier n = true ∧ runsNow h
      (Cmd.carrierGateSet n p) s ∧ gateParamsOk p (s.carrier n).ceil = false) ∧
    (∃ (h : Hdr) (s : State) (n : Nat) (ceil : Nat), n < 4 ∧ s.hasCarrier n = true ∧ runsNow h
      (Cmd.carrierGateCeiling n ceil) s ∧ ceil ≤ 4000 ∧ (s.carrier n).state = CarrierState.off) ∧
    (∃ (h : Hdr) (s : State) (n : Nat) (script : FeScript), n < 4 ∧ s.hasCarrier n = true ∧ runsNow h
      (Cmd.carrierFeLoad n script) s ∧ (∃ d ∈ script.duties, ∃ x ∈ d.2, 3 ≤ x.cs ∨ x.bits < 8 ∨ 32 < x.bits)) ∧
    (∃ (h : Hdr) (s : State) (n : Nat) (script : FeScript), n < 4 ∧ s.hasCarrier n = true ∧ runsNow h
      (Cmd.carrierFeLoad n script) s ∧ (∀ d ∈ script.duties, ∀ x ∈ d.2, x.cs < 3 ∧ 8 ≤ x.bits ∧ x.bits ≤ 32)) ∧
    (∃ (h : Hdr) (s : State) (n : Nat) (x : FeTransfer), n < 4 ∧ s.hasCarrier n = true ∧ runsNow h
      (Cmd.carrierFeAccess n x) s ∧ x.cs < 3 ∧ 8 ≤ x.bits ∧ x.bits ≤ 32 ∧ (s.carrier n).state = CarrierState.off ∧
      FeScript.allows (s.carrier n).script x = true) ∧
    (∃ (h : Hdr) (s : State) (n : Nat), n < 4 ∧ s.hasCarrier n = true ∧ runsNow h (Cmd.carrierHintClear n) s) := ⟨
    ⟨hd, up, 3, { slot := 7, rxDelay := 400, tuneTime := 600, degrade := 200000 }, by decide⟩,
    ⟨hd, { up with carriers := [(0, { slot := some 7 })] }, 3, { slot := 7 }, by decide⟩,
    ⟨hd, withC { slot := some 6, state := .locked }, 3, { slot := 7 }, by decide⟩,
    ⟨hd, withC { slot := some 6 }, 3, by decide⟩,
    ⟨hd, up, 3, by decide⟩,
    ⟨hd, withC { slot := some 6, gateInhibit := some .window }, 3, .window, by decide⟩,
    ⟨hd, withC { state := .locked }, 3, by decide⟩,
    ⟨hd, withC { ceil := 4000 }, 3, { on := 4000, off := 200, ramp := 200, skew := 80 }, by decide⟩,
    ⟨hd, up, 3, { on := 1 }, by decide⟩,
    ⟨tok 0x0306, up, 3, 4000, by decide⟩,
    ⟨hd, up, 3, { duties := [(0, [{ cs := 2, dev := 0, reg := 0, bits := 33 }])] }, by decide⟩,
    ⟨hd, up, 3, {}, by decide⟩,
    ⟨hd, withC { script := { allow := [{ cs := 2, dev := 1, regLo := 0, regHi := 9 }] } }, 3,
      { cs := 2, dev := 1, reg := 9, bits := 32 }, by decide⟩,
    ⟨hd, withC { slot := some 6 }, 3, by decide⟩⟩

/-- Hypotheses of each clause of Obligations.CarrierEvents are met. -/
theorem witness_CarrierEvents :
    (∃ (s : State) (n : Nat), (s.carrier n).state = CarrierState.tune) ∧
    (∃ (s : State) (n : Nat), (s.carrier n).state = CarrierState.tune ∧ (s.carrier n).since + sec (s.carrier
      n).tuneRun ≤ s.clk.now) ∧
    (∃ (s : State) (n : Nat) (pow : Nat) (d : Int), ((s.carrier n).state = CarrierState.acquire ∨ (s.carrier n).state
      = CarrierState.lost) ∧ (s.carrier n).disabling = false ∧ (s.carrier n).threshold < pow ∧ -90000 ≤ d ∧ d ≤ 90000
      ∧ (s.carrier n).aligned = true) ∧
    (∃ (s : State) (n : Nat) (pow : Nat) (d : Int), (pow ≤ (s.carrier n).threshold ∨ (s.carrier n).aligned = false ∨
      d < -90000 ∨ 90000 < d)) ∧
    (∃ (s : State) (n : Nat), (s.carrier n).state = CarrierState.acquire) ∧
    (∃ (s : State) (n : Nat) (pow : Nat), (s.carrier n).threshold ≤ pow) ∧
    (∃ (s : State) (n : Nat) (pow : Nat), ((s.carrier n).state = CarrierState.locked ∨ (s.carrier n).state =
      CarrierState.mismatch) ∧ pow < (s.carrier n).threshold) ∧
    (∃ (s : State) (n : Nat), (s.carrier n).state = CarrierState.lost ∧ (s.carrier n).since + ms 50 ≤ s.clk.now) ∧
    (∃ (s : State) (n : Nat), received s < (s.carrier n).winEnd) ∧
    (∃ (s : State) (n : Nat), (s.carrier n).disabling = true ∧ (s.carrier n).winEnd ≤ received s) ∧
    (∃ (s : State) (n : Nat), ((s.carrier n).state = CarrierState.locked ∨ (s.carrier n).state = CarrierState.lost)) ∧
    (∃ (s : State) (n : Nat), (s.carrier n).state ≠ CarrierState.off) ∧
    (∃ (s : State) (n : Nat) (x : FeTransfer), s.hasCarrier n = true ∧ FeScript.allows (s.carrier n).script x = true) ∧
    (∃ (s : State) (n : Nat) (x : FeTransfer), FeScript.allows (s.carrier n).script x = false) ∧
    (∃ (s : State) (n : Nat) (sensed : Nat) (held : Nat) (cause : FaultCause), s.hasCarrier n = true ∧ gateAlarm n
      sensed held s = some cause) ∧
    (∃ (s : State) (n : Nat) (sensed : Nat) (held : Nat), gateAlarm n sensed held s = none) ∧
    (∃ (s : State) (n : Nat) (sensed : Nat) (held : Nat), (s.carrier n).ceil * 105 < sensed * 100 ∧ 100 ≤ held) ∧
    (∃ (s : State) (n : Nat) (sensed : Nat) (held : Nat), sensed ≤ (s.carrier n).gate.off ∧ held < 100) ∧
    (∃ (s : State) (n : Nat), (s.carrier n).state = CarrierState.locked ∧ (s.carrier n).second ≠ secondOf s ∧
      (s.carrier n).whole = true) ∧
    (∃ (s : State) (n : Nat), (s.carrier n).state = CarrierState.locked ∧ (s.carrier n).second ≠ secondOf s ∧
      (s.carrier n).whole = false) ∧
    (∃ (s : State) (n : Nat), (s.carrier n).second = secondOf s) := ⟨
    ⟨withC { state := .tune }, 3, by decide⟩,
    ⟨withC { state := .tune }, 3, by decide⟩,
    ⟨withC { state := .lost, threshold := 5, aligned := true }, 3, 6, -90000, by decide⟩,
    ⟨withC { aligned := true }, 3, 1, -90001, by decide⟩,
    ⟨withC { state := .acquire }, 3, by decide⟩,
    ⟨withC { threshold := 5 }, 3, 5, by decide⟩,
    ⟨withC { state := .mismatch, threshold := 5 }, 3, 4, by decide⟩,
    ⟨withC { state := .lost }, 3, by decide⟩,
    ⟨withC { winEnd := 1 }, 3, by decide⟩,
    ⟨withC { disabling := true }, 3, by decide⟩,
    ⟨withC { state := .lost }, 3, by decide⟩,
    ⟨withC { state := .tune }, 3, by decide⟩,
    ⟨withC { script := { allow := [{ cs := 2, dev := 1, regLo := 0, regHi := 9 }] } }, 3,
      { cs := 2, dev := 1, reg := 9 }, by decide⟩,
    ⟨withC { script := { allow := [{ cs := 2, dev := 1, regLo := 0, regHi := 9 }] } }, 3,
      { cs := 2, dev := 1, reg := 10 }, by decide⟩,
    ⟨withC { ceil := 100 }, 3, 106, 100, .ceiling, by decide⟩,
    ⟨withC { ceil := 100, gate := { off := 105 } }, 3, 105, 100, by decide⟩,
    ⟨withC { ceil := 100 }, 3, 106, 100, by decide⟩,
    ⟨withC { gate := { off := 105 } }, 3, 105, 99, by decide⟩,
    ⟨withC { state := .locked, whole := true }, 3, by decide⟩,
    ⟨withC { state := .locked, since := sec 99 }, 3, by decide⟩,
    ⟨up, 3, by decide⟩⟩

/-- Hypotheses of each clause of Obligations.RegistrationCommands are met. -/
theorem witness_RegistrationCommands :
    (∃ (h : Hdr) (s : State), runsNow h Cmd.regEnable s ∧ s.reg.heads ≠ [] ∧ s.reg.state = RegState.off) ∧
    (∃ (h : Hdr) (s : State), runsNow h Cmd.regEnable s ∧ s.reg.heads ≠ [] ∧ s.reg.state ≠ RegState.off) ∧
    (∃ (h : Hdr) (s : State), runsNow h Cmd.regEnable s ∧ s.reg.heads = []) ∧
    (∃ (h : Hdr) (s : State), runsNow h Cmd.regDisable s ∧ s.reg.state ≠ RegState.off) ∧
    (∃ (h : Hdr) (s : State) (c : Option Nat) (tResume : Nat), runsNow h (Cmd.regConfig c tResume) s ∧ 100 ≤ tResume
      ∧ tResume ≤ 60000 ∧ (∀ (n : Nat), c = some n → n < 4 ∧ s.hasCarrier n = true)) ∧
    (∃ (h : Hdr) (s : State) (c : Option Nat) (tResume : Nat), runsNow h (Cmd.regConfig c tResume) s ∧ (tResume < 100
      ∨ 60000 < tResume)) ∧
    (∃ (h : Hdr) (s : State) (heads : List Head), runsNow h (Cmd.regHeadlistSet heads) s ∧ heads.length ≤ 8) ∧
    (∃ (h : Hdr) (s : State), runsNow h Cmd.regEpochReset s ∧ s.reg.state = RegState.off) ∧
    (∃ (h : Hdr) (s : State), runsNow h Cmd.regEpochReset s ∧ s.reg.state ≠ RegState.off) ∧
    (∃ (h : Hdr) (s : State) (n : Nat) (a : Nat) (b : Nat), runsNow h (Cmd.forecastConfig n a b) s ∧ n < 4 ∧
      s.hasCarrier n = true ∧ 1 ≤ a ∧ a ≤ 255 ∧ 1 ≤ b ∧ b ≤ 255) := ⟨
    ⟨hd, { up with reg := { heads := [{ ident := 9 }] }, clk := { now := sec 100 } }, by decide⟩,
    ⟨hd, { up with reg := { heads := [{ ident := 9 }], state := .listen }, clk := { now := sec 100 } }, by decide⟩,
    ⟨hd, up, by decide⟩,
    ⟨hd, { up with reg := { heads := [{ ident := 9 }], state := .listen }, clk := { now := sec 100 } }, by decide⟩,
    ⟨hd, up, some 3, 60000, by decide, by decide, by decide, (fun n e => by cases e; decide)⟩,
    ⟨hd, up, none, 60001, by decide⟩,
    ⟨tok 0x0405, up, List.replicate 8 { ident := 9 }, by decide⟩,
    ⟨tok 0x0406, up, by decide⟩,
    ⟨tok 0x0406, { up with reg := { state := .listen }, clk := { now := sec 100 } }, by decide⟩,
    ⟨hd, up, 3, 255, 1, by decide⟩⟩

/-- Hypotheses of each clause of Obligations.RegistrationStates are met. -/
theorem witness_RegistrationStates :
    (∃ (s : State), s.reg.state = RegState.off) ∧
    (∃ (s : State), s.reg.state ≠ RegState.off ∧ s.reg.epochRose = true) ∧
    (∃ (s : State), s.reg.state ≠ RegState.off ∧ s.reg.state ≠ RegState.fenced ∧ s.reg.epochRose = false ∧
      onlyRefused s = true) ∧
    (∃ (s : State), s.reg.epochRose = false ∧ onlyRefused s = false ∧ s.reg.state = RegState.listen ∧ listenOk s =
      true) ∧
    (∃ (s : State) (a : Nat × Instant), s.reg.epochRose = false ∧ onlyRefused s = false ∧ s.reg.state =
      RegState.discover ∧ s.reg.assigned = some a) ∧
    (∃ (s : State) (x : Instant) (t0 : Nat × Instant), s.reg.epochRose = false ∧ onlyRefused s = false ∧ s.reg.state
      = RegState.ranging ∧ s.reg.confirmed = some x ∧ boundaryPassed s = true ∧ s.reg.assigned = some t0) ∧
    (∃ (s : State), s.reg.epochRose = false ∧ onlyRefused s = false ∧ s.reg.state = RegState.operating ∧
      (s.reg.servoFell = true ∨ ∀ (t0 : Instant), s.reg.tagAt = some t0 → t0 + ms 50 < s.clk.now)) ∧
    (∃ (s : State), s.reg.epochRose = false ∧ onlyRefused s = false ∧ (s.reg.state = RegState.holdover ∨ s.reg.state
      = RegState.fenced) ∧ s.reg.session = true ∧ s.reg.resumed = true) ∧
    (∃ (s : State), s.reg.epochRose = false ∧ onlyRefused s = false ∧ (s.reg.state = RegState.holdover ∨ s.reg.state
      = RegState.fenced) ∧ s.reg.session = true ∧ s.reg.resumed = false ∧ (resumeOver s = true ∨ s.reg.deregister =
      true)) ∧
    (∃ (s : State), s.reg.state = RegState.ranging ∧ rangingOver s = true) ∧
    (∃ (s : State), (s.reg.state = RegState.holdover ∨ s.reg.state = RegState.fenced) ∧ s.reg.session = true ∧
      resumeOver s = true ∧ s.reg.resumed = false) ∧
    (∃ (s : State) (n : Nat) (w : Instant) (spread : Nat), s.reg.window = some (n, w, spread) ∧ regCarrier s = some n
      ∧ s.reg.state = RegState.discover ∧ received s ≤ w ∧ (∀ (x : Instant), w ≤ x → (s.carrier n).mayEmit x = true)) ∧
    (∃ (s : State), s.reg.window = none) ∧
    (∃ (s : State) (n : Nat) (w : Instant) (spread : Nat), s.reg.window = some (n, w, spread) ∧ (regCarrier s ≠ some
      n ∨ s.reg.state ≠ RegState.discover)) ∧
    (∃ (s : State) (x : BitVec 64) (t0 : Instant), s.reg.gust = some (x, t0) ∧ t0 + ms 100 ≤ s.clk.now) ∧
    (∃ (s : State) (x : BitVec 64) (t0 : Instant), s.reg.gust = some (x, t0) ∧ s.clk.now < t0 + ms 100) := ⟨
    ⟨up, by decide⟩,
    ⟨{ up with reg := { state := .operating, epochRose := true }, clk := { now := sec 100 } }, by decide⟩,
    ⟨{ up with reg := { state := .listen, refusedSince := some 0, refusedAt := some (sec 100) }, clk := { now := sec 100 } },
      by decide⟩,
    ⟨{ withC { state := .locked } with reg := { state := .listen, acceptAt := some (sec 100) }, time := { servo := .track } },
      by decide⟩,
    ⟨{ up with reg := { state := .discover, assigned := some (63, 0) }, clk := { now := sec 100 } }, (63, 0), by
      decide⟩,
    ⟨{ up with reg := { state := .ranging, confirmed := some 0, assigned := some (63, 0) }, time := { rx := superTime * 65536 } },
      0, (63, 0), by decide⟩,
    ⟨{ up with reg := { state := .operating }, clk := { now := sec 100 } }, by decide, by decide, by decide, .inr
      (fun t e => nomatch e)⟩,
    ⟨{ up with reg := { state := .fenced, session := true, resumed := true }, clk := { now := sec 100 } }, by decide⟩,
    ⟨{ up with reg := { state := .holdover, session := true, deregister := true }, clk := { now := sec 100 } }, by
      decide⟩,
    ⟨{ up with reg := { state := .ranging, assigned := some (63, sec 98) }, clk := { now := sec 100 } }, by decide⟩,
    ⟨{ up with reg := { state := .holdover, session := true, resumeFrom := some (sec 99) }, clk := { now := sec 100 } },
      by decide⟩,
    ⟨{ withC { state := .locked } with reg := { state := .discover, window := some (3, 1, 0) } }, 3, 1, 0, by decide,
      by decide, by decide, by decide, fun _ _ => rfl⟩,
    ⟨up, by decide⟩,
    ⟨{ withC { state := .locked } with reg := { state := .listen, window := some (3, 1, 0) } }, 3, 1, 0, by decide⟩,
    ⟨{ up with reg := { gust := some (1, 0) }, clk := { now := sec 100 } }, 1, 0, by decide⟩,
    ⟨{ up with reg := { gust := some (1, sec 100) }, clk := { now := sec 100 } }, 1, sec 100, by decide⟩⟩

/-- Hypotheses of each clause of Obligations.SuperframeVerdicts are met. -/
theorem witness_SuperframeVerdicts :
    (∃ (s : State) (n : Nat) (a : SfAcc), (s.carrier n).sfDone = some a ∧ s.reg.heads ≠ [] ∧ (a.absent = true ∨
      a.agree = false)) ∧
    (∃ (s : State) (n : Nat) (signer : Option Ident) (a : SfAcc), (s.carrier n).sfDone = some a ∧ s.reg.heads ≠ [] ∧
      a.absent = false ∧ a.agree = true ∧ (signer ≠ some a.head ∨ ∀ k ∈ s.reg.heads, k.ident ≠ a.head)) ∧
    (∃ (s : State) (n : Nat) (signer : Option Ident) (a : SfAcc), (s.carrier n).sfDone = some a ∧ s.reg.heads ≠ [] ∧
      a.absent = false ∧ a.agree = true ∧ signer = some a.head ∧ (∃ k ∈ s.reg.heads, k.ident = a.head) ∧ refusedHead
      a.head a.epoch s = true) ∧
    (∃ (s : State) (n : Nat) (signer : Option Ident) (a : SfAcc), (s.carrier n).sfDone = some a ∧ s.reg.heads ≠ [] ∧
      a.absent = false ∧ a.agree = true ∧ signer = some a.head ∧ (∃ k ∈ s.reg.heads, k.ident = a.head) ∧ refusedHead
      a.head a.epoch s = false) := ⟨
    ⟨{ withC { sfDone := some { head := 9, absent := true } } with reg := { heads := [{ ident := 9 }] } }, 3,
      { head := 9, absent := true }, by decide⟩,
    ⟨{ withC { sfDone := some { head := 9 } } with reg := { heads := [{ ident := 9 }] } }, 3, none, { head := 9 }, by
      decide⟩,
    ⟨{ withC { sfDone := some { head := 9 } } with reg := { heads := [{ ident := 9 }], eMax := 1 } }, 3, some 9,
      { head := 9 }, by decide⟩,
    ⟨{ withC { sfDone := some { head := 9 } } with reg := { heads := [{ ident := 9 }] } }, 3, some 9, { head := 9 },
      by decide⟩⟩

/-- Hypotheses of each clause of Obligations.RegistrationMessages are met. -/
theorem witness_RegistrationMessages :
    (∃ (s : State) (n : Nat) (k : Nat) (type : Nat) (w : Message) (l : List (List Byte)) (hd : Ident) (m :
      RangeAssignMsg), s.hasCarrier n = true ∧ (s.carrier n).message type = some w ∧ messageItems type w.body = some
      l ∧ headOk hd w.epoch s = true ∧ type = 1 ∧ m = rangeAssignOf l ∧ slotCarrier m.slot s = some k ∧ s.reg.state =
      RegState.discover ∧ s.reg.nonce = some (BitVec.ofNat 64 m.nonce) ∧ m.nonce ≠ 0 ∧ eqdOk s m.eqd = true ∧ (∀ x ∈
      (s.carrier n).mapWait, x.msg ≠ w)) ∧
    (∃ (s : State) (n : Nat) (k : Nat) (type : Nat) (w : Message) (l : List (List Byte)) (hd : Ident) (m :
      RangeAssignMsg), s.hasCarrier n = true ∧ (s.carrier n).message type = some w ∧ messageItems type w.body = some
      l ∧ headOk hd w.epoch s = true ∧ type = 1 ∧ m = rangeAssignOf l ∧ slotCarrier m.slot s = some k ∧ s.reg.state =
      RegState.operating ∧ s.reg.session = true ∧ s.reg.number = some m.number ∧ (s.carrier k).ranged = false ∧ eqdOk
      s m.eqd = true ∧ (∀ x ∈ (s.carrier n).mapWait, x.msg ≠ w)) ∧
    (∃ (s : State) (n : Nat) (k : Nat) (type : Nat) (w : Message) (l : List (List Byte)) (hd : Ident) (m :
      RegConfirmMsg), s.hasCarrier n = true ∧ (s.carrier n).message type = some w ∧ messageItems type w.body = some l
      ∧ headOk hd w.epoch s = true ∧ type = 2 ∧ m = regConfirmOf l ∧ slotCarrier m.slot s = some k ∧ s.reg.state =
      RegState.ranging ∧ s.reg.confirmed = none ∧ ownNumber s = some m.number ∧ eqdOk s m.eqd = true) ∧
    (∃ (s : State) (n : Nat) (k : Nat) (type : Nat) (w : Message) (l : List (List Byte)) (hd : Ident) (m :
      RangeUpdateMsg), s.hasCarrier n = true ∧ (s.carrier n).message type = some w ∧ messageItems type w.body = some
      l ∧ headOk hd w.epoch s = true ∧ type = 3 ∧ m = rangeUpdateOf l ∧ slotCarrier m.slot s = some k ∧ s.reg.state =
      RegState.operating ∧ s.reg.number = some m.number ∧ (s.carrier k).ranged = true ∧ eqdOk s m.eqd = true ∧
      ((m.eqd : Int) - ((s.carrier k).eqdAt m.gsw : Nat)).natAbs ≤ 40000) ∧
    (∃ (s : State) (n : Nat) (k : Nat) (type : Nat) (w : Message) (l : List (List Byte)) (hd : Ident) (m :
      RangeUpdateMsg), s.hasCarrier n = true ∧ (s.carrier n).message type = some w ∧ messageItems type w.body = some
      l ∧ headOk hd w.epoch s = true ∧ type = 3 ∧ m = rangeUpdateOf l ∧ slotCarrier m.slot s = some k ∧ s.reg.state =
      RegState.operating ∧ s.reg.number = some m.number ∧ (s.carrier k).ranged = true ∧ 40000 < ((m.eqd : Int) -
      ((s.carrier k).eqdAt m.gsw : Nat)).natAbs) ∧
    (∃ (s : State) (n : Nat) (type : Nat) (w : Message) (l : List (List Byte)) (hd : Ident) (m : ResumeMsg),
      s.hasCarrier n = true ∧ (s.carrier n).message type = some w ∧ messageItems type w.body = some l ∧ headOk hd
      w.epoch s = true ∧ type = 4 ∧ m = resumeOf l ∧ s.reg.number = some m.number ∧ s.reg.session = true ∧ m.epoch =
      s.reg.epoch ∧ (s.reg.state = RegState.holdover ∨ s.reg.state = RegState.fenced) ∧ resumeOver s = false ∧ (∀ p ∈
      m.pairs, eqdOk s p.2 = true)) ∧
    (∃ (s : State) (n : Nat) (type : Nat) (w : Message) (l : List (List Byte)) (hd : Ident), s.hasCarrier n = true ∧
      (s.carrier n).message type = some w ∧ messageItems type w.body = some l ∧ headOk hd w.epoch s = true ∧ type = 5
      ∧ s.reg.number = some (itemNat l 0)) ∧
    (∃ (s : State) (n : Nat) (type : Nat) (w : Message) (l : List (List Byte)) (hd : Ident) (m : KeyRollMsg),
      s.hasCarrier n = true ∧ (s.carrier n).message type = some w ∧ messageItems type w.body = some l ∧ headOk hd
      w.epoch s = true ∧ type = 6 ∧ m = keyRollOf l ∧ s.reg.number = some m.number ∧ s.reg.session = true) ∧
    (∃ (s : State) (n : Nat) (w : Message), s.hasCarrier n = true ∧ (s.carrier n).message 6 = some w ∧ messageItems 6
      w.body = none) ∧
    (∃ (s : State) (n : Nat) (w : Message) (l : List (List Byte)), s.hasCarrier n = true ∧ (s.carrier n).message 5 =
      some w ∧ messageItems 5 w.body = some l) ∧
    (∃ (s : State) (n : Nat), s.hasCarrier n = false) ∧
    (∃ (s : State) (n : Nat) (id : BitVec 16), ((s.carrier n).msgs.any fun m => m.msgId == id && decide (64 ≤ m.age))
      = true) := ⟨
    ⟨heard 1 ([beBytes 8 5, [63], [0], beBytes 4 50000, []]) { state := .discover, nonce := some 5 } false, 3, 3, 1,
      msg 1 ([beBytes 8 5, [63], [0], beBytes 4 50000, []]), [beBytes 8 5, [63], [0], beBytes 4 50000, []], 9,
      rangeAssignOf ([beBytes 8 5, [63], [0], beBytes 4 50000, []]), by decide⟩,
    ⟨heard 1 ([beBytes 8 5, [63], [0], beBytes 4 50000, []])
      { state := .operating, session := true, number := some 63 } false, 3, 3, 1, msg 1 ([beBytes 8 5, [63], [0],
      beBytes 4 50000, []]), [beBytes 8 5, [63], [0], beBytes 4 50000, []], 9, rangeAssignOf ([beBytes 8 5, [63],
      [0], beBytes 4 50000, []]), by decide⟩,
    ⟨heard 2 ([[63], [0], beBytes 4 50000, beBytes 4 4, [], [], [8]]) { state := .ranging, assigned := some (63, 0) }
      false, 3, 3, 2, msg 2 ([[63], [0], beBytes 4 50000, beBytes 4 4, [], [], [8]]), [[63], [0], beBytes 4 50000,
      beBytes 4 4, [], [], [8]], 9, regConfirmOf ([[63], [0], beBytes 4 50000, beBytes 4 4, [], [], [8]]), by decide⟩,
    ⟨heard 3 ([[63], [0], beBytes 4 90000, zeros 12]) { state := .operating, number := some 63 } true, 3, 3, 3, msg 3
      ([[63], [0], beBytes 4 90000, zeros 12]), [[63], [0], beBytes 4 90000, zeros 12], 9, rangeUpdateOf ([[63], [0],
      beBytes 4 90000, zeros 12]), by decide⟩,
    ⟨heard 3 ([[63], [0], beBytes 4 90001, zeros 12]) { state := .operating, number := some 63 } true, 3, 3, 3, msg 3
      ([[63], [0], beBytes 4 90001, zeros 12]), [[63], [0], beBytes 4 90001, zeros 12], 9, rangeUpdateOf ([[63], [0],
      beBytes 4 90001, zeros 12]), by decide⟩,
    ⟨heard 4 ([[63], beBytes 4 4, 0 :: beBytes 4 99999]) { state := .fenced, number := some 63, session := true }
      true, 3, 4, msg 4 ([[63], beBytes 4 4, 0 :: beBytes 4 99999]), [[63], beBytes 4 4, 0 :: beBytes 4 99999], 9,
      resumeOf ([[63], beBytes 4 4, 0 :: beBytes 4 99999]), by decide⟩,
    ⟨heard 5 ([[63], [0]]) { number := some 63 } true, 3, 5, msg 5 ([[63], [0]]), [[63], [0]], 9, by decide⟩,
    ⟨heard 6 ([[63], [8], beBytes 4 7]) { number := some 63, session := true } true, 3, 6, msg 6 ([[63], [8], beBytes
      4 7]), [[63], [8], beBytes 4 7], 9, keyRollOf ([[63], [8], beBytes 4 7]), by decide⟩,
    ⟨heard 6 [[63], [8]] {} true, 3, msg 6 [[63], [8]], by decide⟩,
    ⟨heard 5 [[63], [0]] {} true, 3, msg 5 [[63], [0]], [[63], [0]], by decide⟩,
    ⟨{ up with fuses := { variant := .krt9610, lifecycle := .owned, owner := some 5 } }, 3, by decide⟩,
    ⟨withC { msgs := [{ msgId := 1, type := 1, next := 0, count := 2, age := 64 }] }, 3, 1, by decide⟩⟩

/-- Hypotheses of each clause of Obligations.Downstream are met. -/
theorem witness_Downstream :
    (∃ (s : State) (n : Nat) (p : Profile), p = (s.carrier n).profileFor (received s) ∧ ((s.carrier n).state =
      CarrierState.off ∨ (s.carrier n).state = CarrierState.tune)) ∧
    (∃ (s : State) (n : Nat) (p : Profile), p = (s.carrier n).profileFor (received s) ∧ ((s.carrier n).state =
      CarrierState.acquire ∨ (s.carrier n).state = CarrierState.lost)) ∧
    (∃ (s : State) (n : Nat) (f : DownFrame) (p : Profile) (x : Nat) (w : BitVec 256), p = (s.carrier n).profileFor
      (received s) ∧ (s.carrier n).aligned = false ∧ (s.carrier n).hunt = [(x, 2)] ∧ f.signs = [(x, w)] ∧ x <
      Prof.symbols (s.carrier n).profile ∧ fawMatch w = true) ∧
    (∃ (s : State) (n : Nat) (f : DownFrame) (p : Profile) (x : Nat) (w : BitVec 256), p = (s.carrier n).profileFor
      (received s) ∧ (s.carrier n).aligned = false ∧ (s.carrier n).hunt = [(x, 2)] ∧ f.signs = [(x, w)] ∧ x <
      Prof.symbols (s.carrier n).profile ∧ fawMatch w = false) ∧
    (∃ (s : State) (n : Nat) (p : Profile) (i : Instant), p = (s.carrier n).profileFor (received s) ∧ (s.carrier
      n).state = CarrierState.locked ∧ (s.carrier n).relockAt = some i ∧ i ≤ received s) ∧
    (∃ (s : State) (n : Nat) (f : DownFrame) (p : Profile), p = (s.carrier n).profileFor (received s) ∧ (∀ (i :
      Instant), (s.carrier n).relockAt = some i → received s < i) ∧ (s.carrier n).state = CarrierState.mismatch ∧
      fawMatch f.faw = true ∧ (∀ k ∈ f.badCw, 5 < k) ∧ planMatches (s.carrier n) p f.overhead = true) ∧
    (∃ (s : State) (n : Nat) (f : DownFrame) (p : Profile), p = (s.carrier n).profileFor (received s) ∧ (∀ (i :
      Instant), (s.carrier n).relockAt = some i → received s < i) ∧ (s.carrier n).state = CarrierState.locked ∧
      fawMatch f.faw = false ∧ 3 ≤ (s.carrier n).misses) ∧
    (∃ (s : State) (n : Nat) (f : DownFrame) (p : Profile), p = (s.carrier n).profileFor (received s) ∧ (∀ (i :
      Instant), (s.carrier n).relockAt = some i → received s < i) ∧ (s.carrier n).state = CarrierState.locked ∧
      fawMatch f.faw = true ∧ (∀ k ∈ f.badCw, 5 < k) ∧ planMatches (s.carrier n) p f.overhead = false) ∧
    (∃ (s : State) (n : Nat) (f : DownFrame) (p : Profile), p = (s.carrier n).profileFor (received s) ∧ (∀ (i :
      Instant), (s.carrier n).relockAt = some i → received s < i) ∧ (s.carrier n).state = CarrierState.locked ∧
      fawMatch f.faw = true ∧ (∃ k ∈ f.badCw, k ≤ 5) ∧ f.cells = []) ∧
    (∃ (s : State) (n : Nat) (f : DownFrame) (p : Profile), p = (s.carrier n).profileFor (received s) ∧ (∀ (i :
      Instant), (s.carrier n).relockAt = some i → received s < i) ∧ (s.carrier n).state = CarrierState.locked ∧
      fawMatch f.faw = true ∧ (∀ k ∈ f.badCw, 5 < k) ∧ planMatches (s.carrier n) p f.overhead = true ∧ s.reg.session
      = true ∧ tagHolds f.overhead (rollKey s) = false) ∧
    (∃ (s : State) (c : Nat) (a : Nat) (k : Nat) (r : Reasm), r ∈ s.down.ctxs ∧ r.carrier = c ∧ r.assoc = a ∧ r.cls =
      k ∧ r.since + ms 10 ≤ s.clk.now) ∧
    (∃ (s : State) (c : Nat) (a : Nat) (k : Nat), (∀ r ∈ s.down.ctxs, r.carrier = c → r.assoc = a → r.cls = k →
      s.clk.now < r.since + ms 10)) ∧
    (∃ (h : Hdr) (s : State) (b : BitVec 64), runsNow h (Cmd.cellGroupsSet b) s) := ⟨
    ⟨withC { state := .tune }, 3, .p1200, by decide⟩,
    ⟨withC { state := .lost }, 3, .p1200, by decide⟩,
    ⟨withC { state := .acquire, hunt := [(9, 2)] }, 3, { faw := 0, signs := [(9, fawWord ^^^ 3)], overhead := [] },
      .p1200, 9, fawWord ^^^ 3, by decide⟩,
    ⟨withC { state := .acquire, hunt := [(9, 2)] }, 3, { faw := 0, signs := [(9, fawWord ^^^ 7)], overhead := [] },
      .p1200, 9, fawWord ^^^ 7, by decide⟩,
    ⟨withC { state := .locked, relockAt := some 0 }, 3, .p1200, 0, by decide⟩,
    ⟨withC { state := .mismatch, slot := some 0, profile := .p1600 }, 3,
      { faw := fawWord, badCw := [6], overhead := [] }, .p1600, rfl, (fun i e => nomatch e), by decide⟩,
    ⟨withC { state := .locked, misses := 3 }, 3, { faw := fawWord ^^^ 7, overhead := [] }, .p1200, rfl, (fun i e =>
      nomatch e), by decide⟩,
    ⟨withC { state := .locked, slot := some 1, profile := .p1600 }, 3,
      { faw := fawWord, badCw := [6], overhead := [] }, .p1600, rfl, (fun i e => nomatch e), by decide⟩,
    ⟨withC { state := .locked }, 3, { faw := fawWord, badCw := [5], overhead := [] }, .p1200, rfl, (fun i e =>
      nomatch e), by decide⟩,
    ⟨{ withC { state := .locked, slot := some 0, profile := .p1600 } with reg := { session := true } }, 3,
      { faw := fawWord, badCw := [6], overhead := [] }, .p1600, rfl, (fun i e => nomatch e), by decide⟩,
    ⟨{ atTime (ms 10) with down := { ctxs := [{ carrier := 3, assoc := 4095, cls := 7, src := 0, cells := 1, since := 0, bytes := [] }] } },
      3, 4095, 7, { carrier := 3, assoc := 4095, cls := 7, src := 0, cells := 1, since := 0, bytes := [] }, by
      decide⟩,
    ⟨{ atTime (ms 10 - 1) with down := { ctxs := [{ carrier := 3, assoc := 4095, cls := 7, src := 0, cells := 1, since := 0, bytes := [] }] } },
      3, 4095, 7, by decide⟩,
    ⟨hd, up, 0, by decide⟩⟩

/-- Hypotheses of each clause of Obligations.TributaryPages are met. -/
theorem witness_TributaryPages :
    (∃ (h : Hdr) (s : State) (first : Nat) (es : List TribEntry), runsNow h (Cmd.tribPageWrite first es) s ∧
      checkTribPageWrite first es s = Status.ok ∧ s.trib.swap = none ∧ tribLocked s = false) ∧
    (∃ (h : Hdr) (s : State) (i : Instant) (f : Option Nat), runsNow h (Cmd.tribPageSwap i f) s ∧ checkTribPageSwap i
      f s = Status.ok ∧ s.trib.swap = none ∧ tribLocked s = false ∧ instantStatus i s = Status.ok) ∧
    (∃ (h : Hdr) (s : State) (i : Instant) (f : Option Nat), runsNow h (Cmd.tribPageSwap i f) s ∧ checkTribPageSwap i
      f s = Status.ok ∧ s.trib.swap ≠ none) ∧
    (∃ (s : State) (w : Swap), s.trib.swap = some w ∧ timeValid s = true ∧ w.at_ ≤ lineTime s) ∧
    (∃ (s : State) (w : Swap), s.trib.swap = some w ∧ lineTime s < w.at_) ∧
    (∃ (s : State) (k : Nat) (f : Fence), f ∈ s.trib.fences ∧ f.trib = k ∧ f.until_ ≤ lineTime s ∧ (tribWaits s f.old
      k = true ∨ f.until_ < lastEnd s f.old k)) ∧
    (∃ (s : State) (k : Nat), (∀ f ∈ s.trib.fences, f.trib = k → f.until_ ≤ lineTime s → tribWaits s f.old k = false
      ∧ lastEnd s f.old k ≤ f.until_)) := ⟨
    ⟨hd, up, 63, [{ upCarrier := 3 }], by decide⟩,
    ⟨hd, { up with time := { servo := .track, dDown := some 0 } }, frameTime, some 100, by decide⟩,
    ⟨hd,
      { up with time := { servo := .track, dDown := some 0 }, trib := { swap := some { at_ := frameTime, fence := 50 } } },
      frameTime, some 100, by decide⟩,
    ⟨{ up with trib := { swap := some { at_ := 0, fence := 1 } }, time := { servo := .track, dDown := some 0 } },
      { at_ := 0, fence := 1 }, by decide⟩,
    ⟨{ up with trib := { swap := some { at_ := 1, fence := 1 } } }, { at_ := 1, fence := 1 }, by decide⟩,
    ⟨{ up with trib := { fences := [{ trib := 63, old := 0, new := 3, until_ := 0 }] }, carriers := [(0, { tribEnd := [(63, 1)] })] },
      63, { trib := 63, old := 0, new := 3, until_ := 0 }, by decide⟩,
    ⟨{ up with trib := { fences := [{ trib := 63, old := 0, new := 3, until_ := 0 }] } }, 63, by decide⟩⟩

/-- Hypotheses of each clause of Obligations.ManagementChannels are met. -/
theorem witness_ManagementChannels :
    (∃ (s : State) (ch : Nat) (h : Hdr) (en : Bool) (c : Nat) (rate : Nat), ch < 4 ∧ runsNow h (Cmd.mchConfig ch en c
      rate) s ∧ c < 4 ∧ s.hasCarrier c = true ∧ rate < 5) ∧
    (∃ (s : State) (ch : Nat) (bits : List Bool) (o : List Byte) (b : List Byte), ch < 4 ∧ (s.channel ch).en = true ∧
      hdlcOctets bits = some o ∧ hdlcContent o = some b ∧ 1 ≤ b.length ∧ b.length ≤ 1600 ∧ (s.channel ch).upQ.length
      + 2 + b.length ≤ 16384) ∧
    (∃ (s : State) (ch : Nat) (bits : List Bool), ch < 4 ∧ (s.channel ch).en = true ∧ (hdlcOctets bits = none ∨ ∃ o,
      hdlcOctets bits = some o ∧ hdlcContent o = none)) ∧
    (∃ (s : State) (ch : Nat), ch < 4 ∧ (s.channel ch).en = true ∧ s.reg.state = RegState.operating ∧ (s.channel
      ch).cells = [] ∧ (s.channel ch).upQ ≠ [] ∧ (s.channel ch).lastCell ≠ some (lineTime s / frameTime)) ∧
    (∃ (s : State) (ch : Nat) (f : List Byte) (l : List (List Byte)), ch < 4 ∧ (s.channel ch).en = true ∧ (s.channel
      ch).downQ = f :: l ∧ (s.carrier (s.channel ch).carrier).state = CarrierState.locked) ∧
    (∃ (s : State) (ch : Nat), ch < 4 ∧ (s.channel ch).en = true ∧ ((s.channel ch).downQ = [] ∨ (s.carrier (s.channel
      ch).carrier).state ≠ CarrierState.locked)) := ⟨
    ⟨up, 3, hd, true, 3, 4, by decide⟩,
    ⟨{ up with mch := [(3, { en := true })] }, 3, stuff (octetBits (mchOct [0xFF])) 0, mchOct [0xFF], [0xFF], by
      decide⟩,
    ⟨{ up with mch := [(3, { en := true })] }, 3, [true], by decide⟩,
    ⟨{ up with mch := [(3, { en := true, upQ := [1] })], reg := { state := .operating } }, 3, by decide⟩,
    ⟨{ withC { state := .locked } with mch := [(3, { en := true, carrier := 3, downQ := [[1]] })] }, 3, [1], [], by
      decide⟩,
    ⟨{ up with mch := [(3, { en := true, upQ := [1] })], reg := { state := .operating } }, 3, by decide⟩⟩

/-- Hypotheses of each clause of Obligations.Bursts are met. -/
theorem witness_Bursts :
    (∃ (s : State) (n : Nat) (g : Grant), nextUndrawn n s = some g ∧ s.reg.state = RegState.operating ∧ s.die.split =
      false ∧ received s + us 10 ≤ g.emit) ∧
    (∃ (s : State) (n : Nat) (g : Grant), dueGrant n s = some g ∧ received s < g.emit) ∧
    (∃ (s : State) (n : Nat) (g : Grant), dueGrant n s = some g ∧ g.emit ≤ received s ∧ s.reg.state ≠
      RegState.operating) ∧
    (∃ (s : State) (n : Nat) (g : Grant), dueGrant n s = some g ∧ g.emit ≤ received s ∧ s.reg.state =
      RegState.operating ∧ ((s.carrier n).ranged = false ∨ windowRefused n g g.window (noteKey (rollKey s)) = true)) ∧
    (∃ (s : State) (n : Nat) (g : Grant), dueGrant n s = some g ∧ g.emit ≤ received s ∧ s.reg.state =
      RegState.operating ∧ (s.carrier n).ranged = true ∧ windowRefused n g g.window (noteKey (rollKey s)) = false ∧
      ((noteKey (rollKey s)).carrier n).canEmit g.emit = true ∧ keptDark n (noteKey (rollKey s)) = false) ∧
    (∃ (s : State) (n : Nat) (g : Grant), dueRanging s = some (n, g) ∧ s.die.split = false ∧ (s.reg.state =
      RegState.ranging ∨ s.reg.state = RegState.operating ∧ (s.carrier n).ranged = false) ∧ windowRefused n g
      g.window (modCarrier n (fun c =>
      { slot := c.slot, band := c.band, profile := c.profile, rxDelay := c.rxDelay, txDelay := c.txDelay, threshold := c.threshold, tuneTime := c.tuneTime, degrade := c.degrade, state := c.state, gate := c.gate, gateWait := c.gateWait, ceil := c.ceil, gateInhibit := c.gateInhibit, laserInhibit := c.laserInhibit, biasInhibit := c.biasInhibit, laserOff := c.laserOff, clearAt := c.clearAt, lastFault := c.lastFault, biasFail := c.biasFail, biasGood := c.biasGood, rxFail := c.rxFail, alarms := c.alarms, script := c.script, hint := c.hint, eqdHint := c.eqdHint, disp := c.disp, search := c.search, hunt := c.hunt, aligned := c.aligned, attempts := c.attempts, acqFailed := c.acqFailed, since := c.since, disabling := c.disabling, tuneRun := c.tuneRun, profWas := c.profWas, relockAt := c.relockAt, lostFrom := c.lostFrom, nLostCells := c.nLostCells, next := c.next, slotActive := c.slotActive, misses := c.misses, ranged := c.ranged, eqd := c.eqd, eqdNext := c.eqdNext, held := List.filter (fun x => x != g) c.held, standing := c.standing, drawn := c.drawn, remainder := c.remainder, remTrib := c.remTrib, burstSeq := c.burstSeq, mapWait := c.mapWait, winStart := c.winStart, winEnd := c.winEnd, tribEnd := c.tribEnd, nEmitted := c.nEmitted, nLate := c.nLate, nInvalid := c.nInvalid, nDropped := c.nDropped, nDiscarded := c.nDiscarded, nAbsent := c.nAbsent, nTagFail := c.nTagFail, nStamp := c.nStamp, nMalformed := c.nMalformed, nSfOk := c.nSfOk, nSfBad := c.nSfBad, nSfUnver := c.nSfUnver, nMsgBad := c.nMsgBad, nMsgTimeout := c.nMsgTimeout, nHec := c.nHec, nCalm := c.nCalm, nReserved := c.nReserved, nFiltered := c.nFiltered, nTrib := c.nTrib, nUnknown := c.nUnknown, nD2dSplit := c.nD2dSplit, nD2dRetrain := c.nD2dRetrain, nD2dOverrun := c.nD2dOverrun, nTruncated := c.nTruncated, nOrphan := c.nOrphan, nOversize := c.nOversize, nTimedOut := c.nTimedOut, nExhausted := c.nExhausted, nRemainder := c.nRemainder, nUncorr := c.nUncorr, lastFrame := c.lastFrame, sf := c.sf, sfDone := c.sfDone, msgs := c.msgs, msgsDone := c.msgsDone, monitor := c.monitor, degraded := c.degraded, degradeRun := c.degradeRun, second := c.second, whole := c.whole, gainA := c.gainA, gainB := c.gainB, fc := c.fc, lastFc := c.lastFc, discarding := c.discarding, confident := c.confident, report := c.report })
      s) = false ∧ (s.carrier n).canEmit g.emit = true) := ⟨
    ⟨{ withC { held := [{ id := 1, start := sec 200, len := 1, emit := sec 200, window := 1, arrival := 0 }] } with reg := { state := .operating } },
      3, { id := 1, start := sec 200, len := 1, emit := sec 200, window := 1, arrival := 0 }, by decide⟩,
    ⟨{ withC { held := [{ id := 1, start := sec 200, len := 1, emit := sec 200, window := 1, arrival := 0 }] } with reg := { state := .operating } },
      3, { id := 1, start := sec 200, len := 1, emit := sec 200, window := 1, arrival := 0 }, by decide⟩,
    ⟨{ withC { held := [{ id := 1, start := sec 200, len := 1, emit := sec 200, window := 1, arrival := 0 }] } with reg := { state := .listen }, time := { rx := sec 200 * 65536 } },
      3, { id := 1, start := sec 200, len := 1, emit := sec 200, window := 1, arrival := 0 }, by decide⟩,
    ⟨{ withC { held := [{ id := 1, start := sec 200, len := 1, emit := sec 200, window := 1, arrival := 0 }], winEnd := sec 201 } with reg := { state := .operating }, time := { rx := sec 200 * 65536 } },
      3, { id := 1, start := sec 200, len := 1, emit := sec 200, window := 1, arrival := 0 }, by decide⟩,
    ⟨{ withC { slot := some 6, state := .locked, ranged := true, held := [{ id := 1, start := 0, len := 2, emit := 5, window := 7, arrival := 0 }] } with reg := { state := .operating, key := some { name := 1, frame := 0 } }, time := { rx := 5 * 65536 } },
      3, { id := 1, start := 0, len := 2, emit := 5, window := 7, arrival := 0 }, by decide⟩,
    ⟨{ withC { held := [{ ranging := true, id := 1, start := sec 200, len := 1, emit := sec 200, window := 1, arrival := 0 }], state := .locked } with reg := { state := .ranging }, time := { rx := sec 200 * 65536 } },
      3, { ranging := true, id := 1, start := sec 200, len := 1, emit := sec 200, window := 1, arrival := 0 }, by
      decide⟩⟩

/-- Hypotheses of each clause of Obligations.ClassificationCommands are met. -/
theorem witness_ClassificationCommands :
    (∃ (h : Hdr) (s : State) (key : List Byte) (w : EntryWord), runsNow h (Cmd.flowInsert w key) s ∧ checkFlowInsert
      w key s = Status.ok) ∧
    (∃ (h : Hdr) (s : State) (key : List Byte) (w : EntryWord), runsNow h (Cmd.flowInsert w key) s ∧ checkFlowInsert
      w key s ≠ Status.ok) ∧
    (∃ (h : Hdr) (s : State) (key : List Byte) (k : Nat) (w : EntryWord), runsNow h (Cmd.flowModify k key w) s ∧
      checkFlowModify k key w s = Status.ok) ∧
    (∃ (h : Hdr) (s : State) (key : List Byte) (k : Nat), runsNow h (Cmd.flowDelete k key) s ∧ checkFlowKey k key s =
      Status.ok) ∧
    (∃ (h : Hdr) (s : State) (key : List Byte) (k : Nat), runsNow h (Cmd.flowDelete k key) s ∧ checkFlowKey k key s ≠
      Status.ok) ∧
    (∃ (h : Hdr) (s : State) (key : List Byte) (k : Nat) (e : FlowEntry), runsNow h (Cmd.flowLookup k key) s ∧
      key.length = 44 ∧ k ≤ 15 ∧ findFlow s.cls.curB k key s = some e) ∧
    (∃ (h : Hdr) (s : State) (key : List Byte) (k : Nat), runsNow h (Cmd.flowLookup k key) s ∧ key.length = 44 ∧ k ≤
      15 ∧ findFlow s.cls.curB k key s = none) ∧
    (∃ (h : Hdr) (s : State) (first : Nat) (count : Nat), runsNow h (Cmd.flowScan first count) s ∧ 1 ≤ count ∧ count
      ≤ 4096 ∧ first + count ≤ 1048576) ∧
    (∃ (h : Hdr) (s : State) (i : Nat) (acts : List Action), runsNow h (Cmd.flowActionWrite i acts) s ∧ checkActions
      i acts s = Status.ok) ∧
    (∃ (h : Hdr) (s : State) (i : Nat) (acts : List Action), runsNow h (Cmd.flowActionWrite i acts) s ∧ checkActions
      i acts s ≠ Status.ok) ∧
    (∃ (h : Hdr) (s : State) (i : Nat) (w : EntryWord) (v : List Byte) (m : List Byte), runsNow h (Cmd.ternaryWrite i
      w v m) s ∧ checkTernWrite i w v m s = Status.ok) ∧
    (∃ (h : Hdr) (s : State) (i : Nat), runsNow h (Cmd.ternaryDelete i) s ∧ i ≤ 65535) ∧
    (∃ (h : Hdr) (s : State) (n : Nat) (d : Option UserNode), runsNow h (Cmd.parseNodeSet n d) s ∧ checkNode n d s =
      Status.ok) ∧
    (∃ (h : Hdr) (s : State) (k : Nat) (ex : List Selection) (te : List Selection), runsNow h (Cmd.classProfileSet k
      ex te) s ∧ checkProfile k ex te = Status.ok) ∧
    (∃ (h : Hdr) (s : State) (p : Nat) (a : Nat) (k : Nat), runsNow h (Cmd.classDefaultSet p a k) s ∧ checkDefault p
      a k s = Status.ok) ∧
    (∃ (h : Hdr) (s : State) (p : Nat) (a : Nat) (k : Nat), runsNow h (Cmd.classDefaultSet p a k) s ∧ checkDefault p
      a k s ≠ Status.ok) := ⟨
    ⟨hd, { up with cls := { actions := [(0, { copy0 := some [.drop 0] })] } }, List.replicate 44 0, {}, by decide⟩,
    ⟨hd, up, List.replicate 44 0, {}, by decide⟩,
    ⟨hd,
      { up with cls := { actions := [(0, { copy0 := some [.drop 0] })], flows := [{ word := {}, key := List.replicate 44 0 }] } },
      List.replicate 44 0, 0, {}, by decide⟩,
    ⟨hd,
      { up with cls := { actions := [(0, { copy0 := some [.drop 0] })], flows := [{ word := {}, key := List.replicate 44 0 }] } },
      List.replicate 44 0, 0, by decide⟩,
    ⟨hd, up, List.replicate 44 0, 0, by decide⟩,
    ⟨hd,
      { up with cls := { actions := [(0, { copy0 := some [.drop 0] })], flows := [{ word := {}, key := List.replicate 44 0 }] } },
      List.replicate 44 0, 0, { word := {}, key := List.replicate 44 0 }, by decide⟩,
    ⟨hd, up, List.replicate 44 0, 0, by decide⟩,
    ⟨hd, up, 1044480, 4096, by decide⟩,
    ⟨hd, up, 1048575, [.popVlan, .drop 0], by decide⟩,
    ⟨hd, up, 1048575, [.drop 0, .popVlan], by decide⟩,
    ⟨hd, { up with cls := { actions := [(0, { copy0 := some [.drop 0] })] } }, 65535, {}, List.replicate 40 0,
      List.replicate 40 0, by decide⟩,
    ⟨hd, up, 65535, by decide⟩,
    ⟨hd, up, 63, some { len := .fixed 64, selOff := 0, selBits := 16, edges := [(1, 1)] }, by decide⟩,
    ⟨hd, up, 15, [], [], by decide⟩,
    ⟨hd, { up with cls := { actions := [(0, { copy0 := some [.drop 0] })] } }, 35, 0, 15, by decide⟩,
    ⟨hd, up, 36, 0, 0, by decide⟩⟩

/-- Hypotheses of each clause of Obligations.Passes are met. -/
theorem witness_Passes :
    (∃ (s : State) (n : Nat) (p : Pkt) (l : List Pkt), (s.port n).fifo = p :: l ∧ s.cls.recUp = []) ∧
    (∃ (s : State), s.cls.recUp ≠ []) ∧
    (∃ (s : State) (p : Pkt) (l : List Pkt), s.cls.line = p :: l ∧ s.cls.recDown = []) ∧
    (∃ (s : State), s.cls.recDown ≠ []) ∧
    (∃ (s : State) (p : Pkt) (l : List Pkt), s.cls.recUp = p :: l) ∧
    (∃ (s : State) (p : Pkt) (l : List Pkt), s.cls.recDown = p :: l) ∧
    (∃ (s : State) (p : Pkt) (l : List Pkt) (r : Nat), s.cls.line = p :: l ∧ s.cls.recDown = [] ∧ (r = 2 ∨ r = 3) ∧
      (parse (s.cls.tables s.cls.curB).nodes p.bytes).reason = r) ∧
    (∃ (s : State) (p : Pkt) (l : List Pkt), s.cls.line = p :: l ∧ s.cls.recDown = [] ∧ s.cls.missDown.length < 8192
      ∧ s.cls.missUp.length < 8192) ∧
    (∃ (s : State) (p : Miss) (l : List Miss), s.cls.missUp = p :: l) ∧
    (∃ (s : State) (p : Miss) (l : List Miss), s.cls.missDown = p :: l) ∧
    (∃ (s : State), s.cls.draining.isSome = true ∧ (∀ p ∈ inClassification s, p.md.slotB = s.cls.curB)) ∧
    (∃ (s : State), (∃ p ∈ inClassification s, p.md.slotB ≠ s.cls.curB)) ∧
    (∃ (s : State) (w : WriteIn), s.cls.writeIn = some w ∧ w.started.isSome = true) := ⟨
    ⟨withP { fifo := [{ id := 1, bytes := List.replicate 60 0 }] }, 31, { id := 1, bytes := List.replicate 60 0 },
      [], by decide⟩,
    ⟨{ up with cls := { recUp := [{ id := 1, bytes := List.replicate 60 0 }] } }, by decide⟩,
    ⟨{ up with cls := { line := [{ id := 1, bytes := List.replicate 60 0 }] } },
      { id := 1, bytes := List.replicate 60 0 }, [], by decide⟩,
    ⟨{ up with cls := { recDown := [{ id := 1, bytes := List.replicate 60 0 }] } }, by decide⟩,
    ⟨{ up with cls := { recUp := [{ id := 1, bytes := List.replicate 60 0 }] } },
      { id := 1, bytes := List.replicate 60 0 }, [], by decide⟩,
    ⟨{ up with cls := { recDown := [{ id := 1, bytes := List.replicate 60 0 }] } },
      { id := 1, bytes := List.replicate 60 0 }, [], by decide⟩,
    ⟨{ up with cls := { line := [{ id := 1, bytes := [] }] } }, { id := 1, bytes := [] }, [], 3, by decide⟩,
    ⟨{ up with cls := { line := [{ id := 1, bytes := List.replicate 60 0 }] } },
      { id := 1, bytes := List.replicate 60 0 }, [], by decide⟩,
    ⟨{ up with cls := { missUp := [{ pkt := { id := 1, bytes := [] }, key := none, found := { reason := 2 } }] } },
      { pkt := { id := 1, bytes := [] }, key := none, found := { reason := 2 } }, [], by decide⟩,
    ⟨{ up with cls := { missDown := [{ pkt := { id := 1, bytes := [] }, key := none, found := { reason := 2 } }] } },
      { pkt := { id := 1, bytes := [] }, key := none, found := { reason := 2 } }, [], by decide⟩,
    ⟨{ up with cls := { draining := some 0 } }, by decide⟩,
    ⟨{ up with cls := { recUp := [{ id := 1, bytes := [], md := { slotB := true } }] } }, by decide⟩,
    ⟨{ up with cls := { writeIn := some { group := 1, changes := 0, started := some 0 } } },
      { group := 1, changes := 0, started := some 0 }, by decide⟩⟩

/-- Hypotheses of each clause of Obligations.LeafQueueCommands are met. -/
theorem witness_LeafQueueCommands :
    (∃ (h : Hdr) (s : State) (q : Nat) (a : Nat) (c : Nat) (g : Nat) (p : QueueParams), 256 ≤ q ∧ q ≤ 65535 ∧ runsNow
      h (Cmd.queueCreate q a c g p) s ∧ a ≤ 4095 ∧ c < 8 ∧ g < 16 ∧ queueParamsOk p s = true ∧ s.queue q = none ∧ (∀
      x ∈ s.q.tab, ∀ (v : Queue), x.2 = some v → v.assoc ≠ a ∨ v.cls ≠ c ∨ v.group ≠ g)) ∧
    (∃ (h : Hdr) (s : State) (q : Nat) (a : Nat) (c : Nat) (g : Nat) (p : QueueParams), 256 ≤ q ∧ q ≤ 65535 ∧ runsNow
      h (Cmd.queueCreate q a c g p) s ∧ a ≤ 4095 ∧ c < 8 ∧ g < 16 ∧ queueParamsOk p s = true ∧ s.queue q ≠ none) ∧
    (∃ (h : Hdr) (s : State) (q : Nat) (v : Queue), 256 ≤ q ∧ q ≤ 65535 ∧ runsNow h (Cmd.queueDelete q) s ∧ s.queue q
      = some v ∧ v.cells = 0 ∧ (∀ x ∈ s.q.staging, x.1 ≠ q)) ∧
    (∃ (h : Hdr) (s : State) (q : Nat) (v : Queue), 256 ≤ q ∧ q ≤ 65535 ∧ runsNow h (Cmd.queueDelete q) s ∧ s.queue q
      = some v ∧ (v.cells ≠ 0 ∨ ∃ x ∈ s.q.staging, x.1 = q)) ∧
    (∃ (h : Hdr) (s : State) (q : Nat) (v : Queue) (p : QueueParams), 256 ≤ q ∧ q ≤ 65535 ∧ runsNow h (Cmd.queueSet q
      p) s ∧ s.queue q = some v ∧ queueParamsOk p s = true) ∧
    (∃ (h : Hdr) (s : State) (q : Nat) (v : Queue), 256 ≤ q ∧ q ≤ 65535 ∧ runsNow h (Cmd.queueFlush q) s ∧ s.queue q
      = some v) := ⟨
    ⟨hd, up, 65535, 4095, 7, 15, { weight := some 255, maxSojourn := some 1000 }, by decide, by decide, by decide, by
      decide, by decide, by decide, by decide, by decide, fun x h => nomatch h⟩,
    ⟨hd,
      { up with q := { tab := [(65535, some { assoc := 4095, cls := 7, group := 15, limit := 10, ylim := 10 })] } },
      65535, 4095, 7, 15, { weight := some 255, maxSojourn := some 1000 }, by decide⟩,
    ⟨hd,
      { up with q := { tab := [(65535, some { assoc := 4095, cls := 7, group := 15, limit := 10, ylim := 10 })] } },
      65535, { assoc := 4095, cls := 7, group := 15, limit := 10, ylim := 10 }, by decide⟩,
    ⟨hd,
      { up with q := { tab := [(65535, some { assoc := 4095, cls := 7, group := 15, limit := 10, ylim := 10, lists := [(0, [{ bytes := [0], at_ := 0, trib := 0, dst := 0, peer := 0, assoc := 0, cls := 0 }])] })] } },
      65535,
      { assoc := 4095, cls := 7, group := 15, limit := 10, ylim := 10, lists := [(0, [{ bytes := [0], at_ := 0, trib := 0, dst := 0, peer := 0, assoc := 0, cls := 0 }])] },
      by decide⟩,
    ⟨hd,
      { up with q := { tab := [(65535, some { assoc := 4095, cls := 7, group := 15, limit := 10, ylim := 10 })] } },
      65535, { assoc := 4095, cls := 7, group := 15, limit := 10, ylim := 10 },
      { weight := some 255, maxSojourn := some 1000 }, by decide⟩,
    ⟨hd,
      { up with q := { tab := [(65535, some { assoc := 4095, cls := 7, group := 15, limit := 10, ylim := 10 })] } },
      65535, { assoc := 4095, cls := 7, group := 15, limit := 10, ylim := 10 }, by decide⟩⟩

/-- Hypotheses of each clause of Obligations.ShapingCommands are met. -/
theorem witness_ShapingCommands :
    (∃ (h : Hdr) (s : State) (a : Nat) (w : Nat) (sh : Option ShaperParams), runsNow h (Cmd.schedNodeSet a none w sh
      false) s ∧ checkSchedNode a none w sh false = Status.ok) ∧
    (∃ (h : Hdr) (s : State) (a : Nat) (c : Nat) (w : Nat) (sh : Option ShaperParams) (ex : Bool), runsNow h
      (Cmd.schedNodeSet a (some c) w sh ex) s ∧ checkSchedNode a (some c) w sh ex = Status.ok) ∧
    (∃ (h : Hdr) (s : State) (a : Nat) (c : Option Nat) (w : Nat) (sh : Option ShaperParams) (ex : Bool), runsNow h
      (Cmd.schedNodeSet a c w sh ex) s ∧ checkSchedNode a c w sh ex = Status.paramRange) ∧
    (∃ (h : Hdr) (s : State) (p : Nat) (es : List EgressQ) (sh : Option ShaperParams), runsNow h (Cmd.egressConfig p
      es sh) s ∧ checkEgress p es sh s = Status.ok) ∧
    (∃ (h : Hdr) (s : State) (i : Nat) (p : PolicerParams) (refill : Bool), runsNow h (Cmd.policerSet i p refill) s ∧
      checkPolicer i p = Status.ok ∧ Tbl.get none s.q.policers i = none) ∧
    (∃ (h : Hdr) (s : State) (i : Nat) (p : PolicerParams) (refill : Bool) (old : Policer), runsNow h (Cmd.policerSet
      i p refill) s ∧ checkPolicer i p = Status.ok ∧ Tbl.get none s.q.policers i = some old) ∧
    (∃ (h : Hdr) (s : State) (i : Nat) (clear : Bool) (old : Policer), runsNow h (Cmd.policerRead i clear) s ∧ i <
      2097152 ∧ Tbl.get none s.q.policers i = some old) ∧
    (∃ (h : Hdr) (s : State) (i : Nat) (clear : Bool), runsNow h (Cmd.policerRead i clear) s ∧ i < 2097152 ∧ Tbl.get
      none s.q.policers i = none) := ⟨
    ⟨hd, up, 4095, 255, some { rate := 1600000000, burst := 256, adjust := -64 }, by decide⟩,
    ⟨hd, up, 4095, 7, 255, some { rate := 1600000000, burst := 256, adjust := -64 }, true, by decide⟩,
    ⟨hd, up, 4095, some 8, 255, some { rate := 1600000000, burst := 256, adjust := -64 }, true, by decide⟩,
    ⟨hd, up, 31, List.replicate 8 { weight := 255, limit := 16384 }, some
      { rate := 1600000000, burst := 256, adjust := -64 }, by decide⟩,
    ⟨hd, up, 2097151, { cir := 4294967295, cbs := 268435455 }, true, by decide⟩,
    ⟨hd, { up with q := { policers := [(2097151, some {})] } }, 2097151, {}, true, {}, by decide⟩,
    ⟨hd, { up with q := { policers := [(2097151, some {})] } }, 2097151, true, {}, by decide⟩,
    ⟨hd, up, 2097151, true, by decide⟩⟩

/-- Hypotheses of each clause of Obligations.UpstreamAdmission are met. -/
theorem witness_UpstreamAdmission :
    (∃ (s : State), s.q.staging = []) ∧
    (∃ (s : State) (k : Nat) (col : Colour) (p : QPkt) (l : List (Nat × Colour × QPkt)), s.q.staging = (k, col, p) ::
      l) ∧
    (∃ (s : State) (k : Nat) (col : Colour) (p : QPkt) (l : List (Nat × Colour × QPkt)), s.q.staging = (k, col, p) ::
      l ∧ s.queue k = none) ∧
    (∃ (s : State) (k : Nat) (col : Colour) (p : QPkt) (l : List (Nat × Colour × QPkt)) (v : Queue), s.q.staging =
      (k, col, p) :: l ∧ s.queue k = some v ∧ s.die.split = true) ∧
    (∃ (s : State) (k : Nat) (col : Colour) (p : QPkt) (l : List (Nat × Colour × QPkt)) (v : Queue), s.q.staging =
      (k, col, p) :: l ∧ s.queue k = some v ∧ s.die.split = false ∧ (s.tribEntry p.trib).enable = false) ∧
    (∃ (s : State) (k : Nat) (col : Colour) (p : QPkt) (l : List (Nat × Colour × QPkt)) (v : Queue), s.q.staging =
      (k, col, p) :: l ∧ s.queue k = some v ∧ s.die.split = false ∧ (s.tribEntry p.trib).enable = true ∧ storeCells s
      < s.q.used + cellsOf p.bytes.length) ∧
    (∃ (s : State) (k : Nat) (col : Colour) (p : QPkt) (l : List (Nat × Colour × QPkt)) (v : Queue), s.q.staging =
      (k, col, p) :: l ∧ s.queue k = some v ∧ s.die.split = false ∧ (s.tribEntry p.trib).enable = true ∧ s.q.used +
      cellsOf p.bytes.length ≤ storeCells s ∧ v.limit < v.cells + cellsOf p.bytes.length) ∧
    (∃ (s : State) (k : Nat) (p : QPkt) (l : List (Nat × Colour × QPkt)) (v : Queue), s.q.staging = (k,
      Colour.yellow, p) :: l ∧ s.queue k = some v ∧ s.die.split = false ∧ (s.tribEntry p.trib).enable = true ∧
      s.q.used + cellsOf p.bytes.length ≤ storeCells s ∧ v.cells + cellsOf p.bytes.length ≤ v.limit ∧ v.ylim <
      v.cells + cellsOf p.bytes.length) ∧
    (∃ (s : State) (k : Nat) (col : Colour) (p : QPkt) (l : List (Nat × Colour × QPkt)) (v : Queue), s.q.staging =
      (k, col, p) :: l ∧ s.queue k = some v ∧ s.die.split = false ∧ (s.tribEntry p.trib).enable = true ∧ s.q.used +
      cellsOf p.bytes.length ≤ storeCells s ∧ v.cells + cellsOf p.bytes.length ≤ v.limit ∧ (col = Colour.yellow →
      v.cells + cellsOf p.bytes.length ≤ v.ylim)) ∧
    (∃ (s : State), (s.reg.state ≠ RegState.operating ∨ s.die.split = true ∨ emitsNothing s = true) ∧ s.q.agedAt + ms
      1 ≤ s.clk.now) ∧
    (∃ (s : State), s.reg.state = RegState.operating ∧ s.die.split = false ∧ emitsNothing s = false) := ⟨
    ⟨up, by decide⟩,
    ⟨{ up with q := { staging := [(65535, .green, { bytes := [0], at_ := 0, trib := 63, dst := 0, peer := 0, assoc := 0, cls := 0 })], tab := [(65535, some { assoc := 0, cls := 0, group := 0, limit := 1, ylim := 1 })] } },
      65535, .green, { bytes := [0], at_ := 0, trib := 63, dst := 0, peer := 0, assoc := 0, cls := 0 }, [], by
      decide⟩,
    ⟨{ up with q := { staging := [(65535, .green, { bytes := [0], at_ := 0, trib := 63, dst := 0, peer := 0, assoc := 0, cls := 0 })] } },
      65535, .green, { bytes := [0], at_ := 0, trib := 63, dst := 0, peer := 0, assoc := 0, cls := 0 }, [], by
      decide⟩,
    ⟨{ up with q := { staging := [(65535, .green, { bytes := [0], at_ := 0, trib := 63, dst := 0, peer := 0, assoc := 0, cls := 0 })], tab := [(65535, some { assoc := 0, cls := 0, group := 0, limit := 1, ylim := 1 })] }, die := { split := true } },
      65535, .green, { bytes := [0], at_ := 0, trib := 63, dst := 0, peer := 0, assoc := 0, cls := 0 }, [],
      { assoc := 0, cls := 0, group := 0, limit := 1, ylim := 1 }, by decide⟩,
    ⟨{ up with q := { staging := [(65535, .green, { bytes := [0], at_ := 0, trib := 63, dst := 0, peer := 0, assoc := 0, cls := 0 })], tab := [(65535, some { assoc := 0, cls := 0, group := 0, limit := 1, ylim := 1 })] }, trib := { active := [(63, { enable := false })] } },
      65535, .green, { bytes := [0], at_ := 0, trib := 63, dst := 0, peer := 0, assoc := 0, cls := 0 }, [],
      { assoc := 0, cls := 0, group := 0, limit := 1, ylim := 1 }, by decide⟩,
    ⟨{ up with q := { staging := [(65535, .green, { bytes := [0], at_ := 0, trib := 63, dst := 0, peer := 0, assoc := 0, cls := 0 })], tab := [(65535, some { assoc := 0, cls := 0, group := 0, limit := 1, ylim := 1 })], used := 603979776 } },
      65535, .green, { bytes := [0], at_ := 0, trib := 63, dst := 0, peer := 0, assoc := 0, cls := 0 }, [],
      { assoc := 0, cls := 0, group := 0, limit := 1, ylim := 1 }, by decide⟩,
    ⟨{ up with q := { staging := [(65535, .green, { bytes := [0], at_ := 0, trib := 63, dst := 0, peer := 0, assoc := 0, cls := 0 })], tab := [(65535, some { assoc := 0, cls := 0, group := 0, limit := 0, ylim := 1 })] } },
      65535, .green, { bytes := [0], at_ := 0, trib := 63, dst := 0, peer := 0, assoc := 0, cls := 0 }, [],
      { assoc := 0, cls := 0, group := 0, limit := 0, ylim := 1 }, by decide⟩,
    ⟨{ up with q := { staging := [(65535, .yellow, { bytes := [0], at_ := 0, trib := 63, dst := 0, peer := 0, assoc := 0, cls := 0 })], tab := [(65535, some { assoc := 0, cls := 0, group := 0, limit := 1, ylim := 0 })] } },
      65535, { bytes := [0], at_ := 0, trib := 63, dst := 0, peer := 0, assoc := 0, cls := 0 }, [],
      { assoc := 0, cls := 0, group := 0, limit := 1, ylim := 0 }, by decide⟩,
    ⟨{ up with q := { staging := [(65535, .green, { bytes := [0], at_ := 0, trib := 63, dst := 0, peer := 0, assoc := 0, cls := 0 })], tab := [(65535, some { assoc := 0, cls := 0, group := 0, limit := 1, ylim := 1 })] } },
      65535, .green, { bytes := [0], at_ := 0, trib := 63, dst := 0, peer := 0, assoc := 0, cls := 0 }, [],
      { assoc := 0, cls := 0, group := 0, limit := 1, ylim := 1 }, by decide⟩,
    ⟨atTime (ms 1), by decide⟩,
    ⟨{ up with reg := { state := .operating }, clk := { now := sec 100 } }, by decide⟩⟩

/-- Hypotheses of each clause of Obligations.WheelsGatesBarometer are met. -/
theorem witness_WheelsGatesBarometer :
    (∃ (s : State), (∀ (k : WheelKind) (x : Shaper), shaperOf s k = some x → 1 ≤ x.p.rate)) ∧
    (∃ (h : Hdr) (s : State) (p : Nat) (g : GateList), runsNow h (Cmd.gateListSet p g) s ∧ checkGateList p g s =
      Status.ok) ∧
    (∃ (s : State) (p : Nat) (r : GateRun), (s.port p).gateNext = some r ∧ switchValid s = true ∧ r.s ≤ switchTime s
      ∧ wheelTurn (WheelKind.gateStart p) s = true) ∧
    (∃ (s : State) (p : Nat) (r : GateRun), (s.port p).gateNext = some r ∧ switchTime s < r.s) ∧
    (∃ (s : State) (p : Nat) (r : GateRun), (s.port p).gate = some r ∧ switchValid s = true ∧ wheelTurn
      (WheelKind.gate p) s = true) ∧
    (∃ (h : Hdr) (s : State) (i : Nat) (w : WatchParams), runsNow h (Cmd.barometerWatch i (some w)) s ∧ i < 4096 ∧
      w.queue ≤ 65535 ∧ 1 ≤ w.period ∧ w.period ≤ 65535 ∧ 1 ≤ w.depthBase ∧ w.depthBase ≤ 16777215 ∧ 1 ≤ w.sojBase ∧
      w.sojBase ≤ 16777215 ∧ (w.queue < 256 → s.hasPort (w.queue / 8) = true)) ∧
    (∃ (h : Hdr) (s : State) (i : Nat) (w : WatchParams), runsNow h (Cmd.barometerWatch i (some w)) s ∧ i < 4096 ∧
      w.queue < 256 ∧ 1 ≤ w.period ∧ w.period ≤ 65535 ∧ 1 ≤ w.depthBase ∧ w.depthBase ≤ 16777215 ∧ 1 ≤ w.sojBase ∧
      w.sojBase ≤ 16777215 ∧ s.hasPort (w.queue / 8) = false) ∧
    (∃ (h : Hdr) (s : State) (i : Nat), runsNow h (Cmd.barometerWatch i none) s ∧ i < 4096) ∧
    (∃ (h : Hdr) (s : State) (i : Nat) (w : Watch), runsNow h (Cmd.barometerRead i true) s ∧ i < 4096 ∧ Tbl.get none
      s.q.watch i = some w) ∧
    (∃ (h : Hdr) (s : State) (i : Nat) (w : Watch), runsNow h (Cmd.barometerRead i false) s ∧ i < 4096 ∧ Tbl.get none
      s.q.watch i = some w) ∧
    (∃ (s : State) (i : Nat) (w : Watch), Tbl.get none s.q.watch i = some w ∧ w.due ≤ switchTime s ∧ wheelTurn
      (WheelKind.barometer i) s = true) ∧
    (∃ (s : State) (i : Nat) (w : Watch), Tbl.get none s.q.watch i = some w ∧ switchTime s < w.due) := ⟨
    ⟨up, fun k x h => by cases k <;> cases h⟩,
    ⟨hd, { up with time := { servo := .track, dDown := some 0, rx := sec 1 * 65536 } }, 31,
      { base := 0, cycle := 1000000000, entries := [(0xFF, 64)] }, by decide⟩,
    ⟨{ withP { gateNext := some { list := { base := 0, cycle := 1000000000, entries := [(0xFF, 64)] }, s := sec 1 } } with time := { servo := .track, dDown := some 0, rx := sec 1 * 65536 } },
      31, { list := { base := 0, cycle := 1000000000, entries := [(0xFF, 64)] }, s := sec 1 }, by decide⟩,
    ⟨withP { gateNext := some { list := { base := 0, cycle := 1000000000, entries := [(0xFF, 64)] }, s := 1 } }, 31,
      { list := { base := 0, cycle := 1000000000, entries := [(0xFF, 64)] }, s := 1 }, by decide⟩,
    ⟨{ withP { gate := some { list := { base := 0, cycle := 1000000000, entries := [(0xFF, 64)] }, s := sec 1 } } with time := { servo := .track, dDown := some 0, rx := sec 1 * 65536 } },
      31, { list := { base := 0, cycle := 1000000000, entries := [(0xFF, 64)] }, s := sec 1 }, by decide⟩,
    ⟨hd, up, 4095, { queue := 65535, period := 65535, depthBase := 16777215, sojBase := 16777215 }, by decide⟩,
    ⟨hd, { up with fuses := { variant := .krt9610, lifecycle := .owned, owner := some 5 } }, 4095,
      { queue := 255, period := 65535, depthBase := 16777215, sojBase := 16777215 }, by decide⟩,
    ⟨hd, up, 4095, by decide⟩,
    ⟨hd,
      { up with q := { watch := [(4095, some { p := { queue := 65535, period := 65535, depthBase := 16777215, sojBase := 16777215 }, due := 0 })] } },
      4095, { p := { queue := 65535, period := 65535, depthBase := 16777215, sojBase := 16777215 }, due := 0 }, by
      decide⟩,
    ⟨hd,
      { up with q := { watch := [(4095, some { p := { queue := 65535, period := 65535, depthBase := 16777215, sojBase := 16777215 }, due := 0 })] } },
      4095, { p := { queue := 65535, period := 65535, depthBase := 16777215, sojBase := 16777215 }, due := 0 }, by
      decide⟩,
    ⟨{ up with q := { watch := [(4095, some { p := { queue := 65535, period := 65535, depthBase := 16777215, sojBase := 16777215 }, due := 0 })] } },
      4095, { p := { queue := 65535, period := 65535, depthBase := 16777215, sojBase := 16777215 }, due := 0 }, by
      decide⟩,
    ⟨{ up with q := { watch := [(4095, some { p := { queue := 65535, period := 65535, depthBase := 16777215, sojBase := 16777215 }, due := 1 })] } },
      4095, { p := { queue := 65535, period := 65535, depthBase := 16777215, sojBase := 16777215 }, due := 1 }, by
      decide⟩⟩

/-- Hypotheses of each clause of Obligations.ClientEgress are met. -/
theorem witness_ClientEgress :
    (∃ (s : State) (p : Nat) (l : List Nat) (u : State) (q : Nat) (d : Tbl Int) (f : EgFrame) (rest : List EgFrame),
      ((headChecks p (creditPort p s)).port p).mayStart s.clk.now = true ∧ eligibleQs p (headChecks p (creditPort p
      s)) = (l, u) ∧ chooseQ (u.port p) l = some (q, d) ∧ Tbl.get [] (u.port p).queues q = f :: rest) ∧
    (∃ (s : State) (p : Nat), ((headChecks p (creditPort p s)).port p).mayStart s.clk.now = false) ∧
    (∃ (s : State) (p : Nat) (f : HostFrame), f.port = p ∧ s.hasPort p = true ∧ f.queue < 8 ∧ (s.port p).cfg.isSome =
      true ∧ (s.port p).up = true ∧ (s.port p).asleep = false ∧ egressBytes (Tbl.get [] (s.port p).queues f.queue) +
      frameLen f.bytes ≤ (Tbl.get { } (s.port p).eg f.queue).limit ∧ poolBytes s + frameLen f.bytes ≤ poolSize ∧ (∀
      (x : EgFrame) (l : List EgFrame), Tbl.get [] (s.port p).queues f.queue = x :: l → x.pkt.md.auth ≠ Auth.fail ∧
      (s.port p).tooLong f.queue (frameLen x.pkt.bytes) = false) ∧ (Tbl.get [] (s.port p).queues f.queue = [] →
      (s.port p).tooLong f.queue (frameLen f.bytes) = false)) ∧
    (∃ (s : State) (p : Nat) (x : Started), (s.port p).started = some x ∧ x.ends ≤ s.clk.now) ∧
    (∃ (s : State) (p : Nat) (f : HostFrame), f.port = p ∧ s.hasPort p = true ∧ f.queue < 8 ∧ (s.port p).up = false) ∧
    (∃ (s : State) (p : Nat) (q : Nat), (∃ f ∈ Tbl.get [] (s.port p).queues q, f.at_ + sec 2 < switchTime s)) ∧
    (∃ (s : State) (p : Nat) (q : Nat), (∀ f ∈ Tbl.get [] (s.port p).queues q, switchTime s ≤ f.at_ + sec 2)) := ⟨
    ⟨(withP
      { up := true, cfg := some { lanes := 1, rate := .g25 }, queues := [(7, [{ pkt := { id := 1, bytes := List.replicate 60 0 }, at_ := 0 }])], eg := [(7, { strict := true })] }),
      31, [7], (eligibleQs 31 (headChecks 31 (creditPort 31 (withP
      { up := true, cfg := some { lanes := 1, rate := .g25 }, queues := [(7, [{ pkt := { id := 1, bytes := List.replicate 60 0 }, at_ := 0 }])], eg := [(7, { strict := true })] })))).2,
      7, [], { pkt := { id := 1, bytes := List.replicate 60 0 }, at_ := 0 }, [], by decide, rfl, by decide, rfl⟩,
    ⟨up, 31, by decide⟩,
    ⟨withP { cfg := some { lanes := 1, rate := .g25 }, up := true }, 31,
      { port := 31, queue := 7, bytes := List.replicate 60 0 }, rfl, by decide, by decide, by decide, by decide, by
      decide, by decide, by decide, nofun, by decide⟩,
    ⟨withP { started := some { q := 7, pkt := { id := 1, bytes := [] }, ends := sec 100 } }, 31,
      { q := 7, pkt := { id := 1, bytes := [] }, ends := sec 100 }, by decide⟩,
    ⟨withP { cfg := some { lanes := 1, rate := .g25 } }, 31, { port := 31, queue := 7, bytes := [] }, by decide⟩,
    ⟨{ withP { queues := [(7, [{ pkt := { id := 1, bytes := List.replicate 60 0 }, at_ := 0 }])] } with time := { servo := .track, dDown := some 0, rx := sec 3 * 65536 } },
      31, 7, by decide⟩,
    ⟨withP { queues := [(7, [{ pkt := { id := 1, bytes := List.replicate 60 0 }, at_ := 0 }])] }, 31, 7, by decide⟩⟩

/-- Hypotheses of each clause of Obligations.Lanes are met. -/
theorem witness_Lanes :
    (∃ (h : Hdr) (s : State) (n : Nat) (a : Bool) (b : Bool) (p : Nat), n < s.variant.lanes ∧ n < 32 ∧ runsNow h
      (Cmd.laneConfig n a b p) s ∧ p ≤ 15) ∧
    (∃ (h : Hdr) (s : State) (n : Nat) (a : Bool) (b : Bool) (p : Nat), n < s.variant.lanes ∧ n < 32 ∧ runsNow h
      (Cmd.laneConfig n a b p) s ∧ 15 < p) ∧
    (∃ (h : Hdr) (s : State) (n : Nat), n < s.variant.lanes ∧ n < 32 ∧ runsNow h (Cmd.laneStatus n) s) ∧
    (∃ (h : Hdr) (s : State) (n : Nat), n < s.variant.lanes ∧ n < 32 ∧ runsNow h (Cmd.laneMonitorSet n
      LaneMode.monitor) s ∧ (s.lane n).mode ≠ LaneMode.monitor) ∧
    (∃ (h : Hdr) (s : State) (n : Nat) (m : LaneMode), n < s.variant.lanes ∧ n < 32 ∧ runsNow h (Cmd.laneMonitorSet n
      m) s ∧ m ≠ LaneMode.monitor ∧ m ≠ (s.lane n).mode ∧ (m = LaneMode.ssprq → ∀ (x : Bool), laneRate n s ≠ some
      (LaneRate.g25, x))) ∧
    (∃ (h : Hdr) (s : State) (n : Nat) (m : LaneMode), n < s.variant.lanes ∧ n < 32 ∧ runsNow h (Cmd.laneMonitorSet n
      m) s ∧ m = (s.lane n).mode ∧ (m = LaneMode.ssprq → ∀ (x : Bool), laneRate n s ≠ some (LaneRate.g25, x))) ∧
    (∃ (h : Hdr) (s : State) (n : Nat) (x : Bool), n < s.variant.lanes ∧ n < 32 ∧ runsNow h (Cmd.laneMonitorSet n
      LaneMode.ssprq) s ∧ laneRate n s = some (LaneRate.g25, x)) ∧
    (∃ (h : Hdr) (s : State) (n : Nat), n < s.variant.lanes ∧ n < 32 ∧ runsNow h (Cmd.lanePatternRead n true) s) ∧
    (∃ (h : Hdr) (s : State) (n : Nat), n < s.variant.lanes ∧ n < 32 ∧ runsNow h (Cmd.lanePatternRead n false) s) ∧
    (∃ (h : Hdr) (s : State) (n : Nat) (q : Nat) (src : RefSource), n < s.variant.lanes ∧ n < 32 ∧ runsNow h
      (Cmd.laneRefclkSet (RefTarget.quad q src)) s ∧ q < 8 ∧ q < s.quads) ∧
    (∃ (h : Hdr) (s : State) (n : Nat) (o : Nat) (src : RefSource) (en : Bool), n < s.variant.lanes ∧ n < 32 ∧
      runsNow h (Cmd.laneRefclkSet (RefTarget.output o src en)) s ∧ o < 2 ∧ src ≠ RefSource.board1) ∧
    (∃ (s : State) (n : Nat), n < s.variant.lanes ∧ s.pwr.asleep = false ∧ (s.lane n).signal = true) ∧
    (∃ (s : State) (n : Nat), n < s.variant.lanes ∧ s.pwr.asleep = false ∧ (s.lane n).signal = false) ∧
    (∃ (s : State) (n : Nat), n < s.variant.lanes ∧ s.pwr.asleep = false ∧ (s.lane n).mode = LaneMode.monitor ∧
      (s.lane n).cdr = true) ∧
    (∃ (s : State) (n : Nat) (r : LaneRate) (multi : Bool) (e : LockSeen) (l : Lane), n < s.variant.lanes ∧
      s.pwr.asleep = false ∧ laneRate n s = some (r, multi) ∧ (s.lane n).mode = LaneMode.monitor ∧ (s.lane n).locks r
      multi e = some l) ∧
    (∃ (s : State) (n : Nat) (r : LaneRate) (multi : Bool) (e : LockSeen), n < s.variant.lanes ∧ s.pwr.asleep = false
      ∧ laneRate n s = some (r, multi) ∧ (s.lane n).mode = LaneMode.monitor ∧ (s.lane n).locks r multi e = none) ∧
    (∃ (s : State) (n : Nat) (l : Lane) (x : List (BitVec 2)), n < s.variant.lanes ∧ s.pwr.asleep = false ∧ l.block =
      false ∧ x.length = 64 ∧ (∀ y ∈ x, y = 1 ∨ y = 2)) ∧
    (∃ (s : State) (n : Nat) (l : Lane) (x : List (BitVec 2)), n < s.variant.lanes ∧ s.pwr.asleep = false ∧ l.block =
      false ∧ (∃ y ∈ x, y = 0 ∨ y = 3)) ∧
    (∃ (s : State) (n : Nat) (l : Lane) (r : LaneRate) (multi : Bool) (a : Nat) (b : Nat), n < s.variant.lanes ∧
      s.pwr.asleep = false ∧ l.align = false ∧ (r ≠ LaneRate.g25 ∨ multi = true ∧ l.block = true) ∧ a ≤ 3 ∧ b ≤ 3) ∧
    (∃ (s : State) (n : Nat) (l : Lane) (r : LaneRate) (multi : Bool) (a : Nat) (b : Nat), n < s.variant.lanes ∧
      s.pwr.asleep = false ∧ l.align = false ∧ (r ≠ LaneRate.g25 ∨ multi = true ∧ l.block = true) ∧ (3 < a ∨ 3 < b)) ∧
    (∃ (s : State) (n : Nat) (r : LaneRate) (multi : Bool) (e : LossSeen) (l : Lane), n < s.variant.lanes ∧
      s.pwr.asleep = false ∧ laneRate n s = some (r, multi) ∧ (s.lane n).mode = LaneMode.monitor ∧ (s.lane n).loses r
      multi e = some l) ∧
    (∃ (s : State) (n : Nat) (r : LaneRate) (multi : Bool) (e : LossSeen), n < s.variant.lanes ∧ s.pwr.asleep = false
      ∧ laneRate n s = some (r, multi) ∧ (s.lane n).mode = LaneMode.monitor ∧ (s.lane n).loses r multi e = none) ∧
    (∃ (s : State) (n : Nat) (l : Lane) (x : List (BitVec 2)), n < s.variant.lanes ∧ s.pwr.asleep = false ∧ l.block =
      true ∧ x.length = 64 ∧ 16 ≤ (List.filter (fun y => y == 0 || y == 3) x).length) ∧
    (∃ (s : State) (n : Nat) (x : List (BitVec 2)), n < s.variant.lanes ∧ s.pwr.asleep = false ∧ (List.filter (fun y
      => y == 0 || y == 3) x).length < 16) ∧
    (∃ (s : State) (n : Nat) (l : Lane) (multi : Bool) (a : Nat) (b : Nat) (c : Nat) (d : Nat) (r : LaneRate), n <
      s.variant.lanes ∧ s.pwr.asleep = false ∧ l.align = true ∧ (r ≠ LaneRate.g25 ∨ multi = true) ∧ 3 < a ∧ 3 < b ∧ 3
      < c ∧ 3 < d) ∧
    (∃ (s : State) (n : Nat) (m : List Nat), n < s.variant.lanes ∧ s.pwr.asleep = false ∧ (∃ a ∈ m, a ≤ 3)) ∧
    (∃ (s : State) (n : Nat), n < s.variant.lanes ∧ s.pwr.asleep = false) ∧
    (∃ (s : State) (n : Nat), n < s.variant.lanes ∧ s.pwr.asleep = false ∧ (s.lane n).mode = LaneMode.monitor) ∧
    (∃ (s : State) (n : Nat) (g : Bool) (w : Nat), n < s.variant.lanes ∧ s.pwr.asleep = false ∧ (s.lane n).mode ≠
      LaneMode.monitor ∧ (s.lane n).patLock ≠ g ∧ (g = true → w = 0) ∧ (g = false → 64 ≤ w)) ∧
    (∃ (s : State) (n : Nat) (w : Nat), n < s.variant.lanes ∧ s.pwr.asleep = false ∧ 0 < w) ∧
    (∃ (s : State) (n : Nat) (w : Nat), n < s.variant.lanes ∧ s.pwr.asleep = false ∧ w < 64) ∧
    (∃ (s : State) (n : Nat), n < s.variant.lanes ∧ s.pwr.asleep = false ∧ (∃ q < s.quads, s.refs.quadRef q =
      RefSource.board0)) := ⟨
    ⟨hd, up, 31, true, true, 15, by decide⟩,
    ⟨hd, up, 31, true, true, 16, by decide⟩,
    ⟨hd, up, 31, by decide⟩,
    ⟨hd, { up with lanes := [(31, { mode := .prbs9 })] }, 31, by decide⟩,
    ⟨hd, up, 31, .ssprq, by decide⟩,
    ⟨hd, { up with lanes := [(31, { mode := .ssprq })] }, 31, .ssprq, by decide⟩,
    ⟨hd, { up with lanes := [(31, {})], ports := [(31, { cfg := some { lanes := 1, rate := .g25 } })] }, 31, by
      decide⟩,
    ⟨hd, up, 31, by decide⟩,
    ⟨hd, up, 31, by decide⟩,
    ⟨hd, up, 31, 7, .line, by decide⟩,
    ⟨hd, up, 31, 1, .line, true, by decide⟩,
    ⟨{ up with lanes := [(31, { signal := true })] }, 31, by decide⟩,
    ⟨up, 31, by decide⟩,
    ⟨{ up with lanes := [(31, { cdr := true })] }, 31, by decide⟩,
    ⟨{ withP { cfg := some { lanes := 1, rate := .g25 } } with lanes := [(31, {})] }, 31, .g25, false, .headers
      (List.replicate 64 1), { block := true, align := true }, by decide⟩,
    ⟨{ withP { cfg := some { lanes := 1, rate := .g25 } } with lanes := [(31, {})] }, 31, .g25, false, .headers
      (List.replicate 63 1 ++ [3]), by decide⟩,
    ⟨up, 31, {}, List.replicate 64 1, by decide⟩,
    ⟨up, 31, {}, List.replicate 63 1 ++ [3], by decide⟩,
    ⟨up, 31, {}, .g53, true, 3, 3, by decide⟩,
    ⟨up, 31, {}, .g53, true, 3, 4, by decide⟩,
    ⟨{ up with ports := [(30, { cfg := some { lanes := 2, rate := .g53 } })], lanes := [(31, { align := true })] },
      31, .g53, true, .skew 180001, { nAlign := 1, skew := true }, by decide⟩,
    ⟨{ up with ports := [(30, { cfg := some { lanes := 2, rate := .g53 } })], lanes := [(31, { align := true })] },
      31, .g53, true, .skew 180000, by decide⟩,
    ⟨up, 31, { block := true }, List.replicate 48 1 ++ List.replicate 16 3, by decide⟩,
    ⟨up, 31, List.replicate 49 1 ++ List.replicate 15 3, by decide⟩,
    ⟨up, 31, { align := true }, true, 4, 4, 4, 4, .g25, by decide⟩,
    ⟨up, 31, [4, 3, 4, 4], by decide⟩,
    ⟨{ up with lanes := [(31, { signal := true })] }, 31, by decide⟩,
    ⟨{ up with lanes := [(31, { signal := true })] }, 31, by decide⟩,
    ⟨{ up with lanes := [(31, { mode := .prbs31, patLock := true })] }, 31, false, 64, by decide⟩,
    ⟨up, 31, 1, by decide⟩,
    ⟨up, 31, 63, by decide⟩,
    ⟨{ up with lanes := [(31, { signal := true })] }, 31, by decide⟩⟩

/-- Hypotheses of each clause of Obligations.DieLink are met. -/
theorem witness_DieLink :
    (∃ (h : Hdr) (s : State) (w : Bool), runsNow h (Cmd.dieRetrain w) s ∧ s.die.split = false) ∧
    (∃ (h : Hdr) (s : State) (w : Bool), runsNow h (Cmd.dieRetrain w) s ∧ s.die.split = true) ∧
    (∃ (s : State) (k : Nat), s.die.split = false ∧ k < 24 ∧ s.die.widthUp < s.die.goodUp) ∧
    (∃ (s : State) (k : Nat), s.die.split = false ∧ k < 24 ∧ s.die.widthDown < s.die.goodDown) ∧
    (∃ (s : State) (k : Nat), s.die.split = false ∧ k < 24 ∧ 1 < s.die.goodUp) ∧
    (∃ (s : State) (d : Bool) (k : Nat), s.die.split = false ∧ k < 24 ∧ (if d = true then s.die.goodDown else
      s.die.goodUp) = 1) ∧
    (∃ (s : State) (u : Nat) (d : Nat) (x : Nat) (y : Nat), s.die.retrain = true ∧ x = min u (if s.die.widen = true
      then 24 else s.die.goodUp) ∧ y = min d (if s.die.widen = true then 24 else s.die.goodDown) ∧ 0 < x ∧ 0 < y) ∧
    (∃ (s : State), s.die.retrain = false) ∧
    (∃ (s : State), s.die.split = false) ∧
    (∃ (s : State), s.die.split = true) ∧
    (∃ (s : State) (u : Nat) (d : Nat), s.die.split = true ∧ 0 < u ∧ 0 < d) ∧
    (∃ (s : State) (u : Nat) (d : Nat), s.die.split = true ∧ (u = 0 ∨ d = 0)) := ⟨
    ⟨hd, up, true, by decide⟩,
    ⟨hd, { up with die := { split := true } }, true, by decide⟩,
    ⟨{ up with die := { goodUp := 21 } }, 23, by decide⟩,
    ⟨{ up with die := { goodUp := 21 } }, 23, by decide⟩,
    ⟨{ up with die := { goodUp := 21 } }, 23, by decide⟩,
    ⟨{ up with die := { goodUp := 1 } }, false, 23, by decide⟩,
    ⟨{ up with die := { retrain := true, goodUp := 20, goodDown := 20 } }, 20, 20, 20, 20, by decide⟩,
    ⟨up, by decide⟩,
    ⟨up, by decide⟩,
    ⟨{ up with die := { split := true } }, by decide⟩,
    ⟨{ up with die := { split := true } }, 1, 1, by decide⟩,
    ⟨{ up with die := { split := true } }, 0, 20, by decide⟩⟩

/-- Hypotheses of each clause of Obligations.PortCommands are met. -/
theorem witness_PortCommands :
    (∃ (h : Hdr) (s : State) (p : Nat) (c : PortParams), p < 32 ∧ s.hasPort p = true ∧ runsNow h (Cmd.portConfig p
      (some c)) s ∧ checkPortConfig p c s = Status.ok) ∧
    (∃ (h : Hdr) (s : State) (p : Nat) (c : PortParams), p < 32 ∧ s.hasPort p = true ∧ runsNow h (Cmd.portConfig p
      (some c)) s ∧ checkPortConfig p c s = Status.lanesInUse ∧ groupsIn GroupState.committed s = []) ∧
    (∃ (h : Hdr) (s : State) (p : Nat), p < 32 ∧ s.hasPort p = true ∧ runsNow h (Cmd.portConfig p none) s) ∧
    (∃ (h : Hdr) (s : State) (p : Nat) (f : FilterParams), p < 32 ∧ s.hasPort p = true ∧ runsNow h (Cmd.portFilterSet
      p f) s ∧ (∀ x ∈ f.entries, x.1 < 64)) ∧
    (∃ (h : Hdr) (s : State) (p : Nat) (x : PauseParams), p < 32 ∧ s.hasPort p = true ∧ runsNow h (Cmd.portPauseSet p
      x) s ∧ pauseOk x = true) ∧
    (∃ (h : Hdr) (s : State) (p : Nat) (x : PauseParams), p < 32 ∧ s.hasPort p = true ∧ runsNow h (Cmd.portPauseSet p
      x) s ∧ pauseOk x = false) ∧
    (∃ (h : Hdr) (s : State) (p : Nat) (rx : Nat) (tx : Nat), p < 32 ∧ s.hasPort p = true ∧ runsNow h
      (Cmd.portTsConfig p rx tx) s ∧ rx ≤ 800 ∧ tx ≤ 800) ∧
    (∃ (h : Hdr) (s : State) (p : Nat) (n : Nat), p < 32 ∧ s.hasPort p = true ∧ runsNow h (Cmd.portTsRead p n) s ∧ 1
      ≤ n ∧ n ≤ 64) ∧
    (∃ (h : Hdr) (s : State) (p : Nat) (ih : Nat) (tw : Nat), p < 32 ∧ s.hasPort p = true ∧ runsNow h (Cmd.portLpiSet
      p true ih tw) s ∧ 1 ≤ ih ∧ ih ≤ 10000 ∧ tw ≤ 65535 ∧ s.variant.lpi = true ∧ lpiMode (s.port p) = true) ∧
    (∃ (h : Hdr) (s : State) (p : Nat) (ih : Nat) (tw : Nat), p < 32 ∧ s.hasPort p = true ∧ runsNow h (Cmd.portLpiSet
      p false ih tw) s ∧ 1 ≤ ih ∧ ih ≤ 10000 ∧ tw ≤ 65535 ∧ s.variant.lpi = true ∧ lpiMode (s.port p) = true) ∧
    (∃ (h : Hdr) (s : State) (p : Nat) (e : Bool) (ih : Nat) (tw : Nat), p < 32 ∧ s.hasPort p = true ∧ runsNow h
      (Cmd.portLpiSet p e ih tw) s ∧ 1 ≤ ih ∧ ih ≤ 10000 ∧ tw ≤ 65535 ∧ s.variant.lpi = true ∧ lpiMode (s.port p) =
      false) ∧
    (∃ (h : Hdr) (s : State) (p : Nat) (e : Bool) (ih : Nat) (tw : Nat), p < 32 ∧ s.hasPort p = true ∧ runsNow h
      (Cmd.portLpiSet p e ih tw) s ∧ 1 ≤ ih ∧ ih ≤ 10000 ∧ tw ≤ 65535 ∧ s.variant.lpi = false) ∧
    (∃ (h : Hdr) (s : State) (p : Nat) (w : Bool), p < 32 ∧ s.hasPort p = true ∧ runsNow h (Cmd.portSleep p true w) s
      ∧ (s.port p).cfg.isSome = true) ∧
    (∃ (h : Hdr) (s : State) (p : Nat) (w : Bool), p < 32 ∧ s.hasPort p = true ∧ runsNow h (Cmd.portSleep p false w)
      s ∧ (s.port p).cfg.isSome = true) ∧
    (∃ (h : Hdr) (s : State) (p : Nat) (x : Bool) (w : Bool), p < 32 ∧ s.hasPort p = true ∧ runsNow h (Cmd.portSleep
      p x w) s ∧ (s.port p).cfg = none) ∧
    (∃ (h : Hdr) (s : State) (p : Nat), p < 32 ∧ s.hasPort p = true ∧ runsNow h (Cmd.portStatsRead p true) s) ∧
    (∃ (h : Hdr) (s : State) (p : Nat), p < 32 ∧ s.hasPort p = true ∧ runsNow h (Cmd.portStatsRead p false) s) := ⟨
    ⟨hd, up, 31, { lanes := 1, rate := .g212, maxFrame := 16000, defPrio := 7 }, by decide⟩,
    ⟨hd, { up with ports := [(24, { cfg := some { lanes := 8, rate := .g212 } })] }, 31,
      { lanes := 1, rate := .g212 }, by decide⟩,
    ⟨hd, up, 31, by decide⟩,
    ⟨hd, up, 31, { promisc := false, bcast := true, mcast := true, entries := [(63, 1, true)] }, by decide⟩,
    ⟨hd, up, 31, { mode := .pause, watchdog := 1000, xoff := [256], xon := [255] }, by decide⟩,
    ⟨hd, up, 31, { watchdog := 0 }, by decide⟩,
    ⟨hd, up, 31, 800, 800, by decide⟩,
    ⟨hd, up, 31, 64, by decide⟩,
    ⟨hd, withP { cfg := some { lanes := 1, rate := .g25 } }, 31, 10000, 65535, by decide⟩,
    ⟨hd, withP { cfg := some { lanes := 1, rate := .g25 } }, 31, 10000, 65535, by decide⟩,
    ⟨hd, up, 31, true, 10000, 65535, by decide⟩,
    ⟨hd, { up with fuses := { variant := .krt9610, lifecycle := .owned, owner := some 5 } }, 0, true, 1, 0, by
      decide⟩,
    ⟨hd, withP { cfg := some { lanes := 1, rate := .g25 } }, 31, true, by decide⟩,
    ⟨hd, withP { cfg := some { lanes := 1, rate := .g25 } }, 31, true, by decide⟩,
    ⟨hd, up, 31, by decide⟩,
    ⟨hd, up, 31, by decide⟩,
    ⟨hd, up, 31, by decide⟩⟩

/-- Hypotheses of each clause of Obligations.FrameReception are met. -/
theorem witness_FrameReception :
    (∃ (s : State) (p : Nat), (s.port p).up = false) ∧
    (∃ (s : State) (p : Nat), (s.port p).up = true) ∧
    (∃ (s : State) (p : Nat) (f : RxFrame), (s.port p).up = true ∧ (f.fcsOk = false ∨ f.pcsErr = true)) ∧
    (∃ (s : State) (p : Nat) (f : RxFrame), (s.port p).up = true ∧ f.fcsOk = true ∧ f.pcsErr = false ∧ frameLen
      f.bytes < 64) ∧
    (∃ (s : State) (p : Nat) (f : RxFrame) (c : PortParams), (s.port p).up = true ∧ f.fcsOk = true ∧ f.pcsErr = false
      ∧ 64 ≤ frameLen f.bytes ∧ (s.port p).cfg = some c ∧ c.maxFrame < frameLen f.bytes) ∧
    (∃ (s : State) (p : Nat) (f : RxFrame) (c : PortParams), (s.port p).up = true ∧ f.fcsOk = true ∧ f.pcsErr = false
      ∧ 64 ≤ frameLen f.bytes ∧ (s.port p).cfg = some c ∧ frameLen f.bytes ≤ c.maxFrame ∧ be f.bytes 12 2 ≠ 0x8808 ∧
      innerType f.bytes ≠ 0x88B5 ∧ be f.bytes 12 2 ≠ 0x88F7 ∧ be f.bytes 12 2 ≠ 0x88CC ∧ (s.port p).accepts (dstOf
      f.bytes) = false) ∧
    (∃ (s : State) (p : Nat) (f : RxFrame) (c : PortParams), (s.port p).up = true ∧ f.fcsOk = true ∧ f.pcsErr = false
      ∧ 64 ≤ frameLen f.bytes ∧ (s.port p).cfg = some c ∧ frameLen f.bytes ≤ c.maxFrame ∧ be f.bytes 12 2 ≠ 0x8808 ∧
      innerType f.bytes ≠ 0x88B5 ∧ be f.bytes 12 2 ≠ 0x88F7 ∧ be f.bytes 12 2 ≠ 0x88CC ∧ (s.port p).accepts (dstOf
      f.bytes) = true ∧ 262144 < fifoBytes (s.port p).fifo + frameLen f.bytes) ∧
    (∃ (s : State) (p : Nat) (f : RxFrame) (c : PortParams), (s.port p).up = true ∧ f.fcsOk = true ∧ f.pcsErr = false
      ∧ 64 ≤ frameLen f.bytes ∧ (s.port p).cfg = some c ∧ frameLen f.bytes ≤ c.maxFrame ∧ be f.bytes 12 2 ≠ 0x8808 ∧
      innerType f.bytes ≠ 0x88B5 ∧ be f.bytes 12 2 ≠ 0x88F7 ∧ be f.bytes 12 2 ≠ 0x88CC ∧ (s.port p).accepts (dstOf
      f.bytes) = true ∧ fifoBytes (s.port p).fifo + frameLen f.bytes ≤ 262144) ∧
    (∃ (s : State) (p : Nat) (f : RxFrame), (s.port p).up = true ∧ f.fcsOk = true ∧ f.pcsErr = false ∧ 64 ≤ frameLen
      f.bytes ∧ frameLen f.bytes ≤ 9600 ∧ (s.port p).cfg = none ∧ be f.bytes 12 2 = 0x8808) := ⟨
    ⟨up, 31, by decide⟩,
    ⟨withP { up := true, cfg := some { lanes := 1, rate := .g25 } }, 31, by decide⟩,
    ⟨withP { up := true, cfg := some { lanes := 1, rate := .g25 } }, 31, { bytes := [], fcsOk := false }, by decide⟩,
    ⟨withP { up := true, cfg := some { lanes := 1, rate := .g25 } }, 31, { bytes := List.replicate 59 0 }, by decide⟩,
    ⟨withP { up := true, cfg := some { lanes := 1, rate := .g25, maxFrame := 64 } }, 31,
      { bytes := List.replicate 61 0 }, { lanes := 1, rate := .g25, maxFrame := 64 }, by decide⟩,
    ⟨withP { up := true, promisc := false, cfg := some { lanes := 1, rate := .g25 } }, 31,
      { bytes := List.replicate 60 0 }, { lanes := 1, rate := .g25 }, by decide⟩,
    (let ⟨s, c, f, h⟩ := full_fifo 262144 (by decide); ⟨s, 31, f, c, h⟩),
    ⟨withP { up := true, cfg := some { lanes := 1, rate := .g25 } }, 31, { bytes := List.replicate 60 0 },
      { lanes := 1, rate := .g25 }, by decide⟩,
    ⟨withP { up := true }, 31, { bytes := List.replicate 12 0 ++ [0x88, 0x08] ++ List.replicate 46 0 }, by decide⟩⟩

/-- Hypotheses of each clause of Obligations.PortEvents are met. -/
theorem witness_PortEvents :
    (∃ (s : State) (p : Nat) (q : Nat) (x : Pause) (u : Instant), Tbl.get { } (s.port p).paused q = x ∧ x.until_ =
      some u ∧ u ≤ s.clk.now) ∧
    (∃ (s : State) (p : Nat) (q : Nat) (x : Pause) (u : Instant), Tbl.get { } (s.port p).paused q = x ∧ x.until_ =
      some u ∧ s.clk.now < u) ∧
    (∃ (s : State) (p : Nat) (q : Nat) (x : Pause) (b : Instant) (u : Instant), Tbl.get { } (s.port p).paused q = x ∧
      x.since = some b ∧ b + ms (s.port p).pause.watchdog ≤ s.clk.now ∧ x.until_ = some u ∧ s.clk.now < u) ∧
    (∃ (s : State) (p : Nat) (q : Nat) (x : Pause) (b : Instant), Tbl.get { } (s.port p).paused q = x ∧ x.since =
      some b ∧ s.clk.now < b + ms (s.port p).pause.watchdog) ∧
    (∃ (s : State) (p : Nat) (q : Nat) (x : Pause) (u : Instant), Tbl.get { } (s.port p).paused q = x ∧ x.ignore =
      some u ∧ u ≤ s.clk.now) ∧
    (∃ (s : State) (p : Nat) (q : Nat) (x : Pause) (u : Instant), Tbl.get { } (s.port p).paused q = x ∧ x.ignore =
      some u ∧ s.clk.now < u) ∧
    (∃ (s : State) (p : Nat) (q : Nat) (x : Pause) (due : Instant), Tbl.get { } (s.port p).paused q = x ∧ Tbl.get
      none (s.port p).xoff q = some due ∧ due ≤ s.clk.now ∧ (s.port p).xonAt q < (s.port p).account q ∧ (s.port p).up
      = true) ∧
    (∃ (s : State) (p : Nat) (q : Nat) (x : Pause) (due : Instant), Tbl.get { } (s.port p).paused q = x ∧ Tbl.get
      none (s.port p).xoff q = some due ∧ s.clk.now < due) ∧
    (∃ (s : State) (p : Nat), (s.port p).cfg.isSome = true ∧ (s.port p).up = false ∧ (s.port p).asleep = false ∧
      lanesReady p s = true) ∧
    (∃ (s : State) (p : Nat), (lanesReady p s = false ∨ (s.port p).asleep = true ∨ (s.port p).cfg = none)) ∧
    (∃ (s : State) (p : Nat), (s.port p).cfg.isSome = true) ∧
    (∃ (s : State) (p : Nat) (tw : Nat), (s.port p).lpi = true ∧ (s.port p).up = true ∧ (s.port p).tw = some tw ∧
      (s.port p).isAwake s.clk.now = true ∧ (s.port p).started = none ∧ (s.port p).busy ≤ s.clk.now ∧ (s.port
      p).idleFrom + us (s.port p).idleHold ≤ s.clk.now ∧ (∀ (k : Nat), Tbl.get [] (s.port p).queues k = [])) ∧
    (∃ (s : State) (p : Nat) (b : Instant), (s.port p).inLpi = some b ∧ (eligibleQs p (creditPort p s)).1 ≠ []) ∧
    (∃ (s : State) (p : Nat), (s.port p).lpi = true ∧ (s.port p).up = true ∧ (∀ (b : Instant), (s.port p).lldpAt =
      some b → b + sec 30 ≤ s.clk.now)) ∧
    (∃ (s : State) (p : Nat), ((s.port p).lpi = false ∨ (s.port p).up = false)) ∧
    (∃ (s : State) (p : Nat), (s.port p).asleep = true ∧ s.pwr.asleep = false) ∧
    (∃ (s : State) (p : Nat), (s.port p).asleep = false) ∧
    (∃ (s : State) (p : Nat), (s.port p).up = true ∧ lpiMode (s.port p) = true ∧ s.variant.lpi = true ∧ (s.port
      p).rxLpi = none) ∧
    (∃ (s : State) (p : Nat) (b : Instant), (s.port p).up = true ∧ lpiMode (s.port p) = true ∧ s.variant.lpi = true ∧
      (s.port p).rxLpi = some b) := ⟨
    ⟨withP { paused := [(7, { until_ := some (sec 100) })] }, 31, 7, { until_ := some (sec 100) }, sec 100, by
      decide⟩,
    ⟨withP { paused := [(7, { until_ := some (sec 101) })] }, 31, 7, { until_ := some (sec 101) }, sec 101, by
      decide⟩,
    ⟨withP { paused := [(7, { until_ := some (sec 101), since := some (sec 99) })] }, 31, 7,
      { until_ := some (sec 101), since := some (sec 99) }, sec 99, sec 101, by decide⟩,
    ⟨withP { paused := [(7, { since := some (sec 100) })] }, 31, 7, { since := some (sec 100) }, sec 100, by decide⟩,
    ⟨withP { paused := [(7, { ignore := some 0 })] }, 31, 7, { ignore := some 0 }, 0, by decide⟩,
    ⟨withP { paused := [(7, { ignore := some (sec 101) })] }, 31, 7, { ignore := some (sec 101) }, sec 101, by
      decide⟩,
    ⟨withP
      { up := true, xoff := [(7, some 0)], cfg := some { lanes := 1, rate := .g25, defPrio := 7 }, fifo := [{ id := 1, bytes := List.replicate 60 0 }] },
      31, 7, {}, 0, by decide⟩,
    ⟨withP { xoff := [(7, some (sec 101))] }, 31, 7, {}, sec 101, by decide⟩,
    ⟨{ withP { cfg := some { lanes := 1, rate := .g25 } } with lanes := [(31, { signal := true, cdr := true, align := true })] },
      31, by decide⟩,
    ⟨up, 31, by decide⟩,
    ⟨{ withP { cfg := some { lanes := 1, rate := .g25 } } with lanes := [(31, { signal := true, cdr := true, align := true })] },
      31, by decide⟩,
    ⟨withP { lpi := true, up := true, tw := some 5 }, 31, 5, by decide, by decide, by decide, by decide, by decide,
      by decide, by decide, fun _ => rfl⟩,
    ⟨withP
      { inLpi := some 0, cfg := some { lanes := 1, rate := .g25 }, queues := [(7, [{ pkt := { id := 1, bytes := List.replicate 60 0 }, at_ := 0 }])] },
      31, 0, by decide⟩,
    ⟨withP { up := true, lpi := true }, 31, by decide, by decide, nofun⟩,
    ⟨{ withP { cfg := some { lanes := 1, rate := .g25 } } with lanes := [(31, { signal := true, cdr := true, align := true })] },
      31, by decide⟩,
    ⟨withP { asleep := true }, 31, by decide⟩,
    ⟨{ withP { cfg := some { lanes := 1, rate := .g25 } } with lanes := [(31, { signal := true, cdr := true, align := true })] },
      31, by decide⟩,
    ⟨withP { up := true, cfg := some { lanes := 1, rate := .g25 } }, 31, by decide⟩,
    ⟨withP { up := true, rxLpi := some 0, cfg := some { lanes := 1, rate := .g25 } }, 31, 0, by decide⟩⟩

/-- Hypotheses of each clause of Obligations.Snapshots are met. -/
theorem witness_Snapshots :
    (∃ (h : Hdr) (s : State) (i : Instant) (b : BitVec 32) (k : Nat), runsNow h (Cmd.statsSnapshot i b) s ∧ (∀ p ∈
      bitmapPorts b, s.hasPort p = true) ∧ instantStatus i s = Status.ok ∧ i ≤ switchTime s + coarseHorizon ∧ k < 8 ∧
      Tbl.get Snapshot.free s.snaps k = Snapshot.free ∧ (∀ j < k, Tbl.get Snapshot.free s.snaps j ≠ Snapshot.free)) ∧
    (∃ (h : Hdr) (s : State) (i : Instant) (b : BitVec 32), runsNow h (Cmd.statsSnapshot i b) s ∧ (∀ p ∈ bitmapPorts
      b, s.hasPort p = true) ∧ instantStatus i s = Status.ok ∧ i ≤ switchTime s + coarseHorizon ∧ (∀ j < 8, Tbl.get
      Snapshot.free s.snaps j ≠ Snapshot.free)) ∧
    (∃ (h : Hdr) (s : State) (i : Instant) (b : BitVec 32), runsNow h (Cmd.statsSnapshot i b) s ∧ (∀ p ∈ bitmapPorts
      b, s.hasPort p = true) ∧ instantStatus i s ≠ Status.ok) ∧
    (∃ (s : State) (k : Nat) (at_ : Instant) (b : BitVec 32), Tbl.get Snapshot.free s.snaps k = Snapshot.pending at_
      b ∧ switchValid s = true ∧ at_ ≤ switchTime s) ∧
    (∃ (s : State) (k : Nat) (at_ : Instant) (b : BitVec 32), Tbl.get Snapshot.free s.snaps k = Snapshot.pending at_
      b ∧ switchTime s < at_) ∧
    (∃ (h : Hdr) (s : State) (k : Nat) (r : Bool) (at_ : Instant) (l : List (Nat × PortStats)), runsNow h
      (Cmd.statsRead k r) s ∧ k < 8 ∧ Tbl.get Snapshot.free s.snaps k = Snapshot.taken at_ l) ∧
    (∃ (h : Hdr) (s : State) (k : Nat) (r : Bool), runsNow h (Cmd.statsRead k r) s ∧ k < 8 ∧ Tbl.get Snapshot.free
      s.snaps k = Snapshot.free) ∧
    (∃ (h : Hdr) (s : State) (k : Nat) (r : Bool) (at_ : Instant) (b : BitVec 32), runsNow h (Cmd.statsRead k r) s ∧
      k < 8 ∧ Tbl.get Snapshot.free s.snaps k = Snapshot.pending at_ b) ∧
    (∃ (h : Hdr) (s : State) (k : Nat) (why : Status), runsNow h (Cmd.statsRead k false) s ∧ k < 8 ∧ Tbl.get
      Snapshot.free s.snaps k = Snapshot.failed why) := ⟨
    ⟨hd,
      { up with time := { servo := .track, dDown := some 0 }, snaps := (List.range 7).map fun k => (k, .pending 1 1) },
      us 10, 0x80000000, 7, by decide, by decide, by decide, by decide, by decide, by decide, by decide⟩,
    ⟨hd,
      { up with time := { servo := .track, dDown := some 0 }, snaps := (List.range 8).map fun k => (k, .pending 1 1) },
      us 10, 0x80000000, by decide⟩,
    ⟨hd, up, 0, 0x80000000, by decide⟩,
    ⟨{ up with time := { servo := .track, dDown := some 0 }, snaps := [(7, .pending 0 1)] }, 7, 0, 1, by decide⟩,
    ⟨{ up with snaps := [(7, .pending 1 1)] }, 7, 1, 1, by decide⟩,
    ⟨hd, { up with snaps := [(7, .taken 0 [])] }, 7, true, 0, [], by decide⟩,
    ⟨hd, up, 0, 0x80000000, by decide⟩,
    ⟨hd, { up with snaps := [(7, .pending 1 1)] }, 7, false, 1, 1, by decide⟩,
    ⟨hd, { up with snaps := [(7, .failed .timeInvalid)] }, 7, .timeInvalid, by decide⟩⟩

/-- Hypotheses of each clause of Obligations.TokenChecks are met. -/
theorem witness_TokenChecks :
    (∃ (h : Hdr) (c : Cmd) (s : State), secRelevant (Cmd.opcode c) = true ∧ notReady (Cmd.opcode c) (takeUp h s) =
      false ∧ s.fuses.lifecycle = Lifecycle.blank) ∧
    (∃ (h : Hdr) (c : Cmd) (s : State), secRelevant (Cmd.opcode c) = true ∧ notReady (Cmd.opcode c) (takeUp h s) =
      false ∧ s.fuses.lifecycle = Lifecycle.unowned) ∧
    (∃ (h : Hdr) (c : Cmd) (s : State), secRelevant (Cmd.opcode c) = true ∧ notReady (Cmd.opcode c) (takeUp h s) =
      false ∧ s.fuses.lifecycle = Lifecycle.owned ∧ s.sec.selfTest = false) ∧
    (∃ (h : Hdr) (c : Cmd) (s : State), secRelevant (Cmd.opcode c) = true ∧ notReady (Cmd.opcode c) (takeUp h s) =
      false ∧ s.fuses.lifecycle = Lifecycle.owned ∧ s.sec.selfTest = true ∧ h.token = none) ∧
    (∃ (h : Hdr) (c : Cmd) (s : State) (t : Token), secRelevant (Cmd.opcode c) = true ∧ notReady (Cmd.opcode c)
      (takeUp h s) = false ∧ s.fuses.lifecycle = Lifecycle.owned ∧ s.sec.selfTest = true ∧ h.token = some t ∧ tokenOk
      t (Cmd.opcode c) s = false) ∧
    (∃ (h : Hdr) (c : Cmd) (s : State) (t : Token), secRelevant (Cmd.opcode c) = true ∧ notReady (Cmd.opcode c)
      (takeUp h s) = false ∧ s.fuses.lifecycle = Lifecycle.owned ∧ s.sec.selfTest = true ∧ h.token = some t ∧ tokenOk
      t (Cmd.opcode c) s = true) ∧
    (∃ (h : Hdr) (c : Cmd) (s : State) (t : Token) (x : Ident × Instant), secRelevant (Cmd.opcode c) = true ∧
      notReady (Cmd.opcode c) (takeUp h s) = false ∧ s.fuses.lifecycle = Lifecycle.owned ∧ s.sec.selfTest = true ∧
      h.token = some t ∧ tokenOk t (Cmd.opcode c) s = true ∧ x ∈ (begun h c s).sec.challenges) := ⟨
    ⟨hd, .secAssocDelete 1, { up with fuses := {} }, by decide⟩,
    ⟨hd, .secAssocDelete 1, { up with fuses := { lifecycle := .unowned } }, by decide⟩,
    ⟨hd, .secAssocDelete 1, { up with sec := { selfTest := false } }, by decide⟩,
    ⟨hd, .secAssocDelete 1, up, by decide⟩,
    ⟨tok 0x0905, .secAssocDelete 1, up, (tok 0x0905).token.get rfl, by decide⟩,
    ⟨tok 0x0907, .secAssocDelete 1, up, (tok 0x0907).token.get rfl, by decide⟩,
    ⟨tok 0x0306, .carrierGateCeiling 3 4000, { up with sec := { challenges := [(7, 0), (8, 0)] } }, token 0x0306, (8,
      0), by decide⟩⟩

/-- Hypotheses of each clause of Obligations.SecuritySettings are met. -/
theorem witness_SecuritySettings :
    (∃ (h : Hdr) (s : State), runsNow h Cmd.secChallenge s ∧ s.sec.rngOk = true) ∧
    (∃ (h : Hdr) (s : State), runsNow h Cmd.secChallenge s ∧ s.sec.rngOk = false) ∧
    (∃ (h : Hdr) (s : State) (c : Ident) (d : Digest), runsNow h (Cmd.secOwnerEnrol c d true true) s ∧
      s.fuses.lifecycle ≠ Lifecycle.owned ∧ (∃ x ∈ s.sec.challenges, x.1 = c)) ∧
    (∃ (h : Hdr) (s : State) (c : Ident) (d : Digest) (a : Bool) (b : Bool), runsNow h (Cmd.secOwnerEnrol c d a b) s
      ∧ s.fuses.lifecycle = Lifecycle.owned) ∧
    (∃ (h : Hdr) (s : State) (c : Ident) (d : Digest) (a : Bool) (b : Bool), runsNow h (Cmd.secOwnerEnrol c d a b) s
      ∧ s.fuses.lifecycle ≠ Lifecycle.owned ∧ (a = false ∨ b = false ∨ ∀ x ∈ s.sec.challenges, x.1 ≠ c)) ∧
    (∃ (h : Hdr) (s : State) (d : Nat), runsNow h (Cmd.secSidechannelSet d) s ∧ d ≤ 2) ∧
    (∃ (h : Hdr) (s : State) (d : Nat), runsNow h (Cmd.secSidechannelSet d) s ∧ 2 < d) ∧
    (∃ (h : Hdr) (s : State), runsNow h Cmd.secDebugUnlock s) ∧
    (∃ (h : Hdr) (s : State) (e : Bool), runsNow h (Cmd.secCompatSet e) s) := ⟨
    ⟨hd, up, by decide⟩,
    ⟨hd, { up with sec := { rngOk := false } }, by decide⟩,
    ⟨hd, { up with fuses := { lifecycle := .unowned } }, 7, 99, by decide⟩,
    ⟨hd, up, 7, 99, true, true, by decide⟩,
    ⟨hd, { up with fuses := { lifecycle := .unowned } }, 7, 99, true, false, by decide⟩,
    ⟨tok 0x090B, up, 2, by decide⟩,
    ⟨tok 0x090B, up, 3, by decide⟩,
    ⟨tok 0x090C, up, by decide⟩,
    ⟨tok 0x090D, up, true, by decide⟩⟩

/-- Hypotheses of each clause of Obligations.AssociationCommands are met. -/
theorem witness_AssociationCommands :
    (∃ (h : Hdr) (s : State) (i : Nat) (p : AssocParams), 1 ≤ i ∧ i ≤ 4095 ∧ runsNow h (Cmd.secAssocCreate i p) s ∧
      p.initiate = false ∧ p.trib ≤ 63 ∧ 1 ≤ p.armTime ∧ p.armTime ≤ 86400 ∧ s.sec.unlocked = false ∧ (s.assoc
      i).state = AssocState.free) ∧
    (∃ (h : Hdr) (s : State) (i : Nat) (p : AssocParams), 1 ≤ i ∧ i ≤ 4095 ∧ runsNow h (Cmd.secAssocCreate i p) s ∧
      p.initiate = true ∧ p.trib ≤ 63 ∧ p.peerNum ≤ 63 ∧ s.sec.unlocked = false ∧ (s.assoc i).state = AssocState.free
      ∧ s.sec.rngOk = true) ∧
    (∃ (h : Hdr) (s : State) (i : Nat) (p : AssocParams), 1 ≤ i ∧ i ≤ 4095 ∧ runsNow h (Cmd.secAssocCreate i p) s ∧
      p.trib ≤ 63 ∧ (p.initiate = true → p.peerNum ≤ 63) ∧ (p.initiate = false → 1 ≤ p.armTime ∧ p.armTime ≤ 86400) ∧
      s.sec.unlocked = false ∧ (s.assoc i).state ≠ AssocState.free) ∧
    (∃ (h : Hdr) (s : State) (i : Nat), 1 ≤ i ∧ i ≤ 4095 ∧ runsNow h (Cmd.secAssocRekey i) s ∧ (s.assoc i).state =
      AssocState.active ∧ (s.assoc i).agree = none ∧ (s.assoc i).staged = none ∧ max ((Option.map (fun x => x.gen)
      (s.assoc i).tx).getD 0) (s.assoc i).lastGen < 2 ^ 32 - 1 ∧ s.sec.rngOk = true) ∧
    (∃ (h : Hdr) (s : State) (i : Nat), 1 ≤ i ∧ i ≤ 4095 ∧ runsNow h (Cmd.secAssocDelete i) s ∧ (s.assoc i).state ≠
      AssocState.free) ∧
    (∃ (h : Hdr) (s : State) (i : Nat) (n : Nat) (hold : Nat), 1 ≤ i ∧ i ≤ 4095 ∧ runsNow h (Cmd.secAssocConfig i n
      hold) s ∧ 1 ≤ n ∧ n ≤ 65535 ∧ 10 ≤ hold ∧ hold ≤ 2000 ∧ (s.assoc i).state ≠ AssocState.free) ∧
    (∃ (h : Hdr) (s : State) (i : Nat), 1 ≤ i ∧ i ≤ 4095 ∧ runsNow h (Cmd.secAssocResume i) s ∧ (s.assoc i).state =
      AssocState.active) := ⟨
    ⟨tok 0x0905, up, 4095, { initiate := false, peer := 1, trib := 63, armTime := 86400 }, by decide⟩,
    ⟨tok 0x0905, up, 4095, { initiate := true, peer := 1, trib := 63, peerNum := 63 }, by decide⟩,
    ⟨tok 0x0905, { up with sec := { challenges := [(7, 0)], assocs := [(4095, { state := .armed })] } }, 4095,
      { initiate := true, peer := 1, trib := 63, peerNum := 63 }, by decide⟩,
    ⟨tok 0x0906,
      { up with sec := { challenges := [(7, 0)], assocs := [(4095, { state := .active, tx := some { name := 1, gen := 4294967294 } })] } },
      4095, by decide⟩,
    ⟨tok 0x0907, { up with sec := { challenges := [(7, 0)], assocs := [(4095, { state := .active })] } }, 4095, by
      decide⟩,
    ⟨tok 0x0909, { up with sec := { challenges := [(7, 0)], assocs := [(4095, { state := .active })] } }, 4095,
      65535, 2000, by decide⟩,
    ⟨tok 0x090A, { up with sec := { challenges := [(7, 0)], assocs := [(4095, { state := .active })] } }, 4095, by
      decide⟩⟩

/-- Hypotheses of each clause of Obligations.CipherJobs are met. -/
theorem witness_CipherJobs :
    (∃ (h : Hdr) (s : State) (i : Nat) (a : Nat) (len : Nat), 1 ≤ i ∧ i ≤ 4095 ∧ 1 ≤ len ∧ runsNow h (Cmd.cipherJob
      true i a len false) s ∧ len ≤ 16384 ∧ jobOk true i s = true) ∧
    (∃ (h : Hdr) (s : State) (i : Nat) (a : Nat) (len : Nat), 1 ≤ i ∧ i ≤ 4095 ∧ 1 ≤ len ∧ runsNow h (Cmd.cipherJob
      false i a len false) s ∧ len ≤ 16384 ∧ jobOk false i s = true) ∧
    (∃ (h : Hdr) (s : State) (i : Nat) (a : Nat) (len : Nat) (x : Bool), 1 ≤ i ∧ i ≤ 4095 ∧ 1 ≤ len ∧ runsNow h
      (Cmd.cipherJob x i a len false) s ∧ len ≤ 16384 ∧ jobOk x i s = false) ∧
    (∃ (h : Hdr) (s : State) (i : Nat) (a : Nat) (len : Nat) (x : Bool), 1 ≤ i ∧ i ≤ 4095 ∧ 1 ≤ len ∧ runsNow h
      (Cmd.cipherJob x i a len false) s ∧ s.sec.compat = false ∧ 16384 < len) ∧
    (∃ (h : Hdr) (s : State) (i : Nat) (a : Nat) (len : Nat) (x : Bool), 1 ≤ i ∧ i ≤ 4095 ∧ 1 ≤ len ∧ runsNow h
      (Cmd.cipherJob x i a len false) s ∧ s.sec.compat = true ∧ 16384 < len ∧ len ≤ 1048576 ∧ jobOk x i s = true ∧
      s.sec.job = none) := ⟨
    ⟨hd, { up with sec := { challenges := [(7, 0)], assocs := [(4095, { state := .active })] } }, 4095, 0, 16384, by
      decide⟩,
    ⟨hd, { up with sec := { challenges := [(7, 0)], assocs := [(4095, { state := .active })] } }, 4095, 0, 16384, by
      decide⟩,
    ⟨hd, up, 4095, 0, 16384, true, by decide⟩,
    ⟨hd, { up with sec := { challenges := [(7, 0)], assocs := [(4095, { state := .active })] } }, 4095, 0, 16385,
      true, by decide⟩,
    ⟨hd, { up with sec := { challenges := [(7, 0)], compat := true, assocs := [(4095, { state := .active })] } },
      4095, 0, 1048576, true, by decide⟩⟩

/-- Hypotheses of each clause of Obligations.SealingAndUnsealing are met. -/
theorem witness_SealingAndUnsealing :
    (∃ (s : State) (p : Pkt) (l : List Pkt), s.cls.sealQ = p :: l ∧ stagingRoom (p.bytes.length + 32) s = false) ∧
    (∃ (s : State) (p : Pkt) (l : List Pkt) (f : Queues → Queues), s.cls.sealQ = p :: l ∧ stagingRoom (p.bytes.length
      + 32) s = true ∧ sealCheck p.md.assoc p.md.cls p.bytes.length s = some f) ∧
    (∃ (s : State) (p : Pkt) (l : List Pkt) (k : Nat) (key : Key), s.cls.sealQ = p :: l ∧ stagingRoom (p.bytes.length
      + 32) s = true ∧ sealCheck p.md.assoc p.md.cls p.bytes.length s = none ∧ leafOf p.md.assoc p.md.cls
      p.md.flowGroup s = some k ∧ (s.assoc p.md.assoc).tx = some key) ∧
    (∃ (s : State) (x : Sealed) (l : List Sealed), s.down.ready = x :: l) ∧
    (∃ (s : State) (x : Sealed) (l : List Sealed), s.down.ready = x :: l ∧ x.assoc ≠ 0 ∧ (s.assoc x.assoc).state =
      AssocState.free) ∧
    (∃ (s : State) (x : Sealed) (l : List Sealed) (k : Key), s.down.ready = x :: l ∧ x.assoc ≠ 0 ∧ unsealCheck x s =
      Sum.inr k) ∧
    (∃ (s : State) (x : Sealed) (l : List Sealed) (r : Nat), s.down.ready = x :: l ∧ x.assoc ≠ 0 ∧ unsealCheck x s =
      Sum.inl r ∧ (s.assoc x.assoc).state ≠ AssocState.free) ∧
    (∃ (s : State) (id : Nat) (u : Unsealing), List.find? (fun u => u.id == id) s.sec.unsealing = some u ∧ (s.assoc
      u.assoc).state ≠ AssocState.free) := ⟨
    full_staging 8388608 (by decide),
    ⟨{ up with cls := { sealQ := [{ id := 1, bytes := [], md := { assoc := 4095 } }] } },
      { id := 1, bytes := [], md := { assoc := 4095 } }, [], _, rfl, by decide, rfl⟩,
    ⟨{ up with cls := { sealQ := [{ id := 1, bytes := [0], md := { assoc := 1 } }] }, sec := { assocs := [(1, { state := .active, classMask := 1, tx := some { name := 1, gen := 1 } })] }, q := { tab := [(256, some { assoc := 1, cls := 0, group := 0, limit := 1, ylim := 1 })] } },
      { id := 1, bytes := [0], md := { assoc := 1 } }, [], 256, { name := 1, gen := 1 }, by decide, rfl, by decide,
      by decide⟩,
    ⟨{ up with down := { ready := [{ carrier := 3, assoc := 1, cls := 0, src := 0, kept := 0, bytes := [] }] } },
      { carrier := 3, assoc := 1, cls := 0, src := 0, kept := 0, bytes := [] }, [], by decide⟩,
    ⟨{ up with down := { ready := [{ carrier := 3, assoc := 1, cls := 0, src := 0, kept := 0, bytes := [] }] } },
      { carrier := 3, assoc := 1, cls := 0, src := 0, kept := 0, bytes := [] }, [], by decide⟩,
    ⟨{ up with down := { ready := [{ carrier := 3, assoc := 1, cls := 0, src := 0, kept := 0, bytes := [0, 0x10] ++ List.replicate 13 0 ++ [1] ++ List.replicate 17 0 }] }, sec := { assocs := [(1, { state := .active, rx := [{ name := 1, gen := 0 }] })] } },
      { carrier := 3, assoc := 1, cls := 0, src := 0, kept := 0, bytes := [0, 0x10] ++ List.replicate 13 0 ++ [1] ++ List.replicate 17 0 },
      [], { name := 1, gen := 0 }, by decide, by decide, by decide⟩,
    ⟨{ up with down := { ready := [{ carrier := 3, assoc := 1, cls := 0, src := 0, kept := 0, bytes := [] }] }, sec := { assocs := [(1, { state := .active })] } },
      { carrier := 3, assoc := 1, cls := 0, src := 0, kept := 0, bytes := [] }, [], 0, by decide⟩,
    ⟨{ up with sec := { unsealing := [{ id := 1, assoc := 4095, gen := 0, pn := 1, src := 0 }], assocs := [(4095, { state := .active })] } },
      1, { id := 1, assoc := 4095, gen := 0, pn := 1, src := 0 }, by decide⟩⟩

/-- Hypotheses of each clause of Obligations.Agreements are met. -/
theorem witness_Agreements :
    (∃ (s : State) (m : HelloMsg) (i : Nat), m.sigsOk = true ∧ m.itemsOk = true ∧ m.responder = s.sec.digest ∧
      helloFor m s = HelloFor.take i ∧ s.sec.rngOk = true) ∧
    (∃ (m : HelloMsg), m.sigsOk = false) ∧
    (∃ (s : State) (m : ReplyMsg) (g : Agreement), (s.assoc m.idx).agree = some g ∧ g.initiator = true ∧ g.gen =
      m.gen ∧ g.replied = false ∧ m.itemsOk = true ∧ m.sigsOk = true ∧ m.sender = (s.assoc m.idx).peer) ∧
    (∃ (s : State) (m : ConfirmMsg) (g : Agreement), (s.assoc m.idx).agree = some g ∧ g.initiator = false ∧ g.gen =
      m.gen ∧ g.rekey = false ∧ m.hmacOk = true) ∧
    (∃ (s : State) (m : ConfirmMsg) (g : Agreement), (s.assoc m.idx).agree = some g ∧ g.initiator = true ∧ g.replied
      = true ∧ g.gen = m.gen ∧ g.rekey = false ∧ m.hmacOk = true) ∧
    (∃ (s : State) (m : ConfirmMsg), (s.assoc m.idx).state = AssocState.active ∧ (s.assoc m.idx).closed = false ∧
      m.hmacOk = true) ∧
    (∃ (m : ConfirmMsg), m.hmacOk = false) ∧
    (∃ (s : State) (i : Nat) (g : Agreement), (s.assoc i).agree = some g ∧ g.initiator = true ∧ g.replied = false ∧
      g.sent < 4 ∧ g.lastSend + ms 400 ≤ s.clk.now) ∧
    (∃ (s : State) (i : Nat) (g : Agreement), (s.assoc i).agree = some g ∧ g.initiator = false ∧ g.hdr = none ∧
      g.rekey = false ∧ g.lastSend + ms 1500 ≤ s.clk.now) ∧
    (∃ (s : State) (i : Nat) (g : Agreement), (s.assoc i).agree = some g ∧ g.initiator = true ∧ g.rekey = false ∧
      g.start + ms 2000 ≤ s.clk.now) ∧
    (∃ (s : State) (i : Nat) (g : Agreement), (s.assoc i).agree = some g ∧ g.initiator = true ∧ g.rekey = true ∧
      g.start + ms 2000 ≤ s.clk.now) ∧
    (∃ (s : State) (i : Nat), (s.assoc i).state = AssocState.armed ∧ (s.assoc i).armUntil ≤ s.clk.now) ∧
    (∃ (s : State) (i : Nat) (t0 : Instant), (s.assoc i).oldUntil = some t0 ∧ t0 ≤ s.clk.now) ∧
    (∃ (s : State) (i : Nat) (t0 : Instant), (s.assoc i).oldUntil = some t0 ∧ s.clk.now < t0) := ⟨
    ⟨{ up with sec := { assocs := [(1, { state := .armed, peer := 1 })] }, clk := { now := sec 2 } },
      { sender := 1, senderNum := 0, responder := 0, idx := 2, suite := .gcm256, trib := 0, classMask := 0, gen := 1, nonce := 1 },
      1, by decide⟩,
    ⟨{ sender := 1, senderNum := 0, responder := 0, idx := 2, suite := .gcm256, trib := 0, classMask := 0, gen := 1, nonce := 1, sigsOk := false },
      by decide⟩,
    ⟨{ up with sec := { assocs := [(1, { agree := some { initiator := true, gen := 1, nonce := 1, start := 0, lastSend := 0 } })] }, clk := { now := sec 2 } },
      { sender := 0, idx := 1, peerIdx := 2, gen := 1, nonce := 2 },
      { initiator := true, gen := 1, nonce := 1, start := 0, lastSend := 0 }, by decide⟩,
    ⟨{ up with sec := { assocs := [(1, { agree := some { initiator := false, gen := 1, nonce := 1, start := 0, lastSend := 0 } })] }, clk := { now := sec 2 } },
      { idx := 1, gen := 1 }, { initiator := false, gen := 1, nonce := 1, start := 0, lastSend := 0 }, by decide⟩,
    ⟨{ up with sec := { assocs := [(1, { agree := some { initiator := true, gen := 1, nonce := 1, start := 0, lastSend := 0, replied := true } })] }, clk := { now := sec 2 } },
      { idx := 1, gen := 1 },
      { initiator := true, gen := 1, nonce := 1, start := 0, lastSend := 0, replied := true }, by decide⟩,
    ⟨{ up with sec := { assocs := [(1, { state := .active })] }, clk := { now := sec 2 } }, { idx := 1, gen := 1 },
      by decide⟩,
    ⟨{ idx := 1, gen := 1, hmacOk := false }, by decide⟩,
    ⟨{ up with sec := { assocs := [(1, { agree := some { initiator := true, gen := 1, nonce := 1, start := 0, lastSend := 0, sent := 3 } })] }, clk := { now := sec 2 } },
      1, { initiator := true, gen := 1, nonce := 1, start := 0, lastSend := 0, sent := 3 }, by decide⟩,
    ⟨{ up with sec := { assocs := [(1, { agree := some { initiator := false, gen := 1, nonce := 1, start := 0, lastSend := 0 } })] }, clk := { now := sec 2 } },
      1, { initiator := false, gen := 1, nonce := 1, start := 0, lastSend := 0 }, by decide⟩,
    ⟨{ up with sec := { assocs := [(1, { agree := some { initiator := true, gen := 1, nonce := 1, start := 0, lastSend := 0, sent := 3 } })] }, clk := { now := sec 2 } },
      1, { initiator := true, gen := 1, nonce := 1, start := 0, lastSend := 0, sent := 3 }, by decide⟩,
    ⟨{ up with sec := { assocs := [(1, { agree := some { initiator := true, gen := 1, nonce := 1, start := 0, lastSend := 0, rekey := true } })] }, clk := { now := sec 2 } },
      1, { initiator := true, gen := 1, nonce := 1, start := 0, lastSend := 0, rekey := true }, by decide⟩,
    ⟨{ up with sec := { assocs := [(1, { state := .armed, armUntil := sec 2 })] }, clk := { now := sec 2 } }, 1, by
      decide⟩,
    ⟨{ up with sec := { assocs := [(1, { oldUntil := some (sec 2) })] }, clk := { now := sec 2 } }, 1, sec 2, by
      decide⟩,
    ⟨{ up with sec := { assocs := [(1, { oldUntil := some (sec 3) })] }, clk := { now := sec 2 } }, 1, sec 3, by
      decide⟩⟩

/-- Hypotheses of each clause of Obligations.CommitApply are met. -/
theorem witness_CommitApply :
    (∃ (h : Hdr) (s : State) (g : Nat) (i : Instant), 1 ≤ g ∧ g ≤ 255 ∧ runsNow h (Cmd.commitApply g i) s ∧ ((s.grp
      g).state ≠ GroupState.open_ ∨ (s.grp g).owner ≠ h.transport)) ∧
    (∃ (h : Hdr) (s : State) (g : Nat) (i : Instant), 1 ≤ g ∧ g ≤ 255 ∧ runsNow h (Cmd.commitApply g i) s ∧ (s.grp
      g).state = GroupState.open_ ∧ (s.grp g).owner = h.transport ∧ switchValid s = false) ∧
    (∃ (h : Hdr) (s : State) (g : Nat) (i : Instant), 1 ≤ g ∧ g ≤ 255 ∧ runsNow h (Cmd.commitApply g i) s ∧ (s.grp
      g).state = GroupState.open_ ∧ (s.grp g).owner = h.transport ∧ switchValid s = true ∧ i < switchTime s + us 10) ∧
    (∃ (h : Hdr) (s : State) (g : Nat) (i : Instant), 1 ≤ g ∧ g ≤ 255 ∧ runsNow h (Cmd.commitApply g i) s ∧ (s.grp
      g).state = GroupState.open_ ∧ (s.grp g).owner = h.transport ∧ switchValid s = true ∧ switchTime s + us 10 ≤ i ∧
      switchTime s + sec 60 < i) ∧
    (∃ (h : Hdr) (s : State) (g : Nat) (i : Instant), 1 ≤ g ∧ g ≤ 255 ∧ runsNow h (Cmd.commitApply g i) s ∧ (s.grp
      g).state = GroupState.open_ ∧ (s.grp g).owner = h.transport ∧ switchValid s = true ∧ switchTime s + us 10 ≤ i ∧
      i ≤ switchTime s + sec 60 ∧ needsFrame (s.grp g).changes s = true ∧ i % frameTime ≠ 0) ∧
    (∃ (h : Hdr) (s : State) (g : Nat) (i : Instant) (st : Status), 1 ≤ g ∧ g ≤ 255 ∧ runsNow h (Cmd.commitApply g i)
      s ∧ (s.grp g).state = GroupState.open_ ∧ (s.grp g).owner = h.transport ∧ switchValid s = true ∧ switchTime s +
      us 10 ≤ i ∧ i ≤ switchTime s + sec 60 ∧ (needsFrame (s.grp g).changes s = true → i % frameTime = 0) ∧ wrongSwap
      (s.grp g).changes i = false ∧ st ≠ Status.ok ∧ locksStatus g (effective i) (locksOf (s.grp g).changes) s = st) ∧
    (∃ (h : Hdr) (s : State) (g : Nat) (i : Instant), 1 ≤ g ∧ g ≤ 255 ∧ runsNow h (Cmd.commitApply g i) s ∧ (s.grp
      g).state = GroupState.open_ ∧ (s.grp g).owner = h.transport ∧ switchValid s = true ∧ switchTime s + us 10 ≤ i ∧
      i ≤ switchTime s + sec 60 ∧ (needsFrame (s.grp g).changes s = true → i % frameTime = 0) ∧ wrongSwap (s.grp
      g).changes i = false ∧ locksStatus g (effective i) (locksOf (s.grp g).changes) s = Status.ok) ∧
    (∃ (g : Nat) (i : Instant), 1 ≤ g ∧ g ≤ 255 ∧ i % frameTime = 0) ∧
    (∃ (g : Nat) (i : Instant), 1 ≤ g ∧ g ≤ 255 ∧ i % frameTime ≠ 0) ∧
    (∃ (s : State) (g : Nat), 1 ≤ g ∧ g ≤ 255 ∧ (s.grp g).state = GroupState.committed ∧ (s.grp g).changes = [] ∧
      (s.grp g).shadowBad = none ∧ switchValid s = true ∧ (s.grp g).eff ≤ switchTime s) := ⟨
    ⟨hd, up, 255, frameTime, by decide⟩,
    ⟨hd, { up with groups := [(255, { state := .open_ })] }, 255, frameTime, by decide⟩,
    ⟨hd, { up with groups := [(255, { state := .open_ })], time := { servo := .track, dDown := some 0 } }, 255, us 9,
      by decide⟩,
    ⟨hd, { up with groups := [(255, { state := .open_ })], time := { servo := .track, dDown := some 0 } }, 255, sec
      60 + 1, by decide⟩,
    ⟨hd,
      { up with groups := [(255, { state := .open_, changes := [{ cmd := .tribPageSwap 0 none, hdr := {} }] })], time := { servo := .track, dDown := some 0 } },
      255, frameTime + 1, by decide⟩,
    ⟨hd,
      { up with groups := [(255, { state := .open_, changes := [{ cmd := .queueSet 65535 {}, hdr := {} }] }), (254, { state := .committed, eff := sec 60, locks := [{ cls := 4, obj := 65535 }] })], time := { servo := .track, dDown := some 0 } },
      255, frameTime, .lockConflict, by decide⟩,
    ⟨hd,
      { up with groups := [(255, { state := .open_, changes := [{ cmd := .queueSet 65535 {}, hdr := {} }] })], time := { servo := .track, dDown := some 0 } },
      255, frameTime, by decide⟩,
    ⟨255, frameTime, by decide⟩,
    ⟨255, us 10, by decide⟩,
    ⟨{ up with groups := [(255, { state := .committed, eff := 0 })], time := { servo := .track, dDown := some 0 } },
      255, by decide⟩⟩

/-- Hypotheses of each clause of Obligations.CommitGroups are met. -/
theorem witness_CommitGroups :
    (∃ (h : Hdr) (s : State) (n : Nat) (g : Nat), runsNow h (Cmd.commitOpen n) s ∧ 1 ≤ n ∧ n ≤ 3600 ∧ 1 ≤ g ∧ g ≤ 255
      ∧ (s.grp g).state = GroupState.free ∧ (∀ (k : Nat), 1 ≤ k → k < g → (s.grp k).state ≠ GroupState.free) ∧
      (List.filter (fun x => x.2.state == GroupState.open_ || x.2.state == GroupState.committed) s.groups).length <
      32) ∧
    (∃ (h : Hdr) (s : State) (n : Nat), runsNow h (Cmd.commitOpen n) s ∧ 1 ≤ n ∧ n ≤ 3600 ∧ (32 ≤ (List.filter (fun x
      => x.2.state == GroupState.open_ || x.2.state == GroupState.committed) s.groups).length ∨ ∀ (k : Nat), 1 ≤ k →
      k ≤ 255 → (s.grp k).state ≠ GroupState.free)) ∧
    (∃ (h : Hdr) (s : State) (n : Nat), runsNow h (Cmd.commitOpen n) s ∧ (n = 0 ∨ 3600 < n)) ∧
    (∃ (h : Hdr) (s : State) (g : Nat), runsNow h (Cmd.commitAbort g) s ∧ 1 ≤ g ∧ g ≤ 255 ∧ ((s.grp g).state =
      GroupState.open_ ∨ (s.grp g).state = GroupState.committed) ∧ (s.grp g).owner = h.transport ∧ (s.grp g).checked
      = false) ∧
    (∃ (h : Hdr) (s : State) (g : Nat), runsNow h (Cmd.commitAbort g) s ∧ 1 ≤ g ∧ g ≤ 255 ∧ ((s.grp g).state ≠
      GroupState.open_ ∧ (s.grp g).state ≠ GroupState.committed ∨ (s.grp g).owner ≠ h.transport ∨ (s.grp g).checked =
      true)) ∧
    (∃ (h : Hdr) (s : State) (g : Nat) (i : Instant), runsNow h (Cmd.commitApply g i) s ∧ 1 ≤ g ∧ g ≤ 255 ∧ (s.grp
      g).state = GroupState.open_ ∧ (s.grp g).owner = h.transport ∧ instantStatus i s = Status.ok ∧ i ≤ switchTime s
      + sec 60 ∧ wrongSwap (s.grp g).changes i = true) ∧
    (∃ (s : State) (g : Nat), (s.grp g).state = GroupState.committed ∧ (s.grp g).checked = false ∧ (s.grp g).eff ≤
      switchTime s + us 1 ∧ readiness g s = none) ∧
    (∃ (s : State) (g : Nat) (why : Status) (k : Nat), (s.grp g).state = GroupState.committed ∧ (s.grp g).checked =
      false ∧ (s.grp g).eff ≤ switchTime s + us 1 ∧ readiness g s = some (why, k)) ∧
    (∃ (s : State) (g : Nat), switchTime s + us 1 < (s.grp g).eff) ∧
    (∃ (s : State) (g : Nat), ((s.grp g).state ≠ GroupState.committed ∨ switchTime s < (s.grp g).eff)) ∧
    (∃ (s : State) (g : Nat), (s.grp g).state = GroupState.committed ∧ (s.grp g).checked = true ∧ (s.grp g).eff ≤
      switchTime s) ∧
    (∃ (s : State) (g : Nat), (s.grp g).state = GroupState.committed ∧ (s.grp g).checked = true ∧ (s.grp g).eff ≤
      switchTime s ∧ (s.grp g).changes = []) ∧
    (∃ (s : State) (g : Nat) (c : Staged) (q : Nat) (p : QueueParams) (v : Queue), (s.grp g).state =
      GroupState.committed ∧ (s.grp g).checked = true ∧ (s.grp g).eff ≤ switchTime s ∧ (s.grp g).changes = [c] ∧
      c.cmd = Cmd.queueSet q p ∧ s.queue q = some v) ∧
    (∃ (s : State) (g : Nat), (s.grp g).state = GroupState.open_ ∧ (s.grp g).active + sec (s.grp g).timeout ≤
      s.clk.now) ∧
    (∃ (s : State) (g : Nat), ((s.grp g).state = GroupState.done ∨ (s.grp g).state = GroupState.aborted) ∧ (s.grp
      g).active + sec 10 ≤ s.clk.now) ∧
    (∃ (s : State) (g : Nat), s.clk.now < (s.grp g).active + sec 10) := ⟨
    ⟨hd, up, 3600, 1, by decide, by decide, by decide, by decide, by decide, by decide, (fun k a b => by omega), by
      decide⟩,
    ⟨hd, { up with groups := (List.range 32).map fun k => (k + 1, { state := .open_ }) }, 3600, by decide, by decide,
      by decide, .inl (by decide)⟩,
    ⟨hd, up, 3601, by decide⟩,
    ⟨hd, { up with groups := [(255, { state := .open_ })] }, 255, by decide⟩,
    ⟨hd, { up with groups := [(255, { state := .committed, checked := true })] }, 255, by decide⟩,
    ⟨hd,
      { up with groups := [(255, { state := .open_, changes := [{ cmd := .tribPageSwap 1 none, hdr := {} }] })], time := { servo := .track, dDown := some 0 } },
      255, frameTime, by decide⟩,
    ⟨{ up with groups := [(255, { state := .committed, eff := us 1 })], time := { servo := .track, dDown := some 0 } },
      255, by decide⟩,
    ⟨{ up with groups := [(255, { state := .committed, eff := us 1 })] }, 255, .timeInvalid, 0, by decide⟩,
    ⟨{ up with groups := [(255, { state := .committed, eff := us 1 + 1 })], time := { servo := .track, dDown := some 0 } },
      255, by decide⟩,
    ⟨{ up with groups := [(255, { state := .committed, eff := us 1 })], time := { servo := .track, dDown := some 0 } },
      255, by decide⟩,
    ⟨{ up with groups := [(255, { state := .committed, checked := true })], time := { servo := .track, dDown := some 0 } },
      255, by decide⟩,
    ⟨{ up with groups := [(255, { state := .committed, checked := true })], time := { servo := .track, dDown := some 0 } },
      255, by decide⟩,
    ⟨{ up with groups := [(255, { state := .committed, checked := true, changes := [{ cmd := .queueSet 65535 {}, hdr := {} }] })], q := { tab := [(65535, some { assoc := 0, cls := 0, group := 0, limit := 0, ylim := 0 })] }, time := { servo := .track, dDown := some 0 } },
      255, { cmd := .queueSet 65535 {}, hdr := {} }, 65535, {},
      { assoc := 0, cls := 0, group := 0, limit := 0, ylim := 0 }, by decide⟩,
    ⟨{ up with groups := [(255, { state := .open_, timeout := 1 })], clk := { now := sec 1 } }, 255, by decide⟩,
    ⟨{ up with groups := [(255, { state := .aborted })], clk := { now := sec 10 } }, 255, by decide⟩,
    ⟨{ up with groups := [(255, { state := .committed, eff := us 1 })], time := { servo := .track, dDown := some 0 } },
      255, by decide⟩⟩

/-- Hypotheses of each clause of Obligations.RingRegisters are met. -/
theorem witness_RingRegisters :
    (∃ (s : State) (v : Word), s.pwr.asleep = false ∧ BitVec.toNat v % 65536 < 2 ^ s.cmd.sqLog) ∧
    (∃ (s : State) (v : Word), s.pwr.asleep = false ∧ 2 ^ s.cmd.sqLog ≤ BitVec.toNat v % 65536) ∧
    (∃ (s : State), s.pwr.asleep = true) ∧
    (∃ (s : State) (v : Word), s.pwr.asleep = false ∧ BitVec.toNat v % 65536 < 2 ^ s.cmd.rqLog) ∧
    (∃ (s : State) (v : Word), s.pwr.asleep = false ∧ 2 ^ s.cmd.rqLog ≤ BitVec.toNat v % 65536) ∧
    (∃ (s : State) (v : Word), s.pwr.asleep = false ∧ BitVec.getLsbD v 0 = true ∧ s.cmd.ready = true ∧ s.cmd.en =
      false) ∧
    (∃ (s : State) (v : Word), s.pwr.asleep = false ∧ BitVec.getLsbD v 0 = true ∧ s.cmd.ready = false) ∧
    (∃ (s : State) (v : Word), s.pwr.asleep = false ∧ BitVec.getLsbD v 0 = true ∧ s.cmd.ready = true ∧ s.cmd.en =
      true) ∧
    (∃ (s : State) (v : Word), s.pwr.asleep = false ∧ BitVec.getLsbD v 0 = false) ∧
    (∃ (s : State) (o : Nat), (o = 4096 ∨ o = 4100 ∨ o = 4104 ∨ o = 4128 ∨ o = 4132 ∨ o = 4136) ∧ s.pwr.asleep =
      false ∧ (s.cmd.en = true ∨ s.cmd.inFlight ≠ 0)) ∧
    (∃ (s : State) (v : Word), s.pwr.asleep = false ∧ s.cmd.en = false ∧ s.cmd.inFlight = 0 ∧ 4 ≤ BitVec.toNat v % 32
      ∧ BitVec.toNat v % 32 ≤ 16) := ⟨
    ⟨{ up with cmd := { ready := true, sqLog := 4 } }, 15, by decide⟩,
    ⟨{ up with cmd := { ready := true, sqLog := 4 } }, 16, by decide⟩,
    ⟨{ up with pwr := { asleep := true } }, by decide⟩,
    ⟨{ up with cmd := { ready := true, sqLog := 4 } }, 15, by decide⟩,
    ⟨{ up with cmd := { ready := true, sqLog := 4 } }, 16, by decide⟩,
    ⟨{ up with cmd := { ready := true, sqLog := 4 } }, 15, by decide⟩,
    ⟨{ up with cmd := {} }, 1, by decide⟩,
    ⟨{ up with cmd := { ready := true, en := true } }, 1, by decide⟩,
    ⟨{ up with cmd := { ready := true, sqLog := 4 } }, 16, by decide⟩,
    ⟨{ up with cmd := { ready := true, en := true } }, 0x1028, by decide⟩,
    ⟨{ up with cmd := { ready := true, sqLog := 4 } }, 15, by decide⟩⟩

/-- Hypotheses of each clause of Obligations.Transports are met. -/
theorem witness_Transports :
    (∃ (s : State), mayFetch s = false) ∧
    (∃ (s : State) (p : Packet) (e : SubEntry) (h : Hdr) (u : State) (c : Cmd), Packet.command p = some c ∧ mayFetch
      s = true ∧ h = { hdrOf .ring p with cap := some e.rplCap } ∧ u =
      { s with cmd := { s.cmd with sqHead := (s.cmd.sqHead + 1) % 2 ^ s.cmd.sqLog } } ∧ headerCheck p (decide
      (e.cmdLen = 16 + p.paramLen)) = none ∧ blocked h c u.cmd.wait (takeUp h u) = false) ∧
    (∃ (s : State) (p : Packet) (e : SubEntry) (h : Hdr) (u : State) (c : Cmd), Packet.command p = some c ∧ mayFetch
      s = true ∧ h = { hdrOf .ring p with cap := some e.rplCap } ∧ u =
      { s with cmd := { s.cmd with sqHead := (s.cmd.sqHead + 1) % 2 ^ s.cmd.sqLog } } ∧ headerCheck p (decide
      (e.cmdLen = 16 + p.paramLen)) = none ∧ blocked h c u.cmd.wait (takeUp h u) = true) ∧
    (∃ (s : State) (p : Packet) (e : SubEntry) (h : Hdr) (u : State), Packet.command p = none ∧ mayFetch s = true ∧ h
      = { hdrOf .ring p with cap := some e.rplCap } ∧ u =
      { s with cmd := { s.cmd with sqHead := (s.cmd.sqHead + 1) % 2 ^ s.cmd.sqLog } } ∧ headerCheck p (decide
      (e.cmdLen = 16 + p.paramLen)) = none) ∧
    (∃ (s : State) (p : Packet) (e : SubEntry) (h : Hdr) (st : Status), mayFetch s = true ∧ h =
      { hdrOf .ring p with cap := some e.rplCap } ∧ headerCheck p (decide (e.cmdLen = 16 + p.paramLen)) = some st) ∧
    (∃ (s : State) (p : Packet) (e : SubEntry) (h : Hdr), mayFetch s = true ∧ h =
      { hdrOf .ring p with cap := some e.rplCap }) ∧
    (∃ (s : State), cmdReady s = false) ∧
    (∃ (s : State) (p : Packet) (c : Cmd), Packet.command p = some c ∧ cmdReady s = true ∧ headerCheck p (decide (16
      + p.paramLen ≤ 65536)) = none ∧ (∀ x ∈ Tbl.get [] s.cmd.replay 0, x.1 ≠ p.seq) ∧ blocked (hdrOf Transport.spi
      p) c s.cmd.wait (takeUp (hdrOf Transport.spi p) s) = false) ∧
    (∃ (s : State) (p : Packet) (st : Status), cmdReady s = true ∧ headerCheck p (decide (16 + p.paramLen ≤ 65536)) =
      some st) ∧
    (∃ (s : State) (r : Reply) (l : List Reply), s.pwr.asleep = false ∧ s.cmd.spiReply = r :: l) ∧
    (∃ (s : State), s.cmd.spiReply = []) ∧
    (∃ (s : State) (p : Packet) (n : Nat) (f : InbandReq) (h : Hdr) (k : PortParams) (c : Cmd), Packet.command p =
      some c ∧ s.pwr.asleep = false ∧ (s.port n).up = true ∧ (s.port n).cfg = some k ∧ k.inband = true ∧ h =
      { hdrOf (.inband n) p with src := f.src, dst := f.dst, vlan := f.vlan } ∧ headerCheck p (decide (16 +
      p.paramLen ≤ f.bytes)) = none ∧ (∀ x ∈ Tbl.get [] s.cmd.replay (1 + n), x.1 ≠ p.seq) ∧ blocked h c s.cmd.wait
      (takeUp h s) = false) ∧
    (∃ (s : State) (n : Nat), (s.pwr.asleep = true ∨ (s.port n).up = false ∨ (s.port n).cfg = none)) ∧
    (∃ (s : State) (p : Packet) (r : Reply), cmdReady s = true ∧ headerCheck p (decide (16 + p.paramLen ≤ 65536)) =
      none ∧ r.transport = Transport.spi ∧ List.find? (fun x => x.1 == p.seq) (Tbl.get [] s.cmd.replay 0) = some
      (p.seq, some r)) := ⟨
    ⟨up, by decide⟩,
    ⟨{ up with cmd := { ready := true, en := true, sqLog := 4, rqLog := 4, sqTail := 1 } }, pkt 0x0704 4
      (.queueStatus 256), sub 20, { hdrOf .ring (pkt 0x0704 4 (.queueStatus 256)) with cap := some 64 },
      { up with cmd := { ready := true, en := true, sqLog := 4, rqLog := 4, sqTail := 1, sqHead := 1 } },
      .queueStatus 256, by decide, by decide, rfl, rfl, by decide⟩,
    ⟨{ up with cmd := { ready := true, en := true, sqLog := 4, rqLog := 4, sqTail := 1, wait := [({}, .queueStatus 256)] } },
      pkt 0x0704 4 (.queueStatus 256), sub 20, { hdrOf .ring (pkt 0x0704 4 (.queueStatus 256)) with cap := some 64 },
      { up with cmd := { ready := true, en := true, sqLog := 4, rqLog := 4, sqTail := 1, sqHead := 1, wait := [({}, .queueStatus 256)] } },
      .queueStatus 256, by decide, by decide, rfl, rfl, by decide⟩,
    ⟨{ up with cmd := { ready := true, en := true, sqLog := 4, rqLog := 4, sqTail := 1 } },
      { pkt 0x0704 4 (.queueStatus 256) with cmd := none }, sub 20,
      { hdrOf .ring ({ pkt 0x0704 4 (.queueStatus 256) with cmd := none }) with cap := some 64 },
      { up with cmd := { ready := true, en := true, sqLog := 4, rqLog := 4, sqTail := 1, sqHead := 1 } }, by decide,
      by decide, rfl, rfl, by decide⟩,
    ⟨{ up with cmd := { ready := true, en := true, sqLog := 4, rqLog := 4, sqTail := 1 } }, pkt 0x0704 4
      (.queueStatus 256), sub 21, { hdrOf .ring (pkt 0x0704 4 (.queueStatus 256)) with cap := some 64 },
      .paramLength, by decide, rfl, by decide⟩,
    ⟨{ up with cmd := { ready := true, en := true, sqLog := 4, rqLog := 4, sqTail := 1 } }, pkt 0x0704 4
      (.queueStatus 256), sub 20, { hdrOf .ring (pkt 0x0704 4 (.queueStatus 256)) with cap := some 64 }, by decide,
      rfl⟩,
    ⟨State.reset, by decide⟩,
    ⟨up, (pkt 0x0704 4 (.queueStatus 256)), .queueStatus 256, by decide⟩,
    ⟨up, { header := [] }, .headerInvalid, by decide⟩,
    ⟨{ up with cmd := { spiReply := [{ transport := .spi, opcode := 0x0704, tag := 0, group := 0, seq := 5, status := .ok }] } },
      { transport := .spi, opcode := 0x0704, tag := 0, group := 0, seq := 5, status := .ok }, [], by decide⟩,
    ⟨up, by decide⟩,
    ⟨withP { up := true, cfg := some { lanes := 1, rate := .g25, inband := true } }, pkt 0x0704 4 (.queueStatus 256),
      31, { dst := 1, src := 2, bytes := 20 },
      { hdrOf (.inband 31) (pkt 0x0704 4 (.queueStatus 256)) with dst := 1, src := 2 },
      { lanes := 1, rate := .g25, inband := true }, .queueStatus 256, by decide, by decide, by decide, by decide, by
      decide, rfl, by decide⟩,
    ⟨up, 31, by decide⟩,
    ⟨{ up with cmd := { ready := true, replay := [(0, [(5, some { transport := .spi, opcode := 0x0704, tag := 0, group := 0, seq := 5, status := .ok })])] } },
      (pkt 0x0704 4 (.queueStatus 256)),
      { transport := .spi, opcode := 0x0704, tag := 0, group := 0, seq := 5, status := .ok }, by decide⟩⟩

/-- Hypotheses of each clause of Obligations.RegisterWrites are met. -/
theorem witness_RegisterWrites :
    (∃ (o : Nat), 65536 ≤ o) ∧
    (∃ (o : Nat), o < 65536 ∧ o % 4 ≠ 0) ∧
    (∃ (o : Nat), o < 65536 ∧ o % 4 = 0) ∧
    (∃ (s : State) (o : Nat), s.pwr.asleep = true ∧ 4096 ≤ o ∧ o < 28672 ∧ o % 4 = 0 ∧ o ≠ 4108 ∧ o ≠ 4140) ∧
    (∃ (s : State), s.pwr.asleep = false) ∧
    (∃ (s : State) (k : Nat), s.pwr.asleep = false ∧ k < 8) ∧
    (∃ (s : State) (k : Nat), s.pwr.asleep = false ∧ k < 4) ∧
    (∃ (s : State) (k : Nat), s.pwr.asleep = false ∧ k < 64) ∧
    (∃ (s : State) (n : Nat), s.pwr.asleep = false ∧ n < 256) := ⟨
    ⟨0x10000, by decide⟩,
    ⟨0xFFFF, by decide⟩,
    ⟨0xFFFC, by decide⟩,
    ⟨{ up with pwr := { asleep := true } }, 0x6FFC, by decide⟩,
    ⟨up, by decide⟩,
    ⟨up, 7, by decide⟩,
    ⟨up, 3, by decide⟩,
    ⟨up, 7, by decide⟩,
    ⟨up, 7, by decide⟩⟩

/-- Hypotheses of each clause of Obligations.EngineCommands are met. -/
theorem witness_EngineCommands :
    (∃ (h : Hdr) (s : State) (img : ProgImage) (limit : Nat), runsNow h (Cmd.engineProgramLoad img limit) s ∧
      checkLoad img limit s = Status.ok) ∧
    (∃ (h : Hdr) (s : State) (img : ProgImage) (limit : Nat), runsNow h (Cmd.engineProgramLoad img limit) s ∧
      (img.magicOk && img.formatOk && img.abiOk && img.checkOk && img.legal) = false) ∧
    (∃ (h : Hdr) (s : State) (img : ProgImage) (limit : Nat), runsNow h (Cmd.engineProgramLoad img limit) s ∧
      checkLoad img limit s ≠ Status.ok) ∧
    (∃ (h : Hdr) (s : State) (k : Nat), runsNow h (Cmd.engineProgramUnload k) s ∧ k ≤ 4095 ∧ Tbl.get none s.eng.progs
      k = none) ∧
    (∃ (h : Hdr) (s : State) (k : Nat), runsNow h (Cmd.engineProgramUnload k) s ∧ k ≤ 4095 ∧ Tbl.get none s.eng.progs
      k ≠ none ∧ named k s = true) ∧
    (∃ (h : Hdr) (s : State) (k : Nat), runsNow h (Cmd.engineProgramUnload k) s ∧ k ≤ 4095 ∧ Tbl.get none s.eng.progs
      k ≠ none ∧ named k s = false) ∧
    (∃ (h : Hdr) (s : State), h.group ≠ 0 ∧ notReady 3074 (takeUp h s) = false) ∧
    (∃ (h : Hdr) (s : State), h.group ≠ 0 ∧ notReady 3073 (takeUp h s) = false) ∧
    (∃ (h : Hdr) (s : State) (n : Nat), runsNow h (Cmd.engineExceptionRead false n) s ∧ 1 ≤ n ∧ n ≤ 64) ∧
    (∃ (h : Hdr) (s : State) (n : Nat), runsNow h (Cmd.engineExceptionRead true n) s ∧ 1 ≤ n ∧ n ≤ 64) := ⟨
    ⟨hd, up, img, 65535, by decide +kernel⟩,
    ⟨hd, up, { img with legal := false }, 65535, by decide +kernel⟩,
    ⟨hd, up, img, 65536, by decide +kernel⟩,
    ⟨hd, up, 4095, by decide⟩,
    ⟨hd,
      { up with eng := { progs := [(4095, some { img := img, limit := 0 })] }, cls := { actions := [(1, { copy0 := some [.runProgram 4095] })] } },
      4095, by decide⟩,
    ⟨hd, { up with eng := { progs := [(4095, some { img := img, limit := 0 })] } }, 4095, by decide⟩,
    ⟨{ group := 1 }, up, by decide⟩,
    ⟨{ group := 1 }, up, by decide⟩,
    ⟨hd, up, 64, by decide⟩,
    ⟨hd, up, 64, by decide⟩⟩

/-- Hypotheses of each clause of Obligations.EngineRuns are met. -/
theorem witness_EngineRuns :
    (∃ (s : State) (e : Nat) (c : Nat) (r : Run) (l : List Run), s.eng.dispUp = r :: l ∧ e < 64 ∧ e ∉ s.eng.out ∧
      s.clk.now < r.queued + us 2 ∧ List.find? (fun c => (s.ctx (e * 8 + c)).isNone) (List.range 8) = some c) ∧
    (∃ (s : State) (e : Nat) (c : Nat) (r : Run) (l : List Run), s.eng.dispDown = r :: l ∧ e < 64 ∧ e + 64 ∉
      s.eng.out ∧ s.clk.now < r.queued + us 2 ∧ List.find? (fun c => (s.ctx ((e + 64) * 8 + c)).isNone) (List.range
      8) = some c) ∧
    (∃ (s : State) (e : Nat), e < 64 ∧ e ∈ s.eng.out) ∧
    (∃ (s : State) (k : Nat) (r : Run), s.ctx k = some r ∧ r.waiting = true ∧ r.pkt.md.auth ≠ Auth.pending) ∧
    (∃ (s : State) (k : Nat) (r : Run), s.ctx k = some r ∧ r.pkt.md.auth = Auth.pending) ∧
    (∃ (e : Nat), e < 128) ∧
    (∃ (e : Nat), e < 48) ∧
    (∃ (e : Nat), e < 16) ∧
    (∃ (s : State) (k : Nat), s.ctx k = none) ∧
    (∃ (s : State) (k : Nat) (r : Run), s.ctx k = some r ∧ r.waiting = true) ∧
    (∃ (s : State) (k : Nat) (i : Nat) (r : Run), s.ctx k = some r ∧ r.waiting = false ∧ (r.start + us 6 ≤ s.clk.now
      ∨ 512 < r.issued + i)) ∧
    (∃ (s : State) (k : Nat) (i : Nat) (r : Run), s.ctx k = some r ∧ r.waiting = false ∧ s.clk.now < r.start + us 6 ∧
      r.issued + i < 512) ∧
    (∃ (s : State) (k : Nat) (r : Run), s.ctx k = some r ∧ r.start + us 6 ≤ s.clk.now) ∧
    (∃ (s : State) (k : Nat) (r : Run), s.ctx k = some r ∧ s.clk.now < r.start + us 6) := ⟨
    ⟨{ up with eng := { dispUp := [{ prog := 7, orig := { id := 1, bytes := [] }, pkt := { id := 1, bytes := [] }, rest := [], last := .drop 0, queued := 0 }] } },
      63, 0,
      { prog := 7, orig := { id := 1, bytes := [] }, pkt := { id := 1, bytes := [] }, rest := [], last := .drop 0, queued := 0 },
      [], by decide⟩,
    ⟨{ up with eng := { dispDown := [{ prog := 7, orig := { id := 1, bytes := [] }, pkt := { id := 1, bytes := [] }, rest := [], last := .drop 0, queued := 0 }] } },
      63, 0,
      { prog := 7, orig := { id := 1, bytes := [] }, pkt := { id := 1, bytes := [] }, rest := [], last := .drop 0, queued := 0 },
      [], by decide⟩,
    ⟨{ up with eng := { out := [63] } }, 63, by decide⟩,
    ⟨{ up with eng := { ctxs := [(1023, some { prog := 7, orig := { id := 1, bytes := [] }, pkt := { id := 1, bytes := [] }, rest := [], last := .drop 0, queued := 0, waiting := true })] } },
      1023,
      { prog := 7, orig := { id := 1, bytes := [] }, pkt := { id := 1, bytes := [] }, rest := [], last := .drop 0, queued := 0, waiting := true },
      by decide⟩,
    ⟨{ up with eng := { ctxs := [(1023, some { prog := 7, orig := { id := 1, bytes := [] }, pkt := { id := 1, bytes := [], md := { auth := .pending } }, rest := [], last := .drop 0, queued := 0 })] } },
      1023,
      { prog := 7, orig := { id := 1, bytes := [] }, pkt := { id := 1, bytes := [], md := { auth := .pending } }, rest := [], last := .drop 0, queued := 0 },
      by decide⟩,
    ⟨127, by decide⟩,
    ⟨47, by decide⟩,
    ⟨15, by decide⟩,
    ⟨{ up with eng := { out := [63] } }, 63, by decide⟩,
    ⟨{ up with eng := { ctxs := [(1023, some { prog := 7, orig := { id := 1, bytes := [] }, pkt := { id := 1, bytes := [] }, rest := [], last := .drop 0, queued := 0, waiting := true })] } },
      1023,
      { prog := 7, orig := { id := 1, bytes := [] }, pkt := { id := 1, bytes := [] }, rest := [], last := .drop 0, queued := 0, waiting := true },
      by decide⟩,
    ⟨{ up with eng := { ctxs := [(1023, some { prog := 7, orig := { id := 1, bytes := [] }, pkt := { id := 1, bytes := [] }, rest := [], last := .drop 0, queued := 0 })] }, clk := { now := us 5 } },
      1023, 513,
      { prog := 7, orig := { id := 1, bytes := [] }, pkt := { id := 1, bytes := [] }, rest := [], last := .drop 0, queued := 0 },
      by decide⟩,
    ⟨{ up with eng := { ctxs := [(1023, some { prog := 7, orig := { id := 1, bytes := [] }, pkt := { id := 1, bytes := [] }, rest := [], last := .drop 0, queued := 0 })] }, clk := { now := us 5 } },
      1023, 511,
      { prog := 7, orig := { id := 1, bytes := [] }, pkt := { id := 1, bytes := [] }, rest := [], last := .drop 0, queued := 0 },
      by decide⟩,
    ⟨{ up with eng := { ctxs := [(1023, some { prog := 7, orig := { id := 1, bytes := [] }, pkt := { id := 1, bytes := [] }, rest := [], last := .drop 0, queued := 0 })] }, clk := { now := us 6 } },
      1023,
      { prog := 7, orig := { id := 1, bytes := [] }, pkt := { id := 1, bytes := [] }, rest := [], last := .drop 0, queued := 0 },
      by decide⟩,
    ⟨{ up with eng := { ctxs := [(1023, some { prog := 7, orig := { id := 1, bytes := [] }, pkt := { id := 1, bytes := [] }, rest := [], last := .drop 0, queued := 0, waiting := true })] } },
      1023,
      { prog := 7, orig := { id := 1, bytes := [] }, pkt := { id := 1, bytes := [] }, rest := [], last := .drop 0, queued := 0, waiting := true },
      by decide⟩⟩

/-- Hypotheses of each clause of Obligations.ClaimAndComplete are met. -/
theorem witness_ClaimAndComplete :
    (∃ (s : State) (k : Nat) (n : Nat) (p : Nat), k < 4 ∧ s.pwr.asleep = false ∧ s.evc.select k = some (n, p) ∧ (∀ (x
      : Nat × Nat), (s.evc.target k).shown = some x → x.2 ≤ p)) ∧
    (∃ (s : State) (k : Nat), k < 4 ∧ s.pwr.asleep = false ∧ s.evc.select k = none) ∧
    (∃ (s : State) (k : Nat) (n : Nat) (p : Nat) (x : Nat × Nat), k < 4 ∧ s.pwr.asleep = false ∧ s.evc.select k =
      some (n, p) ∧ (s.evc.target k).shown = some x ∧ p < x.2) ∧
    (∃ (s : State) (k : Nat) (v : Word) (n : Nat) (p : Nat) (l : List (Nat × Nat)), k < 4 ∧ s.pwr.asleep = false ∧
      (s.evc.target k).stack = (n, p) :: l ∧ BitVec.toNat v % 256 = n) ∧
    (∃ (s : State) (k : Nat) (v : Word), k < 4 ∧ s.pwr.asleep = false ∧ (∀ (n p : Nat) (l : List (Nat × Nat)),
      (s.evc.target k).stack = (n, p) :: l → BitVec.toNat v % 256 ≠ n)) := ⟨
    ⟨{ up with evc := { pend := 1 <<< 0x60, mask := 0, cfg := [(0x60, { target := 3, prio := 5 })] } }, 3, 0x60, 5,
      by decide, by decide, by decide, nofun⟩,
    ⟨up, 3, by decide⟩,
    ⟨{ up with evc := { pend := 1 <<< 0x60, mask := 0, cfg := [(0x60, { target := 3, prio := 5 })], targets := [(3, { shown := some (0x61, 6) })] } },
      3, 0x60, 5, (0x61, 6), by decide⟩,
    ⟨{ up with evc := { targets := [(3, { stack := [(0xC0, 4)] })] } }, 3, 0xC0, 0xC0, 4, [], by decide⟩,
    ⟨up, 3, 0xC0, by decide, by decide, nofun⟩⟩

/-- Hypotheses of each clause of Obligations.EventWrites are met. -/
theorem witness_EventWrites :
    (∃ (s : State) (v : Word), s.pwr.asleep = false ∧ isLevel (BitVec.toNat v % 256) = false ∧ mayPend (BitVec.toNat
      v % 256) s = true) ∧
    (∃ (s : State) (v : Word), s.pwr.asleep = false ∧ (isLevel (BitVec.toNat v % 256) = true ∨ mayPend (BitVec.toNat
      v % 256) s = false)) ∧
    (∃ (s : State), s.pwr.asleep = false) ∧
    (∃ (s : State) (w : Nat), s.pwr.asleep = false ∧ w < 8) ∧
    (∃ (s : State) (k : Nat) (f : Instant), s.pwr.asleep = false ∧ k < 4 ∧ (s.evc.target k).active = false ∧
      (s.evc.target k).firstAt = some f ∧ f + ns (100 * max (s.evc.target k).coalTime 1) ≤ s.clk.now) ∧
    (∃ (s : State) (k : Nat) (f : Instant), s.pwr.asleep = false ∧ (s.evc.target k).firstAt = some f ∧ s.clk.now < f
      + ns (100 * max (s.evc.target k).coalTime 1)) ∧
    (∃ (s : State) (k : Nat), s.pwr.asleep = false ∧ k < 4 ∧ (s.evc.target k).vecHeld = true ∧ (s.evc.target
      k).active = true ∧ (s.evc.target k).msixEn = true) ∧
    (∃ (s : State) (k : Nat), s.pwr.asleep = false ∧ k < 4 ∧ ((s.evc.target k).vecHeld = false ∨ (s.evc.target
      k).active = false ∨ (s.evc.target k).msixEn = false)) := ⟨
    ⟨up, 0x60, by decide⟩,
    ⟨up, 0xF0, by decide⟩,
    ⟨up, by decide⟩,
    ⟨up, 7, by decide⟩,
    ⟨{ up with evc := { targets := [(3, { firstAt := some 0, coalTime := 10 })] }, clk := { now := us 1 } }, 3, 0, by
      decide⟩,
    ⟨{ up with evc := { targets := [(3, { firstAt := some 0, coalTime := 10 })] }, clk := { now := us 1 - 1 } }, 3,
      0, by decide⟩,
    ⟨{ up with evc := { targets := [(3, { vecHeld := true, active := true, msixEn := true })] } }, 3, by decide⟩,
    ⟨up, 3, by decide⟩⟩

/-- Hypotheses of each clause of Obligations.IntegrityLog are met. -/
theorem witness_IntegrityLog :
    (∃ (s : State) (x : IntegEntry) (l : List IntegEntry), s.pwr.asleep = false ∧ s.evc.log = x :: l) ∧
    (∃ (s : State), s.pwr.asleep = false ∧ s.evc.log = []) ∧
    (∃ (s : State), s.pwr.asleep = false) ∧
    (∃ (s : State) (f : Finding), s.pwr.asleep = false ∧ (f.kind = 1 ∨ f.kind = 3)) ∧
    (∃ (s : State) (f : Finding), s.pwr.asleep = false ∧ f.kind = 5 ∧ f.unit = 32 ∧ f.lineDie = false ∧
      s.evc.log.length < 256 ∧ s.groups = []) ∧
    (∃ (s : State) (f : Finding), s.pwr.asleep = false ∧ f.kind = 2 ∧ f.unit = 3 ∧ f.lineDie = false ∧ s.groups = []) ∧
    (∃ (s : State) (f : Finding), s.pwr.asleep = false ∧ f.kind = 5 ∧ f.unit = 36 ∧ s.time.mismatch = none ∧ s.groups
      = []) ∧
    (∃ (s : State) (f : Finding), s.pwr.asleep = false ∧ (f.kind = 0 ∨ 5 < f.kind)) := ⟨
    ⟨{ up with evc := { log := [{ kind := 2, unit := 3 }] } }, { kind := 2, unit := 3 }, [], by decide⟩,
    ⟨up, by decide⟩,
    ⟨up, by decide⟩,
    ⟨up, { kind := 3, unit := 3 }, by decide⟩,
    ⟨{ up with evc := { log := List.replicate 255 {} } }, { kind := 5, unit := 0x20 }, by decide, by decide, by
      decide, by decide, (by show (List.replicate 255 _).length < 256; rw [List.length_replicate]; decide), by
      decide⟩,
    ⟨up, { kind := 2, unit := 3 }, by decide⟩,
    ⟨up, { kind := 5, unit := 0x24 }, by decide⟩,
    ⟨up, { kind := 6, unit := 0 }, by decide⟩⟩

/-- Hypotheses of each clause of Obligations.CountersAndTracing are met. -/
theorem witness_CountersAndTracing :
    (∃ (s : State) (n : Nat), n < 64 ∧ s.pwr.asleep = false ∧ s.pmc.chain n = false) ∧
    (∃ (s : State) (n : Nat), n < 64 ∧ s.pwr.asleep = false ∧ s.pmc.chain n = true) ∧
    (∃ (s : State) (n : Nat), n < 64 ∧ s.pwr.asleep = false) ∧
    (∃ (s : State) (n : Nat), n < 64 ∧ s.pwr.asleep = true) ∧
    (∃ (s : State) (n : Nat), n < 64 ∧ s.pmc.en n = true ∧ s.pmc.freeze = false ∧ s.pmc.chain (n + 1) = false ∧
      s.pmc.chain n = false ∧ s.pmc.count n < 2 ^ 48) ∧
    (∃ (s : State) (n : Nat), n < 64 ∧ (s.pmc.en n = false ∨ s.pmc.freeze = true)) ∧
    (∃ (h : Hdr) (s : State) (n : Nat) (ev : Word) (fl : Word) (r : List (Nat × Word × Word)), n < 64 ∧ runsNow h
      (Cmd.pmcConfig n ev fl r) s ∧ (∀ x ∈ r, x.1 < 8)) ∧
    (∃ (h : Hdr) (s : State) (n : Nat) (m : Nat) (ev : Word) (fl : Word) (r : List (Nat × Word × Word)), n < 64 ∧ 64
      ≤ m ∧ runsNow h (Cmd.pmcConfig m ev fl r) s) ∧
    (∃ (h : Hdr) (s : State) (p : SampleParams), runsNow h (Cmd.sampleConfig p) s ∧ 256 ≤ p.period ∧ p.period ≤
      16777216 ∧ 1 ≤ p.watermark ∧ p.watermark ≤ 4096) ∧
    (∃ (h : Hdr) (s : State) (p : SampleParams), runsNow h (Cmd.sampleConfig p) s ∧ (p.period < 256 ∨ 16777216 <
      p.period ∨ p.watermark = 0 ∨ 4096 < p.watermark)) ∧
    (∃ (h : Hdr) (s : State) (p : TraceParams), runsNow h (Cmd.traceConfig p) s ∧ p.k ≤ 24 ∧ 1 ≤ p.watermark ∧
      p.watermark ≤ 65536 ∧ (∀ (a : Nat), p.assoc = some a → a ≤ 4095) ∧ portsPresent p.ports s = true) ∧
    (∃ (h : Hdr) (s : State) (p : TraceParams), runsNow h (Cmd.traceConfig p) s ∧ p.k ≤ 24 ∧ 1 ≤ p.watermark ∧
      p.watermark ≤ 65536 ∧ (∀ (a : Nat), p.assoc = some a → a ≤ 4095) ∧ portsPresent p.ports s = false) ∧
    (∃ (h : Hdr) (s : State) (n : Nat), runsNow h (Cmd.traceRead TraceSel.trace n) s ∧ 1 ≤ n ∧ n ≤ 64) ∧
    (∃ (h : Hdr) (s : State) (n : Nat), runsNow h (Cmd.traceRead TraceSel.sampleUp n) s ∧ 1 ≤ n ∧ n ≤ 64) ∧
    (∃ (h : Hdr) (s : State) (n : Nat), runsNow h (Cmd.traceRead TraceSel.sampleDown n) s ∧ 1 ≤ n ∧ n ≤ 64) ∧
    (∃ (h : Hdr) (s : State) (x : TraceSel) (n : Nat), runsNow h (Cmd.traceRead x n) s ∧ (n = 0 ∨ 64 < n)) := ⟨
    ⟨up, 62, by decide⟩,
    ⟨{ up with pmc := { evsel := [(63, 0x40000000)] } }, 63, by decide⟩,
    ⟨up, 62, by decide⟩,
    ⟨{ up with pwr := { asleep := true } }, 62, by decide⟩,
    ⟨{ up with pmc := { evsel := [(62, 0x80000000)] } }, 62, by decide⟩,
    ⟨up, 62, by decide⟩,
    ⟨hd, up, 62, 1, 0, [], by decide, by decide, (fun x h => nomatch h)⟩,
    ⟨hd, up, 62, 64, 1, 0, [], by decide⟩,
    ⟨hd, up, { down := false, enable := true, period := 16777216 }, by decide⟩,
    ⟨hd, up, { down := false, enable := true, period := 255 }, by decide⟩,
    ⟨hd, up, { up := true, down := true, enable := true, k := 24, ports := BitVec.allOnes 36, assoc := some 4095 },
      by decide, by decide, by decide, by decide, (fun a e => by cases e; decide), by decide⟩,
    ⟨hd, { up with fuses := { variant := .krt9610, lifecycle := .owned, owner := some 5 } },
      { up := true, down := true, enable := true, k := 24, ports := BitVec.allOnes 36, assoc := some 4095 }, by
      decide, by decide, by decide, by decide, (fun a e => by cases e; decide), by decide⟩,
    ⟨hd, up, 64, by decide⟩,
    ⟨hd, up, 64, by decide⟩,
    ⟨hd, up, 64, by decide⟩,
    ⟨hd, up, .trace, 65, by decide⟩⟩

/-- Hypotheses of each clause of Obligations.DeviceAndPower are met. -/
theorem witness_DeviceAndPower :
    (∃ (h : Hdr) (s : State), runsNow h (Cmd.deviceReset ResetKind.warm) s) ∧
    (∃ (h : Hdr) (s : State) (d : Nat), runsNow h (Cmd.deviceReset (ResetKind.domain d)) s ∧ (d = 2 ∨ d = 4 ∨ d = 5 ∨
      6 ≤ d ∧ d ≤ 13 ∧ s.hasCarrier ((d - 6) % 4) = true)) ∧
    (∃ (h : Hdr) (s : State) (d : Nat), runsNow h (Cmd.deviceReset (ResetKind.domain d)) s ∧ (d = 0 ∨ d = 1 ∨ d = 3 ∨
      13 < d)) ∧
    (∃ (h : Hdr) (s : State) (o : Nat) (n : Nat), runsNow h (Cmd.deviceFwLoad o n none) s ∧ n ≤ 65000 ∧ o + n ≤
      8388608) ∧
    (∃ (h : Hdr) (s : State) (o : Nat) (n : Nat) (i : FwImage), runsNow h (Cmd.deviceFwLoad o n (some i)) s ∧ n ≤
      65000 ∧ o + n ≤ 8388608 ∧ imageValid i s = false) ∧
    (∃ (h : Hdr) (s : State) (o : Nat) (n : Nat) (i : FwImage), runsNow h (Cmd.deviceFwLoad o n (some i)) s ∧ n ≤
      65000 ∧ o + n ≤ 8388608 ∧ imageValid i s = true ∧ s.dev.bootStage ≠ 15) ∧
    (∃ (h : Hdr) (s : State) (o : Nat) (n : Nat) (i : FwImage), runsNow h (Cmd.deviceFwLoad o n (some i)) s ∧ n ≤
      65000 ∧ o + n ≤ 8388608 ∧ imageValid i s = true ∧ s.dev.bootStage = 15) ∧
    (∃ (h : Hdr) (s : State) (w : Word), runsNow h (Cmd.powerVote w) s ∧ groupsIn GroupState.committed s = []) ∧
    (∃ (s : State), groupsIn GroupState.committed s = []) ∧
    (∃ (h : Hdr) (s : State) (x : PowerState) (i : Instant) (b : BitVec 4) (w : Option Instant), runsNow h
      (Cmd.powerSchedule x i b w) s ∧ (∀ n ∈ bitmapCarriers b, s.hasCarrier n = true) ∧ instantStatus i s = Status.ok
      ∧ (x = PowerState.lull ∨ x = PowerState.doldrums → s.reg.state = RegState.off)) ∧
    (∃ (h : Hdr) (s : State) (x : PowerState) (i : Instant) (b : BitVec 4) (w : Option Instant), runsNow h
      (Cmd.powerSchedule x i b w) s ∧ (∀ n ∈ bitmapCarriers b, s.hasCarrier n = true) ∧ instantStatus i s = Status.ok
      ∧ (x = PowerState.lull ∨ x = PowerState.doldrums) ∧ s.reg.state ≠ RegState.off) ∧
    (∃ (h : Hdr) (s : State) (x : PowerState) (i : Instant) (b : BitVec 4) (w : Option Instant), runsNow h
      (Cmd.powerSchedule x i b w) s ∧ (∀ n ∈ bitmapCarriers b, s.hasCarrier n = true) ∧ instantStatus i s ≠
      Status.ok) ∧
    (∃ (s : State), s.pwr.sched = none) ∧
    (∃ (s : State) (c : Sched), s.pwr.sched = some c ∧ (s.pwr.asleep = true ∨ switchTime s < c.at_)) ∧
    (∃ (s : State) (c : Sched), s.pwr.sched = some c ∧ s.pwr.asleep = false ∧ c.at_ ≤ switchTime s ∧ blockers
      c.target s ≠ [] ∧ (blockers c.target s ≠ [8] ∨ c.at_ + sec 2 ≤ switchTime s)) ∧
    (∃ (s : State) (c : Sched), s.pwr.sched = some c ∧ s.pwr.asleep = false ∧ c.at_ ≤ switchTime s ∧ blockers
      c.target s = [] ∧ c.target = PowerState.trim) ∧
    (∃ (s : State) (c : Sched), s.pwr.sched = some c ∧ s.pwr.asleep = false ∧ c.at_ ≤ switchTime s ∧ blockers
      c.target s = [] ∧ c.target = PowerState.doldrums) := ⟨
    ⟨tok 0x0E02, up, by decide⟩,
    ⟨hd, up, 13, by decide⟩,
    ⟨hd, up, 14, by decide⟩,
    ⟨hd, up, 8323608, 65000, by decide⟩,
    ⟨hd, up, 8323608, 65000, { fw 1 64 with digestOk := false }, by decide⟩,
    ⟨hd, up, 8323608, 65000, (fw 1 64), by decide⟩,
    ⟨hd, { up with dev := { bootStage := 15 } }, 8323608, 65000, (fw 1 64), by decide⟩,
    ⟨tok 0x0E02, up, by decide⟩,
    ⟨up, by decide⟩,
    ⟨hd, { up with time := { servo := .track, dDown := some 0 } }, .lull, frameTime, 0, none, by decide⟩,
    ⟨hd, { up with time := { servo := .track, dDown := some 0 }, reg := { state := .operating } }, .lull, frameTime,
      0, none, by decide⟩,
    ⟨hd, up, .lull, frameTime, 0, none, by decide⟩,
    ⟨up, by decide⟩,
    ⟨{ up with pwr := { sched := some { target := .trim, at_ := 1, carriers := 0 } } },
      { target := .trim, at_ := 1, carriers := 0 }, by decide⟩,
    ⟨{ up with pwr := { sched := some { target := .doldrums, at_ := 0, carriers := 0 }, hostVote := 0xAAAAAAA } },
      { target := .doldrums, at_ := 0, carriers := 0 }, by decide⟩,
    ⟨{ up with pwr := { sched := some { target := .trim, at_ := 0, carriers := 0 } } },
      { target := .trim, at_ := 0, carriers := 0 }, by decide⟩,
    ⟨{ up with pwr := { sched := some { target := .doldrums, at_ := 0, carriers := 0 } } },
      { target := .doldrums, at_ := 0, carriers := 0 }, by decide⟩⟩

/-- Hypotheses of each clause of Obligations.Resets are met. -/
theorem witness_Resets :
    (∃ (s : State), s.pwr.porst = true) ∧
    (∃ (s : State), s.pwr.porst = false) ∧
    (∃ (s : State), s.cmd.ready = true) ∧
    (∃ (s : State), s.cmd.ready = false) ∧
    (∃ (s : State) (i : Instant), s.dev.resetDue = some (ResetKind.warm, i) ∧ i ≤ s.clk.now) ∧
    (∃ (s : State) (k : ResetKind) (i : Instant), s.dev.resetDue = some (k, i) ∧ s.clk.now < i) ∧
    (∃ (s : State) (i : Instant), s.dev.resetDue = some (ResetKind.domain 4, i) ∧ i ≤ s.clk.now ∧ s.die.retrain =
      false ∧ s.die.split = false) ∧
    (∃ (s : State), s.pwr.stop = false ∧ s.pwr.porst = false) ∧
    (∃ (s : State), (s.pwr.stop = true ∨ s.pwr.porst = true)) := ⟨
    ⟨{ up with pwr := { porst := true } }, by decide⟩,
    ⟨up, by decide⟩,
    ⟨{ up with pwr := { porst := true } }, by decide⟩,
    ⟨State.reset, by decide⟩,
    ⟨{ up with dev := { resetDue := some (.warm, 0) } }, 0, by decide⟩,
    ⟨{ up with dev := { resetDue := some (.warm, 1) } }, .warm, 1, by decide⟩,
    ⟨{ up with dev := { resetDue := some (.domain 4, 0) } }, 0, by decide⟩,
    ⟨up, by decide⟩,
    ⟨{ up with pwr := { porst := true } }, by decide⟩⟩

/-- Hypotheses of each clause of Obligations.Boot are met. -/
theorem witness_Boot :
    (∃ (s : State), s.dev.booting = false ∧ s.dev.bootStage = 0 ∧ s.pwr.stop = false ∧ s.pwr.asleep = false) ∧
    (∃ (s : State), (s.dev.booting = true ∨ s.dev.bootStage ≠ 0)) ∧
    (∃ (s : State), (s.dev.booting = false ∨ s.dev.bootStopped = true)) ∧
    (∃ (s : State) (r : StageResult), s.dev.booting = true ∧ s.dev.bootStopped = false ∧ r.ok = false ∧
      s.dev.bootStage ≠ 15) ∧
    (∃ (s : State) (r : StageResult), s.dev.booting = true ∧ s.dev.bootStopped = false ∧ r.ok = true ∧
      s.dev.bootStage = 1 ∧ s.sec.rngOk = true ∧ r.seedOk = true ∧ (seedOf s.fuses.seedBanks).isSome = false ∧
      List.findIdx? (fun x => x == SeedBank.unused) s.fuses.seedBanks = some 0) ∧
    (∃ (s : State) (r : StageResult), s.dev.booting = true ∧ s.dev.bootStopped = false ∧ r.ok = true ∧
      s.dev.bootStage = 2) ∧
    (∃ (s : State) (r : StageResult) (u : State), s.dev.booting = true ∧ s.dev.bootStopped = false ∧ r.ok = true ∧
      s.dev.bootStage = 4 ∧ u = (if r.images = [] then s else
      { s with dev := { s.dev with slots := (r.images ++ [none, none]).take 2 } }) ∧ chooseImage u = none) ∧
    (∃ (s : State) (r : StageResult) (u : State) (k : Nat) (i : FwImage), s.dev.booting = true ∧ s.dev.bootStopped =
      false ∧ r.ok = true ∧ s.dev.bootStage = 4 ∧ u = (if r.images = [] then s else
      { s with dev := { s.dev with slots := (r.images ++ [none, none]).take 2 } }) ∧ chooseImage u = some (k, i)) ∧
    (∃ (s : State) (k : Nat) (i : FwImage), chooseImage s = some (k, i)) ∧
    (∃ (s : State) (k : Nat) (i : FwImage) (j : Nat) (x : FwImage), chooseImage s = some (k, i) ∧ s.dev.slots[j]? =
      some (some x) ∧ imageValid x s = true) ∧
    (∃ (s : State) (r : StageResult), s.dev.booting = true ∧ s.dev.bootStopped = false ∧ r.ok = true ∧
      s.dev.bootStage = 5) ∧
    (∃ (s : State) (r : StageResult), s.dev.booting = true ∧ s.dev.bootStopped = false ∧ r.ok = true ∧
      s.dev.bootStage = 7) := ⟨
    ⟨State.reset, by decide⟩,
    ⟨{ State.reset with dev := { booting := true, bootStage := 1 } }, by decide⟩,
    ⟨State.reset, by decide⟩,
    ⟨{ State.reset with dev := { booting := true, bootStage := 14 } }, { ok := false }, by decide⟩,
    ⟨{ State.reset with dev := { booting := true, bootStage := 1 } }, {}, by decide⟩,
    ⟨{ State.reset with dev := { booting := true, bootStage := 2 } }, {}, by decide⟩,
    ⟨{ State.reset with dev := { booting := true, bootStage := 4 } }, {},
      { State.reset with dev := { booting := true, bootStage := 4 } }, rfl, rfl, rfl, rfl, rfl, by decide⟩,
    ⟨{ State.reset with dev := { booting := true, bootStage := 4 } }, { images := [none, some (fw 1 64)] },
      { State.reset with dev := { booting := true, bootStage := 4, slots := [none, some (fw 1 64)] } }, 1, fw 1 64,
      rfl, rfl, rfl, rfl, rfl, by decide⟩,
    ⟨{ State.reset with dev := { booting := true, bootStage := 4, slots := [none, some (fw 1 64)] } }, 1, (fw 1 64),
      by decide⟩,
    ⟨{ State.reset with dev := { booting := true, bootStage := 4, slots := [none, some (fw 1 64)] } }, 1, fw 1 64, 1,
      fw 1 64, by decide⟩,
    ⟨{ State.reset with dev := { booting := true, bootStage := 5 } }, {}, by decide⟩,
    ⟨{ State.reset with dev := { booting := true, bootStage := 7 } }, {}, by decide⟩⟩

/-- Hypotheses of each clause of Obligations.Waking are met. -/
theorem witness_Waking :
    (∃ (s : State) (v : Word), s.pwr.asleep = true ∧ s.pwr.wake = none ∧ BitVec.getLsbD v 0 = true) ∧
    (∃ (s : State) (v : Word), (s.pwr.asleep = false ∨ BitVec.getLsbD v 0 = false)) ∧
    (∃ (s : State), s.pwr.asleep = false) ∧
    (∃ (s : State), s.pwr.asleep = true ∧ s.pwr.wake = none) ∧
    (∃ (s : State) (i : Instant), s.pwr.asleep = true ∧ s.pwr.wake = none ∧ s.pwr.wakeAt = some i ∧ i ≤
      s.pwr.holdTime ∧ s.pwr.wakeEn.getLsbD 0 = true) ∧
    (∃ (s : State), s.pwr.asleep = true ∧ s.pwr.wakeEn.getLsbD 3 = false) ∧
    (∃ (s : State), s.pwr.wake = none) ∧
    (∃ (s : State) (w : Wake), s.pwr.wake = some w ∧ s.clk.now < w.since) ∧
    (∃ (s : State) (w : Wake), s.pwr.wake = some w ∧ w.since ≤ s.clk.now ∧ (w.step = 1 ∨ w.step = 2 ∨ w.step = 5 ∨
      w.step = 7 ∨ w.step = 8)) ∧
    (∃ (s : State) (w : Wake), s.pwr.wake = some w ∧ w.since ≤ s.clk.now ∧ w.step = 3) ∧
    (∃ (s : State) (w : Wake), s.pwr.wake = some w ∧ w.since ≤ s.clk.now ∧ w.step = 6 ∧ w.retry = false ∧
      s.dev.fwCopy = true) ∧
    (∃ (s : State) (w : Wake) (k : Nat) (i : FwImage), s.pwr.wake = some w ∧ w.since ≤ s.clk.now ∧ w.step = 6 ∧
      w.retry = true ∧ chooseImage s = some (k, i)) ∧
    (∃ (s : State) (w : Wake), s.pwr.wake = some w ∧ w.since ≤ s.clk.now ∧ w.step = 4) ∧
    (∃ (s : State) (w : Wake) (r : StepReport), s.pwr.wake = some w ∧ w.since ≤ s.clk.now ∧ w.step = 9 ∧ 0 <
      r.lanesUp ∧ 0 < r.lanesDown) ∧
    (∃ (s : State) (w : Wake), s.pwr.wake = some w ∧ w.since ≤ s.clk.now ∧ w.step = 10) ∧
    (∃ (s : State) (w : Wake), s.pwr.wake = some w ∧ s.clk.now < w.since + stepTimeout w.step w.retry) ∧
    (∃ (s : State) (w : Wake), s.pwr.wake = some w ∧ w.since + stepTimeout w.step w.retry ≤ s.clk.now ∧ w.retry =
      false) ∧
    (∃ (s : State) (w : Wake), s.pwr.wake = some w ∧ w.since + stepTimeout w.step w.retry ≤ s.clk.now ∧ w.retry =
      true) := ⟨
    ⟨{ up with pwr := { asleep := true } }, 1, by decide⟩,
    ⟨up, 1, by decide⟩,
    ⟨up, by decide⟩,
    ⟨{ up with pwr := { asleep := true } }, by decide⟩,
    ⟨{ up with pwr := { asleep := true, wakeAt := some 0 } }, 0, by decide⟩,
    ⟨{ up with pwr := { asleep := true } }, by decide⟩,
    ⟨up, by decide⟩,
    ⟨{ up with pwr := { wake := some { step := 1, start := 0, since := 1 } } },
      { step := 1, start := 0, since := 1 }, by decide⟩,
    ⟨{ up with pwr := { asleep := true, wake := some { step := 8, start := 0 } } }, { step := 8, start := 0 }, by
      decide⟩,
    ⟨{ up with pwr := { asleep := true, wake := some { step := 3, start := 0 } } }, { step := 3, start := 0 }, by
      decide⟩,
    ⟨{ up with pwr := { asleep := true, wake := some { step := 6, start := 0 } }, dev := { fwCopy := true } },
      { step := 6, start := 0 }, by decide⟩,
    ⟨{ up with pwr := { asleep := true, wake := some { step := 6, retry := true, start := 0 } }, dev := { slots := [none, some (fw 1 64)] } },
      { step := 6, retry := true, start := 0 }, 1, (fw 1 64), by decide⟩,
    ⟨{ up with pwr := { asleep := true, wake := some { step := 4, start := 0 } } }, { step := 4, start := 0 }, by
      decide⟩,
    ⟨{ up with pwr := { asleep := true, wake := some { step := 9, start := 0 } } }, { step := 9, start := 0 }, {}, by
      decide⟩,
    ⟨{ up with pwr := { asleep := true, wake := some { step := 10, start := 0 } } }, { step := 10, start := 0 }, by
      decide⟩,
    ⟨{ up with pwr := { asleep := true, wake := some { step := 8, start := 0 } } }, { step := 8, start := 0 }, by
      decide⟩,
    ⟨{ atTime (ms 10) with pwr := { wake := some { step := 6, start := 0 } } }, { step := 6, start := 0 }, by decide⟩,
    ⟨{ atTime (sec 1) with pwr := { wake := some { step := 6, start := 0, retry := true } } },
      { step := 6, start := 0, retry := true }, by decide⟩⟩

/-- Hypotheses of each clause of Obligations.PinsAndFaults are met. -/
theorem witness_PinsAndFaults :
    (∃ (a : Nat) (b : Nat) (c : Nat), (a ≤ 2 ∨ a = 4 ∨ a = 8) ∧ b ≤ 5 ∧ c ≤ 5) ∧
    (∃ (s : State), s.sec.job = none) ∧
    (∃ (s : State) (j : Job), s.sec.job = some j) ∧
    (∃ (s : State), s.pwr.asleep = false) ∧
    (∃ (s : State), s.pwr.asleep = true ∧ s.pwr.wake = none) ∧
    (∃ (s : State) (x : Rail), (s.pwr.vreq.getLsbD (railBit x) = false ∨ s.pwr.wake.isSome = true ∨
      s.pwr.supply.getLsbD (railBit x) = true)) ∧
    (∃ (s : State) (x : Rail), s.pwr.vreq.getLsbD (railBit x) = true ∧ s.pwr.wake = none ∧ s.pwr.supply.getLsbD
      (railBit x) = false ∧ s.pwr.stop = false) ∧
    (∃ (s : State) (x : Rail), s.pwr.vreq.getLsbD (railBit x) = true ∧ s.pwr.wake = none ∧ s.pwr.supply.getLsbD
      (railBit x) = false ∧ s.pwr.stop = false ∧ x = Rail.hbm) ∧
    (∃ (s : State) (d : Bool), s.pwr.trip.getLsbD d.toNat = false) ∧
    (∃ (s : State) (d : Bool), s.pwr.trip.getLsbD d.toNat = true) := ⟨
    ⟨8, 5, 5, by decide⟩,
    ⟨up, by decide⟩,
    ⟨{ up with sec := { job := some { hdr := {}, isSeal := true, assoc := 1, len := 1, urgent := false } } },
      { hdr := {}, isSeal := true, assoc := 1, len := 1, urgent := false }, by decide⟩,
    ⟨up, by decide⟩,
    ⟨{ up with pwr := { asleep := true } }, by decide⟩,
    ⟨up, .hbm, by decide⟩,
    ⟨{ up with pwr := { vreq := 31 } }, .swCore, by decide⟩,
    ⟨{ up with pwr := { vreq := 31 } }, .hbm, by decide⟩,
    ⟨up, by decide⟩,
    ⟨{ up with pwr := { trip := 3 } }, true, by decide⟩⟩

/-- Hypotheses of each clause of Obligations.StatusReads are met. -/
theorem witness_StatusReads :
    (∃ (h : Hdr) (s : State), runsNow h Cmd.timeStatus s) ∧
    (∃ (h : Hdr) (s : State) (n : Nat), n < 4 ∧ s.hasCarrier n = true ∧ runsNow h (Cmd.carrierStatus n) s) ∧
    (∃ (h : Hdr) (s : State) (n : Nat), n < 4 ∧ s.hasCarrier n = true ∧ runsNow h (Cmd.carrierMonitor n) s) ∧
    (∃ (h : Hdr) (s : State) (n : Nat), n < 4 ∧ s.hasCarrier n = true ∧ runsNow h (Cmd.grantStats n) s) ∧
    (∃ (h : Hdr) (s : State) (n : Nat), n < 4 ∧ s.hasCarrier n = true ∧ runsNow h (Cmd.forecastRead n) s) ∧
    (∃ (h : Hdr) (s : State) (n : Nat), n < 4 ∧ s.hasCarrier n = true ∧ runsNow h (Cmd.frameStatus n) s) ∧
    (∃ (h : Hdr) (s : State) (n : Nat), n < 4 ∧ s.hasCarrier n = true ∧ runsNow h (Cmd.cellStats n) s) ∧
    (∃ (h : Hdr) (s : State) (n : Nat), n < 4 ∧ s.hasCarrier n = false ∧ runsNow h (Cmd.carrierStatus n) s) ∧
    (∃ (h : Hdr) (s : State), runsNow h Cmd.regStatus s) ∧
    (∃ (h : Hdr) (s : State) (k : Nat), k < 4 ∧ runsNow h (Cmd.mchStats k) s) ∧
    (∃ (h : Hdr) (s : State) (a : Bool), s.variant.trib = true ∧ runsNow h (Cmd.tribPageRead a) s) ∧
    (∃ (h : Hdr) (s : State) (a : Bool), s.variant.trib = false ∧ runsNow h (Cmd.tribPageRead a) s) ∧
    (∃ (h : Hdr) (s : State), s.variant.trib = true ∧ runsNow h Cmd.tribStatus s) ∧
    (∃ (h : Hdr) (s : State), runsNow h Cmd.classStatus s) ∧
    (∃ (h : Hdr) (s : State) (q : Nat) (v : Queue), 256 ≤ q ∧ q ≤ 65535 ∧ s.queue q = some v ∧ runsNow h
      (Cmd.queueStatus q) s) ∧
    (∃ (h : Hdr) (s : State) (q : Nat), 256 ≤ q ∧ q ≤ 65535 ∧ s.queue q = none ∧ runsNow h (Cmd.queueStatus q) s) ∧
    (∃ (h : Hdr) (s : State) (p : Nat) (k : Nat), p < 32 ∧ s.hasPort p = true ∧ k < 8 ∧ runsNow h (Cmd.queueStatus (8
      * p + k)) s) ∧
    (∃ (h : Hdr) (s : State) (p : Nat), p < 32 ∧ s.hasPort p = true ∧ runsNow h (Cmd.gateStatus p) s) ∧
    (∃ (h : Hdr) (s : State) (p : Nat), p < 32 ∧ s.hasPort p = true ∧ runsNow h (Cmd.portStatus p) s) ∧
    (∃ (h : Hdr) (s : State) (p : Nat), p < 32 ∧ s.hasPort p = false ∧ runsNow h (Cmd.portStatus p) s) ∧
    (∃ (h : Hdr) (s : State), runsNow h Cmd.storeStatus s) ∧
    (∃ (h : Hdr) (s : State), runsNow h Cmd.dieStatus s ∧ s.die.split = true) ∧
    (∃ (h : Hdr) (s : State), runsNow h Cmd.dieStatus s ∧ s.die.split = false) ∧
    (∃ (h : Hdr) (s : State), runsNow h Cmd.secStatus s) ∧
    (∃ (h : Hdr) (s : State) (v : Nat), seedOf s.fuses.seedBanks = some v ∧ runsNow h Cmd.secIdentity s) ∧
    (∃ (h : Hdr) (s : State), seedOf s.fuses.seedBanks = none ∧ runsNow h Cmd.secIdentity s) ∧
    (∃ (h : Hdr) (s : State) (i : Nat), i ≤ 4095 ∧ runsNow h (Cmd.secAssocStatus i) s) ∧
    (∃ (h : Hdr) (s : State), runsNow h Cmd.deviceInfo s) ∧
    (∃ (h : Hdr) (s : State), runsNow h Cmd.deviceStatus s) ∧
    (∃ (h : Hdr) (s : State) (b : List Byte), b.length ≤ 256 ∧ runsNow h (Cmd.devicePing b) s) ∧
    (∃ (h : Hdr) (s : State) (b : List Byte), 256 < b.length ∧ runsNow h (Cmd.devicePing b) s) ∧
    (∃ (h : Hdr) (s : State) (g : Nat), 1 ≤ g ∧ g ≤ 255 ∧ runsNow h (Cmd.commitStatus g) s) ∧
    (∃ (h : Hdr) (s : State), runsNow h Cmd.powerStatus s) ∧
    (∃ (h : Hdr) (s : State), runsNow h Cmd.powerRetentionStatus s) ∧
    (∃ (h : Hdr) (s : State), runsNow h Cmd.engineStatus s) := ⟨
    ⟨hd, up, by decide⟩,
    ⟨hd, up, by decide⟩,
    ⟨hd, up, by decide⟩,
    ⟨hd, up, by decide⟩,
    ⟨hd, up, by decide⟩,
    ⟨hd, up, by decide⟩,
    ⟨hd, up, by decide⟩,
    ⟨hd, { up with fuses := { variant := .krt9610, lifecycle := .owned, owner := some 5 } }, 3, by decide⟩,
    ⟨hd, up, by decide⟩,
    ⟨hd, up, by decide⟩,
    ⟨hd, up, by decide⟩,
    ⟨hd, { up with fuses := { lifecycle := .owned, owner := some 5, variant := .krt9610 } }, true, by decide⟩,
    ⟨hd, up, by decide⟩,
    ⟨hd, up, by decide⟩,
    ⟨hd, { up with q := { tab := [(65535, some { assoc := 0, cls := 0, group := 0, limit := 0, ylim := 0 })] } },
      65535, { assoc := 0, cls := 0, group := 0, limit := 0, ylim := 0 }, by decide⟩,
    ⟨hd, up, 4095, by decide⟩,
    ⟨hd, up, 31, 7, by decide⟩,
    ⟨hd, up, 31, by decide⟩,
    ⟨hd, up, 31, by decide⟩,
    ⟨hd, { up with fuses := { lifecycle := .owned, owner := some 5, variant := .krt9620 } }, 16, by decide⟩,
    ⟨hd, up, by decide⟩,
    ⟨hd, { up with die := { split := true } }, by decide⟩,
    ⟨hd, up, by decide⟩,
    ⟨hd, up, by decide⟩,
    ⟨hd, { up with fuses := { lifecycle := .owned, owner := some 5, seedBanks := [.abandoned, .valid 9] } }, 9, by
      decide⟩,
    ⟨hd, up, by decide⟩,
    ⟨hd, up, 4095, by decide⟩,
    ⟨hd, up, by decide⟩,
    ⟨hd, up, by decide⟩,
    ⟨hd, up, List.replicate 256 0, (by rw [List.length_replicate]), by decide⟩,
    ⟨hd, up, List.replicate 257 0, (by rw [List.length_replicate]; decide), by decide⟩,
    ⟨hd, up, 3, by decide⟩,
    ⟨hd, up, by decide⟩,
    ⟨hd, up, by decide⟩,
    ⟨hd, up, by decide⟩⟩

/-- Hypotheses of each clause of Obligations.RowsAnswer are met. -/
theorem witness_RowsAnswer :
    ∃ (o : Nat), o < 65536 ∧ o % 4 = 0 :=
  ⟨0xFFFC, by decide⟩

end Sys2Proof.Tests
end

section
/-!
PPS_IN (R43): the offset of an edge from the nearest line-time second, what an edge on an awake terminal does, and O12.
-/
namespace Sys2Proof.Proofs.PpsInput
open Sys2Proof Sys2Proof.Machine

/-- Out of DOLDRUMS an input acts (R327). -/
theorem awake_of_not_asleep {s : State} (h : s.pwr.asleep = false) (t : State) : awake s t = t := by
  simp [awake, h]

/-- The signed offset of an instant from the nearest line-time second, in 0.25 ns (R43); an instant half way between two
seconds counts from the earlier one (log entry 12). -/
def secondOffset (t : Instant) : Int :=
  if t % sec 1 ≤ sec 1 / 2 then ((t % sec 1 : Nat) : Int) / 16384
  else (((t % sec 1 : Nat) : Int) - sec 1) / 16384

/-- The two halves of the second determine the offset. -/
theorem eq_secondOffset {t : Instant} {off : Int}
    (hearly : t % sec 1 ≤ sec 1 / 2 → off = ((t % sec 1 : Nat) : Int) / 16384)
    (hlate : sec 1 / 2 < t % sec 1 → off = (((t % sec 1 : Nat) : Int) - sec 1) / 16384) :
    off = secondOffset t := by
  unfold secondOffset
  split
  · next h => exact hearly h
  · next h => exact hlate (Nat.lt_of_not_le h)

/-- The state with PPSIN_OFFSET at an offset, and nothing else changed. -/
def storeOffset (off : Int) (s : State) : State :=
  { s with tio := { s.tio with ppsOffset := BitVec.ofNat 32 (unsigned 32 off) } }

/-- An edge on PPS_IN of an awake terminal stores the offset; past the threshold it also sets the mismatch flag and raises
time.pps_in_mismatch (R43). -/
theorem exec_ppsInEdge {s : State} (h : s.pwr.asleep = false) (sub : Nat) :
    exec (.ppsInEdge sub) s = .next (
      if 4 * s.tio.ppsThreshold < (secondOffset (lineTime s + sub * quarter)).natAbs then
        raise 0x2A (setFlag 5 (storeOffset (secondOffset (lineTime s + sub * quarter)) s))
      else storeOffset (secondOffset (lineTime s + sub * quarter)) s) :=
  congrArg Host.Outcome.next (awake_of_not_asleep h _)

/-- Settles O12: the offset of the statement is `secondOffset` of the edge's instant, and the threshold picks the branch. -/
theorem ppsInput : Obligations.PpsInput := by
  unfold Obligations.PpsInput
  refine ⟨rfl, fun s sub off hawake ⟨hearly, hlate⟩ => ?_⟩
  obtain rfl := eq_secondOffset hearly hlate
  rw [exec_ppsInEdge hawake]
  constructor
  · intro hwithin
    rw [if_neg (Nat.not_lt.mpr hwithin)]
    rfl
  · intro hbeyond
    rw [if_pos hbeyond]
    rfl

end Sys2Proof.Proofs.PpsInput
end

section
/-!
Classification tables (R143, R144): what the write-in of a COMMITTED group can change.
-/
namespace Sys2Proof.Proofs.WriteIn
open Sys2Proof Sys2Proof.Machine

/-- Between two states only classification tables, the event controller and what is sent differ; the current generation and its slot
are the same. -/
def tablesOnly (s t : State) : Prop :=
  t = { s with cls := t.cls, evc := t.evc, out := t.out } ∧ t.cls.curB = s.cls.curB ∧ t.cls.gen = s.cls.gen

theorem tablesOnly.refl (s : State) : tablesOnly s s := ⟨rfl, rfl, rfl⟩

theorem tablesOnly.trans {s t u : State} (h : tablesOnly s t) (k : tablesOnly t u) : tablesOnly s u := by
  obtain ⟨hst, hslot, hgen⟩ := h
  obtain ⟨htu, kslot, kgen⟩ := k
  exact ⟨by rw [htu, hst], kslot.trans hslot, kgen.trans hgen⟩

theorem tablesOnly.groups {s t : State} (h : tablesOnly s t) : t.groups = s.groups := by
  rw [h.1]

theorem tablesOnly.grp {s t : State} (h : tablesOnly s t) (g : Nat) : t.grp g = s.grp g := by
  simp only [State.grp, h.groups]

theorem tablesOnly.of_evOnly {s t : State} (h : evOnly s t) : tablesOnly s t :=
  ⟨by unfold evOnly at h; rw [h], by rw [h.cls], by rw [h.cls]⟩

/-- A change of the classifier that keeps the current generation and its slot. -/
theorem tablesOnly.of_modCls {f : Classifier → Classifier} {s : State} (hslot : (f s.cls).curB = s.cls.curB)
    (hgen : (f s.cls).gen = s.cls.gen) : tablesOnly s (modCls f s) :=
  ⟨rfl, hslot, hgen⟩

theorem modTables_tablesOnly (sl : Bool × Bool) (f : GenTables → GenTables) (s : State) : tablesOnly s (modTables sl f s) := by
  unfold modTables
  exact .of_modCls rfl rfl

theorem noteFlows_tablesOnly (s : State) : tablesOnly s (noteFlows s) := by
  unfold noteFlows
  dsimp only
  split
  · refine .trans ?_ (.of_evOnly (raise_only _ _))
    exact .of_modCls rfl rfl
  · split
    · exact .of_modCls rfl rfl
    · exact .refl s

theorem putFlow_tablesOnly (sl : Bool × Bool) (w : EntryWord) (key : List Byte) (s : State) :
    tablesOnly s (putFlow sl w key s) := by
  refine .trans ?_ (noteFlows_tablesOnly _)
  exact .of_modCls rfl rfl

theorem dropFlow_tablesOnly (sl : Bool × Bool) (profile : Nat) (key : List Byte) (s : State) :
    tablesOnly s (dropFlow sl profile key s) := by
  refine .trans ?_ (noteFlows_tablesOnly _)
  exact .of_modCls rfl rfl

theorem putTern_tablesOnly (sl : Bool × Bool) (idx : Nat) (w : EntryWord) (value mask : List Byte) (s : State) :
    tablesOnly s (putTern sl idx w value mask s) := by
  unfold putTern
  exact .of_modCls rfl rfl

theorem dropTern_tablesOnly (sl : Bool × Bool) (idx : Nat) (s : State) : tablesOnly s (dropTern sl idx s) :=
  .of_modCls rfl rfl

theorem putActions_tablesOnly (sl : Bool × Bool) (idx : Nat) (acts : List Action) (s : State) :
    tablesOnly s (putActions sl idx acts s) :=
  .of_modCls rfl rfl

theorem putNode_tablesOnly (sl : Bool × Bool) (node : Nat) (d : Option UserNode) (s : State) :
    tablesOnly s (putNode sl node d s) :=
  modTables_tablesOnly sl _ s

theorem putProfile_tablesOnly (sl : Bool × Bool) (k : Nat) (keys ternary : List Selection) (s : State) :
    tablesOnly s (putProfile sl k keys ternary s) :=
  modTables_tablesOnly sl _ s

theorem putDefault_tablesOnly (sl : Bool × Bool) (port set profile : Nat) (s : State) :
    tablesOnly s (putDefault sl port set profile s) :=
  modTables_tablesOnly sl _ s

/-- A staged classification change writes tables and nothing else (Table 11-9). -/
theorem putClassification_tablesOnly (sl : Bool × Bool) (c : Cmd) (s : State) :
    tablesOnly s (putClassification sl c s) := by
  cases c with
  | flowInsert w key => exact putFlow_tablesOnly sl w key s
  | flowModify profile key w => exact putFlow_tablesOnly sl { w with profile := profile } key s
  | flowDelete profile key => exact dropFlow_tablesOnly sl profile key s
  | flowActionWrite idx acts => exact putActions_tablesOnly sl idx acts s
  | ternaryWrite idx w value mask => exact putTern_tablesOnly sl idx w value mask s
  | ternaryDelete idx => exact dropTern_tablesOnly sl idx s
  | parseNodeSet node d => exact putNode_tablesOnly sl node d s
  | classProfileSet k keys ternary => exact putProfile_tablesOnly sl k keys ternary s
  | classDefaultSet port set profile => exact putDefault_tablesOnly sl port set profile s
  | _ => exact .refl s

/-- Operations that write tables alone, one for each element of a list. -/
theorem foldl_tablesOnly {α : Type} {f : State → α → State} (hf : ∀ s a, tablesOnly s (f s a)) (l : List α) (s : State) :
    tablesOnly s (l.foldl f s) := by
  induction l generalizing s with
  | nil => exact .refl s
  | cons a l ih => exact (hf s a).trans (ih (f s a))

theorem openGeneration_tablesOnly (s : State) : tablesOnly s (openGeneration s) := by
  unfold openGeneration
  exact .of_modCls rfl rfl

/-- A write-in fills the free slot; the current generation stays (R144). -/
theorem beginWriteIn_tablesOnly (w : WriteIn) (s : State) : tablesOnly s (beginWriteIn w s) := by
  unfold beginWriteIn
  dsimp only
  refine .trans ?_ (.of_modCls rfl rfl)
  exact (openGeneration_tablesOnly s).trans
    (foldl_tablesOnly (fun s (c : Staged) => putClassification_tablesOnly _ c.cmd s) _ _)

/-- Requesting the next write-in changes no generation and no group (R144). -/
theorem startWriteIn_tablesOnly (s : State) : tablesOnly s (startWriteIn s) := by
  unfold startWriteIn
  dsimp only
  split
  · exact .refl s
  · split
    · exact .refl s
    · split
      · exact beginWriteIn_tablesOnly _ s
      · exact .of_modCls rfl rfl

/-- One write-in at a time (R144). -/
theorem startWriteIn_of_isSome {s : State} (h : s.cls.writeIn.isSome = true) : startWriteIn s = s := by
  simp only [startWriteIn, h, if_true]

end Sys2Proof.Proofs.WriteIn
end

section
/-!
commit.apply (R262): its checks in their order as one status, what success makes of the group, the effective instant (R37), the
end of a group with nothing staged (R264), and O43.
-/
namespace Sys2Proof.Proofs.CommitApply
open Sys2Proof Sys2Proof.Machine Sys2Proof.Proofs.WriteIn

/-- An instant named while line time is invalid (R38). -/
theorem instantStatus_invalid {i : Instant} {s : State} (h : switchValid s = false) : instantStatus i s = .timeInvalid := by
  simp [instantStatus, h]

/-- An instant less than 10 µs away (R38). -/
theorem instantStatus_passed {i : Instant} {s : State} (hv : switchValid s = true) (h : i < switchTime s + us 10) :
    instantStatus i s = .instantPassed := by
  simp [instantStatus, hv, h]

/-- An instant at least 10 µs away under valid line time (R38). -/
theorem instantStatus_ok {i : Instant} {s : State} (hv : switchValid s = true) (h : switchTime s + us 10 ≤ i) :
    instantStatus i s = .ok := by
  simp [instantStatus, hv, Nat.not_lt.mpr h]

/-- What the checks of R262 give, in their order: the first failure, or OK. -/
def applyStatus (h : Hdr) (g : Nat) (i : Instant) (s : State) : Status :=
  if (s.grp g).state ≠ .open_ ∨ (s.grp g).owner ≠ h.transport then .groupState
  else if instantStatus i s ≠ .ok then instantStatus i s
  else if switchTime s + sec 60 < i then .instantTooFar
  else if (needsFrame (s.grp g).changes s ∧ i % frameTime ≠ 0) ∨ wrongSwap (s.grp g).changes i then .instantMisaligned
  else locksStatus g (effective i) (locksOf (s.grp g).changes) s

/-- Group `g` as a successful apply for instant `i` leaves it (R262, R263). -/
def committed (g : Nat) (i : Instant) (s : State) : Group :=
  { s.grp g with
    state := .committed, eff := effective i, locks := locksOf (s.grp g).changes,
    ahead := queuedAhead g (locksOf (s.grp g).changes) s, active := s.clk.now, checked := false }

/-- The data of a successful apply's reply (R262). -/
def appliedData (g : Nat) (i : Instant) (s : State) : List Nat :=
  [secOf (effective i), nsOf (effective i), fracOf (effective i), classBits (locksOf (s.grp g).changes),
    queuedAhead g (locksOf (s.grp g).changes) s]

/-- The state after a successful apply: the group is COMMITTED, and a write-in that waited for it may begin. -/
def applied (g : Nat) (i : Instant) (s : State) : State := startWriteIn (setGrp g (committed g i s) s)

@[simp] theorem applyStatus_takeUp (h : Hdr) (g : Nat) (i : Instant) (s : State) :
    applyStatus h g i (takeUp h s) = applyStatus h g i s := by
  simp [applyStatus]

@[simp] theorem committed_takeUp (g : Nat) (i : Instant) (h : Hdr) (s : State) :
    committed g i (takeUp h s) = committed g i s := by
  simp [committed]

@[simp] theorem appliedData_takeUp (g : Nat) (i : Instant) (h : Hdr) (s : State) :
    appliedData g i (takeUp h s) = appliedData g i s := by
  simp [appliedData]

/-- commit.apply of a group number in range: it fails with the first failing check and changes nothing, or the group is
COMMITTED. -/
theorem doCommitApply_eq (h : Hdr) {g : Nat} (i : Instant) (s : State) (hlo : 1 ≤ g) (hhi : g ≤ 255) :
    doCommitApply h g i s =
      if applyStatus h g i s = .ok then okData (appliedData g i s) (applied g i s) else fail (applyStatus h g i s) s := by
  unfold doCommitApply applyStatus require
  simp only [hlo, hhi, and_self, decide_true, if_true]
  split
  · rfl
  · split
    · next hinstant =>
      simp only [hinstant, ne_eq, not_true_eq_false, if_false]
      split
      · rfl
      · split
        · rfl
        · split
          · next hlocks => rw [if_pos hlocks]; rfl
          · next hlocks => rw [if_neg hlocks]
    · next hinstant => rw [if_pos hinstant, if_neg hinstant]

/-- A failing check is the reply, and nothing else changes. -/
theorem failsWith_of_applyStatus {h : Hdr} {s : State} {g : Nat} {i : Instant} {st : Status}
    (hr : runsNow h (.commitApply g i) s) (hlo : 1 ≤ g) (hhi : g ≤ 255) (hst : applyStatus h g i s = st) (hne : st ≠ .ok) :
    failsWith (.commitApply h g i) h 0x0A02 st s := by
  have hbody : doCommitApply h g i (takeUp h s) = fail st (takeUp h s) := by
    rw [doCommitApply_eq h i _ hlo hhi, applyStatus_takeUp, hst, if_neg hne]
  exact failsWith_plain hr rfl rfl rfl hbody

/-- With every check passed the reply is OK with the effective instant. -/
theorem exec_of_applyStatus_ok {h : Hdr} {s : State} {g : Nat} {i : Instant}
    (hr : runsNow h (.commitApply g i) s) (hlo : 1 ≤ g) (hhi : g ≤ 255) (hok : applyStatus h g i s = .ok) :
    exec (.commitApply h g i) s =
      .next (sendReply h 0x0A02 { data := appliedData g i s } (applied g i (takeUp h s))) := by
  have hbody : doCommitApply h g i (takeUp h s) = okData (appliedData g i s) (applied g i (takeUp h s)) := by
    rw [doCommitApply_eq h i _ hlo hhi, applyStatus_takeUp, if_pos hok, appliedData_takeUp]
  exact congrArg Host.Outcome.next (command_runs hr (by rw [begun_plain rfl]; exact hbody))

theorem setGrp_applied_tablesOnly (g : Nat) (i : Instant) (s : State) :
    tablesOnly (setGrp g (committed g i s) s) (applied g i s) :=
  startWriteIn_tablesOnly _

/-- The applied group is COMMITTED (R262). -/
theorem applied_grp_self (g : Nat) (i : Instant) (s : State) : (applied g i s).grp g = committed g i s := by
  rw [(setGrp_applied_tablesOnly g i s).grp, setGrp_self]

/-- The other groups stay as they are. -/
theorem applied_otherGroups (g : Nat) (i : Instant) (s : State) : otherGroups g s (applied g i s) := fun m hm => by
  rw [(setGrp_applied_tablesOnly g i s).grp, setGrp_ne m g _ s hm]

/-- A write-in under way goes on untouched (R144). -/
theorem applied_cls_of_writeIn {g : Nat} {i : Instant} {s : State} (h : s.cls.writeIn.isSome = true) :
    (applied g i s).cls = s.cls := by
  unfold applied
  rw [startWriteIn_of_isSome (by simpa using h), setGrp_cls]

/-- What a successful apply leaves unchanged. -/
theorem applied_frame (g : Nat) (i : Instant) (s : State) :
    applied g i s = { s with
      groups := (applied g i s).groups, cls := (applied g i s).cls, evc := (applied g i s).evc, out := (applied g i s).out } := by
  have hsame := setGrp_applied_tablesOnly g i s
  rw [hsame.groups]
  exact hsame.1

/-- A frame boundary is its own effective instant (R37). -/
theorem effective_boundary {i : Instant} (h : i % frameTime = 0) : effective i = i := if_pos h

/-- Any other instant takes effect at the start of its 12.8 ns slot (R37). -/
theorem effective_slotStart {i : Instant} (h : i % frameTime ≠ 0) : effective i = slotStart (gridSlot i) := if_neg h

/-- The slot of an instant starts at or after it. -/
theorem le_gridSlot (i : Nat) : 5 * i ≤ gridSlot i * gridFifths := by
  unfold gridSlot gridFifths
  omega

/-- No earlier slot does. -/
theorem gridSlot_le {i j : Nat} (h : 5 * i ≤ j * gridFifths) : gridSlot i ≤ j := by
  unfold gridSlot gridFifths at *
  omega

/-- A group with nothing staged is ready once line time is valid (Table 11-10). -/
theorem readiness_of_no_changes {g : Nat} {s : State} (hc : (s.grp g).changes = []) (hb : (s.grp g).shadowBad = none)
    (hv : switchValid s = true) : readiness g s = none := by
  simp [readiness, firstChange, changedTarget, hc, hb, hv]

/-- A check that finds nothing wrong leaves the group COMMITTED with the changes it has. -/
theorem checkGroup_of_ready {g : Nat} {s : State} (hs : (s.grp g).state = .committed) (hready : readiness g s = none) :
    ((checkGroup g s).grp g).state = .committed ∧ ((checkGroup g s).grp g).changes = (s.grp g).changes := by
  unfold checkGroup
  dsimp only
  split
  · exact ⟨hs, rfl⟩
  · simp [hready, hs]

/-- The switch of a group with nothing staged makes it DONE (R259, R264). -/
theorem commitGroup_done_of_no_changes {g : Nat} {s : State} (hc : (s.grp g).changes = []) :
    ((commitGroup g s).grp g).state = .done := by
  simp only [commitGroup, hc, inOrder, List.map_nil, List.filter_nil, List.append_nil, List.foldl_nil, List.any_nil,
    Bool.false_eq_true, if_false]
  rw [((tablesOnly.of_evOnly (raise_only _ _)).trans (startWriteIn_tablesOnly _)).grp, setGrp_self]

/-- A COMMITTED group with nothing staged becomes DONE at its effective instant (R262). -/
theorem commitInstant_done_of_no_changes {g : Nat} {s : State} (hs : (s.grp g).state = .committed)
    (hc : (s.grp g).changes = []) (hb : (s.grp g).shadowBad = none) (hv : switchValid s = true)
    (hi : (s.grp g).eff ≤ switchTime s) : nextWith (.commitInstant g) s fun t => (t.grp g).state = .done := by
  obtain ⟨hstate, hchanges⟩ := checkGroup_of_ready hs (readiness_of_no_changes hc hb hv)
  have hexec : exec (.commitInstant g) s = .next (commitGroup g (checkGroup g s)) := by
    show execCommitInstant g s = _
    simp [execCommitInstant, hs, hi, hstate]
  exact ⟨_, hexec, commitGroup_done_of_no_changes (hchanges.trans hc)⟩

/-- Settles O43: `applyStatus` is the first failing check, and `applied` the state after a success. -/
theorem commitApply : Obligations.CommitApply := by
  unfold Obligations.CommitApply
  intro h s g i hlo hhi
  refine ⟨fun hr => ⟨fun hgroup => ?_, fun hopen howner =>
      ⟨fun hinvalid => ?_, fun hv hpassed => ?_, fun hv hsoon hfar => ?_, fun hv hsoon hnear hneeds hoff => ?_,
        fun hv hsoon hnear haligned hswap => ?_⟩⟩,
    effective_boundary, fun hoff => ⟨gridSlot i, effective_slotStart hoff, le_gridSlot i, fun j => gridSlot_le⟩,
    commitInstant_done_of_no_changes⟩
  · exact failsWith_of_applyStatus hr hlo hhi (if_pos hgroup) (by decide)
  · exact failsWith_of_applyStatus hr hlo hhi
      (by simp [applyStatus, hopen, howner, instantStatus_invalid hinvalid]) (by decide)
  · exact failsWith_of_applyStatus hr hlo hhi
      (by simp [applyStatus, hopen, howner, instantStatus_passed hv hpassed]) (by decide)
  · exact failsWith_of_applyStatus hr hlo hhi
      (by simp [applyStatus, hopen, howner, instantStatus_ok hv hsoon, hfar]) (by decide)
  · exact failsWith_of_applyStatus hr hlo hhi
      (by simp [applyStatus, hopen, howner, instantStatus_ok hv hsoon, Nat.not_lt.mpr hnear, hneeds, hoff]) (by decide)
  · have hlocks : applyStatus h g i s = locksStatus g (effective i) (locksOf (s.grp g).changes) s := by
      simpa [applyStatus, hopen, howner, instantStatus_ok hv hsoon, Nat.not_lt.mpr hnear, hswap] using
        fun hneeds hoff => absurd (haligned hneeds) hoff
    refine ⟨fun st hne hst => failsWith_of_applyStatus hr hlo hhi (hlocks.trans hst) hne, fun hok => ?_⟩
    obtain ⟨-, hslot, hgen⟩ := setGrp_applied_tablesOnly g i (takeUp h s)
    refine ⟨_, _, applied g i (takeUp h s), exec_of_applyStatus_ok hr hlo hhi (hlocks.trans hok), ?_, ?_, ?_, ?_, ?_,
      applied_frame g i (takeUp h s)⟩
    · rw [applied_grp_self, committed_takeUp]
      rfl
    · intro m hm
      rw [applied_otherGroups g i _ m hm, takeUp_grp]
    · simpa using hslot
    · simpa using hgen
    · intro hwriteIn
      rw [applied_cls_of_writeIn (by simpa using hwriteIn), takeUp_cls]

end Sys2Proof.Proofs.CommitApply
end

section
/-!
What every row keeps: the fuses only go forward, the queue and local time stay (R9, R213, R216, R338). O4 to O7 follow.
-/
namespace Sys2Proof.Proofs.Steps
open Sys2Proof Sys2Proof.Machine

set_option Elab.async false

/-- From `s` to `t` no fuse is taken back, the fuses go on agreeing, and local time and the queue stay. -/
structure Onward (s t : State) : Prop where
  fuses : fusesOk s → fusesOk t ∧ fusesForward s.fuses t.fuses
  now : t.clk.now = s.clk.now
  pending : t.pending = s.pending

theorem fusesForward_refl (a : Fuses) : fusesForward a a :=
  ⟨rfl, rfl, rfl, le_rfl, le_rfl, fun _ h => h⟩

theorem fusesForward_trans {a b c : Fuses} (h : fusesForward a b) (k : fusesForward b c) : fusesForward a c := by
  obtain ⟨hvar, hmaj, hmin, hsec, hlife, howner⟩ := h
  obtain ⟨kvar, kmaj, kmin, ksec, klife, kowner⟩ := k
  exact ⟨kvar.trans hvar, kmaj.trans hmaj, kmin.trans hmin, hsec.trans ksec, hlife.trans klife, fun d hd => kowner d (howner d hd)⟩

/-- Equal fuses agree as before, and nothing is taken back. -/
theorem forward_of_eq {s t : State} (h : t.fuses = s.fuses) (hok : fusesOk s) : fusesOk t ∧ fusesForward s.fuses t.fuses := by
  unfold fusesOk
  rw [h]
  exact ⟨hok, fusesForward_refl _⟩

theorem Onward.of_kept {s t : State} (h : kept t = kept s) : Onward s t := by
  obtain ⟨hfuses, hclk⟩ := Prod.mk.inj h
  obtain ⟨hnow, hpending⟩ := Prod.mk.inj hclk
  exact ⟨forward_of_eq hfuses, hnow, hpending⟩

theorem Onward.refl (s : State) : Onward s s := .of_kept rfl

theorem Onward.trans {s t u : State} (h : Onward s t) (k : Onward t u) : Onward s u where
  fuses hok :=
    have ⟨hok', hforward⟩ := h.fuses hok
    have ⟨hok'', kforward⟩ := k.fuses hok'
    ⟨hok'', fusesForward_trans hforward kforward⟩
  now := k.now.trans h.now
  pending := k.pending.trans h.pending

/-- What keeps fuses, local time and queue may follow. -/
theorem Onward.kept_right {s t u : State} (h : Onward s t) (k : kept u = kept t) : Onward s u := h.trans (.of_kept k)

/-- What keeps fuses, local time and queue may come before. -/
theorem Onward.kept_left {s t u : State} (h : kept t = kept s) (k : Onward t u) : Onward s u := (Onward.of_kept h).trans k

/-! ### The operations that program a fuse -/

/-- A boot raises the fused minimum at most (R338). -/
theorem bootImage_onward (slot : Nat) (i : FwImage) (s : State) : Onward s (bootImage slot i s) where
  fuses hok := ⟨hok, rfl, rfl, rfl, le_max_left _ _, le_rfl, fun _ h => h⟩
  now := rfl
  pending := rfl

/-- A valid seed ends BLANK (R213, R214). -/
def markUnowned (s : State) : State :=
  if s.fuses.lifecycle = .blank then { s with fuses := { s.fuses with lifecycle := .unowned } } else s

/-- The state with other seed banks. -/
def withBanks (banks : List SeedBank) (s : State) : State := { s with fuses := { s.fuses with seedBanks := banks } }

theorem markUnowned_onward (s : State) : Onward s (markUnowned s) := by
  unfold markUnowned
  split
  · next hblank =>
    refine ⟨fun hok => ⟨?_, rfl, rfl, rfl, le_rfl, by simp [lifecycleRank, hblank], fun _ h => h⟩, rfl, rfl⟩
    have hnone : ¬ s.fuses.owner ≠ none := fun ho => by simpa [hblank] using hok.mpr ho
    simpa [fusesOk] using hnone
  · exact .refl s

theorem withBanks_onward (banks : List SeedBank) (s : State) : Onward s (withBanks banks s) :=
  ⟨fun hok => ⟨hok, rfl, rfl, rfl, le_rfl, le_rfl, fun _ h => h⟩, rfl, rfl⟩

theorem seedStage_onward (r : StageResult) (s : State) : Onward s (seedStage r s) := by
  unfold seedStage
  dsimp only
  split
  · exact Onward.kept_right (markUnowned_onward s) (toStage_kept 2 _)
  · split
    · exact .of_kept (by simp)
    · next k _ =>
      split
      · exact .of_kept (by simp)
      · split
        · have hvalid (banks : List SeedBank) (s : State) : Onward s (toStage 2 (markUnowned (withBanks banks s))) :=
            ((withBanks_onward banks s).trans (markUnowned_onward _)).kept_right (toStage_kept 2 _)
          exact .kept_left (draw_kept s) (hvalid ((draw s).2.fuses.seedBanks.set k (.valid (draw s).1)) (draw s).2)
        · exact .kept_right (withBanks_onward _ s) (stopBoot_kept _)

/-- An enrolment fuses the owner where none is fused (R216). -/
theorem doSecOwnerEnrol_onward (challenge : Ident) (digest : Digest) (ec mldsa : Bool) (s : State) :
    Onward s (doSecOwnerEnrol challenge digest ec mldsa s).2 := by
  simp only [doSecOwnerEnrol]
  split
  · exact .of_kept (fail_kept _ s)
  · next hnot =>
    split
    · refine .kept_left (consume_kept challenge s) ⟨fun hok => ?_, rfl, rfl⟩
      have hfuses : (consume challenge s).fuses = s.fuses := (Prod.mk.inj (consume_kept challenge s)).1
      have hnone : (consume challenge s).fuses.owner = none := by
        by_contra howner
        exact hnot (hfuses ▸ hok.mpr howner)
      refine ⟨by simp [okData, fusesOk], rfl, rfl, rfl, le_rfl, ?_, ?_⟩
      · show lifecycleRank _ ≤ lifecycleRank .owned
        cases (consume challenge s).fuses.lifecycle <;> decide
      · simp [hnone]
    · exact .of_kept (by simp)

/-- A firmware load boots its image in recovery (R339). -/
theorem doDeviceFwLoad_onward (offset len : Nat) (last : Option FwImage) (s : State) :
    Onward s (doDeviceFwLoad offset len last s).2 := by
  unfold doDeviceFwLoad require
  split
  · dsimp only
    split
    · exact .of_kept rfl
    · next i =>
      split
      · exact .of_kept rfl
      · split
        · exact ⟨fun hok => ⟨hok, rfl, rfl, rfl, le_max_left _ _, le_rfl, fun _ h => h⟩, rfl, rfl⟩
        · exact .of_kept rfl
  · exact .of_kept rfl

/-! ### Palgil commands -/

theorem bodyOf_onward (h : Hdr) (c : Cmd) (s : State) : Onward s (bodyOf h c s).2 := by
  by_cases henrol : Cmd.opcode c = 0x0904
  · cases c with
    | secOwnerEnrol challenge digest ec mldsa => exact doSecOwnerEnrol_onward challenge digest ec mldsa s
    | _ => simp [Cmd.opcode] at henrol
  · by_cases hload : Cmd.opcode c = 0x0104
    · cases c with
      | deviceFwLoad offset len last => exact doDeviceFwLoad_onward offset len last s
      | _ => simp [Cmd.opcode] at hload
    · exact .of_kept (bodyOf_kept h c s henrol hload)

theorem run_onward (h : Hdr) (c : Cmd) (s : State) : Onward s (run h c s) := by
  unfold run
  dsimp only
  split
  · exact .of_kept (sendReply_kept _ _ _ s)
  · have hcheck := secCheck_kept h (Cmd.opcode c) s
    split
    · next heq => exact .of_kept (by simpa [heq] using hcheck)
    · next s1 heq =>
      refine .kept_left (t := s1) (by simpa [heq] using hcheck) ?_
      have hbody : Onward s1 (if h.group = 0 then bodyOf h c s1 else stageCmd h c h.len s1).2 := by
        split
        · exact bodyOf_onward h c s1
        · exact .of_kept (by simp)
      split
      · next a u hu => exact (hu ▸ hbody).kept_right (sendReply_kept _ _ _ _)
      · next u hu => exact (hu ▸ hbody).kept_right (keepOpen_kept _ _ _)

theorem command_onward (h : Hdr) (c : Cmd) (s : State) : Onward s (command h c s) :=
  .kept_left (takeUp_kept h s) (run_onward h c _)

theorem startWaiting_onward (s : State) : Onward s (startWaiting s) := by
  unfold startWaiting
  split
  · exact .refl s
  · split
    · exact .refl s
    · exact .kept_left (by simp) (run_onward _ _ _)

theorem takePacket_onward (h : Hdr) (p : Packet) (s : State) : Onward s (takePacket h p s) := by
  unfold takePacket
  dsimp only
  split
  · exact .of_kept (by simp)
  · exact .refl s
  · split
    · exact .of_kept (by simp)
    · next c _ =>
      refine .kept_left (takeUp_kept h s) ?_
      unfold startOrWait
      split
      · exact .of_kept (by simp)
      · exact run_onward h c _

theorem packet_onward (h : Hdr) (p : Packet) (fits : Bool) (s : State) : Onward s (packet h p fits s) := by
  unfold packet
  split
  · exact .of_kept (by simp)
  · exact takePacket_onward h p s

/-! ### Rows -/

/-- The row answers a next state with the fuses, local time and queue of the state it finds. -/
def RowKept (i : Instr) : Prop := ∀ s, ∃ t, exec i s = .next t ∧ kept t = kept s

/-- The row answers a next state, onward from the state it finds. -/
def RowOnward (i : Instr) : Prop := ∀ s, ∃ t, exec i s = .next t ∧ Onward s t

theorem RowKept.onward {i : Instr} (h : RowKept i) : RowOnward i := fun s =>
  have ⟨t, hexec, hkept⟩ := h s
  ⟨t, hexec, .of_kept hkept⟩

/-- The row of a Palgil command starts it. -/
theorem exec_of_palgil {i : Instr} {h : Hdr} {c : Cmd} (hi : i.palgil = some (h, c)) (s : State) :
    exec i s = .next (command h c s) := by
  cases i <;> cases hi <;> rfl

theorem ringSubmissionFetch_onward (e : SubEntry) (p : Packet) (dma : Bool) : RowOnward (.ringSubmissionFetch e p dma) := by
  refine fun s => ⟨_, rfl, ?_⟩
  split
  · exact .refl s
  · split
    · exact .of_kept (by simp)
    · exact .kept_left (by simp) (packet_onward _ p _ _)

theorem writeCmd_onward (p : Packet) : RowOnward (.writeCmd p) := by
  refine fun s => ⟨_, rfl, ?_⟩
  split
  · exact .of_kept (by simp)
  · exact packet_onward _ p _ s

theorem inbandCommandFrame_onward (port : Nat) (f : InbandReq) (p : Packet) : RowOnward (.inbandCommandFrame port f p) := by
  refine fun s => ⟨_, rfl, ?_⟩
  dsimp only
  split
  · exact .refl s
  · exact packet_onward _ p _ s

theorem bootStageComplete_onward (r : StageResult) : RowOnward (.bootStageComplete r) := by
  refine fun s => ⟨_, rfl, ?_⟩
  split
  · exact .refl s
  · split
    · split
      · exact .refl s
      · exact .of_kept (by simp)
    · split
      case h_1 => exact seedStage_onward r s
      case h_4 =>
        have hslots : kept (if r.images = [] then s else
            { s with dev := { s.dev with slots := (r.images ++ [none, none]).take 2 } }) = kept s := by
          split <;> rfl
        dsimp only
        generalize (if r.images = [] then s else
            { s with dev := { s.dev with slots := (r.images ++ [none, none]).take 2 } }) = s1 at hslots ⊢
        refine .kept_left hslots ?_
        split
        · exact (bootImage_onward _ _ _).kept_right (toStage_kept 5 _)
        · exact .of_kept rfl
      all_goals exact .of_kept (by simp)

theorem wakeStepReady_onward (r : StepReport) : RowOnward (.wakeStepReady r) := by
  refine fun s => ⟨_, rfl, ?_⟩
  split
  · exact .refl s
  · next w _ =>
    split
    · exact .refl s
    · by_cases hload : w.step = 6 ∧ w.retry = true
      · obtain ⟨hstep, hretry⟩ := hload
        rw [if_neg (by omega), if_neg (by omega), if_pos hstep, if_pos hretry]
        split
        · exact (bootImage_onward _ _ s).kept_right (nextWakeStep_kept _ _)
        · exact .refl s
      · refine .of_kept ?_
        dsimp only
        (repeat' split) <;> simp_all

/-! Every other row but a power-on reset and a register write keeps fuses, local time and queue: one lemma for each, from those of
Laws/Kept.lean. -/

@[simp] theorem cmdSqTailWrite_kept (v) : RowKept (.cmdSqTailWrite v) := fun _ => ⟨_, rfl, by simp⟩
@[simp] theorem cmdRqHeadWrite_kept (v) : RowKept (.cmdRqHeadWrite v) := fun _ => ⟨_, rfl, by simp⟩
@[simp] theorem cmdCtrlEnWrite_kept (v) : RowKept (.cmdCtrlEnWrite v) := fun _ => ⟨_, rfl, by simp⟩
@[simp] theorem readReply_kept : RowKept (.readReply) := fun _ => ⟨_, rfl, by (repeat' split) <;> simp⟩
@[simp] theorem readStatus_kept : RowKept (.readStatus) := fun _ => ⟨_, rfl, by simp⟩
@[simp] theorem timeNowLoRead_kept (edge) : RowKept (.timeNowLoRead edge) :=
  fun _ => ⟨_, rfl, by simp [kept_upd, fuses_kept, now_kept, pending_kept]⟩
@[simp] theorem timeNowHiRead_kept (sec) (edge) : RowKept (.timeNowHiRead sec edge) :=
  fun _ => ⟨_, rfl, by simp [kept_upd, fuses_kept, now_kept, pending_kept]⟩
@[simp] theorem tpWrite_kept (addr) (v) : RowKept (.tpWrite addr v) := fun _ => ⟨_, rfl, by simp⟩
@[simp] theorem tptTimeNowLoRead_kept : RowKept (.tptTimeNowLoRead) :=
  fun _ => ⟨_, rfl, by simp [kept_upd, fuses_kept, now_kept, pending_kept]⟩
@[simp] theorem capLoRead_kept (n) : RowKept (.capLoRead n) := fun _ => ⟨_, rfl, by dsimp only; (repeat' split) <;> simp⟩
@[simp] theorem capLostRead_kept (n) : RowKept (.capLostRead n) := fun _ => ⟨_, rfl, by simp⟩
@[simp] theorem evcClaim_kept (t) : RowKept (.evcClaim t) := fun _ => ⟨_, rfl, by (repeat' split) <;> simp⟩
@[simp] theorem evcComplete_kept (t) (v) : RowKept (.evcComplete t v) := fun _ => ⟨_, rfl, by (repeat' split) <;> simp⟩
@[simp] theorem evcTrigger_kept (v) : RowKept (.evcTrigger v) := fun _ => ⟨_, rfl, by simp⟩
@[simp] theorem evcDiscard_kept (v) : RowKept (.evcDiscard v) := fun _ => ⟨_, rfl, by simp⟩
@[simp] theorem evcPendingWrite_kept (w) (v) : RowKept (.evcPendingWrite w v) :=
  fun _ => ⟨_, rfl, by simp [kept_upd, fuses_kept, now_kept, pending_kept]⟩
@[simp] theorem evcMaskWrite_kept (w) (v) : RowKept (.evcMaskWrite w v) := fun _ => ⟨_, rfl, by simp⟩
@[simp] theorem evcIntegPop_kept : RowKept (.evcIntegPop) := fun _ => ⟨_, rfl, by split <;> simp⟩
@[simp] theorem evcIntegLostRead_kept : RowKept (.evcIntegLostRead) := fun _ => ⟨_, rfl, by simp⟩
@[simp] theorem evcIntegCorrRead_kept : RowKept (.evcIntegCorrRead) := fun _ => ⟨_, rfl, by simp⟩
@[simp] theorem pmcCntLoRead_kept (n) : RowKept (.pmcCntLoRead n) := fun _ => ⟨_, rfl, by simp⟩
@[simp] theorem pmcCntWrite_kept (n) (hi) (v) : RowKept (.pmcCntWrite n hi v) := fun _ => ⟨_, rfl, by simp⟩
@[simp] theorem pmcFreezeWrite_kept (v) : RowKept (.pmcFreezeWrite v) := fun _ => ⟨_, rfl, by simp⟩
@[simp] theorem aonWakeReq_kept (v) : RowKept (.aonWakeReq v) := fun _ => ⟨_, rfl, by simp⟩
@[simp] theorem aonVoteHostWrite_kept (v) : RowKept (.aonVoteHostWrite v) := fun _ => ⟨_, rfl, by simp⟩
@[simp] theorem aonHoldNsRead_kept : RowKept (.aonHoldNsRead) := fun _ => ⟨_, rfl, by simp⟩
@[simp] theorem resetNAssert_kept : RowKept (.resetNAssert) := fun _ => ⟨_, rfl, by simp⟩
@[simp] theorem bootStart_kept : RowKept (.bootStart) :=
  fun _ => ⟨_, rfl, by simp [kept_upd, fuses_kept, now_kept, pending_kept]⟩
@[simp] theorem watchdogReset_kept : RowKept (.watchdogReset) := fun _ => ⟨_, rfl, by simp⟩
@[simp] theorem commandResetStart_kept : RowKept (.commandResetStart) :=
  fun _ => ⟨_, rfl, by (repeat' split) <;> simp [kept_upd, fuses_kept, now_kept, pending_kept]⟩
@[simp] theorem pciePerstAssert_kept : RowKept (.pciePerstAssert) := fun _ => ⟨_, rfl, by dsimp only; split <;> simp⟩
@[simp] theorem pcieLinkChange_kept (width) (rate) (state) : RowKept (.pcieLinkChange width rate state) :=
  fun _ => ⟨_, rfl, by simp⟩
@[simp] theorem supplyFault_kept (rail) : RowKept (.supplyFault rail) :=
  fun _ => ⟨_, rfl, by simp [kept_upd, fuses_kept, now_kept, pending_kept]⟩
@[simp] theorem thermalWarn_kept (die) (above) : RowKept (.thermalWarn die above) := fun _ => ⟨_, rfl, by simp⟩
@[simp] theorem thermalTrip_kept (lineDie) : RowKept (.thermalTrip lineDie) := fun _ => ⟨_, rfl, by simp⟩
@[simp] theorem hardwareStop_kept : RowKept (.hardwareStop) :=
  fun _ => ⟨_, rfl, by simp [kept_upd, fuses_kept, now_kept, pending_kept]⟩
@[simp] theorem ocxoFail_kept : RowKept (.ocxoFail) := fun _ => ⟨_, rfl, by simp [kept_upd, fuses_kept, now_kept, pending_kept]⟩
@[simp] theorem refclkRecovered_kept : RowKept (.refclkRecovered) := fun _ => ⟨_, rfl, rfl⟩
@[simp] theorem laneRefFault_kept (input) : RowKept (.laneRefFault input) :=
  fun _ => ⟨_, rfl, by (repeat' split) <;> simp [kept_upd, fuses_kept, now_kept, pending_kept]⟩
@[simp] theorem tcapEdge_kept (n) (falling) (sub) : RowKept (.tcapEdge n falling sub) := fun _ => ⟨_, rfl, by simp⟩
@[simp] theorem ppsInEdge_kept (sub) : RowKept (.ppsInEdge sub) :=
  fun _ => ⟨_, rfl, by simp [kept_upd, fuses_kept, now_kept, pending_kept]⟩
@[simp] theorem servoTrackEntry_kept : RowKept (.servoTrackEntry) := fun _ => ⟨_, rfl, by split <;> simp⟩
@[simp] theorem servoStampTimeout_kept : RowKept (.servoStampTimeout) := fun _ => ⟨_, rfl, by (repeat' split) <;> simp⟩
@[simp] theorem holdoverLimit_kept : RowKept (.holdoverLimit) :=
  fun _ => ⟨_, rfl, by simp [kept_upd, fuses_kept, now_kept, pending_kept]⟩
@[simp] theorem downstreamFrame_kept (n) (f) : RowKept (.downstreamFrame n f) :=
  fun _ => ⟨_, rfl, by dsimp only; split <;> simp⟩
@[simp] theorem superframeVerified_kept (n) (signer) : RowKept (.superframeVerified n signer) :=
  fun _ => ⟨_, rfl, by split <;> simp [kept_upd, fuses_kept, now_kept, pending_kept]⟩
@[simp] theorem rangeAssign_kept (n) (signer) : RowKept (.rangeAssign n signer) := fun _ => ⟨_, rfl, by split <;> simp⟩
@[simp] theorem regConfirm_kept (n) (signer) (unwraps) : RowKept (.regConfirm n signer unwraps) := fun _ => ⟨_, rfl, by simp⟩
@[simp] theorem rangeUpdate_kept (n) (signer) : RowKept (.rangeUpdate n signer) := fun _ => ⟨_, rfl, by simp⟩
@[simp] theorem resume_kept (n) (signer) : RowKept (.resume n signer) := fun _ => ⟨_, rfl, by simp⟩
@[simp] theorem deregister_kept (n) (signer) : RowKept (.deregister n signer) :=
  fun _ => ⟨_, rfl, by simp [kept_upd, fuses_kept, now_kept, pending_kept]⟩
@[simp] theorem keyRoll_kept (n) (signer) (unwraps) : RowKept (.keyRoll n signer unwraps) :=
  fun _ => ⟨_, rfl, by simp [kept_upd, fuses_kept, now_kept, pending_kept]⟩
@[simp] theorem msgTimeout_kept (n) (msgId) : RowKept (.msgTimeout n msgId) := fun _ => ⟨_, rfl, by simp⟩
@[simp] theorem regEvaluation_kept : RowKept (.regEvaluation) :=
  fun _ => ⟨_, rfl, by simp [kept_upd, fuses_kept, now_kept, pending_kept]⟩
@[simp] theorem rangingTimeout_kept : RowKept (.rangingTimeout) := fun _ => ⟨_, rfl, by simp⟩
@[simp] theorem tResume_kept : RowKept (.tResume) := fun _ => ⟨_, rfl, by simp⟩
@[simp] theorem gust_kept : RowKept (.gust) := fun _ => ⟨_, rfl, by dsimp only; (repeat' split) <;> rfl⟩
@[simp] theorem gustUnanswered_kept : RowKept (.gustUnanswered) :=
  fun _ => ⟨_, rfl, by split <;> simp [kept_upd, fuses_kept, now_kept, pending_kept]⟩
@[simp] theorem rangingBurst_kept : RowKept (.rangingBurst) := fun _ => ⟨_, rfl, by split <;> simp⟩
@[simp] theorem burstDraw_kept (n) : RowKept (.burstDraw n) := fun _ => ⟨_, rfl, by split <;> simp⟩
@[simp] theorem burstEmission_kept (n) : RowKept (.burstEmission n) := fun _ => ⟨_, rfl, by split <;> simp⟩
@[simp] theorem forecastUpdate_kept : RowKept (.forecastUpdate) := fun _ => ⟨_, rfl, by simp⟩
@[simp] theorem tuneComplete_kept (n) : RowKept (.tuneComplete n) := fun _ => ⟨_, rfl, by simp⟩
@[simp] theorem tuneTimeout_kept (n) : RowKept (.tuneTimeout n) := fun _ => ⟨_, rfl, by simp⟩
@[simp] theorem carrierLocked_kept (n) (power) (dispersion) (first) (second) : RowKept (.carrierLocked n power dispersion first second) :=
  fun _ => ⟨_, rfl, by simp⟩
@[simp] theorem acqTimeout_kept (n) : RowKept (.acqTimeout n) := fun _ => ⟨_, rfl, by simp⟩
@[simp] theorem carrierLost_kept (n) (power) : RowKept (.carrierLost n power) := fun _ => ⟨_, rfl, by simp⟩
@[simp] theorem lostTimeout_kept (n) : RowKept (.lostTimeout n) := fun _ => ⟨_, rfl, by simp⟩
@[simp] theorem laserFineTune_kept (n) (offsetMhz) : RowKept (.laserFineTune n offsetMhz) := fun _ => ⟨_, rfl, by simp⟩
@[simp] theorem feDuty_kept (n) (d) (ok) (alarms) : RowKept (.feDuty n d ok alarms) := fun _ => ⟨_, rfl, by split <;> simp⟩
@[simp] theorem spiTimeout_kept (n) (duty) (t) : RowKept (.spiTimeout n duty t) := fun _ => ⟨_, rfl, by simp⟩
@[simp] theorem gateFault_kept (n) (sensed) (held) : RowKept (.gateFault n sensed held) := fun _ => ⟨_, rfl, by split <;> simp⟩
@[simp] theorem carrierSecond_kept (n) (m) : RowKept (.carrierSecond n m) := fun _ => ⟨_, rfl, by simp⟩
@[simp] theorem mchPortFrame_kept (ch) (bits) : RowKept (.mchPortFrame ch bits) :=
  fun _ => ⟨_, rfl, by (repeat' split) <;> simp⟩
@[simp] theorem mchUpstreamCell_kept (ch) : RowKept (.mchUpstreamCell ch) := fun _ => ⟨_, rfl, by simp⟩
@[simp] theorem tribSwap_kept : RowKept (.tribSwap) := fun _ => ⟨_, rfl, by split <;> simp⟩
@[simp] theorem fenceTimeout_kept (trib) : RowKept (.fenceTimeout trib) :=
  fun _ => ⟨_, rfl, by simp [kept_upd, fuses_kept, now_kept, pending_kept]⟩
@[simp] theorem frameReceive_kept (port) (f) : RowKept (.frameReceive port f) := fun _ => ⟨_, rfl, by simp⟩
@[simp] theorem pauseTimerExpiry_kept (port) (q) : RowKept (.pauseTimerExpiry port q) :=
  fun _ => ⟨_, rfl, by dsimp only; split <;> simp⟩
@[simp] theorem pauseWatchdog_kept (port) (q) : RowKept (.pauseWatchdog port q) :=
  fun _ => ⟨_, rfl, by dsimp only; split <;> simp⟩
@[simp] theorem pauseWatchdogRecovery_kept (port) (q) : RowKept (.pauseWatchdogRecovery port q) :=
  fun _ => ⟨_, rfl, by dsimp only; split <;> simp⟩
@[simp] theorem pauseRefresh_kept (port) (acct) : RowKept (.pauseRefresh port acct) :=
  fun _ => ⟨_, rfl, by dsimp only; split <;> simp⟩
@[simp] theorem pipelinePass_kept (src) (miss) : RowKept (.pipelinePass src miss) :=
  fun _ => ⟨_, rfl, by (repeat' split) <;> simp⟩
@[simp] theorem flowCacheFill_kept (down) : RowKept (.flowCacheFill down) := fun _ => ⟨_, rfl, by split <;> simp⟩
@[simp] theorem programDispatch_kept (down) (engine) : RowKept (.programDispatch down engine) :=
  fun _ => ⟨_, rfl, by dsimp only; (repeat' split) <;> simp⟩
@[simp] theorem dispatchTimeout_kept (down) : RowKept (.dispatchTimeout down) := fun _ => ⟨_, rfl, by simp⟩
@[simp] theorem callReturn_kept (ctx) (issued) (pc) (st) : RowKept (.callReturn ctx issued pc st) :=
  fun _ => ⟨_, rfl, by split <;> simp⟩
@[simp] theorem waitAuth_kept (ctx) : RowKept (.waitAuth ctx) := fun _ => ⟨_, rfl, by split <;> simp⟩
@[simp] theorem programTimeException_kept (ctx) : RowKept (.programTimeException ctx) := fun _ => ⟨_, rfl, by split <;> simp⟩
@[simp] theorem engineReload_kept (engine) : RowKept (.engineReload engine) := fun _ => ⟨_, rfl, by simp⟩
@[simp] theorem engineRestart_kept (control) (engine) : RowKept (.engineRestart control engine) := fun _ => ⟨_, rfl, by simp⟩
@[simp] theorem generationDrain_kept : RowKept (.generationDrain) := fun _ => ⟨_, rfl, by dsimp only; (repeat' split) <;> simp⟩
@[simp] theorem writeInComplete_kept : RowKept (.writeInComplete) := fun _ => ⟨_, rfl, by split <;> simp⟩
@[simp] theorem sealPacket_kept : RowKept (.sealPacket) :=
  fun _ => ⟨_, rfl, by dsimp only; (repeat' split) <;> simp [kept_upd, fuses_kept, now_kept, pending_kept]⟩
@[simp] theorem segmentation_kept : RowKept (.segmentation) := fun _ => ⟨_, rfl, by dsimp only; (repeat' split) <;> simp⟩
@[simp] theorem ageCheck_kept : RowKept (.ageCheck) := fun _ => ⟨_, rfl, by simp⟩
@[simp] theorem unsealPacket_kept : RowKept (.unsealPacket) :=
  fun _ => ⟨_, rfl, by dsimp only; (repeat' split) <;> simp [kept_upd, fuses_kept, now_kept, pending_kept]⟩
@[simp] theorem tagResult_kept (id) (ok) : RowKept (.tagResult id ok) :=
  fun _ => ⟨_, rfl, by (repeat' split) <;> simp [kept_upd, fuses_kept, now_kept, pending_kept]⟩
@[simp] theorem reassemblyTimeout_kept (carrier) (assoc) (cls) : RowKept (.reassemblyTimeout carrier assoc cls) :=
  fun _ => ⟨_, rfl, by simp [kept_upd, fuses_kept, now_kept, pending_kept]⟩
@[simp] theorem hello_kept (m) : RowKept (.hello m) := fun _ => ⟨_, rfl, by dsimp only; (repeat' split) <;> simp⟩
@[simp] theorem reply_kept (m) : RowKept (.reply m) := fun _ => ⟨_, rfl, by dsimp only; split <;> simp⟩
@[simp] theorem confirmI_kept (m) : RowKept (.confirmI m) := fun _ => ⟨_, rfl, by dsimp only; split <;> simp⟩
@[simp] theorem confirmR_kept (m) : RowKept (.confirmR m) := fun _ => ⟨_, rfl, by dsimp only; split <;> simp⟩
@[simp] theorem close_kept (m) : RowKept (.close m) := fun _ => ⟨_, rfl, by dsimp only; (repeat' split) <;> simp⟩
@[simp] theorem helloRetry_kept (idx) : RowKept (.helloRetry idx) := fun _ => ⟨_, rfl, by split <;> simp⟩
@[simp] theorem confirmTimeout_kept (idx) : RowKept (.confirmTimeout idx) := fun _ => ⟨_, rfl, by split <;> simp⟩
@[simp] theorem peerTimeout_kept (idx) : RowKept (.peerTimeout idx) := fun _ => ⟨_, rfl, by split <;> simp⟩
@[simp] theorem armExpired_kept (idx) : RowKept (.armExpired idx) := fun _ => ⟨_, rfl, by simp⟩
@[simp] theorem oldKeyHold_kept (idx) : RowKept (.oldKeyHold idx) := fun _ => ⟨_, rfl, by dsimp only; split <;> simp⟩
@[simp] theorem challengeLapse_kept : RowKept (.challengeLapse) := fun _ => ⟨_, rfl, by simp⟩
@[simp] theorem rngFail_kept : RowKept (.rngFail) := fun _ => ⟨_, rfl, by simp⟩
@[simp] theorem egressFrameStart_kept (port) : RowKept (.egressFrameStart port) :=
  fun _ => ⟨_, rfl, by dsimp only; (repeat' split) <;> simp⟩
@[simp] theorem egressAge_kept (port) (q) : RowKept (.egressAge port q) := fun _ => ⟨_, rfl, by simp⟩
@[simp] theorem hostFrameSend_kept (f) : RowKept (.hostFrameSend f) := fun _ => ⟨_, rfl, by simp⟩
@[simp] theorem portUp_kept (port) : RowKept (.portUp port) := fun _ => ⟨_, rfl, by simp⟩
@[simp] theorem portDown_kept (port) (remote) : RowKept (.portDown port remote) := fun _ => ⟨_, rfl, by simp⟩
@[simp] theorem lpiEntry_kept (port) : RowKept (.lpiEntry port) := fun _ => ⟨_, rfl, by dsimp only; split <;> simp⟩
@[simp] theorem lpiWake_kept (port) : RowKept (.lpiWake port) := fun _ => ⟨_, rfl, by simp⟩
@[simp] theorem lldpTransmit_kept (port) : RowKept (.lldpTransmit port) := fun _ => ⟨_, rfl, by simp⟩
@[simp] theorem portWake_kept (port) : RowKept (.portWake port) := fun _ => ⟨_, rfl, by simp⟩
@[simp] theorem laneLos_kept (lane) : RowKept (.laneLos lane) := fun _ => ⟨_, rfl, by simp⟩
@[simp] theorem laneLol_kept (lane) : RowKept (.laneLol lane) := fun _ => ⟨_, rfl, by simp⟩
@[simp] theorem laneAlignLock_kept (lane) (e) : RowKept (.laneAlignLock lane e) := fun _ => ⟨_, rfl, by split <;> simp⟩
@[simp] theorem laneAlignLost_kept (lane) (e) : RowKept (.laneAlignLost lane e) := fun _ => ⟨_, rfl, by split <;> simp⟩
@[simp] theorem laneBerHigh_kept (lane) (high) : RowKept (.laneBerHigh lane high) := fun _ => ⟨_, rfl, by simp⟩
@[simp] theorem lanePatternLock_kept (lane) (gained) (window) (bits) (errors) : RowKept (.lanePatternLock lane gained window bits errors) :=
  fun _ => ⟨_, rfl, by simp⟩
@[simp] theorem dieLaneSpared_kept (down) (lane) : RowKept (.dieLaneSpared down lane) := fun _ => ⟨_, rfl, by simp⟩
@[simp] theorem dieLaneLoss_kept (down) (lane) : RowKept (.dieLaneLoss down lane) := fun _ => ⟨_, rfl, by simp⟩
@[simp] theorem dieRetrainComplete_kept (goodUp) (goodDown) : RowKept (.dieRetrainComplete goodUp goodDown) :=
  fun _ => ⟨_, rfl, by simp⟩
@[simp] theorem dieSplit_kept : RowKept (.dieSplit) := fun _ => ⟨_, rfl, by simp⟩
@[simp] theorem splitRetrainAttempt_kept (goodUp) (goodDown) : RowKept (.splitRetrainAttempt goodUp goodDown) :=
  fun _ => ⟨_, rfl, by simp⟩
@[simp] theorem commitReadinessCheck_kept (g) : RowKept (.commitReadinessCheck g) := fun _ => ⟨_, rfl, by simp⟩
@[simp] theorem commitInstant_kept (g) : RowKept (.commitInstant g) := fun _ => ⟨_, rfl, by simp⟩
@[simp] theorem groupLapsed_kept (g) : RowKept (.groupLapsed g) := fun _ => ⟨_, rfl, by simp⟩
@[simp] theorem groupFree_kept (g) : RowKept (.groupFree g) := fun _ => ⟨_, rfl, by simp⟩
@[simp] theorem gateListStart_kept (port) : RowKept (.gateListStart port) := fun _ => ⟨_, rfl, by split <;> simp⟩
@[simp] theorem gateEvent_kept (port) : RowKept (.gateEvent port) := fun _ => ⟨_, rfl, by split <;> simp⟩
@[simp] theorem wheelSlot_kept : RowKept (.wheelSlot) := fun _ => ⟨_, rfl, by simp⟩
@[simp] theorem barometerSample_kept (slot) : RowKept (.barometerSample slot) := fun _ => ⟨_, rfl, by split <;> simp⟩
@[simp] theorem snapshotDue_kept (buffer) : RowKept (.snapshotDue buffer) :=
  fun _ => ⟨_, rfl, by split <;> simp [kept_upd, fuses_kept, now_kept, pending_kept]⟩
@[simp] theorem powerScheduleDue_kept : RowKept (.powerScheduleDue) := fun _ => ⟨_, rfl, by split <;> simp⟩
@[simp] theorem wakeRequest_kept (src) : RowKept (.wakeRequest src) := fun _ => ⟨_, rfl, by (repeat' split) <;> simp⟩
@[simp] theorem wakeStepTimeout_kept (cause) : RowKept (.wakeStepTimeout cause) := fun _ => ⟨_, rfl, by split <;> simp⟩
@[simp] theorem coalescingTimer_kept (t) : RowKept (.coalescingTimer t) := fun _ => ⟨_, rfl, by dsimp only; split <;> simp⟩
@[simp] theorem scrub_kept (f) : RowKept (.scrub f) := fun _ => ⟨_, rfl, by simp⟩
@[simp] theorem timeOutputEdge_kept (o) : RowKept (.timeOutputEdge o) := fun _ => ⟨_, rfl, by split <;> simp⟩
@[simp] theorem carrierDisableComplete_kept (n) : RowKept (.carrierDisableComplete n) := fun _ => ⟨_, rfl, by simp⟩
@[simp] theorem mchPortTransmit_kept (ch) : RowKept (.mchPortTransmit ch) :=
  fun _ => ⟨_, rfl, by dsimp only; (repeat' split) <;> simp⟩
@[simp] theorem partnerLpi_kept (port) (enter) : RowKept (.partnerLpi port enter) :=
  fun _ => ⟨_, rfl, by dsimp only; (repeat' split) <;> simp⟩
@[simp] theorem laneSignalDetect_kept (lane) : RowKept (.laneSignalDetect lane) := fun _ => ⟨_, rfl, by simp⟩
@[simp] theorem laneCdrLock_kept (lane) : RowKept (.laneCdrLock lane) := fun _ => ⟨_, rfl, by simp⟩
@[simp] theorem rngRecovered_kept : RowKept (.rngRecovered) := fun _ => ⟨_, rfl, by simp⟩
@[simp] theorem msixVectorUnmask_kept (v) : RowKept (.msixVectorUnmask v) := fun _ => ⟨_, rfl, by simp⟩
@[simp] theorem pmcCounterWrap_kept (n) : RowKept (.pmcCounterWrap n) := fun _ => ⟨_, rfl, by simp⟩
@[simp] theorem thermalTripClear_kept : RowKept (.thermalTripClear) := fun _ => ⟨_, rfl, by simp⟩
@[simp] theorem ptpMessageTransmit_kept (port) (announce) : RowKept (.ptpMessageTransmit port announce) :=
  fun _ => ⟨_, rfl, by simp [kept_upd, fuses_kept, now_kept, pending_kept]⟩
@[simp] theorem esmcTransmit_kept (port) : RowKept (.esmcTransmit port) := fun _ => ⟨_, rfl, by simp⟩

/-- A row that is no Palgil command, no power-on reset and no register write goes onward. -/
theorem plainRow_onward (i : Instr) (hcmd : i.palgil = none) (hreset : i ≠ .porstAssert)
    (hwrite : ∀ o v, i ≠ .registerWrite o v) : RowOnward i := by
  cases i with
  | porstAssert => exact absurd rfl hreset
  | registerWrite o v => exact absurd rfl (hwrite o v)
  | ringSubmissionFetch e p dma => exact ringSubmissionFetch_onward e p dma
  | writeCmd p => exact writeCmd_onward p
  | inbandCommandFrame port f p => exact inbandCommandFrame_onward port f p
  | bootStageComplete r => exact bootStageComplete_onward r
  | wakeStepReady r => exact wakeStepReady_onward r
  | _ =>
    refine RowKept.onward ?_
    simp [Instr.palgil] at hcmd ⊢

/-- An outcome is a next state onward from `s`. -/
def AnswersOnward (s : State) (x : Host.Outcome State Fault Refusal) : Prop := ∃ t, x = .next t ∧ Onward s t

theorem AnswersOnward.of_kept {s t : State} (h : kept t = kept s) : AnswersOnward s (.next t) := ⟨t, rfl, .of_kept h⟩

theorem AnswersOnward.ite {s : State} {c : Prop} [Decidable c] {x y : Host.Outcome State Fault Refusal}
    (hx : AnswersOnward s x) (hy : AnswersOnward s y) : AnswersOnward s (if c then x else y) := by
  split
  · exact hx
  · exact hy

/-- A register that has a row of its own does what the row does; the others write their fields (R8). -/
theorem putRegister_onward (o : Nat) (v : Word) (s : State) : AnswersOnward s (putRegister o v s) :=
  .ite ((cmdSqTailWrite_kept v).onward s) <|
  .ite ((cmdRqHeadWrite_kept v).onward s) <|
  .ite ((aonVoteHostWrite_kept v).onward s) <|
  .ite ((aonWakeReq_kept v).onward s) <|
  .ite (.of_kept (aonWrite_kept o v s)) <|
  .ite (.of_kept rfl) <|
  .ite ((cmdCtrlEnWrite_kept v).onward s) <|
  .ite (.of_kept (ringWrite_kept o v s)) <|
  .ite ((evcPendingWrite_kept _ v).onward s) <|
  .ite ((evcMaskWrite_kept _ v).onward s) <|
  .ite ((evcComplete_kept _ v).onward s) <|
  .ite ((evcTrigger_kept v).onward s) <|
  .ite ((evcDiscard_kept v).onward s) <|
  .ite (.of_kept (evcWrite_kept o v s)) <|
  .ite (.of_kept (tpReg_kept _ v s)) <|
  .ite ((pmcFreezeWrite_kept v).onward s) <|
  .ite ((pmcCntWrite_kept _ _ v).onward s) <|
  .ite (.of_kept (pmcWrite_kept o v s)) <|
  .of_kept rfl

theorem registerWrite_onward {o : Nat} (hin : o < 0x10000) (hword : o % 4 = 0) (v : Word) :
    RowOnward (.registerWrite o v) := fun s => by
  show AnswersOnward s (execRegisterWrite o v s)
  unfold execRegisterWrite
  rw [if_neg (by omega), if_neg (by omega)]
  exact putRegister_onward o v s

/-- A register write outside BAR0 or off a word boundary stops (R7). -/
theorem registerWrite_faults {o : Nat} (h : 0x10000 ≤ o ∨ o % 4 ≠ 0) (v : Word) (s : State) :
    ∃ f, exec (.registerWrite o v) s = .fault f := by
  show ∃ f, execRegisterWrite o v s = .fault f
  unfold execRegisterWrite
  split
  · exact ⟨_, rfl⟩
  · rw [if_pos (h.resolve_left ‹_›)]
    exact ⟨_, rfl⟩

/-- What a row can do: it goes onward, or it is a power-on reset, which keeps fuses and queue, or a register write that
stops. -/
theorem exec_cases (i : Instr) :
    RowOnward i ∨ (i = .porstAssert ∧ ∀ s, ∃ t, exec i s = .next t ∧ t.fuses = s.fuses ∧ t.pending = s.pending) ∨
      ∃ o v, i = .registerWrite o v ∧ (0x10000 ≤ o ∨ o % 4 ≠ 0) ∧ ∀ s, ∃ f, exec i s = .fault f := by
  by_cases hreset : i = .porstAssert
  · subst hreset
    refine .inr (.inl ⟨rfl, fun s => ⟨_, rfl, ?_⟩⟩)
    have hkept := stopBursts_kept false s
    exact ⟨(Prod.mk.inj hkept).1, (Prod.mk.inj (Prod.mk.inj hkept).2).2⟩
  · by_cases hwrite : ∃ o v, i = .registerWrite o v
    · obtain ⟨o, v, rfl⟩ := hwrite
      by_cases hbad : 0x10000 ≤ o ∨ o % 4 ≠ 0
      · exact .inr (.inr ⟨o, v, rfl, hbad, registerWrite_faults hbad v⟩)
      · exact .inl (registerWrite_onward (by omega) (by omega) v)
    · cases hcmd : i.palgil with
      | none => exact .inl (plainRow_onward i hcmd hreset fun o v h => hwrite ⟨o, v, h⟩)
      | some p => exact .inl fun s => ⟨_, exec_of_palgil hcmd s, command_onward _ _ s⟩

/-! ### Steps -/

/-- A tick advances local time by 1.25 ns and goes onward with the clocks advanced (R9, R25). -/
theorem idle_onward (s : State) : Onward (tickTime s) (idle s) := by
  unfold idle
  dsimp only
  split
  · exact .of_kept (by simp)
  · exact .kept_left (by simp) (startWaiting_onward _)

theorem tickTime_fuses (s : State) : (tickTime s).fuses = s.fuses := congrArg (·.1) (tickTime_kept s)
theorem tickTime_now (s : State) : (tickTime s).clk.now = s.clk.now + tick := congrArg (·.2.1) (tickTime_kept s)
theorem tickTime_pending (s : State) : (tickTime s).pending = s.pending := congrArg (·.2.2) (tickTime_kept s)

theorem idle_pending (s : State) : (idle s).pending = s.pending := (idle_onward s).pending.trans (tickTime_pending s)
theorem idle_now (s : State) : (idle s).clk.now = s.clk.now + tick := (idle_onward s).now.trans (tickTime_now s)

theorem step_of_empty {s : State} (h : s.pending = []) : step s = .next (idle s) := by
  unfold step
  rw [h]

theorem step_of_cons {s : State} {c : Instr} {rest : List Instr} (h : s.pending = c :: rest) :
    step s = exec c { s with pending := rest } := by
  unfold step
  rw [h]

/-- Every step keeps the fuses' agreement and takes no fuse back. -/
theorem step_forward {s t : State} (hok : fusesOk s) (hstep : step s = .next t) :
    fusesOk t ∧ fusesForward s.fuses t.fuses := by
  cases hp : s.pending with
  | nil =>
    cases (step_of_empty hp).symm.trans hstep
    obtain ⟨hok', hforward⟩ := forward_of_eq (tickTime_fuses s) hok
    obtain ⟨hok'', hforward'⟩ := (idle_onward s).fuses hok'
    exact ⟨hok'', fusesForward_trans hforward hforward'⟩
  | cons c rest =>
    rw [step_of_cons hp] at hstep
    rcases exec_cases c with honward | ⟨-, hreset⟩ | ⟨o, v, -, -, hfault⟩
    · obtain ⟨u, hexec, hon⟩ := honward { s with pending := rest }
      cases hexec.symm.trans hstep
      exact hon.fuses hok
    · obtain ⟨u, hexec, hfuses, -⟩ := hreset { s with pending := rest }
      cases hexec.symm.trans hstep
      exact forward_of_eq hfuses hok
    · obtain ⟨f, hexec⟩ := hfault { s with pending := rest }
      cases hexec.symm.trans hstep

/-- Settles O4: a step goes onward, and an enrolment, the one operation that fuses an owner, makes the device OWNED. -/
theorem stepKeepsFusesOk : Obligations.StepKeepsFusesOk := fun _ _ hok hstep => (step_forward hok hstep).1

/-- Settles O5: no operation takes a fuse back. -/
theorem fusesOnlyForward : Obligations.FusesOnlyForward := fun _ _ hok hstep => (step_forward hok hstep).2

/-- A step takes the command in front. -/
theorem step_pending {s t : State} (hstep : step s = .next t) : t.pending = s.pending.tail := by
  cases hp : s.pending with
  | nil =>
    cases (step_of_empty hp).symm.trans hstep
    exact (idle_pending s).trans hp
  | cons c rest =>
    rw [step_of_cons hp] at hstep
    rcases exec_cases c with honward | ⟨-, hreset⟩ | ⟨o, v, -, -, hfault⟩
    · obtain ⟨u, hexec, hon⟩ := honward { s with pending := rest }
      cases hexec.symm.trans hstep
      exact hon.pending
    · obtain ⟨u, hexec, -, hpending⟩ := hreset { s with pending := rest }
      cases hexec.symm.trans hstep
      exact hpending
    · obtain ⟨f, hexec⟩ := hfault { s with pending := rest }
      cases hexec.symm.trans hstep

/-- No command but a power-on reset moves local time (R9). -/
theorem exec_now {c : Instr} {s t : State} (hc : c ≠ .porstAssert) (hexec : exec c s = .next t) : t.clk.now = s.clk.now := by
  rcases exec_cases c with honward | ⟨hreset, -⟩ | ⟨o, v, -, -, hfault⟩
  · obtain ⟨u, hu, hon⟩ := honward s
    cases hu.symm.trans hexec
    exact hon.now
  · exact absurd hreset hc
  · obtain ⟨f, hf⟩ := hfault s
    cases hf.symm.trans hexec

/-- Settles O6. -/
theorem queueAndLocalTime : Obligations.QueueAndLocalTime :=
  ⟨fun _ _ hstep => step_pending hstep, fun _ _ _ hc hexec => exec_now hc hexec,
    fun s hp => ⟨idle s, step_of_empty hp, idle_now s⟩⟩

/-- Settles O7: every row answers a next state but a register write at a bad offset, which faults. -/
theorem stepsStopOnlyOnBadOffsets : Obligations.StepsStopOnlyOnBadOffsets := by
  constructor
  · intro s r hstep
    cases hp : s.pending with
    | nil => cases (step_of_empty hp).symm.trans hstep
    | cons c rest =>
      rw [step_of_cons hp] at hstep
      rcases exec_cases c with honward | ⟨-, hreset⟩ | ⟨o, v, -, -, hfault⟩
      · obtain ⟨u, hexec, -⟩ := honward { s with pending := rest }
        cases hexec.symm.trans hstep
      · obtain ⟨u, hexec, -⟩ := hreset { s with pending := rest }
        cases hexec.symm.trans hstep
      · obtain ⟨f, hexec⟩ := hfault { s with pending := rest }
        cases hexec.symm.trans hstep
  · intro s f hstep
    cases hp : s.pending with
    | nil => cases (step_of_empty hp).symm.trans hstep
    | cons c rest =>
      rw [step_of_cons hp] at hstep
      rcases exec_cases c with honward | ⟨-, hreset⟩ | ⟨o, v, rfl, hbad, -⟩
      · obtain ⟨u, hexec, -⟩ := honward { s with pending := rest }
        cases hexec.symm.trans hstep
      · obtain ⟨u, hexec, -⟩ := hreset { s with pending := rest }
        cases hexec.symm.trans hstep
      · exact ⟨o, v, rest, rfl, hbad⟩

/-- Settles O1: the definition of a step. -/
theorem stepRunsFrontCommand : Obligations.StepRunsFrontCommand := fun _ _ _ => rfl

/-- Settles O3: a device at its power-on reset is BLANK and has no owner. -/
theorem resetFusesOk : Obligations.ResetFusesOk := by
  unfold Obligations.ResetFusesOk
  decide

end Sys2Proof.Proofs.Steps
end

section
/-!
Frames. `rest m s` is the state outside the components that a scope names; one lemma for each shared operation says in which
components it acts. A statement that names what a command leaves unchanged follows from these.
-/
namespace Sys2Proof.Proofs.Frames
open Sys2Proof Sys2Proof.Machine

set_option Elab.async false

/-- A choice of components of the state. -/
structure Scope where
  fuses : Bool := false
  dev : Bool := false
  clk : Bool := false
  time : Bool := false
  tio : Bool := false
  carriers : Bool := false
  reg : Bool := false
  down : Bool := false
  mch : Bool := false
  trib : Bool := false
  cls : Bool := false
  q : Bool := false
  lanes : Bool := false
  refs : Bool := false
  die : Bool := false
  ports : Bool := false
  snaps : Bool := false
  sec : Bool := false
  cmd : Bool := false
  groups : Bool := false
  eng : Bool := false
  evc : Bool := false
  pmc : Bool := false
  pwr : Bool := false
  out : Bool := false
  pending : Bool := false

/-- The state with the components of the scope blanked out. -/
def rest (m : Scope) (s : State) : State where
  fuses := bif m.fuses then State.reset.fuses else s.fuses
  dev := bif m.dev then State.reset.dev else s.dev
  clk := bif m.clk then State.reset.clk else s.clk
  time := bif m.time then State.reset.time else s.time
  tio := bif m.tio then State.reset.tio else s.tio
  carriers := bif m.carriers then State.reset.carriers else s.carriers
  reg := bif m.reg then State.reset.reg else s.reg
  down := bif m.down then State.reset.down else s.down
  mch := bif m.mch then State.reset.mch else s.mch
  trib := bif m.trib then State.reset.trib else s.trib
  cls := bif m.cls then State.reset.cls else s.cls
  q := bif m.q then State.reset.q else s.q
  lanes := bif m.lanes then State.reset.lanes else s.lanes
  refs := bif m.refs then State.reset.refs else s.refs
  die := bif m.die then State.reset.die else s.die
  ports := bif m.ports then State.reset.ports else s.ports
  snaps := bif m.snaps then State.reset.snaps else s.snaps
  sec := bif m.sec then State.reset.sec else s.sec
  cmd := bif m.cmd then State.reset.cmd else s.cmd
  groups := bif m.groups then State.reset.groups else s.groups
  eng := bif m.eng then State.reset.eng else s.eng
  evc := bif m.evc then State.reset.evc else s.evc
  pmc := bif m.pmc then State.reset.pmc else s.pmc
  pwr := bif m.pwr then State.reset.pwr else s.pwr
  out := bif m.out then State.reset.out else s.out
  pending := bif m.pending then State.reset.pending else s.pending

/-- The state `t` in the components of the scope, `s` in the others. -/
def merged (m : Scope) (s t : State) : State where
  fuses := bif m.fuses then t.fuses else s.fuses
  dev := bif m.dev then t.dev else s.dev
  clk := bif m.clk then t.clk else s.clk
  time := bif m.time then t.time else s.time
  tio := bif m.tio then t.tio else s.tio
  carriers := bif m.carriers then t.carriers else s.carriers
  reg := bif m.reg then t.reg else s.reg
  down := bif m.down then t.down else s.down
  mch := bif m.mch then t.mch else s.mch
  trib := bif m.trib then t.trib else s.trib
  cls := bif m.cls then t.cls else s.cls
  q := bif m.q then t.q else s.q
  lanes := bif m.lanes then t.lanes else s.lanes
  refs := bif m.refs then t.refs else s.refs
  die := bif m.die then t.die else s.die
  ports := bif m.ports then t.ports else s.ports
  snaps := bif m.snaps then t.snaps else s.snaps
  sec := bif m.sec then t.sec else s.sec
  cmd := bif m.cmd then t.cmd else s.cmd
  groups := bif m.groups then t.groups else s.groups
  eng := bif m.eng then t.eng else s.eng
  evc := bif m.evc then t.evc else s.evc
  pmc := bif m.pmc then t.pmc else s.pmc
  pwr := bif m.pwr then t.pwr else s.pwr
  out := bif m.out then t.out else s.out
  pending := bif m.pending then t.pending else s.pending

theorem bif_congr {α : Type} {b : Bool} {d x y : α} : (bif b then d else x) = (bif b then d else y) ↔ (b = false → x = y) := by
  cases b <;> simp

theorem bif_right {α : Type} {b : Bool} {x y : α} (h : b = false → y = x) : y = bif b then y else x := by
  cases b <;> simp_all

/-- Two states agree outside a scope exactly when they agree on each component that the scope leaves out. -/
theorem rest_eq_iff {m : Scope} {s t : State} : rest m t = rest m s ↔
    (m.fuses = false → t.fuses = s.fuses) ∧
    (m.dev = false → t.dev = s.dev) ∧
    (m.clk = false → t.clk = s.clk) ∧
    (m.time = false → t.time = s.time) ∧
    (m.tio = false → t.tio = s.tio) ∧
    (m.carriers = false → t.carriers = s.carriers) ∧
    (m.reg = false → t.reg = s.reg) ∧
    (m.down = false → t.down = s.down) ∧
    (m.mch = false → t.mch = s.mch) ∧
    (m.trib = false → t.trib = s.trib) ∧
    (m.cls = false → t.cls = s.cls) ∧
    (m.q = false → t.q = s.q) ∧
    (m.lanes = false → t.lanes = s.lanes) ∧
    (m.refs = false → t.refs = s.refs) ∧
    (m.die = false → t.die = s.die) ∧
    (m.ports = false → t.ports = s.ports) ∧
    (m.snaps = false → t.snaps = s.snaps) ∧
    (m.sec = false → t.sec = s.sec) ∧
    (m.cmd = false → t.cmd = s.cmd) ∧
    (m.groups = false → t.groups = s.groups) ∧
    (m.eng = false → t.eng = s.eng) ∧
    (m.evc = false → t.evc = s.evc) ∧
    (m.pmc = false → t.pmc = s.pmc) ∧
    (m.pwr = false → t.pwr = s.pwr) ∧
    (m.out = false → t.out = s.out) ∧
    (m.pending = false → t.pending = s.pending) := by
  simp only [rest, State.mk.injEq, bif_congr]

/-- A state that agrees with `s` outside a scope is `s` with its own components in the scope. -/
theorem eq_merged {m : Scope} {s t : State} (h : rest m t = rest m s) : t = merged m s t := by
  obtain ⟨hfuses, hdev, hclk, htime, htio, hcarriers, hreg, hdown, hmch, htrib, hcls, hq, hlanes, hrefs, hdie, hports, hsnaps, hsec, hcmd, hgroups, heng, hevc, hpmc, hpwr, hout, hpending⟩ := rest_eq_iff.mp h
  cases t
  simp only [merged, State.mk.injEq]
  exact ⟨bif_right hfuses, bif_right hdev, bif_right hclk, bif_right htime, bif_right htio, bif_right hcarriers, bif_right hreg, bif_right hdown, bif_right hmch, bif_right htrib, bif_right hcls, bif_right hq, bif_right hlanes, bif_right hrefs, bif_right hdie, bif_right hports, bif_right hsnaps, bif_right hsec, bif_right hcmd, bif_right hgroups, bif_right heng, bif_right hevc, bif_right hpmc, bif_right hpwr, bif_right hout, bif_right hpending⟩

/-! An update reads component by component. -/

@[simp] theorem rest_upd {m : Scope} {s : State} a b c d e f g i j k l n o p q r u v w x y z aa ab ac ad :
    rest m ⟨a, b, c, d, e, f, g, i, j, k, l, n, o, p, q, r, u, v, w, x, y, z, aa, ab, ac, ad⟩ = rest m s ↔
      (bif m.fuses then State.reset.fuses else a) = (rest m s).fuses ∧
      (bif m.dev then State.reset.dev else b) = (rest m s).dev ∧
      (bif m.clk then State.reset.clk else c) = (rest m s).clk ∧
      (bif m.time then State.reset.time else d) = (rest m s).time ∧
      (bif m.tio then State.reset.tio else e) = (rest m s).tio ∧
      (bif m.carriers then State.reset.carriers else f) = (rest m s).carriers ∧
      (bif m.reg then State.reset.reg else g) = (rest m s).reg ∧
      (bif m.down then State.reset.down else i) = (rest m s).down ∧
      (bif m.mch then State.reset.mch else j) = (rest m s).mch ∧
      (bif m.trib then State.reset.trib else k) = (rest m s).trib ∧
      (bif m.cls then State.reset.cls else l) = (rest m s).cls ∧
      (bif m.q then State.reset.q else n) = (rest m s).q ∧
      (bif m.lanes then State.reset.lanes else o) = (rest m s).lanes ∧
      (bif m.refs then State.reset.refs else p) = (rest m s).refs ∧
      (bif m.die then State.reset.die else q) = (rest m s).die ∧
      (bif m.ports then State.reset.ports else r) = (rest m s).ports ∧
      (bif m.snaps then State.reset.snaps else u) = (rest m s).snaps ∧
      (bif m.sec then State.reset.sec else v) = (rest m s).sec ∧
      (bif m.cmd then State.reset.cmd else w) = (rest m s).cmd ∧
      (bif m.groups then State.reset.groups else x) = (rest m s).groups ∧
      (bif m.eng then State.reset.eng else y) = (rest m s).eng ∧
      (bif m.evc then State.reset.evc else z) = (rest m s).evc ∧
      (bif m.pmc then State.reset.pmc else aa) = (rest m s).pmc ∧
      (bif m.pwr then State.reset.pwr else ab) = (rest m s).pwr ∧
      (bif m.out then State.reset.out else ac) = (rest m s).out ∧
      (bif m.pending then State.reset.pending else ad) = (rest m s).pending := by
  simp only [rest, State.mk.injEq]

@[simp] theorem fuses_rest (m : Scope) (s : State) : (bif m.fuses then State.reset.fuses else s.fuses) = (rest m s).fuses := rfl
@[simp] theorem dev_rest (m : Scope) (s : State) : (bif m.dev then State.reset.dev else s.dev) = (rest m s).dev := rfl
@[simp] theorem clk_rest (m : Scope) (s : State) : (bif m.clk then State.reset.clk else s.clk) = (rest m s).clk := rfl
@[simp] theorem time_rest (m : Scope) (s : State) : (bif m.time then State.reset.time else s.time) = (rest m s).time := rfl
@[simp] theorem tio_rest (m : Scope) (s : State) : (bif m.tio then State.reset.tio else s.tio) = (rest m s).tio := rfl
@[simp] theorem carriers_rest (m : Scope) (s : State) : (bif m.carriers then State.reset.carriers else s.carriers) = (rest m s).carriers := rfl
@[simp] theorem reg_rest (m : Scope) (s : State) : (bif m.reg then State.reset.reg else s.reg) = (rest m s).reg := rfl
@[simp] theorem down_rest (m : Scope) (s : State) : (bif m.down then State.reset.down else s.down) = (rest m s).down := rfl
@[simp] theorem mch_rest (m : Scope) (s : State) : (bif m.mch then State.reset.mch else s.mch) = (rest m s).mch := rfl
@[simp] theorem trib_rest (m : Scope) (s : State) : (bif m.trib then State.reset.trib else s.trib) = (rest m s).trib := rfl
@[simp] theorem cls_rest (m : Scope) (s : State) : (bif m.cls then State.reset.cls else s.cls) = (rest m s).cls := rfl
@[simp] theorem q_rest (m : Scope) (s : State) : (bif m.q then State.reset.q else s.q) = (rest m s).q := rfl
@[simp] theorem lanes_rest (m : Scope) (s : State) : (bif m.lanes then State.reset.lanes else s.lanes) = (rest m s).lanes := rfl
@[simp] theorem refs_rest (m : Scope) (s : State) : (bif m.refs then State.reset.refs else s.refs) = (rest m s).refs := rfl
@[simp] theorem die_rest (m : Scope) (s : State) : (bif m.die then State.reset.die else s.die) = (rest m s).die := rfl
@[simp] theorem ports_rest (m : Scope) (s : State) : (bif m.ports then State.reset.ports else s.ports) = (rest m s).ports := rfl
@[simp] theorem snaps_rest (m : Scope) (s : State) : (bif m.snaps then State.reset.snaps else s.snaps) = (rest m s).snaps := rfl
@[simp] theorem sec_rest (m : Scope) (s : State) : (bif m.sec then State.reset.sec else s.sec) = (rest m s).sec := rfl
@[simp] theorem cmd_rest (m : Scope) (s : State) : (bif m.cmd then State.reset.cmd else s.cmd) = (rest m s).cmd := rfl
@[simp] theorem groups_rest (m : Scope) (s : State) : (bif m.groups then State.reset.groups else s.groups) = (rest m s).groups := rfl
@[simp] theorem eng_rest (m : Scope) (s : State) : (bif m.eng then State.reset.eng else s.eng) = (rest m s).eng := rfl
@[simp] theorem evc_rest (m : Scope) (s : State) : (bif m.evc then State.reset.evc else s.evc) = (rest m s).evc := rfl
@[simp] theorem pmc_rest (m : Scope) (s : State) : (bif m.pmc then State.reset.pmc else s.pmc) = (rest m s).pmc := rfl
@[simp] theorem pwr_rest (m : Scope) (s : State) : (bif m.pwr then State.reset.pwr else s.pwr) = (rest m s).pwr := rfl
@[simp] theorem out_rest (m : Scope) (s : State) : (bif m.out then State.reset.out else s.out) = (rest m s).out := rfl
@[simp] theorem pending_rest (m : Scope) (s : State) : (bif m.pending then State.reset.pending else s.pending) = (rest m s).pending := rfl
@[simp] theorem rest_dev {m : Scope} (s : State) (h : m.dev) : (rest m s).dev = State.reset.dev := by simp only [rest, h, cond_true]
@[simp] theorem rest_clk {m : Scope} (s : State) (h : m.clk) : (rest m s).clk = State.reset.clk := by simp only [rest, h, cond_true]
@[simp] theorem rest_time {m : Scope} (s : State) (h : m.time) : (rest m s).time = State.reset.time := by simp only [rest, h, cond_true]
@[simp] theorem rest_tio {m : Scope} (s : State) (h : m.tio) : (rest m s).tio = State.reset.tio := by simp only [rest, h, cond_true]
@[simp] theorem rest_carriers {m : Scope} (s : State) (h : m.carriers) : (rest m s).carriers = State.reset.carriers := by simp only [rest, h, cond_true]
@[simp] theorem rest_reg {m : Scope} (s : State) (h : m.reg) : (rest m s).reg = State.reset.reg := by simp only [rest, h, cond_true]
@[simp] theorem rest_down {m : Scope} (s : State) (h : m.down) : (rest m s).down = State.reset.down := by simp only [rest, h, cond_true]
@[simp] theorem rest_mch {m : Scope} (s : State) (h : m.mch) : (rest m s).mch = State.reset.mch := by simp only [rest, h, cond_true]
@[simp] theorem rest_trib {m : Scope} (s : State) (h : m.trib) : (rest m s).trib = State.reset.trib := by simp only [rest, h, cond_true]
@[simp] theorem rest_cls {m : Scope} (s : State) (h : m.cls) : (rest m s).cls = State.reset.cls := by simp only [rest, h, cond_true]
@[simp] theorem rest_q {m : Scope} (s : State) (h : m.q) : (rest m s).q = State.reset.q := by simp only [rest, h, cond_true]
@[simp] theorem rest_lanes {m : Scope} (s : State) (h : m.lanes) : (rest m s).lanes = State.reset.lanes := by simp only [rest, h, cond_true]
@[simp] theorem rest_refs {m : Scope} (s : State) (h : m.refs) : (rest m s).refs = State.reset.refs := by simp only [rest, h, cond_true]
@[simp] theorem rest_die {m : Scope} (s : State) (h : m.die) : (rest m s).die = State.reset.die := by simp only [rest, h, cond_true]
@[simp] theorem rest_ports {m : Scope} (s : State) (h : m.ports) : (rest m s).ports = State.reset.ports := by simp only [rest, h, cond_true]
@[simp] theorem rest_snaps {m : Scope} (s : State) (h : m.snaps) : (rest m s).snaps = State.reset.snaps := by simp only [rest, h, cond_true]
@[simp] theorem rest_sec {m : Scope} (s : State) (h : m.sec) : (rest m s).sec = State.reset.sec := by simp only [rest, h, cond_true]
@[simp] theorem rest_cmd {m : Scope} (s : State) (h : m.cmd) : (rest m s).cmd = State.reset.cmd := by simp only [rest, h, cond_true]
@[simp] theorem rest_groups {m : Scope} (s : State) (h : m.groups) : (rest m s).groups = State.reset.groups := by simp only [rest, h, cond_true]
@[simp] theorem rest_eng {m : Scope} (s : State) (h : m.eng) : (rest m s).eng = State.reset.eng := by simp only [rest, h, cond_true]
@[simp] theorem rest_evc {m : Scope} (s : State) (h : m.evc) : (rest m s).evc = State.reset.evc := by simp only [rest, h, cond_true]
@[simp] theorem rest_pmc {m : Scope} (s : State) (h : m.pmc) : (rest m s).pmc = State.reset.pmc := by simp only [rest, h, cond_true]
@[simp] theorem rest_pwr {m : Scope} (s : State) (h : m.pwr) : (rest m s).pwr = State.reset.pwr := by simp only [rest, h, cond_true]
@[simp] theorem rest_out {m : Scope} (s : State) (h : m.out) : (rest m s).out = State.reset.out := by simp only [rest, h, cond_true]

theorem fuses_of_rest {m : Scope} {s t : State} (h : rest m t = rest m s) (hm : m.fuses = false := by rfl) : t.fuses = s.fuses := by
  simpa only [rest, hm, cond_false] using congrArg State.fuses h
theorem dev_of_rest {m : Scope} {s t : State} (h : rest m t = rest m s) (hm : m.dev = false := by rfl) : t.dev = s.dev := by
  simpa only [rest, hm, cond_false] using congrArg State.dev h
theorem clk_of_rest {m : Scope} {s t : State} (h : rest m t = rest m s) (hm : m.clk = false := by rfl) : t.clk = s.clk := by
  simpa only [rest, hm, cond_false] using congrArg State.clk h
theorem time_of_rest {m : Scope} {s t : State} (h : rest m t = rest m s) (hm : m.time = false := by rfl) : t.time = s.time := by
  simpa only [rest, hm, cond_false] using congrArg State.time h
theorem tio_of_rest {m : Scope} {s t : State} (h : rest m t = rest m s) (hm : m.tio = false := by rfl) : t.tio = s.tio := by
  simpa only [rest, hm, cond_false] using congrArg State.tio h
theorem carriers_of_rest {m : Scope} {s t : State} (h : rest m t = rest m s) (hm : m.carriers = false := by rfl) : t.carriers = s.carriers := by
  simpa only [rest, hm, cond_false] using congrArg State.carriers h
theorem reg_of_rest {m : Scope} {s t : State} (h : rest m t = rest m s) (hm : m.reg = false := by rfl) : t.reg = s.reg := by
  simpa only [rest, hm, cond_false] using congrArg State.reg h
theorem down_of_rest {m : Scope} {s t : State} (h : rest m t = rest m s) (hm : m.down = false := by rfl) : t.down = s.down := by
  simpa only [rest, hm, cond_false] using congrArg State.down h
theorem mch_of_rest {m : Scope} {s t : State} (h : rest m t = rest m s) (hm : m.mch = false := by rfl) : t.mch = s.mch := by
  simpa only [rest, hm, cond_false] using congrArg State.mch h
theorem cls_of_rest {m : Scope} {s t : State} (h : rest m t = rest m s) (hm : m.cls = false := by rfl) : t.cls = s.cls := by
  simpa only [rest, hm, cond_false] using congrArg State.cls h
theorem q_of_rest {m : Scope} {s t : State} (h : rest m t = rest m s) (hm : m.q = false := by rfl) : t.q = s.q := by
  simpa only [rest, hm, cond_false] using congrArg State.q h
theorem lanes_of_rest {m : Scope} {s t : State} (h : rest m t = rest m s) (hm : m.lanes = false := by rfl) : t.lanes = s.lanes := by
  simpa only [rest, hm, cond_false] using congrArg State.lanes h
theorem die_of_rest {m : Scope} {s t : State} (h : rest m t = rest m s) (hm : m.die = false := by rfl) : t.die = s.die := by
  simpa only [rest, hm, cond_false] using congrArg State.die h
theorem ports_of_rest {m : Scope} {s t : State} (h : rest m t = rest m s) (hm : m.ports = false := by rfl) : t.ports = s.ports := by
  simpa only [rest, hm, cond_false] using congrArg State.ports h
theorem sec_of_rest {m : Scope} {s t : State} (h : rest m t = rest m s) (hm : m.sec = false := by rfl) : t.sec = s.sec := by
  simpa only [rest, hm, cond_false] using congrArg State.sec h
theorem cmd_of_rest {m : Scope} {s t : State} (h : rest m t = rest m s) (hm : m.cmd = false := by rfl) : t.cmd = s.cmd := by
  simpa only [rest, hm, cond_false] using congrArg State.cmd h
theorem groups_of_rest {m : Scope} {s t : State} (h : rest m t = rest m s) (hm : m.groups = false := by rfl) : t.groups = s.groups := by
  simpa only [rest, hm, cond_false] using congrArg State.groups h
theorem eng_of_rest {m : Scope} {s t : State} (h : rest m t = rest m s) (hm : m.eng = false := by rfl) : t.eng = s.eng := by
  simpa only [rest, hm, cond_false] using congrArg State.eng h
theorem pwr_of_rest {m : Scope} {s t : State} (h : rest m t = rest m s) (hm : m.pwr = false := by rfl) : t.pwr = s.pwr := by
  simpa only [rest, hm, cond_false] using congrArg State.pwr h
theorem out_of_rest {m : Scope} {s t : State} (h : rest m t = rest m s) (hm : m.out = false := by rfl) : t.out = s.out := by
  simpa only [rest, hm, cond_false] using congrArg State.out h
theorem pending_of_rest {m : Scope} {s t : State} (h : rest m t = rest m s) (hm : m.pending = false := by rfl) : t.pending = s.pending := by
  simpa only [rest, hm, cond_false] using congrArg State.pending h

@[simp] theorem rest_fuses_kept {m : Scope} (s : State) (h : m.fuses = false) : (rest m s).fuses = s.fuses := by simp only [rest, h, cond_false]
@[simp] theorem rest_dev_kept {m : Scope} (s : State) (h : m.dev = false) : (rest m s).dev = s.dev := by simp only [rest, h, cond_false]
@[simp] theorem rest_clk_kept {m : Scope} (s : State) (h : m.clk = false) : (rest m s).clk = s.clk := by simp only [rest, h, cond_false]
@[simp] theorem rest_time_kept {m : Scope} (s : State) (h : m.time = false) : (rest m s).time = s.time := by simp only [rest, h, cond_false]
@[simp] theorem rest_tio_kept {m : Scope} (s : State) (h : m.tio = false) : (rest m s).tio = s.tio := by simp only [rest, h, cond_false]
@[simp] theorem rest_carriers_kept {m : Scope} (s : State) (h : m.carriers = false) : (rest m s).carriers = s.carriers := by simp only [rest, h, cond_false]
@[simp] theorem rest_reg_kept {m : Scope} (s : State) (h : m.reg = false) : (rest m s).reg = s.reg := by simp only [rest, h, cond_false]
@[simp] theorem rest_down_kept {m : Scope} (s : State) (h : m.down = false) : (rest m s).down = s.down := by simp only [rest, h, cond_false]
@[simp] theorem rest_mch_kept {m : Scope} (s : State) (h : m.mch = false) : (rest m s).mch = s.mch := by simp only [rest, h, cond_false]
@[simp] theorem rest_trib_kept {m : Scope} (s : State) (h : m.trib = false) : (rest m s).trib = s.trib := by simp only [rest, h, cond_false]
@[simp] theorem rest_cls_kept {m : Scope} (s : State) (h : m.cls = false) : (rest m s).cls = s.cls := by simp only [rest, h, cond_false]
@[simp] theorem rest_q_kept {m : Scope} (s : State) (h : m.q = false) : (rest m s).q = s.q := by simp only [rest, h, cond_false]
@[simp] theorem rest_lanes_kept {m : Scope} (s : State) (h : m.lanes = false) : (rest m s).lanes = s.lanes := by simp only [rest, h, cond_false]
@[simp] theorem rest_refs_kept {m : Scope} (s : State) (h : m.refs = false) : (rest m s).refs = s.refs := by simp only [rest, h, cond_false]
@[simp] theorem rest_die_kept {m : Scope} (s : State) (h : m.die = false) : (rest m s).die = s.die := by simp only [rest, h, cond_false]
@[simp] theorem rest_ports_kept {m : Scope} (s : State) (h : m.ports = false) : (rest m s).ports = s.ports := by simp only [rest, h, cond_false]
@[simp] theorem rest_snaps_kept {m : Scope} (s : State) (h : m.snaps = false) : (rest m s).snaps = s.snaps := by simp only [rest, h, cond_false]
@[simp] theorem rest_sec_kept {m : Scope} (s : State) (h : m.sec = false) : (rest m s).sec = s.sec := by simp only [rest, h, cond_false]
@[simp] theorem rest_cmd_kept {m : Scope} (s : State) (h : m.cmd = false) : (rest m s).cmd = s.cmd := by simp only [rest, h, cond_false]
@[simp] theorem rest_groups_kept {m : Scope} (s : State) (h : m.groups = false) : (rest m s).groups = s.groups := by simp only [rest, h, cond_false]
@[simp] theorem rest_eng_kept {m : Scope} (s : State) (h : m.eng = false) : (rest m s).eng = s.eng := by simp only [rest, h, cond_false]
@[simp] theorem rest_evc_kept {m : Scope} (s : State) (h : m.evc = false) : (rest m s).evc = s.evc := by simp only [rest, h, cond_false]
@[simp] theorem rest_pmc_kept {m : Scope} (s : State) (h : m.pmc = false) : (rest m s).pmc = s.pmc := by simp only [rest, h, cond_false]
@[simp] theorem rest_pwr_kept {m : Scope} (s : State) (h : m.pwr = false) : (rest m s).pwr = s.pwr := by simp only [rest, h, cond_false]
@[simp] theorem rest_out_kept {m : Scope} (s : State) (h : m.out = false) : (rest m s).out = s.out := by simp only [rest, h, cond_false]
@[simp] theorem rest_pending_kept {m : Scope} (s : State) (h : m.pending = false) : (rest m s).pending = s.pending := by simp only [rest, h, cond_false]
@[simp] theorem rest_mk_fuses {m : Scope} a b c d e f g i j k l n o p q r u v w x y z aa ab ac ad :
    (rest m ⟨a, b, c, d, e, f, g, i, j, k, l, n, o, p, q, r, u, v, w, x, y, z, aa, ab, ac, ad⟩).fuses = bif m.fuses then State.reset.fuses else a := rfl
@[simp] theorem rest_mk_dev {m : Scope} a b c d e f g i j k l n o p q r u v w x y z aa ab ac ad :
    (rest m ⟨a, b, c, d, e, f, g, i, j, k, l, n, o, p, q, r, u, v, w, x, y, z, aa, ab, ac, ad⟩).dev = bif m.dev then State.reset.dev else b := rfl
@[simp] theorem rest_mk_clk {m : Scope} a b c d e f g i j k l n o p q r u v w x y z aa ab ac ad :
    (rest m ⟨a, b, c, d, e, f, g, i, j, k, l, n, o, p, q, r, u, v, w, x, y, z, aa, ab, ac, ad⟩).clk = bif m.clk then State.reset.clk else c := rfl
@[simp] theorem rest_mk_time {m : Scope} a b c d e f g i j k l n o p q r u v w x y z aa ab ac ad :
    (rest m ⟨a, b, c, d, e, f, g, i, j, k, l, n, o, p, q, r, u, v, w, x, y, z, aa, ab, ac, ad⟩).time = bif m.time then State.reset.time else d := rfl
@[simp] theorem rest_mk_tio {m : Scope} a b c d e f g i j k l n o p q r u v w x y z aa ab ac ad :
    (rest m ⟨a, b, c, d, e, f, g, i, j, k, l, n, o, p, q, r, u, v, w, x, y, z, aa, ab, ac, ad⟩).tio = bif m.tio then State.reset.tio else e := rfl
@[simp] theorem rest_mk_carriers {m : Scope} a b c d e f g i j k l n o p q r u v w x y z aa ab ac ad :
    (rest m ⟨a, b, c, d, e, f, g, i, j, k, l, n, o, p, q, r, u, v, w, x, y, z, aa, ab, ac, ad⟩).carriers = bif m.carriers then State.reset.carriers else f := rfl
@[simp] theorem rest_mk_reg {m : Scope} a b c d e f g i j k l n o p q r u v w x y z aa ab ac ad :
    (rest m ⟨a, b, c, d, e, f, g, i, j, k, l, n, o, p, q, r, u, v, w, x, y, z, aa, ab, ac, ad⟩).reg = bif m.reg then State.reset.reg else g := rfl
@[simp] theorem rest_mk_down {m : Scope} a b c d e f g i j k l n o p q r u v w x y z aa ab ac ad :
    (rest m ⟨a, b, c, d, e, f, g, i, j, k, l, n, o, p, q, r, u, v, w, x, y, z, aa, ab, ac, ad⟩).down = bif m.down then State.reset.down else i := rfl
@[simp] theorem rest_mk_mch {m : Scope} a b c d e f g i j k l n o p q r u v w x y z aa ab ac ad :
    (rest m ⟨a, b, c, d, e, f, g, i, j, k, l, n, o, p, q, r, u, v, w, x, y, z, aa, ab, ac, ad⟩).mch = bif m.mch then State.reset.mch else j := rfl
@[simp] theorem rest_mk_trib {m : Scope} a b c d e f g i j k l n o p q r u v w x y z aa ab ac ad :
    (rest m ⟨a, b, c, d, e, f, g, i, j, k, l, n, o, p, q, r, u, v, w, x, y, z, aa, ab, ac, ad⟩).trib = bif m.trib then State.reset.trib else k := rfl
@[simp] theorem rest_mk_cls {m : Scope} a b c d e f g i j k l n o p q r u v w x y z aa ab ac ad :
    (rest m ⟨a, b, c, d, e, f, g, i, j, k, l, n, o, p, q, r, u, v, w, x, y, z, aa, ab, ac, ad⟩).cls = bif m.cls then State.reset.cls else l := rfl
@[simp] theorem rest_mk_q {m : Scope} a b c d e f g i j k l n o p q r u v w x y z aa ab ac ad :
    (rest m ⟨a, b, c, d, e, f, g, i, j, k, l, n, o, p, q, r, u, v, w, x, y, z, aa, ab, ac, ad⟩).q = bif m.q then State.reset.q else n := rfl
@[simp] theorem rest_mk_lanes {m : Scope} a b c d e f g i j k l n o p q r u v w x y z aa ab ac ad :
    (rest m ⟨a, b, c, d, e, f, g, i, j, k, l, n, o, p, q, r, u, v, w, x, y, z, aa, ab, ac, ad⟩).lanes = bif m.lanes then State.reset.lanes else o := rfl
@[simp] theorem rest_mk_refs {m : Scope} a b c d e f g i j k l n o p q r u v w x y z aa ab ac ad :
    (rest m ⟨a, b, c, d, e, f, g, i, j, k, l, n, o, p, q, r, u, v, w, x, y, z, aa, ab, ac, ad⟩).refs = bif m.refs then State.reset.refs else p := rfl
@[simp] theorem rest_mk_die {m : Scope} a b c d e f g i j k l n o p q r u v w x y z aa ab ac ad :
    (rest m ⟨a, b, c, d, e, f, g, i, j, k, l, n, o, p, q, r, u, v, w, x, y, z, aa, ab, ac, ad⟩).die = bif m.die then State.reset.die else q := rfl
@[simp] theorem rest_mk_ports {m : Scope} a b c d e f g i j k l n o p q r u v w x y z aa ab ac ad :
    (rest m ⟨a, b, c, d, e, f, g, i, j, k, l, n, o, p, q, r, u, v, w, x, y, z, aa, ab, ac, ad⟩).ports = bif m.ports then State.reset.ports else r := rfl
@[simp] theorem rest_mk_snaps {m : Scope} a b c d e f g i j k l n o p q r u v w x y z aa ab ac ad :
    (rest m ⟨a, b, c, d, e, f, g, i, j, k, l, n, o, p, q, r, u, v, w, x, y, z, aa, ab, ac, ad⟩).snaps = bif m.snaps then State.reset.snaps else u := rfl
@[simp] theorem rest_mk_sec {m : Scope} a b c d e f g i j k l n o p q r u v w x y z aa ab ac ad :
    (rest m ⟨a, b, c, d, e, f, g, i, j, k, l, n, o, p, q, r, u, v, w, x, y, z, aa, ab, ac, ad⟩).sec = bif m.sec then State.reset.sec else v := rfl
@[simp] theorem rest_mk_cmd {m : Scope} a b c d e f g i j k l n o p q r u v w x y z aa ab ac ad :
    (rest m ⟨a, b, c, d, e, f, g, i, j, k, l, n, o, p, q, r, u, v, w, x, y, z, aa, ab, ac, ad⟩).cmd = bif m.cmd then State.reset.cmd else w := rfl
@[simp] theorem rest_mk_groups {m : Scope} a b c d e f g i j k l n o p q r u v w x y z aa ab ac ad :
    (rest m ⟨a, b, c, d, e, f, g, i, j, k, l, n, o, p, q, r, u, v, w, x, y, z, aa, ab, ac, ad⟩).groups = bif m.groups then State.reset.groups else x := rfl
@[simp] theorem rest_mk_eng {m : Scope} a b c d e f g i j k l n o p q r u v w x y z aa ab ac ad :
    (rest m ⟨a, b, c, d, e, f, g, i, j, k, l, n, o, p, q, r, u, v, w, x, y, z, aa, ab, ac, ad⟩).eng = bif m.eng then State.reset.eng else y := rfl
@[simp] theorem rest_mk_evc {m : Scope} a b c d e f g i j k l n o p q r u v w x y z aa ab ac ad :
    (rest m ⟨a, b, c, d, e, f, g, i, j, k, l, n, o, p, q, r, u, v, w, x, y, z, aa, ab, ac, ad⟩).evc = bif m.evc then State.reset.evc else z := rfl
@[simp] theorem rest_mk_pmc {m : Scope} a b c d e f g i j k l n o p q r u v w x y z aa ab ac ad :
    (rest m ⟨a, b, c, d, e, f, g, i, j, k, l, n, o, p, q, r, u, v, w, x, y, z, aa, ab, ac, ad⟩).pmc = bif m.pmc then State.reset.pmc else aa := rfl
@[simp] theorem rest_mk_pwr {m : Scope} a b c d e f g i j k l n o p q r u v w x y z aa ab ac ad :
    (rest m ⟨a, b, c, d, e, f, g, i, j, k, l, n, o, p, q, r, u, v, w, x, y, z, aa, ab, ac, ad⟩).pwr = bif m.pwr then State.reset.pwr else ab := rfl
@[simp] theorem rest_mk_out {m : Scope} a b c d e f g i j k l n o p q r u v w x y z aa ab ac ad :
    (rest m ⟨a, b, c, d, e, f, g, i, j, k, l, n, o, p, q, r, u, v, w, x, y, z, aa, ab, ac, ad⟩).out = bif m.out then State.reset.out else ac := rfl
@[simp] theorem rest_mk_pending {m : Scope} a b c d e f g i j k l n o p q r u v w x y z aa ab ac ad :
    (rest m ⟨a, b, c, d, e, f, g, i, j, k, l, n, o, p, q, r, u, v, w, x, y, z, aa, ab, ac, ad⟩).pending = bif m.pending then State.reset.pending else ad := rfl

@[simp] theorem rest_ite {m : Scope} {c : Prop} [Decidable c] (a b : State) :
    rest m (if c then a else b) = if c then rest m a else rest m b := by split <;> rfl
@[simp] theorem rest_ite2 {m : Scope} {α : Type} {c : Prop} [Decidable c] (a b : α × State) :
    rest m (if c then a else b).2 = if c then rest m a.2 else rest m b.2 := by split <;> rfl
@[simp] theorem rest_foldl {m : Scope} {α : Type} (l : List α) (g : State → α → State) (h : ∀ s a, rest m (g s a) = rest m s)
    (s : State) : rest m (l.foldl g s) = rest m s := by
  induction l generalizing s with
  | nil => rfl
  | cons a l ih => rw [List.foldl_cons, ih, h]
@[simp] theorem rest_foldl2 {m : Scope} {α β : Type} (l : List α) (g : β × State → α → β × State)
    (h : ∀ p a, rest m (g p a).2 = rest m p.2) (p : β × State) : rest m (l.foldl g p).2 = rest m p.2 := by
  induction l generalizing p with
  | nil => rfl
  | cons a l ih => rw [List.foldl_cons, ih, h]
@[simp] theorem rest_iter {m : Scope} (f : State → State) (h : ∀ s, rest m (f s) = rest m s) (n : Nat) (s : State) :
    rest m (iter f n s) = rest m s := by
  induction n generalizing s with
  | zero => rfl
  | succ n ih => rw [iter, ih, h]
@[simp] theorem rest_forEach {m : Scope} (l : List Nat) (f : Nat → State → State) (s : State)
    (h : ∀ n s, rest m (f n s) = rest m s) : rest m (forEach l f s) = rest m s := rest_foldl _ _ (fun s a => h a s) _

end Sys2Proof.Proofs.Frames
end

section
/-!
The components that each operation of the model can reach: outside them its result is the state it started from.
-/
namespace Sys2Proof.Proofs.Frames
open Sys2Proof Sys2Proof.Machine

set_option Elab.async false

@[simp] theorem rest_draw {sc : Scope} (s : State) (hsc : sc.clk) : rest sc (draw s).2 = rest sc s := by
  simp [draw, hsc]

@[simp] theorem rest_emit {sc : Scope} (a0 : Output) (s : State) (hsc : sc.out) : rest sc (emit a0 s) = rest sc s := by
  simp [emit, hsc]

@[simp] theorem rest_sendMsix {sc : Scope} (a0 : Nat) (s : State) (hsc : sc.evc ∧ sc.out) : rest sc (sendMsix a0 s) = rest sc s := by
  simp [sendMsix, hsc]

@[simp] theorem rest_fire {sc : Scope} (a0 : Nat) (s : State) (hsc : sc.evc ∧ sc.out) : rest sc (fire a0 s) = rest sc s := by
  simp only [fire]
  split <;> simp [hsc]

@[simp] theorem rest_quiet {sc : Scope} (a0 : Nat) (s : State) (hsc : sc.evc) : rest sc (quiet a0 s) = rest sc s := by
  simp [quiet, hsc]

@[simp] theorem rest_quietAll {sc : Scope} (s : State) (hsc : sc.evc) : rest sc (quietAll s) = rest sc s := by
  simp [quietAll, hsc]

@[simp] theorem rest_arrive {sc : Scope} (a0 : Nat) (s : State) (hsc : sc.evc ∧ sc.out) : rest sc (arrive a0 s) = rest sc s := by
  simp [arrive, hsc]

@[simp] theorem rest_nest {sc : Scope} (a0 : Evc) (a1 : Nat) (s : State) (hsc : sc.evc ∧ sc.out) : rest sc (nest a0 a1 s) = rest sc s := by
  simp [nest, hsc]

@[simp] theorem rest_land {sc : Scope} (a0 : Nat) (s : State) (hsc : sc.evc ∧ sc.out) : rest sc (land a0 s) = rest sc s := by
  simp [land, hsc]

@[simp] theorem rest_raiseOn {sc : Scope} (a0 : Bool) (a1 : Nat) (s : State) (hsc : sc.evc ∧ sc.out) : rest sc (raiseOn a0 a1 s) = rest sc s := by
  simp [raiseOn, hsc]

@[simp] theorem rest_raise {sc : Scope} (a0 : Nat) (s : State) (hsc : sc.evc ∧ sc.out) : rest sc (raise a0 s) = rest sc s := by
  simp [raise, hsc]

@[simp] theorem rest_raiseOnceKey {sc : Scope} (a0 : Nat) (a1 : Nat) (s : State) (hsc : sc.clk ∧ sc.evc ∧ sc.out) : rest sc (raiseOnceKey a0 a1 s) = rest sc s := by
  simp [raiseOnceKey, hsc]

@[simp] theorem rest_raiseOnce {sc : Scope} (a0 : Nat) (s : State) (hsc : sc.clk ∧ sc.evc ∧ sc.out) : rest sc (raiseOnce a0 s) = rest sc s := by
  simp [raiseOnce, hsc]

@[simp] theorem rest_setLevel {sc : Scope} (a0 : Nat) (a1 : Bool) (s : State) (hsc : sc.evc ∧ sc.out) : rest sc (setLevel a0 a1 s) = rest sc s := by
  simp [setLevel, hsc]

@[simp] theorem rest_syncReply {sc : Scope} (s : State) (hsc : sc.evc ∧ sc.out) : rest sc (syncReply s) = rest sc s := by
  simp [syncReply, hsc]

@[simp] theorem rest_syncCap {sc : Scope} (a0 : Nat) (s : State) (hsc : sc.evc ∧ sc.out) : rest sc (syncCap a0 s) = rest sc s := by
  simp [syncCap, hsc]

@[simp] theorem rest_syncTs {sc : Scope} (s : State) (hsc : sc.evc ∧ sc.out) : rest sc (syncTs s) = rest sc s := by
  simp [syncTs, hsc]

@[simp] theorem rest_syncEx {sc : Scope} (s : State) (hsc : sc.evc ∧ sc.out) : rest sc (syncEx s) = rest sc s := by
  simp [syncEx, hsc]

@[simp] theorem rest_syncLog {sc : Scope} (s : State) (hsc : sc.evc ∧ sc.out) : rest sc (syncLog s) = rest sc s := by
  simp [syncLog, hsc]

@[simp] theorem rest_syncWarn {sc : Scope} (s : State) (hsc : sc.evc ∧ sc.out) : rest sc (syncWarn s) = rest sc s := by
  simp [syncWarn, hsc]

@[simp] theorem rest_setCarrier {sc : Scope} (a0 : Nat) (a1 : Carrier) (s : State) (hsc : sc.carriers) : rest sc (setCarrier a0 a1 s) = rest sc s := by
  simp [setCarrier, hsc]

@[simp] theorem rest_setPort {sc : Scope} (a0 : Nat) (a1 : Port) (s : State) (hsc : sc.ports) : rest sc (setPort a0 a1 s) = rest sc s := by
  simp [setPort, hsc]

@[simp] theorem rest_setLane {sc : Scope} (a0 : Nat) (a1 : Lane) (s : State) (hsc : sc.lanes) : rest sc (setLane a0 a1 s) = rest sc s := by
  simp [setLane, hsc]

@[simp] theorem rest_setAssoc {sc : Scope} (a0 : Nat) (a1 : Assoc) (s : State) (hsc : sc.sec) : rest sc (setAssoc a0 a1 s) = rest sc s := by
  simp [setAssoc, hsc]

@[simp] theorem rest_setChannel {sc : Scope} (a0 : Nat) (a1 : Mch) (s : State) (hsc : sc.mch) : rest sc (setChannel a0 a1 s) = rest sc s := by
  simp [setChannel, hsc]

@[simp] theorem rest_setGrp {sc : Scope} (a0 : Nat) (a1 : Group) (s : State) (hsc : sc.groups) : rest sc (setGrp a0 a1 s) = rest sc s := by
  simp [setGrp, hsc]

@[simp] theorem rest_setQueue {sc : Scope} (a0 : Nat) (a1 : Option Queue) (s : State) (hsc : sc.q) : rest sc (setQueue a0 a1 s) = rest sc s := by
  simp [setQueue, hsc]

@[simp] theorem rest_modCarrier {sc : Scope} (a0 : Nat) (a1 : Carrier → Carrier) (s : State) (hsc : sc.carriers) : rest sc (modCarrier a0 a1 s) = rest sc s := by
  simp [modCarrier, hsc]

@[simp] theorem rest_modPort {sc : Scope} (a0 : Nat) (a1 : Port → Port) (s : State) (hsc : sc.ports) : rest sc (modPort a0 a1 s) = rest sc s := by
  simp [modPort, hsc]

@[simp] theorem rest_modLane {sc : Scope} (a0 : Nat) (a1 : Lane → Lane) (s : State) (hsc : sc.lanes) : rest sc (modLane a0 a1 s) = rest sc s := by
  simp [modLane, hsc]

@[simp] theorem rest_modAssoc {sc : Scope} (a0 : Nat) (a1 : Assoc → Assoc) (s : State) (hsc : sc.sec) : rest sc (modAssoc a0 a1 s) = rest sc s := by
  simp [modAssoc, hsc]

@[simp] theorem rest_modChannel {sc : Scope} (a0 : Nat) (a1 : Mch → Mch) (s : State) (hsc : sc.mch) : rest sc (modChannel a0 a1 s) = rest sc s := by
  simp [modChannel, hsc]

@[simp] theorem rest_modStats {sc : Scope} (a0 : Nat) (a1 : PortStats → PortStats) (s : State) (hsc : sc.ports) : rest sc (modStats a0 a1 s) = rest sc s := by
  simp [modStats, hsc]

@[simp] theorem rest_newId {sc : Scope} (s : State) (hsc : sc.clk) : rest sc (newId s).2 = rest sc s := by
  simp [newId, hsc]

@[simp] theorem rest_notePower {sc : Scope} (s : State) (s1 : State) (hsc : sc.evc ∧ sc.out) : rest sc (notePower s s1) = rest sc s1 := by
  simp [notePower, hsc]

@[simp] theorem rest_startWake {sc : Scope} (s : State) (hsc : sc.pwr) : rest sc (startWake s) = rest sc s := by
  simp [startWake, hsc]

@[simp] theorem rest_wakeBy {sc : Scope} (a0 : Nat) (s : State) (hsc : sc.pwr) : rest sc (wakeBy a0 s) = rest sc s := by
  simp [wakeBy, hsc]

@[simp] theorem rest_egressPush {sc : Scope} (a0 : Nat) (a1 : Nat) (a2 : EgFrame) (s : State) (hsc : sc.ports) : rest sc (egressPush a0 a1 a2 s) = rest sc s := by
  simp [egressPush, hsc]

@[simp] theorem rest_wakePort {sc : Scope} (a0 : Nat) (s : State) (hsc : sc.ports ∧ sc.evc ∧ sc.out) : rest sc (wakePort a0 s) = rest sc s := by
  simp [wakePort, hsc]

@[simp] theorem rest_offered {sc : Scope} (a0 : Nat) (s : State) (hsc : sc.ports ∧ sc.evc ∧ sc.out) : rest sc (offered a0 s) = rest sc s := by
  simp [offered, hsc]

@[simp] theorem rest_storeReply {sc : Scope} (a0 : Reply) (s : State) (hsc : sc.cmd) : rest sc (storeReply a0 s) = rest sc s := by
  simp only [storeReply]
  split <;> simp [hsc]

@[simp] theorem rest_deliver {sc : Scope} (a0 : Hdr) (a1 : Reply) (s : State) (hsc : sc.clk ∧ sc.ports ∧ sc.cmd ∧ sc.evc ∧ sc.out) : rest sc (deliver a0 a1 s) = rest sc s := by
  simp only [deliver]
  split <;> simp [hsc]

@[simp] theorem rest_answer {sc : Scope} (a0 : Bool) (a1 : Hdr) (a2 : Nat) (a3 : Ans) (s : State) (hsc : sc.clk ∧ sc.ports ∧ sc.cmd ∧ sc.evc ∧ sc.out) : rest sc (answer a0 a1 a2 a3 s) = rest sc s := by
  simp [answer, hsc]

@[simp] theorem rest_sendReply {sc : Scope} (a0 : Hdr) (a1 : Nat) (a2 : Ans) (s : State) (hsc : sc.clk ∧ sc.ports ∧ sc.cmd ∧ sc.evc ∧ sc.out) : rest sc (sendReply a0 a1 a2 s) = rest sc s := by
  simp [sendReply, hsc]

@[simp] theorem rest_regate {sc : Scope} (a0 : Nat) (s : State) (hsc : sc.ports ∧ sc.evc ∧ sc.out) : rest sc (regate a0 s) = rest sc s := by
  simp only [regate]
  split <;> simp [hsc]

@[simp] theorem rest_regateAll {sc : Scope} (s : State) (hsc : sc.ports ∧ sc.evc ∧ sc.out) : rest sc (regateAll s) = rest sc s := by
  simp [regateAll, hsc]

@[simp] theorem rest_eraseStagedKey {sc : Scope} (a0 : Nat) (s : State) (hsc : sc.sec) : rest sc (eraseStagedKey a0 s) = rest sc s := by
  simp [eraseStagedKey, hsc]

@[simp] theorem rest_eraseStagedKeys {sc : Scope} (l : List Staged) (s : State) (hsc : sc.sec) : rest sc (eraseStagedKeys l s) = rest sc s := by
  apply rest_foldl
  intro s a
  split <;> simp [hsc]

@[simp] theorem rest_modCls {sc : Scope} (a0 : Classifier → Classifier) (s : State) (hsc : sc.cls) : rest sc (modCls a0 s) = rest sc s := by
  simp [modCls, hsc]

@[simp] theorem rest_releaseSlot {sc : Scope} (s : State) (hsc : sc.cls) : rest sc (releaseSlot s) = rest sc s := by
  simp [releaseSlot, hsc]

@[simp] theorem rest_abortGroup {sc : Scope} (a0 : Nat) (a1 : Status) (a2 : Nat) (s : State) (hsc : sc.cls ∧ sc.sec ∧ sc.groups ∧ sc.evc ∧ sc.out) : rest sc (abortGroup a0 a1 a2 s) = rest sc s := by
  simp only [abortGroup]
  repeat' split
  all_goals simp [hsc]

@[simp] theorem rest_onInvalid {sc : Scope} (s : State) (hsc : sc.trib ∧ sc.cls ∧ sc.q ∧ sc.ports ∧ sc.snaps ∧ sc.sec ∧ sc.groups ∧ sc.evc ∧ sc.pwr ∧ sc.out) : rest sc (onInvalid s) = rest sc s := by
  simp only [onInvalid]
  split <;> simp [hsc]

@[simp] theorem rest_holdOutputs {sc : Scope} (s : State) (hsc : sc.tio) : rest sc (holdOutputs s) = rest sc s := by
  simp [holdOutputs, hsc]

@[simp] theorem rest_noteTime {sc : Scope} (s : State) (s1 : State) (hsc : sc.clk ∧ sc.tio ∧ sc.trib ∧ sc.cls ∧ sc.q ∧ sc.ports ∧ sc.snaps ∧ sc.sec ∧ sc.groups ∧ sc.evc ∧ sc.pwr ∧ sc.out) : rest sc (noteTime s s1) = rest sc s1 := by
  simp only [noteTime]
  repeat' split
  all_goals simp [hsc]

@[simp] theorem rest_setFlag {sc : Scope} (a0 : Nat) (s : State) (hsc : sc.tio) : rest sc (setFlag a0 s) = rest sc s := by
  simp [setFlag, hsc]

@[simp] theorem rest_noteStep {sc : Scope} (s : State) (hsc : sc.tio ∧ sc.ports ∧ sc.evc ∧ sc.out) : rest sc (noteStep s) = rest sc s := by
  simp [noteStep, hsc]

@[simp] theorem rest_applyDown {sc : Scope} (a0 : Int) (s : State) (hsc : sc.clk ∧ sc.time ∧ sc.tio ∧ sc.trib ∧ sc.cls ∧ sc.q ∧ sc.ports ∧ sc.snaps ∧ sc.sec ∧ sc.groups ∧ sc.evc ∧ sc.pwr ∧ sc.out) : rest sc (applyDown a0 s) = rest sc s := by
  simp only [applyDown]
  repeat' split
  all_goals simp [hsc]

@[simp] theorem rest_rerange {sc : Scope} (s : State) (hsc : sc.clk ∧ sc.time ∧ sc.tio ∧ sc.trib ∧ sc.cls ∧ sc.q ∧ sc.ports ∧ sc.snaps ∧ sc.sec ∧ sc.groups ∧ sc.evc ∧ sc.pwr ∧ sc.out) : rest sc (rerange s) = rest sc s := by
  simp [rerange, hsc]

@[simp] theorem rest_rangeFrom {sc : Scope} (a0 : Nat) (s : State) (hsc : sc.clk ∧ sc.time ∧ sc.tio ∧ sc.trib ∧ sc.cls ∧ sc.q ∧ sc.ports ∧ sc.snaps ∧ sc.sec ∧ sc.groups ∧ sc.evc ∧ sc.pwr ∧ sc.out) : rest sc (rangeFrom a0 s) = rest sc s := by
  simp [rangeFrom, hsc]

@[simp] theorem rest_retime {sc : Scope} (s : State) (hsc : sc.clk ∧ sc.time ∧ sc.tio ∧ sc.trib ∧ sc.cls ∧ sc.q ∧ sc.ports ∧ sc.snaps ∧ sc.sec ∧ sc.groups ∧ sc.evc ∧ sc.pwr ∧ sc.out) : rest sc (retime s) = rest sc s := by
  simp only [retime]
  repeat' split
  all_goals simp [hsc]

@[simp] theorem rest_enterTrack {sc : Scope} (s : State) (hsc : sc.clk ∧ sc.time ∧ sc.tio ∧ sc.trib ∧ sc.cls ∧ sc.q ∧ sc.ports ∧ sc.snaps ∧ sc.sec ∧ sc.groups ∧ sc.evc ∧ sc.pwr ∧ sc.out) : rest sc (enterTrack s) = rest sc s := by
  simp only [enterTrack]
  repeat' split
  all_goals simp [hsc]

@[simp] theorem rest_stepReceived {sc : Scope} (a0 : Int) (s : State) (hsc : sc.time) : rest sc (stepReceived a0 s) = rest sc s := by
  simp [stepReceived, hsc]

@[simp] theorem rest_learn {sc : Scope} (s : State) (hsc : sc.clk ∧ sc.time) : rest sc (learn s) = rest sc s := by
  simp [learn, hsc]

@[simp] theorem rest_adoptStamps {sc : Scope} (a0 : List Int) (s : State) (hsc : sc.clk ∧ sc.time ∧ sc.tio ∧ sc.trib ∧ sc.cls ∧ sc.q ∧ sc.ports ∧ sc.snaps ∧ sc.sec ∧ sc.groups ∧ sc.evc ∧ sc.pwr ∧ sc.out) : rest sc (adoptStamps a0 s) = rest sc s := by
  simp only [adoptStamps]
  repeat' split
  all_goals simp [hsc]

@[simp] theorem rest_pmcWrapped {sc : Scope} (a0 : Nat) (s : State) (hsc : sc.evc ∧ sc.pmc ∧ sc.out) : rest sc (pmcWrapped a0 s) = rest sc s := by
  simp [pmcWrapped, hsc]

@[simp] theorem rest_pmcAddOne {sc : Scope} (a0 : Nat) (a1 : Nat) (s : State) (hsc : sc.evc ∧ sc.pmc ∧ sc.out) : rest sc (pmcAddOne a0 a1 s) = rest sc s := by
  simp [pmcAddOne, hsc]

@[simp] theorem rest_pmcAdd {sc : Scope} (a0 : Nat) (a1 : Nat) (s : State) (hsc : sc.evc ∧ sc.pmc ∧ sc.out) : rest sc (pmcAdd a0 a1 s) = rest sc s := by
  simp [pmcAdd, hsc]

@[simp] theorem rest_pmcCount {sc : Scope} (a0 : PmcEvent) (s : State) (hsc : sc.clk ∧ sc.evc ∧ sc.pmc ∧ sc.out) : rest sc (pmcCount a0 s) = rest sc s := by
  simp [pmcCount, hsc]

@[simp] theorem rest_pmcDrop {sc : Scope} (a0 : Meta) (s : State) (hsc : sc.clk ∧ sc.evc ∧ sc.pmc ∧ sc.out) : rest sc (pmcDrop a0 s) = rest sc s := by
  simp [pmcDrop, hsc]

@[simp] theorem rest_modTrace {sc : Scope} (a0 : Tracing → Tracing) (s : State) (hsc : sc.pmc) : rest sc (modTrace a0 s) = rest sc s := by
  simp [modTrace, hsc]

@[simp] theorem rest_traceEntry {sc : Scope} (a0 : Option Nat) (a1 : TraceEntry → TraceEntry) (s : State) (hsc : sc.pmc) : rest sc (traceEntry a0 a1 s) = rest sc s := by
  simp only [traceEntry]
  split <;> simp [hsc]

@[simp] theorem rest_traceStage {sc : Scope} (a0 : Option Nat) (a1 : Nat) (s : State) (hsc : sc.pmc) : rest sc (traceStage a0 a1 s) = rest sc s := by
  simp [traceStage, hsc]

@[simp] theorem rest_traceStageAt {sc : Scope} (a0 : Option Nat) (a1 : Nat) (a2 : Instant) (s : State) (hsc : sc.pmc) : rest sc (traceStageAt a0 a1 a2 s) = rest sc s := by
  simp [traceStageAt, hsc]

@[simp] theorem rest_traceEnd {sc : Scope} (a0 : Option Nat) (a1 : TraceEntry → TraceEntry) (s : State) (hsc : sc.evc ∧ sc.pmc ∧ sc.out) : rest sc (traceEnd a0 a1 s) = rest sc s := by
  simp only [traceEnd]
  repeat' split
  all_goals simp [hsc]

@[simp] theorem rest_traceDrop {sc : Scope} (a0 : Option Nat) (s : State) (hsc : sc.evc ∧ sc.pmc ∧ sc.out) : rest sc (traceDrop a0 s) = rest sc s := by
  simp [traceDrop, hsc]

@[simp] theorem rest_traceReserve {sc : Scope} (a0 : TraceEntry) (s : State) (hsc : sc.evc ∧ sc.pmc ∧ sc.out) : rest sc (traceReserve a0 s).2 = rest sc s := by
  simp [traceReserve, hsc]

@[simp] theorem rest_traceTag {sc : Scope} (a0 : Pkt) (s : State) (hsc : sc.clk ∧ sc.evc ∧ sc.pmc ∧ sc.out) : rest sc (traceTag a0 s).2 = rest sc s := by
  simp [traceTag, hsc]

@[simp] theorem rest_modQ {sc : Scope} (a0 : Queues → Queues) (s : State) (hsc : sc.q) : rest sc (modQ a0 s) = rest sc s := by
  simp [modQ, hsc]

@[simp] theorem rest_freeCells {sc : Scope} (a0 : Nat) (s : State) (hsc : sc.q) : rest sc (freeCells a0 s) = rest sc s := by
  simp [freeCells, hsc]

@[simp] theorem rest_dropQ {sc : Scope} (a0 : QPkt) (s : State) (hsc : sc.clk ∧ sc.evc ∧ sc.pmc ∧ sc.out) : rest sc (dropQ a0 s) = rest sc s := by
  simp [dropQ, hsc]

@[simp] theorem rest_runDuty {sc : Scope} (a0 : Nat) (a1 : Nat) (s : State) (hsc : sc.out) : rest sc (runDuty a0 a1 s) = rest sc s := by
  simp [runDuty, hsc]

@[simp] theorem rest_raiseCarrier {sc : Scope} (a0 : Nat) (a1 : Nat) (s : State) (hsc : sc.evc ∧ sc.out) : rest sc (raiseCarrier a0 a1 s) = rest sc s := by
  simp [raiseCarrier, hsc]

@[simp] theorem rest_feFault {sc : Scope} (a0 : Nat) (a1 : FaultCause) (s : State) (hsc : sc.carriers ∧ sc.evc ∧ sc.out) : rest sc (feFault a0 a1 s) = rest sc s := by
  simp [feFault, hsc]

@[simp] theorem rest_countDropped {sc : Scope} (a0 : Nat) (a1 : Nat) (s : State) (hsc : sc.carriers) : rest sc (countDropped a0 a1 s) = rest sc s := by
  simp [countDropped, hsc]

@[simp] theorem rest_dropHeld {sc : Scope} (a0 : Nat) (s : State) (hsc : sc.carriers) : rest sc (dropHeld a0 s) = rest sc s := by
  simp [dropHeld, hsc]

@[simp] theorem rest_countSessionEnd {sc : Scope} (a0 : Nat) (a1 : Nat) (s : State) (hsc : sc.q) : rest sc (countSessionEnd a0 a1 s) = rest sc s := by
  simp only [countSessionEnd]
  split <;> simp [hsc]

@[simp] theorem rest_loseBursts {sc : Scope} (a0 : List Burst) (s : State) (hsc : sc.q ∧ sc.evc ∧ sc.pmc ∧ sc.out) : rest sc (loseBursts a0 s) = rest sc s := by
  unfold loseBursts
  apply rest_foldl
  intro s v
  rw [rest_foldl, rest_foldl] <;> intro s x <;> simp [hsc]

@[simp] theorem rest_discardDrawn {sc : Scope} (a0 : Nat) (s : State) (hsc : sc.carriers ∧ sc.q ∧ sc.evc ∧ sc.pmc ∧ sc.out) : rest sc (discardDrawn a0 s) = rest sc s := by
  simp only [discardDrawn]
  split <;> simp [hsc]

@[simp] theorem rest_letGo {sc : Scope} (a0 : Nat) (a1 : Burst → Bool) (s : State) (hsc : sc.carriers ∧ sc.q ∧ sc.evc ∧ sc.pmc ∧ sc.out) : rest sc (letGo a0 a1 s) = rest sc s := by
  simp only [letGo]
  split <;> simp [hsc]

@[simp] theorem rest_enterCarrier {sc : Scope} (a0 : Nat) (a1 : CarrierState) (s : State) (hsc : sc.clk ∧ sc.time ∧ sc.tio ∧ sc.carriers ∧ sc.trib ∧ sc.cls ∧ sc.q ∧ sc.ports ∧ sc.snaps ∧ sc.sec ∧ sc.groups ∧ sc.evc ∧ sc.pwr ∧ sc.out) : rest sc (enterCarrier a0 a1 s) = rest sc s := by
  simp [enterCarrier, hsc]

@[simp] theorem rest_enterAcquire {sc : Scope} (a0 : Nat) (s : State) (hsc : sc.clk ∧ sc.time ∧ sc.tio ∧ sc.carriers ∧ sc.trib ∧ sc.cls ∧ sc.q ∧ sc.ports ∧ sc.snaps ∧ sc.sec ∧ sc.groups ∧ sc.evc ∧ sc.pwr ∧ sc.out) : rest sc (enterAcquire a0 s) = rest sc s := by
  simp [enterAcquire, hsc]

@[simp] theorem rest_enterLost {sc : Scope} (a0 : Nat) (s : State) (hsc : sc.clk ∧ sc.time ∧ sc.tio ∧ sc.carriers ∧ sc.trib ∧ sc.cls ∧ sc.q ∧ sc.ports ∧ sc.snaps ∧ sc.sec ∧ sc.groups ∧ sc.evc ∧ sc.pwr ∧ sc.out) : rest sc (enterLost a0 s) = rest sc s := by
  simp [enterLost, hsc]

@[simp] theorem rest_enterMismatch {sc : Scope} (a0 : Nat) (s : State) (hsc : sc.clk ∧ sc.time ∧ sc.tio ∧ sc.carriers ∧ sc.trib ∧ sc.cls ∧ sc.q ∧ sc.ports ∧ sc.snaps ∧ sc.sec ∧ sc.groups ∧ sc.evc ∧ sc.pwr ∧ sc.out) : rest sc (enterMismatch a0 s) = rest sc s := by
  simp [enterMismatch, hsc]

@[simp] theorem rest_enterLocked {sc : Scope} (a0 : Nat) (s : State) (hsc : sc.clk ∧ sc.time ∧ sc.tio ∧ sc.carriers ∧ sc.trib ∧ sc.cls ∧ sc.q ∧ sc.ports ∧ sc.snaps ∧ sc.sec ∧ sc.groups ∧ sc.evc ∧ sc.pwr ∧ sc.out) : rest sc (enterLocked a0 s) = rest sc s := by
  simp [enterLocked, hsc]

@[simp] theorem rest_turnOff {sc : Scope} (a0 : Nat) (s : State) (hsc : sc.clk ∧ sc.time ∧ sc.tio ∧ sc.carriers ∧ sc.trib ∧ sc.cls ∧ sc.q ∧ sc.ports ∧ sc.snaps ∧ sc.sec ∧ sc.groups ∧ sc.evc ∧ sc.pmc ∧ sc.pwr ∧ sc.out) : rest sc (turnOff a0 s) = rest sc s := by
  simp [turnOff, hsc]

@[simp] theorem rest_startDisable {sc : Scope} (a0 : Nat) (s : State) (hsc : sc.carriers ∧ sc.q ∧ sc.evc ∧ sc.pmc ∧ sc.out) : rest sc (startDisable a0 s) = rest sc s := by
  simp [startDisable, hsc]

@[simp] theorem rest_startEnable {sc : Scope} (a0 : Nat) (s : State) (hsc : sc.clk ∧ sc.time ∧ sc.tio ∧ sc.carriers ∧ sc.trib ∧ sc.cls ∧ sc.q ∧ sc.ports ∧ sc.snaps ∧ sc.sec ∧ sc.groups ∧ sc.evc ∧ sc.pwr ∧ sc.out) : rest sc (startEnable a0 s) = rest sc s := by
  simp [startEnable, hsc]

@[simp] theorem rest_dropWindow {sc : Scope} (a0 : Nat) (s : State) (hsc : sc.reg) : rest sc (dropWindow a0 s) = rest sc s := by
  simp only [dropWindow]
  split <;> simp [hsc]

@[simp] theorem rest_putCarrierConfig {sc : Scope} (a0 : Nat) (a1 : CarrierParams) (s : State) (hsc : sc.clk ∧ sc.time ∧ sc.tio ∧ sc.carriers ∧ sc.reg ∧ sc.trib ∧ sc.cls ∧ sc.q ∧ sc.ports ∧ sc.snaps ∧ sc.sec ∧ sc.groups ∧ sc.evc ∧ sc.pwr ∧ sc.out) : rest sc (putCarrierConfig a0 a1 s) = rest sc s := by
  simp only [putCarrierConfig]
  repeat' split
  all_goals simp [hsc]

@[simp] theorem rest_commitCarrierConfig {sc : Scope} (a0 : Nat) (a1 : Instant) (a2 : CarrierParams) (s : State) (hsc : sc.clk ∧ sc.time ∧ sc.tio ∧ sc.carriers ∧ sc.reg ∧ sc.trib ∧ sc.cls ∧ sc.q ∧ sc.ports ∧ sc.snaps ∧ sc.sec ∧ sc.groups ∧ sc.evc ∧ sc.pmc ∧ sc.pwr ∧ sc.out) : rest sc (commitCarrierConfig a0 a1 a2 s) = rest sc s := by
  simp [commitCarrierConfig, hsc]

@[simp] theorem rest_putCarrierGate {sc : Scope} (a0 : Nat) (a1 : Instant) (a2 : GateParams) (s : State) (hsc : sc.carriers) : rest sc (putCarrierGate a0 a1 a2 s) = rest sc s := by
  simp [putCarrierGate, hsc]

@[simp] theorem rest_dropBegunIn {sc : Scope} (a0 : Nat) (s : State) (hsc : sc.clk ∧ sc.q ∧ sc.evc ∧ sc.pmc ∧ sc.out) : rest sc (dropBegunIn a0 s) = rest sc s := by
  simp only [dropBegunIn]
  split <;> simp [hsc]

@[simp] theorem rest_exitCarrier {sc : Scope} (a0 : Nat) (s : State) (hsc : sc.carriers ∧ sc.q ∧ sc.evc ∧ sc.pmc ∧ sc.out) : rest sc (exitCarrier a0 s) = rest sc s := by
  simp [exitCarrier, hsc]

@[simp] theorem rest_exitOperating {sc : Scope} (s : State) (hsc : sc.clk ∧ sc.carriers ∧ sc.q ∧ sc.evc ∧ sc.pmc ∧ sc.out) : rest sc (exitOperating s) = rest sc s := by
  simp [exitOperating, hsc]

@[simp] theorem rest_endSession {sc : Scope} (s : State) (hsc : sc.carriers ∧ sc.reg) : rest sc (endSession s) = rest sc s := by
  simp [endSession, hsc]

@[simp] theorem rest_enterReg {sc : Scope} (a0 : RegState) (s : State) (hsc : sc.reg ∧ sc.evc ∧ sc.out) : rest sc (enterReg a0 s) = rest sc s := by
  simp only [enterReg]
  repeat' split
  all_goals simp [hsc]

@[simp] theorem rest_leaveTo {sc : Scope} (a0 : RegState) (s : State) (hsc : sc.clk ∧ sc.carriers ∧ sc.reg ∧ sc.q ∧ sc.evc ∧ sc.pmc ∧ sc.out) : rest sc (leaveTo a0 s) = rest sc s := by
  simp [leaveTo, hsc]

@[simp] theorem rest_enterDiscover {sc : Scope} (s : State) (hsc : sc.reg ∧ sc.evc ∧ sc.out) : rest sc (enterDiscover s) = rest sc s := by
  simp [enterDiscover, hsc]

@[simp] theorem rest_startHistory {sc : Scope} (a0 : Nat) (s : State) (hsc : sc.carriers) : rest sc (startHistory a0 s) = rest sc s := by
  simp [startHistory, hsc]

@[simp] theorem rest_beginSession {sc : Scope} (s : State) (hsc : sc.carriers ∧ sc.reg ∧ sc.evc ∧ sc.out) : rest sc (beginSession s) = rest sc s := by
  simp [beginSession, hsc]

@[simp] theorem rest_regTransition {sc : Scope} (s : State) (hsc : sc.clk ∧ sc.carriers ∧ sc.reg ∧ sc.q ∧ sc.evc ∧ sc.pmc ∧ sc.out) : rest sc (regTransition s) = rest sc s := by
  simp only [regTransition]
  repeat' split
  all_goals simp [hsc]

@[simp] theorem rest_clearConditions {sc : Scope} (s : State) (hsc : sc.reg) : rest sc (clearConditions s) = rest sc s := by
  simp [clearConditions, hsc]

@[simp] theorem rest_sfFailed {sc : Scope} (a0 : Nat) (s : State) (hsc : sc.reg) : rest sc (sfFailed a0 s) = rest sc s := by
  simp [sfFailed, hsc]

@[simp] theorem rest_refuseHead {sc : Scope} (a0 : Ident) (a1 : BitVec 32) (s : State) (hsc : sc.reg ∧ sc.evc ∧ sc.out) : rest sc (refuseHead a0 a1 s) = rest sc s := by
  simp only [refuseHead]
  split <;> simp [hsc]

@[simp] theorem rest_raiseEpoch {sc : Scope} (a0 : Ident) (a1 : BitVec 32) (s : State) (hsc : sc.reg ∧ sc.evc ∧ sc.out) : rest sc (raiseEpoch a0 a1 s) = rest sc s := by
  simp [raiseEpoch, hsc]

@[simp] theorem rest_announce {sc : Scope} (a0 : Nat) (a1 : SfAcc) (s : State) (hsc : sc.clk ∧ sc.time ∧ sc.tio ∧ sc.trib ∧ sc.cls ∧ sc.q ∧ sc.ports ∧ sc.snaps ∧ sc.sec ∧ sc.groups ∧ sc.evc ∧ sc.pwr ∧ sc.out) : rest sc (announce a0 a1 s) = rest sc s := by
  simp only [announce]
  repeat' split
  all_goals simp [hsc]

@[simp] theorem rest_rangeInvalid {sc : Scope} (s : State) (hsc : sc.reg ∧ sc.evc ∧ sc.out) : rest sc (rangeInvalid s) = rest sc s := by
  simp [rangeInvalid, hsc]

@[simp] theorem rest_setRanged {sc : Scope} (a0 : Nat) (a1 : Nat) (s : State) (hsc : sc.clk ∧ sc.time ∧ sc.tio ∧ sc.carriers ∧ sc.trib ∧ sc.cls ∧ sc.q ∧ sc.ports ∧ sc.snaps ∧ sc.sec ∧ sc.groups ∧ sc.evc ∧ sc.pwr ∧ sc.out) : rest sc (setRanged a0 a1 s) = rest sc s := by
  simp only [setRanged]
  split <;> simp [hsc]

@[simp] theorem rest_updateEqd {sc : Scope} (a0 : Nat) (a1 : Nat) (a2 : Instant) (s : State) (hsc : sc.carriers ∧ sc.out) : rest sc (updateEqd a0 a1 a2 s) = rest sc s := by
  simp [updateEqd, hsc]

@[simp] theorem rest_rollKey {sc : Scope} (s : State) (hsc : sc.carriers ∧ sc.reg) : rest sc (rollKey s) = rest sc s := by
  simp only [rollKey]
  split <;> simp [hsc]

@[simp] theorem rest_noteKey {sc : Scope} (s : State) (hsc : sc.reg ∧ sc.evc ∧ sc.out) : rest sc (noteKey s) = rest sc s := by
  simp [noteKey, hsc]

@[simp] theorem rest_closeShort {sc : Scope} (a0 : Nat) (a1 : List Byte) (s : State) (hsc : sc.carriers) : rest sc (closeShort a0 a1 s) = rest sc s := by
  simp [closeShort, hsc]

@[simp] theorem rest_closeSf {sc : Scope} (a0 : Nat) (s : State) (hsc : sc.carriers) : rest sc (closeSf a0 s) = rest sc s := by
  simp [closeSf, hsc]

@[simp] theorem rest_swapPages {sc : Scope} (a0 : Instant) (a1 : Nat) (s : State) (hsc : sc.trib ∧ sc.evc ∧ sc.out) : rest sc (swapPages a0 a1 s) = rest sc s := by
  simp [swapPages, hsc]

@[simp] theorem rest_putTribPage {sc : Scope} (a0 : Nat) (a1 : List TribEntry) (s : State) (hsc : sc.trib) : rest sc (putTribPage a0 a1 s) = rest sc s := by
  simp [putTribPage, hsc]

@[simp] theorem rest_unknownAssoc {sc : Scope} (a0 : Nat) (s : State) (hsc : sc.carriers ∧ sc.evc ∧ sc.out) : rest sc (unknownAssoc a0 s) = rest sc s := by
  simp [unknownAssoc, hsc]

@[simp] theorem rest_countUncorr {sc : Scope} (a0 : Nat) (a1 : DownFrame) (s : State) (hsc : sc.clk ∧ sc.carriers ∧ sc.evc ∧ sc.out) : rest sc (countUncorr a0 a1 s) = rest sc s := by
  simp [countUncorr, hsc]

@[simp] theorem rest_newShaper {sc : Scope} (a0 : Option ShaperParams) (s : State) (hsc : sc.clk) : rest sc (newShaper a0 s).2 = rest sc s := by
  simp only [newShaper]
  split <;> simp [hsc]

@[simp] theorem rest_placeItem {sc : Scope} (a0 : WheelKind) (a1 : Instant) (s : State) (hsc : sc.q) : rest sc (placeItem a0 a1 s) = rest sc s := by
  simp only [placeItem]
  split <;> simp [hsc]

@[simp] theorem rest_unplace {sc : Scope} (a0 : WheelKind) (s : State) (hsc : sc.q) : rest sc (unplace a0 s) = rest sc s := by
  simp [unplace, hsc]

@[simp] theorem rest_modQueue {sc : Scope} (a0 : Nat) (a1 : Queue → Queue) (s : State) (hsc : sc.q) : rest sc (modQueue a0 a1 s) = rest sc s := by
  simp only [modQueue]
  split <;> simp [hsc]

@[simp] theorem rest_takeCellsIn {sc : Scope} (a0 : Nat) (s : State) (hsc : sc.q ∧ sc.evc ∧ sc.out) : rest sc (takeCellsIn a0 s) = rest sc s := by
  simp [takeCellsIn, hsc]

@[simp] theorem rest_markDiscarding {sc : Scope} (a0 : Nat) (s : State) (hsc : sc.carriers) : rest sc (markDiscarding a0 s) = rest sc s := by
  simp [markDiscarding, hsc]

@[simp] theorem rest_ageList {sc : Scope} (a0 : Nat) (a1 : Nat) (s : State) (hsc : sc.clk ∧ sc.carriers ∧ sc.q ∧ sc.evc ∧ sc.pmc ∧ sc.out) : rest sc (ageList a0 a1 s) = rest sc s := by
  simp only [ageList]
  split <;> simp [hsc]

@[simp] theorem rest_ageCarrier {sc : Scope} (a0 : Nat) (s : State) (hsc : sc.clk ∧ sc.carriers ∧ sc.q ∧ sc.evc ∧ sc.pmc ∧ sc.out) : rest sc (ageCarrier a0 s) = rest sc s := by
  simp [ageCarrier, hsc]

@[simp] theorem rest_ageAll {sc : Scope} (s : State) (hsc : sc.clk ∧ sc.carriers ∧ sc.q ∧ sc.evc ∧ sc.pmc ∧ sc.out) : rest sc (ageAll s) = rest sc s := by
  simp [ageAll, hsc]

@[simp] theorem rest_countArrival {sc : Scope} (a0 : Nat) (a1 : Nat) (a2 : Nat) (s : State) (hsc : sc.carriers) : rest sc (countArrival a0 a1 a2 s) = rest sc s := by
  simp [countArrival, hsc]

@[simp] theorem rest_putQueueSet {sc : Scope} (a0 : Nat) (a1 : QueueParams) (s : State) (hsc : sc.q) : rest sc (putQueueSet a0 a1 s) = rest sc s := by
  simp [putQueueSet, hsc]

@[simp] theorem rest_putSchedNode {sc : Scope} (a0 : Nat) (a1 : Option Nat) (a2 : Nat) (a3 : Option ShaperParams) (a4 : Bool) (s : State) (hsc : sc.clk ∧ sc.q) : rest sc (putSchedNode a0 a1 a2 a3 a4 s) = rest sc s := by
  simp only [putSchedNode]
  split <;> simp [hsc]

@[simp] theorem rest_putEgress {sc : Scope} (a0 : Nat) (a1 : List EgressQ) (a2 : Option ShaperParams) (s : State) (hsc : sc.clk ∧ sc.q ∧ sc.ports) : rest sc (putEgress a0 a1 a2 s) = rest sc s := by
  simp [putEgress, hsc]

@[simp] theorem rest_putPolicer {sc : Scope} (a0 : Nat) (a1 : PolicerParams) (a2 : Bool) (s : State) (hsc : sc.q) : rest sc (putPolicer a0 a1 a2 s) = rest sc s := by
  simp [putPolicer, hsc]

@[simp] theorem rest_putGateList {sc : Scope} (p : Nat) (g : GateList) (c : Instant) (s : State) (hsc : sc.q ∧ sc.ports) : rest sc (putGateList p g c s) = rest sc s := by
  simp [putGateList, hsc]

@[simp] theorem rest_updateForecast {sc : Scope} (a0 : Instant) (a1 : Nat) (s : State) (hsc : sc.carriers ∧ sc.evc ∧ sc.out) : rest sc (updateForecast a0 a1 s) = rest sc s := by
  simp [updateForecast, hsc]

@[simp] theorem rest_meetFences {sc : Scope} (a0 : Nat) (a1 : Instant) (s : State) (hsc : sc.trib) : rest sc (meetFences a0 a1 s) = rest sc s := by
  simp [meetFences, hsc]

@[simp] theorem rest_creditNodes {sc : Scope} (a0 : Instant) (s : State) (hsc : sc.q) : rest sc (creditNodes a0 s) = rest sc s := by
  simp [creditNodes, hsc]

@[simp] theorem rest_serveNode {sc : Scope} (k : WheelKind) (get : State → Node) (put : Node → State → State) (s : State)
    (hk : ∀ n s, rest sc (put n s) = rest sc s) (hsc : sc.q) : rest sc (serveNode k get put s) = rest sc s := by
  simp only [serveNode]
  repeat' split
  all_goals simp [hsc, hk]

@[simp] theorem rest_drawCell {sc : Scope} (a0 : Nat) (a1 : Nat) (s : State) (hsc : sc.clk ∧ sc.q ∧ sc.evc ∧ sc.pmc ∧ sc.out) : rest sc (drawCell a0 a1 s).2 = rest sc s := by
  simp only [drawCell]
  repeat' split
  all_goals simp [hsc]

theorem rest_pickLeaf {sc : Scope} (n a c : Nat) (l : List Cand) (s : State) (k : Nat) (u : State)
    (h : pickLeaf n a c l s = some (k, u)) (hsc : sc.q) : rest sc u = rest sc s := by
  simp only [pickLeaf] at h
  split at h
  · cases h
    rfl
  · obtain ⟨r, -, h⟩ := Option.map_eq_some_iff.mp h
    cases h
    exact rest_modQ _ _ hsc

theorem rest_pickQueue {sc : Scope} (n : Nat) (t : Instant) (s : State) (k : Nat) (u : State)
    (h : pickQueue n t s = some (k, u)) (hsc : sc.q) : rest sc u = rest sc s := by
  simp only [pickQueue] at h
  split at h
  all_goals
    obtain ⟨r, -, h⟩ := Option.bind_eq_some_iff.mp h
    rw [rest_pickLeaf _ _ _ _ _ _ _ h hsc, rest_modQ _ _ hsc]

@[simp] theorem rest_drawCells {sc : Scope} (n : Nat) (t : Instant) (f : Nat) (s : State) (hsc : sc.clk ∧ sc.q ∧ sc.evc ∧ sc.pmc ∧ sc.out) : rest sc (drawCells n t f s).2 = rest sc s := by
  induction f generalizing s with
  | zero => rfl
  | succ f ih =>
    simp only [drawCells]
    split
    · rfl
    · next k u h =>
      have hu : rest sc u = rest sc s := rest_pickQueue n t s k u h (by simp [hsc])
      simp [ih, hu, hsc]

@[simp] theorem rest_mchCells {sc : Scope} (a0 : Nat) (a1 : Nat) (s : State) (hsc : sc.mch) : rest sc (mchCells a0 a1 s).2 = rest sc s := by
  simp only [mchCells]
  rw [rest_foldl2]
  intro a ch
  repeat' split
  all_goals simp [hsc]

@[simp] theorem rest_drawLimit {sc : Scope} (a0 : Nat) (s : State) (hsc : sc.clk) : rest sc (drawLimit a0 s).2 = rest sc s := by
  simp [drawLimit, hsc]

@[simp] theorem rest_yieldTo {sc : Scope} (a0 : Nat) (a1 : Grant) (s : State) (hsc : sc.carriers ∧ sc.q ∧ sc.evc ∧ sc.pmc ∧ sc.out) : rest sc (yieldTo a0 a1 s) = rest sc s := by
  simp only [yieldTo]
  split <;> simp [hsc]

@[simp] theorem rest_assemble {sc : Scope} (a0 : Nat) (a1 : Grant) (a2 : Bool) (s : State) (hsc : sc.clk ∧ sc.carriers ∧ sc.mch ∧ sc.trib ∧ sc.q ∧ sc.evc ∧ sc.pmc ∧ sc.out) : rest sc (assemble a0 a1 a2 s).2 = rest sc s := by
  simp [assemble, hsc]

@[simp] theorem rest_spend {sc : Scope} (a0 : Nat) (a1 : Grant) (s : State) (hsc : sc.carriers) : rest sc (spend a0 a1 s) = rest sc s := by
  simp [spend, hsc]

@[simp] theorem rest_leaveDark {sc : Scope} (a0 : Nat) (a1 : Grant) (s : State) (hsc : sc.carriers ∧ sc.out) : rest sc (leaveDark a0 a1 s) = rest sc s := by
  simp [leaveDark, hsc]

@[simp] theorem rest_forgo {sc : Scope} (a0 : Nat) (a1 : Grant) (s : State) (hsc : sc.carriers ∧ sc.q ∧ sc.evc ∧ sc.pmc ∧ sc.out) : rest sc (forgo a0 a1 s) = rest sc s := by
  simp [forgo, hsc]

@[simp] theorem rest_beginBurst {sc : Scope} (a0 : Nat) (a1 : Grant) (a2 : List Byte) (s : State) (hsc : sc.carriers ∧ sc.die) : rest sc (beginBurst a0 a1 a2 s) = rest sc s := by
  simp [beginBurst, hsc]

@[simp] theorem rest_emitBurst {sc : Scope} (a0 : Nat) (a1 : Grant) (s : State) (hsc : sc.clk ∧ sc.carriers ∧ sc.mch ∧ sc.trib ∧ sc.cls ∧ sc.q ∧ sc.die ∧ sc.ports ∧ sc.evc ∧ sc.pmc ∧ sc.out) : rest sc (emitBurst a0 a1 s) = rest sc s := by
  simp only [emitBurst]
  split <;> simp [hsc]

@[simp] theorem rest_dropPkt {sc : Scope} (a0 : Pkt) (s : State) (hsc : sc.clk ∧ sc.evc ∧ sc.pmc ∧ sc.out) : rest sc (dropPkt a0 s) = rest sc s := by
  simp [dropPkt, hsc]

@[simp] theorem rest_dropEg {sc : Scope} (a0 : EgFrame) (s : State) (hsc : sc.clk ∧ sc.evc ∧ sc.pmc ∧ sc.out) : rest sc (dropEg a0 s) = rest sc s := by
  simp [dropEg, hsc]

@[simp] theorem rest_headCheck {sc : Scope} (p q f : Nat) (s : State) (hsc : sc.clk ∧ sc.ports ∧ sc.evc ∧ sc.pmc ∧ sc.out) : rest sc (headCheck p q f s) = rest sc s := by
  induction f generalizing s with
  | zero => rfl
  | succ f ih =>
    simp only [headCheck]
    repeat' split
    all_goals simp [hsc, ih]

@[simp] theorem rest_headChecks {sc : Scope} (a0 : Nat) (s : State) (hsc : sc.clk ∧ sc.ports ∧ sc.evc ∧ sc.pmc ∧ sc.out) : rest sc (headChecks a0 s) = rest sc s := by
  simp [headChecks, hsc]

@[simp] theorem rest_leaveLpi {sc : Scope} (a0 : Nat) (s : State) (hsc : sc.ports) : rest sc (leaveLpi a0 s) = rest sc s := by
  simp only [leaveLpi]
  split <;> simp [hsc]

@[simp] theorem rest_leaveRxLpi {sc : Scope} (a0 : Nat) (s : State) (hsc : sc.ports) : rest sc (leaveRxLpi a0 s) = rest sc s := by
  simp only [leaveRxLpi]
  split <;> simp [hsc]

@[simp] theorem rest_discardQueued {sc : Scope} (a0 : Nat) (s : State) (hsc : sc.clk ∧ sc.ports ∧ sc.evc ∧ sc.pmc ∧ sc.out) : rest sc (discardQueued a0 s) = rest sc s := by
  simp [discardQueued, hsc]

@[simp] theorem rest_enterDown {sc : Scope} (a0 : Nat) (s : State) (hsc : sc.clk ∧ sc.ports ∧ sc.evc ∧ sc.pmc ∧ sc.out) : rest sc (enterDown a0 s) = rest sc s := by
  simp [enterDown, hsc]

@[simp] theorem rest_egressDrop {sc : Scope} (a0 : Nat) (a1 : EgFrame) (a2 : PortStats → PortStats) (s : State) (hsc : sc.clk ∧ sc.ports ∧ sc.evc ∧ sc.pmc ∧ sc.out) : rest sc (egressDrop a0 a1 a2 s) = rest sc s := by
  simp [egressDrop, hsc]

@[simp] theorem rest_egressAdmit {sc : Scope} (a0 : Nat) (a1 : Nat) (a2 : EgFrame) (s : State) (hsc : sc.clk ∧ sc.ports ∧ sc.evc ∧ sc.pmc ∧ sc.out) : rest sc (egressAdmit a0 a1 a2 s) = rest sc s := by
  simp [egressAdmit, hsc]

@[simp] theorem rest_tagAllows {sc : Scope} (a0 : Port) (a1 : EgFrame) (s : State) (hsc : sc.clk) : rest sc (tagAllows a0 a1 s).2 = rest sc s := by
  simp [tagAllows, hsc]

@[simp] theorem rest_eligibleQ {sc : Scope} (a0 : Nat) (a1 : Nat) (s : State) (hsc : sc.clk) : rest sc (eligibleQ a0 a1 s).2 = rest sc s := by
  simp only [eligibleQ]
  split <;> simp [hsc]

@[simp] theorem rest_eligibleQs {sc : Scope} (p : Nat) (s : State) (hsc : sc.clk) : rest sc (eligibleQs p s).2 = rest sc s := by
  simp [eligibleQs, hsc]

@[simp] theorem rest_creditPort {sc : Scope} (a0 : Nat) (s : State) (hsc : sc.ports) : rest sc (creditPort a0 s) = rest sc s := by
  simp [creditPort, hsc]

@[simp] theorem rest_serveShaper {sc : Scope} (a0 : WheelKind) (a1 : Nat) (a2 : Nat) (a3 : Nat) (s : State) (hsc : sc.q ∧ sc.ports) : rest sc (serveShaper a0 a1 a2 a3 s) = rest sc s := by
  simp only [serveShaper]
  split <;> simp [hsc]

@[simp] theorem rest_putStamp {sc : Scope} (a0 : Nat) (a1 : BitVec 16) (a2 : Instant) (s : State) (hsc : sc.clk ∧ sc.ports ∧ sc.evc ∧ sc.out) : rest sc (putStamp a0 a1 a2 s) = rest sc s := by
  simp [putStamp, hsc]

@[simp] theorem rest_startFrame {sc : Scope} (a0 : Nat) (a1 : Nat) (a2 : EgFrame) (a3 : List EgFrame) (s : State) (hsc : sc.clk ∧ sc.q ∧ sc.ports ∧ sc.evc ∧ sc.pmc ∧ sc.out) : rest sc (startFrame a0 a1 a2 a3 s) = rest sc s := by
  simp [startFrame, hsc]

@[simp] theorem rest_sendOwn {sc : Scope} (a0 : Nat) (a1 : Nat) (a2 : Instant → Output) (s : State) (hsc : sc.ports ∧ sc.out) : rest sc (sendOwn a0 a1 a2 s) = rest sc s := by
  simp [sendOwn, hsc]

@[simp] theorem rest_modHeld {sc : Scope} (a0 : Nat) (a1 : Assoc → Assoc) (s : State) (hsc : sc.sec) : rest sc (modHeld a0 a1 s) = rest sc s := by
  simp [modHeld, hsc]

@[simp] theorem rest_takePn {sc : Scope} (a0 : Nat) (s : State) (hsc : sc.sec ∧ sc.evc ∧ sc.out) : rest sc (takePn a0 s) = rest sc s := by
  simp [takePn, hsc]

@[simp] theorem rest_stage {sc : Scope} (a0 : Nat) (a1 : Colour) (a2 : QPkt) (s : State) (hsc : sc.q) : rest sc (stage a0 a1 a2 s) = rest sc s := by
  simp [stage, hsc]

@[simp] theorem rest_sealPkt {sc : Scope} (a0 : Nat) (a1 : Pkt) (s : State) (hsc : sc.clk ∧ sc.q ∧ sc.sec ∧ sc.evc ∧ sc.pmc ∧ sc.out) : rest sc (sealPkt a0 a1 s) = rest sc s := by
  simp only [sealPkt]
  split <;> simp [hsc]

@[simp] theorem rest_sendHandshake {sc : Scope} (a0 : Nat) (a1 : Nat) (a2 : Nat) (a3 : Nat) (s : State) (hsc : sc.clk ∧ sc.q ∧ sc.sec ∧ sc.evc ∧ sc.out) : rest sc (sendHandshake a0 a1 a2 a3 s) = rest sc s := by
  simp only [sendHandshake]
  repeat' split
  all_goals simp [hsc]

@[simp] theorem rest_unsealDiscard {sc : Scope} (a0 : Nat) (a1 : Nat) (s : State) (hsc : sc.clk ∧ sc.sec ∧ sc.evc ∧ sc.out) : rest sc (unsealDiscard a0 a1 s) = rest sc s := by
  simp [unsealDiscard, hsc]

@[simp] theorem rest_startUnseal {sc : Scope} (a0 : Sealed) (a1 : Key) (s : State) (hsc : sc.clk ∧ sc.cls ∧ sc.sec ∧ sc.evc ∧ sc.pmc ∧ sc.out) : rest sc (startUnseal a0 a1 s) = rest sc s := by
  simp [startUnseal, hsc]

@[simp] theorem rest_tagEverywhere {sc : Scope} (a0 : Nat) (a1 : Auth) (s : State) (hsc : sc.cls ∧ sc.ports ∧ sc.eng) : rest sc (tagEverywhere a0 a1 s) = rest sc s := by
  simp [tagEverywhere, hsc]

@[simp] theorem rest_sendDma {sc : Scope} (a0 : Nat) (a1 : Nat) (a2 : Pkt) (s : State) (hsc : sc.evc ∧ sc.pmc ∧ sc.out) : rest sc (sendDma a0 a1 a2 s) = rest sc s := by
  simp [sendDma, hsc]

@[simp] theorem rest_releaseDma {sc : Scope} (s : State) (hsc : sc.cls ∧ sc.evc ∧ sc.pmc ∧ sc.out) : rest sc (releaseDma s) = rest sc s := by
  simp [releaseDma, hsc]

@[simp] theorem rest_tagFailed {sc : Scope} (a0 : Unsealing) (s : State) (hsc : sc.clk ∧ sc.sec ∧ sc.evc ∧ sc.out) : rest sc (tagFailed a0 s) = rest sc s := by
  simp [tagFailed, hsc]

@[simp] theorem rest_sendPause {sc : Scope} (a0 : Nat) (a1 : Nat) (a2 : BitVec 16) (s : State) (hsc : sc.ports ∧ sc.out) : rest sc (sendPause a0 a1 a2 s) = rest sc s := by
  simp [sendPause, hsc]

@[simp] theorem rest_checkAccount {sc : Scope} (a0 : Nat) (a1 : Nat) (s : State) (hsc : sc.ports ∧ sc.out) : rest sc (checkAccount a0 a1 s) = rest sc s := by
  simp only [checkAccount]
  split <;> simp [hsc]

@[simp] theorem rest_fifoChanged {sc : Scope} (a0 : Nat) (s : State) (hsc : sc.ports ∧ sc.out) : rest sc (fifoChanged a0 s) = rest sc s := by
  simp [fifoChanged, hsc]

@[simp] theorem rest_modTables {sc : Scope} (a0 : Bool × Bool) (a1 : GenTables → GenTables) (s : State) (hsc : sc.cls) : rest sc (modTables a0 a1 s) = rest sc s := by
  simp [modTables, hsc]

@[simp] theorem rest_noteFlows {sc : Scope} (s : State) (hsc : sc.cls ∧ sc.evc ∧ sc.out) : rest sc (noteFlows s) = rest sc s := by
  simp [noteFlows, hsc]

@[simp] theorem rest_putFlow {sc : Scope} (a0 : Bool × Bool) (a1 : EntryWord) (a2 : List Byte) (s : State) (hsc : sc.cls ∧ sc.evc ∧ sc.out) : rest sc (putFlow a0 a1 a2 s) = rest sc s := by
  simp [putFlow, hsc]

@[simp] theorem rest_dropFlow {sc : Scope} (a0 : Bool × Bool) (a1 : Nat) (a2 : List Byte) (s : State) (hsc : sc.cls ∧ sc.evc ∧ sc.out) : rest sc (dropFlow a0 a1 a2 s) = rest sc s := by
  simp [dropFlow, hsc]

@[simp] theorem rest_putTern {sc : Scope} (a0 : Bool × Bool) (a1 : Nat) (a2 : EntryWord) (a3 : List Byte) (a4 : List Byte) (s : State) (hsc : sc.cls) : rest sc (putTern a0 a1 a2 a3 a4 s) = rest sc s := by
  simp [putTern, hsc]

@[simp] theorem rest_dropTern {sc : Scope} (a0 : Bool × Bool) (a1 : Nat) (s : State) (hsc : sc.cls) : rest sc (dropTern a0 a1 s) = rest sc s := by
  simp [dropTern, hsc]

@[simp] theorem rest_putActions {sc : Scope} (a0 : Bool × Bool) (a1 : Nat) (a2 : List Action) (s : State) (hsc : sc.cls) : rest sc (putActions a0 a1 a2 s) = rest sc s := by
  simp [putActions, hsc]

@[simp] theorem rest_putNode {sc : Scope} (a0 : Bool × Bool) (a1 : Nat) (a2 : Option UserNode) (s : State) (hsc : sc.cls) : rest sc (putNode a0 a1 a2 s) = rest sc s := by
  simp [putNode, hsc]

@[simp] theorem rest_putProfile {sc : Scope} (a0 : Bool × Bool) (a1 : Nat) (a2 : List Selection) (a3 : List Selection) (s : State) (hsc : sc.cls) : rest sc (putProfile a0 a1 a2 a3 s) = rest sc s := by
  simp [putProfile, hsc]

@[simp] theorem rest_putDefault {sc : Scope} (a0 : Bool × Bool) (a1 : Nat) (a2 : Nat) (a3 : Nat) (s : State) (hsc : sc.cls) : rest sc (putDefault a0 a1 a2 a3 s) = rest sc s := by
  simp [putDefault, hsc]

@[simp] theorem rest_openGeneration {sc : Scope} (s : State) (hsc : sc.cls) : rest sc (openGeneration s) = rest sc s := by
  simp [openGeneration, hsc]

@[simp] theorem rest_putClassification {sc : Scope} (a0 : Bool × Bool) (a1 : Cmd) (s : State) (hsc : sc.cls ∧ sc.evc ∧ sc.out) : rest sc (putClassification a0 a1 s) = rest sc s := by
  simp only [putClassification]
  split <;> simp [hsc]

@[simp] theorem rest_beginWriteIn {sc : Scope} (a0 : WriteIn) (s : State) (hsc : sc.cls ∧ sc.evc ∧ sc.out) : rest sc (beginWriteIn a0 s) = rest sc s := by
  simp [beginWriteIn, hsc]

@[simp] theorem rest_switchGeneration {sc : Scope} (s : State) (hsc : sc.cls ∧ sc.evc ∧ sc.out) : rest sc (switchGeneration s) = rest sc s := by
  simp [switchGeneration, hsc]

@[simp] theorem rest_settle {sc : Scope} (a0 : Act) (s : State) (hsc : sc.cls) : rest sc (settle a0 s) = rest sc s := by
  simp [settle, hsc]

@[simp] theorem rest_dropAct {sc : Scope} (a0 : Act) (a1 : Classifier → Classifier) (s : State) (hsc : sc.clk ∧ sc.cls ∧ sc.evc ∧ sc.pmc ∧ sc.out) : rest sc (dropAct a0 a1 s) = rest sc s := by
  simp [dropAct, hsc]

@[simp] theorem rest_authDrop {sc : Scope} (a0 : Pkt) (s : State) (hsc : sc.clk ∧ sc.cls ∧ sc.evc ∧ sc.pmc ∧ sc.out) : rest sc (authDrop a0 s) = rest sc s := by
  simp [authDrop, hsc]

@[simp] theorem rest_recirculate {sc : Scope} (a0 : Nat) (a1 : Pkt) (s : State) (hsc : sc.clk ∧ sc.cls ∧ sc.evc ∧ sc.pmc ∧ sc.out) : rest sc (recirculate a0 a1 s) = rest sc s := by
  simp [recirculate, hsc]

@[simp] theorem rest_terminal {sc : Scope} (a0 : Action) (a1 : Act) (s : State) (hsc : sc.clk ∧ sc.cls ∧ sc.ports ∧ sc.evc ∧ sc.pmc ∧ sc.out) : rest sc (terminal a0 a1 s) = rest sc s := by
  simp only [terminal]
  repeat' split
  all_goals simp [hsc]

@[simp] theorem rest_mirrorCopy {sc : Scope} (a0 : Nat) (a1 : Pkt) (s : State) (hsc : sc.clk ∧ sc.cls ∧ sc.ports ∧ sc.evc ∧ sc.pmc ∧ sc.out) : rest sc (mirrorCopy a0 a1 s) = rest sc s := by
  simp [mirrorCopy, hsc]

@[simp] theorem rest_police {sc : Scope} (a0 : Nat) (a1 : Meta) (s : State) (hsc : sc.q) : rest sc (police a0 a1 s).2 = rest sc s := by
  simp only [police]
  split <;> simp [hsc]

@[simp] theorem rest_countPkt {sc : Scope} (a0 : Nat) (a1 : Meta) (s : State) (hsc : sc.cls) : rest sc (countPkt a0 a1 s) = rest sc s := by
  simp [countPkt, hsc]

@[simp] theorem rest_dispatch {sc : Scope} (a0 : Nat) (a1 : List Action) (a2 : Act) (s : State) (hsc : sc.clk ∧ sc.cls ∧ sc.eng ∧ sc.evc ∧ sc.pmc ∧ sc.out) : rest sc (dispatch a0 a1 a2 s) = rest sc s := by
  simp only [dispatch]
  repeat' split
  all_goals simp [hsc]

theorem rest_of_residueFails {sc : Scope} {s t : State} (hsc : sc.cls) (h : residueFails s = some t) : rest sc t = rest sc s := by
  simp only [residueFails] at h
  split at h
  · cases h
    simp [hsc]
  · cases h

@[simp] theorem rest_runOne {sc : Scope} (a0 : Action) (a1 : List Action) (a2 : Act) (s : State) (hsc : sc.clk ∧ sc.cls ∧ sc.q ∧ sc.ports ∧ sc.eng ∧ sc.evc ∧ sc.pmc ∧ sc.out) : rest sc (runOne a0 a1 a2 s).2 = rest sc s := by
  simp only [runOne]
  repeat' split
  all_goals simp [hsc]
  all_goals exact rest_of_residueFails (by simp [hsc]) ‹_›

@[simp] theorem rest_runList {sc : Scope} (l : List Action) (a : Act) (s : State) (hsc : sc.clk ∧ sc.cls ∧ sc.q ∧ sc.ports ∧ sc.eng ∧ sc.evc ∧ sc.pmc ∧ sc.out) : rest sc (runList l a s) = rest sc s := by
  induction l generalizing a s with
  | nil => simp [runList, hsc]
  | cons x l ih =>
    have h := rest_runOne x l a s hsc
    simp only [runList]
    split
    · next e => rw [ih, ← h, e]
    · next e => rw [← h, e]

@[simp] theorem rest_integrityDrop {sc : Scope} (a0 : Pkt) (s : State) (hsc : sc.clk ∧ sc.cls ∧ sc.evc ∧ sc.pmc ∧ sc.out) : rest sc (integrityDrop a0 s) = rest sc s := by
  simp [integrityDrop, hsc]

@[simp] theorem rest_runFound {sc : Scope} (a0 : Found) (a1 : Pkt) (s : State) (hsc : sc.clk ∧ sc.cls ∧ sc.q ∧ sc.ports ∧ sc.eng ∧ sc.evc ∧ sc.pmc ∧ sc.out) : rest sc (runFound a0 a1 s) = rest sc s := by
  simp only [runFound]
  repeat' split
  all_goals simp [hsc]

@[simp] theorem rest_hitFlow {sc : Scope} (a0 : FlowEntry) (s : State) (hsc : sc.cls) : rest sc (hitFlow a0 s) = rest sc s := by
  simp [hitFlow, hsc]

@[simp] theorem rest_hitTern {sc : Scope} (a0 : TernEntry) (s : State) (hsc : sc.cls) : rest sc (hitTern a0 s) = rest sc s := by
  simp [hitTern, hsc]

@[simp] theorem rest_lookup {sc : Scope} (a0 : Pkt) (s : State) (hsc : sc.clk ∧ sc.cls ∧ sc.evc ∧ sc.pmc ∧ sc.out) : rest sc (lookup a0 s).2 = rest sc s := by
  simp only [lookup]
  split <;> simp [hsc]

@[simp] theorem rest_setMisses {sc : Scope} (a0 : Bool) (a1 : List Miss) (s : State) (hsc : sc.cls) : rest sc (setMisses a0 a1 s) = rest sc s := by
  simp [setMisses, hsc]

@[simp] theorem rest_runPass {sc : Scope} (a0 : Bool) (a1 : Pkt) (s : State) (hsc : sc.clk ∧ sc.cls ∧ sc.q ∧ sc.ports ∧ sc.eng ∧ sc.evc ∧ sc.pmc ∧ sc.out) : rest sc (runPass a0 a1 s) = rest sc s := by
  simp [runPass, hsc]

@[simp] theorem rest_firstPass {sc : Scope} (a0 : Bool) (a1 : Pkt) (s : State) (hsc : sc.clk ∧ sc.cls ∧ sc.q ∧ sc.ports ∧ sc.eng ∧ sc.evc ∧ sc.pmc ∧ sc.out) : rest sc (firstPass a0 a1 s) = rest sc s := by
  simp [firstPass, hsc]

@[simp] theorem rest_modEng {sc : Scope} (a0 : Engines → Engines) (s : State) (hsc : sc.eng) : rest sc (modEng a0 s) = rest sc s := by
  simp [modEng, hsc]

@[simp] theorem rest_setCtx {sc : Scope} (a0 : Nat) (a1 : Option Run) (s : State) (hsc : sc.eng) : rest sc (setCtx a0 a1 s) = rest sc s := by
  simp [setCtx, hsc]

@[simp] theorem rest_putRecord {sc : Scope} (a0 : Bool) (a1 : ExRecord) (s : State) (hsc : sc.eng ∧ sc.evc ∧ sc.out) : rest sc (putRecord a0 a1 s) = rest sc s := by
  simp [putRecord, hsc]

@[simp] theorem rest_countException {sc : Scope} (a0 : Nat) (s : State) (hsc : sc.eng ∧ sc.evc ∧ sc.out) : rest sc (countException a0 s) = rest sc s := by
  simp only [countException]
  split <;> simp [hsc]

@[simp] theorem rest_runException {sc : Scope} (a0 : Nat) (a1 : Nat) (a2 : Nat) (a3 : Nat) (a4 : Run) (s : State) (hsc : sc.clk ∧ sc.eng ∧ sc.evc ∧ sc.pmc ∧ sc.out) : rest sc (runException a0 a1 a2 a3 a4 s) = rest sc s := by
  simp [runException, hsc]

@[simp] theorem rest_setSamp {sc : Scope} (a0 : Bool) (a1 : Sampling) (s : State) (hsc : sc.pmc) : rest sc (setSamp a0 a1 s) = rest sc s := by
  simp [setSamp, hsc]

@[simp] theorem rest_putSample {sc : Scope} (a0 : Bool) (a1 : SampleRec) (s : State) (hsc : sc.evc ∧ sc.pmc ∧ sc.out) : rest sc (putSample a0 a1 s) = rest sc s := by
  simp [putSample, hsc]

@[simp] theorem rest_drawPeriod {sc : Scope} (a0 : SampleParams) (s : State) (hsc : sc.clk) : rest sc (drawPeriod a0 s).2 = rest sc s := by
  simp [drawPeriod, hsc]

@[simp] theorem rest_sampleStretch {sc : Scope} (k : Nat) (r : Run) (n pc : Nat) (e w : Bool) (f d : Nat) (s : State) (hsc : sc.clk ∧ sc.evc ∧ sc.pmc ∧ sc.out) : rest sc (sampleStretch k r n pc e w f d s) = rest sc s := by
  induction f generalizing d s with
  | zero => rfl
  | succ f ih =>
    simp only [sampleStretch]
    repeat' split
    all_goals simp [hsc, ih]

@[simp] theorem rest_retire {sc : Scope} (a0 : Nat) (a1 : Nat) (a2 : Nat) (a3 : Run) (a4 : Bool) (a5 : Bool) (s : State) (hsc : sc.clk ∧ sc.evc ∧ sc.pmc ∧ sc.out) : rest sc (retire a0 a1 a2 a3 a4 a5 s) = rest sc s := by
  simp [retire, hsc]

@[simp] theorem rest_runEdit {sc : Scope} (a0 : Nat) (a1 : Run) (a2 : Edit) (s : State) (hsc : sc.cls ∧ sc.eng) : rest sc (runEdit a0 a1 a2 s) = rest sc s := by
  simp [runEdit, hsc]

@[simp] theorem rest_progLookup {sc : Scope} (a0 : Meta) (s : State) (hsc : sc.clk ∧ sc.evc ∧ sc.pmc ∧ sc.out) : rest sc (progLookup a0 s) = rest sc s := by
  simp [progLookup, hsc]

@[simp] theorem rest_runStep {sc : Scope} (a0 : Nat) (a1 : Nat) (a2 : Nat) (a3 : Run) (a4 : RunStep) (s : State) (hsc : sc.clk ∧ sc.cls ∧ sc.q ∧ sc.ports ∧ sc.eng ∧ sc.evc ∧ sc.pmc ∧ sc.out) : rest sc (runStep a0 a1 a2 a3 a4 s) = rest sc s := by
  simp only [runStep]
  repeat' split
  all_goals simp [hsc]
  all_goals exact rest_of_residueFails (by simp [hsc]) ‹_›

@[simp] theorem rest_applyPause {sc : Scope} (a0 : Nat) (a1 : List (Nat × Nat)) (s : State) (hsc : sc.ports) : rest sc (applyPause a0 a1 s) = rest sc s := by
  simp [applyPause, hsc]

@[simp] theorem rest_macControlFrame {sc : Scope} (a0 : Nat) (a1 : List Byte) (s : State) (hsc : sc.ports) : rest sc (macControlFrame a0 a1 s) = rest sc s := by
  simp [macControlFrame, hsc]

@[simp] theorem rest_lldpFrame {sc : Scope} (a0 : Nat) (a1 : List Byte) (s : State) (hsc : sc.ports ∧ sc.evc ∧ sc.out) : rest sc (lldpFrame a0 a1 s) = rest sc s := by
  simp only [lldpFrame]
  split <;> simp [hsc]

@[simp] theorem rest_ptpFrame {sc : Scope} (a0 : Nat) (a1 : List Byte) (a2 : Instant) (s : State) (hsc : sc.tio ∧ sc.ports ∧ sc.out) : rest sc (ptpFrame a0 a1 a2 s) = rest sc s := by
  simp [ptpFrame, hsc]

@[simp] theorem rest_storeFrame {sc : Scope} (a0 : Nat) (a1 : List Byte) (a2 : Instant) (s : State) (hsc : sc.clk ∧ sc.cls ∧ sc.ports ∧ sc.evc ∧ sc.out) : rest sc (storeFrame a0 a1 a2 s) = rest sc s := by
  simp [storeFrame, hsc]

@[simp] theorem rest_pushLog {sc : Scope} (a0 : IntegEntry) (s : State) (hsc : sc.evc ∧ sc.out) : rest sc (pushLog a0 s) = rest sc s := by
  simp only [pushLog]
  split <;> simp [hsc]

@[simp] theorem rest_dropLanePorts {sc : Scope} (a0 : Nat) (s : State) (hsc : sc.clk ∧ sc.ports ∧ sc.evc ∧ sc.pmc ∧ sc.out) : rest sc (dropLanePorts a0 s) = rest sc s := by
  simp [dropLanePorts, hsc]

@[simp] theorem rest_modDie {sc : Scope} (a0 : DieLink → DieLink) (s : State) (hsc : sc.die) : rest sc (modDie a0 s) = rest sc s := by
  simp [modDie, hsc]

@[simp] theorem rest_laneErrors {sc : Scope} (a0 : Bool) (a1 : Nat) (s : State) (hsc : sc.clk ∧ sc.die) : rest sc (laneErrors a0 a1 s) = rest sc s := by
  simp [laneErrors, hsc]

@[simp] theorem rest_answerRetrain {sc : Scope} (s : State) (hsc : sc.clk ∧ sc.die ∧ sc.ports ∧ sc.cmd ∧ sc.evc ∧ sc.out) : rest sc (answerRetrain s) = rest sc s := by
  simp [answerRetrain, hsc]

@[simp] theorem rest_splitDies {sc : Scope} (s : State) (hsc : sc.time ∧ sc.carriers ∧ sc.q ∧ sc.die ∧ sc.evc ∧ sc.pmc ∧ sc.out) : rest sc (splitDies s) = rest sc s := by
  simp [splitDies, hsc]

@[simp] theorem rest_startRetrain {sc : Scope} (s : State) (hsc : sc.clk ∧ sc.die ∧ sc.evc ∧ sc.out) : rest sc (startRetrain s) = rest sc s := by
  simp [startRetrain, hsc]

@[simp] theorem rest_addCount {sc : Scope} (a0 : Nat) (a1 : Nat) (s : State) (hsc : sc.evc) : rest sc (addCount a0 a1 s) = rest sc s := by
  simp [addCount, hsc]

@[simp] theorem rest_landHeld {sc : Scope} (a0 : Nat) (a1 : Nat) (s : State) (hsc : sc.evc ∧ sc.out) : rest sc (landHeld a0 a1 s) = rest sc s := by
  simp [landHeld, hsc]

@[simp] theorem rest_releaseHeld {sc : Scope} (s : State) (hsc : sc.evc ∧ sc.out) : rest sc (releaseHeld s) = rest sc s := by
  simp only [releaseHeld]
  split <;> simp [hsc]

@[simp] theorem rest_dropEarly {sc : Scope} (a0 : Nat) (s : State) (hsc : sc.carriers ∧ sc.out) : rest sc (dropEarly a0 s) = rest sc s := by
  simp [dropEarly, hsc]

@[simp] theorem rest_realign {sc : Scope} (s : State) (hsc : sc.time ∧ sc.trib ∧ sc.cls ∧ sc.q ∧ sc.ports ∧ sc.snaps ∧ sc.sec ∧ sc.groups ∧ sc.evc ∧ sc.pwr ∧ sc.out) : rest sc (realign s) = rest sc s := by
  simp [realign, hsc]

@[simp] theorem rest_modSec {sc : Scope} (a0 : Security → Security) (s : State) (hsc : sc.sec) : rest sc (modSec a0 s) = rest sc s := by
  simp [modSec, hsc]

@[simp] theorem rest_takeMsg {sc : Scope} (s : State) (hsc : sc.sec) : rest sc (takeMsg s) = rest sc s := by
  simp [takeMsg, hsc]

@[simp] theorem rest_sendMade {sc : Scope} (a0 : Nat) (a1 : Nat) (a2 : Nat) (a3 : Nat) (a4 : Nat) (s : State) (hsc : sc.clk ∧ sc.q ∧ sc.sec ∧ sc.evc ∧ sc.out) : rest sc (sendMade a0 a1 a2 a3 a4 s) = rest sc s := by
  simp [sendMade, hsc]

@[simp] theorem rest_armKey {sc : Scope} (a0 : Nat) (a1 : Agreement) (s : State) (hsc : sc.sec) : rest sc (armKey a0 a1 s) = rest sc s := by
  simp [armKey, hsc]

@[simp] theorem rest_drawKeys {sc : Scope} (a0 : Agreement) (s : State) (hsc : sc.clk) : rest sc (drawKeys a0 s).2 = rest sc s := by
  simp [drawKeys, hsc]

@[simp] theorem rest_startAgreement {sc : Scope} (a0 : Nat) (a1 : Nat) (a2 : Bool) (a3 : Hdr) (a4 : Nat) (a5 : Nat) (s : State) (hsc : sc.clk ∧ sc.q ∧ sc.sec ∧ sc.evc ∧ sc.out) : rest sc (startAgreement a0 a1 a2 a3 a4 a5 s) = rest sc s := by
  simp [startAgreement, hsc]

@[simp] theorem rest_answerAgreement {sc : Scope} (a0 : Agreement) (a1 : Ans) (s : State) (hsc : sc.clk ∧ sc.ports ∧ sc.cmd ∧ sc.evc ∧ sc.out) : rest sc (answerAgreement a0 a1 s) = rest sc s := by
  simp only [answerAgreement]
  split <;> simp [hsc]

@[simp] theorem rest_agreementFail {sc : Scope} (a0 : SecCause) (s : State) (hsc : sc.sec ∧ sc.evc ∧ sc.out) : rest sc (agreementFail a0 s) = rest sc s := by
  simp [agreementFail, hsc]

@[simp] theorem rest_assocDown {sc : Scope} (a0 : SecCause) (s : State) (hsc : sc.sec ∧ sc.evc ∧ sc.out) : rest sc (assocDown a0 s) = rest sc s := by
  simp [assocDown, hsc]

@[simp] theorem rest_failAgreement {sc : Scope} (a0 : Nat) (a1 : Status) (a2 : Bool) (s : State) (hsc : sc.clk ∧ sc.q ∧ sc.ports ∧ sc.sec ∧ sc.cmd ∧ sc.evc ∧ sc.out) : rest sc (failAgreement a0 a1 a2 s) = rest sc s := by
  simp only [failAgreement]
  split <;> simp [hsc]

@[simp] theorem rest_switchKey {sc : Scope} (a0 : Nat) (a1 : Key) (a2 : Nat) (s : State) (hsc : sc.sec ∧ sc.evc ∧ sc.out) : rest sc (switchKey a0 a1 a2 s) = rest sc s := by
  simp [switchKey, hsc]

@[simp] theorem rest_commitRekey {sc : Scope} (a0 : Nat) (s : State) (hsc : sc.sec ∧ sc.evc ∧ sc.out) : rest sc (commitRekey a0 s) = rest sc s := by
  simp only [commitRekey]
  split <;> simp [hsc]

@[simp] theorem rest_answerHello {sc : Scope} (a0 : Nat) (a1 : HelloMsg) (s : State) (hsc : sc.clk ∧ sc.q ∧ sc.sec ∧ sc.evc ∧ sc.out) : rest sc (answerHello a0 a1 s) = rest sc s := by
  simp [answerHello, hsc]

@[simp] theorem rest_failAgreements {sc : Scope} (a0 : Status) (s : State) (hsc : sc.clk ∧ sc.q ∧ sc.ports ∧ sc.sec ∧ sc.cmd ∧ sc.evc ∧ sc.out) : rest sc (failAgreements a0 s) = rest sc s := by
  simp [failAgreements, hsc]

@[simp] theorem rest_endJob {sc : Scope} (a0 : Job) (s : State) (hsc : sc.clk ∧ sc.out) : rest sc (endJob a0 s).2 = rest sc s := by
  simp [endJob, hsc]

@[simp] theorem rest_startJob {sc : Scope} (a0 : Job) (s : State) (hsc : sc.sec ∧ sc.evc ∧ sc.out) : rest sc (startJob a0 s).2 = rest sc s := by
  simp [startJob, hsc]

@[simp] theorem rest_placeJob {sc : Scope} (a0 : Job) (s : State) (hsc : sc.sec ∧ sc.evc ∧ sc.out) : rest sc (placeJob a0 s) = rest sc s := by
  simp only [placeJob]
  split <;> simp [hsc]

@[simp] theorem rest_nextJob {sc : Scope} (s : State) (hsc : sc.sec ∧ sc.evc ∧ sc.out) : rest sc (nextJob s) = rest sc s := by
  simp only [nextJob]
  split <;> simp [hsc]

@[simp] theorem rest_finishJob {sc : Scope} (s : State) (hsc : sc.clk ∧ sc.ports ∧ sc.sec ∧ sc.cmd ∧ sc.evc ∧ sc.out) : rest sc (finishJob s) = rest sc s := by
  simp only [finishJob]
  split <;> simp [hsc]

@[simp] theorem rest_applyStaged {sc : Scope} (a0 : Instant) (a1 : Bool × Bool) (a2 : Cmd) (s : State) (hsc : sc.clk ∧ sc.time ∧ sc.tio ∧ sc.carriers ∧ sc.reg ∧ sc.trib ∧ sc.cls ∧ sc.q ∧ sc.ports ∧ sc.snaps ∧ sc.sec ∧ sc.groups ∧ sc.evc ∧ sc.pmc ∧ sc.pwr ∧ sc.out) : rest sc (applyStaged a0 a1 a2 s) = rest sc s := by
  simp only [applyStaged]
  split <;> simp [hsc]

@[simp] theorem rest_startWriteIn {sc : Scope} (s : State) (hsc : sc.cls ∧ sc.evc ∧ sc.out) : rest sc (startWriteIn s) = rest sc s := by
  simp only [startWriteIn]
  repeat' split
  all_goals simp [hsc]

@[simp] theorem rest_abortAndGo {sc : Scope} (a0 : Nat) (a1 : Status) (a2 : Nat) (s : State) (hsc : sc.cls ∧ sc.sec ∧ sc.groups ∧ sc.evc ∧ sc.out) : rest sc (abortAndGo a0 a1 a2 s) = rest sc s := by
  simp [abortAndGo, hsc]

@[simp] theorem rest_abortChanged {sc : Scope} (s : State) (hsc : sc.cls ∧ sc.sec ∧ sc.groups ∧ sc.evc ∧ sc.out) : rest sc (abortChanged s) = rest sc s := by
  apply rest_forEach
  intro g s
  split
  · split <;> simp [hsc]
  · rfl

@[simp] theorem rest_commitGroup {sc : Scope} (a0 : Nat) (s : State) (hsc : sc.clk ∧ sc.time ∧ sc.tio ∧ sc.carriers ∧ sc.reg ∧ sc.trib ∧ sc.cls ∧ sc.q ∧ sc.ports ∧ sc.snaps ∧ sc.sec ∧ sc.groups ∧ sc.evc ∧ sc.pmc ∧ sc.pwr ∧ sc.out) : rest sc (commitGroup a0 s) = rest sc s := by
  simp [commitGroup, hsc]

@[simp] theorem rest_lapseGroup {sc : Scope} (a0 : Nat) (s : State) (hsc : sc.sec ∧ sc.groups ∧ sc.evc ∧ sc.out) : rest sc (lapseGroup a0 s) = rest sc s := by
  simp [lapseGroup, hsc]

@[simp] theorem rest_modEvc {sc : Scope} (a0 : Evc → Evc) (s : State) (hsc : sc.evc) : rest sc (modEvc a0 s) = rest sc s := by
  simp [modEvc, hsc]

@[simp] theorem rest_modCmd {sc : Scope} (a0 : CmdChannel → CmdChannel) (s : State) (hsc : sc.cmd) : rest sc (modCmd a0 s) = rest sc s := by
  simp [modCmd, hsc]

@[simp] theorem rest_ringError {sc : Scope} (a0 : Nat) (s : State) (hsc : sc.cmd ∧ sc.evc ∧ sc.out) : rest sc (ringError a0 s) = rest sc s := by
  simp [ringError, hsc]

@[simp] theorem rest_putSqTail {sc : Scope} (a0 : Nat) (s : State) (hsc : sc.cmd ∧ sc.evc ∧ sc.out) : rest sc (putSqTail a0 s) = rest sc s := by
  simp [putSqTail, hsc]

@[simp] theorem rest_putRqHead {sc : Scope} (a0 : Nat) (s : State) (hsc : sc.cmd ∧ sc.evc ∧ sc.out) : rest sc (putRqHead a0 s) = rest sc s := by
  simp [putRqHead, hsc]

@[simp] theorem rest_applyLatched {sc : Scope} (s : State) (hsc : sc.cmd ∧ sc.evc ∧ sc.out) : rest sc (applyLatched s) = rest sc s := by
  simp only [applyLatched]
  repeat' split
  all_goals simp [hsc]

@[simp] theorem rest_resumeServo {sc : Scope} (a0 : Bool) (a1 : Nat) (s : State) (s1 : State) (hsc : sc.clk ∧ sc.time ∧ sc.tio ∧ sc.trib ∧ sc.cls ∧ sc.q ∧ sc.ports ∧ sc.snaps ∧ sc.sec ∧ sc.groups ∧ sc.evc ∧ sc.pwr ∧ sc.out) : rest sc (resumeServo a0 a1 s s1) = rest sc s1 := by
  simp [resumeServo, hsc]

@[simp] theorem rest_syncAll {sc : Scope} (s : State) (hsc : sc.evc ∧ sc.out) : rest sc (syncAll s) = rest sc s := by
  simp [syncAll, hsc]

@[simp] theorem rest_loseLineBuffers {sc : Scope} (s : State) (hsc : sc.tio ∧ sc.down ∧ sc.mch ∧ sc.evc ∧ sc.out) : rest sc (loseLineBuffers s) = rest sc s := by
  simp [loseLineBuffers, hsc]

@[simp] theorem rest_dropJobs {sc : Scope} (s : State) (hsc : sc.clk ∧ sc.ports ∧ sc.sec ∧ sc.cmd ∧ sc.evc ∧ sc.out) : rest sc (dropJobs s) = rest sc s := by
  simp only [dropJobs]
  rw [rest_foldl]
  · simp [hsc]
  · intro s a
    simp [hsc]

@[simp] theorem rest_rewatch {sc : Scope} (s : State) (hsc : sc.q) : rest sc (rewatch s) = rest sc s := by
  apply rest_forEach
  intro k s
  split <;> simp [hsc]

@[simp] theorem rest_losePipe {sc : Scope} (s : State) (hsc : sc.clk ∧ sc.down ∧ sc.cls ∧ sc.q ∧ sc.lanes ∧ sc.ports ∧ sc.snaps ∧ sc.sec ∧ sc.cmd ∧ sc.eng ∧ sc.evc ∧ sc.pmc ∧ sc.out) : rest sc (losePipe s) = rest sc s := by
  simp [losePipe, hsc]

@[simp] theorem rest_loseKeys {sc : Scope} (a0 : Nat) (s : State) (hsc : sc.sec ∧ sc.evc ∧ sc.out) : rest sc (loseKeys a0 s) = rest sc s := by
  simp [loseKeys, hsc]

@[simp] theorem rest_integrityFlush {sc : Scope} (a0 : Nat) (s : State) (hsc : sc.clk ∧ sc.q ∧ sc.evc ∧ sc.pmc ∧ sc.out) : rest sc (integrityFlush a0 s) = rest sc s := by
  simp only [integrityFlush]
  split <;> simp [hsc]

@[simp] theorem rest_loseLineSettings {sc : Scope} (s : State) (hsc : sc.time ∧ sc.tio ∧ sc.carriers ∧ sc.reg ∧ sc.down ∧ sc.mch ∧ sc.trib ∧ sc.evc ∧ sc.out) : rest sc (loseLineSettings s) = rest sc s := by
  simp [loseLineSettings, hsc]

@[simp] theorem rest_loseSwitchSettings {sc : Scope} (s : State) (hsc : sc.cls ∧ sc.q ∧ sc.lanes ∧ sc.refs ∧ sc.ports ∧ sc.evc ∧ sc.out) : rest sc (loseSwitchSettings s) = rest sc s := by
  simp [loseSwitchSettings, hsc]

@[simp] theorem rest_loseControlSettings {sc : Scope} (s : State) (hsc : sc.sec ∧ sc.cmd ∧ sc.evc ∧ sc.pmc) : rest sc (loseControlSettings s) = rest sc s := by
  simp [loseControlSettings, hsc]

@[simp] theorem rest_loseBank {sc : Scope} (a0 : Nat) (s : State) (hsc : sc.clk ∧ sc.time ∧ sc.tio ∧ sc.carriers ∧ sc.reg ∧ sc.down ∧ sc.mch ∧ sc.trib ∧ sc.cls ∧ sc.q ∧ sc.lanes ∧ sc.refs ∧ sc.ports ∧ sc.sec ∧ sc.cmd ∧ sc.eng ∧ sc.evc ∧ sc.pmc ∧ sc.out) : rest sc (loseBank a0 s) = rest sc s := by
  simp only [loseBank]
  split <;> simp [hsc]

@[simp] theorem rest_loseDoldrums {sc : Scope} (s : State) (hsc : sc.clk ∧ sc.tio ∧ sc.carriers ∧ sc.down ∧ sc.mch ∧ sc.cls ∧ sc.q ∧ sc.lanes ∧ sc.die ∧ sc.ports ∧ sc.snaps ∧ sc.sec ∧ sc.cmd ∧ sc.groups ∧ sc.eng ∧ sc.evc ∧ sc.pmc ∧ sc.out) : rest sc (loseDoldrums s) = rest sc s := by
  simp [loseDoldrums, hsc]

@[simp] theorem rest_modPwr {sc : Scope} (a0 : Power → Power) (s : State) (hsc : sc.pwr) : rest sc (modPwr a0 s) = rest sc s := by
  simp [modPwr, hsc]

@[simp] theorem rest_stopBursts {sc : Scope} (a0 : Bool) (s : State) (hsc : sc.carriers ∧ sc.out) : rest sc (stopBursts a0 s) = rest sc s := by
  simp [stopBursts, hsc]

@[simp] theorem rest_abortStaging {sc : Scope} (p : Cmd → Bool) (s : State) (hsc : sc.cls ∧ sc.sec ∧ sc.groups ∧ sc.evc ∧ sc.out) : rest sc (abortStaging p s) = rest sc s := by
  apply rest_forEach
  intro g s
  split <;> simp [hsc]

@[simp] theorem rest_finishCommands {sc : Scope} (s : State) (hsc : sc.clk ∧ sc.die ∧ sc.ports ∧ sc.sec ∧ sc.cmd ∧ sc.evc ∧ sc.out) : rest sc (finishCommands s) = rest sc s := by
  simp [finishCommands, hsc]

@[simp] theorem rest_allLasersOff {sc : Scope} (s : State) (hsc : sc.out) : rest sc (allLasersOff s) = rest sc s := by
  simp [allLasersOff, hsc]

@[simp] theorem rest_wakeTargets {sc : Scope} (s : State) (hsc : sc.evc ∧ sc.out) : rest sc (wakeTargets s) = rest sc s := by
  simp [wakeTargets, hsc]

@[simp] theorem rest_loseHbm {sc : Scope} (s : State) (hsc : sc.dev ∧ sc.cls ∧ sc.q) : rest sc (loseHbm s) = rest sc s := by
  simp [loseHbm, hsc]

@[simp] theorem rest_setLink {sc : Scope} (a0 : Nat) (a1 : Nat) (a2 : Nat) (s : State) (hsc : sc.dev ∧ sc.evc ∧ sc.out) : rest sc (setLink a0 a1 a2 s) = rest sc s := by
  simp [setLink, hsc]

@[simp] theorem rest_oncePerSecond {sc : Scope} (n : Nat) (k : State → State) (s : State) (hk : ∀ s, rest sc (k s) = rest sc s)
    (hsc : sc.clk) : rest sc (oncePerSecond n k s) = rest sc s := by
  unfold oncePerSecond
  dsimp only
  split
  · rfl
  · rw [hk]
    simp [hsc]

@[simp] theorem rest_logFinding {sc : Scope} (a0 : Finding) (s : State) (hsc : sc.evc ∧ sc.out) : rest sc (logFinding a0 s) = rest sc s := by
  simp [logFinding, hsc]

@[simp] theorem rest_correctedError {sc : Scope} (a0 : Finding) (s : State) (hsc : sc.clk ∧ sc.evc ∧ sc.out) : rest sc (correctedError a0 s) = rest sc s := by
  simp [correctedError, hsc]

end Sys2Proof.Proofs.Frames
end

section
/-!
Rules for a Palgil command: what a check answers, and the three ways a row that runs at once is answered.
-/
namespace Sys2Proof.Proofs.Rules
open Sys2Proof Sys2Proof.Machine Sys2Proof.Proofs.Frames

set_option Elab.async false

theorem require_true {ok : Bool} {st : Status} {k : Body} {s : State} (h : ok = true) : require ok st k s = k s := by
  simp [require, h]

theorem require_false {ok : Bool} {st : Status} {k : Body} {s : State} (h : ok = false) : require ok st k s = fail st s := by
  simp [require, h]

/-- Out of DOLDRUMS an input acts (R327). -/
theorem awake_eq {s : State} (h : s.pwr.asleep = false) (t : State) : awake s t = t := by
  simp [awake, h]

/-- Out of DOLDRUMS a register reads (R327). -/
theorem awakeRead_eq {s : State} (h : s.pwr.asleep = false) (t : State) : awakeRead s t = t := by
  simp [awakeRead, h]

/-- Taking a command up changes only the command channel (R249, R250, R254). -/
theorem takeUp_cmd (h : Hdr) (s : State) : ∃ x, takeUp h s = { s with cmd := x } := ⟨_, takeUp_eq h s⟩

section Taken
variable {i : Instr} {h : Hdr} {c : Cmd} {o : Nat} {s t : State} {x : CmdChannel} {d : List Nat} {st : Status} {P : State → Prop}

/-- A command that is not security-relevant completes as its body says, from the state with its command channel taken up. -/
theorem completes_taken (hx : takeUp h s = { s with cmd := x }) (hr : runsNow h c s) (he : exec i s = .next (command h c s))
    (ho : Cmd.opcode c = o) (hs : secRelevant o = false) (hb : bodyOf h c { s with cmd := x } = (some { data := d }, t))
    (hp : P t) : completes i h o s P :=
  completes_plain hr he ho hs (hx ▸ hb) hp

/-- It fails as its body says. -/
theorem failsWith_taken (hx : takeUp h s = { s with cmd := x }) (hr : runsNow h c s) (he : exec i s = .next (command h c s))
    (ho : Cmd.opcode c = o) (hs : secRelevant o = false)
    (hb : bodyOf h c { s with cmd := x } = (some { status := st }, { s with cmd := x })) : failsWith i h o st s :=
  failsWith_plain hr he ho hs (hx ▸ hb)

/-- It fails as its body says, in the state that its body leaves. -/
theorem fails_taken (hx : takeUp h s = { s with cmd := x }) (hr : runsNow h c s) (he : exec i s = .next (command h c s))
    (ho : Cmd.opcode c = o) (hs : secRelevant o = false)
    (hb : bodyOf h c { s with cmd := x } = (some { status := st }, t)) : exec i s = .next (sendReply h o { status := st } t) := by
  rw [he, command_fails hr (by rw [begun_plain (by rw [ho]; exact hs), hx]; exact hb), ho]

end Taken

/-- The next state of an outcome that the model writes out. -/
theorem nextWith_of {i : Instr} {s t : State} {P : State → Prop} (hexec : exec i s = .next t) (h : P t) : nextWith i s P :=
  ⟨t, hexec, h⟩

/-- Local time stays where fuses, local time and queue do. -/
theorem now_of_kept {s t : State} (h : kept t = kept s) : t.clk.now = s.clk.now :=
  (Prod.mk.inj (Prod.mk.inj h).2).1

/-! ### Units under the operations on events -/

@[simp] theorem raise_carrier (a0 : Nat) (s : State) (n : Nat) : (raise a0 s).carrier n = s.carrier n := by
  unfold State.carrier
  rw [show (raise a0 s).carriers = s.carriers from carriers_of_rest (m := { evc := true, out := true }) (by simp)]
@[simp] theorem raise_port (a0 : Nat) (s : State) (p : Nat) : (raise a0 s).port p = s.port p := by
  unfold State.port
  rw [show (raise a0 s).ports = s.ports from ports_of_rest (m := { evc := true, out := true }) (by simp)]
@[simp] theorem raise_lane (a0 : Nat) (s : State) (n : Nat) : (raise a0 s).lane n = s.lane n := by
  unfold State.lane
  rw [show (raise a0 s).lanes = s.lanes from lanes_of_rest (m := { evc := true, out := true }) (by simp)]
@[simp] theorem raise_assoc (a0 : Nat) (s : State) (i : Nat) : (raise a0 s).assoc i = s.assoc i := by
  unfold State.assoc
  rw [show (raise a0 s).sec = s.sec from sec_of_rest (m := { evc := true, out := true }) (by simp)]
@[simp] theorem raise_channel (a0 : Nat) (s : State) (c : Nat) : (raise a0 s).channel c = s.channel c := by
  unfold State.channel
  rw [show (raise a0 s).mch = s.mch from mch_of_rest (m := { evc := true, out := true }) (by simp)]
@[simp] theorem raise_grp (a0 : Nat) (s : State) (g : Nat) : (raise a0 s).grp g = s.grp g := by
  unfold State.grp
  rw [show (raise a0 s).groups = s.groups from groups_of_rest (m := { evc := true, out := true }) (by simp)]
@[simp] theorem raiseOnce_carrier (a0 : Nat) (s : State) (n : Nat) : (raiseOnce a0 s).carrier n = s.carrier n := by
  unfold State.carrier
  rw [show (raiseOnce a0 s).carriers = s.carriers from carriers_of_rest (m := { clk := true, evc := true, out := true }) (by simp)]
@[simp] theorem raiseOnce_port (a0 : Nat) (s : State) (p : Nat) : (raiseOnce a0 s).port p = s.port p := by
  unfold State.port
  rw [show (raiseOnce a0 s).ports = s.ports from ports_of_rest (m := { clk := true, evc := true, out := true }) (by simp)]
@[simp] theorem raiseOnce_assoc (a0 : Nat) (s : State) (i : Nat) : (raiseOnce a0 s).assoc i = s.assoc i := by
  unfold State.assoc
  rw [show (raiseOnce a0 s).sec = s.sec from sec_of_rest (m := { clk := true, evc := true, out := true }) (by simp)]
@[simp] theorem emit_port (a0 : Output) (s : State) (p : Nat) : (emit a0 s).port p = s.port p := by
  unfold State.port
  rw [show (emit a0 s).ports = s.ports from ports_of_rest (m := { out := true }) (by simp)]
@[simp] theorem emit_assoc (a0 : Output) (s : State) (i : Nat) : (emit a0 s).assoc i = s.assoc i := by
  unfold State.assoc
  rw [show (emit a0 s).sec = s.sec from sec_of_rest (m := { out := true }) (by simp)]
@[simp] theorem emit_channel (a0 : Output) (s : State) (c : Nat) : (emit a0 s).channel c = s.channel c := by
  unfold State.channel
  rw [show (emit a0 s).mch = s.mch from mch_of_rest (m := { out := true }) (by simp)]

/-! ### Security-relevant commands (R217, R240) -/

/-- The checks on a command consume at most a challenge. -/
theorem begun_sec (h : Hdr) (c : Cmd) (s : State) :
    ∃ x l, begun h c s = { s with cmd := x, sec := { s.sec with challenges := l } } := by
  have hcheck (u : State) : ∃ l, (secCheck h (Cmd.opcode c) u).2 = { u with sec := { u.sec with challenges := l } } := by
    unfold secCheck
    (repeat' split) <;> exact ⟨_, rfl⟩
  obtain ⟨x, hx⟩ := takeUp_cmd h s
  obtain ⟨l, hl⟩ := hcheck (takeUp h s)
  refine ⟨x, l, ?_⟩
  unfold begun
  rw [hl, hx]

section Begun
variable {i : Instr} {h : Hdr} {c : Cmd} {o : Nat} {s t : State} {x : CmdChannel} {l : List (Ident × Instant)} {d : List Nat}
  {st : Status} {P : State → Prop}

/-- A command completes as its body says, from the state that its checks leave. -/
theorem completes_begun (hx : begun h c s = { s with cmd := x, sec := { s.sec with challenges := l } }) (hr : runsNow h c s)
    (he : exec i s = .next (command h c s)) (ho : Cmd.opcode c = o)
    (hb : bodyOf h c { s with cmd := x, sec := { s.sec with challenges := l } } = (some { data := d }, t)) (hp : P t) :
    completes i h o s P :=
  completes_of hr he ho (hx ▸ hb) hp

/-- It fails as its body says. -/
theorem fails_begun (hr : runsNow h c s) (he : exec i s = .next (command h c s)) (ho : Cmd.opcode c = o)
    (hb : bodyOf h c (begun h c s) = (some { status := st }, t)) : exec i s = .next (sendReply h o { status := st } t) := by
  rw [he, command_fails hr hb, ho]

end Begun

/-! ### What is sent stays sent -/

theorem emit_suffix (o : Output) (s : State) : s.out <:+ (emit o s).out := List.suffix_cons _ _

theorem sendMsix_suffix (k : Nat) (s : State) : s.out <:+ (sendMsix k s).out := by
  unfold sendMsix
  dsimp only
  split
  · exact List.suffix_rfl
  · split
    · exact List.suffix_rfl
    · exact emit_suffix _ _

theorem suffix_of {f : State → State} (hf : ∀ t, t.out <:+ (f t).out) {s t : State} (h : s.out = t.out) : s.out <:+ (f t).out :=
  h ▸ hf t

theorem fire_suffix (k : Nat) (s : State) : s.out <:+ (fire k s).out := by
  unfold fire
  dsimp only
  split
  · exact List.suffix_rfl
  · exact suffix_of (sendMsix_suffix k) rfl

theorem arrive_suffix (k : Nat) (s : State) : s.out <:+ (arrive k s).out := by
  unfold arrive
  dsimp only
  split
  · exact List.suffix_rfl
  · split
    · exact suffix_of (fire_suffix _) rfl
    · exact List.suffix_rfl

theorem land_suffix (k : Nat) (s : State) : s.out <:+ (land k s).out := by
  have hnest (e : Evc) (s : State) : s.out <:+ (nest e k s).out := by
    unfold nest
    dsimp only
    split
    · exact sendMsix_suffix _ _
    · exact List.suffix_rfl
  unfold land
  dsimp only
  split
  · exact List.suffix_rfl
  · refine List.IsSuffix.trans ?_ (hnest _ _)
    exact suffix_of (arrive_suffix k) rfl

theorem raiseOn_suffix (l : Bool) (k : Nat) (s : State) : s.out <:+ (raiseOn l k s).out := by
  unfold raiseOn
  split
  · exact List.suffix_rfl
  · split
    · exact List.suffix_rfl
    · exact land_suffix k s

/-- Raising an event takes nothing back of what has been sent. -/
theorem raise_suffix (k : Nat) (s : State) : s.out <:+ (raise k s).out := raiseOn_suffix false k s

theorem mem_raise {o : Output} {s : State} (k : Nat) (h : o ∈ s.out) : o ∈ (raise k s).out := (raise_suffix k s).mem h

end Sys2Proof.Proofs.Rules
end

section
/-!
The time port and the line-time settings (chapter 02): O8, O9.
-/
namespace Sys2Proof.Proofs.TimePort
open Sys2Proof Sys2Proof.Machine Sys2Proof.Proofs.Frames Sys2Proof.Proofs.Rules

set_option Elab.async false

/-! ### Time port registers (Table 2-6) -/

/-- A write of the time port on an awake terminal is a write of its registers (R45, R47). -/
theorem exec_tpWrite {s : State} (h : s.pwr.asleep = false) (a : BitVec 6) (v : Word) :
    exec (.tpWrite a v) s = .next (tpReg a.toNat v s) :=
  congrArg Host.Outcome.next (awake_eq h _)

theorem modCap_get_self (n : Nat) (f : Capture → Capture) (s : State) :
    Tbl.get {} (modCap n f s).tio.cap n = f (Tbl.get {} s.tio.cap n) := Tbl.get_modify_self _ _ _ _

theorem modCap_get_ne {n k : Nat} (h : k ≠ n) (f : Capture → Capture) (s : State) :
    Tbl.get {} (modCap n f s).tio.cap k = Tbl.get {} s.tio.cap k := Tbl.get_modify_ne _ _ _ h

theorem modTout_get_self (n : Nat) (f : Tout → Tout) (s : State) :
    Tbl.get {} (modTout n f s).tio.tout n = f (Tbl.get {} s.tio.tout n) := Tbl.get_modify_self _ _ _ _

theorem modTout_get_ne {n k : Nat} (h : k ≠ n) (f : Tout → Tout) (s : State) :
    Tbl.get {} (modTout n f s).tio.tout k = Tbl.get {} s.tio.tout k := Tbl.get_modify_ne _ _ _ h

/-- CAPn_STAT takes its two read-write fields. -/
theorem tpReg_cap (n : Nat) (hn : n < 4) (v : Word) (s : State) : tpReg (0x0B + 4 * n) v s =
    modCap n (fun c => { c with en := v.getLsbD 31, falling := v.getLsbD 30 }) s := by
  have hinput : (0x0B + 4 * n - 8) / 4 = n := by omega
  unfold tpReg
  simp only
  rw [if_neg (by omega), if_pos (by omega), hinput]

/-- Register `r` of TOUTn takes its fields. -/
theorem tpReg_tout (n r : Nat) (hn : n < 4) (hr : r < 4) (v : Word) (s : State) : tpReg (0x18 + 4 * n + r) v s =
    modTout n (fun t =>
      if r = 0 then { t with en := v.getLsbD 31, low := v.getLsbD 30, mode := v.toNat / 2 ^ 28 % 4 }
      else if r = 1 then { t with period := v.toNat }
      else if r = 2 then { t with width := v.toNat }
      else { t with phase := v.toNat }) s := by
  have houtput : (0x18 + 4 * n + r - 0x18) / 4 = n := by omega
  have hreg : (0x18 + 4 * n + r) % 4 = r := by omega
  unfold tpReg
  simp only
  rw [if_neg (by omega), if_neg (by omega), if_pos (by omega), houtput, hreg]

/-- A read-only or reserved address changes nothing. -/
theorem tpReg_other {a : Nat} (h : a < 4 ∨ (4 < a ∧ a < 0x0B) ∨ 0x2B ≤ a) (v : Word) (s : State) : tpReg a v s = s := by
  unfold tpReg
  simp only
  rw [if_neg (by omega), if_neg (by omega), if_neg (by omega), if_neg (by omega), if_neg (by omega), if_neg (by omega)]

/-- time.output.set of a TOUT whose fields are in range takes them (R40). -/
theorem doTimeOutputSet_tout {n mode period width phase : Nat} {en low : Bool} {comp : BitVec 16} (s : State) (hn : n < 4)
    (hmode : mode < 4) (hperiod : period < 4294967296) (hwidth : width < 4294967296) (hphase : phase < 4294967296) :
    doTimeOutputSet ⟨.tout n, en, low, mode, period, width, phase, comp, none⟩ s =
      okData [(Tout.ctrl { en := en, low := low, mode := mode, period := period, width := width, phase := phase }).toNat]
        (modTout n (fun _ => { en := en, low := low, mode := mode, period := period, width := width, phase := phase }) s) := by
  unfold doTimeOutputSet
  exact require_true (by simp [hn, hmode, hperiod, hwidth, hphase])

/-- time.output.set of PPS_OUT with a width in range takes its fields and the PPS_IN threshold (R40, R43). -/
theorem doTimeOutputSet_pps {mode period width phase thr : Nat} {en low : Bool} {comp : BitVec 16} (s : State)
    (hlo : 100 ≤ width) (hhi : width ≤ 500000000) :
    doTimeOutputSet ⟨.pps, en, low, mode, period, width, phase, comp, some thr⟩ s =
      okData [(TimeIo.ppsCtrl { s.tio with ppsEn := en, ppsLow := low, ppsWidth := width }).toNat] { s with tio := { s.tio with
        ppsEn := en, ppsLow := low, ppsWidth := width, ppsComp := comp, ppsThreshold := thr } } := by
  unfold doTimeOutputSet
  exact require_true (by simp [hlo, hhi])

/-- Settles O8. -/
theorem timePort : Obligations.TimePort := by
  unfold Obligations.TimePort
  refine ⟨fun h s => ?_, fun s v hawake => ⟨?_, ?_, ?_, ?_, ?_, ?_, ?_⟩⟩
  · obtain ⟨x, hx⟩ := takeUp_cmd h s
    simp only [hx]
    refine ⟨?_, ?_, ?_, ?_, ?_, ?_⟩
    · intro input enable falling hr hinput
      refine completes_taken hx hr rfl rfl rfl
        (show doTimeCaptureConfig _ _ _ _ = _ from require_true (by simpa using hinput)) ⟨rfl, ?_, ?_, fun k hk => ?_⟩
      · rw [modCap_get_self]
      · rw [modCap_get_self]
      · rw [modCap_get_ne hk]
    · intro n en low mode period width phase comp hr hn hmode hperiod hwidth hphase
      refine completes_taken hx hr rfl rfl rfl
        (doTimeOutputSet_tout _ hn hmode hperiod hwidth hphase) ⟨rfl, ?_, fun k hk => ?_⟩
      · exact modTout_get_self _ _ _
      · exact modTout_get_ne hk _ _
    · intro en low mode period width phase comp thr hr hlo hhi
      exact completes_taken hx hr rfl rfl rfl (doTimeOutputSet_pps _ hlo hhi) rfl
    · intro en low mode period width phase comp hr
      exact completes_taken hx hr rfl rfl rfl rfl rfl
    · intro port enable domain alt two hr hport hhas hlo hhi
      refine completes_taken hx hr rfl rfl rfl (show doTimePtpSet _ _ _ _ _ _ = _ from
        (require_true hhas).trans (require_true (by simp [hlo, hhi]))) ⟨rfl, ?_, ?_, ?_, ?_, fun k hk => ?_⟩
      · simp
      · simp
      · simp
      · simp
      · rw [Tbl.get_modify_ne _ _ _ hk]
    · intro port enable qt qh hr hport hhas hqt hqh
      refine completes_taken hx hr rfl rfl rfl (show doTimeSynceSet _ _ _ _ _ = _ from
        (require_true hhas).trans (require_true (by simp [hqt, hqh]))) ⟨rfl, ?_, fun k hk => ?_⟩
      · exact Tbl.get_set_self _ _ _ _
      · exact Tbl.get_set_ne _ _ _ hk
  · exact exec_tpWrite hawake _ v
  · exact exec_tpWrite hawake _ v
  · exact exec_tpWrite hawake _ v
  · exact exec_tpWrite hawake _ v
  · intro n
    have haddr : (BitVec.ofNat 6 (0x0B + 4 * n)).toNat = 0x0B + 4 * n.val := by
      rw [BitVec.toNat_ofNat, Nat.mod_eq_of_lt (by omega)]
    refine nextWith_of (exec_tpWrite hawake _ v) ?_
    rw [haddr, tpReg_cap n n.isLt]
    exact ⟨modCap_get_self _ _ _, fun k hk => modCap_get_ne hk _ _, rfl⟩
  · intro n r
    have haddr : (BitVec.ofNat 6 (0x18 + 4 * n + r)).toNat = 0x18 + 4 * n.val + r.val := by
      rw [BitVec.toNat_ofNat, Nat.mod_eq_of_lt (by omega)]
    refine nextWith_of (exec_tpWrite hawake _ v) ?_
    rw [haddr, tpReg_tout n r n.isLt r.isLt]
    refine ⟨?_, fun k hk => modTout_get_ne hk _ _, rfl⟩
    rw [modTout_get_self]
    match r with
    | 0 => rfl
    | 1 => rfl
    | 2 => rfl
    | 3 => rfl
  · intro a ha
    rw [exec_tpWrite hawake, tpReg_other ha]

/-! ### Line-time settings (Table 2-7) -/

/-- What a change of line time or of its validity can reach (R29, R39). -/
abbrev lineTimeScope : Scope := {
  clk := true, time := true, tio := true, trib := true, cls := true, q := true, ports := true, snaps := true, sec := true
  groups := true, evc := true, pwr := true, out := true }

/-- Applying a ranged d_down changes d_down and the slew of the time unit, nothing else of it (R29). -/
theorem applyDown_time (d : Int) (s : State) : ∃ e sl, (applyDown d s).time = { s.time with dDown := e, slew := sl } := by
  have hnote (s0 s1 : State) : (noteTime s0 s1).time = s1.time := time_of_rest (m := { lineTimeScope with time := false }) (by simp)
  have hstep (s1 : State) : (noteStep s1).time = s1.time := time_of_rest (m := { lineTimeScope with time := false }) (by simp)
  unfold applyDown
  dsimp only
  split
  · exact ⟨_, _, hnote _ _⟩
  · split
    · exact ⟨_, _, rfl⟩
    · split
      · exact ⟨_, _, rfl⟩
      · exact ⟨_, _, hstep _⟩

theorem rerange_time (s : State) : ∃ e sl, (rerange s).time = { s.time with dDown := e, slew := sl } := by
  unfold rerange
  split
  · exact applyDown_time _ s
  · exact ⟨_, _, rfl⟩

/-- A change behind a d_down that is applied already moves or steps line time, and its validity stays (R29). -/
theorem rerange_rest (s : State) :
    rest { time := true, tio := true, ports := true, evc := true, out := true } (rerange s) =
      rest { time := true, tio := true, ports := true, evc := true, out := true } s := by
  unfold rerange applyDown
  dsimp only
  (repeat' split) <;> simp_all

theorem retime_hostCarrier (s : State) : (retime s).time.hostCarrier = s.time.hostCarrier := by
  have hdown (d : Int) (s : State) : (applyDown d s).time.hostCarrier = s.time.hostCarrier := by
    obtain ⟨e, sl, htime⟩ := applyDown_time d s
    rw [htime]
  have hrange (n : Nat) (s : State) : (rangeFrom n s).time.hostCarrier = s.time.hostCarrier := by
    unfold rangeFrom
    exact hdown _ _
  unfold retime
  dsimp only
  (repeat' split) <;> simp [hrange]

/-- What time.holdover.set leaves (R34). -/
theorem doTimeHoldoverSet_eq (y d limit : Nat) (sq : Bool) (s : State) : ∃ t,
    doTimeHoldoverSet y d limit sq s = okNone t ∧
      (∃ b, t.time = { s.time with y := y, drift := d, limit := limit, squelch := sq, beyond := b }) ∧
      rest { time := true, evc := true, out := true } t = rest { time := true, evc := true, out := true } s := by
  unfold doTimeHoldoverSet
  dsimp only
  split
  · refine ⟨_, rfl, ?_, by simp⟩
    split
    · exact ⟨_, raise_time _ _⟩
    · exact ⟨_, rfl⟩
  · exact ⟨_, rfl, ⟨_, rfl⟩, by simp⟩

theorem doTimeAsymmetrySet_of_range {a : Int} (s : State) (hlo : -2 ^ 31 ≤ a) (hhi : a < 2 ^ 31) :
    doTimeAsymmetrySet a false s =
      okData [unsigned 32 a] (rerange { s with time := { s.time with asym := a, asymOvr := true } }) :=
  require_true (k := fun s => okData [unsigned 32 a] (rerange { s with time := { s.time with asym := a, asymOvr := true } }))
    (by simp only [decide_eq_true_eq]; omega)

theorem doTimeCarrierSet_some {n : Nat} (s : State) (h : s.hasCarrier n = true) :
    doTimeCarrierSet (some n) s = okNone (retime { s with time := { s.time with hostCarrier := some n } }) :=
  require_true (k := fun s => okNone (retime { s with time := { s.time with hostCarrier := some n } })) h

/-- Settles O9. -/
theorem lineTimeSettings : Obligations.LineTimeSettings := by
  unfold Obligations.LineTimeSettings
  intro h s
  obtain ⟨x, hx⟩ := takeUp_cmd h s
  simp only [hx]
  refine ⟨?_, ?_, ?_, ?_, ?_, ?_, ?_⟩
  · intro alpha hr hlo hhi
    refine completes_taken hx hr rfl rfl rfl (show doTimeSplitSet _ _ = _ from require_true (by simp [hlo, hhi])) ?_
    obtain ⟨e, sl, htime⟩ := rerange_time { s with cmd := x, time := { s.time with alpha := alpha } }
    have hrest := rerange_rest { s with cmd := x, time := { s.time with alpha := alpha } }
    exact ⟨congrArg TimeUnit.alpha htime, (carriers_of_rest hrest :), (reg_of_rest hrest :), (q_of_rest hrest :), (fuses_of_rest hrest :)⟩
  · intro alpha hr hbad
    exact failsWith_taken hx hr rfl rfl rfl (show doTimeSplitSet _ _ = _ from require_false (by simp; omega))
  · intro a hr hlo hhi
    refine completes_taken hx hr rfl rfl rfl
      (doTimeAsymmetrySet_of_range _ hlo hhi) ?_
    obtain ⟨e, sl, htime⟩ := rerange_time { s with cmd := x, time := { s.time with asym := a, asymOvr := true } }
    have hrest := rerange_rest { s with cmd := x, time := { s.time with asym := a, asymOvr := true } }
    exact ⟨congrArg TimeUnit.asym htime, congrArg TimeUnit.asymOvr htime, (congrArg TimeUnit.alpha htime :),
      (carriers_of_rest hrest :), (reg_of_rest hrest :)⟩
  · intro a hr
    exact completes_taken hx hr rfl rfl rfl rfl rfl
  · intro y d limit sq hr
    obtain ⟨t, hbody, ⟨b, htime⟩, hrest⟩ := doTimeHoldoverSet_eq y d limit sq { s with cmd := x }
    refine completes_taken hx hr rfl rfl rfl hbody ?_
    rw [htime]
    exact ⟨rfl, rfl, rfl, rfl, rfl, rfl, htime ▸ eq_merged hrest⟩
  · intro n hr hn hhas
    refine completes_taken hx hr rfl rfl rfl (doTimeCarrierSet_some _ hhas) ?_
    have hrest (u : State) : rest lineTimeScope (retime u) = rest lineTimeScope u := by simp
    exact ⟨retime_hostCarrier _, (carriers_of_rest (hrest _) :), (reg_of_rest (hrest _) :)⟩
  · intro hr
    refine completes_taken hx hr rfl rfl rfl rfl ?_
    have hrest (u : State) : rest lineTimeScope (retime u) = rest lineTimeScope u := by simp
    exact ⟨retime_hostCarrier _, (carriers_of_rest (hrest _) :), (reg_of_rest (hrest _) :)⟩

end Sys2Proof.Proofs.TimePort
end

section
/-!
The reset state, the capture inputs and the latch of TIME_NOW (chapter 02): O2, O10, O11.
-/
namespace Sys2Proof.Proofs.Captures
open Sys2Proof Sys2Proof.Machine Sys2Proof.Proofs.Frames Sys2Proof.Proofs.Rules Sys2Proof.Proofs.TimePort

set_option Elab.async false

/-- Settles O2: each value is read off the reset state. -/
theorem resetState : Obligations.ResetState := by
  unfold Obligations.ResetState
  intro s
  and_intros
  all_goals intros
  all_goals and_intros
  all_goals rfl

/-! ### Capture inputs (R44) -/

/-- A change of one capture input, and after it of the event controller, reaches nothing else. -/
theorem modCap_then {n : Nat} {f : Capture → Capture} {s t : State} (h : evOnly (modCap n f s) t) :
    Tbl.get {} t.tio.cap n = f (Tbl.get {} s.tio.cap n) ∧ (∀ k, k ≠ n → Tbl.get {} t.tio.cap k = Tbl.get {} s.tio.cap k) ∧
      t = { s with tio := { s.tio with cap := t.tio.cap }, evc := t.evc, out := t.out } := by
  rw [h.tio]
  exact ⟨modCap_get_self _ _ _, fun k hk => modCap_get_ne hk _ _, h⟩

theorem setFlag_cap (i : Nat) (s : State) : (setFlag i s).tio.cap = s.tio.cap := rfl

section Edge
variable {s : State} {n sub : Nat}

/-- An edge less than 16 ns after the previous accepted one is lost. -/
theorem exec_tcapEdge_near {e : Instant} (hawake : s.pwr.asleep = false) (hn : n < 4) (hen : (Tbl.get {} s.tio.cap n).en = true)
    (hlast : (Tbl.get {} s.tio.cap n).lastEdge = some e) (hnear : s.clk.now + sub * quarter < e + ns 16) :
    exec (.tcapEdge n (Tbl.get {} s.tio.cap n).falling sub) s =
      .next (modCap n (fun c => { c with lost := satInc 16 c.lost }) s) := by
  simp [exec, execTcapEdge, awake_eq hawake, hen, hlast, hnear, hn]

/-- The guard of an edge that is far enough from the previous accepted one. -/
theorem edge_accepted {o : Option Instant} {at_ : Instant} : (∀ e, o = some e → e + ns 16 ≤ at_) →
    (match o with | some e => decide (at_ < e + ns 16) | none => false) = false := by
  intro h
  cases o with
  | none => rfl
  | some e => simpa using h e rfl

/-- An edge that is far enough from the previous one finds the FIFO full. -/
theorem exec_tcapEdge_full (hawake : s.pwr.asleep = false) (hn : n < 4) (hen : (Tbl.get {} s.tio.cap n).en = true)
    (hfar : ∀ e, (Tbl.get {} s.tio.cap n).lastEdge = some e → e + ns 16 ≤ s.clk.now + sub * quarter)
    (hfull : 16 ≤ (Tbl.get {} s.tio.cap n).fifo.length) :
    exec (.tcapEdge n (Tbl.get {} s.tio.cap n).falling sub) s = .next (raise 0x28 (setFlag 3 (modCap n (fun c =>
      { c with lost := satInc 16 c.lost, gapNext := true, lastEdge := some (s.clk.now + sub * quarter) }) s))) := by
  have hedge := edge_accepted hfar
  change execTcapEdge _ _ _ _ = _
  unfold execTcapEdge
  rw [awake_eq hawake]
  dsimp only
  rw [if_neg (by simp [hen, hn]), if_neg, if_pos hfull]
  exact fun hnear => Bool.false_ne_true (hedge.symm.trans hnear)

/-- An edge that is far enough from the previous one is stored with line time. -/
theorem exec_tcapEdge_stored (hawake : s.pwr.asleep = false) (hn : n < 4) (hen : (Tbl.get {} s.tio.cap n).en = true)
    (hfar : ∀ e, (Tbl.get {} s.tio.cap n).lastEdge = some e → e + ns 16 ≤ s.clk.now + sub * quarter)
    (hroom : (Tbl.get {} s.tio.cap n).fifo.length < 16) :
    ∃ t, exec (.tcapEdge n (Tbl.get {} s.tio.cap n).falling sub) s = .next t ∧
      evOnly (modCap n (fun c => { c with
        fifo := c.fifo ++ [{ time := lineTime s + sub * quarter, valid := timeValid s, gap := (Tbl.get {} s.tio.cap n).gapNext }]
        gapNext := false, lastEdge := some (s.clk.now + sub * quarter) }) s) t := by
  have hedge := edge_accepted hfar
  change ∃ t, execTcapEdge _ _ _ _ = _ ∧ _
  unfold execTcapEdge
  rw [awake_eq hawake]
  dsimp only
  rw [if_neg (by simp [hen, hn]), if_neg, if_neg (by omega)]
  case hnc => exact fun hnear => Bool.false_ne_true (hedge.symm.trans hnear)
  refine ⟨_, rfl, evOnly.trans ?_ (syncCap_only _ _)⟩
  split
  · exact holdRising_only _ _
  · exact .refl _

end Edge

/-- What popping `k` entries of input `n` does. -/
structure Popped (n k : Nat) (s t : State) : Prop where
  fifo : (Tbl.get {} t.tio.cap n).fifo = (Tbl.get {} s.tio.cap n).fifo.drop k
  lost : (Tbl.get {} t.tio.cap n).lost = (Tbl.get {} s.tio.cap n).lost
  shown : (Tbl.get {} t.tio.cap n).shown = (Tbl.get {} s.tio.cap n).shown
  others : ∀ k, k ≠ n → Tbl.get {} t.tio.cap k = Tbl.get {} s.tio.cap k
  frame : t = { s with tio := { s.tio with cap := t.tio.cap }, evc := t.evc, out := t.out }

theorem Popped.refl (n : Nat) (s : State) : Popped n 0 s s := ⟨rfl, rfl, rfl, fun _ _ => rfl, rfl⟩

theorem Popped.trans {n k l : Nat} {s t u : State} (h : Popped n k s t) (h' : Popped n l t u) : Popped n (k + l) s u where
  fifo := by rw [h'.fifo, h.fifo, List.drop_drop]
  lost := h'.lost.trans h.lost
  shown := h'.shown.trans h.shown
  others m hm := (h'.others m hm).trans (h.others m hm)
  frame := by
    have hu := h'.frame
    rw [h.frame] at hu
    exact hu

/-- The pop of an entry that is there. -/
theorem popCap_cons {n : Nat} {e : CapEntry} {l : List CapEntry} {s : State} (h : (Tbl.get {} s.tio.cap n).fifo = e :: l) :
    evOnly (modCap n (fun c => { c with fifo := l, popped := e }) s) (popCap n s) := by
  unfold popCap
  rw [h]
  exact syncCap_only _ _

theorem popCap_popped (n : Nat) (s : State) : Popped n 1 s (popCap n s) := by
  cases h : (Tbl.get {} s.tio.cap n).fifo with
  | nil =>
    have hsame : popCap n s = s := by unfold popCap; rw [h]
    rw [hsame]
    exact ⟨by rw [h]; rfl, rfl, rfl, fun _ _ => rfl, rfl⟩
  | cons e l =>
    obtain ⟨hself, hothers, hframe⟩ := modCap_then (popCap_cons h)
    exact ⟨by rw [hself, h]; rfl, by rw [hself], by rw [hself], hothers, hframe⟩

theorem iter_popCap_popped (n k : Nat) (s : State) : Popped n k s (iter (popCap n) k s) := by
  induction k generalizing s with
  | zero => exact .refl n s
  | succ k ih =>
    have hnext := (popCap_popped n s).trans (ih _)
    rwa [Nat.add_comm] at hnext

/-- A read of CAPn_LO pops the oldest entry and shows its time (R44). -/
theorem exec_capLoRead_cons {n : Nat} {e : CapEntry} {l : List CapEntry} {s : State} (hawake : s.pwr.asleep = false) (hn : n < 4)
    (h : (Tbl.get {} s.tio.cap n).fifo = e :: l) :
    exec (.capLoRead n) s =
      .next (emit (.read (loWord e.time)) (modCap n (fun c => { c with shown := e.time }) (popCap n s))) := by
  change execCapLoRead n s = _
  unfold execCapLoRead
  rw [awakeRead_eq hawake, if_neg (by omega), h]

/-- time.capture pops as many entries as it may and finds. -/
theorem doTimeCapture_popped {n max : Nat} (s : State) (hn : n < 4) (hlo : 1 ≤ max) (hhi : max ≤ 16) :
    ∃ d t, doTimeCapture n max s = okData d t ∧ Popped n ((Tbl.get {} s.tio.cap n).fifo.take max).length s t :=
  ⟨_, _, require_true (by simp [hn, hlo, hhi]), iter_popCap_popped _ _ _⟩

theorem drop_length_take {α : Type} (k : Nat) (l : List α) : l.drop (l.take k).length = l.drop k := by
  rw [List.length_take]
  rcases Nat.le_total k l.length with h | h
  · rw [Nat.min_eq_left h]
  · rw [Nat.min_eq_right h, List.drop_length, List.drop_eq_nil_of_le h]

/-- Settles O10. -/
theorem captureInputs : Obligations.CaptureInputs := by
  unfold Obligations.CaptureInputs
  intro s n hawake hn
  refine ⟨?_, ?_, ?_, ?_, ?_, ?_, ?_⟩
  · intro sub hsub hen hfar hroom
    obtain ⟨t, hexec, ht⟩ := exec_tcapEdge_stored hawake hn hen hfar hroom
    exact nextWith_of hexec (modCap_then ht)
  · intro sub e hsub hen hlast hnear
    exact nextWith_of (exec_tcapEdge_near hawake hn hen hlast hnear)
      ⟨modCap_get_self _ _ _, fun k hk => modCap_get_ne hk _ _, rfl⟩
  · intro sub hsub hen hfar hfull
    refine nextWith_of (exec_tcapEdge_full hawake hn hen hfar hfull) ?_
    rw [raise_tio, setFlag_cap]
    exact ⟨modCap_get_self _ _ _, rfl, fun k hk => modCap_get_ne hk _ _, raise_only _ _⟩
  · intro e l hfifo
    refine ⟨_, exec_capLoRead_cons hawake hn hfifo, ?_⟩
    obtain ⟨hself, hothers, hframe⟩ := modCap_then (popCap_cons hfifo)
    rw [modCap_get_self, hself]
    refine ⟨rfl, fun k hk => (modCap_get_ne hk _ _).trans (hothers k hk), ?_⟩
    rw [hframe]
    rfl
  · intro hfifo
    refine ⟨BitVec.ofNat 32 (draw s).1, ?_⟩
    change execCapLoRead n s = _
    unfold execCapLoRead
    rw [awakeRead_eq hawake, if_neg (by omega), hfifo]
    rfl
  · refine ⟨modCap n (fun c => { c with lost := 0 }) s, ?_, modCap_get_self _ _ _, fun k hk => modCap_get_ne hk _ _, rfl⟩
    change execCapLostRead n s = _
    unfold execCapLostRead
    rw [awakeRead_eq hawake, if_neg (by omega)]
  · intro h max hr hlo hhi
    obtain ⟨x, hx⟩ := takeUp_cmd h s
    obtain ⟨d, t, hbody, hpop⟩ := doTimeCapture_popped { s with cmd := x } hn hlo hhi
    refine completes_taken hx hr rfl rfl rfl hbody ⟨?_, hpop.lost, hpop.shown, hpop.others, ?_⟩
    · rw [hpop.fifo, drop_length_take]
    · rw [hx]
      exact hpop.frame

/-! ### The TIME_NOW latch (R46) -/

/-- Settles O11. -/
theorem timeNowLatch : Obligations.TimeNowLatch := by
  unfold Obligations.TimeNowLatch
  intro s edge hawake
  refine ⟨congrArg Host.Outcome.next (awake_eq hawake _), ?_, ?_, congrArg Host.Outcome.next (awakeRead_eq hawake _)⟩
  · intro isSec e hlatch hafter hwithin
    change execTimeNowHiRead isSec edge s = _
    unfold execTimeNowHiRead
    rw [awake_eq hawake, hlatch]
    simp [hafter, hwithin]
  · intro isSec hfar
    change execTimeNowHiRead isSec edge s = _
    unfold execTimeNowHiRead
    rw [awake_eq hawake]
    cases hlatch : s.tio.latchEdge with
    | none => rfl
    | some e =>
      have hnot : ¬ (e < edge ∧ edge ≤ e + 4) := by have := hfar e hlatch; omega
      simp [hnot]

end Sys2Proof.Proofs.Captures
end

section
/-!
The servo's events and the time outputs (chapter 02): O13.
-/
namespace Sys2Proof.Proofs.LineTimeEvents
open Sys2Proof Sys2Proof.Machine Sys2Proof.Proofs.Frames Sys2Proof.Proofs.Rules

set_option Elab.async false

/-! ### What a change of line time's validity keeps (R29, R39) -/

theorem foldl_keeps {σ α β : Type} {F : σ → β} {f : σ → α → σ} (l : List α) (s : σ) (h : ∀ s a, F (f s a) = F s) :
    F (l.foldl f s) = F s := by
  induction l generalizing s with
  | nil => rfl
  | cons a l ih => exact (ih _).trans (h s a)

theorem eraseStagedKey_selfTest (i : Nat) (s : State) : (eraseStagedKey i s).sec.selfTest = s.sec.selfTest := by
  rfl

theorem eraseStagedKeys_selfTest (l : List Staged) (s : State) : (eraseStagedKeys l s).sec.selfTest = s.sec.selfTest := by
  refine foldl_keeps (F := fun s => s.sec.selfTest) l s fun s c => ?_
  split
  · exact eraseStagedKey_selfTest _ _
  · rfl

theorem abortGroup_selfTest (g : Nat) (why : Status) (d : Nat) (s : State) :
    (abortGroup g why d s).sec.selfTest = s.sec.selfTest := by
  have h : (abortGroup g why d s).sec = (eraseStagedKeys (s.grp g).changes s).sec := by
    unfold abortGroup
    dsimp only
    (repeat' split) <;> simp [releaseSlot]
  rw [h, eraseStagedKeys_selfTest]

theorem onInvalid_selfTest (s : State) : (onInvalid s).sec.selfTest = s.sec.selfTest := by
  have hgates (s : State) : (regateAll s).sec = s.sec := sec_of_rest (m := { ports := true, evc := true, out := true }) (by simp)
  have hports (l : List Nat) (s : State) : (forEach l (fun p => modPort p fun v => { v with gateNext := none }) s).sec = s.sec :=
    foldl_keeps (F := State.sec) l s fun _ _ => rfl
  have hgroups (l : List Nat) (s : State) : (forEach l (fun g => abortGroup g .timeInvalid 0) s).sec.selfTest = s.sec.selfTest :=
    foldl_keeps (F := fun s => s.sec.selfTest) l s fun s g => abortGroup_selfTest g _ _ s
  unfold onInvalid
  dsimp only
  rw [hgates, hports]
  split <;> simp [hgroups]

theorem noteTime_selfTest (s0 s : State) : (noteTime s0 s).sec.selfTest = s.sec.selfTest := by
  have hgates (s : State) : (regateAll s).sec = s.sec := sec_of_rest (m := { ports := true, evc := true, out := true }) (by simp)
  unfold noteTime
  dsimp only
  (repeat' split) <;> simp [hgates, onInvalid_selfTest, holdOutputs]

theorem noteTime_flags (s0 s : State) : (noteTime s0 s).tio.flags = s.tio.flags := by
  have hgates (s : State) : (regateAll s).tio = s.tio := tio_of_rest (m := { ports := true, evc := true, out := true }) (by simp)
  have hinvalid (s : State) : (onInvalid s).tio = s.tio := tio_of_rest (m := {
    trib := true, cls := true, q := true, ports := true, snaps := true, sec := true, groups := true, evc := true, pwr := true
    out := true }) (by simp)
  unfold noteTime
  dsimp only
  (repeat' split) <;> simp [hgates, hinvalid, holdOutputs]

theorem noteTime_time (s0 s : State) : (noteTime s0 s).time = s.time := by
  refine time_of_rest (m := { TimePort.lineTimeScope with time := false }) ?_
  simp

/-! ### The servo (Table 2-2) -/

theorem setFlag_bit (i : Nat) (hi : i < 6) (s : State) : (setFlag i s).tio.flags.getLsbD i = true := by
  simp [setFlag, hi]

theorem enterTrack_time (s : State) :
    (enterTrack s).time.servo = .track ∧ (enterTrack s).time.holdover = none ∧ (enterTrack s).time.phaseOk = none := by
  unfold enterTrack
  rw [noteTime_time, setFlag_time, raise_time]
  exact ⟨rfl, rfl, rfl⟩

theorem enterTrack_flag (s : State) : (enterTrack s).tio.flags.getLsbD 2 = true := by
  unfold enterTrack
  rw [noteTime_flags]
  exact setFlag_bit 2 (by omega) _

theorem enterTrack_selfTest (s : State) : (enterTrack s).sec.selfTest = s.sec.selfTest := by
  have hstep (s : State) : (noteStep s).sec = s.sec :=
    sec_of_rest (m := { tio := true, ports := true, evc := true, out := true }) (by simp)
  unfold enterTrack
  rw [noteTime_selfTest, setFlag_sec, raise_sec]
  dsimp only
  (repeat' split) <;> simp [hstep]

/-- SERVO_TRACK_ENTRY enters TRACK once the phase error has stayed low for 10 s (R32). -/
theorem exec_servoTrackEntry {s : State} {t0 : Instant} (hservo : s.time.servo = .acquireFree ∨ s.time.servo = .acquireHoldover)
    (hphase : s.time.phaseOk = some t0) (hlong : t0 + sec 10 ≤ s.clk.now) (hlive : stampsLive s = true) :
    exec .servoTrackEntry s = .next (enterTrack s) := by
  change execServoTrackEntry s = _
  unfold execServoTrackEntry
  rcases hservo with h | h <;> simp [h, hphase, hlong, hlive]

/-- SERVO_STAMP_TIMEOUT enters HOLDOVER 50 ms after the last stamp (R27, R32). -/
theorem exec_servoStampTimeout {s : State} {t0 : Instant} (hstamp : s.time.stampAt = some t0) (hlong : t0 + ms 50 < s.clk.now)
    (hservo : s.time.servo = .track ∨ s.time.servo = .acquireHoldover) :
    exec .servoStampTimeout s = .next (enterHoldover s) := by
  change execServoStampTimeout s = _
  unfold execServoStampTimeout
  rcases hservo with h | h <;> simp [h, hstamp, hlong]

theorem enterHoldover_time (s : State) : (enterHoldover s).time.servo = .holdover ∧
    (enterHoldover s).time.holdover.isSome = true ∧ (enterHoldover s).time.dDown = s.time.dDown := by
  unfold enterHoldover
  rw [noteTime_time, setFlag_time, raise_time]
  refine ⟨rfl, ?_, rfl⟩
  dsimp only
  split <;> rfl

theorem enterHoldover_flag (s : State) : (enterHoldover s).tio.flags.getLsbD 1 = true := by
  unfold enterHoldover
  rw [noteTime_flags]
  exact setFlag_bit 1 (by omega) _

/-- What a change of validity cannot reach. -/
theorem noteTime_rest (s0 s : State) :
    rest { TimePort.lineTimeScope with time := false } (noteTime s0 s) = rest { TimePort.lineTimeScope with time := false } s := by
  simp

theorem enterHoldover_reg (s : State) : (enterHoldover s).reg = { s.reg with servoFell := true } := by
  unfold enterHoldover
  rw [(reg_of_rest (noteTime_rest _ _) :), setFlag_reg, raise_reg]

theorem enterHoldover_carriers (s : State) : (enterHoldover s).carriers = s.carriers := by
  unfold enterHoldover
  rw [(carriers_of_rest (noteTime_rest _ _) :), setFlag_carriers, raise_carriers]

theorem enterHoldover_cmd (s : State) : (enterHoldover s).cmd = s.cmd := by
  unfold enterHoldover
  rw [(cmd_of_rest (noteTime_rest _ _) :), setFlag_cmd, raise_cmd]

theorem enterTrack_rest (s : State) : rest TimePort.lineTimeScope (enterTrack s) = rest TimePort.lineTimeScope s := by
  simp

/-! ### Time outputs (R37, R40) -/

/-- An output's edge writes its own entries, and the ball when the level changes. -/
theorem driveEdge_eq (o : TimeOut) (e : Instant) (active : Bool) (s : State) :
    (driveEdge o e active s).tio = { s.tio with
      outEdge := Tbl.set none s.tio.outEdge (outKey o) (some e), outOn := Tbl.set false s.tio.outOn (outKey o) active } ∧
    driveEdge o e active s = { s with tio := (driveEdge o e active s).tio, out := (driveEdge o e active s).out } := by
  unfold driveEdge
  dsimp only
  split <;> exact ⟨rfl, rfl⟩

theorem driveEdge_out_same {o : TimeOut} {active : Bool} {s : State} (e : Instant)
    (h : Tbl.get false s.tio.outOn (outKey o) = active) : (driveEdge o e active s).out = s.out := by
  unfold driveEdge
  simp [h]

theorem driveEdge_out_new {o : TimeOut} {active : Bool} {s : State} {tr : Train} (e : Instant)
    (h : Tbl.get false s.tio.outOn (outKey o) ≠ active) (htrain : trainOf o s = some tr) :
    (driveEdge o e active s).out = .edge o e (active != tr.low) :: s.out := by
  unfold driveEdge
  simp [h, htrain, emit]

/-! ### Frames that a port sends by its clock (R41, R42, R204) -/

theorem byteTime_pos (v : Port) (n : Nat) : 0 < byteTime v.gbps (n + 20) := by
  have hrate : 0 < v.gbps := by
    unfold Port.gbps
    split
    · exact Nat.lt_of_lt_of_le Nat.one_pos (Nat.le_max_left _ _)
    · exact Nat.one_pos
  unfold byteTime
  exact Nat.div_pos (by omega) hrate

theorem leaveLpi_out (p : Nat) (s : State) : (leaveLpi p s).out = s.out :=
  out_of_rest (m := { ports := true }) (by simp)

theorem leaveLpi_others (p : Nat) (s : State) : otherPorts p s (leaveLpi p s) := by
  intro m hm
  unfold leaveLpi
  dsimp only
  split
  · rfl
  · rw [modStats, modPort_ne _ _ _ _ hm, modPort_ne _ _ _ _ hm]

theorem sendOwn_out (p len : Nat) (out : Instant → Output) (s : State) :
    (sendOwn p len out s).out = out ((s.port p).nextStart s.clk.now) :: s.out :=
  congrArg (out ((s.port p).nextStart s.clk.now) :: ·) (leaveLpi_out p s)

theorem sendOwn_port (p len m : Nat) (out : Instant → Output) (s : State) : (sendOwn p len out s).port m =
    (modPort p (fun v => { v with busy := (s.port p).nextStart s.clk.now + byteTime v.gbps (len + 20) }) (leaveLpi p s)).port m :=
  rfl

theorem sendOwn_others (p len : Nat) (out : Instant → Output) (s : State) : otherPorts p s (sendOwn p len out s) := by
  intro m hm
  rw [sendOwn_port, modPort_ne _ _ _ _ hm]
  exact leaveLpi_others p s m hm

theorem sendOwn_rest (p len : Nat) (out : Instant → Output) (s : State) :
    sendOwn p len out s = { s with ports := (sendOwn p len out s).ports, out := (sendOwn p len out s).out } :=
  eq_merged (m := { ports := true, out := true }) (by simp)

/-- The port stays busy until its frame is out. -/
theorem sendOwn_busy (p len : Nat) (out : Instant → Output) (s : State) :
    (s.port p).nextStart s.clk.now < ((sendOwn p len out s).port p).busy := by
  rw [sendOwn_port, modPort_self]
  exact Nat.lt_add_of_pos_right (byteTime_pos _ len)

theorem le_nextStart (v : Port) (now : Instant) : v.busy ≤ v.nextStart now :=
  Nat.le_trans (Nat.le_max_right _ _) (Nat.le_max_left _ _)

/-! ### PTP and ESMC messages -/

section Ptp
variable {s : State} {port : Nat}

/-- The port's entry of the grandmaster service as it was, with another one in its place. -/
def putPtp (port : Nat) (v : Ptp) (s : State) : State := { s with tio := { s.tio with ptp := Tbl.set {} s.tio.ptp port v } }

theorem putPtp_ptp (v : Ptp) : Tbl.get {} (putPtp port v s).tio.ptp port = v ∧
    ∀ k, k ≠ port → Tbl.get {} (putPtp port v s).tio.ptp k = Tbl.get {} s.tio.ptp k :=
  ⟨Tbl.get_set_self _ _ _ _, fun _ hk => Tbl.get_set_ne _ _ _ hk⟩

/-- A port whose service is on sends an Announce when one is due. -/
theorem exec_announce (hen : (Tbl.get {} s.tio.ptp port).en = true) (hup : (s.port port).up = true) (hawake : s.pwr.asleep = false)
    (hdue : ptpDue (Tbl.get {} s.tio.ptp port).annAt 8 s = true) :
    exec (.ptpMessageTransmit port true) s = .next (sendAnnounce port (Tbl.get {} s.tio.ptp port) (putPtp port
      { Tbl.get {} s.tio.ptp port with
        annId := ((Tbl.get {} s.tio.ptp port).annId + 1) % 65536, annAt := some s.clk.now } s)) := by
  change execPtpMessageTransmit port true s = _
  simp [execPtpMessageTransmit, hen, hup, hawake, hdue, putPtp]

/-- It sends a Sync when one is due. -/
theorem exec_sync (hen : (Tbl.get {} s.tio.ptp port).en = true) (hup : (s.port port).up = true) (hawake : s.pwr.asleep = false)
    (hdue : ptpDue (Tbl.get {} s.tio.ptp port).syncAt 16 s = true) :
    exec (.ptpMessageTransmit port false) s = .next (sendSync port (Tbl.get {} s.tio.ptp port) (putPtp port
      { Tbl.get {} s.tio.ptp port with
        seqId := ((Tbl.get {} s.tio.ptp port).seqId + 1) % 65536, syncAt := some s.clk.now } s)) := by
  change execPtpMessageTransmit port false s = _
  simp [execPtpMessageTransmit, hen, hup, hawake, hdue, putPtp]

/-- Nothing is sent before it is due. -/
theorem exec_ptp_early {announce : Bool}
    (hdue : (if announce then ptpDue (Tbl.get {} s.tio.ptp port).annAt 8 s else ptpDue (Tbl.get {} s.tio.ptp port).syncAt 16 s) = false) :
    exec (.ptpMessageTransmit port announce) s = .next s := by
  change execPtpMessageTransmit port announce s = _
  unfold execPtpMessageTransmit
  cases announce <;> simp_all

theorem exec_esmc (hen : (Tbl.get {} s.tio.synce port).en = true) (hup : (s.port port).up = true) (hawake : s.pwr.asleep = false) :
    exec (.esmcTransmit port) s =
      .next (sendOwn port 64 (fun t => .esmc port t (qlSent s (Tbl.get {} s.tio.synce port))) s) := by
  change execEsmcTransmit port s = _
  simp [execEsmcTransmit, hen, hup, hawake]

/-- A frame of the MAC's own changes the port that sends it, after a change of the service's entry. -/
theorem sendOwn_putPtp (len : Nat) (out : Instant → Output) (v : Ptp) :
    Tbl.get {} (sendOwn port len out (putPtp port v s)).tio.ptp port = v ∧
    (∀ k, k ≠ port → Tbl.get {} (sendOwn port len out (putPtp port v s)).tio.ptp k = Tbl.get {} s.tio.ptp k) ∧
    otherPorts port s (sendOwn port len out (putPtp port v s)) ∧
    sendOwn port len out (putPtp port v s) = { s with
      tio := { s.tio with ptp := (sendOwn port len out (putPtp port v s)).tio.ptp }
      ports := (sendOwn port len out (putPtp port v s)).ports, out := (sendOwn port len out (putPtp port v s)).out } := by
  have hframe := sendOwn_rest port len out (putPtp port v s)
  have htio : (sendOwn port len out (putPtp port v s)).tio = (putPtp port v s).tio := by rw [hframe]
  rw [htio]
  exact ⟨(putPtp_ptp v).1, (putPtp_ptp v).2, sendOwn_others _ _ _ (putPtp port v s), hframe⟩

end Ptp

/-- A second frame of the MAC's own starts after the first has started. -/
theorem nextStart_sendOwn (p len : Nat) (out : Instant → Output) (s : State) :
    (s.port p).nextStart s.clk.now < ((sendOwn p len out s).port p).nextStart (sendOwn p len out s).clk.now :=
  Nat.lt_of_lt_of_le (sendOwn_busy p len out s) (le_nextStart _ _)

/-- Two frames of the MAC's own, one after the other. -/
theorem sendOwn_twice (p k l : Nat) (out after : Instant → Output) (s : State) :
    (sendOwn p l after (sendOwn p k out s)).out =
      after (((sendOwn p k out s).port p).nextStart (sendOwn p k out s).clk.now) ::
        out ((s.port p).nextStart s.clk.now) :: s.out ∧
    otherPorts p s (sendOwn p l after (sendOwn p k out s)) ∧
    sendOwn p l after (sendOwn p k out s) = { s with
      ports := (sendOwn p l after (sendOwn p k out s)).ports, out := (sendOwn p l after (sendOwn p k out s)).out } := by
  refine ⟨by rw [sendOwn_out, sendOwn_out], fun m hm => ?_, eq_merged (m := { ports := true, out := true }) (by simp)⟩
  exact (sendOwn_others p l after _ m hm).trans (sendOwn_others p k out s m hm)

/-- A Sync of a two-step port and its Follow_Up, which carries the Sync's stamp (R204). -/
theorem sendSync_frames {p : Ptp} {port : Nat} {s : State} (htwo : p.twoStep = true) (v : Ptp) :
    ∃ u : State, u.clk.now = s.clk.now ∧ u.ports = s.ports ∧ u.out = s.out ∧
      u = { s with clk := u.clk, tio := { s.tio with ptp := u.tio.ptp } } ∧ ∃ sync follow : PtpMsg,
      (sync.kind = .sync ∧ sync.twoStep = true ∧ sync.seq = p.seqId ∧ sync.dst = p.addr) ∧
      (follow.kind = .followUp ∧ follow.seq = p.seqId ∧ follow.dst = p.addr ∧
        follow.secs = secOf (txInstant (s.port port) (lineAt ((s.port port).nextStart s.clk.now) s)) ∧
        follow.nanos = nsOf (txInstant (s.port port) (lineAt ((s.port port).nextStart s.clk.now) s))) ∧
      sendSync port p (putPtp port v s) =
        sendOwn port 64 (fun t => .ptp port t follow) (sendOwn port 64 (fun t => .ptp port t sync) u) := by
  unfold sendSync
  rw [if_pos htwo]
  exact ⟨(draw (putPtp port v s)).2, rfl, rfl, rfl, rfl, _, _, ⟨rfl, rfl, rfl, rfl⟩, ⟨rfl, rfl, rfl, rfl, rfl⟩, rfl⟩

/-- Settles O13: each event's outcome is written out; what it leaves follows from the components it can reach. -/
theorem lineTimeEvents : Obligations.LineTimeEvents := by
  unfold Obligations.LineTimeEvents
  refine ⟨fun s => ⟨?_, ?_, ?_, rfl⟩, fun s => ⟨?_, ?_, ?_, ?_⟩⟩
  · intro t0 hservo hphase hlong hlive
    obtain ⟨hnow, hholdover, hcount⟩ := enterTrack_time s
    exact nextWith_of (exec_servoTrackEntry hservo hphase hlong hlive) ⟨hnow, hholdover, hcount, enterTrack_flag s,
      (carriers_of_rest (enterTrack_rest s) :), (reg_of_rest (enterTrack_rest s) :), enterTrack_selfTest s,
      (cmd_of_rest (enterTrack_rest s) :)⟩
  · intro t0 hstamp hlong hservo
    obtain ⟨hnow, hholdover, hdown⟩ := enterHoldover_time s
    exact nextWith_of (exec_servoStampTimeout hstamp hlong hservo) ⟨hnow, hholdover, enterHoldover_flag s, hdown,
      enterHoldover_carriers s, enterHoldover_reg s, enterHoldover_cmd s⟩
  · intro hholdover hbeyond hlimit
    change execHoldoverLimit s = _
    simp [execHoldoverLimit, hholdover, hbeyond, hlimit]
  · intro o e active tr hedge htrain hdue
    have hexec : exec (.timeOutputEdge o) s = .next (driveEdge o e active s) := by
      change execTimeOutputEdge o s = _
      simp [execTimeOutputEdge, hedge, hdue]
    obtain ⟨htio, hframe⟩ := driveEdge_eq o e active s
    refine nextWith_of hexec ?_
    rw [htio]
    dsimp only
    exact ⟨Tbl.get_set_self _ _ _ _, Tbl.get_set_self _ _ _ _, fun h => driveEdge_out_new e h htrain,
      driveEdge_out_same e, fun k hk => ⟨Tbl.get_set_ne _ _ _ hk, Tbl.get_set_ne _ _ _ hk⟩, htio ▸ hframe⟩
  · intro o hnone
    change execTimeOutputEdge o s = _
    unfold execTimeOutputEdge
    rcases hnone with h | ⟨e, active, h, hlater⟩
    · rw [h]
    · rw [h]
      simp only [Nat.not_le.mpr hlater, if_false]
  · intro port p start hp hstart hen hup hawake
    subst hp hstart
    refine ⟨?_, ?_, ?_, fun h => exec_ptp_early h, fun h => exec_ptp_early h⟩
    · intro hdue
      refine nextWith_of (exec_announce hen hup hawake hdue) ?_
      exact ⟨sendOwn_out _ _ _ _, sendOwn_putPtp _ _ _⟩
    · intro hdue hone
      refine nextWith_of (exec_sync hen hup hawake hdue) ?_
      unfold sendSync
      rw [if_neg (by rw [hone]; exact Bool.false_ne_true)]
      exact ⟨⟨_, sendOwn_out _ _ _ _, rfl, rfl, rfl, rfl, rfl, rfl, rfl⟩, sendOwn_putPtp _ _ _⟩
    · intro hdue htwo
      refine nextWith_of (exec_sync hen hup hawake hdue) ?_
      obtain ⟨u, hclk, hports, hout, hframe, sync, follow, hsync, hfollow, hsend⟩ := sendSync_frames (s := s) htwo _
      obtain ⟨hkind, htwoStep, hseq, hdst⟩ := hsync
      obtain ⟨hkind', hseq', hdst', hsecs, hnanos⟩ := hfollow
      have hport (m : Nat) : u.port m = s.port m := by unfold State.port; rw [hports]
      have hstart : (u.port port).nextStart u.clk.now = (s.port port).nextStart s.clk.now := by rw [hport, hclk]
      have hlater := nextStart_sendOwn port 64 (fun t => .ptp port t sync) u
      obtain ⟨hsent, hothers, htwice⟩ :=
        sendOwn_twice port 64 64 (fun t => .ptp port t sync) (fun t => .ptp port t follow) u
      rw [hstart, hout] at hsent
      rw [hstart] at hlater
      rw [hsend]
      refine ⟨⟨sync, follow, _, hsent, hkind, htwoStep, hseq, hkind', hseq', hdst', hdst, hlater, hsecs, hnanos⟩,
        fun m hm => (hothers m hm).trans (hport m), ?_⟩
      generalize sendOwn port 64 (fun t => .ptp port t follow) (sendOwn port 64 (fun t => .ptp port t sync) u) = t at htwice
      have hclk' : t.clk = u.clk := by rw [htwice]
      have htio' : t.tio = u.tio := by rw [htwice]
      rw [hclk', htio']
      exact htwice.trans (congrArg (fun w : State => { w with ports := t.ports, out := t.out }) hframe)
  · intro port hen hup hawake
    exact nextWith_of (exec_esmc hen hup hawake) ⟨sendOwn_out _ _ _ _, sendOwn_others _ _ _ _, sendOwn_rest _ _ _ _⟩

end Sys2Proof.Proofs.LineTimeEvents
end

section
/-!
Carriers (chapter 03): what the operations on one carrier do to it and leave of the others, and O15.
-/
namespace Sys2Proof.Proofs.CarrierEvents
open Sys2Proof Sys2Proof.Machine Sys2Proof.Proofs.Frames Sys2Proof.Proofs.Rules

set_option Elab.async false

@[simp] theorem retime_carrier (s : State) (n : Nat) : (retime s).carrier n = s.carrier n := by
  unfold State.carrier
  rw [show (retime s).carriers = s.carriers from carriers_of_rest (m := { clk := true, time := true, tio := true, trib := true, cls := true, q := true, ports := true, snaps := true, sec := true, groups := true, evc := true, pwr := true, out := true }) (by simp)]
@[simp] theorem notePower_carrier (s : State) (s1 : State) (n : Nat) : (notePower s s1).carrier n = s1.carrier n := by
  unfold State.carrier
  rw [show (notePower s s1).carriers = s1.carriers from carriers_of_rest (m := { evc := true, out := true }) (by simp)]
@[simp] theorem raiseCarrier_carrier (a0 : Nat) (a1 : Nat) (s : State) (n : Nat) : (raiseCarrier a0 a1 s).carrier n = s.carrier n := by
  unfold State.carrier
  rw [show (raiseCarrier a0 a1 s).carriers = s.carriers from carriers_of_rest (m := { evc := true, out := true }) (by simp)]
@[simp] theorem raiseCarrier_reg (a0 : Nat) (a1 : Nat) (s : State) : (raiseCarrier a0 a1 s).reg = s.reg :=
  reg_of_rest (m := { evc := true, out := true }) (by simp)
@[simp] theorem raiseCarrier_cmd (a0 : Nat) (a1 : Nat) (s : State) : (raiseCarrier a0 a1 s).cmd = s.cmd :=
  cmd_of_rest (m := { evc := true, out := true }) (by simp)
@[simp] theorem runDuty_carrier (a0 : Nat) (a1 : Nat) (s : State) (n : Nat) : (runDuty a0 a1 s).carrier n = s.carrier n := by
  unfold State.carrier
  rw [show (runDuty a0 a1 s).carriers = s.carriers from carriers_of_rest (m := { out := true }) (by simp)]
@[simp] theorem runDuty_clk (a0 : Nat) (a1 : Nat) (s : State) : (runDuty a0 a1 s).clk = s.clk :=
  clk_of_rest (m := { out := true }) (by simp)
@[simp] theorem loseBursts_carrier (a0 : List Burst) (s : State) (n : Nat) : (loseBursts a0 s).carrier n = s.carrier n := by
  unfold State.carrier
  rw [show (loseBursts a0 s).carriers = s.carriers from carriers_of_rest (m := { q := true, evc := true, pmc := true, out := true }) (by simp)]
@[simp] theorem feFault_reg (a0 : Nat) (a1 : FaultCause) (s : State) : (feFault a0 a1 s).reg = s.reg :=
  reg_of_rest (m := { carriers := true, evc := true, out := true }) (by simp)
@[simp] theorem feFault_cmd (a0 : Nat) (a1 : FaultCause) (s : State) : (feFault a0 a1 s).cmd = s.cmd :=
  cmd_of_rest (m := { carriers := true, evc := true, out := true }) (by simp)
@[simp] theorem dropWindow_carrier (a0 : Nat) (s : State) (n : Nat) : (dropWindow a0 s).carrier n = s.carrier n := by
  unfold State.carrier
  rw [show (dropWindow a0 s).carriers = s.carriers from carriers_of_rest (m := { reg := true }) (by simp)]
@[simp] theorem dropWindow_q (a0 : Nat) (s : State) : (dropWindow a0 s).q = s.q :=
  q_of_rest (m := { reg := true }) (by simp)
@[simp] theorem rerange_carrier (s : State) (n : Nat) : (rerange s).carrier n = s.carrier n := by
  unfold State.carrier
  rw [show (rerange s).carriers = s.carriers from carriers_of_rest (m := { clk := true, time := true, tio := true, trib := true, cls := true, q := true, ports := true, snaps := true, sec := true, groups := true, evc := true, pwr := true, out := true }) (by simp)]
@[simp] theorem rerange_reg (s : State) : (rerange s).reg = s.reg :=
  reg_of_rest (m := { clk := true, time := true, tio := true, trib := true, cls := true, q := true, ports := true, snaps := true, sec := true, groups := true, evc := true, pwr := true, out := true }) (by simp)
@[simp] theorem turnOff_reg (a0 : Nat) (s : State) : (turnOff a0 s).reg = s.reg :=
  reg_of_rest (m := { clk := true, time := true, tio := true, carriers := true, trib := true, cls := true, q := true, ports := true, snaps := true, sec := true, groups := true, evc := true, pmc := true, pwr := true, out := true }) (by simp)
@[simp] theorem turnOff_cmd (a0 : Nat) (s : State) : (turnOff a0 s).cmd = s.cmd :=
  cmd_of_rest (m := { clk := true, time := true, tio := true, carriers := true, trib := true, cls := true, q := true, ports := true, snaps := true, sec := true, groups := true, evc := true, pmc := true, pwr := true, out := true }) (by simp)
@[simp] theorem enterAcquire_reg (a0 : Nat) (s : State) : (enterAcquire a0 s).reg = s.reg :=
  reg_of_rest (m := { clk := true, time := true, tio := true, carriers := true, trib := true, cls := true, q := true, ports := true, snaps := true, sec := true, groups := true, evc := true, pwr := true, out := true }) (by simp)
@[simp] theorem enterAcquire_cmd (a0 : Nat) (s : State) : (enterAcquire a0 s).cmd = s.cmd :=
  cmd_of_rest (m := { clk := true, time := true, tio := true, carriers := true, trib := true, cls := true, q := true, ports := true, snaps := true, sec := true, groups := true, evc := true, pwr := true, out := true }) (by simp)
@[simp] theorem enterLocked_reg (a0 : Nat) (s : State) : (enterLocked a0 s).reg = s.reg :=
  reg_of_rest (m := { clk := true, time := true, tio := true, carriers := true, trib := true, cls := true, q := true, ports := true, snaps := true, sec := true, groups := true, evc := true, pwr := true, out := true }) (by simp)
@[simp] theorem enterLocked_cmd (a0 : Nat) (s : State) : (enterLocked a0 s).cmd = s.cmd :=
  cmd_of_rest (m := { clk := true, time := true, tio := true, carriers := true, trib := true, cls := true, q := true, ports := true, snaps := true, sec := true, groups := true, evc := true, pwr := true, out := true }) (by simp)
@[simp] theorem enterMismatch_reg (a0 : Nat) (s : State) : (enterMismatch a0 s).reg = s.reg :=
  reg_of_rest (m := { clk := true, time := true, tio := true, carriers := true, trib := true, cls := true, q := true, ports := true, snaps := true, sec := true, groups := true, evc := true, pwr := true, out := true }) (by simp)
@[simp] theorem enterMismatch_cmd (a0 : Nat) (s : State) : (enterMismatch a0 s).cmd = s.cmd :=
  cmd_of_rest (m := { clk := true, time := true, tio := true, carriers := true, trib := true, cls := true, q := true, ports := true, snaps := true, sec := true, groups := true, evc := true, pwr := true, out := true }) (by simp)
@[simp] theorem enterLost_reg (a0 : Nat) (s : State) : (enterLost a0 s).reg = s.reg :=
  reg_of_rest (m := { clk := true, time := true, tio := true, carriers := true, trib := true, cls := true, q := true, ports := true, snaps := true, sec := true, groups := true, evc := true, pwr := true, out := true }) (by simp)
@[simp] theorem enterLost_cmd (a0 : Nat) (s : State) : (enterLost a0 s).cmd = s.cmd :=
  cmd_of_rest (m := { clk := true, time := true, tio := true, carriers := true, trib := true, cls := true, q := true, ports := true, snaps := true, sec := true, groups := true, evc := true, pwr := true, out := true }) (by simp)
@[simp] theorem discardDrawn_reg (a0 : Nat) (s : State) : (discardDrawn a0 s).reg = s.reg :=
  reg_of_rest (m := { carriers := true, q := true, evc := true, pmc := true, out := true }) (by simp)
@[simp] theorem discardDrawn_cmd (a0 : Nat) (s : State) : (discardDrawn a0 s).cmd = s.cmd :=
  cmd_of_rest (m := { carriers := true, q := true, evc := true, pmc := true, out := true }) (by simp)
@[simp] theorem discardDrawn_clk (a0 : Nat) (s : State) : (discardDrawn a0 s).clk = s.clk :=
  clk_of_rest (m := { carriers := true, q := true, evc := true, pmc := true, out := true }) (by simp)
@[simp] theorem discardDrawn_time (a0 : Nat) (s : State) : (discardDrawn a0 s).time = s.time :=
  time_of_rest (m := { carriers := true, q := true, evc := true, pmc := true, out := true }) (by simp)
@[simp] theorem startEnable_reg (a0 : Nat) (s : State) : (startEnable a0 s).reg = s.reg :=
  reg_of_rest (m := { clk := true, time := true, tio := true, carriers := true, trib := true, cls := true, q := true, ports := true, snaps := true, sec := true, groups := true, evc := true, pwr := true, out := true }) (by simp)
@[simp] theorem startDisable_reg (a0 : Nat) (s : State) : (startDisable a0 s).reg = s.reg :=
  reg_of_rest (m := { carriers := true, q := true, evc := true, pmc := true, out := true }) (by simp)
@[simp] theorem emit_carrier (a0 : Output) (s : State) (n : Nat) : (emit a0 s).carrier n = s.carrier n := by
  unfold State.carrier
  rw [show (emit a0 s).carriers = s.carriers from carriers_of_rest (m := { out := true }) (by simp)]
@[simp] theorem dropHeld_reg (a0 : Nat) (s : State) : (dropHeld a0 s).reg = s.reg :=
  reg_of_rest (m := { carriers := true }) (by simp)
@[simp] theorem dropHeld_cmd (a0 : Nat) (s : State) : (dropHeld a0 s).cmd = s.cmd :=
  cmd_of_rest (m := { carriers := true }) (by simp)

@[simp] theorem enterCarrier_carrier (n : Nat) (st : CarrierState) (s : State) (m : Nat) : (enterCarrier n st s).carrier m =
    (modCarrier n (fun c => { c with state := st, since := s.clk.now }) s).carrier m := by
  simp [enterCarrier]

/-- The bursts drawn are given up, with the remainder that the first of them would have completed held again. -/
theorem discardDrawn_self (n : Nat) (s : State) : ∃ r b, (discardDrawn n s).carrier n =
    { s.carrier n with drawn := [], remainder := r, remTrib := b } := by
  unfold discardDrawn
  split
  case h_1 hdrawn => exact ⟨(s.carrier n).remainder, (s.carrier n).remTrib, by rw [← hdrawn]⟩
  case h_2 b l hdrawn => exact ⟨b.remIn, b.remTribIn, by simp⟩

theorem discardDrawn_ne {n m : Nat} (h : m ≠ n) (s : State) : (discardDrawn n s).carrier m = s.carrier m := by
  unfold discardDrawn
  split
  · rfl
  · simp [modCarrier_ne _ _ _ _ h]

theorem turnOff_self (n : Nat) (s : State) : ((turnOff n s).carrier n).state = .off ∧
    ((turnOff n s).carrier n).disabling = false ∧ ((turnOff n s).carrier n).held = [] := by
  unfold turnOff
  simp [dropHeld]

theorem turnOff_ne {n m : Nat} (h : m ≠ n) (s : State) : (turnOff n s).carrier m = s.carrier m := by
  unfold turnOff
  simp [dropHeld, modCarrier_ne _ _ _ _ h, discardDrawn_ne h]

theorem enterAcquire_ne {n m : Nat} (h : m ≠ n) (s : State) : (enterAcquire n s).carrier m = s.carrier m := by
  unfold enterAcquire
  simp [modCarrier_ne _ _ _ _ h]

theorem enterLocked_ne {n m : Nat} (h : m ≠ n) (s : State) : (enterLocked n s).carrier m = s.carrier m := by
  unfold enterLocked
  simp [modCarrier_ne _ _ _ _ h]

theorem enterMismatch_ne {n m : Nat} (h : m ≠ n) (s : State) : (enterMismatch n s).carrier m = s.carrier m := by
  unfold enterMismatch
  simp [modCarrier_ne _ _ _ _ h]

theorem enterLost_ne {n m : Nat} (h : m ≠ n) (s : State) : (enterLost n s).carrier m = s.carrier m := by
  unfold enterLost
  simp [modCarrier_ne _ _ _ _ h]

@[simp] theorem feFault_self (n : Nat) (why : FaultCause) (s : State) :
    (feFault n why s).carrier n = { s.carrier n with lastFault := why } := by
  simp [feFault]

theorem feFault_ne {n m : Nat} (h : m ≠ n) (why : FaultCause) (s : State) : (feFault n why s).carrier m = s.carrier m := by
  simp [feFault, modCarrier_ne _ _ _ _ h]

/-! ### States (Table 3-4) -/

section States
variable {s : State} {n : Nat}

/-- CARRIER_LOCKED acts when every step of the acquisition has passed (R58, R59). -/
theorem exec_carrierLocked {pow : Nat} {d : Int} {a b : List Byte}
    (hstate : (s.carrier n).state = .acquire ∨ (s.carrier n).state = .lost) (hdisabling : (s.carrier n).disabling = false)
    (hpower : (s.carrier n).threshold < pow) (hlo : -90000 ≤ d) (hhi : d ≤ 90000) (haligned : (s.carrier n).aligned = true) :
    exec (.carrierLocked n pow d a b) s = .next (
      if planMatches (s.carrier n) (s.carrier n).profile a && planMatches (s.carrier n) (s.carrier n).profile b then
        enterLocked n (modCarrier n (fun c => { c with disp := d }) s)
      else enterMismatch n (modCarrier n (fun c => { c with disp := d }) s)) := by
  have hrange : d.natAbs ≤ 90000 := by omega
  change execCarrierLocked n pow d a b s = _
  unfold execCarrierLocked
  simp [hstate, hdisabling, hpower, hrange, haligned]

/-- A step that has not passed is no lock. -/
theorem exec_carrierLocked_not {pow : Nat} {d : Int} {a b : List Byte}
    (h : pow ≤ (s.carrier n).threshold ∨ (s.carrier n).aligned = false ∨ d < -90000 ∨ 90000 < d) :
    exec (.carrierLocked n pow d a b) s = .next s := by
  change execCarrierLocked n pow d a b s = _
  unfold execCarrierLocked
  dsimp only
  rw [if_neg]
  rintro ⟨-, -, hpower, hrange, haligned⟩
  rcases h with h | h | h | h
  · omega
  · simp [h] at haligned
  · omega
  · omega

end States

/-! ### Front end and gate (R67, R70, R71) -/

/-- The burst in flight is cut, if one is (R67). -/
def gateStopped (n : Nat) (s : State) : State := if received s < (s.carrier n).winEnd then emit (.gateStop n false) s else s

@[simp] theorem gateStopped_carrier (n m : Nat) (s : State) : (gateStopped n s).carrier m = s.carrier m := by
  unfold gateStopped
  split <;> simp

@[simp] theorem gateStopped_reg (n : Nat) (s : State) : (gateStopped n s).reg = s.reg := by
  unfold gateStopped
  split <;> simp

@[simp] theorem gateStopped_cmd (n : Nat) (s : State) : (gateStopped n s).cmd = s.cmd := by
  unfold gateStopped
  split <;> simp

theorem gateStopped_open {n : Nat} {s : State} (h : received s < (s.carrier n).winEnd) :
    gateStopped n s = emit (.gateStop n false) s := if_pos h

@[simp] theorem received_discardDrawn (n : Nat) (s : State) : received (discardDrawn n s) = received s := by
  simp [received]

/-- GATE_FAULT gives up the bursts drawn, cuts the one in flight and inhibits the carrier (R67). -/
theorem exec_gateFault {s : State} {n sensed held : Nat} {cause : FaultCause} (hhas : s.hasCarrier n = true)
    (halarm : gateAlarm n sensed held s = some cause) :
    exec (.gateFault n sensed held) s = .next (raiseCarrier n 4 (modCarrier n (fun c =>
      { c with winEnd := min c.winEnd (received s), gateInhibit := some cause, lastFault := cause })
        (gateStopped n (discardDrawn n s)))) := by
  have hrx : received (gateStopped n (discardDrawn n s)) = received s := by
    unfold gateStopped
    split
    · exact received_discardDrawn n s
    · exact received_discardDrawn n s
  change execGateFault n sensed held s = _
  unfold execGateFault
  simp only [hhas, halarm, if_true]
  rw [← hrx]
  rfl

/-- CARRIER_SECOND of a carrier LOCKED for the whole second shows its values (R74). -/
theorem exec_carrierSecond {s : State} {n : Nat} {m : MonitorSample} (hstate : (s.carrier n).state = .locked)
    (hnew : (s.carrier n).second ≠ secondOf s) (hwhole : (s.carrier n).whole = true) :
    exec (.carrierSecond n m) s = .next (
      if decide ((s.carrier n).degradeRun < m.preFec) && !(s.carrier n).degraded then
        raiseCarrier n 2 (modCarrier n (fun c => { c with
          monitor := some { m with uncorr := (s.carrier n).nUncorr }
          degraded := (c.degraded || (decide ((s.carrier n).degradeRun < m.preFec) && !(s.carrier n).degraded)) &&
            !decide (m.preFec * 10 < (s.carrier n).degradeRun * 9)
          second := secondOf s, whole := true, nUncorr := 0, degradeRun := c.degrade, disp := m.disp
          hint := c.slot.map fun k => (k, m.disp) }) s)
      else modCarrier n (fun c => { c with
          monitor := some { m with uncorr := (s.carrier n).nUncorr }
          degraded := (c.degraded || (decide ((s.carrier n).degradeRun < m.preFec) && !(s.carrier n).degraded)) &&
            !decide (m.preFec * 10 < (s.carrier n).degradeRun * 9)
          second := secondOf s, whole := true, nUncorr := 0, degradeRun := c.degrade, disp := m.disp
          hint := c.slot.map fun k => (k, m.disp) }) s) := by
  change execCarrierSecond n m s = _
  unfold execCarrierSecond
  dsimp only
  rw [if_pos ⟨hstate, hnew⟩, if_pos hwhole]
  rfl

/-- Settles O15. -/
theorem carrierEvents : Obligations.CarrierEvents := by
  unfold Obligations.CarrierEvents
  refine ⟨fun s n => ⟨?_, ?_, ?_, ?_, ?_, ?_, ?_, ?_, ?_, ?_⟩, fun s n => ⟨?_, ?_, ?_, ?_, ?_, ?_, ?_, ?_, ?_, ?_, ?_, ?_, ?_, ?_⟩⟩
  · intro hstate
    have hexec : exec (.tuneComplete n) s = .next (enterAcquire n s) := by
      change execTuneComplete n s = _
      simp [execTuneComplete, hstate]
    exact nextWith_of hexec ⟨by simp [enterAcquire], by simp [enterAcquire], fun m hm => enterAcquire_ne hm s, by simp, by simp⟩
  · intro hstate hlong
    have hexec : exec (.tuneTimeout n) s = .next (feFault n .tuneTimeout (turnOff n s)) := by
      change execTuneTimeout n s = _
      simp [execTuneTimeout, hstate, hlong]
    obtain ⟨hoff, -, -⟩ := turnOff_self n s
    exact nextWith_of hexec ⟨by simp [hoff], by simp, fun m hm => (feFault_ne hm _ _).trans (turnOff_ne hm s), by simp, by simp⟩
  · intro pow d a b hstate hdisabling hpower hlo hhi haligned
    refine nextWith_of (exec_carrierLocked hstate hdisabling hpower hlo hhi haligned) ?_
    split
    case isTrue hplan =>
      simp only [Bool.and_eq_true] at hplan
      refine ⟨fun _ _ => ⟨by simp [enterLocked], by simp [enterLocked], by simp [enterLocked]⟩,
        fun h => by simp [hplan] at h, by simp [enterLocked], fun m hm => ?_, by simp, by simp⟩
      rw [enterLocked_ne hm, modCarrier_ne _ _ _ _ hm]
    case isFalse hplan =>
      refine ⟨fun ha hb => absurd (by rw [ha, hb]; rfl) hplan, fun _ => ⟨by simp [enterMismatch], by simp [enterMismatch]⟩,
        by simp [enterMismatch], fun m hm => ?_, by simp, by simp⟩
      rw [enterMismatch_ne hm, modCarrier_ne _ _ _ _ hm]
  · intro pow d a b h
    exact exec_carrierLocked_not h
  · intro hstate
    have hexec : exec (.acqTimeout n) s = .next (
        if (s.carrier n).acqFailed then
          modCarrier n (fun c => { c.attempt with acqFailed := true, attempts := satInc 32 c.attempts }) s
        else raiseCarrier n 7
          (modCarrier n (fun c => { c.attempt with acqFailed := true, attempts := satInc 32 c.attempts }) s)) := by
      change execAcqTimeout n s = _
      simp [execAcqTimeout, hstate]
    refine nextWith_of hexec ?_
    refine ⟨?_, ?_, ?_, ?_⟩
    · split <;> simp
    · split <;> simp [Carrier.attempt, hstate]
    · intro m hm
      split <;> simp [modCarrier_ne _ _ _ _ hm]
    · exact eq_merged (m := { carriers := true, evc := true, out := true }) (by split <;> simp)
  · intro pow hpower
    change execCarrierLost n pow s = _
    unfold execCarrierLost
    dsimp only
    rw [if_neg (by omega)]
  · intro pow hstate hpower
    have hexec : exec (.carrierLost n pow) s = .next (enterLost n s) := by
      change execCarrierLost n pow s = _
      simp [execCarrierLost, hstate, hpower]
    exact nextWith_of hexec ⟨by simp [enterLost], by simp [enterLost], fun m hm => enterLost_ne hm s, by simp, by simp⟩
  · intro hstate hlong
    have hexec : exec (.lostTimeout n) s = .next (enterAcquire n (dropHeld n (discardDrawn n s))) := by
      change execLostTimeout n s = _
      simp [execLostTimeout, hstate, hlong]
    obtain ⟨r, b, hself⟩ := discardDrawn_self n s
    refine nextWith_of hexec ⟨by simp [enterAcquire], by simp [enterAcquire, dropHeld, Carrier.attempt],
      by simp [enterAcquire, dropHeld, Carrier.attempt, hself], fun m hm => ?_, by simp, by simp⟩
    simp [enterAcquire_ne hm, dropHeld, modCarrier_ne _ _ _ _ hm, discardDrawn_ne hm]
  · intro hend
    change execCarrierDisableComplete n s = _
    unfold execCarrierDisableComplete
    rw [if_neg fun h => Nat.not_le.mpr hend h.2]
  · intro hdisabling hend
    have hexec : exec (.carrierDisableComplete n) s = .next (turnOff n s) := by
      change execCarrierDisableComplete n s = _
      simp [execCarrierDisableComplete, hdisabling, hend]
    obtain ⟨hoff, hdone, hheld⟩ := turnOff_self n s
    exact nextWith_of hexec ⟨hoff, hdone, hheld, fun m hm => turnOff_ne hm s, by simp, by simp⟩
  · intro off hstate
    have hexec : exec (.laserFineTune n off) s = .next (
        if decide (200 < off.natAbs) && !(s.carrier n).laserInhibit then feFault n .laserOffset (modCarrier n (fun c =>
          { c with laserOff := off, laserInhibit := decide (200 < off.natAbs) }) (runDuty n dutyFine s))
        else modCarrier n (fun c =>
          { c with laserOff := off, laserInhibit := decide (200 < off.natAbs) }) (runDuty n dutyFine s)) := by
      change execLaserFineTune n off s = _
      simp [execLaserFineTune, hstate]
    refine nextWith_of hexec ⟨?_, ?_, ?_, fun m hm => ?_, eq_merged (m := { carriers := true, evc := true, out := true }) ?_⟩
    · split <;> simp
    · split <;> simp
    · split <;> simp
    · split <;> simp [feFault_ne hm, modCarrier_ne _ _ _ _ hm]
    · split <;> simp
  · intro a hon
    have hexec : exec (.feDuty n .bias true a) s = .next (modCarrier n (fun c => { c with
        biasGood := satInc 8 (s.carrier n).biasGood, biasFail := 0
        biasInhibit := c.biasInhibit && !((s.carrier n).biasInhibit && decide (16 ≤ satInc 8 (s.carrier n).biasGood))
        clearAt := if (s.carrier n).biasInhibit && decide (16 ≤ satInc 8 (s.carrier n).biasGood) then
          received (runDuty n dutyBias s) else c.clearAt }) (runDuty n dutyBias s)) := by
      change execFeDuty n .bias true a s = _
      simp [execFeDuty, hon]
    exact nextWith_of hexec ⟨by simp, by simp, fun m hm => by simp [modCarrier_ne _ _ _ _ hm],
      eq_merged (m := { carriers := true, evc := true, out := true }) (by simp)⟩
  · intro a hon
    have hexec : exec (.feDuty n .bias false a) s = .next (
        if satInc 8 (s.carrier n).biasFail = 16 then feFault n .bias (modCarrier n (fun c => { c with
          biasFail := satInc 8 (s.carrier n).biasFail, biasGood := 0
          biasInhibit := c.biasInhibit || decide (16 ≤ satInc 8 (s.carrier n).biasFail) }) (runDuty n dutyBias s))
        else modCarrier n (fun c => { c with
          biasFail := satInc 8 (s.carrier n).biasFail, biasGood := 0
          biasInhibit := c.biasInhibit || decide (16 ≤ satInc 8 (s.carrier n).biasFail) }) (runDuty n dutyBias s)) := by
      change execFeDuty n .bias false a s = _
      simp [execFeDuty, hon]
    refine nextWith_of hexec ⟨?_, ?_, fun m hm => ?_, eq_merged (m := { carriers := true, evc := true, out := true }) ?_⟩
    · split <;> simp
    · split <;> simp
    · split <;> simp [feFault_ne hm, modCarrier_ne _ _ _ _ hm]
    · split <;> simp
  · intro ok a hon
    have hexec : exec (.feDuty n .receiver ok a) s = .next (
        if (if ok then 0 else satInc 8 (s.carrier n).rxFail) = 16 then feFault n .rx (modCarrier n (fun c => { c with
          rxFail := if ok then 0 else satInc 8 (s.carrier n).rxFail }) (runDuty n dutyReceiver s))
        else modCarrier n (fun c => { c with
          rxFail := if ok then 0 else satInc 8 (s.carrier n).rxFail }) (runDuty n dutyReceiver s)) := by
      change execFeDuty n .receiver ok a s = _
      simp [execFeDuty, hon]
    refine nextWith_of hexec ?_
    generalize (if ok then 0 else satInc 8 (s.carrier n).rxFail) = k
    refine ⟨?_, fun m hm => ?_, eq_merged (m := { carriers := true, evc := true, out := true }) ?_⟩
    · split <;> simp
    · split <;> simp [feFault_ne hm, modCarrier_ne _ _ _ _ hm]
    · split <;> simp
  · intro ok a hon
    have hexec : exec (.feDuty n .alarms ok a) s = .next (
        if a = 0 then modCarrier n (fun c => { c with alarms := a }) (runDuty n dutyAlarms s)
        else feFault n .alarm (modCarrier n (fun c => { c with alarms := a }) (runDuty n dutyAlarms s))) := by
      change execFeDuty n .alarms ok a s = _
      simp [execFeDuty, hon]
    refine nextWith_of hexec ⟨?_, fun m hm => ?_, eq_merged (m := { carriers := true, evc := true, out := true }) ?_⟩
    · split <;> simp
    · split <;> simp [feFault_ne hm, modCarrier_ne _ _ _ _ hm]
    · split <;> simp
  · intro duty x hhas hallow
    have hexec : exec (.spiTimeout n duty x) s = .next (
        feFault n (if duty = dutyOff then .shutdown else .spiTimeout) (emit (.frontEnd (3 * n + x.cs) x) s)) := by
      change execSpiTimeout n duty x s = _
      simp [execSpiTimeout, hhas, hallow]
    refine nextWith_of hexec ⟨by rw [feFault_self]; rfl, ?_, by simp, fun m hm => by simp [feFault_ne hm],
      eq_merged (m := { carriers := true, evc := true, out := true }) (by simp)⟩
    exact mem_raise _ (List.mem_cons_self ..)
  · intro duty x hallow
    change execSpiTimeout n duty x s = _
    simp [execSpiTimeout, hallow]
  · intro sensed held cause hhas halarm
    obtain ⟨r, b, hself⟩ := discardDrawn_self n s
    refine nextWith_of (exec_gateFault hhas halarm) ⟨by simp, by simp, by simp [hself], fun hopen => ?_, by simp [hself], ?_,
      by simp [hself], fun m hm => ?_, by simp, by simp⟩
    · have hopen' : received (discardDrawn n s) < ((discardDrawn n s).carrier n).winEnd := by simpa [hself] using hopen
      rw [gateStopped_open hopen']
      exact mem_raise _ (List.mem_cons_self ..)
    · simp [gateDrive]
    · simp [modCarrier_ne _ _ _ _ hm, gateStopped_carrier, discardDrawn_ne hm]
  · intro sensed held halarm
    change execGateFault n sensed held s = _
    simp [execGateFault, halarm]
  · intro sensed held hover hlong
    simp [gateAlarm, hover, hlong]
  · intro sensed held hlow hshort
    have hshort' : ¬ 100 ≤ held := by omega
    have hlow' : ¬ (s.carrier n).gate.off < sensed := by omega
    simp [gateAlarm, hshort', hlow']
  · intro m hstate hnew hwhole
    refine nextWith_of (exec_carrierSecond hstate hnew hwhole) ⟨?_, ?_, ?_, ?_, fun k hk => ?_,
      eq_merged (m := { carriers := true, evc := true, out := true }) ?_⟩
    · split <;> simp
    · split <;> simp
    · split <;> simp
    · split <;> cases hdegraded : (s.carrier n).degraded <;> simp [hdegraded]
    · split <;> simp [modCarrier_ne _ _ _ _ hk]
    · split <;> simp
  · intro m hstate hnew hwhole
    have hexec : exec (.carrierSecond n m) s = .next (modCarrier n (fun c => { c with
        second := secondOf s, whole := true, nUncorr := 0, degradeRun := c.degrade, disp := m.disp
        hint := c.slot.map fun k => (k, m.disp) }) s) := by
      change execCarrierSecond n m s = _
      simp [execCarrierSecond, hstate, hnew, hwhole]
    exact nextWith_of hexec ⟨by simp, by simp, fun k hk => by simp [modCarrier_ne _ _ _ _ hk],
      eq_merged (m := { carriers := true }) (by simp)⟩
  · intro m hsame
    change execCarrierSecond n m s = _
    simp [execCarrierSecond, hsame]

end Sys2Proof.Proofs.CarrierEvents
end

section
/-!
The carrier commands (chapter 03): O14.
-/
namespace Sys2Proof.Proofs.CarrierCommands
open Sys2Proof Sys2Proof.Machine Sys2Proof.Proofs.Frames Sys2Proof.Proofs.Rules Sys2Proof.Proofs.CarrierEvents

set_option Elab.async false

/-! ### carrier.config (R11, R51, R73) -/

/-- What putting a configuration in force does: the carrier takes it, with held windows moved by the new delay. -/
theorem putCarrierConfig_self (n : Nat) (p : CarrierParams) (s : State) : ∃ t d,
    (putCarrierConfig n p s).carrier n = shiftHeld t d ((s.carrier n).configure p) := by
  refine ⟨received s + us 1, (p.rxDelay : Int) - (s.carrier n).rxDelay, ?_⟩
  have hrx (s : State) : received (dropWindow n s) = received s :=
    congrArg (· / 65536) (congrArg TimeUnit.rx (time_of_rest (m := { reg := true }) (by simp) : (dropWindow n s).time = s.time))
  unfold putCarrierConfig
  dsimp only
  (repeat' split) <;> simp [hrx]

theorem putCarrierConfig_others (n : Nat) (p : CarrierParams) (s : State) : otherCarriers n s (putCarrierConfig n p s) := by
  intro m hm
  unfold putCarrierConfig
  dsimp only
  (repeat' split) <;> simp [setCarrier_ne _ _ _ _ hm]

theorem putCarrierConfig_q (n : Nat) (p : CarrierParams) (s : State) : (putCarrierConfig n p s).q = s.q := by
  have hrerange (s : State) : (rerange s).q = s.q := q_of_rest (TimePort.rerange_rest s)
  unfold putCarrierConfig
  dsimp only
  (repeat' split) <;> simp [hrerange]

theorem putCarrierConfig_reg (n : Nat) (p : CarrierParams) (s : State) : (putCarrierConfig n p s).reg =
    if (s.carrier n).slot = some p.slot ∧ (s.carrier n).band = p.band then s.reg else (dropWindow n s).reg := by
  unfold putCarrierConfig
  dsimp only
  (repeat' split) <;> simp_all

theorem dropWindow_reg (n : Nat) (s : State) : (dropWindow n s).reg = { s.reg with window := (dropWindow n s).reg.window } := by
  unfold dropWindow
  split
  · split <;> rfl
  · rfl

theorem dropWindow_window {n : Nat} {s : State} {w : Instant × Nat} (h : s.reg.window = some (n, w)) :
    (dropWindow n s).reg.window = none := by
  simp [dropWindow, h]

/-- The carrier takes the fields of a configuration and keeps its state, its gate and its ceiling. -/
theorem configure_fields (c : Carrier) (p : CarrierParams) (t : Instant) (d : Int) :
    (shiftHeld t d (c.configure p)).slot = some p.slot ∧ (shiftHeld t d (c.configure p)).band = p.band ∧
    (shiftHeld t d (c.configure p)).profile = p.profile ∧ (shiftHeld t d (c.configure p)).rxDelay = p.rxDelay ∧
    (shiftHeld t d (c.configure p)).txDelay = p.txDelay ∧ (shiftHeld t d (c.configure p)).state = c.state ∧
    (shiftHeld t d (c.configure p)).gate = c.gate ∧ (shiftHeld t d (c.configure p)).ceil = c.ceil := by
  unfold shiftHeld Carrier.configure
  dsimp only
  split <;> exact ⟨rfl, rfl, rfl, rfl, rfl, rfl, rfl, rfl⟩

/-- On the slot and band it has, a carrier keeps its standing grants. -/
theorem configure_same {c : Carrier} {p : CarrierParams} (t : Instant) (d : Int) (h : c.slot = some p.slot) (hband : c.band = p.band) :
    (shiftHeld t d (c.configure p)).standing = c.standing := by
  simp [shiftHeld, Carrier.configure, h, hband]

/-- A new slot takes its grants and its range away. -/
theorem configure_moved {c : Carrier} {p : CarrierParams} (t : Instant) (d : Int) (h : c.slot ≠ some p.slot) :
    (shiftHeld t d (c.configure p)).held = [] ∧ (shiftHeld t d (c.configure p)).standing = [] ∧
      (shiftHeld t d (c.configure p)).ranged = false := by
  simp [shiftHeld, Carrier.configure, h]

section Checks
variable {n : Nat} {p : CarrierParams} {s : State}

theorem checkCarrierConfig_ok (hok : carrierParamsOk p = true) (hhas : s.hasCarrier n = true) (hslot : slotTaken n p.slot s = false)
    (hfree : (s.carrier n).moves p = false ∨ (s.carrier n).state = .off) : checkCarrierConfig n p false s = .ok := by
  rcases hfree with h | h <;> simp [checkCarrierConfig, hok, hhas, hslot, h]

theorem checkCarrierConfig_duplicate (hok : carrierParamsOk p = true) (hhas : s.hasCarrier n = true)
    (hslot : slotTaken n p.slot s = true) : checkCarrierConfig n p false s = .slotDuplicate := by
  simp [checkCarrierConfig, hok, hhas, hslot]

theorem checkCarrierConfig_on (hok : carrierParamsOk p = true) (hhas : s.hasCarrier n = true) (hslot : slotTaken n p.slot s = false)
    (hmoves : (s.carrier n).moves p = true) (hon : (s.carrier n).state ≠ .off) :
    checkCarrierConfig n p false s = .carrierNotOff := by
  simp [checkCarrierConfig, hok, hhas, hslot, hmoves, hon]

/-- carrier.config puts what passes the checks in force. -/
theorem doCarrierConfig_ok (h : checkCarrierConfig n p false s = .ok) : ∃ d, doCarrierConfig n p s = okData d (putCarrierConfig n p s) := by
  unfold doCarrierConfig
  rw [h]
  exact ⟨_, rfl⟩

theorem doCarrierConfig_fails {st : Status} (h : checkCarrierConfig n p false s = st) (hst : st ≠ .ok) :
    doCarrierConfig n p s = fail st s := by
  unfold doCarrierConfig
  rw [h]
  split
  · exact absurd rfl hst
  · rfl

end Checks

/-- The first part of O14: carrier.config given directly. -/
theorem carrierConfig_rules (h : Hdr) (s : State) (n : Nat) (p : CarrierParams) (hr : runsNow h (.carrierConfig n p) s)
    (hhas : s.hasCarrier n = true) (hok : carrierParamsOk p = true) :
    (slotTaken n p.slot s = false → (s.carrier n).moves p = false ∨ (s.carrier n).state = .off →
      completes (.carrierConfig h n p) h 0x0301 s fun t =>
        (t.carrier n).slot = some p.slot ∧ (t.carrier n).band = p.band ∧ (t.carrier n).profile = p.profile ∧
        (t.carrier n).rxDelay = p.rxDelay ∧ (t.carrier n).txDelay = p.txDelay ∧ (t.carrier n).state = (s.carrier n).state ∧
        (t.carrier n).gate = (s.carrier n).gate ∧ (t.carrier n).ceil = (s.carrier n).ceil ∧
        ((s.carrier n).moves p = false → (t.carrier n).standing = (s.carrier n).standing ∧ t.reg = s.reg) ∧
        ((s.carrier n).slot ≠ some p.slot → (t.carrier n).held = [] ∧ (t.carrier n).standing = [] ∧
          (t.carrier n).ranged = false ∧ (∀ w, s.reg.window = some (n, w) → t.reg.window = none)) ∧
        otherCarriers n s t ∧ t.reg = { s.reg with window := t.reg.window } ∧ t.q = s.q) ∧
    (slotTaken n p.slot s = true → failsWith (.carrierConfig h n p) h 0x0301 .slotDuplicate s) ∧
    (slotTaken n p.slot s = false → (s.carrier n).moves p = true → (s.carrier n).state ≠ .off →
      failsWith (.carrierConfig h n p) h 0x0301 .carrierNotOff s) := by
  obtain ⟨x, hx⟩ := takeUp_cmd h s
  refine ⟨?_, ?_, ?_⟩
  · intro hslot hfree
    obtain ⟨d, hbody⟩ := doCarrierConfig_ok (checkCarrierConfig_ok (s := { s with cmd := x }) hok hhas hslot hfree)
    refine completes_taken hx hr rfl rfl rfl hbody ?_
    obtain ⟨e, dl, hself⟩ := putCarrierConfig_self n p { s with cmd := x }
    have hreg := putCarrierConfig_reg n p { s with cmd := x }
    obtain ⟨hslot', hband, hprofile, hrx, htx, hstate, hgate, hceil⟩ := configure_fields (s.carrier n) p e dl
    change _ = shiftHeld e dl ((s.carrier n).configure p) at hself
    rw [hself]
    refine ⟨hslot', hband, hprofile, hrx, htx, hstate, hgate, hceil, fun hmoves => ?_, fun hmoved => ?_,
      putCarrierConfig_others n p _, ?_, putCarrierConfig_q n p _⟩
    · simp only [Carrier.moves, Bool.or_eq_false_iff, bne_eq_false_iff_eq] at hmoves
      obtain ⟨⟨hsame, hsame'⟩, -⟩ := hmoves
      exact ⟨configure_same e dl hsame hsame', hreg.trans (if_pos ⟨hsame, hsame'⟩)⟩
    · obtain ⟨hheld, hstanding, hranged⟩ := configure_moved e dl hmoved
      refine ⟨hheld, hstanding, hranged, fun w hw => ?_⟩
      rw [hreg, if_neg fun hsame => hmoved hsame.1]
      exact dropWindow_window hw
    · rw [hreg]
      split
      · rfl
      · exact dropWindow_reg n _
  · intro hslot
    exact failsWith_taken hx hr rfl rfl rfl
      (doCarrierConfig_fails (checkCarrierConfig_duplicate (s := { s with cmd := x }) hok hhas hslot) nofun)
  · intro hslot hmoves hon
    exact failsWith_taken hx hr rfl rfl rfl
      (doCarrierConfig_fails (checkCarrierConfig_on (s := { s with cmd := x }) hok hhas hslot hmoves hon) nofun)

/-! ### The other commands (Table 3-10) -/

/-- A command on a carrier that the variant has. -/
theorem withCarrier_has {n : Nat} {k : Body} {s : State} (h : s.hasCarrier n = true) : withCarrier n k s = k s :=
  require_true h

section Enable
variable {n : Nat} {s : State}

theorem doCarrierEnable_off (hhas : s.hasCarrier n = true) (hslot : (s.carrier n).slot.isSome = true)
    (hgate : (s.carrier n).gateInhibit = none) (hoff : (s.carrier n).state = .off) :
    doCarrierEnable n s = okData [carrierCode .tune] (startEnable n s) := by
  simp [doCarrierEnable, withCarrier, require, hhas, hslot, hgate, hoff]

theorem doCarrierEnable_noSlot (hhas : s.hasCarrier n = true) (hslot : (s.carrier n).slot = none) :
    doCarrierEnable n s = fail .notConfigured s := by
  simp [doCarrierEnable, withCarrier, require, hhas, hslot]

/-- On an inhibited carrier the gate's self-test runs, and passes or fails as the hardware stands. -/
theorem doCarrierEnable_inhibited {why : FaultCause} (hhas : s.hasCarrier n = true) (hslot : (s.carrier n).slot.isSome = true)
    (hgate : (s.carrier n).gateInhibit = some why) :
    doCarrierEnable n s = okData [carrierCode (s.carrier n).state]
      (modCarrier n (fun c => { c with gateInhibit := none, clearAt := received (draw s).2 }) (draw s).2) ∨
    doCarrierEnable n s = (some { status := .gateTestFail },
      raiseCarrier n 4 (modCarrier n (fun c => { c with lastFault := why }) (draw s).2)) := by
  by_cases hpass : (draw s).1 % 2 = 0
  · exact .inl (by simp [doCarrierEnable, withCarrier, require, hhas, hslot, hgate, hpass])
  · exact .inr (by simp [doCarrierEnable, withCarrier, require, hhas, hslot, hgate, hpass])

theorem startEnable_self (n : Nat) (s : State) :
    ((startEnable n s).carrier n).state = .tune ∧ ((startEnable n s).carrier n).since = s.clk.now := by
  simp [startEnable]

theorem startEnable_others (n : Nat) (s : State) : otherCarriers n s (startEnable n s) := by
  intro m hm
  simp [startEnable, modCarrier_ne _ _ _ _ hm]

theorem startDisable_self (hon : (s.carrier n).state ≠ .off) : ((startDisable n s).carrier n).disabling = true ∧
    ((startDisable n s).carrier n).state = (s.carrier n).state ∧ ((startDisable n s).carrier n).held = [] ∧
    ((startDisable n s).carrier n).drawn = [] := by
  obtain ⟨r, b, hself⟩ := discardDrawn_self n (modCarrier n (fun c => { c with disabling := true }) s)
  unfold startDisable
  simp [hon, dropHeld, hself]

theorem startDisable_others (n : Nat) (s : State) : otherCarriers n s (startDisable n s) := by
  intro m hm
  unfold startDisable
  split
  · rfl
  · simp [dropHeld, modCarrier_ne _ _ _ _ hm, discardDrawn_ne hm]

end Enable

section Gate
variable {n : Nat} {s : State} {p : GateParams}

/-- Currents within the ceiling stay as they are. -/
theorem low_of_ok {t : List Nat} (hok : gateParamsOk p (s.carrier n).ceil = true) :
    GateParams.low { p with table := t } (s.carrier n).ceil = { p with table := t } := by
  simp only [gateParamsOk, Bool.and_eq_true, decide_eq_true_eq] at hok
  obtain ⟨⟨⟨⟨hon, -, hoff, -⟩, -⟩, -⟩, -⟩ := hok
  simp [GateParams.low, Nat.min_eq_left hon, Nat.min_eq_left hoff]

theorem putCarrierGate_self (t : Instant) (hok : gateParamsOk p (s.carrier n).ceil = true) :
    ((putCarrierGate n t p s).carrier n).gateWait = (s.carrier n).gateWait ++ [{
      from_ := t
      p := { p with table := if p.table = [] then
        (((s.carrier n).gateWait.getLast?.map (·.p)).getD (s.carrier n).gate).table else p.table } }] := by
  simp [putCarrierGate, low_of_ok hok]

theorem doCarrierGateSet_ok (hhas : s.hasCarrier n = true) (hok : gateParamsOk p (s.carrier n).ceil = true) :
    ∃ d, doCarrierGateSet n p s = okData d (putCarrierGate n (received s + us 1) p s) := by
  have hcheck : checkCarrierGateSet n p s = .ok := by simp [checkCarrierGateSet, hhas, hok]
  unfold doCarrierGateSet
  rw [hcheck]
  exact ⟨_, rfl⟩

theorem doCarrierGateSet_range (hhas : s.hasCarrier n = true) (hbad : gateParamsOk p (s.carrier n).ceil = false) :
    doCarrierGateSet n p s = fail .paramRange s := by
  have hcheck : checkCarrierGateSet n p s = .paramRange := by simp [checkCarrierGateSet, hhas, hbad]
  unfold doCarrierGateSet
  rw [hcheck]

theorem doCarrierGateCeiling_off {ceil : Nat} (hhas : s.hasCarrier n = true) (hceil : ceil ≤ 4000)
    (hoff : (s.carrier n).state = .off) : doCarrierGateCeiling n ceil s = okData [ceil] (modCarrier n (fun c => { c with
      ceil := ceil, gate := GateParams.low c.gate ceil
      gateWait := c.gateWait.map fun w => { w with p := GateParams.low w.p ceil } }) s) := by
  simp [doCarrierGateCeiling, withCarrier, require, hhas, hceil, hoff]

end Gate

section FrontEnd
variable {n : Nat} {s : State}

theorem doCarrierFeLoad_ok {script : FeScript} (hhas : s.hasCarrier n = true)
    (hok : (script.duties.all fun d => d.2.all FeTransfer.ok) = true) :
    ∃ d, doCarrierFeLoad n script s = okData d (modCarrier n (fun c => { c with script := script }) s) := by
  unfold doCarrierFeLoad
  rw [withCarrier_has hhas, require_true hok]
  exact ⟨_, rfl⟩

theorem doCarrierFeLoad_range {script : FeScript} (hhas : s.hasCarrier n = true)
    (hbad : (script.duties.all fun d => d.2.all FeTransfer.ok) = false) : doCarrierFeLoad n script s = fail .paramRange s := by
  unfold doCarrierFeLoad
  rw [withCarrier_has hhas, require_false hbad]

theorem doCarrierFeAccess_off {t : FeTransfer} (hhas : s.hasCarrier n = true) (hok : FeTransfer.ok t = true)
    (hoff : (s.carrier n).state = .off) (hallow : FeScript.allows (s.carrier n).script t = true) :
    ∃ d, doCarrierFeAccess n t s =
      okData d (emit (.frontEnd (3 * n + t.cs) t) { s with clk := { s.clk with draws := s.clk.draws + 1 } }) := by
  unfold doCarrierFeAccess
  rw [withCarrier_has hhas, require_true hok, require_true (by rw [hoff]; rfl), require_true hallow]
  exact ⟨_, rfl⟩

end FrontEnd

/-- Settles O14. -/
theorem carrierCommands : Obligations.CarrierCommands := by
  unfold Obligations.CarrierCommands
  refine ⟨fun h s n p hr _ hhas hok => carrierConfig_rules h s n p hr hhas hok, fun h s n hn hhas => ?_⟩
  obtain ⟨x, hx⟩ := takeUp_cmd h s
  refine ⟨?_, ?_, ?_, ?_, ?_, ?_, ?_, ?_, ?_, ?_, ?_⟩
  · intro hr hgate hoff hslot
    obtain ⟨hstate, hsince⟩ := startEnable_self n { s with cmd := x }
    exact completes_taken hx hr rfl rfl rfl (doCarrierEnable_off (s := { s with cmd := x }) hhas hslot hgate hoff)
      ⟨hstate, hsince, startEnable_others n _, startEnable_reg n _⟩
  · intro hr hslot
    exact failsWith_taken hx hr rfl rfl rfl (doCarrierEnable_noSlot (s := { s with cmd := x }) hhas hslot)
  · intro why hr hslot hgate
    rcases doCarrierEnable_inhibited (s := { s with cmd := x }) hhas hslot hgate with hbody | hbody
    · refine .inl (completes_taken hx hr rfl rfl rfl hbody ⟨?_, ?_, fun m hm => ?_, rfl⟩)
      · rw [modCarrier_self]
      · rw [modCarrier_self]; rfl
      · rw [modCarrier_ne _ _ _ _ hm]; rfl
    · refine .inr ⟨_, fails_taken hx hr rfl rfl rfl hbody, ?_, ?_, fun m hm => ?_, ?_⟩
      · rw [raiseCarrier_carrier, modCarrier_self]; exact hgate
      · rw [raiseCarrier_carrier, modCarrier_self]; rfl
      · rw [raiseCarrier_carrier, modCarrier_ne _ _ _ _ hm]; rfl
      · rw [raiseCarrier_reg]; rfl
  · intro hr hon
    obtain ⟨hdisabling, hstate, hheld, hdrawn⟩ := startDisable_self (s := { s with cmd := x }) hon
    exact completes_taken hx hr rfl rfl rfl (show doCarrierDisable n _ = _ from withCarrier_has hhas)
      ⟨hdisabling, hstate, hheld, hdrawn, startDisable_others n _, startDisable_reg n _⟩
  · intro p hr hok
    obtain ⟨d, hbody⟩ := doCarrierGateSet_ok (s := { s with cmd := x }) hhas hok
    refine completes_taken hx hr rfl rfl rfl hbody
      ⟨putCarrierGate_self _ hok, ?_, fun m hm => modCarrier_ne _ _ _ _ hm, ?_⟩
    · unfold putCarrierGate
      rw [modCarrier_self]
      rfl
    · rw [hx]; rfl
  · intro p hr hbad
    exact failsWith_taken hx hr rfl rfl rfl (doCarrierGateSet_range (s := { s with cmd := x }) hhas hbad)
  · intro ceil hr hceil hoff
    obtain ⟨y, l, hy⟩ := begun_sec h (.carrierGateCeiling n ceil) s
    refine completes_begun hy hr rfl rfl (doCarrierGateCeiling_off (s := { s with cmd := y, sec := _ }) hhas hceil hoff)
      ⟨?_, ?_, ?_, fun m hm => modCarrier_ne _ _ _ _ hm, ?_⟩
    · rw [modCarrier_self]
    · rw [modCarrier_self]; rfl
    · rw [modCarrier_self]; rfl
    · rw [hy]; rfl
  · intro script hr hbad
    refine failsWith_taken hx hr rfl rfl rfl (doCarrierFeLoad_range (s := { s with cmd := x }) hhas ?_)
    obtain ⟨d, hd, t, ht, hout⟩ := hbad
    refine List.all_eq_false.mpr ⟨d, hd, fun hall => ?_⟩
    have hok := List.all_eq_true.mp hall t ht
    simp only [FeTransfer.ok, decide_eq_true_eq] at hok
    omega
  · intro script hr hok
    have hall : (script.duties.all fun d => d.2.all FeTransfer.ok) = true := by simpa [FeTransfer.ok] using hok
    obtain ⟨d, hbody⟩ := doCarrierFeLoad_ok (s := { s with cmd := x }) hhas hall
    refine completes_taken hx hr rfl rfl rfl hbody ⟨?_, fun m hm => modCarrier_ne _ _ _ _ hm, ?_⟩
    · rw [modCarrier_self]; rfl
    · rw [hx]; rfl
  · intro t hr hcs hlo hhi hoff hallow
    have hok : FeTransfer.ok t = true := by simp [FeTransfer.ok, hcs, hlo, hhi]
    obtain ⟨d, hbody⟩ := doCarrierFeAccess_off (s := { s with cmd := x }) hhas hok hoff hallow
    refine completes_taken hx hr rfl rfl rfl hbody ?_
    rw [hx]
    rfl
  · intro hr
    refine completes_taken hx hr rfl rfl rfl (show doCarrierHintClear n _ = _ from withCarrier_has hhas)
      ⟨?_, fun m hm => modCarrier_ne _ _ _ _ hm, ?_⟩
    · rw [modCarrier_self]; rfl
    · rw [hx]; rfl

end Sys2Proof.Proofs.CarrierCommands
end

section
/-!
Registration (chapter 04): what its states' operations do, and O16.
-/
namespace Sys2Proof.Proofs.RegistrationCommands
open Sys2Proof Sys2Proof.Machine Sys2Proof.Proofs.Frames Sys2Proof.Proofs.Rules Sys2Proof.Proofs.CarrierEvents
open Sys2Proof.Proofs.LineTimeEvents Sys2Proof.Proofs.CarrierCommands

set_option Elab.async false

@[simp] theorem exitOperating_reg (s : State) : (exitOperating s).reg = s.reg :=
  reg_of_rest (m := { clk := true, carriers := true, q := true, evc := true, pmc := true, out := true }) (by simp)
@[simp] theorem exitOperating_time (s : State) : (exitOperating s).time = s.time :=
  time_of_rest (m := { clk := true, carriers := true, q := true, evc := true, pmc := true, out := true }) (by simp)
@[simp] theorem dropBegunIn_carrier (a0 : Nat) (s : State) (n : Nat) : (dropBegunIn a0 s).carrier n = s.carrier n := by
  unfold State.carrier
  rw [show (dropBegunIn a0 s).carriers = s.carriers from carriers_of_rest (m := { clk := true, q := true, evc := true, pmc := true, out := true }) (by simp)]
@[simp] theorem enterReg_carrier (a0 : RegState) (s : State) (n : Nat) : (enterReg a0 s).carrier n = s.carrier n := by
  unfold State.carrier
  rw [show (enterReg a0 s).carriers = s.carriers from carriers_of_rest (m := { reg := true, evc := true, out := true }) (by simp)]
@[simp] theorem sfFailed_carrier (a0 : Nat) (s : State) (n : Nat) : (sfFailed a0 s).carrier n = s.carrier n := by
  unfold State.carrier
  rw [show (sfFailed a0 s).carriers = s.carriers from carriers_of_rest (m := { reg := true }) (by simp)]
@[simp] theorem sfFailed_time (a0 : Nat) (s : State) : (sfFailed a0 s).time = s.time :=
  time_of_rest (m := { reg := true }) (by simp)
@[simp] theorem refuseHead_carrier (a0 : Ident) (a1 : BitVec 32) (s : State) (n : Nat) : (refuseHead a0 a1 s).carrier n = s.carrier n := by
  unfold State.carrier
  rw [show (refuseHead a0 a1 s).carriers = s.carriers from carriers_of_rest (m := { reg := true, evc := true, out := true }) (by simp)]
@[simp] theorem refuseHead_time (a0 : Ident) (a1 : BitVec 32) (s : State) : (refuseHead a0 a1 s).time = s.time :=
  time_of_rest (m := { reg := true, evc := true, out := true }) (by simp)
@[simp] theorem raiseEpoch_carrier (a0 : Ident) (a1 : BitVec 32) (s : State) (n : Nat) : (raiseEpoch a0 a1 s).carrier n = s.carrier n := by
  unfold State.carrier
  rw [show (raiseEpoch a0 a1 s).carriers = s.carriers from carriers_of_rest (m := { reg := true, evc := true, out := true }) (by simp)]
@[simp] theorem raiseEpoch_time (a0 : Ident) (a1 : BitVec 32) (s : State) : (raiseEpoch a0 a1 s).time = s.time :=
  time_of_rest (m := { reg := true, evc := true, out := true }) (by simp)
@[simp] theorem raiseEpoch_clk (a0 : Ident) (a1 : BitVec 32) (s : State) : (raiseEpoch a0 a1 s).clk = s.clk :=
  clk_of_rest (m := { reg := true, evc := true, out := true }) (by simp)
@[simp] theorem raiseEpoch_q (a0 : Ident) (a1 : BitVec 32) (s : State) : (raiseEpoch a0 a1 s).q = s.q :=
  q_of_rest (m := { reg := true, evc := true, out := true }) (by simp)
@[simp] theorem raiseEpoch_cmd (a0 : Ident) (a1 : BitVec 32) (s : State) : (raiseEpoch a0 a1 s).cmd = s.cmd :=
  cmd_of_rest (m := { reg := true, evc := true, out := true }) (by simp)
@[simp] theorem announce_reg (a0 : Nat) (a1 : SfAcc) (s : State) : (announce a0 a1 s).reg = s.reg :=
  reg_of_rest (m := { clk := true, time := true, tio := true, trib := true, cls := true, q := true, ports := true, snaps := true, sec := true, groups := true, evc := true, pwr := true, out := true }) (by simp)
@[simp] theorem announce_carrier (a0 : Nat) (a1 : SfAcc) (s : State) (n : Nat) : (announce a0 a1 s).carrier n = s.carrier n := by
  unfold State.carrier
  rw [show (announce a0 a1 s).carriers = s.carriers from carriers_of_rest (m := { clk := true, time := true, tio := true, trib := true, cls := true, q := true, ports := true, snaps := true, sec := true, groups := true, evc := true, pwr := true, out := true }) (by simp)]
@[simp] theorem announce_cmd (a0 : Nat) (a1 : SfAcc) (s : State) : (announce a0 a1 s).cmd = s.cmd :=
  cmd_of_rest (m := { clk := true, time := true, tio := true, trib := true, cls := true, q := true, ports := true, snaps := true, sec := true, groups := true, evc := true, pwr := true, out := true }) (by simp)
@[simp] theorem adoptStamps_reg (a0 : List Int) (s : State) : (adoptStamps a0 s).reg = s.reg :=
  reg_of_rest (m := { clk := true, time := true, tio := true, trib := true, cls := true, q := true, ports := true, snaps := true, sec := true, groups := true, evc := true, pwr := true, out := true }) (by simp)
@[simp] theorem adoptStamps_carrier (a0 : List Int) (s : State) (n : Nat) : (adoptStamps a0 s).carrier n = s.carrier n := by
  unfold State.carrier
  rw [show (adoptStamps a0 s).carriers = s.carriers from carriers_of_rest (m := { clk := true, time := true, tio := true, trib := true, cls := true, q := true, ports := true, snaps := true, sec := true, groups := true, evc := true, pwr := true, out := true }) (by simp)]
@[simp] theorem adoptStamps_cmd (a0 : List Int) (s : State) : (adoptStamps a0 s).cmd = s.cmd :=
  cmd_of_rest (m := { clk := true, time := true, tio := true, trib := true, cls := true, q := true, ports := true, snaps := true, sec := true, groups := true, evc := true, pwr := true, out := true }) (by simp)
@[simp] theorem startHistory_reg (a0 : Nat) (s : State) : (startHistory a0 s).reg = s.reg :=
  reg_of_rest (m := { carriers := true }) (by simp)

/-- What each member of a list establishes and no other takes back holds after the whole list, for each member. -/
theorem forEach_mem {l : List Nat} {f : Nat → State → State} {P : State → Prop} {n : Nat} (hn : n ∈ l) (s : State)
    (hset : ∀ s, P (f n s)) (hkeep : ∀ m s, P s → P (f m s)) : P (forEach l f s) := by
  have hall (l : List Nat) (s : State) (h : P s) : P (forEach l f s) := by
    induction l generalizing s with
    | nil => exact h
    | cons m l ih => exact ih _ (hkeep m s h)
  induction l generalizing s with
  | nil => exact absurd hn List.not_mem_nil
  | cons m l ih =>
    rcases List.mem_cons.mp hn with rfl | hn
    · exact hall l _ (hset s)
    · exact ih hn _

theorem forEach_keeps {β : Type} {F : State → β} {f : Nat → State → State} (l : List Nat) (s : State)
    (h : ∀ n s, F (f n s) = F s) : F (forEach l f s) = F s :=
  foldl_keeps l s fun s n => h n s

/-! ### Leaving OPERATING and ending a session (R79, R80) -/

theorem exitCarrier_state (n m : Nat) (s : State) : ((exitCarrier n s).carrier m).state = (s.carrier m).state := by
  by_cases h : m = n
  · subst h
    obtain ⟨r, b, hself⟩ := discardDrawn_self m s
    simp [exitCarrier, hself]
  · simp [exitCarrier, modCarrier_ne _ _ _ _ h, discardDrawn_ne h]

theorem exitOperating_state (m : Nat) (s : State) : ((exitOperating s).carrier m).state = (s.carrier m).state := by
  unfold exitOperating
  split
  · rw [forEach_keeps (F := fun s => (s.carrier m).state) _ _ fun n s => by simp]
    exact forEach_keeps (F := fun s => (s.carrier m).state) _ _ fun n s => exitCarrier_state n m s
  · rfl

/-- The end of a session takes every grant of a carrier, and its range, away. -/
theorem endSession_carrier {n : Nat} {s : State} (h : n < s.variant.carriers) :
    ((endSession s).carrier n).held = [] ∧ ((endSession s).carrier n).standing = [] ∧
      ((endSession s).carrier n).ranged = false := by
  refine forEach_mem (P := fun t => (t.carrier n).held = [] ∧ (t.carrier n).standing = [] ∧ (t.carrier n).ranged = false)
    (List.mem_range.mpr h) s (fun s => by simp) fun m s hs => ?_
  by_cases hm : n = m
  · subst hm
    simp
  · simpa [modCarrier_ne _ _ _ _ hm] using hs

theorem endSession_state (m : Nat) (s : State) : ((endSession s).carrier m).state = (s.carrier m).state := by
  refine forEach_keeps (F := fun s => (s.carrier m).state) s.carrierNums s fun n s => ?_
  by_cases hm : m = n
  · subst hm
    simp
  · simp [modCarrier_ne _ _ _ _ hm]

theorem endSession_reg (s : State) : (endSession s).reg = { s.reg with
    session := false, number := none, epoch := 0, lastNumber := s.reg.number.or s.reg.lastNumber, head := none
    key := none, keyNext := none, keyExpired := false, assigned := none, confirmed := none, resumeFrom := none } := by
  have hreg (f : Carrier → Carrier) (l : List Nat) (s : State) : (forEach l (fun n => modCarrier n f) s).reg = s.reg :=
    forEach_keeps (F := State.reg) _ _ fun n s => by simp
  unfold endSession
  dsimp only
  rw [hreg]

theorem enterReg_reg (st : RegState) (s : State) : (enterReg st s).reg = { s.reg with state := st } := by
  unfold enterReg
  split
  case isTrue h => rw [← h]
  case isFalse h =>
    dsimp only
    split <;> simp

theorem leaveTo_reg (st : RegState) (s : State) : (leaveTo st s).reg = { s.reg with
    state := st, session := false, number := none, epoch := 0, lastNumber := s.reg.number.or s.reg.lastNumber, head := none
    key := none, keyNext := none, keyExpired := false, assigned := none, confirmed := none, resumeFrom := none } := by
  unfold leaveTo
  rw [enterReg_reg, endSession_reg, exitOperating_reg]

theorem exitOperating_carriers (s : State) : (exitOperating s).variant = s.variant :=
  congrArg Fuses.variant (fuses_of_rest (m := { clk := true, carriers := true, q := true, evc := true, pmc := true, out := true })
    (by simp))

theorem leaveTo_carrier {n : Nat} {st : RegState} {s : State} (h : n < s.variant.carriers) :
    ((leaveTo st s).carrier n).held = [] ∧ ((leaveTo st s).carrier n).standing = [] ∧
      ((leaveTo st s).carrier n).ranged = false ∧ ((leaveTo st s).carrier n).state = (s.carrier n).state := by
  unfold leaveTo
  rw [enterReg_carrier, endSession_state, exitOperating_state]
  obtain ⟨hheld, hstanding, hranged⟩ := endSession_carrier (s := exitOperating s) (by rw [exitOperating_carriers]; exact h)
  exact ⟨hheld, hstanding, hranged, rfl⟩

/-! ### The registration commands (Table 4-9) -/

section Bodies
variable {s : State}

theorem doRegEnable_off (hheads : s.reg.heads ≠ []) (hoff : s.reg.state = .off) :
    doRegEnable s = okData [regCode .listen] (enterReg .listen s) := by
  simp [doRegEnable, require, hheads, hoff]

theorem doRegEnable_on (hheads : s.reg.heads ≠ []) (hon : s.reg.state ≠ .off) :
    doRegEnable s = okData [regCode s.reg.state] s := by
  simp [doRegEnable, require, hheads, hon]

theorem doRegEnable_noList (hheads : s.reg.heads = []) : doRegEnable s = fail .noHeadList s := by
  simp [doRegEnable, require, hheads]

theorem doRegDisable_on (hon : s.reg.state ≠ .off) : doRegDisable s = okData [regCode .off] (leaveTo .off s) := by
  simp [doRegDisable, hon]

theorem doRegConfig_ok {c : Option Nat} {tResume : Nat} (hlo : 100 ≤ tResume) (hhi : tResume ≤ 60000)
    (hc : ∀ n, c = some n → n < 4 ∧ s.hasCarrier n = true) : doRegConfig c tResume s =
      okData [(c.map (· + 1)).getD 0, tResume] { s with reg := { s.reg with carrier := c, tResume := tResume } } := by
  cases c with
  | none => simp [doRegConfig, require, hlo, hhi]
  | some n =>
    obtain ⟨-, hhas⟩ := hc n rfl
    simp [doRegConfig, require, hlo, hhi, withCarrier, hhas]

theorem doRegConfig_range {c : Option Nat} {tResume : Nat} (h : tResume < 100 ∨ 60000 < tResume) :
    doRegConfig c tResume s = fail .paramRange s := by
  unfold doRegConfig
  exact require_false (by simp only [decide_eq_false_iff_not]; omega)

theorem doRegEpochReset_off (hoff : s.reg.state = .off) :
    doRegEpochReset s = okData [0] { s with reg := { s.reg with eMax := 0, eMaxHead := none } } := by
  simp [doRegEpochReset, require, hoff]

theorem doRegEpochReset_on (hon : s.reg.state ≠ .off) : doRegEpochReset s = fail .regNotOff s := by
  simp [doRegEpochReset, require, hon]

theorem doForecastConfig_ok {n a b : Nat} (hhas : s.hasCarrier n = true) (hr : 1 ≤ a ∧ a ≤ 255 ∧ 1 ≤ b ∧ b ≤ 255) :
    doForecastConfig n a b s = okData [a, b] (modCarrier n (fun c => { c with gainA := a, gainB := b }) s) := by
  unfold doForecastConfig
  rw [withCarrier_has hhas, require_true (decide_eq_true hr)]

end Bodies

/-- Settles O16. -/
theorem registrationCommands : Obligations.RegistrationCommands := by
  unfold Obligations.RegistrationCommands
  intro h s
  obtain ⟨x, hx⟩ := takeUp_cmd h s
  refine ⟨?_, ?_, ?_, ?_, ?_, ?_, ?_, ?_, ?_, ?_⟩
  · intro hr hheads hoff
    refine completes_taken hx hr rfl rfl rfl (doRegEnable_off (s := { s with cmd := x }) hheads hoff) ⟨enterReg_reg _ _, ?_⟩
    rw [hx]
    exact eq_merged (m := { reg := true, evc := true, out := true }) (by simp)
  · intro hr hheads hon
    exact completes_taken hx hr rfl rfl rfl (doRegEnable_on (s := { s with cmd := x }) hheads hon) hx.symm
  · intro hr hheads
    exact failsWith_taken hx hr rfl rfl rfl (doRegEnable_noList (s := { s with cmd := x }) hheads)
  · intro hr hon
    refine completes_taken hx hr rfl rfl rfl (doRegDisable_on (s := { s with cmd := x }) hon) ?_
    rw [leaveTo_reg, hx]
    exact ⟨rfl, rfl, rfl, rfl, rfl, rfl, fun n hn => leaveTo_carrier (s := { s with cmd := x }) hn, by
      rw [← leaveTo_reg]
      exact eq_merged (m := { clk := true, carriers := true, reg := true, q := true, evc := true, pmc := true, out := true })
        (by simp)⟩
  · intro c tResume hr hlo hhi hc
    refine completes_taken hx hr rfl rfl rfl (doRegConfig_ok (s := { s with cmd := x }) hlo hhi hc) ?_
    rw [hx]
  · intro c tResume hr hbad
    exact failsWith_taken hx hr rfl rfl rfl (doRegConfig_range hbad)
  · intro heads hr hlen
    obtain ⟨y, l, hy⟩ := begun_sec h (.regHeadlistSet heads) s
    refine completes_begun hy hr rfl rfl (show doRegHeadlistSet heads _ = _ from require_true (by simpa using hlen)) ?_
    rw [hy]
  · intro hr hoff
    obtain ⟨y, l, hy⟩ := begun_sec h .regEpochReset s
    refine completes_begun hy hr rfl rfl (doRegEpochReset_off (s := { s with cmd := y, sec := _ }) hoff) ?_
    rw [hy]
  · intro hr hon
    obtain ⟨y, l, hy⟩ := begun_sec h .regEpochReset s
    exact fails_begun hr rfl rfl (doRegEpochReset_on (by rw [hy]; exact hon))
  · intro n a b hr hn hhas ha ha' hb hb'
    refine completes_taken hx hr rfl rfl rfl
      (doForecastConfig_ok (s := { s with cmd := x }) hhas ⟨ha, ha', hb, hb'⟩) ⟨?_, fun m hm => modCarrier_ne _ _ _ _ hm, ?_⟩
    · rw [modCarrier_self]; rfl
    · rw [hx]; rfl

end Sys2Proof.Proofs.RegistrationCommands
end

section
/-!
The registration states and gusts (chapter 04): O17.
-/
namespace Sys2Proof.Proofs.RegistrationStates
open Sys2Proof Sys2Proof.Machine Sys2Proof.Proofs.Frames Sys2Proof.Proofs.Rules Sys2Proof.Proofs.CarrierEvents
open Sys2Proof.Proofs.RegistrationCommands

set_option Elab.async false

/-! ### What the entries leave (R79, R82 to R84) -/

theorem enterDiscover_reg (s : State) : (enterDiscover s).reg = { s.reg with
    state := .discover, attempt := 0, unanswered := 0, backoff := 0, window := none, gust := none, nonce := none
    assigned := none, confirmed := none, listenAt := some s.clk.now } := by
  unfold enterDiscover
  rw [enterReg_reg]

theorem raiseIf_reg (c : Prop) [Decidable c] (k : Nat) (s : State) : (if c then raise k s else s).reg = s.reg := by
  split
  · exact raise_reg k s
  · rfl

theorem beginSession_reg (s : State) : (beginSession s).reg = { s.reg with
    state := .operating, session := true, number := s.reg.assigned.map (·.1), tagAt := some s.clk.now, confirmed := none
    assigned := none, head := s.reg.lastSf.map (·.2), resumeFrom := none, keyExpired := false } := by
  have hclear (f : Carrier → Carrier) (l : List Nat) (s : State) : (forEach l (fun n => modCarrier n f) s).reg = s.reg :=
    forEach_keeps (F := State.reg) _ _ fun n s => by simp
  have hstart (l : List Nat) (s : State) : (forEach l startHistory s).reg = s.reg :=
    forEach_keeps (F := State.reg) _ _ fun n s => startHistory_reg n s
  unfold beginSession
  dsimp only
  rw [enterReg_reg, raiseIf_reg, hstart, hclear]

/-! ### The evaluation (Table 4-2) -/

/-- The state in which the transition is looked for: the LISTEN conditions' last hold is noted. -/
def listening (x : Option Instant) (s : State) : State := { s with reg := { s.reg with listenAt := x } }

/-- The evaluation notes that the LISTEN conditions hold, makes the transition that holds, and spends what arose. -/
theorem evaluation (s : State) : ∃ x, exec .regEvaluation s =
    .next (clearConditions (regTransition (listening x s))) := by
  change ∃ x, execRegEvaluation s = _
  unfold execRegEvaluation
  dsimp only
  split
  · exact ⟨_, rfl⟩
  · exact ⟨s.reg.listenAt, rfl⟩

theorem clearConditions_reg (s : State) : (clearConditions s).reg = { s.reg with
    deregister := false, sigFailed := false, rangeBad := false, epochRose := false, resumed := false, acceptNew := false
    servoFell := false } := rfl

section Transition
variable {s : State}

theorem regTransition_off (h : s.reg.state = .off) : regTransition s = s := by
  unfold regTransition
  dsimp only
  rw [if_pos h]

theorem regTransition_epoch (hon : s.reg.state ≠ .off) (h : s.reg.epochRose = true) : regTransition s = leaveTo .listen s := by
  unfold regTransition
  dsimp only
  rw [if_neg hon, if_pos h]

theorem regTransition_refused (hon : s.reg.state ≠ .off) (hfenced : s.reg.state ≠ .fenced) (hrose : s.reg.epochRose = false)
    (h : onlyRefused s = true) : regTransition s = enterReg .fenced (exitOperating s) := by
  simp [regTransition, hon, hfenced, hrose, h]

variable (hrose : s.reg.epochRose = false) (hrefused : onlyRefused s = false)
include hrose hrefused

theorem regTransition_listen (hstate : s.reg.state = .listen) (h : listenOk s = true) : regTransition s = enterDiscover s := by
  simp [regTransition, hrose, hrefused, hstate, h]

theorem regTransition_assigned {a : Nat × Instant} (hstate : s.reg.state = .discover) (h : s.reg.assigned = some a) :
    regTransition s = enterReg .ranging s := by
  simp [regTransition, hrose, hrefused, hstate, h]

theorem regTransition_confirmed {x : Instant} (hstate : s.reg.state = .ranging) (h : s.reg.confirmed = some x)
    (hpassed : boundaryPassed s = true) : regTransition s = beginSession s := by
  simp [regTransition, hrose, hrefused, hstate, h, hpassed]

theorem regTransition_holdover (hstate : s.reg.state = .operating)
    (h : s.reg.servoFell = true ∨ (∀ t0, s.reg.tagAt = some t0 → t0 + ms 50 < s.clk.now)) : regTransition s =
      enterReg .holdover { exitOperating s with reg := { (exitOperating s).reg with resumeFrom := none } } := by
  unfold regTransition
  simp only [hstate, hrose, hrefused, Bool.false_and, Bool.false_eq_true, if_false, reduceCtorEq]
  rcases h with h | h
  · simp [h]
  · cases htag : s.reg.tagAt with
    | none => simp
    | some t0 => simp [h t0 htag]

theorem regTransition_resumed (hstate : s.reg.state = .holdover ∨ s.reg.state = .fenced) (hsession : s.reg.session = true)
    (h : s.reg.resumed = true) : regTransition s =
      enterReg .operating { s with reg := { s.reg with tagAt := some s.clk.now, resumeFrom := none } } := by
  rcases hstate with hstate | hstate <;> simp [regTransition, hrose, hrefused, hstate, hsession, h]

theorem regTransition_over (hstate : s.reg.state = .holdover ∨ s.reg.state = .fenced) (hsession : s.reg.session = true)
    (hresumed : s.reg.resumed = false) (h : resumeOver s = true ∨ s.reg.deregister = true) :
    regTransition s = leaveTo .listen s := by
  have hover : (resumeOver s || s.reg.deregister) = true := by simpa using h
  rcases hstate with hstate | hstate <;>
    simp only [regTransition, hrose, hrefused, hstate, hsession, hresumed, hover, Bool.and_true, Bool.and_false, Bool.false_and,
      Bool.false_eq_true, if_false, if_true, reduceCtorEq]

end Transition

/-- No transition touches the head list or E_max. -/
theorem regTransition_heads (s : State) : (regTransition s).reg.heads = s.reg.heads ∧ (regTransition s).reg.eMax = s.reg.eMax := by
  have hleave (st : RegState) (s : State) : (leaveTo st s).reg.heads = s.reg.heads ∧ (leaveTo st s).reg.eMax = s.reg.eMax := by
    rw [leaveTo_reg]
    exact ⟨rfl, rfl⟩
  have henter (st : RegState) (s : State) : (enterReg st s).reg.heads = s.reg.heads ∧ (enterReg st s).reg.eMax = s.reg.eMax := by
    rw [enterReg_reg]
    exact ⟨rfl, rfl⟩
  have hdiscover (s : State) : (enterDiscover s).reg.heads = s.reg.heads ∧ (enterDiscover s).reg.eMax = s.reg.eMax := by
    rw [enterDiscover_reg]
    exact ⟨rfl, rfl⟩
  have hbegin (s : State) : (beginSession s).reg.heads = s.reg.heads ∧ (beginSession s).reg.eMax = s.reg.eMax := by
    rw [beginSession_reg]
    exact ⟨rfl, rfl⟩
  unfold regTransition
  dsimp only
  (repeat' split) <;> simp [hleave, henter, hdiscover, hbegin]

/-- What a session's end or an exit from OPERATING can reach. -/
abbrev exitScope : Scope := { clk := true, carriers := true, reg := true, q := true, evc := true, pmc := true, out := true }

/-! ### Gusts (R81 to R84) -/

theorem offset_lt {v k : Nat} (h : 1000 ≤ k) : v % (k / 1000) * 1000 < k := by
  have hpos : 0 < k / 1000 := Nat.div_pos h (by omega)
  have hlt := Nat.mod_lt v hpos
  omega

/-- The offset R of a gust in its window (R83). -/
def gustOffset (spread v : Nat) : Nat := if spread = 0 then 0 else v % (spread / 1000) * 1000

/-- The state in which a gust is decided: two draws taken, the window spent. -/
def gustReady (s : State) : State := { (draw (draw s).2).2 with reg := { s.reg with window := none } }

/-- A gust on its window, with the parameters in force for it (R82, R83). -/
theorem exec_gust {s : State} {n : Nat} {w : Instant} {spread : Nat} (hwindow : s.reg.window = some (n, w, spread))
    (hcarrier : regCarrier s = some n) (hstate : s.reg.state = .discover) (hfuture : received s ≤ w)
    (hmay : ∀ x, w ≤ x → (s.carrier n).mayEmit x = true) :
    ∃ (win : Window) (b : List Byte) (nonce : BitVec 64) (at_ : Instant),
      win.at_ = w + ns (gustOffset spread (draw s).1) ∧
      exec .gust s = .next (emit (.gust n win b) (setCarrier n { (s.carrier n).takeGate win.at_ with
        winStart := win.at_, winEnd := win.at_ + win.len } { gustReady s with reg := { s.reg with
          window := none, attempt := s.reg.attempt + 1, nonce := some nonce, inUse := some n, gust := some (nonce, at_) } })) := by
  have hlate : w ≤ w + ns (gustOffset spread (draw s).1) := Nat.le_add_right _ _
  change ∃ _ _ _ _, _ ∧ execGust s = _
  unfold execGust
  simp only [hwindow]
  rw [if_neg]
  · exact ⟨_, _, _, _, rfl, rfl⟩
  · rintro (h | h | h | h)
    · exact h hstate
    · exact h hcarrier
    · rw [Bool.not_eq_true'] at h
      exact Bool.false_ne_true (h.symm.trans (hmay _ hlate))
    · exact Nat.not_le.mpr h (Nat.le_trans hfuture hlate)

/-- A window on a carrier that is no longer registration's, or in another state, is let go. -/
theorem exec_gust_not {s : State} {n : Nat} {w : Instant} {spread : Nat} (hwindow : s.reg.window = some (n, w, spread))
    (hnot : regCarrier s ≠ some n ∨ s.reg.state ≠ .discover) : exec .gust s = .next (gustReady s) := by
  change execGust s = _
  unfold execGust
  simp only [hwindow]
  rw [if_pos]
  · rfl
  · rcases hnot with h | h
    · exact .inr (.inl h)
    · exact .inl h

theorem exec_gustUnanswered {s : State} {x : BitVec 64} {t0 : Instant} (hgust : s.reg.gust = some (x, t0))
    (hlong : t0 + ms 100 ≤ s.clk.now) : ∃ u, exec .gustUnanswered s = .next u ∧
      evOnly { s with
        clk := { s.clk with draws := s.clk.draws + 1 }
        reg := { s.reg with
          gust := none, unanswered := s.reg.unanswered + 1
          backoff := (draw s).1 % 2 ^ min (s.reg.unanswered + 1) 6 } } u := by
  change ∃ u, execGustUnanswered s = _ ∧ _
  unfold execGustUnanswered
  simp only [hgust, if_pos hlong]
  refine ⟨_, rfl, ?_⟩
  split
  · exact raise_only _ _
  · exact .refl _

theorem ns_offset_lt {spread v : Nat} (h : 1000 ≤ spread) : ns (gustOffset spread v) < ns spread := by
  have hlt : gustOffset spread v < spread := by
    rw [gustOffset, if_neg (by omega)]
    exact offset_lt h
  exact Nat.mul_lt_mul_of_pos_right hlt (by decide)

/-- Settles O17: the transitions first, then the gusts. -/
theorem registrationStates : Obligations.RegistrationStates := by
  unfold Obligations.RegistrationStates
  refine ⟨fun s => ?_, fun s => ⟨?_, ?_, ?_, ?_, ?_⟩⟩
  · obtain ⟨x, hexec⟩ := evaluation s
    refine ⟨?_, ?_, ?_, ?_, ?_, ?_, ?_, ?_, ?_, ?_, ?_, ?_⟩
    · intro hoff
      refine nextWith_of hexec ?_
      rw [regTransition_off (s := listening x s) hoff]
      exact ⟨hoff, rfl⟩
    · intro hon hrose
      refine nextWith_of hexec ?_
      rw [regTransition_epoch (s := listening x s) hon hrose, clearConditions_reg, leaveTo_reg]
      exact ⟨rfl, rfl, rfl, rfl⟩
    · intro hon hfenced hrose hrefused
      refine nextWith_of hexec ?_
      rw [regTransition_refused (s := listening x s) hon hfenced hrose hrefused, clearConditions_reg, enterReg_reg, exitOperating_reg]
      exact ⟨rfl, rfl⟩
    · intro hrose hrefused hstate hok
      refine nextWith_of hexec ?_
      rw [regTransition_listen (s := listening x s) hrose hrefused hstate hok, clearConditions_reg, enterDiscover_reg]
      exact ⟨rfl, rfl, rfl⟩
    · intro a hrose hrefused hstate hassigned
      refine nextWith_of hexec ?_
      rw [regTransition_assigned (s := listening x s) hrose hrefused hstate hassigned, clearConditions_reg, enterReg_reg]
      exact ⟨rfl, hassigned⟩
    · intro c t0 hrose hrefused hstate hconfirmed hpassed hassigned
      refine nextWith_of hexec ?_
      rw [regTransition_confirmed (s := listening x s) hrose hrefused hstate hconfirmed hpassed, clearConditions_reg, beginSession_reg]
      exact ⟨rfl, rfl, congrArg (Option.map (·.1)) hassigned, rfl⟩
    · intro hrose hrefused hstate hfell
      refine nextWith_of hexec ?_
      rw [regTransition_holdover (s := listening x s) hrose hrefused hstate hfell, clearConditions_reg, enterReg_reg, exitOperating_reg]
      exact ⟨rfl, rfl⟩
    · intro hrose hrefused hstate hsession hresumed
      refine nextWith_of hexec ?_
      rw [regTransition_resumed (s := listening x s) hrose hrefused hstate hsession hresumed, clearConditions_reg, enterReg_reg]
      exact ⟨rfl, hsession, rfl⟩
    · intro hrose hrefused hstate hsession hresumed hover
      refine nextWith_of hexec ?_
      rw [regTransition_over (s := listening x s) hrose hrefused hstate hsession hresumed hover, clearConditions_reg, leaveTo_reg]
      exact ⟨rfl, rfl, rfl⟩
    · refine nextWith_of hexec ?_
      obtain ⟨hheads, heMax⟩ := regTransition_heads (listening x s)
      exact ⟨hheads, heMax, rfl, rfl, rfl, eq_merged (m := exitScope) (by simp [listening])⟩
    · intro hstate hover
      have hexec : exec .rangingTimeout s = .next (enterDiscover s) := by
        change execRangingTimeout s = _
        simp [execRangingTimeout, hstate, hover]
      refine nextWith_of hexec ?_
      rw [enterDiscover_reg]
      refine ⟨rfl, rfl, rfl, ?_⟩
      rw [← enterDiscover_reg]
      exact eq_merged (m := { reg := true, evc := true, out := true }) (by simp)
    · intro hstate hsession hover hresumed
      have hexec : exec .tResume s = .next (leaveTo .listen s) := by
        change execTResume s = _
        simp [execTResume, hstate, hsession, hover, hresumed]
      refine nextWith_of hexec ?_
      rw [leaveTo_reg]
      refine ⟨rfl, rfl, rfl, ?_⟩
      rw [← leaveTo_reg]
      exact eq_merged (m := exitScope) (by simp)
  · intro n w spread hwindow hcarrier hstate hfuture hmay
    obtain ⟨win, b, nonce, at_, hat, hexec⟩ := exec_gust hwindow hcarrier hstate hfuture hmay
    refine nextWith_of hexec ⟨rfl, rfl, rfl, rfl, rfl, hstate, ⟨win, b, rfl, ?_, fun h => ?_, fun h => ?_, ?_, ?_⟩,
      fun m hm => setCarrier_ne _ _ _ _ hm, rfl, rfl⟩
    · rw [hat]
      exact Nat.le_add_right _ _
    · rw [hat, gustOffset, if_pos h]
      rfl
    · rw [hat]
      exact Nat.add_lt_add_left (ns_offset_lt h) w
    · rw [emit_carrier, setCarrier_self]
    · rw [emit_carrier, setCarrier_self]
  · intro hwindow
    change execGust s = _
    simp [execGust, hwindow]
  · intro n w spread hwindow hnot
    exact nextWith_of (exec_gust_not hwindow hnot) ⟨rfl, rfl, rfl⟩
  · intro x t0 hgust hlong
    obtain ⟨u, hexec, hu⟩ := exec_gustUnanswered hgust hlong
    refine nextWith_of hexec ?_
    rw [hu.reg]
    exact ⟨rfl, rfl, Nat.mod_lt _ (Nat.two_pow_pos _), rfl, hu⟩
  · intro x t0 hgust hearly
    change execGustUnanswered s = _
    simp [execGustUnanswered, hgust, Nat.not_le.mpr hearly]

end Sys2Proof.Proofs.RegistrationStates
end

section
/-!
The verdicts on a superframe (chapters 04 and 05): O18.
-/
namespace Sys2Proof.Proofs.SuperframeVerdicts
open Sys2Proof Sys2Proof.Machine Sys2Proof.Proofs.Frames Sys2Proof.Proofs.Rules Sys2Proof.Proofs.CarrierEvents
open Sys2Proof.Proofs.LineTimeEvents Sys2Proof.Proofs.RegistrationCommands

set_option Elab.async false

@[simp] theorem noteStep_time (s : State) : (noteStep s).time = s.time :=
  time_of_rest (m := { tio := true, ports := true, evc := true, out := true }) (by simp)
@[simp] theorem noteStep_q (s : State) : (noteStep s).q = s.q :=
  q_of_rest (m := { tio := true, ports := true, evc := true, out := true }) (by simp)

/-! ### What taking the stamps keeps (R25, R32) -/

/-- Entering TRACK from HOLDOVER leaves line time as valid as it was. -/
theorem enterTrack_of_holdover {s : State} (h : s.time.servo = .holdover) : ∃ u, enterTrack s = setFlag 2 (raise 0x20 u) ∧
    u = { s with time := { s.time with servo := .track, holdover := none, beyond := false, phaseOk := none, estimate := 0 } } := by
  refine ⟨_, ?_, rfl⟩
  unfold enterTrack
  dsimp only
  rw [if_neg (by rw [h]; nofun)]
  unfold noteTime
  rw [if_pos]
  simp [timeValid, h, Servo.holds]

/-- The stamps move received time and the servo: what the line head announces, and the queues, stay. -/
theorem adoptStamps_keeps (es : List Int) (s : State) : (adoptStamps es s).time.tEq = s.time.tEq ∧
    (adoptStamps es s).time.headDelay = s.time.headDelay ∧ (adoptStamps es s).q = s.q := by
  unfold adoptStamps
  split
  · exact ⟨rfl, rfl, rfl⟩
  · dsimp only
    split
    case h_1 =>
      split
      · exact ⟨rfl, rfl, rfl⟩
      · rw [noteStep_time, noteStep_q]
        exact ⟨rfl, rfl, rfl⟩
    case h_2 => split <;> exact ⟨rfl, rfl, rfl⟩
    case h_3 => exact ⟨rfl, rfl, rfl⟩
    case h_4 hservo =>
      split
      · obtain ⟨u, htrack, hu⟩ := enterTrack_of_holdover (s := learn { s with time := { s.time with
          stampAt := some s.clk.now, phaseOk := _ } }) hservo
        rw [htrack, setFlag_time, raise_time, setFlag_q, raise_q, hu]
        exact ⟨rfl, rfl, rfl⟩
      · exact ⟨rfl, rfl, rfl⟩
    case h_5 => split <;> exact ⟨rfl, rfl, rfl⟩

/-- The announced values are taken, and the queues stay. -/
theorem announce_time (n : Nat) (a : SfAcc) (s : State) : (announce n a s).time.tEq = a.tEq ∧
    (announce n a s).time.headDelay = a.headDelay ∧ (announce n a s).q = s.q := by
  unfold announce
  dsimp only
  split
  · split
    · exact ⟨rfl, rfl, rfl⟩
    · rw [(q_of_rest (TimePort.rerange_rest _) :)]
      obtain ⟨e, sl, htime⟩ := TimePort.rerange_time { s with time := { s.time with
        tEq := a.tEq, headDelay := a.headDelay, utc := a.utc, asymAnn := a.asym, asym := a.asym } }
      dsimp only at htime
      rw [htime]
      exact ⟨rfl, rfl, rfl⟩
  · exact ⟨rfl, rfl, rfl⟩

/-! ### The verdicts (R96, R97, R106) -/

theorem sfFailed_reg (n : Nat) (s : State) : (sfFailed n s).reg.eMax = s.reg.eMax ∧ (sfFailed n s).reg.lastSf = s.reg.lastSf := by
  unfold sfFailed
  split <;> exact ⟨rfl, rfl⟩

theorem refuseHead_reg (h : Ident) (e : BitVec 32) (s : State) : (refuseHead h e s).reg.fencedSeen = true ∧
    (refuseHead h e s).reg.refusedAt = some s.clk.now ∧ (refuseHead h e s).reg.eMax = s.reg.eMax ∧
    (refuseHead h e s).reg.lastSf = s.reg.lastSf := by
  unfold refuseHead
  dsimp only
  split
  · exact ⟨rfl, rfl, rfl, rfl⟩
  · rw [raise_reg]
    exact ⟨rfl, rfl, rfl, rfl⟩

theorem raiseEpoch_reg (h : Ident) (e : BitVec 32) (s : State) :
    (raiseEpoch h e s).reg.eMax = (if s.reg.eMax.toNat < e.toNat then e else s.reg.eMax) ∧
      (raiseEpoch h e s).reg.state = s.reg.state := by
  unfold raiseEpoch
  split
  · rw [raise_reg]
    exact ⟨rfl, rfl⟩
  · exact ⟨rfl, rfl⟩

/-- The state in which a superframe's verdict is given: its accumulator is taken. -/
def judged (n : Nat) (f : Carrier → Carrier) (s : State) : State := modCarrier n f (modCarrier n (fun c => { c with sfDone := none }) s)

theorem judged_ne {n m : Nat} (h : m ≠ n) (f : Carrier → Carrier) (s : State) : (judged n f s).carrier m = s.carrier m := by
  simp [judged, modCarrier_ne _ _ _ _ h]

/-- A superframe of an acceptable head makes it the one to follow (R97). -/
def accepted (a : SfAcc) (s : State) : State := { s with reg := { s.reg with
  acceptAt := some s.clk.now, refusedSince := none, acceptNew := true, lastSf := some (a.epoch, a.head) } }

section Verdict
variable {s : State} {n : Nat} {signer : Option Ident} {a : SfAcc} (hdone : (s.carrier n).sfDone = some a)
  (hheads : s.reg.heads ≠ [])
include hdone hheads

theorem exec_unverifiable (h : a.absent = true ∨ a.agree = false) : exec (.superframeVerified n signer) s =
    .next (sfFailed n (raise 0x80 (judged n (fun c => { c with nSfUnver := c.nSfUnver + 1 }) s))) := by
  have hbad : (a.absent || !a.agree) = true := by simpa using h
  change execSuperframeVerified n signer s = _
  simp [execSuperframeVerified, hdone, hheads, hbad, judged]

theorem exec_failed (hpresent : a.absent = false) (hagree : a.agree = true)
    (h : signer ≠ some a.head ∨ (∀ k ∈ s.reg.heads, k.ident ≠ a.head)) : exec (.superframeVerified n signer) s =
    .next (sfFailed n (raise 0x66 (judged n (fun c => { c with nSfBad := c.nSfBad + 1 }) s))) := by
  have hbad : (signer != some a.head || !s.reg.heads.any (fun h => h.ident == a.head)) = true := by
    simpa using h
  change execSuperframeVerified n signer s = _
  simp [execSuperframeVerified, hdone, hheads, hpresent, hagree, hbad, judged]

variable (hpresent : a.absent = false) (hagree : a.agree = true) (hsigner : signer = some a.head)
  (hlisted : ∃ k ∈ s.reg.heads, k.ident = a.head)
include hpresent hagree hsigner hlisted

theorem exec_refused (h : refusedHead a.head a.epoch s = true) : exec (.superframeVerified n signer) s =
    .next (refuseHead a.head a.epoch (judged n (fun c => { c with nSfOk := c.nSfOk + 1 }) s)) := by
  have hgood : (signer != some a.head || !s.reg.heads.any (fun h => h.ident == a.head)) = false := by
    simpa [hsigner] using hlisted
  have hrefused : refusedHead a.head a.epoch (judged n (fun c => { c with nSfOk := c.nSfOk + 1 }) s) = true := h
  change execSuperframeVerified n signer s = _
  unfold judged at hrefused ⊢
  simp [execSuperframeVerified, hdone, hheads, hpresent, hagree, hgood, hrefused]

/-- A superframe that verifies from an acceptable head: its values are taken, and on the time carrier its stamps. -/
theorem exec_verified (h : refusedHead a.head a.epoch s = false) : ∃ u t, exec (.superframeVerified n signer) s = .next t ∧
    u = raiseEpoch a.head a.epoch (judged n (fun c => { c with nSfOk := c.nSfOk + 1 }) s) ∧
    (t = announce n a (accepted a u) ∨ ∃ es, t = adoptStamps es (announce n a (accepted a u))) := by
  have hgood : (signer != some a.head || !s.reg.heads.any (fun h => h.ident == a.head)) = false := by
    simpa [hsigner] using hlisted
  have hrefused : refusedHead a.head a.epoch (judged n (fun c => { c with nSfOk := c.nSfOk + 1 }) s) = false := h
  have hexec : exec (.superframeVerified n signer) s = .next (
      let t := announce n a (accepted a (raiseEpoch a.head a.epoch (judged n (fun c => { c with nSfOk := c.nSfOk + 1 }) s)))
      if t.time.carrier = some n then adoptStamps (a.stamps.map fun (stamp, at_) => (stamp : Int) - at_) t else t) := by
    change execSuperframeVerified n signer s = _
    unfold judged at hrefused ⊢
    simp [execSuperframeVerified, hdone, hheads, hpresent, hagree, hgood, hrefused, accepted]
  refine ⟨_, _, hexec, rfl, ?_⟩
  dsimp only
  split
  · exact .inr ⟨_, rfl⟩
  · exact .inl rfl

end Verdict

/-- What a verified superframe of an acceptable head does, whether or not its stamps are taken. -/
theorem verified_facts {n : Nat} {a : SfAcc} {u t : State}
    (h : t = announce n a (accepted a u) ∨ ∃ es, t = adoptStamps es (announce n a (accepted a u))) :
    t.reg = (accepted a u).reg ∧ t.time.tEq = a.tEq ∧ t.time.headDelay = a.headDelay ∧ (∀ m, t.carrier m = u.carrier m) ∧
      t.q = u.q ∧ t.cmd = u.cmd := by
  obtain ⟨htEq, hdelay, hq⟩ := announce_time n a (accepted a u)
  have hreg : (announce n a (accepted a u)).reg = (accepted a u).reg := announce_reg n a _
  have hcarrier (m : Nat) : (announce n a (accepted a u)).carrier m = u.carrier m := announce_carrier n a _ m
  have hcmd : (announce n a (accepted a u)).cmd = u.cmd := announce_cmd n a _
  rcases h with rfl | ⟨es, rfl⟩
  · exact ⟨hreg, htEq, hdelay, hcarrier, hq, hcmd⟩
  · obtain ⟨htEq', hdelay', hq'⟩ := adoptStamps_keeps es (announce n a (accepted a u))
    rw [adoptStamps_reg, adoptStamps_cmd, htEq', hdelay', hq']
    exact ⟨hreg, htEq, hdelay, fun m => (adoptStamps_carrier es _ m).trans (hcarrier m), hq, hcmd⟩

/-- Settles O18. -/
theorem superframeVerdicts : Obligations.SuperframeVerdicts := by
  unfold Obligations.SuperframeVerdicts
  intro s n signer a hdone hheads
  refine ⟨?_, ?_, ?_, ?_⟩
  · intro hbad
    refine nextWith_of (exec_unverifiable hdone hheads hbad) ?_
    obtain ⟨heMax, hlast⟩ := sfFailed_reg n (raise 0x80 (judged n (fun c => { c with nSfUnver := c.nSfUnver + 1 }) s))
    rw [raise_reg] at heMax hlast
    exact ⟨by simp [judged], fun m hm => by simp [judged_ne hm], by simp [judged], heMax, hlast,
      eq_merged (m := { carriers := true, reg := true, evc := true, out := true }) (by simp [judged])⟩
  · intro hpresent hagree hbad
    refine nextWith_of (exec_failed hdone hheads hpresent hagree hbad) ?_
    obtain ⟨heMax, hlast⟩ := sfFailed_reg n (raise 0x66 (judged n (fun c => { c with nSfBad := c.nSfBad + 1 }) s))
    rw [raise_reg] at heMax hlast
    exact ⟨by simp [judged], fun m hm => by simp [judged_ne hm], by simp [judged], heMax, hlast,
      eq_merged (m := { carriers := true, reg := true, evc := true, out := true }) (by simp [judged])⟩
  · intro hpresent hagree hsigner hlisted hrefused
    refine nextWith_of (exec_refused hdone hheads hpresent hagree hsigner hlisted hrefused) ?_
    obtain ⟨hseen, hat, heMax, hlast⟩ :=
      refuseHead_reg a.head a.epoch (judged n (fun c => { c with nSfOk := c.nSfOk + 1 }) s)
    exact ⟨by simp [judged], hseen, hat, heMax, hlast, by simp [judged], fun m hm => by simp [judged_ne hm]⟩
  · intro hpresent hagree hsigner hlisted hrefused
    obtain ⟨u, t, hexec, hu, ht⟩ := exec_verified hdone hheads hpresent hagree hsigner hlisted hrefused
    obtain ⟨hreg, htEq, hdelay, hcarrier, hq, hcmd⟩ := verified_facts ht
    obtain ⟨heMax, hstate⟩ := raiseEpoch_reg a.head a.epoch (judged n (fun c => { c with nSfOk := c.nSfOk + 1 }) s)
    refine nextWith_of hexec ?_
    rw [hreg, hcarrier, htEq, hdelay, hq, hcmd]
    subst hu
    refine ⟨by simp [judged], heMax, rfl, ?_, hstate, rfl, rfl, fun m hm => ?_, by simp [judged], by simp [judged]⟩
    · simp [accepted, judged]
    · rw [hcarrier, raiseEpoch_carrier, judged_ne hm]

end Sys2Proof.Proofs.SuperframeVerdicts
end

section
/-!
The line head's registration messages (chapters 04 and 05): O19.
-/
namespace Sys2Proof.Proofs.RegistrationMessages
open Sys2Proof Sys2Proof.Machine Sys2Proof.Proofs.Frames Sys2Proof.Proofs.Rules Sys2Proof.Proofs.CarrierEvents
open Sys2Proof.Proofs.LineTimeEvents Sys2Proof.Proofs.RegistrationCommands

set_option Elab.async false

@[simp] theorem applyDown_reg (a0 : Int) (s : State) : (applyDown a0 s).reg = s.reg :=
  reg_of_rest (m := { clk := true, time := true, tio := true, trib := true, cls := true, q := true, ports := true, snaps := true, sec := true, groups := true, evc := true, pwr := true, out := true }) (by simp)
@[simp] theorem applyDown_cmd (a0 : Int) (s : State) : (applyDown a0 s).cmd = s.cmd :=
  cmd_of_rest (m := { clk := true, time := true, tio := true, trib := true, cls := true, q := true, ports := true, snaps := true, sec := true, groups := true, evc := true, pwr := true, out := true }) (by simp)
@[simp] theorem applyDown_carrier (a0 : Int) (s : State) (n : Nat) : (applyDown a0 s).carrier n = s.carrier n := by
  unfold State.carrier
  rw [show (applyDown a0 s).carriers = s.carriers from carriers_of_rest (m := { clk := true, time := true, tio := true, trib := true, cls := true, q := true, ports := true, snaps := true, sec := true, groups := true, evc := true, pwr := true, out := true }) (by simp)]
@[simp] theorem rangeFrom_carrier (a0 : Nat) (s : State) (n : Nat) : (rangeFrom a0 s).carrier n = s.carrier n := by
  unfold State.carrier
  rw [show (rangeFrom a0 s).carriers = s.carriers from carriers_of_rest (m := { clk := true, time := true, tio := true, trib := true, cls := true, q := true, ports := true, snaps := true, sec := true, groups := true, evc := true, pwr := true, out := true }) (by simp)]
@[simp] theorem setRanged_reg (a0 : Nat) (a1 : Nat) (s : State) : (setRanged a0 a1 s).reg = s.reg :=
  reg_of_rest (m := { clk := true, time := true, tio := true, carriers := true, trib := true, cls := true, q := true, ports := true, snaps := true, sec := true, groups := true, evc := true, pwr := true, out := true }) (by simp)
@[simp] theorem setRanged_cmd (a0 : Nat) (a1 : Nat) (s : State) : (setRanged a0 a1 s).cmd = s.cmd :=
  cmd_of_rest (m := { clk := true, time := true, tio := true, carriers := true, trib := true, cls := true, q := true, ports := true, snaps := true, sec := true, groups := true, evc := true, pwr := true, out := true }) (by simp)
@[simp] theorem rangeInvalid_carrier (s : State) (n : Nat) : (rangeInvalid s).carrier n = s.carrier n := by
  unfold State.carrier
  rw [show (rangeInvalid s).carriers = s.carriers from carriers_of_rest (m := { reg := true, evc := true, out := true }) (by simp)]
@[simp] theorem rangeInvalid_time (s : State) : (rangeInvalid s).time = s.time :=
  time_of_rest (m := { reg := true, evc := true, out := true }) (by simp)
@[simp] theorem rangeInvalid_q (s : State) : (rangeInvalid s).q = s.q :=
  q_of_rest (m := { reg := true, evc := true, out := true }) (by simp)
@[simp] theorem rangeInvalid_cmd (s : State) : (rangeInvalid s).cmd = s.cmd :=
  cmd_of_rest (m := { reg := true, evc := true, out := true }) (by simp)
@[simp] theorem updateEqd_reg (a0 : Nat) (a1 : Nat) (a2 : Instant) (s : State) : (updateEqd a0 a1 a2 s).reg = s.reg :=
  reg_of_rest (m := { carriers := true, out := true }) (by simp)
@[simp] theorem updateEqd_cmd (a0 : Nat) (a1 : Nat) (a2 : Instant) (s : State) : (updateEqd a0 a1 a2 s).cmd = s.cmd :=
  cmd_of_rest (m := { carriers := true, out := true }) (by simp)
@[simp] theorem updateEqd_q (a0 : Nat) (a1 : Nat) (a2 : Instant) (s : State) : (updateEqd a0 a1 a2 s).q = s.q :=
  q_of_rest (m := { carriers := true, out := true }) (by simp)
@[simp] theorem regateAll_q (s : State) : (regateAll s).q = s.q :=
  q_of_rest (m := { ports := true, evc := true, out := true }) (by simp)

/-- What a change of one carrier keeps of it, it keeps of every carrier. -/
theorem modCarrier_keeps {β : Type} {F : Carrier → β} {f : Carrier → Carrier} (n k : Nat) (s : State) (hf : ∀ c, F (f c) = F c) :
    F ((modCarrier n f s).carrier k) = F (s.carrier k) := by
  by_cases h : k = n
  · subst h
    rw [modCarrier_self, hf]
  · rw [modCarrier_ne _ _ _ _ h]

/-! ### Messages in order (R85, R107) -/

/-- The state after a message has been taken from the carrier's list. -/
def taken (n : Nat) (w : Message) (s : State) : State := modCarrier n (fun v => { v with msgsDone := v.msgsDone.erase w }) s

theorem taken_carrier (n k : Nat) (w : Message) (s : State) : ∃ l, (taken n w s).carrier k = { s.carrier k with msgsDone := l } := by
  by_cases h : k = n
  · subst h
    exact ⟨_, modCarrier_self _ _ _⟩
  · exact ⟨_, modCarrier_ne _ _ _ _ h⟩

theorem taken_nMsgBad (n k : Nat) (w : Message) (s : State) : ((taken n w s).carrier k).nMsgBad = (s.carrier k).nMsgBad := by
  obtain ⟨l, hl⟩ := taken_carrier n k w s
  rw [hl]

theorem taken_ne {n m : Nat} (h : m ≠ n) (w : Message) (s : State) : (taken n w s).carrier m = s.carrier m :=
  modCarrier_ne _ _ _ _ h

theorem slotCarrier_taken (n slot : Nat) (w : Message) (s : State) : slotCarrier slot (taken n w s) = slotCarrier slot s := by
  have hslot : (fun k => ((taken n w s).carrier k).slot == some slot) = fun k => (s.carrier k).slot == some slot := by
    funext k
    obtain ⟨l, hl⟩ := taken_carrier n k w s
    rw [hl]
  exact congrArg (List.find? · s.carrierNums) hslot

section Receive
variable {s : State} {n type : Nat} {w : Message} {l : List (List Byte)}

/-- A message whose items are in order, verified against a head that the terminal acts on, is acted on. -/
theorem receiveMsg_acts {hd : Ident} {mine : List (List Byte) → Bool} {k : List (List Byte) → Message → State → State}
    (hhas : s.hasCarrier n = true) (hmsg : (s.carrier n).message type = some w) (hitems : messageItems type w.body = some l)
    (hhead : headOk hd w.epoch s = true) : receiveMsg n type (some hd) mine k s = k l w (taken n w s) := by
  have hhead' : headOk hd w.epoch (taken n w s) = true := hhead
  unfold taken at hhead' ⊢
  simp [receiveMsg, hhas, hmsg, hitems, hhead']

/-- One whose items are out of order is counted. -/
theorem receiveMsg_bad {signer : Option Ident} {mine : List (List Byte) → Bool} {k : List (List Byte) → Message → State → State}
    (hhas : s.hasCarrier n = true) (hmsg : (s.carrier n).message type = some w) (hitems : messageItems type w.body = none) :
    receiveMsg n type signer mine k s = modCarrier n (fun v => { v with nMsgBad := v.nMsgBad + 1 }) (taken n w s) := by
  simp [receiveMsg, hhas, hmsg, hitems, taken]

/-- One that verifies against no head raises reg.head_auth_fail. -/
theorem receiveMsg_unsigned {mine : List (List Byte) → Bool} {k : List (List Byte) → Message → State → State}
    (hhas : s.hasCarrier n = true) (hmsg : (s.carrier n).message type = some w) (hitems : messageItems type w.body = some l) :
    receiveMsg n type none mine k s = raise 0x66 (if mine l && (taken n w s).reg.state == .ranging then
      { taken n w s with reg := { s.reg with sigFailed := true } } else taken n w s) := by
  simp [receiveMsg, hhas, hmsg, hitems, taken]

/-- A carrier that the variant has not receives none. -/
theorem receiveMsg_absent {signer : Option Ident} {mine : List (List Byte) → Bool}
    {k : List (List Byte) → Message → State → State} (hhas : s.hasCarrier n = false) : receiveMsg n type signer mine k s = s := by
  simp [receiveMsg, hhas]

end Receive

/-! ### What a new d_down leaves (R29) -/

/-- A first d_down makes line time valid or leaves it as it was: no queue changes. -/
theorem applyDown_q (d : Int) (s : State) : (applyDown d s).q = s.q := by
  have hstep (s : State) : (noteStep s).q = s.q := q_of_rest (m := { tio := true, ports := true, evc := true, out := true }) (by simp)
  unfold applyDown
  dsimp only
  split
  case h_1 hnone =>
    have hbefore : timeValid s = false := by simp [timeValid, hnone]
    unfold noteTime
    split
    · rfl
    case isFalse hdiffers =>
      rw [hbefore] at hdiffers
      have hvalid : timeValid { s with time := { s.time with dDown := some d, slew := none } } = true := by
        simpa using hdiffers
      have hvalid' : timeValid (holdOutputs { s with
          clk := { s.clk with validChanges := s.clk.validChanges + 1 }
          time := { s.time with dDown := some d, slew := none } }) = true := hvalid
      dsimp only
      rw [hvalid']
      split
      · rfl
      · rw [if_pos rfl, regateAll_q]
        rfl
  case h_2 =>
    split
    · rfl
    · split
      · rfl
      · rw [hstep]

theorem rangeFrom_q (n : Nat) (s : State) : (rangeFrom n s).q = s.q := applyDown_q _ _

theorem applyDown_received (d : Int) (s : State) : received (applyDown d s) = received s := by
  obtain ⟨e, sl, htime⟩ := TimePort.applyDown_time d s
  unfold received
  rw [htime]

theorem setRanged_q (k eqd : Nat) (s : State) : (setRanged k eqd s).q = s.q := by
  unfold setRanged
  dsimp only
  split
  · exact rangeFrom_q _ _
  · rfl

theorem setRanged_received (k eqd : Nat) (s : State) : received (setRanged k eqd s) = received s := by
  unfold setRanged
  dsimp only
  split
  · exact applyDown_received _ _
  · rfl

theorem setRanged_self (k eqd : Nat) (s : State) :
    (setRanged k eqd s).carrier k = { s.carrier k with eqd := eqd, eqdNext := [], ranged := true } := by
  unfold setRanged
  dsimp only
  split
  · rw [rangeFrom_carrier, modCarrier_self]
  · rw [modCarrier_self]

/-! ### Equalisation delays (R88) -/

theorem correctEqd_reg {k eqd : Nat} {gsw : Instant} {ok : State → State} {s : State} (hok : ∀ t, (ok t).reg = t.reg)
    (hstate : s.reg.state ≠ .ranging) : (correctEqd k eqd gsw ok s).reg = s.reg := by
  unfold correctEqd
  dsimp only
  split
  · simp [rangeInvalid, hstate]
  · split <;> simp [hok]

theorem correctEqd_q {k eqd : Nat} {gsw : Instant} {ok : State → State} (hok : ∀ t, (ok t).q = t.q) (s : State) :
    (correctEqd k eqd gsw ok s).q = s.q := by
  unfold correctEqd
  dsimp only
  split
  · simp
  · split <;> simp [hok, applyDown_q]

theorem correctEqd_cmd {k eqd : Nat} {gsw : Instant} {ok : State → State} (hok : ∀ t, (ok t).cmd = t.cmd) (s : State) :
    (correctEqd k eqd gsw ok s).cmd = s.cmd := by
  unfold correctEqd
  dsimp only
  split
  · simp
  · split <;> simp [hok]

/-- The update joins those of the carrier, last. -/
theorem updateEqd_self (k eqd : Nat) (g : Instant) (s : State) : ∃ l, ((updateEqd k eqd g s).carrier k).eqdNext = l ++ [(eqd, g)] := by
  unfold updateEqd
  dsimp only
  rw [setCarrier_self]
  exact ⟨_, rfl⟩

theorem correctEqd_self {k eqd : Nat} {gsw : Instant} {ok : State → State} {s : State} (hok : ∀ t m, (ok t).carrier m = t.carrier m)
    (hgood : eqdOk s eqd = true) (hnear : ((eqd : Int) - (s.carrier k).eqdAt gsw).natAbs ≤ 40000) :
    ∃ l, ((correctEqd k eqd gsw ok s).carrier k).eqdNext = l ++ [(eqd, gsw)] := by
  obtain ⟨l, hl⟩ := updateEqd_self k eqd gsw s
  refine ⟨l, ?_⟩
  unfold correctEqd
  dsimp only
  rw [if_neg (by simp [hgood]; omega)]
  split
  · rw [applyDown_carrier]
    exact (congrArg Carrier.eqdNext (hok _ k)).trans hl
  · exact (congrArg Carrier.eqdNext (hok _ k)).trans hl

/-- The last update whose switch instant has come is in force. -/
theorem eqdAt_last {c : Carrier} {l : List (Nat × Instant)} {eqd : Nat} {g : Instant} (h : c.eqdNext = l ++ [(eqd, g)]) :
    c.eqdAt g = eqd := by
  unfold Carrier.eqdAt
  rw [h, List.foldl_append]
  simp

theorem correctEqd_refused {k eqd : Nat} {gsw : Instant} {ok : State → State} {s : State}
    (hfar : 40000 < ((eqd : Int) - (s.carrier k).eqdAt gsw).natAbs) : correctEqd k eqd gsw ok s = rangeInvalid s := by
  unfold correctEqd
  dsimp only
  rw [if_pos (by simp [hfar])]

/-! ### What each verified message does -/

/-- The state with another registration. -/
def withReg (r : Registration) (s : State) : State := { s with reg := r }

theorem withReg_carrier (r : Registration) (s : State) (k : Nat) : (withReg r s).carrier k = s.carrier k := rfl

section Take
variable {s : State} {k : Nat}

theorem takeAssign_discover {m : RangeAssignMsg} (hslot : slotCarrier m.slot s = some k) (hstate : s.reg.state = .discover)
    (hnonce : s.reg.nonce = some (BitVec.ofNat 64 m.nonce)) (hm : m.nonce ≠ 0) (hok : eqdOk s m.eqd = true) :
    takeAssign m s = withReg { s.reg with
        assigned := some (m.number % 64, s.clk.now), gust := none, inUse := some k
        assignEpoch := (s.reg.lastSf.map (·.1)).getD 0 }
      (modCarrier k (fun v => { v with eqd := m.eqd, eqdNext := [], ranged := false }) s) := by
  have hby : byNonce s m = true := by simp [byNonce, hnonce, hm]
  simp [takeAssign, hslot, hstate, hby, hok, withReg]

theorem takeAssign_operating {m : RangeAssignMsg} (hslot : slotCarrier m.slot s = some k) (hstate : s.reg.state = .operating)
    (hsession : s.reg.session = true) (hnumber : s.reg.number = some m.number) (hranged : (s.carrier k).ranged = false)
    (hok : eqdOk s m.eqd = true) : takeAssign m s = modCarrier k (fun v => { v with eqd := m.eqd, eqdNext := [] }) s := by
  have hby : byNumber s m = true := by simp [byNumber, hsession, hnumber]
  simp [takeAssign, hslot, hstate, hby, hok, hranged]

theorem takeConfirm_ranging {m : RegConfirmMsg} (hslot : slotCarrier m.slot s = some k) (hstate : s.reg.state = .ranging)
    (hfirst : s.reg.confirmed = none) (hnumber : ownNumber s = some m.number) (hok : eqdOk s m.eqd = true) :
    ∃ f b, takeConfirm m true s = { setRanged k m.eqd s with reg := { s.reg with
      confirmed := some (received s), epoch := m.epoch, key := some { name := m.key, frame := f, since := b } } } := by
  have hrx := setRanged_received k m.eqd s
  have hreg := setRanged_reg k m.eqd s
  unfold takeConfirm
  rw [hslot]
  dsimp only
  rw [if_neg (by simp [hnumber]), if_pos (by simp [hstate, hfirst]), if_neg (by simp [hok]), hrx, hreg]
  exact ⟨_, _, rfl⟩

theorem takeUpdate_operating {m : RangeUpdateMsg} (hslot : slotCarrier m.slot s = some k) (hstate : s.reg.state = .operating)
    (hnumber : s.reg.number = some m.number) (hranged : (s.carrier k).ranged = true) :
    takeUpdate m s = correctEqd k m.eqd m.gsw (raise 0x6A) s := by
  simp [takeUpdate, hslot, hstate, hnumber, hranged]

/-- One equalisation delay of a RESUME is applied under R88, if its carrier is ranged (R98). -/
def resumePair (boundary : Instant) (s : State) (p : Nat × Nat) : State :=
  match slotCarrier p.1 s with
  | some k => if (s.carrier k).ranged then correctEqd k p.2 boundary (fun s => s) s else s
  | none => s

theorem resumePair_keeps (boundary : Instant) (p : Nat × Nat) (hstate : s.reg.state ≠ .ranging) :
    (resumePair boundary s p).reg = s.reg ∧ (resumePair boundary s p).q = s.q ∧ (resumePair boundary s p).cmd = s.cmd := by
  unfold resumePair
  split
  · split
    · exact ⟨correctEqd_reg (fun _ => rfl) hstate, correctEqd_q (fun _ => rfl) s, correctEqd_cmd (fun _ => rfl) s⟩
    · exact ⟨rfl, rfl, rfl⟩
  · exact ⟨rfl, rfl, rfl⟩

/-- The equalisation delays of a RESUME touch neither the registration, nor the queues, nor the command channel. -/
theorem resumePairs_keeps (l : List (Nat × Nat)) (boundary : Instant) (s : State) (hstate : s.reg.state ≠ .ranging) :
    (l.foldl (resumePair boundary) s).reg = s.reg ∧ (l.foldl (resumePair boundary) s).q = s.q ∧
      (l.foldl (resumePair boundary) s).cmd = s.cmd := by
  induction l generalizing s with
  | nil => exact ⟨rfl, rfl, rfl⟩
  | cons p l ih =>
    obtain ⟨hreg, hq, hcmd⟩ := resumePair_keeps boundary p hstate
    obtain ⟨hreg', hq', hcmd'⟩ := ih (resumePair boundary s p) (by rw [hreg]; exact hstate)
    exact ⟨hreg'.trans hreg, hq'.trans hq, hcmd'.trans hcmd⟩

theorem takeResume_session {m : ResumeMsg} (boundary : Instant) (hnumber : s.reg.number = some m.number)
    (hsession : s.reg.session = true) (hepoch : m.epoch = s.reg.epoch) (hstate : s.reg.state = .holdover ∨ s.reg.state = .fenced)
    (hover : resumeOver s = false) (hpairs : ∀ p ∈ m.pairs, eqdOk s p.2 = true) : takeResume m boundary s =
      { m.pairs.foldl (resumePair boundary) s with
        reg := { (m.pairs.foldl (resumePair boundary) s).reg with resumed := true } } := by
  have hgood : (m.pairs.any fun p => !eqdOk s p.2) = false := by simpa using hpairs
  unfold takeResume
  rw [if_neg (by rcases hstate with h | h <;> simp [hnumber, hsession, hepoch, h, hover]), hgood, if_neg Bool.false_ne_true]
  rfl

end Take

/-- RANGE_ASSIGN with no map of its own waiting is the assignment alone (R90). -/
theorem exec_rangeAssign {s : State} {n : Nat} {w : Message} {l : List (List Byte)} {hd : Ident} {u : State} (hhas : s.hasCarrier n = true)
    (hmsg : (s.carrier n).message 1 = some w) (hitems : messageItems 1 w.body = some l) (hhead : headOk hd w.epoch s = true)
    (hu : takeAssign (rangeAssignOf l) (taken n w s) = u) (hwait : (u.carrier n).mapWait = (s.carrier n).mapWait)
    (hmap : ∀ x ∈ (s.carrier n).mapWait, x.msg ≠ w) :
    exec (.rangeAssign n (some hd)) s = .next (modCarrier n (fun c => { c with mapWait := c.mapWait.filter fun x => x.msg != w }) u) := by
  have hnone : ((u.carrier n).mapWait.filter fun x => x.msg == w) = [] := by
    rw [hwait, List.filter_eq_nil_iff]
    intro x hx
    simpa using hmap x hx
  change execRangeAssign n (some hd) s = _
  unfold execRangeAssign
  simp only [hhas, if_true, hmsg]
  rw [receiveMsg_acts hhas hmsg hitems hhead, hu]
  unfold releaseMap
  rw [hnone]
  rfl

/-! ### The messages that verify (Table 5-3) -/

section Verified
variable {s : State} {n k type : Nat} {w : Message} {l : List (List Byte)} {hd : Ident} (hhas : s.hasCarrier n = true)
  (hmsg : (s.carrier n).message type = some w) (hitems : messageItems type w.body = some l) (hhead : headOk hd w.epoch s = true)
include hhas hmsg hitems hhead

theorem rangeAssign_discover {m : RangeAssignMsg} (hm' : m = rangeAssignOf l) (htype : type = 1) (hslot : slotCarrier m.slot s = some k)
    (hstate : s.reg.state = .discover) (hnonce : s.reg.nonce = some (BitVec.ofNat 64 m.nonce)) (hm : m.nonce ≠ 0)
    (hok : eqdOk s m.eqd = true) (hmap : ∀ x ∈ (s.carrier n).mapWait, x.msg ≠ w) :
    nextWith (.rangeAssign n (some hd)) s fun t =>
      t.reg.assigned = some (m.number % 64, s.clk.now) ∧ t.reg.gust = none ∧ t.reg.inUse = some k ∧
      t.reg.state = .discover ∧ (t.carrier k).eqd = m.eqd ∧ (t.carrier k).ranged = false ∧
      t = { s with carriers := t.carriers, reg := t.reg } := by
  have hslot' : slotCarrier m.slot (taken n w s) = some k := (slotCarrier_taken n _ w s).trans hslot
  subst hm' htype
  have hwait : ((taken n w s).carrier n).mapWait = (s.carrier n).mapWait := modCarrier_keeps n n s fun _ => rfl
  have hu := takeAssign_discover (s := taken n w s) hslot' hstate hnonce hm hok
  refine nextWith_of (exec_rangeAssign hhas hmsg hitems hhead hu ?_ hmap) ⟨rfl, rfl, rfl, hstate, ?_, ?_, ?_⟩
  · rw [withReg_carrier]
    exact Eq.trans (modCarrier_keeps (F := Carrier.mapWait) k n _ fun _ => rfl) hwait
  · refine Eq.trans (modCarrier_keeps (F := Carrier.eqd) n k _ fun _ => rfl) ?_
    rw [withReg_carrier, modCarrier_self]
  · refine Eq.trans (modCarrier_keeps (F := Carrier.ranged) n k _ fun _ => rfl) ?_
    rw [withReg_carrier, modCarrier_self]
  · exact eq_merged (m := { carriers := true, reg := true }) (by simp [taken, withReg])

theorem rangeAssign_operating {m : RangeAssignMsg} (hm' : m = rangeAssignOf l) (htype : type = 1) (hslot : slotCarrier m.slot s = some k)
    (hstate : s.reg.state = .operating) (hsession : s.reg.session = true) (hnumber : s.reg.number = some m.number)
    (hunranged : (s.carrier k).ranged = false) (hok : eqdOk s m.eqd = true) (hmap : ∀ x ∈ (s.carrier n).mapWait, x.msg ≠ w) :
    nextWith (.rangeAssign n (some hd)) s fun t =>
      (t.carrier k).eqd = m.eqd ∧ (t.carrier k).ranged = false ∧ t = { s with carriers := t.carriers } := by
  have hslot' : slotCarrier m.slot (taken n w s) = some k := (slotCarrier_taken n _ w s).trans hslot
  subst hm' htype
  have hwait : ((taken n w s).carrier n).mapWait = (s.carrier n).mapWait := modCarrier_keeps n n s fun _ => rfl
  have hranged : ((taken n w s).carrier k).ranged = (s.carrier k).ranged := modCarrier_keeps n k s fun _ => rfl
  have hu := takeAssign_operating (s := taken n w s) hslot' hstate hsession hnumber (hranged.trans hunranged) hok
  refine nextWith_of (exec_rangeAssign hhas hmsg hitems hhead hu
    (Eq.trans (modCarrier_keeps (F := Carrier.mapWait) k n _ fun _ => rfl) hwait) hmap) ⟨?_, ?_, ?_⟩
  · exact Eq.trans (modCarrier_keeps (F := Carrier.eqd) n k _ fun _ => rfl)
      (congrArg Carrier.eqd (modCarrier_self k _ (taken n w s)))
  · exact Eq.trans (modCarrier_keeps (F := Carrier.ranged) n k _ fun _ => rfl)
      (Eq.trans (modCarrier_keeps (F := Carrier.ranged) k k _ fun _ => rfl) (hranged.trans hunranged))
  · exact eq_merged (m := { carriers := true }) (by simp [taken])

theorem regConfirm_ranging {m : RegConfirmMsg} (hm' : m = regConfirmOf l) (htype : type = 2) (hslot : slotCarrier m.slot s = some k)
    (hstate : s.reg.state = .ranging) (hfirst : s.reg.confirmed = none) (hnumber : ownNumber s = some m.number)
    (hok : eqdOk s m.eqd = true) : nextWith (.regConfirm n (some hd) true) s fun t =>
      (t.carrier k).eqd = m.eqd ∧ (t.carrier k).ranged = true ∧ t.reg.confirmed = some (received s) ∧
      t.reg.epoch = m.epoch ∧ t.reg.key.map (·.name) = some m.key ∧ t.reg.state = .ranging ∧ t.q = s.q ∧ t.cmd = s.cmd := by
  have hslot' : slotCarrier m.slot (taken n w s) = some k := (slotCarrier_taken n _ w s).trans hslot
  subst hm' htype
  obtain ⟨f, b, hu⟩ := takeConfirm_ranging (s := taken n w s) hslot' hstate hfirst hnumber hok
  have hexec : exec (.regConfirm n (some hd) true) s = .next _ :=
    congrArg Host.Outcome.next ((receiveMsg_acts hhas hmsg hitems hhead).trans hu)
  refine nextWith_of hexec ⟨?_, ?_, rfl, rfl, rfl, hstate, setRanged_q k _ _, setRanged_cmd k _ _⟩
  · exact congrArg Carrier.eqd (setRanged_self k _ (taken n w s))
  · exact congrArg Carrier.ranged (setRanged_self k _ (taken n w s))

theorem rangeUpdate_near {m : RangeUpdateMsg} (hm' : m = rangeUpdateOf l) (htype : type = 3) (hslot : slotCarrier m.slot s = some k)
    (hstate : s.reg.state = .operating) (hnumber : s.reg.number = some m.number) (hr : (s.carrier k).ranged = true)
    (hok : eqdOk s m.eqd = true) (hnear : ((m.eqd : Int) - (s.carrier k).eqdAt m.gsw).natAbs ≤ 40000) :
    nextWith (.rangeUpdate n (some hd)) s fun t =>
      (t.carrier k).eqdNext.getLast? = some (m.eqd, m.gsw) ∧ (t.carrier k).eqdAt m.gsw = m.eqd ∧
      t.reg = s.reg ∧ t.q = s.q ∧ t.cmd = s.cmd := by
  have hslot' : slotCarrier m.slot (taken n w s) = some k := (slotCarrier_taken n _ w s).trans hslot
  subst hm' htype
  have hranged : ((taken n w s).carrier k).ranged = (s.carrier k).ranged := modCarrier_keeps n k s fun _ => rfl
  have heqdAt (g : Instant) : ((taken n w s).carrier k).eqdAt g = (s.carrier k).eqdAt g :=
    modCarrier_keeps (F := fun c => c.eqdAt g) n k s fun _ => rfl
  have hu := takeUpdate_operating (s := taken n w s) hslot' hstate hnumber (hranged.trans hr)
  have hexec : exec (.rangeUpdate n (some hd)) s = .next _ :=
    congrArg Host.Outcome.next ((receiveMsg_acts hhas hmsg hitems hhead).trans hu)
  obtain ⟨l', hl'⟩ := correctEqd_self (ok := raise 0x6A) (s := taken n w s) (fun t m => raise_carrier _ t m) hok
    (by rw [heqdAt]; exact hnear)
  refine nextWith_of hexec ⟨?_, eqdAt_last hl', ?_, ?_, ?_⟩
  · rw [hl', List.getLast?_append]
    rfl
  · exact correctEqd_reg (fun t => raise_reg _ t) (by rw [show (taken n w s).reg = s.reg from rfl, hstate]; nofun)
  · exact correctEqd_q (fun t => raise_q _ t) _
  · exact correctEqd_cmd (fun t => raise_cmd _ t) _

theorem rangeUpdate_far {m : RangeUpdateMsg} (hm' : m = rangeUpdateOf l) (htype : type = 3) (hslot : slotCarrier m.slot s = some k)
    (hstate : s.reg.state = .operating) (hnumber : s.reg.number = some m.number) (hr : (s.carrier k).ranged = true)
    (hfar : 40000 < ((m.eqd : Int) - (s.carrier k).eqdAt m.gsw).natAbs) : nextWith (.rangeUpdate n (some hd)) s fun t =>
      (t.carrier k).eqd = (s.carrier k).eqd ∧ (t.carrier k).eqdNext = (s.carrier k).eqdNext ∧ t.time = s.time ∧
      t.reg = s.reg := by
  have hslot' : slotCarrier m.slot (taken n w s) = some k := (slotCarrier_taken n _ w s).trans hslot
  subst hm' htype
  obtain ⟨y, hk⟩ := taken_carrier n k w s
  have hranged : ((taken n w s).carrier k).ranged = (s.carrier k).ranged := modCarrier_keeps n k s fun _ => rfl
  have heqdAt (g : Instant) : ((taken n w s).carrier k).eqdAt g = (s.carrier k).eqdAt g :=
    modCarrier_keeps (F := fun c => c.eqdAt g) n k s fun _ => rfl
  have hu := takeUpdate_operating (s := taken n w s) hslot' hstate hnumber (hranged.trans hr)
  rw [correctEqd_refused (by rw [heqdAt]; exact hfar)] at hu
  have hexec : exec (.rangeUpdate n (some hd)) s = .next _ :=
    congrArg Host.Outcome.next ((receiveMsg_acts hhas hmsg hitems hhead).trans hu)
  refine nextWith_of hexec ⟨?_, ?_, ?_, ?_⟩
  · rw [rangeInvalid_carrier, hk]
  · rw [rangeInvalid_carrier, hk]
  · rw [rangeInvalid_time]
    rfl
  · simp [rangeInvalid, taken, hstate]

theorem resume_session {m : ResumeMsg} (hm' : m = resumeOf l) (htype : type = 4) (hnumber : s.reg.number = some m.number)
    (hsession : s.reg.session = true) (hepoch : m.epoch = s.reg.epoch)
    (hstate : s.reg.state = .holdover ∨ s.reg.state = .fenced) (hover : resumeOver s = false)
    (hpairs : ∀ p ∈ m.pairs, eqdOk s p.2 = true) : nextWith (.resume n (some hd)) s fun t =>
      t.reg = { s.reg with resumed := true } ∧ t.q = s.q ∧ t.cmd = s.cmd := by
  subst hm' htype
  have hnot : (taken n w s).reg.state ≠ .ranging := by
    rw [show (taken n w s).reg = s.reg from rfl]
    rcases hstate with h | h <;> rw [h] <;> nofun
  have hu := takeResume_session (s := taken n w s) w.stamp hnumber hsession hepoch hstate hover hpairs
  obtain ⟨hreg, hq, hcmd⟩ := resumePairs_keeps (resumeOf l).pairs w.stamp (taken n w s) hnot
  have hexec : exec (.resume n (some hd)) s = .next _ :=
    congrArg Host.Outcome.next ((receiveMsg_acts hhas hmsg hitems hhead).trans hu)
  refine nextWith_of hexec ⟨?_, hq, hcmd⟩
  rw [hreg]
  rfl

theorem deregister_named (htype : type = 5) (hnumber : s.reg.number = some (itemNat l 0)) : nextWith (.deregister n (some hd)) s fun t =>
      t.reg = { s.reg with deregister := true } ∧
      t = { s with carriers := t.carriers, reg := t.reg, evc := t.evc, out := t.out } := by
  subst htype
  have hexec : exec (.deregister n (some hd)) s = .next (raise 0x69 { taken n w s with reg := { s.reg with deregister := true } }) := by
    refine congrArg Host.Outcome.next ((receiveMsg_acts hhas hmsg hitems hhead).trans ?_)
    simp [taken, hnumber]
  refine nextWith_of hexec ⟨?_, eq_merged (m := { carriers := true, reg := true, evc := true, out := true }) (by simp [taken])⟩
  rw [raise_reg]

theorem keyRoll_session {m : KeyRollMsg} (hm' : m = keyRollOf l) (htype : type = 6) (hnumber : s.reg.number = some m.number)
    (hsession : s.reg.session = true) : nextWith (.keyRoll n (some hd) true) s fun t =>
      t.reg = { s.reg with keyNext := some { name := m.key, frame := m.frame } } ∧
      t = { s with carriers := t.carriers, reg := t.reg } := by
  subst hm' htype
  have hexec : exec (.keyRoll n (some hd) true) s = .next { taken n w s with
      reg := { s.reg with keyNext := some { name := (keyRollOf l).key, frame := (keyRollOf l).frame } } } := by
    refine congrArg Host.Outcome.next ((receiveMsg_acts hhas hmsg hitems hhead).trans ?_)
    simp [taken, hnumber, hsession]
  exact nextWith_of hexec ⟨rfl, eq_merged (m := { carriers := true, reg := true }) (by simp [taken])⟩

end Verified

/-- Settles O19. -/
theorem registrationMessages : Obligations.RegistrationMessages := by
  unfold Obligations.RegistrationMessages
  refine ⟨fun s n k type w l hd hhas hmsg hitems hhead => ⟨?_, ?_, ?_, ?_, ?_, ?_, ?_, ?_⟩, fun s n => ⟨?_, ?_, ?_, ?_⟩⟩
  · exact fun m htype hm => rangeAssign_discover hhas hmsg hitems hhead hm htype
  · exact fun m htype hm => rangeAssign_operating hhas hmsg hitems hhead hm htype
  · exact fun m htype hm => regConfirm_ranging hhas hmsg hitems hhead hm htype
  · exact fun m htype hm => rangeUpdate_near hhas hmsg hitems hhead hm htype
  · exact fun m htype hm => rangeUpdate_far hhas hmsg hitems hhead hm htype
  · exact fun m htype hm => resume_session hhas hmsg hitems hhead hm htype
  · exact fun htype => deregister_named hhas hmsg hitems hhead htype
  · exact fun m htype hm => keyRoll_session hhas hmsg hitems hhead hm htype
  · intro w signer u hhas hmsg hitems
    have hexec : exec (.keyRoll n signer u) s = .next (modCarrier n (fun v => { v with nMsgBad := v.nMsgBad + 1 }) (taken n w s)) :=
      congrArg Host.Outcome.next (receiveMsg_bad hhas hmsg hitems)
    refine nextWith_of hexec ⟨?_, ?_, fun m hm => ?_, eq_merged (m := { carriers := true }) (by simp [taken])⟩
    · simp [taken]
    · simp [taken]
    · simp [taken, modCarrier_ne _ _ _ _ hm]
  · intro w l hhas hmsg hitems
    refine nextWith_of (congrArg Host.Outcome.next (receiveMsg_unsigned hhas hmsg hitems)) ?_
    refine ⟨?_, fun m hm => ?_, ?_, ?_⟩
    · rw [raise_carrier]
      split <;> exact taken_nMsgBad n n w s
    · rw [raise_carrier]
      split <;> exact taken_ne hm w s
    · rw [raise_reg]
      split <;> rfl
    · rw [raise_reg]
      split <;> rfl
  · intro signer u hhas
    refine ⟨?_, congrArg Host.Outcome.next (receiveMsg_absent hhas), congrArg Host.Outcome.next (receiveMsg_absent hhas),
      congrArg Host.Outcome.next (receiveMsg_absent hhas), congrArg Host.Outcome.next (receiveMsg_absent hhas),
      congrArg Host.Outcome.next (receiveMsg_absent hhas)⟩
    change execRangeAssign n signer s = _
    simp [execRangeAssign, hhas]
  · intro id hold
    have hexec : exec (.msgTimeout n id) s = .next (raise 0x82 (modCarrier n (fun c => { c with
        msgs := c.msgs.filter (fun m => m.msgId != id), nMsgTimeout := c.nMsgTimeout + 1 }) s)) := by
      change execMsgTimeout n id s = _
      unfold execMsgTimeout
      rw [if_pos hold]
    exact nextWith_of hexec ⟨by simp, fun m hm => by simp [modCarrier_ne _ _ _ _ hm],
      eq_merged (m := { carriers := true, evc := true, out := true }) (by simp)⟩

end Sys2Proof.Proofs.RegistrationMessages
end

section
/-!
Downstream frames and reassembly (chapters 03 and 05): O20.
-/
namespace Sys2Proof.Proofs.Downstream
open Sys2Proof Sys2Proof.Machine Sys2Proof.Proofs.Frames Sys2Proof.Proofs.Rules Sys2Proof.Proofs.CarrierEvents
open Sys2Proof.Proofs.LineTimeEvents Sys2Proof.Proofs.RegistrationCommands Sys2Proof.Proofs.RegistrationMessages

set_option Elab.async false

@[simp] theorem countUncorr_reg (a0 : Nat) (a1 : DownFrame) (s : State) : (countUncorr a0 a1 s).reg = s.reg :=
  reg_of_rest (m := { clk := true, carriers := true, evc := true, out := true }) (by simp)
@[simp] theorem countUncorr_down (a0 : Nat) (a1 : DownFrame) (s : State) : (countUncorr a0 a1 s).down = s.down :=
  down_of_rest (m := { clk := true, carriers := true, evc := true, out := true }) (by simp)
@[simp] theorem countUncorr_cmd (a0 : Nat) (a1 : DownFrame) (s : State) : (countUncorr a0 a1 s).cmd = s.cmd :=
  cmd_of_rest (m := { clk := true, carriers := true, evc := true, out := true }) (by simp)
@[simp] theorem countUncorr_time (a0 : Nat) (a1 : DownFrame) (s : State) : (countUncorr a0 a1 s).time = s.time :=
  time_of_rest (m := { clk := true, carriers := true, evc := true, out := true }) (by simp)
@[simp] theorem countUncorr_cls (a0 : Nat) (a1 : DownFrame) (s : State) : (countUncorr a0 a1 s).cls = s.cls :=
  cls_of_rest (m := { clk := true, carriers := true, evc := true, out := true }) (by simp)
@[simp] theorem enterLost_down (a0 : Nat) (s : State) : (enterLost a0 s).down = s.down :=
  down_of_rest (m := { clk := true, time := true, tio := true, carriers := true, trib := true, cls := true, q := true, ports := true, snaps := true, sec := true, groups := true, evc := true, pwr := true, out := true }) (by simp)
@[simp] theorem enterLocked_down (a0 : Nat) (s : State) : (enterLocked a0 s).down = s.down :=
  down_of_rest (m := { clk := true, time := true, tio := true, carriers := true, trib := true, cls := true, q := true, ports := true, snaps := true, sec := true, groups := true, evc := true, pwr := true, out := true }) (by simp)
@[simp] theorem enterMismatch_down (a0 : Nat) (s : State) : (enterMismatch a0 s).down = s.down :=
  down_of_rest (m := { clk := true, time := true, tio := true, carriers := true, trib := true, cls := true, q := true, ports := true, snaps := true, sec := true, groups := true, evc := true, pwr := true, out := true }) (by simp)
@[simp] theorem closeSf_reg (a0 : Nat) (s : State) : (closeSf a0 s).reg = s.reg :=
  reg_of_rest (m := { carriers := true }) (by simp)
@[simp] theorem closeSf_down (a0 : Nat) (s : State) : (closeSf a0 s).down = s.down :=
  down_of_rest (m := { carriers := true }) (by simp)
@[simp] theorem closeSf_cmd (a0 : Nat) (s : State) : (closeSf a0 s).cmd = s.cmd :=
  cmd_of_rest (m := { carriers := true }) (by simp)
@[simp] theorem closeShort_reg (a0 : Nat) (a1 : List Byte) (s : State) : (closeShort a0 a1 s).reg = s.reg :=
  reg_of_rest (m := { carriers := true }) (by simp)
@[simp] theorem closeShort_down (a0 : Nat) (a1 : List Byte) (s : State) : (closeShort a0 a1 s).down = s.down :=
  down_of_rest (m := { carriers := true }) (by simp)
@[simp] theorem closeShort_cmd (a0 : Nat) (a1 : List Byte) (s : State) : (closeShort a0 a1 s).cmd = s.cmd :=
  cmd_of_rest (m := { carriers := true }) (by simp)
@[simp] theorem closeShort_time (a0 : Nat) (a1 : List Byte) (s : State) : (closeShort a0 a1 s).time = s.time :=
  time_of_rest (m := { carriers := true }) (by simp)
@[simp] theorem closeShort_cls (a0 : Nat) (a1 : List Byte) (s : State) : (closeShort a0 a1 s).cls = s.cls :=
  cls_of_rest (m := { carriers := true }) (by simp)
@[simp] theorem noteKey_carrier (s : State) (n : Nat) : (noteKey s).carrier n = s.carrier n := by
  unfold State.carrier
  rw [show (noteKey s).carriers = s.carriers from carriers_of_rest (m := { reg := true, evc := true, out := true }) (by simp)]
@[simp] theorem noteKey_down (s : State) : (noteKey s).down = s.down :=
  down_of_rest (m := { reg := true, evc := true, out := true }) (by simp)
@[simp] theorem noteKey_cmd (s : State) : (noteKey s).cmd = s.cmd :=
  cmd_of_rest (m := { reg := true, evc := true, out := true }) (by simp)
@[simp] theorem noteKey_time (s : State) : (noteKey s).time = s.time :=
  time_of_rest (m := { reg := true, evc := true, out := true }) (by simp)
@[simp] theorem noteKey_cls (s : State) : (noteKey s).cls = s.cls :=
  cls_of_rest (m := { reg := true, evc := true, out := true }) (by simp)
@[simp] theorem rollKey_down (s : State) : (rollKey s).down = s.down :=
  down_of_rest (m := { carriers := true, reg := true }) (by simp)
@[simp] theorem rollKey_cmd (s : State) : (rollKey s).cmd = s.cmd :=
  cmd_of_rest (m := { carriers := true, reg := true }) (by simp)
@[simp] theorem rollKey_time (s : State) : (rollKey s).time = s.time :=
  time_of_rest (m := { carriers := true, reg := true }) (by simp)
@[simp] theorem rollKey_cls (s : State) : (rollKey s).cls = s.cls :=
  cls_of_rest (m := { carriers := true, reg := true }) (by simp)
@[simp] theorem closeSf_cls (a0 : Nat) (s : State) : (closeSf a0 s).cls = s.cls :=
  cls_of_rest (m := { carriers := true }) (by simp)

/-! ### Before a frame is taken (R61, R73, R103) -/

section Frame
variable {s : State} {n : Nat} {f : DownFrame}

/-- No change of symbol rate has come (R73). -/
theorem relock_later (h : ∀ i, (s.carrier n).relockAt = some i → received s < i) : relock n s = s := by
  unfold relock
  split
  case h_1 i hi => rw [if_neg fun hnow => Nat.not_le.mpr (h i hi) hnow.1]
  case h_2 => rfl

/-- Out of lock there is nothing to lose. -/
theorem relock_out (hlocked : (s.carrier n).state ≠ .locked) (hmismatch : (s.carrier n).state ≠ .mismatch) : relock n s = s := by
  unfold relock
  split
  case h_1 i hi => rw [if_neg fun hnow => hnow.2.elim hlocked hmismatch]
  case h_2 => rfl

/-- The first frame after a change of symbol rate. -/
theorem relock_now {i : Instant} (hat : (s.carrier n).relockAt = some i) (hnow : i ≤ received s)
    (hlocked : (s.carrier n).state = .locked) :
    relock n s = modCarrier n (fun c => { c with lostFrom := some (received s) }) (enterLost n s) := by
  unfold relock
  rw [hat]
  exact if_pos ⟨hnow, .inl hlocked⟩

/-- Counting uncorrectable codewords changes their count alone. -/
theorem countUncorr_keeps {β : Type} {F : Carrier → β} (hF : ∀ c k, F { c with nUncorr := k } = F c) (k : Nat) :
    F ((countUncorr n f s).carrier k) = F (s.carrier k) := by
  unfold countUncorr
  dsimp only
  split
  · rfl
  · rw [raiseOnce_carrier]
    exact modCarrier_keeps n k s fun c => hF c _

theorem countUncorr_self (h : f.badCw ≠ []) :
    ((countUncorr n f s).carrier n).nUncorr = satAdd 32 (s.carrier n).nUncorr f.badCw.dedup.length := by
  have hsome : f.badCw.dedup.length ≠ 0 := fun h0 => h ((List.dedup_eq_nil _).mp (List.length_eq_zero_iff.mp h0))
  unfold countUncorr
  simp [hsome]

theorem checkFaw_hit (h : fawMatch f.faw = true) : checkFaw n f s = modCarrier n (fun c => { c with misses := 0 }) s := by
  simp [checkFaw, h]

theorem checkFaw_fourth (h : fawMatch f.faw = false) (hmisses : 3 ≤ (s.carrier n).misses) :
    checkFaw n f s = enterLost n (modCarrier n (fun c => { c with misses := c.misses + 1 }) s) := by
  unfold checkFaw
  simp only [h, Bool.false_eq_true, if_false, modCarrier_self]
  rw [if_pos (by omega)]

theorem present_of_good (h : ∀ k ∈ f.badCw, 5 < k) : DownFrame.absent f = false := by
  simpa [DownFrame.absent] using h

theorem absent_of_bad (h : ∃ k ∈ f.badCw, k ≤ 5) : DownFrame.absent f = true := by
  simpa [DownFrame.absent] using h

/-- A locked carrier's frame before its overhead is looked at: codewords counted, messages aged. -/
def aged (n : Nat) (f : DownFrame) (s : State) : State :=
  modCarrier n (fun c => { c with msgs := c.msgs.map fun m => { m with age := m.age + 1 } }) (countUncorr n f s)

/-- What neither the count of codewords nor the age of messages, nor the misses, touch of a carrier. -/
theorem aligned_keeps {β : Type} {F : Carrier → β} (hF : ∀ c k, F { c with nUncorr := k } = F c)
    (hF' : ∀ c l, F { c with msgs := l } = F c) (k : Nat) : F ((aged n f s).carrier k) = F (s.carrier k) :=
  (modCarrier_keeps n k _ fun c => hF' c _).trans (countUncorr_keeps hF k)

theorem received_countUncorr : received (countUncorr n f s) = received s := by
  unfold received
  rw [countUncorr_time]

/-- DOWNSTREAM_FRAME in LOCKED, with its alignment found. -/
def inLock (n : Nat) (f : DownFrame) (s : State) : State := modCarrier n (fun c => { c with misses := 0 }) (aged n f s)

theorem inLock_keeps {β : Type} {F : Carrier → β} (hF : ∀ c k, F { c with nUncorr := k } = F c)
    (hF' : ∀ c l, F { c with msgs := l } = F c) (hF'' : ∀ c k, F { c with misses := k } = F c) (k : Nat) :
    F ((inLock n f s).carrier k) = F (s.carrier k) :=
  (modCarrier_keeps n k _ fun c => hF'' c _).trans (aligned_keeps hF hF' k)

theorem inLock_others : otherCarriers n s (inLock n f s) := by
  intro m hm
  have hcount : (countUncorr n f s).carrier m = s.carrier m := by
    unfold countUncorr
    dsimp only
    split
    · rfl
    · rw [raiseOnce_carrier, modCarrier_ne _ _ _ _ hm]
  unfold inLock aged
  rw [modCarrier_ne _ _ _ _ hm, modCarrier_ne _ _ _ _ hm, hcount]

theorem inLock_received : received (inLock n f s) = received s := received_countUncorr

theorem inLock_plan (o : List Byte) : planMatches ((inLock n f s).carrier n)
    (((inLock n f s).carrier n).profileFor (received (inLock n f s))) o =
      planMatches (s.carrier n) ((s.carrier n).profileFor (received s)) o := by
  rw [inLock_received]
  exact inLock_keeps (F := fun c => planMatches c (c.profileFor (received s)) o) (fun _ _ => rfl) (fun _ _ => rfl) (fun _ _ => rfl) n

theorem inLock_state (hlocked : (s.carrier n).state = .locked) : ((inLock n f s).carrier n).state = .locked :=
  (inLock_keeps (F := Carrier.state) (fun _ _ => rfl) (fun _ _ => rfl) (fun _ _ => rfl) n).trans hlocked

theorem inLock_down : (inLock n f s).down = s.down := by simp [inLock, aged]

theorem inLock_cls : (inLock n f s).cls = s.cls := by simp [inLock, aged]

theorem inLock_cmd : (inLock n f s).cmd = s.cmd := by simp [inLock, aged]

/-- DOWNSTREAM_FRAME in LOCKED when no change of rate has come and the alignment word is there. -/
theorem exec_locked (hrelock : ∀ i, (s.carrier n).relockAt = some i → received s < i)
    (hlocked : (s.carrier n).state = .locked) (hfaw : fawMatch f.faw = true) : exec (.downstreamFrame n f) s = .next (
      if DownFrame.absent f then
        takeCells n f (closeSf n (modCarrier n (fun c => { c with nAbsent := c.nAbsent + 1, sf := c.sf.skip }) (inLock n f s)))
      else if !planMatches (s.carrier n) ((s.carrier n).profileFor (received s)) f.overhead then enterMismatch n (inLock n f s)
      else
        if (takeOverhead n f.overhead (inLock n f s)).1 then takeCells n f (takeOverhead n f.overhead (inLock n f s)).2
        else (takeOverhead n f.overhead (inLock n f s)).2) := by
  change execDownstreamFrame n f s = _
  unfold execDownstreamFrame
  rw [relock_later hrelock]
  simp only [hlocked]
  rw [checkFaw_hit hfaw]
  change Host.Outcome.next (if ((inLock n f s).carrier n).state ≠ .locked then inLock n f s else _) = _
  rw [if_neg (not_not.mpr (inLock_state hlocked))]
  change Host.Outcome.next (if DownFrame.absent f then _ else if !(planMatches ((inLock n f s).carrier n)
    (((inLock n f s).carrier n).profileFor (received (inLock n f s))) f.overhead) then _ else _) = _
  rw [inLock_plan (s := s) (n := n) (f := f) f.overhead]
  rfl

end Frame

/-! ### The clauses on a frame -/

section Clauses
variable {s : State} {n : Nat} {f : DownFrame}

theorem notTaken (h : (s.carrier n).state = .off ∨ (s.carrier n).state = .tune) : exec (.downstreamFrame n f) s = .next s := by
  change execDownstreamFrame n f s = _
  unfold execDownstreamFrame
  cases h with
  | inl h => rw [relock_out (by simp [h]) (by simp [h])]; simp only [h]
  | inr h => rw [relock_out (by simp [h]) (by simp [h])]; simp only [h]

theorem exec_hunting (h : (s.carrier n).state = .acquire ∨ (s.carrier n).state = .lost) :
    exec (.downstreamFrame n f) s = .next (modCarrier n (huntFrame f) s) := by
  change execDownstreamFrame n f s = _
  unfold execDownstreamFrame
  cases h with
  | inl h => rw [relock_out (by simp [h]) (by simp [h])]; simp only [h]
  | inr h => rw [relock_out (by simp [h]) (by simp [h])]; simp only [h]

/-- The third sign of the alignment word at its place ends the hunt, a sign that fails takes the place away (R58). -/
theorem huntFrame_third {c : Carrier} {x : Nat} {w : BitVec 256} (hunaligned : c.aligned = false) (hhunt : c.hunt = [(x, 2)])
    (hsigns : f.signs = [(x, w)]) (hx : x < Prof.symbols c.profile) :
    huntFrame f c = if fawMatch w then { c with hunt := [], aligned := true } else { c with hunt := [] } := by
  have hplaces : ([x] ++ [x]).dedup = [x] := by simp [List.dedup_cons_of_mem]
  unfold huntFrame
  simp only [hunaligned, hsigns, hhunt, Bool.false_eq_true, if_false, List.filter_cons, hx, decide_true, if_true,
    List.filter_nil, List.map_cons, List.map_nil, hplaces, List.insertionSort_cons, List.insertionSort_nil, List.orderedInsert_nil, List.foldl_cons, List.foldl_nil]
  cases hw : fawMatch w <;> simp [huntAt, hw]

theorem enterLost_state (n : Nat) (s : State) : ((enterLost n s).carrier n).state = .lost := by simp [enterLost]

theorem enterMismatch_state (n : Nat) (s : State) : ((enterMismatch n s).carrier n).state = .mismatch := by simp [enterMismatch]

/-- A frame at or after a change of symbol rate leaves the lock (R73). -/
theorem lostAtRelock {i : Instant} (hlocked : (s.carrier n).state = .locked) (hat : (s.carrier n).relockAt = some i)
    (hnow : i ≤ received s) : nextWith (.downstreamFrame n f) s fun t =>
      (t.carrier n).state = .lost ∧ otherCarriers n s t ∧ t.reg = s.reg ∧ t.down = s.down ∧ t.cmd = s.cmd := by
  have hstate : ((relock n s).carrier n).state = .lost := by
    rw [relock_now hat hnow hlocked, modCarrier_self]
    exact enterLost_state n s
  have hexec : exec (.downstreamFrame n f) s = .next (modCarrier n (huntFrame f) (relock n s)) := by
    change execDownstreamFrame n f s = _
    unfold execDownstreamFrame
    simp only [hstate]
  refine nextWith_of hexec ?_
  rw [relock_now hat hnow hlocked]
  refine ⟨?_, fun m hm => ?_, by simp, by simp, by simp⟩
  · rw [modCarrier_self, modCarrier_self]
    unfold huntFrame
    split_ifs
    · exact enterLost_state n s
    · dsimp only
      split_ifs
      · exact enterLost_state n s
      · exact enterLost_state n s
  · rw [modCarrier_ne _ _ _ _ hm, modCarrier_ne _ _ _ _ hm, enterLost_ne hm]

theorem countUncorr_ne {m : Nat} (hm : m ≠ n) : (countUncorr n f s).carrier m = s.carrier m := by
  unfold countUncorr
  dsimp only
  split
  · rfl
  · rw [raiseOnce_carrier, modCarrier_ne _ _ _ _ hm]

/-- The plan of the slot found again ends a mismatch (R61). -/
theorem mismatchEnds (hrelock : ∀ i, (s.carrier n).relockAt = some i → received s < i)
    (hstate : (s.carrier n).state = .mismatch) (hfaw : fawMatch f.faw = true) (hgood : ∀ k ∈ f.badCw, 5 < k)
    (hplan : planMatches (s.carrier n) ((s.carrier n).profileFor (received s)) f.overhead = true) :
    nextWith (.downstreamFrame n f) s fun t =>
      (t.carrier n).state = .locked ∧ (t.carrier n).misses = 0 ∧ otherCarriers n s t ∧ t.reg = s.reg ∧ t.down = s.down ∧
      t.cmd = s.cmd := by
  have hkeeps {β : Type} {F : Carrier → β} (hF : ∀ c k, F { c with nUncorr := k } = F c) (hF' : ∀ c k, F { c with misses := k } = F c) :
      F ((modCarrier n (fun c => { c with misses := 0 }) (countUncorr n f s)).carrier n) = F (s.carrier n) :=
    (modCarrier_keeps n n _ fun c => hF' c _).trans (countUncorr_keeps hF n)
  have hmismatch := (hkeeps (F := Carrier.state) (fun _ _ => rfl) fun _ _ => rfl).trans hstate
  have hmatch := (hkeeps (F := fun c => planMatches c (c.profileFor (received s)) f.overhead) (fun _ _ => rfl) fun _ _ => rfl).trans hplan
  have hexec : exec (.downstreamFrame n f) s =
      .next (enterLocked n (modCarrier n (fun c => { c with misses := 0 }) (countUncorr n f s))) := by
    change execDownstreamFrame n f s = _
    unfold execDownstreamFrame
    rw [relock_later hrelock]
    simp only [hstate]
    rw [checkFaw_hit hfaw]
    refine congrArg Host.Outcome.next (if_pos ?_)
    rw [hmismatch, present_of_good hgood,
      show received (modCarrier n (fun c => { c with misses := 0 }) (countUncorr n f s)) = received s from received_countUncorr]
    simpa using hmatch
  refine nextWith_of hexec ⟨by simp [enterLocked], by simp [enterLocked], fun m hm => ?_, by simp, by simp, by simp⟩
  rw [enterLocked_ne hm, modCarrier_ne _ _ _ _ hm, countUncorr_ne hm]

/-- The fourth consecutive miss of the alignment word loses the lock (R58). -/
theorem lostAtMisses (hrelock : ∀ i, (s.carrier n).relockAt = some i → received s < i)
    (hlocked : (s.carrier n).state = .locked) (hfaw : fawMatch f.faw = false) (hmisses : 3 ≤ (s.carrier n).misses) :
    nextWith (.downstreamFrame n f) s fun t =>
      (t.carrier n).state = .lost ∧ otherCarriers n s t ∧ t.reg = s.reg ∧ t.down = s.down ∧ t.cmd = s.cmd := by
  have hthree : 3 ≤ ((aged n f s).carrier n).misses :=
    (aligned_keeps (F := Carrier.misses) (fun _ _ => rfl) (fun _ _ => rfl) n).symm ▸ hmisses
  have hexec : exec (.downstreamFrame n f) s = .next (enterLost n (modCarrier n (fun c => { c with misses := c.misses + 1 }) (aged n f s))) := by
    change execDownstreamFrame n f s = _
    unfold execDownstreamFrame
    rw [relock_later hrelock]
    simp only [hlocked]
    change Host.Outcome.next (if ((checkFaw n f (aged n f s)).carrier n).state ≠ .locked then checkFaw n f (aged n f s) else _) = _
    rw [checkFaw_fourth hfaw hthree, enterLost_state, if_pos (by simp)]
  refine nextWith_of hexec ⟨enterLost_state _ _, fun m hm => ?_, by simp [aged], by simp [aged], by simp [aged]⟩
  unfold aged
  rw [enterLost_ne hm, modCarrier_ne _ _ _ _ hm, modCarrier_ne _ _ _ _ hm, countUncorr_ne hm]

/-- An overhead whose plan is not the slot's is a mismatch (R61). -/
theorem mismatchBegins (hrelock : ∀ i, (s.carrier n).relockAt = some i → received s < i)
    (hlocked : (s.carrier n).state = .locked) (hfaw : fawMatch f.faw = true) (hgood : ∀ k ∈ f.badCw, 5 < k)
    (hplan : planMatches (s.carrier n) ((s.carrier n).profileFor (received s)) f.overhead = false) :
    nextWith (.downstreamFrame n f) s fun t =>
      (t.carrier n).state = .mismatch ∧ otherCarriers n s t ∧ t.reg = s.reg ∧ t.down = s.down ∧ t.cmd = s.cmd := by
  refine nextWith_of (t := enterMismatch n (inLock n f s)) ((exec_locked hrelock hlocked hfaw).trans ?_) ?_
  · simp [present_of_good hgood, hplan]
  · refine ⟨enterMismatch_state _ _, fun m hm => ?_, by simp [inLock, aged], by simp [inLock, aged], by simp [inLock, aged]⟩
    rw [enterMismatch_ne hm, inLock_others m hm]

theorem closeSf_keeps {β : Type} {F : Carrier → β} (hF : ∀ c d u, F { c with sfDone := d, sf := u } = F c) (k : Nat) :
    F ((closeSf n s).carrier k) = F (s.carrier k) :=
  modCarrier_keeps n k s fun c => by
    split
    · exact hF c _ _
    · rfl

/-- A frame without cells gives no cell, and here no calm cell is counted either: the counts but `nCalm` stay. -/
theorem takeCells_empty (h : f.cells = []) : takeCells n f s = modCarrier n (fun c =>
    { c with nCalm := c.nCalm + DownFrame.calm f ((s.carrier n).profileFor (received s)) }) s := by
  have hgood (p : Profile) : DownFrame.good f p = [] := by simp [DownFrame.good, h]
  unfold takeCells
  dsimp only
  rw [hgood]
  rfl

/-- An overhead in a damaged codeword is absent, and counted (R104). -/
theorem overheadAbsent (hrelock : ∀ i, (s.carrier n).relockAt = some i → received s < i)
    (hlocked : (s.carrier n).state = .locked) (hfaw : fawMatch f.faw = true) (hbad : ∃ k ∈ f.badCw, k ≤ 5) (hcells : f.cells = []) :
    nextWith (.downstreamFrame n f) s fun t =>
      (t.carrier n).state = .locked ∧ (t.carrier n).misses = 0 ∧ (t.carrier n).nAbsent = (s.carrier n).nAbsent + 1 ∧
      (t.carrier n).nUncorr = satAdd 32 (s.carrier n).nUncorr f.badCw.dedup.length ∧ otherCarriers n s t ∧
      t.reg = s.reg ∧ t.down = s.down ∧ t.cmd = s.cmd := by
  have hne : f.badCw ≠ [] := by
    obtain ⟨k, hk, -⟩ := hbad
    exact List.ne_nil_of_mem hk
  refine nextWith_of (t := takeCells n f (closeSf n (modCarrier n (fun c => { c with nAbsent := c.nAbsent + 1, sf := c.sf.skip })
    (inLock n f s)))) ((exec_locked hrelock hlocked hfaw).trans ?_) ?_
  · rw [if_pos (absent_of_bad hbad)]
  · rw [takeCells_empty hcells]
    refine ⟨?_, ?_, ?_, ?_, fun m hm => ?_, by simp [inLock, aged], by simp [inLock, aged], by simp [inLock, aged]⟩
    · rw [modCarrier_self, closeSf_keeps (F := Carrier.state) fun _ _ _ => rfl, modCarrier_self]
      exact inLock_state hlocked
    · rw [modCarrier_self, closeSf_keeps (F := Carrier.misses) fun _ _ _ => rfl, modCarrier_self]
      simp [inLock]
    · rw [modCarrier_self, closeSf_keeps (F := Carrier.nAbsent) fun _ _ _ => rfl, modCarrier_self]
      exact congrArg (· + 1) (inLock_keeps (F := Carrier.nAbsent) (fun _ _ => rfl) (fun _ _ => rfl) (fun _ _ => rfl) n)
    · rw [modCarrier_self, closeSf_keeps (F := Carrier.nUncorr) fun _ _ _ => rfl, modCarrier_self]
      simpa [inLock, aged] using countUncorr_self hne
    · unfold closeSf
      rw [modCarrier_ne _ _ _ _ hm, modCarrier_ne _ _ _ _ hm, modCarrier_ne _ _ _ _ hm, inLock_others m hm]

/-! ### A control tag that fails (R105) -/

theorem forEach_modCarrier_reg (l : List Nat) (g : Carrier → Carrier) (s : State) :
    (forEach l (fun n => modCarrier n g) s).reg = s.reg := forEach_keeps (F := State.reg) l s fun _ _ => rfl

/-- What the key rolls to is a matter of the registration and of the line. -/
theorem rollKey_reg_congr {t : State} (hreg : t.reg = s.reg) (htime : t.time = s.time) : (rollKey t).reg = (rollKey s).reg := by
  have hframe : frameNow t = frameNow s := by unfold frameNow received; rw [htime]
  have hreceived : received t = received s := by unfold received; rw [htime]
  unfold rollKey
  rw [hreg, hframe, hreceived]
  cases s.reg.keyNext with
  | none => exact hreg
  | some k =>
    dsimp only
    split
    · rw [forEach_modCarrier_reg, forEach_modCarrier_reg]
    · exact hreg

theorem rollKey_keeps {β : Type} {F : Carrier → β} (hF : ∀ c k, F { c with burstSeq := k } = F c) (k : Nat) :
    F ((rollKey s).carrier k) = F (s.carrier k) := by
  unfold rollKey
  split
  case h_1 => rfl
  case h_2 =>
    split
    · exact forEach_keeps (F := fun s => F (s.carrier k)) _ _ fun m s => modCarrier_keeps m k s fun c => hF c _
    · rfl

theorem rollKey_state : (rollKey s).reg.state = s.reg.state := by
  unfold rollKey
  split
  case h_1 => rfl
  case h_2 =>
    split
    · rw [forEach_modCarrier_reg]
    · rfl

theorem noteKey_key : (noteKey s).reg.key = s.reg.key := by
  unfold noteKey
  split
  · simp
  · rfl

theorem noteKey_state : (noteKey s).reg.state = s.reg.state := by
  unfold noteKey
  split
  · simp
  · rfl

theorem tagHolds_congr {t : State} (h : t.reg.key = s.reg.key) (o : List Byte) : tagHolds o t = tagHolds o s := by
  unfold tagHolds
  rw [h]

/-- The frame's tag is not the key's: it counts, and nothing of its overhead is taken. -/
theorem checkTag_fails {o : List Byte} (hsession : s.reg.session = true) (htag : tagHolds o (rollKey s) = false) :
    checkTag n o s = (false, raise 0x6D (modCarrier n (fun c => { c with nTagFail := c.nTagFail + 1 }) (noteKey (rollKey s)))) := by
  have htag' : tagHolds o (noteKey (rollKey s)) = false := (tagHolds_congr noteKey_key o).trans htag
  simp [checkTag, hsession, htag']

theorem closeShort_keeps {β : Type} {F : Carrier → β} (hF : ∀ c d u, F { c with sfDone := d, sf := u } = F c) (o : List Byte)
    (k : Nat) : F ((closeShort n o s).carrier k) = F (s.carrier k) :=
  modCarrier_keeps n k s fun c => by
    split
    · exact hF c _ _
    · rfl

/-- What the terminal is left with when the tag of an overhead fails. -/
def refused (n : Nat) (o : List Byte) (s : State) : State :=
  closeSf n (modCarrier n (fun c => { c with
    sf := c.sf.take o true (received s), next := Ovh.next o, slotActive := Ovh.active o })
    (closeShort n o (raise 0x6D (modCarrier n (fun c => { c with nTagFail := c.nTagFail + 1 }) (noteKey (rollKey s))))))

theorem takeOverhead_refused {o : List Byte} (hsession : s.reg.session = true) (htag : tagHolds o (rollKey s) = false) :
    takeOverhead n o s = (false, refused n o s) := by
  unfold takeOverhead refused
  rw [checkTag_fails hsession htag]
  simp [received]

theorem refused_keeps {β : Type} {F : Carrier → β} {o : List Byte} (hF : ∀ c d u, F { c with sfDone := d, sf := u } = F c)
    (hF' : ∀ c u a b, F { c with sf := u, next := a, slotActive := b } = F c) :
    F ((refused n o s).carrier n) = F ((modCarrier n (fun c => { c with nTagFail := c.nTagFail + 1 }) (rollKey s)).carrier n) := by
  unfold refused
  refine (closeSf_keeps hF n).trans ((modCarrier_keeps n n _ fun c => hF' c _ _ _).trans ((closeShort_keeps hF o n).trans ?_))
  rw [raise_carrier, modCarrier_self, modCarrier_self, noteKey_carrier]

theorem refused_state {o : List Byte} : ((refused n o s).carrier n).state = (s.carrier n).state := by
  rw [refused_keeps (F := Carrier.state) (fun _ _ _ => rfl) (fun _ _ _ _ => rfl), modCarrier_self]
  exact rollKey_keeps (F := Carrier.state) (fun _ _ => rfl) n

theorem refused_nCalm {o : List Byte} : ((refused n o s).carrier n).nCalm = (s.carrier n).nCalm := by
  rw [refused_keeps (F := Carrier.nCalm) (fun _ _ _ => rfl) (fun _ _ _ _ => rfl), modCarrier_self]
  exact rollKey_keeps (F := Carrier.nCalm) (fun _ _ => rfl) n

theorem refused_nTagFail {o : List Byte} : ((refused n o s).carrier n).nTagFail = (s.carrier n).nTagFail + 1 := by
  rw [refused_keeps (F := Carrier.nTagFail) (fun _ _ _ => rfl) (fun _ _ _ _ => rfl), modCarrier_self]
  exact congrArg (· + 1) (rollKey_keeps (F := Carrier.nTagFail) (fun _ _ => rfl) n)

theorem refused_regState {o : List Byte} : (refused n o s).reg.state = s.reg.state := by
  unfold refused
  rw [closeSf_reg, modCarrier_reg, closeShort_reg, raise_reg, modCarrier_reg, noteKey_state, rollKey_state]

theorem refused_down {o : List Byte} : (refused n o s).down = s.down := by
  unfold refused
  rw [closeSf_down, modCarrier_down, closeShort_down, raise_down, modCarrier_down, noteKey_down, rollKey_down]

theorem refused_cls {o : List Byte} : (refused n o s).cls = s.cls := by
  unfold refused
  rw [closeSf_cls, modCarrier_cls, closeShort_cls, raise_cls, modCarrier_cls, noteKey_cls, rollKey_cls]

theorem refused_cmd {o : List Byte} : (refused n o s).cmd = s.cmd := by
  unfold refused
  rw [closeSf_cmd, modCarrier_cmd, closeShort_cmd, raise_cmd, modCarrier_cmd, noteKey_cmd, rollKey_cmd]

/-- A frame whose control tag fails counts, and nothing of it is taken (R105). -/
theorem tagFails (hrelock : ∀ i, (s.carrier n).relockAt = some i → received s < i)
    (hlocked : (s.carrier n).state = .locked) (hfaw : fawMatch f.faw = true) (hgood : ∀ k ∈ f.badCw, 5 < k)
    (hplan : planMatches (s.carrier n) ((s.carrier n).profileFor (received s)) f.overhead = true)
    (hsession : s.reg.session = true) (htag : tagHolds f.overhead (rollKey s) = false) :
    nextWith (.downstreamFrame n f) s fun t =>
      (t.carrier n).state = .locked ∧ (t.carrier n).nTagFail = (s.carrier n).nTagFail + 1 ∧
      (t.carrier n).nCalm = (s.carrier n).nCalm ∧ t.down = s.down ∧ t.cls = s.cls ∧ t.reg.state = s.reg.state ∧
      t.cmd = s.cmd := by
  have hreg : (inLock n f s).reg = s.reg := by simp [inLock, aged]
  have htime : (inLock n f s).time = s.time := by simp [inLock, aged]
  have hsession' : (inLock n f s).reg.session = true := by rw [hreg, hsession]
  have htag' : tagHolds f.overhead (rollKey (inLock n f s)) = false :=
    (tagHolds_congr (congrArg Registration.key (rollKey_reg_congr hreg htime)) _).trans htag
  have hexec : exec (.downstreamFrame n f) s = .next (takeOverhead n f.overhead (inLock n f s)).2 := by
    rw [exec_locked hrelock hlocked hfaw, present_of_good hgood, hplan, takeOverhead_refused hsession' htag']
    simp only [Bool.false_eq_true, if_false, Bool.not_true]
  refine nextWith_of hexec ?_
  rw [takeOverhead_refused hsession' htag']
  refine ⟨?_, ?_, ?_, refused_down.trans inLock_down, refused_cls.trans inLock_cls, ?_, refused_cmd.trans inLock_cmd⟩
  · exact refused_state.trans (inLock_state hlocked)
  · rw [refused_nTagFail, inLock_keeps (F := Carrier.nTagFail) (fun _ _ => rfl) (fun _ _ => rfl) (fun _ _ => rfl) n]
  · exact refused_nCalm.trans (inLock_keeps (F := Carrier.nCalm) (fun _ _ => rfl) (fun _ _ => rfl) (fun _ _ => rfl) n)
  · exact refused_regState.trans (congrArg Registration.state hreg)

end Clauses

/-! ### The reassembly timer (R110) -/

/-- The contexts that the timer of an association and class on a carrier finds too old. -/
def tooOld (s : State) (c a k : Nat) (r : Reasm) : Bool :=
  r.carrier == c && r.assoc == a && r.cls == k && decide (r.since + ms 10 ≤ s.clk.now)

theorem exec_reassemblyTimeout (s : State) (c a k : Nat) : exec (.reassemblyTimeout c a k) s = .next (
    if s.down.ctxs.any (tooOld s c a k) then
      reasmError c (fun c => { c with nTimedOut := c.nTimedOut + 1 })
        { s with down := { s.down with ctxs := s.down.ctxs.filter fun r => !tooOld s c a k r } }
    else s) := rfl

theorem reassemblyTimedOut {s : State} {c a k : Nat} {r : Reasm} (hmem : r ∈ s.down.ctxs) (hc : r.carrier = c) (ha : r.assoc = a)
    (hk : r.cls = k) (hold : r.since + ms 10 ≤ s.clk.now) : nextWith (.reassemblyTimeout c a k) s fun t =>
      (t.carrier c).nTimedOut = (s.carrier c).nTimedOut + 1 ∧ r ∉ t.down.ctxs ∧
      (∀ x ∈ s.down.ctxs, x.carrier ≠ c ∨ x.assoc ≠ a ∨ x.cls ≠ k → x ∈ t.down.ctxs) ∧ t.down.ready = s.down.ready ∧
      otherCarriers c s t ∧ t = { s with carriers := t.carriers, down := t.down, evc := t.evc, out := t.out } := by
  have htooOld : tooOld s c a k r = true := by simp [tooOld, hc, ha, hk, hold]
  refine nextWith_of ((exec_reassemblyTimeout s c a k).trans (congrArg _ (if_pos (List.any_eq_true.mpr ⟨r, hmem, htooOld⟩)))) ?_
  unfold reasmError
  refine ⟨by rw [raise_carrier, modCarrier_self]; rfl, ?_, fun x hx hother => ?_, by simp, fun m hm => ?_, ?_⟩
  · simp [htooOld]
  · have hkept : tooOld s c a k x = false := by
      simp only [tooOld, Bool.and_eq_false_iff, beq_eq_false_iff_ne, ne_eq]
      exact .inl (or_assoc.mpr hother)
    simpa [hkept] using hx
  · rw [raise_carrier, modCarrier_ne _ _ _ _ hm]
    rfl
  · exact eq_merged (m := { carriers := true, down := true, evc := true, out := true }) (by simp)

theorem reassemblyNotYet {s : State} {c a k : Nat}
    (h : ∀ r ∈ s.down.ctxs, r.carrier = c → r.assoc = a → r.cls = k → s.clk.now < r.since + ms 10) :
    exec (.reassemblyTimeout c a k) s = .next s := by
  refine (exec_reassemblyTimeout s c a k).trans (congrArg _ (if_neg ?_))
  rw [List.any_eq_true]
  rintro ⟨r, hmem, hr⟩
  simp only [tooOld, Bool.and_eq_true, beq_iff_eq, decide_eq_true_eq] at hr
  obtain ⟨⟨⟨hc, ha⟩, hk⟩, hold⟩ := hr
  exact absurd (h r hmem hc ha hk) (Nat.not_lt.mpr hold)

/-- cell.groups.set (R109). -/
theorem groupsSet {h : Hdr} {s : State} {b : BitVec 64} (hr : runsNow h (.cellGroupsSet b) s) :
    completes (.cellGroupsSet h b) h 0x0503 s fun t => t = { takeUp h s with down := { s.down with groups := b } } := by
  obtain ⟨x, hx⟩ := takeUp_cmd h s
  have hbody : doCellGroupsSet b { s with cmd := x } = okData [b.toNat] { s with cmd := x, down := { s.down with groups := b } } := rfl
  exact completes_taken hx hr rfl rfl rfl hbody (by rw [hx])

/-- Settles O20: per state of the carrier and outcome of the checks on the frame. -/
theorem downstream : Obligations.Downstream := by
  refine ⟨?_, fun s c a k => ⟨fun r hmem hc ha hk hold => reassemblyTimedOut hmem hc ha hk hold, reassemblyNotYet⟩,
    fun h s b hr => groupsSet hr⟩
  rintro s n f _ rfl
  refine ⟨notTaken, fun hstate => ?_, fun x w hunaligned hhunt hsigns hx => ⟨fun hw => ?_, fun hw => ?_⟩,
    fun i hlocked hat hnow => lostAtRelock hlocked hat hnow, fun hrelock => ⟨mismatchEnds hrelock, lostAtMisses hrelock,
      mismatchBegins hrelock, overheadAbsent hrelock, tagFails hrelock⟩⟩
  · exact nextWith_of (exec_hunting hstate) ⟨modCarrier_self _ _ _, fun m hm => modCarrier_ne _ _ _ _ hm, rfl⟩
  · rw [huntFrame_third hunaligned hhunt hsigns hx, if_pos hw]
  · rw [huntFrame_third hunaligned hhunt hsigns hx, hw]
    exact ⟨hunaligned, rfl⟩


end Sys2Proof.Proofs.Downstream
end

section
/-!
Tributary pages, the fence and the management channels (chapter 05): O21, O22.
-/
namespace Sys2Proof.Proofs.Tributaries
open Sys2Proof Sys2Proof.Machine Sys2Proof.Proofs.Frames Sys2Proof.Proofs.Rules

set_option Elab.async false

/-! ### Page writes and swaps (R116, R117) -/

section Run
variable {α : Type} [DecidableEq α] (d : α)

/-- A run of entries written from index `first` on leaves the entries outside the run. -/
theorem get_run_outside (first : Nat) (es : List α) (j : Nat) (t : Tbl α) {k : Nat} (h : k < first + j ∨ first + j + es.length ≤ k) :
    Tbl.get d ((es.zipIdx j).foldl (fun t x => Tbl.set d t (first + x.2) x.1) t) k = Tbl.get d t k := by
  induction es generalizing j t with
  | nil => rfl
  | cons e es ih =>
    rw [List.length_cons] at h
    rw [List.zipIdx_cons, List.foldl_cons, ih _ _ (by omega), Tbl.get_set_ne]
    dsimp only
    omega

/-- The run puts its `i`-th entry at its `i`-th index. -/
theorem get_run_inside (first : Nat) (es : List α) (j : Nat) (t : Tbl α) {i : Nat} {e : α} (h : es[i]? = some e) :
    Tbl.get d ((es.zipIdx j).foldl (fun t x => Tbl.set d t (first + x.2) x.1) t) (first + (j + i)) = e := by
  induction es generalizing j t i with
  | nil => simp at h
  | cons a es ih =>
    rw [List.zipIdx_cons, List.foldl_cons]
    cases i with
    | zero =>
      obtain rfl : a = e := by simpa using h
      rw [get_run_outside d first es (j + 1) _ (.inl (by omega))]
      exact Tbl.get_set_self ..
    | succ i =>
      rw [show j + (i + 1) = j + 1 + i by omega]
      exact ih _ _ (by simpa using h)

end Run

section Pages
variable {h : Hdr} {s : State} {first : Nat} {es : List TribEntry} {i : Instant} {f : Option Nat}

theorem pageWritten (hr : runsNow h (.tribPageWrite first es) s) (hcheck : checkTribPageWrite first es s = .ok)
    (hswap : s.trib.swap = none) (hlock : tribLocked s = false) : completes (.tribPageWrite h first es) h 0x0506 s fun t =>
      (∀ i e, es[i]? = some e → Tbl.get {} t.trib.standby (first + i) = e) ∧
      (∀ k, k < first ∨ first + es.length ≤ k → Tbl.get {} t.trib.standby k = Tbl.get {} s.trib.standby k) ∧
      t = { takeUp h s with trib := { s.trib with standby := t.trib.standby } } := by
  obtain ⟨x, hx⟩ := takeUp_cmd h s
  have hbody : doTribPageWrite first es { s with cmd := x } =
      okData [Config.checksum (pageWords (putTribPage first es s).trib.standby)] (putTribPage first es { s with cmd := x }) := by
    unfold doTribPageWrite
    rw [show checkTribPageWrite first es { s with cmd := x } = checkTribPageWrite first es s from rfl, hcheck,
      show tribLocked { s with cmd := x } = tribLocked s from rfl]
    simp only [hswap, hlock, Option.isSome_none, Bool.or_self, Bool.false_eq_true, if_false]
    rfl
  refine completes_taken hx hr rfl rfl rfl hbody ⟨fun i e he => ?_, fun k hk => ?_, by rw [hx]; rfl⟩
  · exact (congrArg _ (by omega)).trans (get_run_inside {} first es 0 s.trib.standby he)
  · exact get_run_outside {} first es 0 s.trib.standby (by omega)

theorem swapSet (hr : runsNow h (.tribPageSwap i f) s) (hcheck : checkTribPageSwap i f s = .ok)
    (hswap : s.trib.swap = none) (hlock : tribLocked s = false) (hinstant : instantStatus i s = .ok) :
    completes (.tribPageSwap h i f) h 0x0507 s fun t =>
      t = { takeUp h s with trib := { s.trib with swap := some { at_ := i, fence := f.getD 50 } } } := by
  obtain ⟨x, hx⟩ := takeUp_cmd h s
  have hbody : doTribPageSwap i f { s with cmd := x } = okData [secOf i, nsOf i, fracOf i]
      { s with cmd := x, trib := { s.trib with swap := some { at_ := i, fence := f.getD 50 } } } := by
    unfold doTribPageSwap
    rw [show checkTribPageSwap i f { s with cmd := x } = checkTribPageSwap i f s from rfl, hcheck,
      show tribLocked { s with cmd := x } = tribLocked s from rfl,
      show instantStatus i { s with cmd := x } = instantStatus i s from rfl, hinstant]
    simp only [hswap, hlock, Option.isSome_none, Bool.or_self, Bool.false_eq_true, if_false]
    rfl
  exact completes_taken hx hr rfl rfl rfl hbody (by rw [hx])

/-- A second swap is refused while one is pending. -/
theorem swapRefused (hr : runsNow h (.tribPageSwap i f) s) (hcheck : checkTribPageSwap i f s = .ok) (hswap : s.trib.swap ≠ none) :
    exec (.tribPageSwap h i f) s = .next (sendReply h 0x0507 { status := .tribSwapPending } (raise 0x92 (takeUp h s))) := by
  obtain ⟨x, hx⟩ := takeUp_cmd h s
  have hbody : doTribPageSwap i f { s with cmd := x } = (some { status := .tribSwapPending }, raise 0x92 { s with cmd := x }) := by
    unfold doTribPageSwap
    rw [show checkTribPageSwap i f { s with cmd := x } = checkTribPageSwap i f s from rfl, hcheck]
    simp only [Option.isSome_iff_ne_none.mpr hswap, Bool.true_or, if_true]
    rfl
  rw [hx]
  exact fails_taken hx hr rfl rfl rfl hbody

/-- The pages exchange at the instant, and each upstream tributary that moves gets a fence. -/
theorem pagesSwap {w : Swap} (hswap : s.trib.swap = some w) (hvalid : timeValid s = true) (hdue : w.at_ ≤ lineTime s) :
    nextWith .tribSwap s fun t =>
      t.trib.active = s.trib.standby ∧ t.trib.standby = s.trib.active ∧ t.trib.swap = none ∧
      (∀ k, k < 64 → (Tbl.get {} s.trib.active k).upCarrier ≠ (Tbl.get {} s.trib.standby k).upCarrier →
        ({ trib := k, old := (Tbl.get {} s.trib.active k).upCarrier, new := (Tbl.get {} s.trib.standby k).upCarrier
           until_ := w.at_ + ms w.fence } : Fence) ∈ t.trib.fences) ∧
      t = { s with trib := t.trib, evc := t.evc, out := t.out } := by
  have hexec : exec .tribSwap s = .next (swapPages w.at_ w.fence s) := by
    change execTribSwap s = _
    simp [execTribSwap, hswap, hvalid, hdue]
  refine nextWith_of hexec ⟨by simp [swapPages], by simp [swapPages], by simp [swapPages], fun k hk hmoved => ?_,
    eq_merged (m := { trib := true, evc := true, out := true }) (by simp)⟩
  simp only [swapPages, raise_trib, List.mem_append, List.mem_map, List.mem_filter, List.mem_range, bne_iff_ne]
  exact .inr ⟨k, ⟨hk, hmoved⟩, rfl⟩

theorem swapWaits {w : Swap} (hswap : s.trib.swap = some w) (hearly : lineTime s < w.at_) : exec .tribSwap s = .next s := by
  change execTribSwap s = _
  simp [execTribSwap, hswap, Nat.not_le.mpr hearly]

end Pages

/-! ### The fence's timeout (R118) -/

section Fences
variable (k : Nat) (s : State)

/-- The fences of a tributary whose time is over, and those of them that are not met. -/
def dueFences : List Fence := s.trib.fences.filter fun f => f.trib == k && decide (f.until_ ≤ lineTime s)
def unmetFences : List Fence := (dueFences k s).filter fun f => tribWaits s f.old k || decide (f.until_ < lastEnd s f.old k)

/-- The state without the fences whose time is over. -/
def unfenced : State := { s with trib := { s.trib with fences := s.trib.fences.filter fun f => !(dueFences k s).contains f } }

theorem exec_fenceTimeout : exec (.fenceTimeout k) s = .next (if (unmetFences k s).isEmpty then unfenced k s
    else raise 0x91 { unfenced k s with trib := { (unfenced k s).trib with nTimeout := s.trib.nTimeout + 1 } }) := rfl

variable {k s}

theorem mem_dueFences {f : Fence} : f ∈ dueFences k s ↔ f ∈ s.trib.fences ∧ f.trib = k ∧ f.until_ ≤ lineTime s := by
  simp [dueFences]

theorem mem_unfenced {f : Fence} : f ∈ (unfenced k s).trib.fences ↔ f ∈ s.trib.fences ∧ (f.trib ≠ k ∨ lineTime s < f.until_) := by
  simp only [unfenced, List.mem_filter, Bool.not_eq_true', List.contains_eq_mem, decide_eq_false_iff_not, mem_dueFences, not_and]
  refine and_congr_right fun hf => ⟨fun hno => ?_, fun hkeep _ htrib => ?_⟩
  · by_cases htrib : f.trib = k
    · exact .inr (Nat.not_le.mp (hno hf htrib))
    · exact .inl htrib
  · exact hkeep.elim (fun hne => absurd htrib hne) Nat.not_le.mpr

theorem fenceUnmet {f : Fence} (hmem : f ∈ s.trib.fences) (htrib : f.trib = k) (hdue : f.until_ ≤ lineTime s)
    (hunmet : tribWaits s f.old k = true ∨ f.until_ < lastEnd s f.old k) : nextWith (.fenceTimeout k) s fun t =>
      f ∉ t.trib.fences ∧ t.trib.nTimeout = s.trib.nTimeout + 1 ∧
      (∀ x ∈ s.trib.fences, x.trib ≠ k ∨ lineTime s < x.until_ → x ∈ t.trib.fences) ∧
      t.trib.active = s.trib.active ∧ t = { s with trib := t.trib, evc := t.evc, out := t.out } := by
  have hin : f ∈ unmetFences k s := List.mem_filter.mpr ⟨mem_dueFences.mpr ⟨hmem, htrib, hdue⟩, by simpa using hunmet⟩
  have hsome : (unmetFences k s).isEmpty ≠ true := fun hnone => List.ne_nil_of_mem hin (List.isEmpty_iff.mp hnone)
  refine nextWith_of ((exec_fenceTimeout k s).trans (congrArg _ (if_neg hsome))) ⟨?_, by simp, fun x hx hkeep => ?_, ?_, ?_⟩
  · rw [raise_trib]
    exact fun hstays => (mem_unfenced.mp hstays).2.elim (fun hne => hne htrib) fun hlate => Nat.not_lt.mpr hdue hlate
  · rw [raise_trib]
    exact mem_unfenced.mpr ⟨hx, hkeep⟩
  · rw [raise_trib]
    rfl
  · exact eq_merged (m := { trib := true, evc := true, out := true }) (by simp [unfenced])

theorem fenceMet (hmet : ∀ f ∈ s.trib.fences, f.trib = k → f.until_ ≤ lineTime s →
      tribWaits s f.old k = false ∧ lastEnd s f.old k ≤ f.until_) : nextWith (.fenceTimeout k) s fun t =>
    (∀ x, x ∈ t.trib.fences ↔ x ∈ s.trib.fences ∧ (x.trib ≠ k ∨ lineTime s < x.until_)) ∧
    t = { s with trib := { s.trib with fences := t.trib.fences } } := by
  have hnone : (unmetFences k s).isEmpty = true := by
    rw [List.isEmpty_iff, unmetFences, List.filter_eq_nil_iff]
    intro f hf
    obtain ⟨hmem, htrib, hdue⟩ := mem_dueFences.mp hf
    obtain ⟨hwaits, hend⟩ := hmet f hmem htrib hdue
    simp [hwaits, hend]
  exact nextWith_of ((exec_fenceTimeout k s).trans (congrArg _ (if_pos hnone))) ⟨fun _ => mem_unfenced, rfl⟩

end Fences

/-- Settles O21: the page write, the swap and the fence, each by its conditions. -/
theorem tributaryPages : Obligations.TributaryPages := fun _ _ =>
  ⟨fun _ _ => pageWritten, fun _ _ => swapSet, fun _ _ => swapRefused, fun _ => pagesSwap, fun _ => swapWaits,
    fun _ _ => fenceUnmet, fun _ => fenceMet⟩

/-! ### Management channels (R114, R115) -/

section Channels
variable {s : State} {ch : Nat} (hch : ch < 4)
include hch

theorem mchConfigured {h : Hdr} {en : Bool} {c rate : Nat} (hr : runsNow h (.mchConfig ch en c rate) s) (hhas : s.hasCarrier c = true)
    (hrate : rate < 5) : completes (.mchConfig h ch en c rate) h 0x0504 s fun t =>
      t.channel ch = { s.channel ch with en := en, carrier := c, rate := rate } ∧ otherChannels ch s t ∧
      t = { takeUp h s with mch := t.mch } := by
  obtain ⟨x, hx⟩ := takeUp_cmd h s
  have hbody : doMchConfig ch en c rate { s with cmd := x } = okData [en.toNat, c, rate]
      (modChannel ch (fun m => { m with en := en, carrier := c, rate := rate }) { s with cmd := x }) := by
    unfold doMchConfig
    rw [require_true (by simp [hch, hrate])]
    unfold withCarrier
    rw [require_true (k := fun s => _) (by exact hhas)]
  exact completes_taken hx hr rfl rfl rfl hbody ⟨modChannel_self _ _ _, fun m hm => modChannel_ne _ _ _ _ hm, by rw [hx]; rfl⟩

theorem portFrameTaken {bits : List Bool} {o b : List Byte} (hen : (s.channel ch).en = true) (hoctets : hdlcOctets bits = some o)
    (hcontent : hdlcContent o = some b) (hmin : 1 ≤ b.length) (hmax : b.length ≤ 1600)
    (hroom : (s.channel ch).upQ.length + 2 + b.length ≤ 16384) : nextWith (.mchPortFrame ch bits) s fun t =>
      t.channel ch = { s.channel ch with
        upQ := (s.channel ch).upQ ++ beBytes 2 b.length ++ b, nUp := (s.channel ch).nUp + 1,
        bUp := (s.channel ch).bUp + b.length } ∧ otherChannels ch s t ∧ t = { s with mch := t.mch } := by
  have hexec : exec (.mchPortFrame ch bits) s = .next (modChannel ch (fun m => { m with
      upQ := m.upQ ++ beBytes 2 b.length ++ b, nUp := m.nUp + 1, bUp := m.bUp + b.length }) s) := by
    change execMchPortFrame ch bits s = _
    unfold execMchPortFrame
    simp only [hen, hoctets, hcontent]
    rw [if_neg (by simp; omega), if_neg (by omega), if_neg (by omega)]
  exact nextWith_of hexec ⟨modChannel_self _ _ _, fun m hm => modChannel_ne _ _ _ _ hm, rfl⟩

theorem portFrameBad {bits : List Bool} (hen : (s.channel ch).en = true)
    (hbad : hdlcOctets bits = none ∨ (∃ o, hdlcOctets bits = some o ∧ hdlcContent o = none)) :
    nextWith (.mchPortFrame ch bits) s fun t =>
      t.channel ch = { s.channel ch with nFcs := (s.channel ch).nFcs + 1 } ∧ otherChannels ch s t ∧
      t = { s with mch := t.mch, evc := t.evc, out := t.out } := by
  have hexec : exec (.mchPortFrame ch bits) s =
      .next (raise (0x8C + ch) (modChannel ch (fun m => { m with nFcs := m.nFcs + 1 }) s)) := by
    change execMchPortFrame ch bits s = _
    unfold execMchPortFrame
    dsimp only
    rw [hen, if_neg (by simp; omega)]
    obtain hoctets | ⟨o, hoctets, hcontent⟩ := hbad
    · simp only [hoctets]
    · simp only [hoctets, hcontent]
  refine nextWith_of hexec ⟨?_, fun m hm => ?_, eq_merged (m := { mch := true, evc := true, out := true }) (by simp)⟩
  · rw [raise_channel, modChannel_self]
  · rw [raise_channel, modChannel_ne _ _ _ _ hm]

theorem cellFormed (hen : (s.channel ch).en = true) (hstate : s.reg.state = .operating) (hcells : (s.channel ch).cells = [])
    (hq : (s.channel ch).upQ ≠ []) (hperiod : (s.channel ch).lastCell ≠ some (lineTime s / frameTime)) :
    nextWith (.mchUpstreamCell ch) s fun t =>
      t.channel ch = { s.channel ch with
        cells := [(s.channel ch).upQ.take 248], upQ := (s.channel ch).upQ.drop 248,
        lastCell := some (lineTime s / frameTime) } ∧ otherChannels ch s t ∧ t = { s with mch := t.mch } := by
  have hexec : exec (.mchUpstreamCell ch) s = .next (modChannel ch (fun m => { m with
      cells := [m.upQ.take 248], upQ := m.upQ.drop 248, lastCell := some (lineTime s / frameTime) }) s) := by
    change execMchUpstreamCell ch s = _
    unfold execMchUpstreamCell
    dsimp only
    rw [if_pos (by simp [hen, hstate, hcells, hq, hperiod, hch])]
  exact nextWith_of hexec ⟨modChannel_self _ _ _, fun m hm => modChannel_ne _ _ _ _ hm, rfl⟩

theorem frameSent {f : List Byte} {l : List (List Byte)} (hen : (s.channel ch).en = true) (hq : (s.channel ch).downQ = f :: l)
    (hlocked : (s.carrier (s.channel ch).carrier).state = .locked) : nextWith (.mchPortTransmit ch) s fun t =>
      t.channel ch = { s.channel ch with
        downQ := l, nDown := (s.channel ch).nDown + 1, bDown := (s.channel ch).bDown + f.length } ∧
      otherChannels ch s t ∧ t = { s with mch := t.mch, out := .hdlc ch (hdlcBits f) :: s.out } := by
  have hexec : exec (.mchPortTransmit ch) s = .next (emit (.hdlc ch (hdlcBits f))
      (modChannel ch (fun m => { m with downQ := l, nDown := m.nDown + 1, bDown := m.bDown + f.length }) s)) := by
    change execMchPortTransmit ch s = _
    unfold execMchPortTransmit
    dsimp only
    rw [hen, if_neg (by simp; omega), hq, hlocked]
    rfl
  refine nextWith_of hexec ⟨?_, fun m hm => ?_, rfl⟩
  · rw [emit_channel, modChannel_self]
  · rw [emit_channel, modChannel_ne _ _ _ _ hm]

theorem flagsSent (hen : (s.channel ch).en = true)
    (hnone : (s.channel ch).downQ = [] ∨ (s.carrier (s.channel ch).carrier).state ≠ .locked) :
    exec (.mchPortTransmit ch) s = .next (emit (.flags ch) s) := by
  change execMchPortTransmit ch s = _
  unfold execMchPortTransmit
  dsimp only
  rw [hen, if_neg (by simp; omega)]
  split
  case h_1 f l hq hlocked => exact absurd (hnone.resolve_left (by simp [hq])) (not_not.mpr (by simpa using hlocked))
  case h_2 => rfl

end Channels

/-- Settles O22: per event of a channel. -/
theorem managementChannels : Obligations.ManagementChannels := fun _ _ hch =>
  ⟨fun _ _ _ _ hr _ => mchConfigured hch hr, fun _ _ _ => portFrameTaken hch, fun _ => portFrameBad hch, cellFormed hch,
    fun _ _ => frameSent hch, flagsSent hch⟩

end Sys2Proof.Proofs.Tributaries
end

section
/-!
Upstream bursts (chapters 01, 03, 04 and 05): O23.
-/
namespace Sys2Proof.Proofs.Bursts
open Sys2Proof Sys2Proof.Machine Sys2Proof.Proofs.Frames Sys2Proof.Proofs.Rules Sys2Proof.Proofs.CarrierEvents
open Sys2Proof.Proofs.LineTimeEvents Sys2Proof.Proofs.RegistrationCommands Sys2Proof.Proofs.RegistrationMessages
open Sys2Proof.Proofs.Downstream

set_option Elab.async false

@[simp] theorem loseBursts_carrier (a0 : List Burst) (s : State) (n : Nat) : (loseBursts a0 s).carrier n = s.carrier n := by
  unfold State.carrier
  rw [show (loseBursts a0 s).carriers = s.carriers from carriers_of_rest (m := { q := true, evc := true, pmc := true, out := true }) (by simp)]
@[simp] theorem mchCells_carrier (a0 : Nat) (a1 : Nat) (s : State) (n : Nat) : (mchCells a0 a1 s).2.carrier n = s.carrier n := by
  unfold State.carrier
  rw [show (mchCells a0 a1 s).2.carriers = s.carriers from carriers_of_rest (m := { mch := true }) (by simp)]
@[simp] theorem drawLimit_carrier (a0 : Nat) (s : State) (n : Nat) : (drawLimit a0 s).2.carrier n = s.carrier n := by
  unfold State.carrier
  rw [show (drawLimit a0 s).2.carriers = s.carriers from carriers_of_rest (m := { clk := true }) (by simp)]
@[simp] theorem drawCells_carrier (n : Nat) (t : Instant) (f : Nat) (s : State) (n' : Nat) : (drawCells n t f s).2.carrier n' = s.carrier n' := by
  unfold State.carrier
  rw [show (drawCells n t f s).2.carriers = s.carriers from carriers_of_rest (m := { clk := true, q := true, evc := true, pmc := true, out := true }) (by simp)]
@[simp] theorem pmcCount_carrier (a0 : PmcEvent) (s : State) (n : Nat) : (pmcCount a0 s).carrier n = s.carrier n := by
  unfold State.carrier
  rw [show (pmcCount a0 s).carriers = s.carriers from carriers_of_rest (m := { clk := true, evc := true, pmc := true, out := true }) (by simp)]
@[simp] theorem meetFences_carrier (a0 : Nat) (a1 : Instant) (s : State) (n : Nat) : (meetFences a0 a1 s).carrier n = s.carrier n := by
  unfold State.carrier
  rw [show (meetFences a0 a1 s).carriers = s.carriers from carriers_of_rest (m := { trib := true }) (by simp)]
@[simp] theorem creditNodes_carrier (a0 : Instant) (s : State) (n : Nat) : (creditNodes a0 s).carrier n = s.carrier n := by
  unfold State.carrier
  rw [show (creditNodes a0 s).carriers = s.carriers from carriers_of_rest (m := { q := true }) (by simp)]
@[simp] theorem freeCells_carrier (a0 : Nat) (s : State) (n : Nat) : (freeCells a0 s).carrier n = s.carrier n := by
  unfold State.carrier
  rw [show (freeCells a0 s).carriers = s.carriers from carriers_of_rest (m := { q := true }) (by simp)]
@[simp] theorem dropQ_carrier (a0 : QPkt) (s : State) (n : Nat) : (dropQ a0 s).carrier n = s.carrier n := by
  unfold State.carrier
  rw [show (dropQ a0 s).carriers = s.carriers from carriers_of_rest (m := { clk := true, evc := true, pmc := true, out := true }) (by simp)]
@[simp] theorem traceEnd_carrier (a0 : Option Nat) (a1 : TraceEntry → TraceEntry) (s : State) (n : Nat) : (traceEnd a0 a1 s).carrier n = s.carrier n := by
  unfold State.carrier
  rw [show (traceEnd a0 a1 s).carriers = s.carriers from carriers_of_rest (m := { evc := true, pmc := true, out := true }) (by simp)]
@[simp] theorem traceStageAt_carrier (a0 : Option Nat) (a1 : Nat) (a2 : Instant) (s : State) (n : Nat) : (traceStageAt a0 a1 a2 s).carrier n = s.carrier n := by
  unfold State.carrier
  rw [show (traceStageAt a0 a1 a2 s).carriers = s.carriers from carriers_of_rest (m := { pmc := true }) (by simp)]
@[simp] theorem forgo_reg (a0 : Nat) (a1 : Grant) (s : State) : (forgo a0 a1 s).reg = s.reg :=
  reg_of_rest (m := { carriers := true, q := true, evc := true, pmc := true, out := true }) (by simp)
@[simp] theorem forgo_cmd (a0 : Nat) (a1 : Grant) (s : State) : (forgo a0 a1 s).cmd = s.cmd :=
  cmd_of_rest (m := { carriers := true, q := true, evc := true, pmc := true, out := true }) (by simp)
@[simp] theorem emitBurst_reg (a0 : Nat) (a1 : Grant) (s : State) : (emitBurst a0 a1 s).reg = s.reg :=
  reg_of_rest (m := { clk := true, carriers := true, mch := true, trib := true, cls := true, q := true, die := true, ports := true, evc := true, pmc := true, out := true }) (by simp)
@[simp] theorem emitBurst_cmd (a0 : Nat) (a1 : Grant) (s : State) : (emitBurst a0 a1 s).cmd = s.cmd :=
  cmd_of_rest (m := { clk := true, carriers := true, mch := true, trib := true, cls := true, q := true, die := true, ports := true, evc := true, pmc := true, out := true }) (by simp)

/-! ### What a draw leaves of the carriers -/

section Keeps
variable {β : Type} {F : Carrier → β}

/-- The age check touches the mark that old cells were discarded, and nothing else of a carrier (R153). -/
theorem ageAll_keeps (hF : ∀ c k, F { c with discarding := k } = F c) (k : Nat) (s : State) :
    F ((ageAll s).carrier k) = F (s.carrier k) := by
  have hmark (m : Nat) (s : State) : F ((markDiscarding m s).carrier k) = F (s.carrier k) := modCarrier_keeps m k s fun c => hF c _
  have hdrop (l : List QPkt) (s : State) : (l.foldl (fun s p => dropQ p s) s).carrier k = s.carrier k :=
    foldl_keeps (F := fun s => s.carrier k) l s fun s p => dropQ_carrier p s k
  have hlist (j m : Nat) (s : State) : F ((ageList j m s).carrier k) = F (s.carrier k) := by
    unfold ageList
    split
    case h_1 => rfl
    case h_2 q _ =>
      dsimp only
      split
      · rfl
      · rw [raiseOnce_carrier, hmark, hdrop, freeCells_carrier]
        rfl
  exact forEach_keeps (F := fun s => F (s.carrier k)) _ _ fun n s =>
    forEach_keeps (F := fun s => F (s.carrier k)) _ _ fun j s => hlist j n s

theorem yieldTo_ne {n m : Nat} (hm : m ≠ n) (g : Grant) (s : State) : (yieldTo n g s).carrier m = s.carrier m := by
  unfold yieldTo
  dsimp only
  split
  · rfl
  · rw [modCarrier_ne _ _ _ _ hm, loseBursts_carrier]

theorem yieldTo_keeps (hF : ∀ c d r t, F { c with drawn := d, remainder := r, remTrib := t } = F c) (n : Nat) (g : Grant) (k : Nat)
    (s : State) : F ((yieldTo n g s).carrier k) = F (s.carrier k) := by
  unfold yieldTo
  dsimp only
  split
  · rfl
  · exact (modCarrier_keeps n k _ fun c => hF c _ _ _).trans (by rw [loseBursts_carrier])

/-- A grant that comes before bursts which are drawn leaves those before it (log entry 22). -/
theorem yieldTo_drawn (n : Nat) (g : Grant) (s : State) :
    ((yieldTo n g s).carrier n).drawn = (s.carrier n).drawn.takeWhile fun x => decide (x.grant.emit ≤ g.emit) := by
  have happend := List.takeWhile_append_dropWhile (p := fun x : Burst => decide (x.grant.emit ≤ g.emit)) (l := (s.carrier n).drawn)
  unfold yieldTo
  dsimp only
  split
  case h_1 hnone => rw [hnone, List.append_nil] at happend; exact happend.symm
  case h_2 => rw [modCarrier_self]

/-- The cells of the queues that a draw takes. -/
def queueCells (n : Nat) (g : Grant) (data : Bool) (at_ room : Nat) (s : State) : List Drawn × State :=
  if data then
    drawCells n g.start (drawLimit room (meetFences n g.start (creditNodes at_ (ageAll s)))).1
      (drawLimit room (meetFences n g.start (creditNodes at_ (ageAll s)))).2
  else ([], s)

/-- The management cells that a draw takes. -/
def channelCells (n period : Nat) (s : State) : List Drawn × State := if s.die.split then ([], s) else mchCells n period s

/-- An assembled burst leaves the carrier a remainder, after the cells of the channels and of the queues were taken. -/
theorem assemble_eq (n : Nat) (g : Grant) (data : Bool) (s : State) : ∃ period at_ room e r t, (assemble n g data s).2 =
    modCarrier n (fun c => { c with remainder := r, remTrib := t })
      (pmcCount e (queueCells n g data at_ room (channelCells n period (yieldTo n g s)).2).2) := ⟨_, _, _, _, _, _, rfl⟩

theorem assemble_grant (n : Nat) (g : Grant) (data : Bool) (s : State) : (assemble n g data s).1.grant = g := rfl

theorem channelCells_carrier (n period : Nat) (s : State) (k : Nat) : (channelCells n period s).2.carrier k = s.carrier k := by
  unfold channelCells
  split
  · rfl
  · exact mchCells_carrier ..

theorem queueCells_keeps (hF : ∀ c k, F { c with discarding := k } = F c) (n : Nat) (g : Grant) (data : Bool) (at_ room : Nat)
    (s : State) (k : Nat) : F ((queueCells n g data at_ room s).2.carrier k) = F (s.carrier k) := by
  unfold queueCells
  split
  · rw [drawCells_carrier, drawLimit_carrier, meetFences_carrier, creditNodes_carrier]
    exact ageAll_keeps hF k s
  · rfl

theorem assemble_keeps (hF : ∀ c k, F { c with discarding := k } = F c)
    (hF' : ∀ c r t, F { c with remainder := r, remTrib := t } = F c) (n : Nat) (g : Grant) (data : Bool) (s : State) (k : Nat) :
    F ((assemble n g data s).2.carrier k) = F ((yieldTo n g s).carrier k) := by
  obtain ⟨period, at_, room, e, r, t, heq⟩ := assemble_eq n g data s
  rw [heq]
  refine (modCarrier_keeps n k _ fun c => hF' c _ _).trans ?_
  rw [pmcCount_carrier, queueCells_keeps hF, channelCells_carrier]

/-- Of another carrier a draw touches only that mark. -/
theorem assemble_ne {n m : Nat} (hm : m ≠ n) (hF : ∀ c k, F { c with discarding := k } = F c) (g : Grant) (data : Bool) (s : State) :
    F ((assemble n g data s).2.carrier m) = F (s.carrier m) := by
  obtain ⟨period, at_, room, e, r, t, heq⟩ := assemble_eq n g data s
  rw [heq, modCarrier_ne _ _ _ _ hm, pmcCount_carrier, queueCells_keeps hF, channelCells_carrier, yieldTo_ne hm]

end Keeps

/-! ### The draw (R111, R118) -/

/-- The next burst is drawn at the end of those that its grant comes after. -/
theorem burstDrawn {s : State} {n : Nat} {g : Grant} (hnext : nextUndrawn n s = some g) (hstate : s.reg.state = .operating)
    (hsplit : s.die.split = false) (hearly : received s + us 10 ≤ g.emit) : nextWith (.burstDraw n) s fun t =>
      (∃ b, (t.carrier n).drawn =
          ((s.carrier n).drawn.takeWhile fun x => decide (x.grant.emit ≤ g.emit)) ++ [b] ∧ b.grant = g) ∧
      (t.carrier n).held = (s.carrier n).held ∧
      (∀ m, m ≠ n → t.carrier m = { s.carrier m with discarding := (t.carrier m).discarding }) ∧
      t = { s with
        clk := t.clk, carriers := t.carriers, mch := t.mch, trib := t.trib, q := t.q, evc := t.evc, pmc := t.pmc,
        out := t.out } := by
  have hexec : exec (.burstDraw n) s = .next (modCarrier n (fun c => { c with drawn := c.drawn ++ [(assemble n g true s).1] })
      (assemble n g true s).2) := by
    change execBurstDraw n s = _
    unfold execBurstDraw
    simp only [hnext, hstate, hsplit, hearly, decide_true, Bool.not_false, Bool.and_self, if_true]
  refine nextWith_of hexec ⟨⟨(assemble n g true s).1, ?_, assemble_grant n g true s⟩, ?_, fun m hm => ?_, ?_⟩
  · rw [modCarrier_self]
    refine congrArg (· ++ [(assemble n g true s).1]) ?_
    exact (assemble_keeps (F := Carrier.drawn) (fun _ _ => rfl) (fun _ _ _ => rfl) n g true s n).trans (yieldTo_drawn n g s)
  · rw [modCarrier_self]
    exact (assemble_keeps (F := Carrier.held) (fun _ _ => rfl) (fun _ _ _ => rfl) n g true s n).trans
      (yieldTo_keeps (F := Carrier.held) (fun _ _ _ _ => rfl) n g n s)
  · rw [modCarrier_ne _ _ _ _ hm]
    exact congrArg (fun c : Carrier => { c with discarding := ((assemble n g true s).2.carrier m).discarding })
      (assemble_ne (F := fun c => { c with discarding := 0 }) hm (fun _ _ => rfl) g true s)
  · exact eq_merged (m := { clk := true, carriers := true, mch := true, trib := true, q := true, evc := true, pmc := true, out := true })
      (by simp)

/-! ### The emission (R62 to R65, R105, R113) -/

section Emission
variable {s : State} {n : Nat} {g : Grant}

theorem notDue (hdue : dueGrant n s = some g) (hearly : received s < g.emit) : exec (.burstEmission n) s = .next s := by
  change execBurstEmission n s = _
  simp only [execBurstEmission, hdue, if_pos hearly]

/-- BURST_EMISSION at the instant of the earliest grant, once the key has rolled. -/
theorem exec_due (hdue : dueGrant n s = some g) (hnow : g.emit ≤ received s) : exec (.burstEmission n) s = .next (
    if (noteKey (rollKey s)).reg.state ≠ .operating then leaveDark n g (forgo n g (noteKey (rollKey s)))
    else if !((noteKey (rollKey s)).carrier n).ranged || windowRefused n g g.window (noteKey (rollKey s)) then
      grantInvalid n (forgo n g (noteKey (rollKey s)))
    else if !((noteKey (rollKey s)).carrier n).canEmit g.emit || keptDark n (noteKey (rollKey s)) then
      leaveDark n g (forgo n g (noteKey (rollKey s)))
    else emitBurst n g (spend n g (noteKey (rollKey s)))) := by
  change execBurstEmission n s = _
  simp only [execBurstEmission, hdue, if_neg (Nat.not_lt.mpr hnow)]

theorem rolled_state : (noteKey (rollKey s)).reg.state = s.reg.state := noteKey_state.trans rollKey_state

theorem rolled_cmd : (noteKey (rollKey s)).cmd = s.cmd := by rw [noteKey_cmd, rollKey_cmd]

theorem rolled_keeps {β : Type} {F : Carrier → β} (hF : ∀ c k, F { c with burstSeq := k } = F c) (k : Nat) :
    F ((noteKey (rollKey s)).carrier k) = F (s.carrier k) := by
  rw [noteKey_carrier]
  exact rollKey_keeps hF k

theorem spend_keeps {β : Type} {F : Carrier → β} (hF : ∀ c l, F { c with held := l } = F c)
    (hF' : ∀ c l, F { c with standing := l } = F c) (k : Nat) : F ((spend n g s).carrier k) = F (s.carrier k) :=
  modCarrier_keeps n k s fun c => by
    split
    · exact hF c _
    · exact hF' c _

theorem letGo_keeps {β : Type} {F : Carrier → β} (hF : ∀ c d, F { c with drawn := d } = F c)
    (hF' : ∀ c r t, F { c with remainder := r, remTrib := t } = F c) (p : Burst → Bool) (k : Nat) :
    F ((letGo n p s).carrier k) = F (s.carrier k) := by
  unfold letGo
  dsimp only
  split
  · rfl
  · split
    · exact (modCarrier_keeps n k _ fun c => hF c _).trans (by rw [loseBursts_carrier])
    · refine (modCarrier_keeps n k _ fun c => ?_).trans (by rw [loseBursts_carrier])
      exact (hF' { c with drawn := (s.carrier n).drawn.takeWhile fun b => !p b } _ _).trans (hF c _)

theorem forgo_nDropped : ((forgo n g s).carrier n).nDropped = (s.carrier n).nDropped :=
  (spend_keeps (F := Carrier.nDropped) (fun _ _ => rfl) (fun _ _ => rfl) n).trans
    (letGo_keeps (F := Carrier.nDropped) (fun _ _ => rfl) (fun _ _ _ => rfl) _ n)

theorem forgo_nInvalid : ((forgo n g s).carrier n).nInvalid = (s.carrier n).nInvalid :=
  (spend_keeps (F := Carrier.nInvalid) (fun _ _ => rfl) (fun _ _ => rfl) n).trans
    (letGo_keeps (F := Carrier.nInvalid) (fun _ _ => rfl) (fun _ _ _ => rfl) _ n)

theorem forgo_nEmitted : ((forgo n g s).carrier n).nEmitted = (s.carrier n).nEmitted :=
  (spend_keeps (F := Carrier.nEmitted) (fun _ _ => rfl) (fun _ _ => rfl) n).trans
    (letGo_keeps (F := Carrier.nEmitted) (fun _ _ => rfl) (fun _ _ _ => rfl) _ n)

/-- Out of OPERATING a grant stays dark and is counted. -/
theorem leftDark (hdue : dueGrant n s = some g) (hnow : g.emit ≤ received s) (hstate : s.reg.state ≠ .operating) :
    ∃ t, exec (.burstEmission n) s = .next (emit (.dark n g.id) t) ∧
      (t.carrier n).nDropped = (s.carrier n).nDropped + 1 ∧ t.reg.state = s.reg.state ∧ t.cmd = s.cmd := by
  refine ⟨countDropped n 1 (forgo n g (noteKey (rollKey s))), ?_, ?_, ?_, ?_⟩
  · rw [exec_due hdue hnow, if_pos (by rw [rolled_state]; exact hstate)]
    rfl
  · unfold countDropped
    rw [modCarrier_self]
    exact congrArg (· + 1) (forgo_nDropped.trans (rolled_keeps (F := Carrier.nDropped) (fun _ _ => rfl) n))
  · change (forgo n g (noteKey (rollKey s))).reg.state = _
    rw [forgo_reg, rolled_state]
  · change (forgo n g (noteKey (rollKey s))).cmd = _
    rw [forgo_cmd, rolled_cmd]

/-- A grant whose window R64 refuses, or of a carrier without a range, is counted as invalid. -/
theorem windowInvalid (hdue : dueGrant n s = some g) (hnow : g.emit ≤ received s) (hstate : s.reg.state = .operating)
    (hrefused : (s.carrier n).ranged = false ∨ windowRefused n g g.window (noteKey (rollKey s)) = true) :
    nextWith (.burstEmission n) s fun t =>
      (t.carrier n).nInvalid = (s.carrier n).nInvalid + 1 ∧ (t.carrier n).nEmitted = (s.carrier n).nEmitted ∧
      t.reg.state = .operating ∧ t.cmd = s.cmd := by
  have hranged : ((noteKey (rollKey s)).carrier n).ranged = (s.carrier n).ranged :=
    rolled_keeps (F := Carrier.ranged) (fun _ _ => rfl) n
  have hexec : exec (.burstEmission n) s = .next (grantInvalid n (forgo n g (noteKey (rollKey s)))) := by
    rw [exec_due hdue hnow, if_neg (not_not.mpr (rolled_state.trans hstate)), hranged]
    exact congrArg Host.Outcome.next (if_pos (by simpa using hrefused))
  refine nextWith_of hexec ?_
  unfold grantInvalid
  rw [raise_carrier, modCarrier_self]
  refine ⟨congrArg (· + 1) (forgo_nInvalid.trans (rolled_keeps (F := Carrier.nInvalid) (fun _ _ => rfl) n)),
    forgo_nEmitted.trans (rolled_keeps (F := Carrier.nEmitted) (fun _ _ => rfl) n), ?_, ?_⟩
  · rw [raise_reg, modCarrier_reg, forgo_reg, rolled_state, hstate]
  · rw [raise_cmd, modCarrier_cmd, forgo_cmd, rolled_cmd]

/-! ### A burst that is emitted -/

/-- The burst that is emitted for a grant and the state that its choice leaves: the drawn one, or one assembled without the queues. -/
def chosen (n : Nat) (g : Grant) (s : State) : Burst × State :=
  match (s.carrier n).drawn.find? (Burst.isFor g) with
  | some b => (b, modCarrier n (fun c => { c with drawn := c.drawn.erase b }) s)
  | none => assemble n g false s

/-- The state in which the chosen burst begins. -/
def beginning (n : Nat) (g : Grant) (s : State) : State :=
  beginBurst n g (chosen n g s).1.report (modCarrier n (fun c => { c with
    burstSeq := c.burstSeq + 1
    tribEnd := (chosen n g s).1.tribs.foldl (fun t k => Tbl.set 0 t k (g.start + g.window)) c.tribEnd }) (chosen n g s).2)

/-- The traces of the cells in a burst end. -/
def endTraces (g : Grant) (l : List Nat) (s : State) : State :=
  l.foldl (fun s t => traceEnd (some t) id (traceStageAt (some t) 8 ((g.emit : Int) + downDelay s).toNat s)) s

theorem emitBurst_eq (n : Nat) (g : Grant) (s : State) : emitBurst n g s = endTraces g (chosen n g s).1.traces
    (emit (.burst n (windowOf n g (chosen n g s).2) (scramble (headerOf n (chosen n g s).1 g (beginning n g s)))
      (scramble (chosen n g s).1.payload)) (beginning n g s)) := rfl

theorem endTraces_carrier (l : List Nat) (k : Nat) : (endTraces g l s).carrier k = s.carrier k :=
  foldl_keeps (F := fun s => s.carrier k) l s fun s t => by rw [traceEnd_carrier, traceStageAt_carrier]

theorem modTrace_out (f : Tracing → Tracing) : (modTrace f s).out = s.out := rfl

theorem traceStageAt_out (k : Option Nat) (st : Nat) (i : Instant) : (traceStageAt k st i s).out = s.out := by
  unfold traceStageAt traceEntry
  split <;> rfl

theorem traceEnd_suffix (k : Option Nat) (f : TraceEntry → TraceEntry) : s.out <:+ (traceEnd k f s).out := by
  unfold traceEnd
  split
  · exact List.suffix_rfl
  · dsimp only
    split
    · exact List.suffix_rfl
    · split
      · exact suffix_of (raise_suffix _) (modTrace_out _).symm
      · exact List.suffix_rfl

theorem endTraces_suffix (l : List Nat) : s.out <:+ (endTraces g l s).out := by
  unfold endTraces
  induction l generalizing s with
  | nil => exact List.suffix_rfl
  | cons t l ih =>
    refine List.IsSuffix.trans ?_ ih
    exact (traceStageAt_out (s := s) (some t) 8 _) ▸ traceEnd_suffix (s := traceStageAt (some t) 8 _ s) _ _

theorem chosen_burstSeq : ((chosen n g s).2.carrier n).burstSeq = (s.carrier n).burstSeq := by
  unfold chosen
  split
  · exact modCarrier_keeps (F := Carrier.burstSeq) n n s fun _ => rfl
  · exact (assemble_keeps (F := Carrier.burstSeq) (fun _ _ => rfl) (fun _ _ _ => rfl) n g false s n).trans
      (yieldTo_keeps (F := Carrier.burstSeq) (fun _ _ _ _ => rfl) n g n s)

theorem chosen_nEmitted : ((chosen n g s).2.carrier n).nEmitted = (s.carrier n).nEmitted := by
  unfold chosen
  split
  · exact modCarrier_keeps (F := Carrier.nEmitted) n n s fun _ => rfl
  · exact (assemble_keeps (F := Carrier.nEmitted) (fun _ _ => rfl) (fun _ _ _ => rfl) n g false s n).trans
      (yieldTo_keeps (F := Carrier.nEmitted) (fun _ _ _ _ => rfl) n g n s)

theorem beginBurst_self (r : List Byte) : (beginBurst n g r s).carrier n = { ((s.carrier n).takeGate g.emit) with
    winStart := g.emit, winEnd := g.emit + g.window, nEmitted := (s.carrier n).nEmitted + 1, report := r } := by
  change (modCarrier n (fun c => { (c.takeGate g.emit) with
    winStart := g.emit, winEnd := g.emit + g.window, nEmitted := c.nEmitted + 1, report := r }) s).carrier n = _
  exact modCarrier_self n _ s

theorem beginBurst_ne {m : Nat} (hm : m ≠ n) (r : List Byte) : (beginBurst n g r s).carrier m = s.carrier m := by
  change (modCarrier n (fun c => { (c.takeGate g.emit) with
    winStart := g.emit, winEnd := g.emit + g.window, nEmitted := c.nEmitted + 1, report := r }) s).carrier m = _
  exact modCarrier_ne m n _ s hm

theorem emitBurst_out (n : Nat) (g : Grant) (s : State) :
    ∃ hd b, Output.burst n (windowOf n g (chosen n g s).2) hd b ∈ (emitBurst n g s).out := by
  obtain ⟨hd, b, heq⟩ : ∃ hd b, emitBurst n g s = endTraces g (chosen n g s).1.traces
      (emit (.burst n (windowOf n g (chosen n g s).2) hd b) (beginning n g s)) := ⟨_, _, emitBurst_eq n g s⟩
  refine ⟨hd, b, ?_⟩
  rw [heq]
  exact (endTraces_suffix _).subset List.mem_cons_self

/-- In OPERATING the grant's burst leaves, with the window it was accepted with. -/
theorem burstEmitted (hdue : dueGrant n s = some g) (hnow : g.emit ≤ received s) (hstate : s.reg.state = .operating)
    (hranged : (s.carrier n).ranged = true) (hwindow : windowRefused n g g.window (noteKey (rollKey s)) = false)
    (hemit : ((noteKey (rollKey s)).carrier n).canEmit g.emit = true) (hdark : keptDark n (noteKey (rollKey s)) = false) :
    nextWith (.burstEmission n) s fun t =>
      (t.carrier n).nEmitted = (s.carrier n).nEmitted + 1 ∧ (t.carrier n).winStart = g.emit ∧
      (t.carrier n).winEnd = g.emit + g.window ∧
      (t.carrier n).burstSeq = ((noteKey (rollKey s)).carrier n).burstSeq + 1 ∧
      (∃ w hd b, Output.burst n w hd b ∈ t.out ∧ w.at_ = g.emit ∧ w.len = g.window) ∧ t.reg.state = .operating ∧
      t.cmd = s.cmd := by
  have hranged' : ((noteKey (rollKey s)).carrier n).ranged = true :=
    (rolled_keeps (F := Carrier.ranged) (fun _ _ => rfl) n).trans hranged
  have hexec : exec (.burstEmission n) s = .next (emitBurst n g (spend n g (noteKey (rollKey s)))) := by
    rw [exec_due hdue hnow, if_neg (not_not.mpr (rolled_state.trans hstate)), hranged', hwindow, hemit, hdark]
    rfl
  refine nextWith_of hexec ⟨?_, ?_, ?_, ?_, ?_, ?_, ?_⟩
  · rw [emitBurst_eq, endTraces_carrier, emit_carrier, beginning, beginBurst_self, modCarrier_self]
    refine congrArg (· + 1) (chosen_nEmitted.trans ?_)
    exact (spend_keeps (F := Carrier.nEmitted) (fun _ _ => rfl) (fun _ _ => rfl) n).trans
      (rolled_keeps (F := Carrier.nEmitted) (fun _ _ => rfl) n)
  · rw [emitBurst_eq, endTraces_carrier, emit_carrier, beginning, beginBurst_self]
  · rw [emitBurst_eq, endTraces_carrier, emit_carrier, beginning, beginBurst_self]
  · rw [emitBurst_eq, endTraces_carrier, emit_carrier, beginning, beginBurst_self, modCarrier_self]
    exact congrArg (· + 1) (chosen_burstSeq.trans (spend_keeps (F := Carrier.burstSeq) (fun _ _ => rfl) (fun _ _ => rfl) n))
  · obtain ⟨hd, b, hout⟩ := emitBurst_out n g (spend n g (noteKey (rollKey s)))
    exact ⟨_, hd, b, hout, rfl, rfl⟩
  · rw [emitBurst_reg]
    exact rolled_state.trans hstate
  · rw [emitBurst_cmd]
    exact rolled_cmd

end Emission

/-! ### Ranging bursts (R87) -/

/-- The state in which a ranging burst begins: its grant has left the holding, and its message has taken a free value. -/
def rangingState (n : Nat) (g : Grant) (s : State) : State :=
  (draw (modCarrier n (fun c => { c with held := c.held.filter fun x => x != g }) s)).2

theorem rangingState_self (n : Nat) (g : Grant) (s : State) :
    (rangingState n g s).carrier n = { s.carrier n with held := (s.carrier n).held.filter fun x => x != g } := by
  change (modCarrier n (fun c => { c with held := c.held.filter fun x => x != g }) s).carrier n = _
  exact modCarrier_self n _ s

theorem rangingState_ne {n m : Nat} (hm : m ≠ n) (g : Grant) (s : State) : (rangingState n g s).carrier m = s.carrier m := by
  change (modCarrier n (fun c => { c with held := c.held.filter fun x => x != g }) s).carrier m = _
  exact modCarrier_ne m n _ s hm

theorem rangingSent {s : State} {n : Nat} {g : Grant} (hdue : dueRanging s = some (n, g)) (hsplit : s.die.split = false)
    (hstate : s.reg.state = .ranging ∨ (s.reg.state = .operating ∧ (s.carrier n).ranged = false))
    (hwindow : windowRefused n g g.window (modCarrier n (fun c => { c with held := c.held.filter fun x => x != g }) s) = false)
    (hemit : (s.carrier n).canEmit g.emit = true) : nextWith .rangingBurst s fun t =>
      (t.carrier n).nEmitted = (s.carrier n).nEmitted + 1 ∧ g ∉ (t.carrier n).held ∧
      (t.carrier n).winEnd = g.emit + g.window ∧
      (∃ w hd b, t.out = .burst n w hd b :: s.out ∧ w.at_ = g.emit ∧ w.len = g.window) ∧ otherCarriers n s t ∧
      t = { s with clk := { s.clk with draws := s.clk.draws + 1 }, carriers := t.carriers, out := t.out } := by
  have hexec : ∃ hd b r, exec .rangingBurst s =
      .next (emit (.burst n (windowOf n g (rangingState n g s)) hd b) (beginBurst n g r (rangingState n g s))) := by
    change ∃ hd b r, execRangingBurst s = _
    unfold execRangingBurst
    simp only [hdue]
    rw [if_neg ?_, if_neg (by simp [hemit, hsplit])]
    · exact ⟨_, _, _, rfl⟩
    · rw [hwindow]
      cases hstate with
      | inl h => simp [h]
      | inr h => simp [h.1, h.2]
  obtain ⟨hd, b, r, hexec⟩ := hexec
  refine nextWith_of hexec ⟨?_, ?_, ?_, ⟨_, hd, b, rfl, rfl, rfl⟩, fun m hm => ?_, ?_⟩
  · rw [emit_carrier, beginBurst_self, rangingState_self]
  · rw [emit_carrier, beginBurst_self, rangingState_self]
    simp [Carrier.takeGate]
  · rw [emit_carrier, beginBurst_self]
  · rw [emit_carrier, beginBurst_ne hm, rangingState_ne hm]
  · have hreported : (s.die.reported || s.die.split) = s.die.reported := by simp [hsplit]
    simp [emit, beginBurst, rangingState, draw, modCarrier, setCarrier, hreported]

/-! ### Forecasts (R93) -/

/-- What each round leaves of another key is left of a key that has no round; a key that has one gets it once. -/
theorem forEach_absent {β : Type} {F : State → β} {f : Nat → State → State} {n : Nat} (hne : ∀ m s, m ≠ n → F (f m s) = F s)
    {l : List Nat} (hn : n ∉ l) (s : State) : F (forEach l f s) = F s := by
  induction l generalizing s with
  | nil => rfl
  | cons m l ih =>
    obtain ⟨hm, hl⟩ := not_or.mp (mt List.mem_cons.mpr hn)
    exact (ih hl (f m s)).trans (hne m s (Ne.symm hm))

theorem forEach_once {β : Type} {F : State → β} {f : Nat → State → State} {n : Nat} (hne : ∀ m s, m ≠ n → F (f m s) = F s)
    {l : List Nat} (hl : l.Nodup) (hn : n ∈ l) (s : State) : ∃ u, F u = F s ∧ F (forEach l f s) = F (f n u) := by
  induction l generalizing s with
  | nil => simp at hn
  | cons m l ih =>
    obtain ⟨hm, hl⟩ := List.nodup_cons.mp hl
    by_cases hmn : n = m
    · subst hmn
      exact ⟨s, rfl, forEach_absent hne hm (f n s)⟩
    · obtain ⟨u, hu, hall⟩ := ih hl ((List.mem_cons.mp hn).resolve_left hmn) (f m s)
      exact ⟨u, hu.trans (hne m s (Ne.symm hmn)), hall⟩

section Forecasts
variable (b : Instant) (n : Nat) (s : State)

theorem updateForecast_ne {m : Nat} (hm : n ≠ m) : (updateForecast b m s).carrier n = s.carrier n := by
  unfold updateForecast
  dsimp only
  split
  · rw [raise_carrier]; exact Tbl.get_set_ne _ _ _ hm
  · exact Tbl.get_set_ne _ _ _ hm

/-- The update of a carrier's forecasts touches its forecasts, the boundary it was made at, the mark and whether it is confident. -/
theorem updateForecast_self : ∃ fc k, (updateForecast b n s).carrier n = { s.carrier n with
    fc := fc, lastFc := some (b / superTime), discarding := (s.carrier n).discarding - 1, confident := k } := by
  unfold updateForecast
  dsimp only
  split
  · rw [raise_carrier]; exact ⟨_, _, Tbl.get_set_self ..⟩
  · exact ⟨_, _, Tbl.get_set_self ..⟩

/-- The carriers whose forecasts have not been updated at this boundary. -/
def dueForecasts : List Nat := s.carrierNums.filter fun n => (s.carrier n).lastFc != some (lineTime s / superTime * superTime / superTime)

end Forecasts

theorem forecastUpdated (s : State) (n : Nat) : nextWith .forecastUpdate s fun t =>
    (n < s.variant.carriers → (t.carrier n).lastFc = some (lineTime s / superTime) ∧
      (t.carrier n).state = (s.carrier n).state ∧ (t.carrier n).held = (s.carrier n).held ∧
      ((s.carrier n).lastFc = some (lineTime s / superTime) → t.carrier n = s.carrier n) ∧
      ((s.carrier n).lastFc ≠ some (lineTime s / superTime) →
        (t.carrier n).discarding = (s.carrier n).discarding - 1)) ∧
    t = { s with carriers := t.carriers, evc := t.evc, out := t.out } := by
  have hbound : lineTime s / superTime * superTime / superTime = lineTime s / superTime := Nat.mul_div_cancel _ (by decide)
  have hexec : exec .forecastUpdate s =
      .next (forEach (dueForecasts s) (updateForecast (lineTime s / superTime * superTime)) s) := rfl
  have hne (m : Nat) (u : State) (hm : m ≠ n) :
      (updateForecast (lineTime s / superTime * superTime) m u).carrier n = u.carrier n := updateForecast_ne _ n u (Ne.symm hm)
  refine nextWith_of hexec ⟨fun hn => ?_, eq_merged (m := { carriers := true, evc := true, out := true }) (by simp)⟩
  by_cases hlast : (s.carrier n).lastFc = some (lineTime s / superTime)
  · have habsent : n ∉ dueForecasts s := by simp [dueForecasts, hbound, hlast]
    rw [forEach_absent (F := fun s => s.carrier n) hne habsent s]
    exact ⟨hlast, rfl, rfl, fun _ => rfl, fun hno => absurd hlast hno⟩
  · have hmem : n ∈ dueForecasts s := by simp [dueForecasts, hbound, hlast, State.carrierNums, hn]
    obtain ⟨u, hu, hall⟩ := forEach_once (F := fun s => s.carrier n) (l := dueForecasts s) hne (List.nodup_range.filter _) hmem s
    obtain ⟨fc, k, hself⟩ := updateForecast_self (lineTime s / superTime * superTime) n u
    rw [hall, hself, hbound, show u.carrier n = s.carrier n from hu]
    exact ⟨rfl, rfl, rfl, fun hyes => absurd hyes hlast, fun _ => rfl⟩

/-- Settles O23: the draw, the emission by its outcomes, the ranging burst and the forecasts. -/
theorem bursts : Obligations.Bursts := fun s n _ =>
  ⟨burstDrawn, notDue, leftDark, windowInvalid, burstEmitted, rangingSent, forecastUpdated s n⟩

end Sys2Proof.Proofs.Bursts
end

section
/-!
The classifier's commands (chapter 06): O24.
-/
namespace Sys2Proof.Proofs.ClassificationCommands
open Sys2Proof Sys2Proof.Machine Sys2Proof.Proofs.Frames Sys2Proof.Proofs.Rules

set_option Elab.async false

/-! ### The slots of a direct write (R144, R145) -/

/-- A direct write reaches the current generation. -/
def reaches (sl : Bool × Bool) (curB : Bool) : Prop := (if curB then sl.2 else sl.1) = true

theorem directSlots_reaches (own : Cmd → Bool) (s : State) : reaches (directSlots own s) s.cls.curB := by
  have hlive : reaches s.cls.live s.cls.curB := by
    unfold reaches Classifier.live
    cases s.cls.curB <;> simp
  unfold directSlots
  split
  · split
    · unfold reaches; simp
    · exact hlive
  · exact hlive

/-! ### Moves of entries between buckets (R130) -/

/-- Two tables hold the same entries, each in some bucket. -/
def sameEntries (l l' : List FlowEntry) : Prop :=
  (∀ e ∈ l, ∃ x ∈ l', { x with bucket := e.bucket } = e) ∧ ∀ x ∈ l', ∃ e ∈ l, { x with bucket := e.bucket } = e

theorem sameEntries_refl (l : List FlowEntry) : sameEntries l l := ⟨fun e he => ⟨e, he, rfl⟩, fun e he => ⟨e, he, rfl⟩⟩

theorem makeRoom_same {fuel b : Nat} {l : List FlowEntry} {r : List FlowEntry × Nat} (h : makeRoom fuel b l = some r) :
    sameEntries l r.1 := by
  induction fuel generalizing b l r with
  | zero =>
    unfold makeRoom at h
    split at h
    · cases h; exact sameEntries_refl l
    · cases h
  | succ fuel ih =>
    unfold makeRoom at h
    split at h
    · cases h; exact sameEntries_refl l
    · split at h
      case h_1 => cases h
      case h_2 v hv =>
        obtain ⟨q, hq, rfl⟩ := Option.map_eq_some_iff.mp h
        obtain ⟨hto, hfrom⟩ := ih hq
        have hmem : v ∈ l := List.mem_of_find?_eq_some hv
        refine ⟨fun e he => ?_, fun x hx => ?_⟩
        · by_cases hev : e = v
          · subst hev
            exact ⟨_, List.mem_append_right _ List.mem_cons_self, rfl⟩
          · obtain ⟨x, hx, hxe⟩ := hto e ((List.mem_erase_of_ne hev).mpr he)
            exact ⟨x, List.mem_append_left _ hx, hxe⟩
        · obtain hx | hx := List.mem_append.mp hx
          · obtain ⟨e, he, hxe⟩ := hfrom x hx
            exact ⟨e, List.mem_of_mem_erase he, hxe⟩
          · obtain rfl := List.mem_singleton.mp hx
            exact ⟨v, hmem, rfl⟩

theorem findPlace_same (key : List Byte) (l : List FlowEntry) (d : Nat × Nat) :
    sameEntries l ((findPlace key l).getD (d.1, l, d.2)).2.1 := by
  unfold findPlace
  dsimp only
  split
  · exact sameEntries_refl l
  · split
    · exact sameEntries_refl l
    · cases hroom : makeRoom 64 (candidate 0 key) l with
      | none => exact sameEntries_refl l
      | some r => exact makeRoom_same hroom

/-! ### What a write leaves in the flow table -/

/-- An entry is of a profile and key. -/
def ofKey (profile : Nat) (key : List Byte) (e : FlowEntry) : Bool := e.word.profile == profile && e.key == key

theorem ofKey_iff {profile : Nat} {key : List Byte} {e : FlowEntry} : ofKey profile key e = true ↔ e.word.profile = profile ∧ e.key = key := by
  simp [ofKey]

section Hide
variable {sl : Bool × Bool} {p : FlowEntry → Bool} {l : List FlowEntry}

/-- An entry that is not meant and is visible anywhere stays. -/
theorem mem_hideFlows {e : FlowEntry} (he : e ∈ l) (hp : p e = false) (hvis : e.visA = true ∨ e.visB = true) : e ∈ hideFlows sl p l := by
  refine List.mem_filter.mpr ⟨List.mem_map.mpr ⟨e, he, ?_⟩, by simpa using hvis⟩
  rw [hp]
  rfl

/-- What is left of an entry that is meant is not visible in the slots. -/
theorem hideFlows_hidden {curB : Bool} (hreach : reaches sl curB)  {e : FlowEntry} (he : e ∈ hideFlows sl p l) (hpe : p e = true) : e.vis curB = false := by
  obtain ⟨hmap, -⟩ := List.mem_filter.mp he
  obtain ⟨x, -, hx⟩ := List.mem_map.mp hmap
  cases hpx : p x with
  | true =>
    rw [hpx, if_pos rfl] at hx
    subst hx
    unfold reaches at hreach
    cases curB
    · have h1 : sl.1 = true := by simpa using hreach
      simp [FlowEntry.vis, h1]
    · have h2 : sl.2 = true := by simpa using hreach
      simp [FlowEntry.vis, h2]
  | false =>
    rw [hpx, if_neg Bool.false_ne_true] at hx
    subst hx
    rw [hpx] at hpe
    cases hpe

end Hide

/-- The table's occupancy note leaves the classifier but its flag. -/
theorem noteFlows_eq (s : State) : ∃ b e o, noteFlows s = { s with cls := { s.cls with tableHigh := b }, evc := e, out := o } := by
  unfold noteFlows
  dsimp only
  split
  · exact ⟨true, _, _, (raise_only 0xA6 (modCls (fun c => { c with tableHigh := true }) s))⟩
  · split
    · exact ⟨false, s.evc, s.out, rfl⟩
    · exact ⟨s.cls.tableHigh, s.evc, s.out, rfl⟩

/-- The entry that putFlow writes. -/
theorem putFlow_eq (sl : Bool × Bool) (w : EntryWord) (key : List Byte) (s : State) : ∃ hit b e o bucket,
    putFlow sl w key s = { s with
      cls := { s.cls with
        flows := ((findPlace key (hideFlows sl (ofKey w.profile key) s.cls.flows)).getD
            (candidate 0 key, hideFlows sl (ofKey w.profile key) s.cls.flows, 0)).2.1 ++
          [{ word := { w with override := false }, key := key, visA := sl.1, visB := sl.2, hit := hit, bucket := bucket }]
        tableHigh := b }
      evc := e, out := o } := by
  obtain ⟨b, e, o, heq⟩ := noteFlows_eq (modCls (fun c => { c with
    flows := ((findPlace key (hideFlows sl (ofKey w.profile key) s.cls.flows)).getD
        (candidate 0 key, hideFlows sl (ofKey w.profile key) s.cls.flows, 0)).2.1 ++
      [{ word := { w with override := false }, key := key, visA := sl.1, visB := sl.2
         hit := s.cls.flows.any fun e => ofKey w.profile key e && e.hit
         bucket := ((findPlace key (hideFlows sl (ofKey w.profile key) s.cls.flows)).getD
          (candidate 0 key, hideFlows sl (ofKey w.profile key) s.cls.flows, 0)).1 }] }) s)
  exact ⟨_, b, e, o, _, heq⟩

/-- What a write of a flow entry does: the entry is found in the current generation, the others that are visible stay, each in some
bucket, and only the table, its flag and the events change. -/
def flowWritten (profile : Nat) (word : EntryWord) (key : List Byte) (s t : State) : Prop :=
  (∃ e, findFlow t.cls.curB profile key t = some e ∧ e.word = word ∧ e.key = key) ∧
  (∀ e ∈ s.cls.flows, e.word.profile ≠ profile ∨ e.key ≠ key → e.visA = true ∨ e.visB = true →
    ∃ x ∈ t.cls.flows, { x with bucket := e.bucket } = e) ∧
  t = { s with cls := { s.cls with flows := t.cls.flows, tableHigh := t.cls.tableHigh }, evc := t.evc, out := t.out }

theorem putFlow_written {sl : Bool × Bool} {w : EntryWord} {key : List Byte} {s : State} (hreach : reaches sl s.cls.curB) :
    flowWritten w.profile { w with override := false } key s (putFlow sl w key s) := by
  obtain ⟨hit, b, e, o, bucket, heq⟩ := putFlow_eq sl w key s
  obtain ⟨hto, hfrom⟩ := findPlace_same key (hideFlows sl (ofKey w.profile key) s.cls.flows) (candidate 0 key, 0)
  rw [heq]
  refine ⟨⟨{ word := { w with override := false }, key := key, visA := sl.1, visB := sl.2, hit := hit, bucket := bucket }, ?_,
    rfl, rfl⟩, fun e he hother hvis => ?_, rfl⟩
  · unfold findFlow
    dsimp only
    rw [List.find?_append, List.find?_eq_none.mpr ?_, Option.none_or, List.find?_cons_of_pos]
    · unfold reaches at hreach
      cases hcur : s.cls.curB <;> simp_all [FlowEntry.vis]
    · intro x hx hfound
      obtain ⟨e, he, hxe⟩ := hfrom x hx
      rw [Bool.and_assoc, Bool.and_eq_true] at hfound
      obtain ⟨hvis, hkey⟩ := hfound
      have hsame : ofKey w.profile key e = true := by rw [← hxe]; exact hkey
      have hhidden := hideFlows_hidden hreach he hsame
      rw [← hxe] at hhidden
      exact Bool.false_ne_true (hhidden.symm.trans hvis)
  · have hno : ofKey w.profile key e = false := by
      rw [← Bool.not_eq_true, ofKey_iff, not_and_or]
      exact hother
    obtain ⟨x, hx, hxe⟩ := hto e (mem_hideFlows he hno hvis)
    exact ⟨x, List.mem_append_left _ hx, hxe⟩

/-! ### The flow-table commands -/

section Flows
variable {h : Hdr} {s : State} {key : List Byte}

theorem flowInserted {w : EntryWord} (hr : runsNow h (.flowInsert w key) s) (hcheck : checkFlowInsert w key s = .ok) :
    completes (.flowInsert h w key) h 0x0601 s fun t =>
      (∃ e, findFlow t.cls.curB w.profile key t = some e ∧ e.word = { w with override := false } ∧ e.key = key) ∧
      (∀ e ∈ s.cls.flows, e.word.profile ≠ w.profile ∨ e.key ≠ key → e.visA = true ∨ e.visB = true →
        ∃ x ∈ t.cls.flows, { x with bucket := e.bucket } = e) ∧
      t = { takeUp h s with
        cls := { s.cls with flows := t.cls.flows, tableHigh := t.cls.tableHigh }, evc := t.evc, out := t.out } := by
  obtain ⟨x, hx⟩ := takeUp_cmd h s
  have hbody : doFlowInsert w key { s with cmd := x } =
      okData [((findPlace key s.cls.flows).map fun r => r.2.2).getD 0]
        (putFlow (directSlots (ofFlow w.profile key) { s with cmd := x }) w key { s with cmd := x }) := by
    unfold doFlowInsert
    rw [show checkFlowInsert w key { s with cmd := x } = checkFlowInsert w key s from rfl, hcheck]
  obtain ⟨hfound, hothers, hrest⟩ := putFlow_written (w := w) (key := key) (s := { s with cmd := x })
    (directSlots_reaches (ofFlow w.profile key) { s with cmd := x })
  exact completes_taken hx hr rfl rfl rfl hbody ⟨hfound, hothers, hrest.trans (by rw [hx])⟩

theorem flowModified {k : Nat} {w : EntryWord} (hr : runsNow h (.flowModify k key w) s) (hcheck : checkFlowModify k key w s = .ok) :
    completes (.flowModify h k key w) h 0x0602 s fun t =>
      (∃ e, findFlow t.cls.curB k key t = some e ∧ e.word = { w with profile := k, override := false } ∧ e.key = key) ∧
      (∀ e ∈ s.cls.flows, e.word.profile ≠ k ∨ e.key ≠ key → e.visA = true ∨ e.visB = true →
        ∃ x ∈ t.cls.flows, { x with bucket := e.bucket } = e) ∧
      t = { takeUp h s with
        cls := { s.cls with flows := t.cls.flows, tableHigh := t.cls.tableHigh }, evc := t.evc, out := t.out } := by
  obtain ⟨x, hx⟩ := takeUp_cmd h s
  have hbody : doFlowModify k key w { s with cmd := x } = okData []
      (putFlow (directSlots (ofFlow k key) { s with cmd := x }) { w with profile := k } key { s with cmd := x }) := by
    unfold doFlowModify tableBody
    rw [show checkFlowModify k key w { s with cmd := x } = checkFlowModify k key w s from rfl, hcheck]
    rfl
  obtain ⟨hfound, hothers, hrest⟩ := putFlow_written (w := { w with profile := k }) (key := key) (s := { s with cmd := x })
    (directSlots_reaches (ofFlow k key) { s with cmd := x })
  exact completes_taken hx hr rfl rfl rfl hbody ⟨hfound, hothers, hrest.trans (by rw [hx])⟩

theorem flowDeleted {k : Nat} (hr : runsNow h (.flowDelete k key) s) (hcheck : checkFlowKey k key s = .ok) :
    completes (.flowDelete h k key) h 0x0603 s fun t =>
      findFlow t.cls.curB k key t = none ∧
      (∀ e ∈ s.cls.flows, e.word.profile ≠ k ∨ e.key ≠ key → e.visA = true ∨ e.visB = true → e ∈ t.cls.flows) ∧
      t = { takeUp h s with
        cls := { s.cls with flows := t.cls.flows, tableHigh := t.cls.tableHigh }, evc := t.evc, out := t.out } := by
  obtain ⟨x, hx⟩ := takeUp_cmd h s
  have hbody : doFlowDelete k key { s with cmd := x } = okData []
      (dropFlow (directSlots (ofFlow k key) { s with cmd := x }) k key { s with cmd := x }) := by
    unfold doFlowDelete tableBody
    rw [show checkFlowKey k key { s with cmd := x } = checkFlowKey k key s from rfl, hcheck]
    rfl
  obtain ⟨b, e, o, heq⟩ := noteFlows_eq (modCls (fun c => { c with
    flows := hideFlows (directSlots (ofFlow k key) { s with cmd := x }) (ofKey k key) c.flows }) { s with cmd := x })
  refine completes_taken hx hr rfl rfl rfl (hbody.trans (congrArg (okData []) heq)) ⟨?_, fun e he hother hvis => ?_, by rw [hx]; rfl⟩
  · refine List.find?_eq_none.mpr fun e he hfound => ?_
    rw [Bool.and_assoc, Bool.and_eq_true] at hfound
    obtain ⟨hvis, hkey⟩ := hfound
    have hhidden := hideFlows_hidden (directSlots_reaches (ofFlow k key) { s with cmd := x }) he hkey
    exact Bool.false_ne_true (hhidden.symm.trans hvis)
  · refine mem_hideFlows he ?_ hvis
    rw [← Bool.not_eq_true, ofKey_iff, not_and_or]
    exact hother

/-- A body that begins with a check fails with what the check says. -/
theorem tableBody_fails {own : Cmd → Bool} {check : State → Status} {put : Bool × Bool → State → State} {u : State}
    (hcheck : check u ≠ .ok) : tableBody own check put u = fail (check u) u := by
  unfold tableBody
  split
  · contradiction
  · rfl

theorem insertFails {w : EntryWord} (hr : runsNow h (.flowInsert w key) s) (hcheck : checkFlowInsert w key s ≠ .ok) :
    failsWith (.flowInsert h w key) h 0x0601 (checkFlowInsert w key s) s := by
  obtain ⟨x, hx⟩ := takeUp_cmd h s
  have hbody : doFlowInsert w key { s with cmd := x } = fail (checkFlowInsert w key s) { s with cmd := x } := by
    unfold doFlowInsert
    rw [show checkFlowInsert w key { s with cmd := x } = checkFlowInsert w key s from rfl]
    split
    · contradiction
    · rfl
  exact failsWith_taken hx hr rfl rfl rfl hbody

theorem deleteFails {k : Nat} (hr : runsNow h (.flowDelete k key) s) (hcheck : checkFlowKey k key s ≠ .ok) :
    failsWith (.flowDelete h k key) h 0x0603 (checkFlowKey k key s) s := by
  obtain ⟨x, hx⟩ := takeUp_cmd h s
  have hbody : doFlowDelete k key { s with cmd := x } = fail (checkFlowKey k key s) { s with cmd := x } :=
    tableBody_fails hcheck
  exact failsWith_taken hx hr rfl rfl rfl hbody

theorem flowFound {k : Nat} {e : FlowEntry} (hr : runsNow h (.flowLookup k key) s) (hlen : key.length = 44) (hk : k ≤ 15)
    (hfind : findFlow s.cls.curB k key s = some e) :
    exec (.flowLookup h k key) s = .next (sendReply h 0x0604 { data := e.layout.map (·.toNat) } (takeUp h s)) := by
  obtain ⟨x, hx⟩ := takeUp_cmd h s
  have hbody : doFlowLookup k key { s with cmd := x } = okData (e.layout.map (·.toNat)) { s with cmd := x } := by
    unfold doFlowLookup
    rw [show findFlow s.cls.curB k key { s with cmd := x } = findFlow s.cls.curB k key s from rfl, hfind,
      show checkFlowKey k key { s with cmd := x } = .ok by
        simp [checkFlowKey, hlen, Nat.not_lt.mpr hk, show findFlow s.cls.curB k key { s with cmd := x } = some e from hfind]]
  exact congrArg Host.Outcome.next (command_runs hr (by rw [begun_plain rfl, hx]; exact hbody)) |>.trans (by rw [hx]; rfl)

theorem flowAbsent {k : Nat} (hr : runsNow h (.flowLookup k key) s) (hlen : key.length = 44) (hk : k ≤ 15)
    (hfind : findFlow s.cls.curB k key s = none) : failsWith (.flowLookup h k key) h 0x0604 .entryAbsent s := by
  obtain ⟨x, hx⟩ := takeUp_cmd h s
  have hbody : doFlowLookup k key { s with cmd := x } = fail .entryAbsent { s with cmd := x } := by
    unfold doFlowLookup
    rw [show checkFlowKey k key { s with cmd := x } = .entryAbsent by
        simp [checkFlowKey, hlen, Nat.not_lt.mpr hk, show findFlow s.cls.curB k key { s with cmd := x } = none from hfind]]
  exact failsWith_taken hx hr rfl rfl rfl hbody

/-- The entries of the buckets that a scan reads and that were hit. -/
def scanned (first count : Nat) (e : FlowEntry) : Bool := decide (first ≤ e.bucket ∧ e.bucket < first + count) && e.hit

theorem flowScanned {first count : Nat} (hr : runsNow h (.flowScan first count) s) (hmin : 1 ≤ count) (hmax : count ≤ 4096)
    (htable : first + count ≤ 1048576) : completes (.flowScan h first count) h 0x060C s fun t =>
      (∀ e ∈ t.cls.flows, first ≤ e.bucket → e.bucket < first + count → e.hit = false) ∧
      t.cls.flows.length = s.cls.flows.length ∧ t = { takeUp h s with cls := { s.cls with flows := t.cls.flows } } := by
  obtain ⟨x, hx⟩ := takeUp_cmd h s
  have hbody : ∃ d, doFlowScan first count { s with cmd := x } = okData d { s with
      cmd := x, cls := { s.cls with flows := s.cls.flows.map fun e => if scanned first count e then { e with hit := false } else e } } := by
    unfold doFlowScan
    rw [require_true (by simp [hmin, hmax, htable])]
    exact ⟨_, rfl⟩
  obtain ⟨d, hbody⟩ := hbody
  refine completes_taken hx hr rfl rfl rfl hbody ⟨fun e he hfirst hlast => ?_, by simp, by rw [hx]⟩
  obtain ⟨y, -, rfl⟩ := List.mem_map.mp he
  split at hfirst
  case isTrue hy => rw [if_pos hy]
  case isFalse hy =>
    rw [if_neg hy] at hlast ⊢
    simpa [scanned, hfirst, hlast] using hy

end Flows

/-! ### The other commands -/

section Others
variable {h : Hdr} {s : State}

/-- A table command whose check holds writes in the slots of a direct write. -/
theorem tableBody_writes {own : Cmd → Bool} {check : State → Status} {put : Bool × Bool → State → State} {u : State}
    (hcheck : check u = .ok) : tableBody own check put u = okData [] (put (directSlots own u) u) := by
  unfold tableBody
  rw [hcheck]
  rfl

/-- The set that a write puts under an index is the one of the current generation. -/
theorem put_at {sl : Bool × Bool} {curB : Bool} (hreach : reaches sl curB) (r : ActionRec) (acts : List Action) :
    (r.put sl curB acts).at curB = some acts := by
  obtain ⟨copy0, copy1, selA, selB, broken⟩ := r
  obtain ⟨slA, slB⟩ := sl
  unfold reaches at hreach
  cases curB
  · obtain rfl : slA = true := hreach
    cases slB <;> cases selA <;> cases selB <;> rfl
  · obtain rfl : slB = true := hreach
    cases slA <;> cases selA <;> cases selB <;> rfl

theorem actionsWritten {i : Nat} {acts : List Action} (hr : runsNow h (.flowActionWrite i acts) s) (hcheck : checkActions i acts s = .ok) :
    completes (.flowActionWrite h i acts) h 0x0605 s fun t =>
      (Tbl.get {} t.cls.actions i).at t.cls.curB = some acts ∧
      (∀ k, k ≠ i → Tbl.get {} t.cls.actions k = Tbl.get {} s.cls.actions k) ∧
      t = { takeUp h s with cls := { s.cls with actions := t.cls.actions } } := by
  obtain ⟨x, hx⟩ := takeUp_cmd h s
  have hbody : doFlowActionWrite i acts { s with cmd := x } =
      okData [] (putActions (directSlots ofNone { s with cmd := x }) i acts { s with cmd := x }) := tableBody_writes hcheck
  refine completes_taken hx hr rfl rfl rfl hbody ⟨?_, fun k hk => ?_, by rw [hx]; rfl⟩
  · unfold putActions modCls
    rw [Tbl.get_modify_self]
    exact put_at (directSlots_reaches ofNone { s with cmd := x }) _ _
  · unfold putActions modCls
    rw [Tbl.get_modify_ne _ _ _ hk]

theorem actionsFail {i : Nat} {acts : List Action} (hr : runsNow h (.flowActionWrite i acts) s) (hcheck : checkActions i acts s ≠ .ok) :
    failsWith (.flowActionWrite h i acts) h 0x0605 (checkActions i acts s) s := by
  obtain ⟨x, hx⟩ := takeUp_cmd h s
  have hbody : doFlowActionWrite i acts { s with cmd := x } = fail (checkActions i acts s) { s with cmd := x } :=
    tableBody_fails hcheck
  exact failsWith_taken hx hr rfl rfl rfl hbody

section HideTern
variable {sl : Bool × Bool} {i : Nat} {l : List TernEntry}

theorem mem_hideTern {e : TernEntry} (he : e ∈ l) (hi : e.index ≠ i) (hvis : e.visA = true ∨ e.visB = true) :
    e ∈ hideTern sl (fun e => e.index == i) l := by
  refine List.mem_filter.mpr ⟨List.mem_map.mpr ⟨e, he, ?_⟩, by simpa using hvis⟩
  rw [if_neg (by simpa using hi)]

theorem hideTern_hidden {curB : Bool} (hreach : reaches sl curB) {e : TernEntry} (he : e ∈ hideTern sl (fun e => e.index == i) l)
    (hi : e.index = i) : e.vis curB = false := by
  obtain ⟨hmap, -⟩ := List.mem_filter.mp he
  obtain ⟨x, -, hx⟩ := List.mem_map.mp hmap
  by_cases hxi : x.index = i
  · rw [if_pos (by simpa using hxi)] at hx
    subst hx
    unfold reaches at hreach
    cases curB
    · have h1 : sl.1 = true := by simpa using hreach
      simp [TernEntry.vis, h1]
    · have h2 : sl.2 = true := by simpa using hreach
      simp [TernEntry.vis, h2]
  · rw [if_neg (by simpa using hxi)] at hx
    subst hx
    exact absurd hi hxi

end HideTern

theorem ternaryWritten {i : Nat} {w : EntryWord} {v m : List Byte} (hr : runsNow h (.ternaryWrite i w v m) s)
    (hcheck : checkTernWrite i w v m s = .ok) : completes (.ternaryWrite h i w v m) h 0x0606 s fun t =>
      (∃ e ∈ t.cls.tern, e.index = i ∧ e.word = w ∧ e.value = v ∧ e.mask = m ∧ e.vis t.cls.curB = true) ∧
      (∀ e ∈ t.cls.tern, e.index = i → e.vis t.cls.curB = true → e.word = w ∧ e.value = v ∧ e.mask = m) ∧
      (∀ e ∈ s.cls.tern, e.index ≠ i → e.visA = true ∨ e.visB = true → e ∈ t.cls.tern) ∧
      t = { takeUp h s with cls := { s.cls with tern := t.cls.tern } } := by
  obtain ⟨x, hx⟩ := takeUp_cmd h s
  have hreach := directSlots_reaches (ofTern i) { s with cmd := x }
  have hbody : doTernaryWrite i w v m { s with cmd := x } =
      okData [] (putTern (directSlots (ofTern i) { s with cmd := x }) i w v m { s with cmd := x }) := tableBody_writes hcheck
  refine completes_taken hx hr rfl rfl rfl hbody
    ⟨⟨_, List.mem_append_right _ List.mem_cons_self, rfl, rfl, rfl, rfl, hreach⟩, fun e he hi hvis => ?_, fun e he hi hvis => ?_,
      by rw [hx]; rfl⟩
  · obtain he | he := List.mem_append.mp he
    · exact absurd (hideTern_hidden hreach he hi) (by rw [show e.vis s.cls.curB = true from hvis]; decide)
    · obtain rfl := List.mem_singleton.mp he
      exact ⟨rfl, rfl, rfl⟩
  · exact List.mem_append_left _ (mem_hideTern he hi hvis)

theorem ternaryDeleted {i : Nat} (hr : runsNow h (.ternaryDelete i) s) (hi : i ≤ 65535) :
    completes (.ternaryDelete h i) h 0x0607 s fun t =>
      (∀ e ∈ t.cls.tern, e.index = i → e.vis t.cls.curB = false) ∧
      (∀ e ∈ s.cls.tern, e.index ≠ i → e.visA = true ∨ e.visB = true → e ∈ t.cls.tern) ∧
      t = { takeUp h s with cls := { s.cls with tern := t.cls.tern } } := by
  obtain ⟨x, hx⟩ := takeUp_cmd h s
  have hreach := directSlots_reaches (ofTern i) { s with cmd := x }
  have hbody : doTernaryDelete i { s with cmd := x } =
      okData [] (dropTern (directSlots (ofTern i) { s with cmd := x }) i { s with cmd := x }) := tableBody_writes (if_pos hi)
  exact completes_taken hx hr rfl rfl rfl hbody
    ⟨fun e he hie => hideTern_hidden hreach he hie, fun e he hie hvis => mem_hideTern he hie hvis, by rw [hx]; rfl⟩

/-- A change of the tables in slots that reach the current generation is a change of its tables. -/
theorem tables_modTables {sl : Bool × Bool} {u : State} (hreach : reaches sl u.cls.curB) (f : GenTables → GenTables) :
    (modTables sl f u).cls.tables (modTables sl f u).cls.curB = f (u.cls.tables u.cls.curB) := by
  unfold reaches at hreach
  unfold modTables modCls Classifier.tables
  cases hcur : u.cls.curB
  · have h1 : sl.1 = true := by simpa [hcur] using hreach
    simp [h1]
  · have h2 : sl.2 = true := by simpa [hcur] using hreach
    simp [h2]

theorem nodeSet {n : Nat} {d : Option UserNode} (hr : runsNow h (.parseNodeSet n d) s) (hcheck : checkNode n d s = .ok) :
    completes (.parseNodeSet h n d) h 0x0608 s fun t =>
      Tbl.get none (t.cls.tables t.cls.curB).nodes n = d ∧
      (∀ k, k ≠ n → Tbl.get none (t.cls.tables t.cls.curB).nodes k = Tbl.get none (s.cls.tables s.cls.curB).nodes k) ∧
      t = { takeUp h s with cls := { s.cls with slotA := t.cls.slotA, slotB := t.cls.slotB } } := by
  obtain ⟨x, hx⟩ := takeUp_cmd h s
  have hbody : doParseNodeSet n d { s with cmd := x } =
      okData [] (putNode (directSlots ofNone { s with cmd := x }) n d { s with cmd := x }) := tableBody_writes hcheck
  refine completes_taken hx hr rfl rfl rfl hbody ⟨?_, fun k hk => ?_, by rw [hx]; rfl⟩
  · unfold putNode
    rw [tables_modTables (directSlots_reaches _ _)]
    exact Tbl.get_set_self (none : Option UserNode) _ _ _
  · unfold putNode
    rw [tables_modTables (directSlots_reaches _ _)]
    exact Tbl.get_set_ne (none : Option UserNode) _ _ hk

theorem profileSet {k : Nat} {ex te : List Selection} (hr : runsNow h (.classProfileSet k ex te) s) (hcheck : checkProfile k ex te = .ok) :
    completes (.classProfileSet h k ex te) h 0x0609 s fun t =>
      Tbl.get {} (t.cls.tables t.cls.curB).profiles k = { exact := ex, ternary := te } ∧
      (∀ j, j ≠ k → Tbl.get {} (t.cls.tables t.cls.curB).profiles j = Tbl.get {} (s.cls.tables s.cls.curB).profiles j) ∧
      t = { takeUp h s with cls := { s.cls with slotA := t.cls.slotA, slotB := t.cls.slotB } } := by
  obtain ⟨x, hx⟩ := takeUp_cmd h s
  have hbody : doClassProfileSet k ex te { s with cmd := x } =
      okData [] (putProfile (directSlots ofNone { s with cmd := x }) k ex te { s with cmd := x }) := tableBody_writes hcheck
  refine completes_taken hx hr rfl rfl rfl hbody ⟨?_, fun k hk => ?_, by rw [hx]; rfl⟩
  · unfold putProfile
    rw [tables_modTables (directSlots_reaches _ _)]
    exact Tbl.get_set_self ({} : KeyProfile) _ _ _
  · unfold putProfile
    rw [tables_modTables (directSlots_reaches _ _)]
    exact Tbl.get_set_ne ({} : KeyProfile) _ _ hk

theorem defaultSet {p a k : Nat} (hr : runsNow h (.classDefaultSet p a k) s) (hcheck : checkDefault p a k s = .ok) :
    completes (.classDefaultSet h p a k) h 0x060A s fun t =>
      Tbl.get {} (t.cls.tables t.cls.curB).defaults p = { set := some a, profile := k } ∧
      (∀ j, j ≠ p → Tbl.get {} (t.cls.tables t.cls.curB).defaults j = Tbl.get {} (s.cls.tables s.cls.curB).defaults j) ∧
      t = { takeUp h s with cls := { s.cls with slotA := t.cls.slotA, slotB := t.cls.slotB } } := by
  obtain ⟨x, hx⟩ := takeUp_cmd h s
  have hbody : doClassDefaultSet p a k { s with cmd := x } =
      okData [] (putDefault (directSlots ofNone { s with cmd := x }) p a k { s with cmd := x }) := tableBody_writes hcheck
  refine completes_taken hx hr rfl rfl rfl hbody ⟨?_, fun k hk => ?_, by rw [hx]; rfl⟩
  · unfold putDefault
    rw [tables_modTables (directSlots_reaches _ _)]
    dsimp only
    rw [Tbl.get_set_self]
  · unfold putDefault
    rw [tables_modTables (directSlots_reaches _ _)]
    dsimp only
    rw [Tbl.get_set_ne _ _ _ hk]

theorem defaultFails {p a k : Nat} (hr : runsNow h (.classDefaultSet p a k) s) (hcheck : checkDefault p a k s ≠ .ok) :
    failsWith (.classDefaultSet h p a k) h 0x060A (checkDefault p a k s) s := by
  obtain ⟨x, hx⟩ := takeUp_cmd h s
  have hbody : doClassDefaultSet p a k { s with cmd := x } = fail (checkDefault p a k s) { s with cmd := x } :=
    tableBody_fails hcheck
  exact failsWith_taken hx hr rfl rfl rfl hbody

end Others

/-- Settles O24: per command, what its write leaves in the tables of the current generation. -/
theorem classificationCommands : Obligations.ClassificationCommands :=
  ⟨fun _ _ _ => ⟨fun _ => flowInserted, fun _ => insertFails, fun _ _ => flowModified, fun _ => flowDeleted, fun _ => deleteFails,
      fun _ _ => flowFound, fun _ => flowAbsent, fun _ _ => flowScanned⟩,
    fun _ _ => ⟨fun _ _ => actionsWritten, fun _ _ => actionsFail, fun _ _ _ _ => ternaryWritten, fun _ => ternaryDeleted,
      fun _ _ => nodeSet, fun _ _ _ => profileSet, fun _ _ _ => defaultSet, fun _ _ _ => defaultFails⟩⟩

end Sys2Proof.Proofs.ClassificationCommands
end

section
/-!
Passes through the pipeline and generations (chapter 06): O25.
-/
namespace Sys2Proof.Proofs.Passes
open Sys2Proof Sys2Proof.Machine Sys2Proof.Proofs.Frames Sys2Proof.Proofs.Rules Sys2Proof.Proofs.LineTimeEvents
open Sys2Proof.Proofs.RegistrationCommands Sys2Proof.Proofs.ClassificationCommands

set_option Elab.async false

@[simp] theorem dropPkt_cls (a0 : Pkt) (s : State) : (dropPkt a0 s).cls = s.cls :=
  cls_of_rest (m := { clk := true, evc := true, pmc := true, out := true }) (by simp)
@[simp] theorem dropPkt_ports (a0 : Pkt) (s : State) : (dropPkt a0 s).ports = s.ports :=
  ports_of_rest (m := { clk := true, evc := true, pmc := true, out := true }) (by simp)
@[simp] theorem sendDma_cls (a0 : Nat) (a1 : Nat) (a2 : Pkt) (s : State) : (sendDma a0 a1 a2 s).cls = s.cls :=
  cls_of_rest (m := { evc := true, pmc := true, out := true }) (by simp)
@[simp] theorem sendDma_ports (a0 : Nat) (a1 : Nat) (a2 : Pkt) (s : State) : (sendDma a0 a1 a2 s).ports = s.ports :=
  ports_of_rest (m := { evc := true, pmc := true, out := true }) (by simp)
@[simp] theorem egressAdmit_cls (a0 : Nat) (a1 : Nat) (a2 : EgFrame) (s : State) : (egressAdmit a0 a1 a2 s).cls = s.cls :=
  cls_of_rest (m := { clk := true, ports := true, evc := true, pmc := true, out := true }) (by simp)
@[simp] theorem traceEntry_cls (a0 : Option Nat) (a1 : TraceEntry → TraceEntry) (s : State) : (traceEntry a0 a1 s).cls = s.cls :=
  cls_of_rest (m := { pmc := true }) (by simp)
@[simp] theorem traceEntry_ports (a0 : Option Nat) (a1 : TraceEntry → TraceEntry) (s : State) : (traceEntry a0 a1 s).ports = s.ports :=
  ports_of_rest (m := { pmc := true }) (by simp)
@[simp] theorem traceStageAt_cls (a0 : Option Nat) (a1 : Nat) (a2 : Instant) (s : State) : (traceStageAt a0 a1 a2 s).cls = s.cls :=
  cls_of_rest (m := { pmc := true }) (by simp)
@[simp] theorem traceStageAt_ports (a0 : Option Nat) (a1 : Nat) (a2 : Instant) (s : State) : (traceStageAt a0 a1 a2 s).ports = s.ports :=
  ports_of_rest (m := { pmc := true }) (by simp)
@[simp] theorem traceStage_ports (a0 : Option Nat) (a1 : Nat) (s : State) : (traceStage a0 a1 s).ports = s.ports :=
  ports_of_rest (m := { pmc := true }) (by simp)
@[simp] theorem traceEnd_cls (a0 : Option Nat) (a1 : TraceEntry → TraceEntry) (s : State) : (traceEnd a0 a1 s).cls = s.cls :=
  cls_of_rest (m := { evc := true, pmc := true, out := true }) (by simp)
@[simp] theorem traceEnd_ports (a0 : Option Nat) (a1 : TraceEntry → TraceEntry) (s : State) : (traceEnd a0 a1 s).ports = s.ports :=
  ports_of_rest (m := { evc := true, pmc := true, out := true }) (by simp)
@[simp] theorem pmcDrop_cls (a0 : Meta) (s : State) : (pmcDrop a0 s).cls = s.cls :=
  cls_of_rest (m := { clk := true, evc := true, pmc := true, out := true }) (by simp)
@[simp] theorem pmcDrop_ports (a0 : Meta) (s : State) : (pmcDrop a0 s).ports = s.ports :=
  ports_of_rest (m := { clk := true, evc := true, pmc := true, out := true }) (by simp)
@[simp] theorem pmcCount_cls (a0 : PmcEvent) (s : State) : (pmcCount a0 s).cls = s.cls :=
  cls_of_rest (m := { clk := true, evc := true, pmc := true, out := true }) (by simp)
@[simp] theorem pmcCount_ports (a0 : PmcEvent) (s : State) : (pmcCount a0 s).ports = s.ports :=
  ports_of_rest (m := { clk := true, evc := true, pmc := true, out := true }) (by simp)
@[simp] theorem traceTag_cls (a0 : Pkt) (s : State) : (traceTag a0 s).2.cls = s.cls :=
  cls_of_rest (m := { clk := true, evc := true, pmc := true, out := true }) (by simp)
@[simp] theorem traceTag_ports (a0 : Pkt) (s : State) : (traceTag a0 s).2.ports = s.ports :=
  ports_of_rest (m := { clk := true, evc := true, pmc := true, out := true }) (by simp)
@[simp] theorem fifoChanged_cls (a0 : Nat) (s : State) : (fifoChanged a0 s).cls = s.cls :=
  cls_of_rest (m := { ports := true, out := true }) (by simp)
@[simp] theorem lookup_ports (a0 : Pkt) (s : State) : (lookup a0 s).2.ports = s.ports :=
  ports_of_rest (m := { clk := true, cls := true, evc := true, pmc := true, out := true }) (by simp)

/-! ### The FIFOs of the ports -/

/-- No port's FIFO differs. -/
def sameFifos (s t : State) : Prop := ∀ n, (t.port n).fifo = (s.port n).fifo

section Fifos
variable {s t u : State}

theorem sameFifos_of (h : t.ports = s.ports) : sameFifos s t := fun n => by
  unfold State.port
  rw [h]

theorem sameFifos.trans (h : sameFifos s t) (h' : sameFifos t u) : sameFifos s u := fun n => (h' n).trans (h n)

theorem sameFifos.modPort (h : sameFifos s t) (p : Nat) {f : Port → Port} (hf : ∀ v, (f v).fifo = v.fifo := by exact fun _ => rfl) :
    sameFifos s (modPort p f t) := fun n => by
  by_cases hn : n = p
  · subst hn
    rw [modPort_self, hf, h]
  · rw [modPort_ne _ _ _ _ hn, h]

theorem sameFifos.modStats (h : sameFifos s t) (p : Nat) (f : PortStats → PortStats) : sameFifos s (modStats p f t) :=
  h.modPort p

theorem sameFifos.out (h : sameFifos s t) (hports : u.ports = t.ports) : sameFifos s u := h.trans (sameFifos_of hports)

theorem sameFifos.emit (h : sameFifos s t) (o : Output) : sameFifos s (emit o t) := h

theorem sameFifos.raise (h : sameFifos s t) (k : Nat) : sameFifos s (raise k t) := h.out (raise_ports ..)

theorem sameFifos.raiseOnce (h : sameFifos s t) (k : Nat) : sameFifos s (raiseOnce k t) := h.out (raiseOnce_ports ..)

theorem sameFifos.notePower (h : sameFifos s t) (u : State) : sameFifos s (notePower u t) := h.out (notePower_ports ..)

theorem sameFifos.dropEg (h : sameFifos s t) (f : EgFrame) : sameFifos s (dropEg f t) := h.out (dropPkt_ports ..)

theorem sameFifos.pmcDrop (h : sameFifos s t) (m : Meta) : sameFifos s (pmcDrop m t) := h.out (pmcDrop_ports ..)

theorem sameFifos.traceEnd (h : sameFifos s t) (k : Option Nat) (f : TraceEntry → TraceEntry) : sameFifos s (traceEnd k f t) :=
  h.out (traceEnd_ports ..)

theorem sameFifos.traceStage (h : sameFifos s t) (k : Option Nat) (n : Nat) : sameFifos s (traceStage k n t) :=
  h.out (traceStage_ports ..)

theorem sameFifos.leaveLpi (h : sameFifos s t) (p : Nat) : sameFifos s (leaveLpi p t) := by
  unfold Machine.leaveLpi
  dsimp only
  split
  · exact h
  · exact .modStats (.modPort h p) p _

theorem sameFifos.sendOwn (h : sameFifos s t) (p len : Nat) (out : Instant → Output) : sameFifos s (sendOwn p len out t) := by
  unfold Machine.sendOwn
  exact .emit (.modPort (.leaveLpi h p) p) _

theorem sameFifos.sendPause (h : sameFifos s t) (p k : Nat) (time : BitVec 16) : sameFifos s (sendPause p k time t) := by
  unfold Machine.sendPause
  split
  · exact h
  · exact .sendOwn (.modStats h p _) p 64 _

theorem sameFifos_fifoChanged (p : Nat) (s : State) : sameFifos s (fifoChanged p s) := by
  have haccount (k : Nat) (s : State) : sameFifos s (checkAccount p k s) := by
    unfold checkAccount
    dsimp only
    split
    · split
      · exact .sendPause (.modPort (sameFifos_of rfl) p) p k _
      · exact sameFifos_of rfl
    · split
      · exact .sendPause (.modPort (sameFifos_of rfl) p) p k _
      · exact sameFifos_of rfl
    · exact sameFifos_of rfl
  exact fun n => forEach_keeps (F := fun s => (s.port n).fifo) _ s fun k s => haccount k s n

theorem sameFifos.headCheck (h : sameFifos s t) (p q fuel : Nat) : sameFifos s (headCheck p q fuel t) := by
  induction fuel generalizing t with
  | zero => exact h
  | succ fuel ih =>
    unfold Machine.headCheck
    split
    · exact h
    · dsimp only
      split
      · exact ih (.traceEnd (.pmcDrop (.modStats (.modPort h p) p _) _) _ _)
      · split
        · exact ih (.raise (.dropEg (.modStats (.modPort h p) p _) _) _)
        · exact h

theorem sameFifos.egressDrop (h : sameFifos s t) (p : Nat) (f : EgFrame) (g : PortStats → PortStats) :
    sameFifos s (egressDrop p f g t) :=
  .raiseOnce (.dropEg (h.modStats p g) f) _

theorem sameFifos_offered (p : Nat) (s : State) : sameFifos s (offered p s) := by
  unfold offered wakePort
  split
  · split
    · exact .notePower (.raise (.modPort (sameFifos_of rfl) p) _) _
    · exact sameFifos_of rfl
  · exact sameFifos_of rfl

theorem sameFifos_egressAdmit (p q : Nat) (f : EgFrame) (s : State) : sameFifos s (egressAdmit p q f s) := by
  have hoffered := sameFifos_offered p s
  unfold egressAdmit
  dsimp only
  split
  · exact .dropEg (hoffered.modStats p _) _
  · split
    · exact hoffered.egressDrop _ _ _
    · split
      · exact hoffered.egressDrop _ _ _
      · split
        · exact hoffered.egressDrop _ _ _
        · refine .headCheck ?_ p q 1
          split
          · exact .traceStage (.modPort hoffered p) _ _
          · exact .modPort hoffered p

end Fifos

/-! ### What a pass keeps -/

/-- The queues that a packet's actions leave as they are: the FIFOs, the line's packets and the misses, with the counts of the passes;
a recirculation joins the end of its queue. -/
structure Carried (s t : State) : Prop where
  line : t.cls.line = s.cls.line
  missUp : t.cls.missUp = s.cls.missUp
  missDown : t.cls.missDown = s.cls.missDown
  passes : t.cls.passes = s.cls.passes
  recUp : s.cls.recUp <+: t.cls.recUp
  recDown : s.cls.recDown <+: t.cls.recDown
  fifos : sameFifos s t

section Carry
variable {s t u : State}

theorem Carried.trans (h : Carried s t) (h' : Carried t u) : Carried s u where
  line := h'.line.trans h.line
  missUp := h'.missUp.trans h.missUp
  missDown := h'.missDown.trans h.missDown
  passes := h'.passes.trans h.passes
  recUp := h.recUp.trans h'.recUp
  recDown := h.recDown.trans h'.recDown
  fifos := h.fifos.trans h'.fifos

theorem carried_of (hcls : t.cls = s.cls) (hfifos : sameFifos s t) : Carried s t where
  line := by rw [hcls]
  missUp := by rw [hcls]
  missDown := by rw [hcls]
  passes := by rw [hcls]
  recUp := by rw [hcls]
  recDown := by rw [hcls]
  fifos := hfifos

theorem carried_rfl : Carried s s := carried_of rfl fun _ => rfl

/-- A step that leaves the classifier and the ports. -/
theorem Carried.out (h : Carried s t) (hcls : u.cls = t.cls) (hports : u.ports = t.ports) : Carried s u :=
  h.trans (carried_of hcls (sameFifos_of hports))

/-- A change of the classifier outside those queues. -/
theorem Carried.modCls (h : Carried s t) {f : Classifier → Classifier} (hline : (f t.cls).line = t.cls.line := by rfl)
    (hup : (f t.cls).missUp = t.cls.missUp := by rfl) (hdown : (f t.cls).missDown = t.cls.missDown := by rfl)
    (hpasses : (f t.cls).passes = t.cls.passes := by rfl) (hrecUp : (f t.cls).recUp = t.cls.recUp := by rfl)
    (hrecDown : (f t.cls).recDown = t.cls.recDown := by rfl) : Carried s (modCls f t) :=
  h.trans ⟨hline, hup, hdown, hpasses, hrecUp ▸ List.prefix_rfl, hrecDown ▸ List.prefix_rfl, fun _ => rfl⟩

theorem Carried.settle (h : Carried s t) (a : Act) : Carried s (settle a t) := h.modCls

theorem Carried.dropPkt (h : Carried s t) (p : Pkt) : Carried s (dropPkt p t) := h.out (dropPkt_cls ..) (dropPkt_ports ..)

theorem Carried.raiseOnce (h : Carried s t) (k : Nat) : Carried s (raiseOnce k t) := h.out (raiseOnce_cls ..) (raiseOnce_ports ..)

theorem Carried.pmcCount (h : Carried s t) (e : PmcEvent) : Carried s (pmcCount e t) := h.out (pmcCount_cls ..) (pmcCount_ports ..)

theorem Carried.egressAdmit (h : Carried s t) (p q : Nat) (f : EgFrame) : Carried s (egressAdmit p q f t) :=
  h.trans (carried_of (egressAdmit_cls ..) (sameFifos_egressAdmit _ _ _ _))

theorem Carried.recirculate (h : Carried s t) (k : Nat) (p : Pkt) : Carried s (recirculate k p t) := by
  unfold Machine.recirculate
  split
  · exact .raiseOnce (.dropPkt (h.modCls) p) _
  · have hentry : Carried s (traceEntry p.trace (fun e => { e with passes := e.passes + 1 }) t) :=
      h.out (traceEntry_cls ..) (traceEntry_ports ..)
    dsimp only
    split
    · exact hentry.trans ⟨rfl, rfl, rfl, rfl, List.prefix_rfl, List.prefix_append _ _, fun _ => rfl⟩
    · exact hentry.trans ⟨rfl, rfl, rfl, rfl, List.prefix_append _ _, List.prefix_rfl, fun _ => rfl⟩

theorem Carried.traceEnd (h : Carried s t) (k : Option Nat) (f : TraceEntry → TraceEntry) : Carried s (traceEnd k f t) :=
  h.out (traceEnd_cls ..) (traceEnd_ports ..)

theorem Carried.pmcDrop (h : Carried s t) (m : Meta) : Carried s (pmcDrop m t) := h.out (pmcDrop_cls ..) (pmcDrop_ports ..)

theorem Carried.traceEntry (h : Carried s t) (k : Option Nat) (f : TraceEntry → TraceEntry) : Carried s (traceEntry k f t) :=
  h.out (traceEntry_cls ..) (traceEntry_ports ..)

theorem Carried.traceStageAt (h : Carried s t) (k : Option Nat) (n : Nat) (i : Instant) : Carried s (traceStageAt k n i t) :=
  h.out (traceStageAt_cls ..) (traceStageAt_ports ..)

theorem Carried.authDrop (h : Carried s t) (p : Pkt) : Carried s (authDrop p t) :=
  .traceEnd (.pmcDrop h.modCls _) _ _

theorem carried_terminal (x : Action) (a : Act) (s : State) : Carried s (terminal x a s) := by
  unfold terminal
  dsimp only
  generalize hstamped : (traceEntry a.pkt.trace _ _ : State) = t
  have ht : Carried s t := by
    rw [← hstamped]
    refine .traceEntry ?_ _ _
    split
    · exact carried_rfl.settle a
    · exact .traceStageAt (carried_rfl.settle a) _ _ _
  split
  · exact ht.authDrop _
  · split
    · split
      · exact ht.dropPkt _
      · exact ht.modCls
    · exact ht.egressAdmit ..
    · split
      · exact ht.modCls
      · exact ht.out (sendDma_cls ..) (sendDma_ports ..)
    · exact ht.recirculate _ _
    · exact .dropPkt (ht.modCls) _
    · exact ht.dropPkt _

theorem carried_mirrorCopy (n : Nat) (p : Pkt) (s : State) : Carried s (mirrorCopy n p s) := by
  unfold mirrorCopy
  dsimp only
  split
  · split
    · exact carried_rfl.modCls
    · exact carried_rfl.out (sendDma_cls ..) (sendDma_ports ..)
  · exact carried_rfl.egressAdmit ..

theorem carried_dispatch (k : Nat) (rest : List Action) (a : Act) (s : State) : Carried s (dispatch k rest a s) := by
  have hjoined (e : Engines) : Carried s { settle a s with eng := e } := (carried_rfl.settle a).out rfl rfl
  have hdisabled (p : Pkt) (e : Engines) : Carried s (dropPkt p { settle a s with eng := e }) := (hjoined e).dropPkt p
  unfold dispatch
  dsimp only
  cases (Tbl.get none s.eng.progs k : Option Prog) with
  | none => exact hdisabled _ _
  | some g =>
    dsimp only
    split
    · exact hdisabled _ _
    · by_cases hfull : 4096 ≤ (if a.md.down then (settle a s).eng.dispDown else (settle a s).eng.dispUp).length
      · rw [if_pos hfull]
        exact (hdisabled _ _).raiseOnce _
      · rw [if_neg hfull]
        split
        · exact hjoined _
        · exact hjoined _

theorem carried_police (i : Nat) (m : Meta) (s : State) : Carried s (police i m s).2 := by
  unfold police
  split
  · exact carried_rfl
  · exact carried_rfl.out rfl rfl

/-- A packet dropped in its pass; the counter named with it is none of those queues. -/
theorem Carried.dropAct (h : Carried s t) (a : Act) {f : Classifier → Classifier}
    (hf : ∀ {u : State}, Carried s u → Carried s (Machine.modCls f u) := by exact fun h => h.modCls) : Carried s (dropAct a f t) := .dropPkt (hf (h.settle a)) _

theorem carried_runOne (x : Action) (rest : List Action) (a : Act) (s : State) : Carried s (runOne x rest a s).2 := by
  cases x with
  | setClass c k => exact carried_rfl
  | police i =>
    unfold runOne residueFails
    dsimp only
    by_cases hresidue : s.cls.residueNext = true
    · rw [if_pos hresidue]
      dsimp only
      exact .dropAct carried_rfl.modCls _
    · rw [if_neg hresidue]
      dsimp only
      split
      · exact .dropAct (carried_police i a.md s) _
      · exact carried_police i a.md s
  | rewrite e off v m => exact carried_rfl
  | pushVlan t i => exact carried_rfl
  | popVlan => exact carried_rfl
  | pushMpls l tc ttl t => exact carried_rfl
  | popMpls n => exact carried_rfl
  | decTtl =>
    unfold runOne
    dsimp only
    split
    · exact carried_rfl
    · split
      · exact .dropAct carried_rfl _
      · exact carried_rfl
  | setMeta f v => exact carried_rfl
  | count i => exact (carried_rfl.modCls : Carried s (countPkt i a.md s))
  | mirror n => exact carried_mirrorCopy _ _ _
  | runProgram k => exact carried_dispatch _ _ _ _
  | forwardAssoc i => exact carried_terminal (.forwardAssoc i) a s
  | forwardPort p q => exact carried_terminal (.forwardPort p q) a s
  | toHost q r => exact carried_terminal (.toHost q r) a s
  | recirculate k => exact carried_terminal (.recirculate k) a s
  | drop r => exact carried_terminal (.drop r) a s

theorem carried_runList (l : List Action) (a : Act) (s : State) : Carried s (runList l a s) := by
  induction l generalizing a s with
  | nil => exact .dropPkt (carried_rfl.settle a) _
  | cons x rest ih =>
    have hone := carried_runOne x rest a s
    unfold runList
    split
    case h_1 b u heq =>
      rw [heq] at hone
      exact hone.trans (ih b u)
    case h_2 u heq =>
      rw [heq] at hone
      exact hone

/-- A pass is counted by its reason. -/
def counted (r : Nat) (s : State) : State := modCls (fun c => { c with passes := Tbl.modify 0 c.passes r (· + 1) }) s

/-- After its count a packet's actions carry. -/
theorem carried_runFound (f : Found) (p : Pkt) (s : State) : Carried (counted f.reason s) (runFound f p s) := by
  have hcounted : Carried (counted f.reason s) (counted f.reason s) := carried_rfl
  unfold runFound
  dsimp only
  split
  · exact .dropPkt (hcounted.modCls) _
  · split
    · exact carried_terminal _ _ _
    · exact carried_runList _ _ _

theorem Carried.hitFlow (h : Carried s t) (e : FlowEntry) : Carried s (hitFlow e t) := by
  unfold Machine.hitFlow
  exact h.modCls

theorem Carried.hitTern (h : Carried s t) (e : TernEntry) : Carried s (hitTern e t) := by
  unfold Machine.hitTern
  exact h.modCls

theorem carried_lookup (p : Pkt) (s : State) : Carried s (lookup p s).2 := by
  have ht : Carried s (if (ternHit p.md.slotB p.md.profile (ternKey p.md.profile p s) s).isSome then
      pmcCount { code := 0x15, master := some (pipeMaster p.md.down), cls := some p.md.cls } s else s) := by
    split
    · exact carried_rfl.pmcCount _
    · exact carried_rfl
  have hexact (e : FlowEntry) (f g : Found) (t : State) (h : Carried s t) :
      Carried s (if e.broken = true then (f, t) else (g, hitFlow e t)).2 := by
    split
    · exact h
    · exact h.hitFlow e
  unfold lookup
  dsimp only
  split
  · split
    · exact ht.hitTern _
    · exact hexact _ _ _ _ ht
  · exact ht.hitTern _
  · exact hexact _ _ _ _ ht
  · exact ht

end Carry

/-! ### A pass (R121, R122, R127, R131) -/

/-- The queues that a whole pass leaves as they are. -/
structure Waits (s t : State) : Prop where
  line : t.cls.line = s.cls.line
  recUp : s.cls.recUp <+: t.cls.recUp
  recDown : s.cls.recDown <+: t.cls.recDown
  fifos : sameFifos s t

section Pass
variable {s t u : State}

theorem Carried.waits (h : Carried s t) : Waits s t := ⟨h.line, h.recUp, h.recDown, h.fifos⟩

theorem Waits.carry (h : Waits s t) (h' : Carried t u) : Waits s u :=
  ⟨h'.line.trans h.line, h.recUp.trans h'.recUp, h.recDown.trans h'.recDown, h.fifos.trans h'.fifos⟩

/-- A packet as its pass has parsed it. -/
def parsed (p : Pkt) (s : State) : Pkt :=
  { p with md := { p.md with
    reason := (parse (s.cls.tables p.md.slotB).nodes p.bytes).reason, stack := (parse (s.cls.tables p.md.slotB).nodes p.bytes).stack
    len := frameLen p.bytes, lookAt := switchTime s } }

/-- The counts at the start of a pass. -/
def begunPass (p : Pkt) (s : State) : State :=
  if 0 < p.md.pass then pmcCount { code := 0x11, master := some (pipeMaster p.md.down), cls := some p.md.cls }
    (pmcCount { code := 0x10, master := some (pipeMaster p.md.down), cls := some p.md.cls } s)
  else pmcCount { code := 0x10, master := some (pipeMaster p.md.down), cls := some p.md.cls } s

/-- What a parsed packet finds, and what its lookup leaves. -/
def findings (p : Pkt) (s : State) : Found × State :=
  if p.md.reason = 2 then (foundDefault 2 p s, raiseOnce 0xA0 s)
  else if p.md.reason = 3 then (foundDefault 3 p s, raiseOnce 0xA1 s)
  else lookup p s

/-- The key by which a parsed packet waits for a miss. -/
def waitKey (p : Pkt) (s : State) : Option (List Byte) := if p.md.reason = 0 then some (exactKey p.md.profile p s) else none

theorem runPass_eq (miss : Bool) (p : Pkt) (s : State) : runPass miss p s =
    let q := parsed p (begunPass p s)
    let key := waitKey q (begunPass p s)
    let r := findings q (begunPass p s)
    let ev := fun (c : Nat) => ({ code := c, master := some (pipeMaster p.md.down), cls := some p.md.cls } : PmcEvent)
    if miss || waitsBefore q key r.2 then
      if 8192 ≤ ((pmcCount (ev 0x14) r.2).misses p.md.down).length then
        raiseOnce 0xA2 (dropPkt q (modCls (fun c => { c with nMiss := c.nMiss + 1 }) (pmcCount (ev 0x14) r.2)))
      else setMisses p.md.down ((pmcCount (ev 0x14) r.2).misses p.md.down ++ [{ pkt := q, key := key, found := r.1 }]) (pmcCount (ev 0x14) r.2)
    else runFound r.1 q (pmcCount (ev 0x13) r.2) := rfl

theorem Carried.begunPass (h : Carried s t) (p : Pkt) : Carried s (begunPass p t) := by
  unfold Passes.begunPass
  split
  · exact .pmcCount (h.pmcCount _) _
  · exact h.pmcCount _

theorem Carried.findings (h : Carried s t) (p : Pkt) : Carried s (findings p t).2 := by
  unfold Passes.findings
  split
  · exact h.raiseOnce _
  · split
    · exact h.raiseOnce _
    · exact h.trans (carried_lookup p t)

theorem waits_setMisses (h : Carried s t) (down : Bool) (l : List Miss) : Waits s (setMisses down l t) := by
  unfold setMisses
  cases down
  · exact ⟨h.line, h.recUp, h.recDown, h.fifos⟩
  · exact ⟨h.line, h.recUp, h.recDown, h.fifos⟩

theorem waits_runPass (miss : Bool) (p : Pkt) (s : State) : Waits s (runPass miss p s) := by
  have hfound : Carried s (findings (parsed p (begunPass p s)) (begunPass p s)).2 := .findings (carried_rfl.begunPass p) _
  rw [runPass_eq]
  dsimp only
  split
  · split
    · exact (Carried.raiseOnce (.dropPkt (.modCls (hfound.pmcCount _)) _) _).waits
    · exact waits_setMisses (hfound.pmcCount _) _ _
  · have hcount := (hfound.pmcCount { code := 0x13, master := some (pipeMaster p.md.down), cls := some p.md.cls }).waits
    have hrun := carried_runFound (findings (parsed p (begunPass p s)) (begunPass p s)).1 (parsed p (begunPass p s))
      (pmcCount { code := 0x13, master := some (pipeMaster p.md.down), cls := some p.md.cls }
        (findings (parsed p (begunPass p s)) (begunPass p s)).2)
    have hcounted : Waits s (counted (findings (parsed p (begunPass p s)) (begunPass p s)).1.reason
        (pmcCount { code := 0x13, master := some (pipeMaster p.md.down), cls := some p.md.cls }
          (findings (parsed p (begunPass p s)) (begunPass p s)).2)) := ⟨hcount.line, hcount.recUp, hcount.recDown, hcount.fifos⟩
    exact hcounted.carry hrun

/-- A first packet as its pass takes it: pinned to the current generation, with its port's profile. -/
def pinned (p : Pkt) (s : State) : Pkt :=
  { p with md := { p.md with
    pass := 0, profile := (Tbl.get {} (s.cls.tables s.cls.curB).defaults p.md.port : PortDefault).profile
    gen := s.cls.gen, slotB := s.cls.curB, len := frameLen p.bytes } }

theorem firstPass_eq (miss : Bool) (p : Pkt) (s : State) :
    firstPass miss p s = runPass miss (traceTag (pinned p s) s).1 (traceTag (pinned p s) s).2 := rfl

/-- Tagging touches a packet's trace alone. -/
theorem traceTag_pkt (p : Pkt) (s : State) : (traceTag p s).1.md = p.md ∧ (traceTag p s).1.bytes = p.bytes := by
  unfold traceTag
  dsimp only
  split
  · exact ⟨rfl, rfl⟩
  · split
    · exact ⟨rfl, rfl⟩
    · exact ⟨rfl, rfl⟩

theorem carried_traceTag (p : Pkt) (s : State) : Carried s (traceTag p s).2 := carried_rfl.out (traceTag_cls ..) (traceTag_ports ..)

theorem waits_firstPass (miss : Bool) (p : Pkt) (s : State) : Waits s (firstPass miss p s) := by
  rw [firstPass_eq]
  have htag := carried_traceTag (pinned p s) s
  have hpass := waits_runPass miss (traceTag (pinned p s) s).1 (traceTag (pinned p s) s).2
  exact ⟨hpass.line.trans htag.line, htag.recUp.trans hpass.recUp, htag.recDown.trans hpass.recDown, htag.fifos.trans hpass.fifos⟩

/-- A parse that fails is counted with its reason, and the packet goes on at once unless its lookup misses (R127). -/
theorem runPass_failed {p : Pkt} {r : Nat} (hr : r = 2 ∨ r = 3)
    (hparse : (parse (s.cls.tables p.md.slotB).nodes p.bytes).reason = r) :
    Tbl.get 0 (runPass false p s).cls.passes r = Tbl.get 0 s.cls.passes r + 1 := by
  have hbegun : (begunPass p s).cls = s.cls := by
    unfold begunPass
    split
    · rw [pmcCount_cls, pmcCount_cls]
    · rw [pmcCount_cls]
  have hreason : (parsed p (begunPass p s)).md.reason = r := by
    unfold parsed
    dsimp only
    rw [hbegun]
    exact hparse
  have hfindings : (findings (parsed p (begunPass p s)) (begunPass p s)).1.reason = r ∧
      (findings (parsed p (begunPass p s)) (begunPass p s)).2.cls = s.cls := by
    have hdefault (q : Pkt) (u : State) : (foundDefault r q u).reason = r := by
      unfold foundDefault
      split <;> rfl
    unfold findings
    rw [hreason]
    cases hr with
    | inl h => subst h; exact ⟨hdefault _ _, by rw [if_pos rfl, raiseOnce_cls, hbegun]⟩
    | inr h => subst h; exact ⟨hdefault _ _, by rw [if_neg (by decide), if_pos rfl, raiseOnce_cls, hbegun]⟩
  have hkey : waitKey (parsed p (begunPass p s)) (begunPass p s) = none := by
    unfold waitKey
    rw [hreason]
    exact if_neg (by omega)
  rw [runPass_eq]
  dsimp only
  rw [hkey, if_neg (by simp [waitsBefore]), (carried_runFound _ _ _).passes, counted, hfindings.1]
  unfold modCls
  dsimp only
  rw [Tbl.get_modify_self, pmcCount_cls, hfindings.2]

/-- A packet that misses joins the misses of its direction. -/
theorem runPass_missed {p : Pkt} (hroom : (s.misses p.md.down).length < 8192) : ∃ x u, Carried s u ∧ u.ports = s.ports ∧
    runPass true p s = setMisses p.md.down (s.misses p.md.down ++ [x]) u := by
  have hfound : Carried s (findings (parsed p (begunPass p s)) (begunPass p s)).2 := .findings (carried_rfl.begunPass p) _
  have hports : (findings (parsed p (begunPass p s)) (begunPass p s)).2.ports = s.ports := by
    have hbegun : (begunPass p s).ports = s.ports := by
      unfold begunPass
      split
      · rw [pmcCount_ports, pmcCount_ports]
      · rw [pmcCount_ports]
    unfold findings
    split
    · rw [raiseOnce_ports, hbegun]
    · split
      · rw [raiseOnce_ports, hbegun]
      · rw [lookup_ports, hbegun]
  have hmisses (e : PmcEvent) :
      (pmcCount e (findings (parsed p (begunPass p s)) (begunPass p s)).2).misses p.md.down = s.misses p.md.down := by
    unfold State.misses
    rw [(hfound.pmcCount e).missDown, (hfound.pmcCount e).missUp]
  rw [runPass_eq]
  dsimp only
  rw [Bool.true_or, if_pos rfl, hmisses, if_neg (Nat.not_le.mpr hroom)]
  exact ⟨_, _, hfound.pmcCount _, (pmcCount_ports ..).trans hports, rfl⟩

/-! ### The clauses on passes -/

variable {miss : Bool} {n : Nat} {p : Pkt} {l : List Pkt}

theorem portPass (hfifo : (s.port n).fifo = p :: l) (hrec : s.cls.recUp = []) : nextWith (.pipelinePass (.port n) miss) s fun t =>
    (t.port n).fifo = l ∧ t.cls.line = s.cls.line ∧
    t = { s with
      clk := t.clk, cls := t.cls, q := t.q, ports := t.ports, eng := t.eng, evc := t.evc, pmc := t.pmc, out := t.out } := by
  have hexec : exec (.pipelinePass (.port n) miss) s =
      .next (firstPass miss p (fifoChanged n (modPort n (fun v => { v with fifo := l }) s))) := by
    change execPipelinePass (.port n) miss s = _
    simp [execPipelinePass, hfifo, hrec]
  have hpass := waits_firstPass miss p (fifoChanged n (modPort n (fun v => { v with fifo := l }) s))
  refine nextWith_of hexec ⟨?_, ?_, ?_⟩
  · rw [hpass.fifos, sameFifos_fifoChanged, modPort_self]
  · rw [hpass.line, fifoChanged_cls]
    rfl
  · exact eq_merged (m := { clk := true, cls := true, q := true, ports := true, eng := true, evc := true, pmc := true, out := true })
      (by simp)

theorem portPassWaits (hrec : s.cls.recUp ≠ []) : exec (.pipelinePass (.port n) miss) s = .next s := by
  change execPipelinePass (.port n) miss s = _
  unfold execPipelinePass
  dsimp only
  split
  · rfl
  · rw [if_pos (by simpa using hrec)]

theorem exec_linePass (hline : s.cls.line = p :: l) (hrec : s.cls.recDown = []) : exec (.pipelinePass .line miss) s =
    .next (firstPass miss p (modCls (fun c => { c with line := l }) s)) := by
  change execPipelinePass .line miss s = _
  simp [execPipelinePass, hline, hrec]

theorem linePass (hline : s.cls.line = p :: l) (hrec : s.cls.recDown = []) : nextWith (.pipelinePass .line miss) s fun t =>
    t.cls.line = l ∧ (∀ n, (t.port n).fifo = (s.port n).fifo) ∧
    t = { s with
      clk := t.clk, cls := t.cls, q := t.q, ports := t.ports, eng := t.eng, evc := t.evc, pmc := t.pmc, out := t.out } := by
  have hpass := waits_firstPass miss p (modCls (fun c => { c with line := l }) s)
  exact nextWith_of (exec_linePass hline hrec) ⟨hpass.line, hpass.fifos,
    eq_merged (m := { clk := true, cls := true, q := true, ports := true, eng := true, evc := true, pmc := true, out := true })
      (by simp)⟩

theorem linePassWaits (hrec : s.cls.recDown ≠ []) : exec (.pipelinePass .line miss) s = .next s := by
  change execPipelinePass .line miss s = _
  unfold execPipelinePass
  dsimp only
  split
  · rfl
  · rw [if_pos (by simpa using hrec)]

theorem recircUpPass (hrec : s.cls.recUp = p :: l) : nextWith (.pipelinePass (.recirc false) miss) s fun t =>
    (∃ x, t.cls.recUp = l ++ x) ∧ t.cls.line = s.cls.line ∧ (∀ n, (t.port n).fifo = (s.port n).fifo) := by
  have hexec : exec (.pipelinePass (.recirc false) miss) s = .next (runPass miss p (modCls (fun c => { c with recUp := l }) s)) := by
    change execPipelinePass (.recirc false) miss s = _
    simp [execPipelinePass, hrec]
  have hpass := waits_runPass miss p (modCls (fun c => { c with recUp := l }) s)
  obtain ⟨x, hx⟩ := hpass.recUp
  exact nextWith_of hexec ⟨⟨x, hx.symm⟩, hpass.line, hpass.fifos⟩

theorem recircDownPass (hrec : s.cls.recDown = p :: l) : nextWith (.pipelinePass (.recirc true) miss) s fun t =>
    (∃ x, t.cls.recDown = l ++ x) ∧ t.cls.line = s.cls.line ∧ (∀ n, (t.port n).fifo = (s.port n).fifo) := by
  have hexec : exec (.pipelinePass (.recirc true) miss) s = .next (runPass miss p (modCls (fun c => { c with recDown := l }) s)) := by
    change execPipelinePass (.recirc true) miss s = _
    simp [execPipelinePass, hrec]
  have hpass := waits_runPass miss p (modCls (fun c => { c with recDown := l }) s)
  obtain ⟨x, hx⟩ := hpass.recDown
  exact nextWith_of hexec ⟨⟨x, hx.symm⟩, hpass.line, hpass.fifos⟩

theorem failedParse {r : Nat} (hline : s.cls.line = p :: l) (hrec : s.cls.recDown = []) (hr : r = 2 ∨ r = 3)
    (hparse : (parse (s.cls.tables s.cls.curB).nodes p.bytes).reason = r) : nextWith (.pipelinePass .line false) s fun t =>
      Tbl.get 0 t.cls.passes r = Tbl.get 0 s.cls.passes r + 1 := by
  obtain ⟨hmd, hbytes⟩ := traceTag_pkt (pinned p (modCls (fun c => { c with line := l }) s)) (modCls (fun c => { c with line := l }) s)
  refine nextWith_of (exec_linePass hline hrec) ?_
  rw [firstPass_eq, runPass_failed hr, traceTag_cls]
  · rfl
  · rw [traceTag_cls, hmd, hbytes]
    exact hparse

theorem missedPass (hline : s.cls.line = p :: l) (hrec : s.cls.recDown = []) (hdown : s.cls.missDown.length < 8192)
    (hup : s.cls.missUp.length < 8192) : nextWith (.pipelinePass .line true) s fun t =>
      (if p.md.down then t.cls.missDown.length = s.cls.missDown.length + 1 ∧ t.cls.missUp = s.cls.missUp
        else t.cls.missUp.length = s.cls.missUp.length + 1 ∧ t.cls.missDown = s.cls.missDown) ∧
      t.cls.passes = s.cls.passes ∧ t.ports = s.ports := by
  obtain ⟨hmd, -⟩ := traceTag_pkt (pinned p (modCls (fun c => { c with line := l }) s)) (modCls (fun c => { c with line := l }) s)
  have hroom : ((traceTag (pinned p (modCls (fun c => { c with line := l }) s)) (modCls (fun c => { c with line := l }) s)).2.misses
      (traceTag (pinned p (modCls (fun c => { c with line := l }) s)) (modCls (fun c => { c with line := l }) s)).1.md.down).length
      < 8192 := by
    unfold State.misses
    rw [traceTag_cls]
    split
    · exact hdown
    · exact hup
  obtain ⟨x, u, hcarried, hports, heq⟩ := runPass_missed hroom
  have hkept := (carried_traceTag (pinned p (modCls (fun c => { c with line := l }) s)) (modCls (fun c => { c with line := l }) s)).trans hcarried
  refine nextWith_of (exec_linePass hline hrec) ?_
  rw [firstPass_eq, heq, hmd]
  unfold State.misses setMisses
  rw [traceTag_cls]
  have hdir : (pinned p (modCls (fun c => { c with line := l }) s)).md.down = p.md.down := rfl
  rw [hdir]
  cases p.md.down with
  | true => exact ⟨⟨by simp [modCls], hkept.missUp⟩, hkept.passes, hports.trans (traceTag_ports ..)⟩
  | false => exact ⟨⟨by simp [modCls], hkept.missDown⟩, hkept.passes, hports.trans (traceTag_ports ..)⟩

variable {x : Miss} {w : List Miss}

theorem filledUp (hmiss : s.cls.missUp = x :: w) : nextWith (.flowCacheFill false) s fun t =>
    t.cls.missUp = w ∧ t.cls.missDown = s.cls.missDown ∧ t.cls.line = s.cls.line ∧
    t = { s with
      clk := t.clk, cls := t.cls, q := t.q, ports := t.ports, eng := t.eng, evc := t.evc, pmc := t.pmc, out := t.out } := by
  have hexec : exec (.flowCacheFill false) s = .next (runFound x.found x.pkt (setMisses false w s)) := by
    change execFlowCacheFill false s = _
    simp [execFlowCacheFill, State.misses, hmiss]
  have hrun := carried_runFound x.found x.pkt (setMisses false w s)
  exact nextWith_of hexec ⟨hrun.missUp, hrun.missDown, hrun.line,
    eq_merged (m := { clk := true, cls := true, q := true, ports := true, eng := true, evc := true, pmc := true, out := true })
      (by simp)⟩

theorem filledDown (hmiss : s.cls.missDown = x :: w) : nextWith (.flowCacheFill true) s fun t =>
    t.cls.missDown = w ∧ t.cls.missUp = s.cls.missUp ∧ t.cls.line = s.cls.line := by
  have hexec : exec (.flowCacheFill true) s = .next (runFound x.found x.pkt (setMisses true w s)) := by
    change execFlowCacheFill true s = _
    simp [execFlowCacheFill, State.misses, hmiss]
  have hrun := carried_runFound x.found x.pkt (setMisses true w s)
  exact nextWith_of hexec ⟨hrun.missDown, hrun.missUp, hrun.line⟩

end Pass

/-! ### Generations (R143, R144) -/

/-- What stays of the current generation: its slot and number, nothing draining, and each entry visible in it, in some bucket. -/
structure Generation (s t : State) : Prop where
  curB : t.cls.curB = s.cls.curB
  gen : t.cls.gen = s.cls.gen
  draining : t.cls.draining = s.cls.draining
  flows : ∀ e ∈ s.cls.flows, e.vis s.cls.curB = true → ∃ x ∈ t.cls.flows, x.word = e.word ∧ x.key = e.key ∧ x.vis s.cls.curB = true
  tern : ∀ e ∈ s.cls.tern, e.vis s.cls.curB = true → ∃ x ∈ t.cls.tern,
    x.index = e.index ∧ x.word = e.word ∧ x.value = e.value ∧ x.mask = e.mask ∧ x.vis s.cls.curB = true

section Generations
variable {s t u : State}

theorem Generation.trans (h : Generation s t) (h' : Generation t u) : Generation s u where
  curB := h'.curB.trans h.curB
  gen := h'.gen.trans h.gen
  draining := h'.draining.trans h.draining
  flows := fun e he hvis => by
    obtain ⟨x, hx, hword, hkey, hxvis⟩ := h.flows e he hvis
    obtain ⟨y, hy, hyword, hykey, hyvis⟩ := h'.flows x hx (by rw [h.curB]; exact hxvis)
    exact ⟨y, hy, hyword.trans hword, hykey.trans hkey, by rw [← h.curB]; exact hyvis⟩
  tern := fun e he hvis => by
    obtain ⟨x, hx, hindex, hword, hvalue, hmask, hxvis⟩ := h.tern e he hvis
    obtain ⟨y, hy, hyindex, hyword, hyvalue, hymask, hyvis⟩ := h'.tern x hx (by rw [h.curB]; exact hxvis)
    exact ⟨y, hy, hyindex.trans hindex, hyword.trans hword, hyvalue.trans hvalue, hymask.trans hmask, by rw [← h.curB]; exact hyvis⟩

/-- A step that leaves the entries, the slot and its number. -/
theorem generation_of (hcurB : t.cls.curB = s.cls.curB) (hgen : t.cls.gen = s.cls.gen) (hdraining : t.cls.draining = s.cls.draining)
    (hflows : t.cls.flows = s.cls.flows) (htern : t.cls.tern = s.cls.tern) : Generation s t where
  curB := hcurB
  gen := hgen
  draining := hdraining
  flows := fun e he hvis => ⟨e, hflows ▸ he, rfl, rfl, hvis⟩
  tern := fun e he hvis => ⟨e, htern ▸ he, rfl, rfl, rfl, rfl, hvis⟩

/-- Hiding in the other slot leaves what the current one shows. -/
theorem hideFlows_shown (b : Bool) (p : FlowEntry → Bool) {l : List FlowEntry} {e : FlowEntry} (he : e ∈ l) (hvis : e.vis b = true) :
    ∃ x ∈ hideFlows (slotOf (!b)) p l, x.word = e.word ∧ x.key = e.key ∧ x.vis b = true := by
  refine ⟨if p e then { e with visA := e.visA && !(slotOf (!b)).1, visB := e.visB && !(slotOf (!b)).2 } else e,
    List.mem_filter.mpr ⟨List.mem_map_of_mem he, ?_⟩, ?_⟩
  · cases b <;> cases p e <;> simp_all [FlowEntry.vis, slotOf]
  · cases b <;> cases p e <;> simp_all [FlowEntry.vis, slotOf]

theorem hideTern_shown (b : Bool) (p : TernEntry → Bool) {l : List TernEntry} {e : TernEntry} (he : e ∈ l) (hvis : e.vis b = true) :
    ∃ x ∈ hideTern (slotOf (!b)) p l, x.index = e.index ∧ x.word = e.word ∧ x.value = e.value ∧ x.mask = e.mask ∧ x.vis b = true := by
  refine ⟨if p e then { e with visA := e.visA && !(slotOf (!b)).1, visB := e.visB && !(slotOf (!b)).2 } else e,
    List.mem_filter.mpr ⟨List.mem_map_of_mem he, ?_⟩, ?_⟩
  · cases b <;> cases p e <;> simp_all [TernEntry.vis, slotOf]
  · cases b <;> cases p e <;> simp_all [TernEntry.vis, slotOf]

theorem generation_putFlow (w : EntryWord) (key : List Byte) (s : State) : Generation s (putFlow (slotOf (!s.cls.curB)) w key s) := by
  obtain ⟨hit, b, e, o, bucket, heq⟩ := putFlow_eq (slotOf (!s.cls.curB)) w key s
  obtain ⟨hto, -⟩ := findPlace_same key (hideFlows (slotOf (!s.cls.curB)) (ofKey w.profile key) s.cls.flows) (candidate 0 key, 0)
  rw [heq]
  refine ⟨rfl, rfl, rfl, fun e he hvis => ?_, fun e he hvis => ⟨e, he, rfl, rfl, rfl, rfl, hvis⟩⟩
  obtain ⟨x, hx, hword, hkey, hxvis⟩ := hideFlows_shown s.cls.curB (ofKey w.profile key) he hvis
  obtain ⟨y, hy, hyx⟩ := hto x hx
  rw [← hyx] at hword hkey hxvis
  exact ⟨y, List.mem_append_left _ hy, hword, hkey, hxvis⟩

theorem generation_dropFlow (profile : Nat) (key : List Byte) (s : State) : Generation s (dropFlow (slotOf (!s.cls.curB)) profile key s) := by
  obtain ⟨b, e, o, heq⟩ := noteFlows_eq (modCls (fun c => { c with
    flows := hideFlows (slotOf (!s.cls.curB)) (ofKey profile key) c.flows }) s)
  rw [show dropFlow (slotOf (!s.cls.curB)) profile key s = _ from heq]
  exact ⟨rfl, rfl, rfl, fun e he hvis => hideFlows_shown s.cls.curB _ he hvis, fun e he hvis => ⟨e, he, rfl, rfl, rfl, rfl, hvis⟩⟩

theorem generation_dropTern (i : Nat) (s : State) : Generation s (dropTern (slotOf (!s.cls.curB)) i s) :=
  ⟨rfl, rfl, rfl, fun e he hvis => ⟨e, he, rfl, rfl, hvis⟩, fun _ he hvis => hideTern_shown s.cls.curB _ he hvis⟩

theorem generation_putTern (i : Nat) (w : EntryWord) (v m : List Byte) (s : State) :
    Generation s (putTern (slotOf (!s.cls.curB)) i w v m s) := by
  refine ⟨rfl, rfl, rfl, fun e he hvis => ⟨e, he, rfl, rfl, hvis⟩, fun e he hvis => ?_⟩
  obtain ⟨x, hx, hsame⟩ := hideTern_shown s.cls.curB (fun e => e.index == i) he hvis
  exact ⟨x, List.mem_append_left _ hx, hsame⟩

/-- A change staged for the next generation leaves the current one. -/
theorem generation_putClassification (c : Cmd) (s : State) : Generation s (putClassification (slotOf (!s.cls.curB)) c s) := by
  unfold putClassification
  split
  · exact generation_putFlow _ _ s
  · exact generation_putFlow _ _ s
  · exact generation_dropFlow _ _ s
  · exact generation_of rfl rfl rfl rfl rfl
  · exact generation_putTern _ _ _ _ s
  · exact generation_dropTern _ s
  · exact generation_of rfl rfl rfl rfl rfl
  · exact generation_of rfl rfl rfl rfl rfl
  · exact generation_of rfl rfl rfl rfl rfl
  · exact generation_of rfl rfl rfl rfl rfl

theorem generation_openGeneration (s : State) : Generation s (openGeneration s) := by
  refine ⟨rfl, rfl, rfl, fun e he hvis => ?_, fun e he hvis => ?_⟩
  · refine ⟨if !s.cls.curB then { e with visB := e.visA } else { e with visA := e.visB },
      List.mem_filter.mpr ⟨List.mem_map_of_mem he, ?_⟩, ?_⟩
    · cases hcur : s.cls.curB <;> simp_all [FlowEntry.vis]
    · cases hcur : s.cls.curB <;> simp_all [FlowEntry.vis]
  · refine ⟨if !s.cls.curB then { e with visB := e.visA } else { e with visA := e.visB },
      List.mem_filter.mpr ⟨List.mem_map_of_mem he, ?_⟩, ?_⟩
    · cases hcur : s.cls.curB <;> simp_all [TernEntry.vis]
    · cases hcur : s.cls.curB <;> simp_all [TernEntry.vis]

/-- A write-in begins in the free slot. -/
theorem generation_beginWriteIn (w : WriteIn) (s : State) : Generation s (beginWriteIn w s) := by
  have hstaged (l : List Staged) (u : State) (h : Generation s u) :
      Generation s (l.foldl (fun s c => putClassification (slotOf (!s.cls.curB)) c.cmd s) u) := by
    induction l generalizing u with
    | nil => exact h
    | cons c l ih => exact ih _ (h.trans (generation_putClassification c.cmd u))
  exact (hstaged _ _ (generation_openGeneration s)).trans (generation_of rfl rfl rfl rfl rfl)

/-- Once drained the older generation's entries are gone from its slot. -/
def drained (s : State) : State := releaseSlot (modCls (fun c => { c with draining := none }) s)

theorem drained_flows : ∀ e ∈ (drained s).cls.flows, e.vis s.cls.curB = true ∧ e.vis (!s.cls.curB) = false := by
  intro e he
  obtain ⟨hmap, hshown⟩ := List.mem_filter.mp he
  obtain ⟨x, -, rfl⟩ := List.mem_map.mp hmap
  cases hcur : s.cls.curB <;> simp_all [FlowEntry.vis, slotOf, modCls]

theorem drained_tern : ∀ e ∈ (drained s).cls.tern, e.vis s.cls.curB = true ∧ e.vis (!s.cls.curB) = false := by
  intro e he
  obtain ⟨hmap, hshown⟩ := List.mem_filter.mp he
  obtain ⟨x, -, rfl⟩ := List.mem_map.mp hmap
  cases hcur : s.cls.curB <;> simp_all [TernEntry.vis, slotOf, modCls]

/-- GENERATION_DRAIN when no packet holds the older generation. -/
theorem exec_drain (hdraining : s.cls.draining.isSome = true) (hpackets : ∀ p ∈ inClassification s, p.md.slotB = s.cls.curB) :
    exec .generationDrain s = .next (match s.cls.writeIn with
      | some w => if w.started.isNone then beginWriteIn w (drained s) else drained s
      | none => drained s) := by
  have hall : ((inClassification s).all fun p => p.md.slotB == s.cls.curB) = true := by simpa using hpackets
  change execGenerationDrain s = _
  unfold execGenerationDrain
  rw [hdraining, hall]
  rfl

theorem generationDrained (hdraining : s.cls.draining.isSome = true) (hpackets : ∀ p ∈ inClassification s, p.md.slotB = s.cls.curB) :
    nextWith .generationDrain s fun t =>
      t.cls.draining = none ∧ t.cls.curB = s.cls.curB ∧ t.cls.gen = s.cls.gen ∧
      (∀ e ∈ s.cls.flows, e.vis s.cls.curB = true →
        ∃ x ∈ t.cls.flows, x.word = e.word ∧ x.key = e.key ∧ x.vis s.cls.curB = true) ∧
      (∀ e ∈ s.cls.tern, e.vis s.cls.curB = true → ∃ x ∈ t.cls.tern,
        x.index = e.index ∧ x.word = e.word ∧ x.value = e.value ∧ x.mask = e.mask ∧ x.vis s.cls.curB = true) ∧
      ((∀ w, s.cls.writeIn = some w → w.started.isSome = true) →
        (∀ e ∈ t.cls.flows, e.vis s.cls.curB = true ∧ e.vis (!s.cls.curB) = false) ∧
        (∀ e ∈ t.cls.tern, e.vis s.cls.curB = true ∧ e.vis (!s.cls.curB) = false) ∧
        t = { s with cls := { s.cls with draining := none, flows := t.cls.flows, tern := t.cls.tern } }) ∧
      (∀ w, s.cls.writeIn = some w → ∃ x, t.cls.writeIn = some x ∧ x.started.isSome = true) ∧
      t = { s with cls := t.cls, evc := t.evc, out := t.out } := by
  have hflows := fun (e : FlowEntry) (he : e ∈ s.cls.flows) (hvis : e.vis s.cls.curB = true) =>
    hideFlows_shown s.cls.curB (fun _ => true) he hvis
  have htern := fun (e : TernEntry) (he : e ∈ s.cls.tern) (hvis : e.vis s.cls.curB = true) =>
    hideTern_shown s.cls.curB (fun _ => true) he hvis
  refine nextWith_of (exec_drain hdraining hpackets) ?_
  cases hwrite : s.cls.writeIn with
  | none => exact ⟨rfl, rfl, rfl, hflows, htern, fun _ => ⟨drained_flows, drained_tern, rfl⟩, (fun _ h => nomatch h), rfl⟩
  | some w =>
    cases hstarted : w.started with
    | some i =>
      simp only [hstarted, Option.isNone_some, Bool.false_eq_true, if_false]
      refine ⟨rfl, rfl, rfl, hflows, htern, fun _ => ⟨drained_flows, drained_tern, rfl⟩, fun w' hw' => ?_, rfl⟩
      cases hw'
      exact ⟨w, hwrite, by rw [hstarted]; rfl⟩
    | none =>
      simp only [hstarted, Option.isNone_none, if_true]
      have hgeneration := generation_beginWriteIn w (drained s)
      refine ⟨hgeneration.draining, hgeneration.curB, hgeneration.gen, fun e he hvis => ?_, fun e he hvis => ?_, fun hno => ?_,
        fun _ _ => ⟨_, rfl, rfl⟩, ?_⟩
      · obtain ⟨x, hx, hword, hkey, hxvis⟩ := hflows e he hvis
        obtain ⟨y, hy, hyword, hykey, hyvis⟩ := hgeneration.flows x hx hxvis
        exact ⟨y, hy, hyword.trans hword, hykey.trans hkey, hyvis⟩
      · obtain ⟨x, hx, hindex, hword, hvalue, hmask, hxvis⟩ := htern e he hvis
        obtain ⟨y, hy, hyindex, hyword, hyvalue, hymask, hyvis⟩ := hgeneration.tern x hx hxvis
        exact ⟨y, hy, hyindex.trans hindex, hyword.trans hword, hyvalue.trans hvalue, hymask.trans hmask, hyvis⟩
      · have := hno w rfl
        rw [hstarted] at this
        cases this
      · exact eq_merged (m := { cls := true, evc := true, out := true }) (by simp [drained])

theorem drainWaits (h : ∃ p ∈ inClassification s, p.md.slotB ≠ s.cls.curB) : exec .generationDrain s = .next s := by
  have hall : ((inClassification s).all fun p => p.md.slotB == s.cls.curB) = false := by simpa using h
  change execGenerationDrain s = _
  unfold execGenerationDrain
  rw [hall, Bool.and_false]
  rfl

theorem writeInDone {w : WriteIn} (hwrite : s.cls.writeIn = some w) (hstarted : w.started.isSome = true) :
    exec .writeInComplete s = .next { s with cls := { s.cls with writeIn := some { w with done := true } } } := by
  change execWriteInComplete s = _
  simp only [execWriteInComplete, hwrite, hstarted, if_true]
  rfl

end Generations

/-- Settles O25: per source of a pass, and for the drain of a generation. -/
theorem passes : Obligations.Passes :=
  ⟨fun _ _ => ⟨fun _ _ _ => portPass, fun _ => portPassWaits, fun _ _ => linePass, linePassWaits, fun _ _ => recircUpPass,
      fun _ _ => recircDownPass, fun _ _ _ => failedParse, fun _ _ => missedPass, fun _ _ => filledUp, fun _ _ => filledDown⟩,
    fun _ => ⟨generationDrained, drainWaits, fun _ => writeInDone⟩⟩

end Sys2Proof.Proofs.Passes
end

section
/-!
The commands of the queues, the shapers and the policers (chapter 07): O26, O27.
-/
namespace Sys2Proof.Proofs.QueueCommands
open Sys2Proof Sys2Proof.Machine Sys2Proof.Proofs.Frames Sys2Proof.Proofs.Rules Sys2Proof.Proofs.LineTimeEvents

set_option Elab.async false

@[simp] theorem dropQ_q (a0 : QPkt) (s : State) : (dropQ a0 s).q = s.q :=
  q_of_rest (m := { clk := true, evc := true, pmc := true, out := true }) (by simp)
@[simp] theorem dropQ_carriers (a0 : QPkt) (s : State) : (dropQ a0 s).carriers = s.carriers :=
  carriers_of_rest (m := { clk := true, evc := true, pmc := true, out := true }) (by simp)
@[simp] theorem abortChanged_q (s : State) : (abortChanged s).q = s.q :=
  q_of_rest (m := { cls := true, sec := true, groups := true, evc := true, out := true }) (by simp)
@[simp] theorem abortChanged_carriers (s : State) : (abortChanged s).carriers = s.carriers :=
  carriers_of_rest (m := { cls := true, sec := true, groups := true, evc := true, out := true }) (by simp)

/-! ### Leaf queues (R149, R168) -/

section Leaf
variable {h : Hdr} {s : State} {q : Nat}

theorem historyOnCreate_eq (c : Nat) (had : Bool) (s : State) : ∃ x, historyOnCreate c had s = { s with carriers := x } := by
  unfold historyOnCreate
  split
  · exact ⟨_, eq_merged (m := { carriers := true }) (by simp)⟩
  · exact ⟨s.carriers, rfl⟩

/-- The queue of an association, class and flow group, as it is created. -/
def createdQueue (a c g : Nat) (p : QueueParams) (s : State) : Queue :=
  { assoc := a, cls := c, group := g, weight := p.weight.getD 1, limit := p.limit.getD (storeCells s)
    ylim := p.ylim.getD (p.limit.getD (storeCells s)), sojourn := p.maxSojourn.getD 100 }

variable (hlo : 256 ≤ q) (hhi : q ≤ 65535)
include hlo hhi

theorem queueCreated {a c g : Nat} {p : QueueParams} (hr : runsNow h (.queueCreate q a c g p) s) (ha : a ≤ 4095) (hc : c < 8)
    (hg : g < 16) (hp : queueParamsOk p s = true) (hfree : s.queue q = none)
    (hunique : ∀ x ∈ s.q.tab, ∀ v, x.2 = some v → v.assoc ≠ a ∨ v.cls ≠ c ∨ v.group ≠ g) :
    completes (.queueCreate h q a c g p) h 0x0701 s fun t =>
      t.queue q = some {
        assoc := a, cls := c, group := g, weight := p.weight.getD 1, limit := p.limit.getD (storeCells s),
        ylim := p.ylim.getD (p.limit.getD (storeCells s)), sojourn := p.maxSojourn.getD 100 } ∧
      (∀ k, k ≠ q → t.queue k = s.queue k) ∧
      t = { takeUp h s with q := { s.q with tab := t.q.tab }, carriers := t.carriers } := by
  obtain ⟨x, hx⟩ := takeUp_cmd h s
  obtain ⟨y, hy⟩ := historyOnCreate_eq c (classHasQueue c { s with cmd := x })
    (setQueue q (some (createdQueue a c g p s)) { s with cmd := x })
  have hbody : doQueueCreate q a c g p { s with cmd := x } = okData []
      { setQueue q (some (createdQueue a c g p s)) { s with cmd := x } with carriers := y } := by
    unfold doQueueCreate
    rw [require_true (by simp [hlo, hhi, ha, hc, hg, show queueParamsOk p { s with cmd := x } = true from hp])]
    dsimp only
    rw [require_true]
    · exact congrArg (okData []) hy
    · rw [show State.queue { s with cmd := x } q = none from hfree, Option.isSome_none, Bool.false_or, Bool.not_eq_true',
        List.any_eq_false]
      intro x hx
      split
      case h_1 v hv => simpa [imp_iff_not_or, or_assoc] using hunique x hx v hv
      case h_2 => simp
  refine completes_taken hx hr rfl rfl rfl hbody ⟨setQueue_self q _ { s with cmd := x }, fun k hk => ?_, by rw [hx]; rfl⟩
  exact setQueue_ne k q _ { s with cmd := x } hk

theorem queueExists {a c g : Nat} {p : QueueParams} (hr : runsNow h (.queueCreate q a c g p) s) (ha : a ≤ 4095) (hc : c < 8)
    (hg : g < 16) (hp : queueParamsOk p s = true) (hused : s.queue q ≠ none) :
    failsWith (.queueCreate h q a c g p) h 0x0701 .queueExists s := by
  obtain ⟨x, hx⟩ := takeUp_cmd h s
  have hbody : doQueueCreate q a c g p { s with cmd := x } = fail .queueExists { s with cmd := x } := by
    unfold doQueueCreate
    rw [require_true (by simp [hlo, hhi, ha, hc, hg, show queueParamsOk p { s with cmd := x } = true from hp])]
    dsimp only
    rw [require_false (by
      rw [show State.queue { s with cmd := x } q = s.queue q from rfl, Option.isSome_iff_ne_none.mpr hused]
      simp)]
  exact failsWith_taken hx hr rfl rfl rfl hbody

theorem withQueue_some {k : Queue → Body} {v : Queue} {u : State} (hv : u.queue q = some v) : withQueue q k u = k v u := by
  unfold withQueue
  rw [require_true (by simp [hlo, hhi]), hv]

theorem queueDeleted {v : Queue} (hr : runsNow h (.queueDelete q) s) (hv : s.queue q = some v) (hcells : v.cells = 0)
    (hstaged : ∀ x ∈ s.q.staging, x.1 ≠ q) : completes (.queueDelete h q) h 0x0702 s fun t =>
      t.queue q = none ∧ (∀ k, k ≠ q → t.queue k = s.queue k) ∧ t.q = { s.q with tab := t.q.tab } ∧
      t = { takeUp h s with
        carriers := t.carriers, q := t.q, cls := t.cls, sec := t.sec, groups := t.groups, evc := t.evc, out := t.out } := by
  obtain ⟨x, hx⟩ := takeUp_cmd h s
  have hbody : ∃ y, doQueueDelete q { s with cmd := x } = okData [] { setQueue q none { s with cmd := x } with carriers := y } := by
    unfold doQueueDelete
    rw [withQueue_some hlo hhi (u := { s with cmd := x }) (v := v) hv, require_true (by simpa [hcells] using hstaged)]
    dsimp only
    split
    · exact ⟨s.carriers, rfl⟩
    · exact ⟨_, congrArg (okData []) (eq_merged (m := { carriers := true }) (by simp))⟩
  obtain ⟨y, hbody⟩ := hbody
  have hdrop : dropping (doQueueDelete q) { s with cmd := x } =
      okData [] (abortChanged { setQueue q none { s with cmd := x } with carriers := y }) := by
    unfold dropping
    rw [hbody]
    rfl
  have hq : (abortChanged { setQueue q none { s with cmd := x } with carriers := y }).q = (setQueue q none s).q := abortChanged_q _
  refine completes_taken hx hr rfl rfl rfl hdrop ⟨?_, fun k hk => ?_, by rw [hq]; rfl, ?_⟩
  · unfold State.queue
    rw [hq]
    exact setQueue_self q _ s
  · unfold State.queue
    rw [hq]
    exact setQueue_ne k q _ s hk
  · rw [hx]
    exact eq_merged (m := { carriers := true, q := true, cls := true, sec := true, groups := true, evc := true, out := true }) (by simp)

theorem queueKept {v : Queue} (hr : runsNow h (.queueDelete q) s) (hv : s.queue q = some v)
    (hused : v.cells ≠ 0 ∨ ∃ x ∈ s.q.staging, x.1 = q) :
    ∃ t, exec (.queueDelete h q) s = .next (sendReply h 0x0702 { status := .queueNotEmpty } t) ∧ t.q = s.q ∧
      t.carriers = s.carriers := by
  obtain ⟨x, hx⟩ := takeUp_cmd h s
  have hbody : doQueueDelete q { s with cmd := x } = fail .queueNotEmpty { s with cmd := x } := by
    unfold doQueueDelete
    rw [withQueue_some hlo hhi (u := { s with cmd := x }) (v := v) hv, require_false]
    simpa [imp_iff_not_or] using hused
  have hdrop : dropping (doQueueDelete q) { s with cmd := x } = (some { status := .queueNotEmpty }, abortChanged { s with cmd := x }) := by
    unfold dropping
    rw [hbody]
    rfl
  exact ⟨_, fails_taken hx hr rfl rfl rfl hdrop, abortChanged_q _, abortChanged_carriers _⟩

theorem queueSet {v : Queue} {p : QueueParams} (hr : runsNow h (.queueSet q p) s) (hv : s.queue q = some v)
    (hp : queueParamsOk p s = true) : completes (.queueSet h q p) h 0x0703 s fun t =>
      t.queue q = some { v with
        weight := p.weight.getD v.weight, limit := p.limit.getD v.limit, ylim := p.ylim.getD v.ylim,
        sojourn := p.maxSojourn.getD v.sojourn } ∧
      (∀ k, k ≠ q → t.queue k = s.queue k) ∧ t = { takeUp h s with q := { s.q with tab := t.q.tab } } := by
  obtain ⟨x, hx⟩ := takeUp_cmd h s
  have hcheck : checkQueueSet q p { s with cmd := x } = .ok := by
    simp [checkQueueSet, hlo, hhi, show queueParamsOk p { s with cmd := x } = true from hp,
      show State.queue { s with cmd := x } q = some v from hv]
  have hset : putQueueSet q p { s with cmd := x } = setQueue q (some { v with
      weight := p.weight.getD v.weight, limit := p.limit.getD v.limit, ylim := p.ylim.getD v.ylim
      sojourn := p.maxSojourn.getD v.sojourn }) { s with cmd := x } := by
    unfold putQueueSet modQueue
    rw [show State.queue { s with cmd := x } q = some v from hv]
  have hbody : ∃ d, doQueueSet q p { s with cmd := x } = okData d (setQueue q (some { v with
      weight := p.weight.getD v.weight, limit := p.limit.getD v.limit, ylim := p.ylim.getD v.ylim
      sojourn := p.maxSojourn.getD v.sojourn }) { s with cmd := x }) := by
    unfold doQueueSet
    rw [hcheck]
    dsimp only
    rw [hset]
    exact ⟨_, rfl⟩
  obtain ⟨d, hbody⟩ := hbody
  refine completes_taken hx hr rfl rfl rfl hbody ⟨setQueue_self q _ { s with cmd := x }, fun k hk => ?_, by rw [hx]; rfl⟩
  exact setQueue_ne k q _ { s with cmd := x } hk

omit hlo hhi

/-- The lists of a queue once the packets that have not begun are gone. -/
def begunLists (v : Queue) : Tbl (List QPkt) :=
  (v.lists.map fun (x : Nat × List QPkt) => (x.1, x.2.filter fun p => p.drawn != 0)).filter fun (x : Nat × List QPkt) => !x.2.isEmpty

theorem begunLists_begun (v : Queue) : ∀ x ∈ begunLists v, ∀ p ∈ x.2, p.drawn ≠ 0 := by
  intro x hx p hp
  obtain ⟨y, -, rfl⟩ := List.mem_map.mp (List.mem_of_mem_filter hx)
  simpa using (List.mem_filter.mp hp).2

theorem begunLists_kept (v : Queue) : ∀ x ∈ v.lists, ∀ p ∈ x.2, p.drawn ≠ 0 → ∃ y ∈ begunLists v, y.1 = x.1 ∧ p ∈ y.2 := by
  intro x hx p hp hdrawn
  have hmem : p ∈ x.2.filter fun p => p.drawn != 0 := List.mem_filter.mpr ⟨hp, by simpa using hdrawn⟩
  refine ⟨(x.1, x.2.filter fun p => p.drawn != 0), List.mem_filter.mpr ⟨List.mem_map_of_mem hx, ?_⟩, rfl, hmem⟩
  simpa using ⟨p, hp, hdrawn⟩

theorem dropQs_q (l : List QPkt) (s : State) : (l.foldl (fun s p => dropQ p s) s).q = s.q :=
  foldl_keeps (F := State.q) l s fun s p => dropQ_q p s

include hlo hhi

theorem queueFlushed {v : Queue} (hr : runsNow h (.queueFlush q) s) (hv : s.queue q = some v) :
    completes (.queueFlush h q) h 0x0705 s fun t =>
      (∃ w, t.queue q = some w ∧ (∀ x ∈ w.lists, ∀ p ∈ x.2, p.drawn ≠ 0) ∧
        (∀ x ∈ v.lists, ∀ p ∈ x.2, p.drawn ≠ 0 → ∃ y ∈ w.lists, y.1 = x.1 ∧ p ∈ y.2) ∧ w.limit = v.limit ∧
        w.assoc = v.assoc ∧ w.cls = v.cls) ∧
      (∀ k, k ≠ q → t.queue k = s.queue k) ∧ t.carriers = s.carriers ∧
      t = { takeUp h s with clk := t.clk, q := t.q, evc := t.evc, pmc := t.pmc, out := t.out } := by
  obtain ⟨x, hx⟩ := takeUp_cmd h s
  have hbody : ∃ (d : List Nat) (l : List QPkt) (n m c : Nat) (r : Queues → Queues), doQueueFlush q { s with cmd := x } = okData d (l.foldl (fun s p => dropQ p s) (freeCells c (modQ r
      (setQueue q (some { v with lists := begunLists v, nFlush := n, cFlush := m }) { s with cmd := x })))) ∧
        ∀ u, (r u).tab = u.tab := by
    unfold doQueueFlush
    rw [withQueue_some hlo hhi (u := { s with cmd := x }) (v := v) hv]
    exact ⟨_, _, _, _, _, _, rfl, fun _ => rfl⟩
  obtain ⟨d, l, n, m, c, r, hbody, htab⟩ := hbody
  have hqueue (k : Nat) : ((l.foldl (fun s p => dropQ p s) (freeCells c (modQ r (setQueue q (some { v with
      lists := begunLists v, nFlush := n, cFlush := m }) { s with cmd := x }))))).queue k =
      (setQueue q (some { v with lists := begunLists v, nFlush := n, cFlush := m }) s).queue k := by
    unfold State.queue
    rw [dropQs_q]
    exact congrArg (Tbl.get none · k) (htab _)
  refine completes_taken hx hr rfl rfl rfl hbody ⟨⟨_, (hqueue q).trans (setQueue_self q _ s), begunLists_begun v, begunLists_kept v,
    rfl, rfl, rfl⟩, fun k hk => (hqueue k).trans (setQueue_ne k q _ s hk), ?_, ?_⟩
  · exact foldl_keeps (F := State.carriers) l _ fun s p => dropQ_carriers p s
  · rw [hx]
    exact eq_merged (m := { clk := true, q := true, evc := true, pmc := true, out := true }) (by simp)

end Leaf

/-- Settles O26: per command of a leaf queue. -/
theorem leafQueueCommands : Obligations.LeafQueueCommands := fun _ _ _ hlo hhi =>
  ⟨fun _ _ _ _ => queueCreated hlo hhi, fun _ _ _ _ => queueExists hlo hhi, fun _ => queueDeleted hlo hhi, fun _ => queueKept hlo hhi,
    fun _ _ => queueSet hlo hhi, fun _ => queueFlushed hlo hhi⟩

/-! ### Shapers (R154, R158) -/

section Nodes
variable {h : Hdr} {s : State}

/-- A shaper that is set starts with tokens within its BURST (log entry 23). -/
theorem newShaper_eq (p : Option ShaperParams) (s : State) : ∃ x c, newShaper p s = (x, { s with clk := c }) ∧ x.map (·.p) = p ∧
    ∀ v, x = some v → 0 ≤ v.tokens ∧ v.tokens ≤ v.p.burst * tokenByte ∧ v.at_ = switchTime s := by
  cases p with
  | none => exact ⟨none, s.clk, rfl, rfl, fun _ hv => by cases hv⟩
  | some p =>
    refine ⟨_, _, rfl, rfl, fun v hv => ?_⟩
    cases hv
    have hbyte : (0 : Int) ≤ tokenByte := by decide
    refine ⟨Int.mul_nonneg (Int.natCast_nonneg _) hbyte, Int.mul_le_mul_of_nonneg_right ?_ hbyte, rfl⟩
    exact_mod_cast Nat.le_of_lt_succ (Nat.mod_lt _ (Nat.succ_pos _))

theorem nodeSet {a w : Nat} {sh : Option ShaperParams} (hr : runsNow h (.schedNodeSet a none w sh false) s)
    (hcheck : checkSchedNode a none w sh false = .ok) : completes (.schedNodeSet h a none w sh false) h 0x0706 s fun t =>
      (t.node a).weight = w ∧ (t.node a).expedite = false ∧
      (t.node a).shaper.map (·.p) = sh ∧
      (∀ x, (t.node a).shaper = some x → 0 ≤ x.tokens ∧ x.tokens ≤ x.p.burst * tokenByte ∧ x.at_ = switchTime s) ∧
      (∀ k, k ≠ a → t.node k = s.node k) ∧ t.q.classNodes = s.q.classNodes ∧ t.q.tab = s.q.tab ∧
      t = { takeUp h s with clk := t.clk, q := t.q } := by
  obtain ⟨x, hx⟩ := takeUp_cmd h s
  obtain ⟨v, c, hnew, hparams, htokens⟩ := newShaper_eq sh { s with cmd := x }
  have hbody : doSchedNodeSet a none w sh false { s with cmd := x } = okData (w :: shaperWords sh ++ [false.toNat])
      (modQ (fun q => { q with nodes := Tbl.set {} q.nodes a { weight := w, shaper := v, expedite := false } })
        (unplace (.node a) { s with cmd := x, clk := c })) := by
    unfold doSchedNodeSet putSchedNode
    rw [hcheck, hnew]
  have hself : (modQ (fun q => { q with nodes := Tbl.set {} q.nodes a { weight := w, shaper := v, expedite := false } })
      (unplace (.node a) { s with cmd := x, clk := c })).node a = { weight := w, shaper := v, expedite := false } :=
    Tbl.get_set_self ({} : Node) _ _ _
  refine completes_taken hx hr rfl rfl rfl hbody ⟨?_, ?_, ?_, ?_, fun k hk => ?_, rfl, rfl, by rw [hx]; rfl⟩
  · rw [hself]
  · rw [hself]
  · rw [hself]; exact hparams
  · rw [hself]; exact htokens
  · exact Tbl.get_set_ne ({} : Node) _ _ hk

theorem classNodeSet {a c w : Nat} {sh : Option ShaperParams} {ex : Bool} (hr : runsNow h (.schedNodeSet a (some c) w sh ex) s)
    (hcheck : checkSchedNode a (some c) w sh ex = .ok) : completes (.schedNodeSet h a (some c) w sh ex) h 0x0706 s fun t =>
      (t.classNode a c).weight = w ∧ (t.classNode a c).expedite = ex ∧ (t.classNode a c).shaper.map (·.p) = sh ∧
      (∀ k, k ≠ 8 * a + c → Tbl.get {} t.q.classNodes k = Tbl.get {} s.q.classNodes k) ∧ t.q.nodes = s.q.nodes ∧
      t.q.tab = s.q.tab ∧ t = { takeUp h s with clk := t.clk, q := t.q } := by
  obtain ⟨x, hx⟩ := takeUp_cmd h s
  obtain ⟨v, k, hnew, hparams, -⟩ := newShaper_eq sh { s with cmd := x }
  have hbody : doSchedNodeSet a (some c) w sh ex { s with cmd := x } = okData (w :: shaperWords sh ++ [ex.toNat])
      (modQ (fun q => { q with classNodes := Tbl.set {} q.classNodes (8 * a + c) { weight := w, shaper := v, expedite := ex } })
        (unplace (.classNode a c) { s with cmd := x, clk := k })) := by
    unfold doSchedNodeSet putSchedNode
    rw [hcheck, hnew]
  have hself : (modQ (fun q => { q with classNodes := Tbl.set {} q.classNodes (8 * a + c) { weight := w, shaper := v, expedite := ex } })
      (unplace (.classNode a c) { s with cmd := x, clk := k })).classNode a c = { weight := w, shaper := v, expedite := ex } :=
    Tbl.get_set_self ({} : Node) _ _ _
  refine completes_taken hx hr rfl rfl rfl hbody ⟨?_, ?_, ?_, fun k hk => ?_, rfl, rfl, by rw [hx]; rfl⟩
  · rw [hself]
  · rw [hself]
  · rw [hself]; exact hparams
  · exact Tbl.get_set_ne ({} : Node) _ _ hk

theorem nodeRange {a w : Nat} {c : Option Nat} {sh : Option ShaperParams} {ex : Bool} (hr : runsNow h (.schedNodeSet a c w sh ex) s)
    (hcheck : checkSchedNode a c w sh ex = .paramRange) : failsWith (.schedNodeSet h a c w sh ex) h 0x0706 .paramRange s := by
  obtain ⟨x, hx⟩ := takeUp_cmd h s
  have hbody : doSchedNodeSet a c w sh ex { s with cmd := x } = fail .paramRange { s with cmd := x } := by
    unfold doSchedNodeSet
    rw [hcheck]
  exact failsWith_taken hx hr rfl rfl rfl hbody

end Nodes

/-! ### Egress settings (R159) -/

section Egress
variable {h : Hdr} {s : State} {p : Nat}

/-- The settings of one egress queue. -/
def putEgressQ (p : Nat) (s : State) (x : EgressQ × Nat) : State :=
  modPort p (fun v => { v with eg := Tbl.set {} v.eg x.2 x.1, shapers := Tbl.set none v.shapers x.2 (newShaper x.1.shaper s).1 })
    (unplace (.egressQ p x.2) (newShaper x.1.shaper s).2)

theorem putEgress_eq (es : List EgressQ) (sh : Option ShaperParams) (s : State) : putEgress p es sh s =
    modPort p (fun v => { v with
        shapers := Tbl.set none v.shapers 8 (newShaper sh (es.zipIdx.foldl (putEgressQ p) s)).1 })
      (unplace (.port p) (newShaper sh (es.zipIdx.foldl (putEgressQ p) s)).2) := rfl

theorem newShaper_params (x : Option ShaperParams) (s : State) : (newShaper x s).1.map (·.p) = x := by
  obtain ⟨v, c, hnew, hparams, -⟩ := newShaper_eq x s
  rw [hnew]
  exact hparams

theorem newShaper_port (x : Option ShaperParams) (s : State) (n : Nat) : (newShaper x s).2.port n = s.port n := by
  obtain ⟨v, c, hnew, -⟩ := newShaper_eq x s
  rw [hnew]
  rfl

theorem putEgressQ_self (s : State) (x : EgressQ × Nat) : (putEgressQ p s x).port p = { s.port p with
    eg := Tbl.set {} (s.port p).eg x.2 x.1, shapers := Tbl.set none (s.port p).shapers x.2 (newShaper x.1.shaper s).1 } := by
  unfold putEgressQ
  rw [modPort_self]
  have hport : (unplace (.egressQ p x.2) (newShaper x.1.shaper s).2).port p = s.port p := newShaper_port _ _ _
  rw [hport]

theorem putEgressQ_ne {n : Nat} (hn : n ≠ p) (s : State) (x : EgressQ × Nat) : (putEgressQ p s x).port n = s.port n := by
  unfold putEgressQ
  rw [modPort_ne _ _ _ _ hn]
  exact newShaper_port _ _ _

theorem putEgressQ_tab (s : State) (x : EgressQ × Nat) : (putEgressQ p s x).q.tab = s.q.tab := by
  obtain ⟨v, c, hnew, -⟩ := newShaper_eq x.1.shaper s
  unfold putEgressQ
  rw [hnew]
  rfl

/-- The settings of the queues from `j` on leave those before. -/
theorem putEgressQs_before (es : List EgressQ) (j : Nat) (s : State) {k : Nat} (hk : k < j ∨ j + es.length ≤ k) :
    Tbl.get {} (((es.zipIdx j).foldl (putEgressQ p) s).port p).eg k = Tbl.get {} (s.port p).eg k ∧
    Tbl.get none (((es.zipIdx j).foldl (putEgressQ p) s).port p).shapers k = Tbl.get none (s.port p).shapers k := by
  induction es generalizing j s with
  | nil => exact ⟨rfl, rfl⟩
  | cons e es ih =>
    rw [List.length_cons] at hk
    obtain ⟨heg, hshapers⟩ := ih (j + 1) (putEgressQ p s (e, j)) (by omega)
    rw [List.zipIdx_cons, List.foldl_cons, heg, hshapers, putEgressQ_self]
    exact ⟨Tbl.get_set_ne ({} : EgressQ) _ _ (by omega), Tbl.get_set_ne (none : Option Shaper) _ _ (by omega)⟩

theorem putEgressQs_set (es : List EgressQ) (j : Nat) (s : State) {i : Nat} {e : EgressQ} (h : es[i]? = some e) :
    Tbl.get {} (((es.zipIdx j).foldl (putEgressQ p) s).port p).eg (j + i) = e ∧
    (Tbl.get none (((es.zipIdx j).foldl (putEgressQ p) s).port p).shapers (j + i)).map (·.p) = e.shaper := by
  induction es generalizing j s i with
  | nil => simp at h
  | cons a es ih =>
    rw [List.zipIdx_cons, List.foldl_cons]
    cases i with
    | zero =>
      obtain rfl : a = e := by simpa using h
      obtain ⟨heg, hshapers⟩ := putEgressQs_before (p := p) es (j + 1) (putEgressQ p s (a, j)) (k := j) (.inl (by omega))
      rw [show j + 0 = j from rfl, heg, hshapers, putEgressQ_self]
      exact ⟨Tbl.get_set_self ({} : EgressQ) _ _ _,
        (congrArg (Option.map (·.p)) (Tbl.get_set_self (none : Option Shaper) _ _ _)).trans (newShaper_params _ _)⟩
    | succ i =>
      rw [show j + (i + 1) = j + 1 + i by omega]
      exact ih (j + 1) _ (by simpa using h)

theorem checkEgress_long {es : List EgressQ} {sh : Option ShaperParams} (hlong : 8 < es.length) :
    checkEgress p es sh s = if !s.hasPort p then s.noUnit p 32 else .paramRange := by
  unfold checkEgress
  dsimp only
  split
  · rfl
  · exact if_pos (.inl hlong)

theorem noUnit_or_range {b : Bool} : (if b then s.noUnit p 32 else .paramRange) ≠ Status.ok := by
  unfold State.noUnit
  split
  · split <;> simp
  · simp

theorem egressConfigured {es : List EgressQ} {sh : Option ShaperParams} (hr : runsNow h (.egressConfig p es sh) s)
    (hcheck : checkEgress p es sh s = .ok) : completes (.egressConfig h p es sh) h 0x0707 s fun t =>
      (∀ i e, es[i]? = some e → Tbl.get {} (t.port p).eg i = e ∧
        (Tbl.get none (t.port p).shapers i).map (·.p) = e.shaper) ∧
      (Tbl.get none (t.port p).shapers 8).map (·.p) = sh ∧ (t.port p).queues = (s.port p).queues ∧
      (t.port p).up = (s.port p).up ∧ otherPorts p s t ∧ t.q.tab = s.q.tab ∧
      t = { takeUp h s with clk := t.clk, q := t.q, ports := t.ports } := by
  obtain ⟨x, hx⟩ := takeUp_cmd h s
  have hlen : es.length ≤ 8 := by
    by_contra hlong
    rw [checkEgress_long (Nat.not_le.mp hlong)] at hcheck
    exact noUnit_or_range hcheck
  have hbody : ∃ d, doEgressConfig p es sh { s with cmd := x } = okData d (putEgress p es sh { s with cmd := x }) := by
    unfold doEgressConfig
    rw [show checkEgress p es sh { s with cmd := x } = checkEgress p es sh s from rfl, hcheck]
    exact ⟨_, rfl⟩
  obtain ⟨d, hbody⟩ := hbody
  have hself : (putEgress p es sh { s with cmd := x }).port p = { (es.zipIdx.foldl (putEgressQ p) { s with cmd := x }).port p with
      shapers := Tbl.set none ((es.zipIdx.foldl (putEgressQ p) { s with cmd := x }).port p).shapers 8
        (newShaper sh (es.zipIdx.foldl (putEgressQ p) { s with cmd := x })).1 } := by
    have hport : (unplace (.port p) (newShaper sh (es.zipIdx.foldl (putEgressQ p) { s with cmd := x })).2).port p =
        (es.zipIdx.foldl (putEgressQ p) { s with cmd := x }).port p := newShaper_port _ _ _
    rw [putEgress_eq, modPort_self, hport]
  have hkept {β : Type} {F : Port → β} (hF : ∀ v e sh, F { v with eg := e, shapers := sh } = F v) :
      F ((es.zipIdx.foldl (putEgressQ p) { s with cmd := x }).port p) = F (s.port p) :=
    foldl_keeps (F := fun s => F (s.port p)) es.zipIdx { s with cmd := x } fun s y => by
      rw [putEgressQ_self]
      exact hF _ _ _
  refine completes_taken hx hr rfl rfl rfl hbody ⟨fun i e he => ?_, ?_, ?_, ?_, fun n hn => ?_, ?_, ?_⟩
  · have hi : i < es.length := (List.getElem?_eq_some_iff.mp he).1
    obtain ⟨heg, hshapers⟩ := putEgressQs_set (p := p) es 0 { s with cmd := x } he
    rw [Nat.zero_add] at heg hshapers
    rw [hself]
    refine ⟨heg, ?_⟩
    dsimp only
    rw [Tbl.get_set_ne _ _ _ (by omega)]
    exact hshapers
  · rw [hself]
    dsimp only
    rw [Tbl.get_set_self]
    exact newShaper_params _ _
  · rw [hself]
    exact hkept (F := Port.queues) fun _ _ _ => rfl
  · rw [hself]
    exact hkept (F := Port.up) fun _ _ _ => rfl
  · rw [putEgress_eq, modPort_ne _ _ _ _ hn]
    refine (newShaper_port _ _ _).trans ?_
    exact foldl_keeps (F := fun s => s.port n) es.zipIdx { s with cmd := x } fun s y => putEgressQ_ne hn s y
  · obtain ⟨v, c, hnew, -⟩ := newShaper_eq sh (es.zipIdx.foldl (putEgressQ p) { s with cmd := x })
    rw [putEgress_eq, hnew]
    exact foldl_keeps (F := fun s => s.q.tab) es.zipIdx { s with cmd := x } fun s y => putEgressQ_tab s y
  · rw [hx]
    exact eq_merged (m := { clk := true, q := true, ports := true }) (by simp)

end Egress

/-! ### Policers (R160, R161) -/

section Policers
variable {h : Hdr} {s : State} {i : Nat}

theorem policers_set (v : Option Policer) (s : State) :
    Tbl.get none (modQ (fun q => { q with policers := Tbl.set none q.policers i v }) s).q.policers i = v := by
  rw [modQ_q]
  exact Tbl.get_set_self _ _ _ _

theorem policers_set_ne {k : Nat} (hk : k ≠ i) (v : Option Policer) (s : State) :
    Tbl.get none (modQ (fun q => { q with policers := Tbl.set none q.policers i v }) s).q.policers k = Tbl.get none s.q.policers k := by
  rw [modQ_q]
  exact Tbl.get_set_ne _ _ _ hk

theorem policerSet {p : PolicerParams} {refill : Bool} {v : Policer} (hr : runsNow h (.policerSet i p refill) s)
    (hcheck : checkPolicer i p = .ok) {P : State → Prop}
    (hput : ∀ x : CmdChannel, putPolicer i p refill { s with cmd := x } =
      modQ (fun q => { q with policers := Tbl.set none q.policers i (some v) }) { s with cmd := x })
    (hP : ∀ t, Tbl.get none t.q.policers i = some v →
      (∀ k, k ≠ i → Tbl.get none t.q.policers k = Tbl.get none s.q.policers k) →
      t = { takeUp h s with q := { s.q with policers := t.q.policers } } → P t) :
    completes (.policerSet h i p refill) h 0x0708 s P := by
  obtain ⟨x, hx⟩ := takeUp_cmd h s
  have hbody : ∃ d, doPolicerSet i p refill { s with cmd := x } = okData d (putPolicer i p refill { s with cmd := x }) := by
    unfold doPolicerSet
    rw [hcheck]
    exact ⟨_, rfl⟩
  obtain ⟨d, hbody⟩ := hbody
  rw [hput x] at hbody
  refine completes_taken hx hr rfl rfl rfl hbody (hP _ (policers_set _ _) (fun k hk => policers_set_ne hk _ _) ?_)
  rw [hx]
  rfl

theorem policerCreated {p : PolicerParams} {refill : Bool} (hr : runsNow h (.policerSet i p refill) s) (hcheck : checkPolicer i p = .ok)
    (hnone : Tbl.get none s.q.policers i = none) : completes (.policerSet h i p refill) h 0x0708 s fun t =>
      Tbl.get none t.q.policers i =
        some { p := p, tc := p.cbs * 65536, tx := p.xbs * 65536, at_ := switchTime s } ∧
      (∀ k, k ≠ i → Tbl.get none t.q.policers k = Tbl.get none s.q.policers k) ∧
      t = { takeUp h s with q := { s.q with policers := t.q.policers } } := by
  refine policerSet hr hcheck (fun x => ?_) fun t hself hne hrest => ⟨hself, hne, hrest⟩
  unfold putPolicer
  rw [hnone]
  rfl

/-- A policer that is set again, once it is credited. -/
def resetPolicer (old : Policer) (p : PolicerParams) (refill : Bool) (now : Instant) : Policer :=
  if refill || old.p.mode != p.mode then { old.credit now with p := p, tc := p.cbs * 65536, tx := p.xbs * 65536 }
  else { old.credit now with p := p, tc := min (old.credit now).tc (p.cbs * 65536), tx := min (old.credit now).tx (p.xbs * 65536) }

/-- A credit leaves a policer's counts and settings. -/
theorem credit_keeps {β : Type} {F : Policer → β} (hF : ∀ x c e t, F { x with tc := c, tx := e, at_ := t } = F x) (x : Policer)
    (now : Instant) : F (x.credit now) = F x := by
  unfold Policer.credit
  dsimp only
  split
  · exact hF _ _ _ _
  · exact hF _ _ _ _

theorem policerReset {p : PolicerParams} {refill : Bool} {old : Policer} (hr : runsNow h (.policerSet i p refill) s)
    (hcheck : checkPolicer i p = .ok) (hold : Tbl.get none s.q.policers i = some old) :
    completes (.policerSet h i p refill) h 0x0708 s fun t =>
      (∃ x, Tbl.get none t.q.policers i = some x ∧ x.p = p ∧ x.tc ≤ p.cbs * 65536 ∧ x.tx ≤ p.xbs * 65536 ∧
        x.nGreen = old.nGreen ∧ x.nYellow = old.nYellow ∧ x.nRed = old.nRed ∧
        (refill = true ∨ old.p.mode ≠ p.mode → x.tc = p.cbs * 65536 ∧ x.tx = p.xbs * 65536)) ∧
      (∀ k, k ≠ i → Tbl.get none t.q.policers k = Tbl.get none s.q.policers k) ∧
      t = { takeUp h s with q := { s.q with policers := t.q.policers } } := by
  refine policerSet (v := resetPolicer old p refill (switchTime s)) hr hcheck (fun x => ?_) fun t hself hne hrest =>
    ⟨⟨_, hself, ?_⟩, hne, hrest⟩
  · unfold putPolicer
    rw [hold]
    rfl
  · unfold resetPolicer
    by_cases hfull : (refill || old.p.mode != p.mode) = true
    · rw [if_pos hfull]
      exact ⟨rfl, Nat.le_refl _, Nat.le_refl _, credit_keeps (F := Policer.nGreen) (fun _ _ _ _ => rfl) old _,
        credit_keeps (F := Policer.nYellow) (fun _ _ _ _ => rfl) old _, credit_keeps (F := Policer.nRed) (fun _ _ _ _ => rfl) old _,
        fun _ => ⟨rfl, rfl⟩⟩
    · rw [if_neg hfull]
      refine ⟨rfl, Nat.min_le_right _ _, Nat.min_le_right _ _, credit_keeps (F := Policer.nGreen) (fun _ _ _ _ => rfl) old _,
        credit_keeps (F := Policer.nYellow) (fun _ _ _ _ => rfl) old _, credit_keeps (F := Policer.nRed) (fun _ _ _ _ => rfl) old _,
        fun hor => absurd (by simpa using hor) hfull⟩

/-- A policer as a read leaves it. -/
def readPolicer (old : Policer) (clear : Bool) (now : Instant) : Policer :=
  if clear then { old.credit now with nGreen := 0, nYellow := 0, nRed := 0, bGreen := 0, bYellow := 0, bRed := 0 } else old.credit now

theorem policerRead {clear : Bool} {old : Policer} (hr : runsNow h (.policerRead i clear) s) (hi : i < 2097152)
    (hold : Tbl.get none s.q.policers i = some old) : completes (.policerRead h i clear) h 0x0709 s fun t =>
      (∃ x, Tbl.get none t.q.policers i = some x ∧ x.p = old.p ∧ x.nGreen = (if clear then 0 else old.nGreen) ∧
        x.nYellow = (if clear then 0 else old.nYellow) ∧ x.nRed = (if clear then 0 else old.nRed) ∧
        x.bGreen = (if clear then 0 else old.bGreen) ∧ x.bYellow = (if clear then 0 else old.bYellow) ∧
        x.bRed = (if clear then 0 else old.bRed)) ∧
      (∀ k, k ≠ i → Tbl.get none t.q.policers k = Tbl.get none s.q.policers k) ∧
      t = { takeUp h s with q := { s.q with policers := t.q.policers } } := by
  obtain ⟨x, hx⟩ := takeUp_cmd h s
  have hbody : ∃ d, doPolicerRead i clear { s with cmd := x } = okData d (modQ (fun q => { q with
      policers := Tbl.set none q.policers i (some (readPolicer old clear (switchTime s))) }) { s with cmd := x }) := by
    unfold doPolicerRead
    rw [require_true (by simpa using hi)]
    dsimp only
    rw [hold]
    exact ⟨_, rfl⟩
  obtain ⟨d, hbody⟩ := hbody
  refine completes_taken hx hr rfl rfl rfl hbody ⟨⟨_, policers_set _ _, ?_⟩, fun k hk => policers_set_ne hk _ _, by rw [hx]; rfl⟩
  cases clear with
  | true => exact ⟨credit_keeps (F := Policer.p) (fun _ _ _ _ => rfl) old _, rfl, rfl, rfl, rfl, rfl, rfl⟩
  | false =>
    exact ⟨credit_keeps (F := Policer.p) (fun _ _ _ _ => rfl) old _, credit_keeps (F := Policer.nGreen) (fun _ _ _ _ => rfl) old _,
      credit_keeps (F := Policer.nYellow) (fun _ _ _ _ => rfl) old _, credit_keeps (F := Policer.nRed) (fun _ _ _ _ => rfl) old _,
      credit_keeps (F := Policer.bGreen) (fun _ _ _ _ => rfl) old _, credit_keeps (F := Policer.bYellow) (fun _ _ _ _ => rfl) old _,
      credit_keeps (F := Policer.bRed) (fun _ _ _ _ => rfl) old _⟩

theorem policerAbsent {clear : Bool} (hr : runsNow h (.policerRead i clear) s) (hi : i < 2097152)
    (hnone : Tbl.get none s.q.policers i = none) : failsWith (.policerRead h i clear) h 0x0709 .entryAbsent s := by
  obtain ⟨x, hx⟩ := takeUp_cmd h s
  have hbody : doPolicerRead i clear { s with cmd := x } = fail .entryAbsent { s with cmd := x } := by
    unfold doPolicerRead
    rw [require_true (by simpa using hi)]
    dsimp only
    rw [hnone]
  exact failsWith_taken hx hr rfl rfl rfl hbody

end Policers

/-- Settles O27: the nodes, the egress settings and the policers, each command by its checks. -/
theorem shapingCommands : Obligations.ShapingCommands := fun _ _ =>
  ⟨fun _ _ _ => nodeSet, fun _ _ _ _ _ => classNodeSet, fun _ _ _ _ _ => nodeRange, fun _ _ _ => egressConfigured,
    fun _ _ _ => policerCreated, fun _ _ _ _ => policerReset, fun _ _ _ => policerRead, fun _ _ => policerAbsent⟩

end Sys2Proof.Proofs.QueueCommands
end

section
/-!
Admission to the upstream store (chapters 05 and 07): O28.
-/
namespace Sys2Proof.Proofs.UpstreamAdmission
open Sys2Proof Sys2Proof.Machine Sys2Proof.Proofs.Frames Sys2Proof.Proofs.Rules Sys2Proof.Proofs.LineTimeEvents
open Sys2Proof.Proofs.RegistrationCommands Sys2Proof.Proofs.QueueCommands

set_option Elab.async false

@[simp] theorem pmcCount_q (a0 : PmcEvent) (s : State) : (pmcCount a0 s).q = s.q :=
  q_of_rest (m := { clk := true, evc := true, pmc := true, out := true }) (by simp)
@[simp] theorem traceStage_q (a0 : Option Nat) (a1 : Nat) (s : State) : (traceStage a0 a1 s).q = s.q :=
  q_of_rest (m := { pmc := true }) (by simp)
@[simp] theorem countArrival_q (a0 : Nat) (a1 : Nat) (a2 : Nat) (s : State) : (countArrival a0 a1 a2 s).q = s.q :=
  q_of_rest (m := { carriers := true }) (by simp)
@[simp] theorem markDiscarding_q (a0 : Nat) (s : State) : (markDiscarding a0 s).q = s.q :=
  q_of_rest (m := { carriers := true }) (by simp)
@[simp] theorem ageAll_reg (s : State) : (ageAll s).reg = s.reg :=
  reg_of_rest (m := { clk := true, carriers := true, q := true, evc := true, pmc := true, out := true }) (by simp)
@[simp] theorem ageAll_cmd (s : State) : (ageAll s).cmd = s.cmd :=
  cmd_of_rest (m := { clk := true, carriers := true, q := true, evc := true, pmc := true, out := true }) (by simp)

/-! ### Segmentation (R116, R148, R151, R152) -/

section Segmentation
variable {s : State} {k : Nat} {col : Colour} {p : QPkt} {l : List (Nat × Colour × QPkt)} {v : Queue}

/-- The state once the oldest staged packet is taken. -/
def unstaged (l : List (Nat × Colour × QPkt)) (s : State) : State := modQ (fun q => { q with staging := l }) s

/-- A queue with a packet more at the end of a carrier's list. -/
def joined (n : Nat) (p : QPkt) (v : Queue) : Queue := { v with lists := Tbl.modify [] v.lists n (· ++ [p]) }

/-- A packet is cut for its queue: it joins one carrier's list, or is dropped. -/
def cut (k : Nat) (col : Colour) (p : QPkt) (v : Queue) (s : State) : State :=
  if s.die.split then dropQ p (modQ (fun q => { q with nSplit := q.nSplit + 1 }) s)
  else if !(s.tribEntry p.trib).enable then admissionDrop (s.tribEntry p.trib).upCarrier p
    (fun s => modQueue k (fun v => { v with nTrib := v.nTrib + 1 }) (modQ (fun q => { q with nTrib := q.nTrib + 1 }) s)) s
  else if storeCells s < s.q.used + cellsOf p.bytes.length then admissionDrop (s.tribEntry p.trib).upCarrier p
    (fun s => modQueue k (fun v => { v with nStore := v.nStore + 1 }) (modQ (fun q => { q with nStore := q.nStore + 1 }) s)) s
  else if v.limit < v.cells + cellsOf p.bytes.length then admissionDrop (s.tribEntry p.trib).upCarrier p
    (fun s => modQueue k (fun v => { v with nLimit := v.nLimit + 1 }) (modQ (fun q => { q with nLimit := q.nLimit + 1 }) s)) s
  else if col = .yellow ∧ v.ylim < v.cells + cellsOf p.bytes.length then admissionDrop (s.tribEntry p.trib).upCarrier p
    (fun s => modQueue k (fun v => { v with nYellow := v.nYellow + 1 }) (modQ (fun q => { q with nYellow := q.nYellow + 1 }) s)) s
  else
    let s := setQueue k (some (joined (s.tribEntry p.trib).upCarrier { p with at_ := switchTime s } v)) s
    let s := countArrival (s.tribEntry p.trib).upCarrier p.cls (cellsOf p.bytes.length) (takeCellsIn (cellsOf p.bytes.length) s)
    traceStage p.trace 5 (pmcCount { code := 0x50, weight := cellsOf p.bytes.length, cls := some p.cls, cells := true } s)

theorem exec_homeless (hstaged : s.q.staging = (k, col, p) :: l) (hnone : s.queue k = none) :
    exec .segmentation s = .next (dropQ p (modQ (fun q => { q with nFlush := q.nFlush + 1 }) (unstaged l s))) := by
  change execSegmentation s = _
  unfold execSegmentation
  rw [hstaged]
  dsimp only
  rw [show (modQ (fun q => { q with staging := l }) s).queue k = none from hnone]
  rfl

theorem exec_cut (hstaged : s.q.staging = (k, col, p) :: l) (hsome : s.queue k = some v) :
    exec .segmentation s = .next (cut k col p v (unstaged l s)) := by
  change execSegmentation s = _
  unfold execSegmentation
  rw [hstaged]
  dsimp only
  rw [show (modQ (fun q => { q with staging := l }) s).queue k = some v from hsome]
  rfl

/-- What an admission drop leaves of the queues is what its counts leave. -/
theorem admissionDrop_q (n : Nat) (p : QPkt) (f : State → State) (s : State) : (admissionDrop n p f s).q = (f s).q := by
  unfold admissionDrop
  rw [raiseOnce_q, markDiscarding_q, dropQ_q]

theorem admissionDrop_discarding (n : Nat) (p : QPkt) (f : State → State) (s : State) :
    ((admissionDrop n p f s).carrier n).discarding = 2 := by
  unfold admissionDrop markDiscarding
  rw [raiseOnce_carrier, modCarrier_self]

/-- A drop counted in a queue that exists, and in the store. -/
theorem modQueue_some {f : Queue → Queue} {g : Queues → Queues} (htab : (g s.q).tab = s.q.tab) (hsome : s.queue k = some v) :
    modQueue k f (modQ g s) = setQueue k (some (f v)) (modQ g s) := by
  have hqueue : (modQ g s).queue k = some v := by
    unfold State.queue at hsome ⊢
    rw [modQ_q, htab]
    exact hsome
  unfold modQueue
  rw [hqueue]

theorem takeCellsIn_q (k : Nat) (s : State) : (takeCellsIn k s).q = { s.q with
    used := s.q.used + k, storeHigh := s.q.storeHigh || decide (storeCells s * 90 ≤ (s.q.used + k) * 100) } := by
  unfold takeCellsIn
  dsimp only
  split
  · rw [raise_q]
    rfl
  · rfl

theorem cut_rest {m : Scope} (hm : m.clk ∧ m.carriers ∧ m.q ∧ m.evc ∧ m.pmc ∧ m.out) (u : State) :
    rest m (cut k col p v u) = rest m u := by
  unfold cut
  dsimp only
  split_ifs <;> simp [admissionDrop, hm]

theorem cut_staging (u : State) : (cut k col p v u).q.staging = u.q.staging := by
  have hcounted (f : Queue → Queue) (g : Queues → Queues) (hg : (g u.q).staging = u.q.staging) :
      (modQueue k f (modQ g u)).q.staging = u.q.staging := by
    unfold modQueue
    split
    · exact hg
    · exact hg
  unfold cut
  dsimp only
  split_ifs
  · rw [dropQ_q]; rfl
  · rw [admissionDrop_q]; exact hcounted _ _ rfl
  · rw [admissionDrop_q]; exact hcounted _ _ rfl
  · rw [admissionDrop_q]; exact hcounted _ _ rfl
  · rw [admissionDrop_q]; exact hcounted _ _ rfl
  · rw [traceStage_q, pmcCount_q, countArrival_q, takeCellsIn_q]; rfl

theorem segmented (hstaged : s.q.staging = (k, col, p) :: l) : nextWith .segmentation s fun t =>
    t.q.staging = l ∧ t.reg = s.reg ∧
    t = { s with clk := t.clk, carriers := t.carriers, q := t.q, evc := t.evc, pmc := t.pmc, out := t.out } := by
  cases hqueue : s.queue k with
  | none =>
    exact nextWith_of (exec_homeless hstaged hqueue) ⟨by rw [dropQ_q]; rfl,
      reg_of_rest (m := { clk := true, carriers := true, q := true, evc := true, pmc := true, out := true }) (by simp [unstaged]),
      eq_merged (m := { clk := true, carriers := true, q := true, evc := true, pmc := true, out := true }) (by simp [unstaged])⟩
  | some v =>
    have hrest : rest { clk := true, carriers := true, q := true, evc := true, pmc := true, out := true }
        (cut k col p v (unstaged l s)) = rest { clk := true, carriers := true, q := true, evc := true, pmc := true, out := true } s :=
      (cut_rest (by simp) _).trans (by simp [unstaged])
    exact nextWith_of (exec_cut hstaged hqueue) ⟨cut_staging _, reg_of_rest hrest rfl, eq_merged hrest⟩

theorem homelessDropped (hstaged : s.q.staging = (k, col, p) :: l) (hnone : s.queue k = none) : nextWith .segmentation s fun t =>
    t.q = { s.q with staging := l, nFlush := s.q.nFlush + 1 } :=
  nextWith_of (exec_homeless hstaged hnone) (dropQ_q _ _)

theorem splitDropped (hstaged : s.q.staging = (k, col, p) :: l) (hsome : s.queue k = some v) (hsplit : s.die.split = true) :
    nextWith .segmentation s fun t => t.q = { s.q with staging := l, nSplit := s.q.nSplit + 1 } := by
  refine nextWith_of ((exec_cut hstaged hsome).trans (congrArg _ (if_pos hsplit))) ?_
  rw [dropQ_q]
  rfl

/-- What an admission drop with its counts `f` of the queue and `g` of the store leaves. -/
theorem dropped_counts {f : Queue → Queue} {g : Queues → Queues} {t : State} {n : Nat}
    (ht : t = admissionDrop n p (fun s => modQueue k f (modQ g s)) (unstaged l s)) (hsome : s.queue k = some v)
    (htab : ∀ q, (g q).tab = q.tab) :
    t.q = { g { s.q with staging := l } with tab := t.q.tab } ∧ t.queue k = some (f v) ∧
      (∀ j, j ≠ k → t.queue j = s.queue j) ∧ (t.carrier n).discarding = 2 := by
  have hq : t.q = (setQueue k (some (f v)) (modQ g (unstaged l s))).q := by
    rw [ht, admissionDrop_q, modQueue_some (s := unstaged l s) (htab _) hsome]
  refine ⟨by rw [hq]; rfl, ?_, fun j hj => ?_, by rw [ht]; exact admissionDrop_discarding _ _ _ _⟩
  · unfold State.queue
    rw [hq]
    exact setQueue_self k _ (modQ g (unstaged l s))
  · unfold State.queue
    rw [hq]
    refine (setQueue_ne j k _ (modQ g (unstaged l s)) hj).trans ?_
    unfold State.queue
    rw [modQ_q, htab]
    rfl

variable (hstaged : s.q.staging = (k, col, p) :: l) (hsome : s.queue k = some v) (hsplit : s.die.split = false)
include hstaged hsome hsplit

theorem tribDropped (hoff : (s.tribEntry p.trib).enable = false) : nextWith .segmentation s fun t =>
    t.q = { s.q with staging := l, nTrib := s.q.nTrib + 1, tab := t.q.tab } ∧ t.queue k = some { v with nTrib := v.nTrib + 1 } ∧
    (∀ j, j ≠ k → t.queue j = s.queue j) ∧ (t.carrier (s.tribEntry p.trib).upCarrier).discarding = 2 := by
  refine nextWith_of ((exec_cut hstaged hsome).trans (congrArg _ ((if_neg ?_).trans (if_pos ?_))))
    (dropped_counts (f := fun v => { v with nTrib := v.nTrib + 1 }) (g := fun q => { q with nTrib := q.nTrib + 1 }) rfl hsome fun _ => rfl)
  · exact (Bool.eq_false_iff.mp hsplit :)
  · exact (congrArg (!·) hoff :)

variable (hon : (s.tribEntry p.trib).enable = true)
include hon

/-- A packet whose tributary is enabled is cut past the first two checks. -/
theorem cut_enabled : exec .segmentation s = .next (
    if storeCells s < s.q.used + cellsOf p.bytes.length then admissionDrop (s.tribEntry p.trib).upCarrier p
      (fun s => modQueue k (fun v => { v with nStore := v.nStore + 1 }) (modQ (fun q => { q with nStore := q.nStore + 1 }) s)) (unstaged l s)
    else if v.limit < v.cells + cellsOf p.bytes.length then admissionDrop (s.tribEntry p.trib).upCarrier p
      (fun s => modQueue k (fun v => { v with nLimit := v.nLimit + 1 }) (modQ (fun q => { q with nLimit := q.nLimit + 1 }) s)) (unstaged l s)
    else if col = .yellow ∧ v.ylim < v.cells + cellsOf p.bytes.length then admissionDrop (s.tribEntry p.trib).upCarrier p
      (fun s => modQueue k (fun v => { v with nYellow := v.nYellow + 1 }) (modQ (fun q => { q with nYellow := q.nYellow + 1 }) s)) (unstaged l s)
    else traceStage p.trace 5 (pmcCount { code := 0x50, weight := cellsOf p.bytes.length, cls := some p.cls, cells := true }
      (countArrival (s.tribEntry p.trib).upCarrier p.cls (cellsOf p.bytes.length) (takeCellsIn (cellsOf p.bytes.length)
        (setQueue k (some (joined (s.tribEntry p.trib).upCarrier { p with at_ := switchTime s } v)) (unstaged l s)))))) := by
  refine (exec_cut hstaged hsome).trans (congrArg _ ((if_neg ?_).trans (if_neg ?_)))
  · exact (Bool.eq_false_iff.mp hsplit :)
  · exact (Bool.eq_false_iff.mp (congrArg (!·) hon) :)

theorem storeDropped (hfull : storeCells s < s.q.used + cellsOf p.bytes.length) : nextWith .segmentation s fun t =>
    t.q = { s.q with staging := l, nStore := s.q.nStore + 1, tab := t.q.tab } ∧ t.queue k = some { v with nStore := v.nStore + 1 } ∧
    (∀ j, j ≠ k → t.queue j = s.queue j) ∧ (t.carrier (s.tribEntry p.trib).upCarrier).discarding = 2 :=
  nextWith_of ((cut_enabled hstaged hsome hsplit hon).trans (congrArg _ (if_pos hfull)))
    (dropped_counts (f := fun v => { v with nStore := v.nStore + 1 }) (g := fun q => { q with nStore := q.nStore + 1 }) rfl hsome fun _ => rfl)

variable (hroom : s.q.used + cellsOf p.bytes.length ≤ storeCells s)
include hroom

theorem limitDropped (hlimit : v.limit < v.cells + cellsOf p.bytes.length) : nextWith .segmentation s fun t =>
    t.q.nLimit = s.q.nLimit + 1 ∧ t.q.used = s.q.used ∧ t.queue k = some { v with nLimit := v.nLimit + 1 } := by
  have hexec := (cut_enabled hstaged hsome hsplit hon).trans
    (congrArg Host.Outcome.next ((if_neg (Nat.not_lt.mpr hroom)).trans (if_pos hlimit)))
  obtain ⟨hq, hqueue, -, -⟩ := dropped_counts (f := fun v => { v with nLimit := v.nLimit + 1 })
    (g := fun q => { q with nLimit := q.nLimit + 1 }) (p := p) (l := l) (n := (s.tribEntry p.trib).upCarrier) rfl hsome fun _ => rfl
  exact nextWith_of hexec ⟨by rw [hq], by rw [hq], hqueue⟩

omit hstaged in
theorem yellowDropped (hstaged : s.q.staging = (k, .yellow, p) :: l) (hlimit : v.cells + cellsOf p.bytes.length ≤ v.limit)
    (hylim : v.ylim < v.cells + cellsOf p.bytes.length) : nextWith .segmentation s fun t =>
      t.q.nYellow = s.q.nYellow + 1 ∧ t.q.used = s.q.used ∧ t.queue k = some { v with nYellow := v.nYellow + 1 } := by
  have hexec := (cut_enabled hstaged hsome hsplit hon).trans (congrArg Host.Outcome.next ((if_neg (Nat.not_lt.mpr hroom)).trans
    ((if_neg (Nat.not_lt.mpr hlimit)).trans (if_pos ⟨rfl, hylim⟩))))
  obtain ⟨hq, hqueue, -, -⟩ := dropped_counts (f := fun v => { v with nYellow := v.nYellow + 1 })
    (g := fun q => { q with nYellow := q.nYellow + 1 }) (p := p) (l := l) (n := (s.tribEntry p.trib).upCarrier) rfl hsome fun _ => rfl
  exact nextWith_of hexec ⟨by rw [hq], by rw [hq], hqueue⟩

theorem admitted (hlimit : v.cells + cellsOf p.bytes.length ≤ v.limit)
    (hylim : col = .yellow → v.cells + cellsOf p.bytes.length ≤ v.ylim) : nextWith .segmentation s fun t =>
      t.q.used = s.q.used + cellsOf p.bytes.length ∧ (∀ j, j ≠ k → t.queue j = s.queue j) ∧
      ∃ w, t.queue k = some w ∧
        Tbl.get [] w.lists (s.tribEntry p.trib).upCarrier =
          Tbl.get [] v.lists (s.tribEntry p.trib).upCarrier ++ [{ p with at_ := switchTime s }] ∧
        ∀ n, n ≠ (s.tribEntry p.trib).upCarrier → Tbl.get [] w.lists n = Tbl.get [] v.lists n := by
  have hexec := (cut_enabled hstaged hsome hsplit hon).trans (congrArg Host.Outcome.next ((if_neg (Nat.not_lt.mpr hroom)).trans
    ((if_neg (Nat.not_lt.mpr hlimit)).trans (if_neg fun hyellow => Nat.not_lt.mpr (hylim hyellow.1) hyellow.2))))
  refine nextWith_of hexec ⟨?_, fun j hj => ?_,
    joined (s.tribEntry p.trib).upCarrier { p with at_ := switchTime s } v, ?_, by unfold joined; rw [Tbl.get_modify_self],
    fun n hn => by unfold joined; rw [Tbl.get_modify_ne _ _ _ hn]⟩
  · rw [traceStage_q, pmcCount_q, countArrival_q, takeCellsIn_q]
    rfl
  · unfold State.queue
    rw [traceStage_q, pmcCount_q, countArrival_q, takeCellsIn_q]
    exact setQueue_ne j k (some (joined (s.tribEntry p.trib).upCarrier { p with at_ := switchTime s } v)) (unstaged l s) hj
  · unfold State.queue
    rw [traceStage_q, pmcCount_q, countArrival_q, takeCellsIn_q]
    exact setQueue_self k (some (joined (s.tribEntry p.trib).upCarrier { p with at_ := switchTime s } v)) (unstaged l s)

end Segmentation

/-! ### The age check (R153) -/

theorem ageAll_store {β : Type} {F : Queues → β} (hF : ∀ q tab n u b, F { q with tab := tab, nAge := n, used := u, storeHigh := b } = F q)
    (s : State) : F (ageAll s).q = F s.q := by
  have hlist (k n : Nat) (s : State) : F (ageList k n s).q = F s.q := by
    unfold ageList
    split
    case h_1 => rfl
    case h_2 v _ =>
      dsimp only
      split
      · rfl
      · rw [raiseOnce_q, markDiscarding_q, dropQs_q]
        exact hF s.q _ _ _ _
  exact foldl_keeps (F := fun s : State => F s.q) _ _ fun s n => foldl_keeps (F := fun s : State => F s.q) _ _ fun s k => hlist k n s

theorem aged {s : State} (hidle : s.reg.state ≠ .operating ∨ s.die.split = true ∨ emitsNothing s = true)
    (hdue : s.q.agedAt + ms 1 ≤ s.clk.now) : nextWith .ageCheck s fun t =>
      t.q.agedAt = s.clk.now ∧ t.q.staging = s.q.staging ∧ t.reg = s.reg ∧ t.cmd = s.cmd := by
  have hexec : exec .ageCheck s = .next (ageAll (modQ (fun q => { q with agedAt := s.clk.now }) s)) :=
    congrArg Host.Outcome.next (if_pos ⟨hidle, hdue⟩)
  exact nextWith_of hexec ⟨ageAll_store (F := Queues.agedAt) (fun _ _ _ _ _ => rfl) _,
    ageAll_store (F := Queues.staging) (fun _ _ _ _ _ => rfl) _, ageAll_reg _, ageAll_cmd _⟩

theorem notAged {s : State} (hstate : s.reg.state = .operating) (hsplit : s.die.split = false) (hemits : emitsNothing s = false) :
    exec .ageCheck s = .next s :=
  congrArg Host.Outcome.next (if_neg fun hage => by simp [hstate, hsplit, hemits] at hage)

/-- Settles O28: per reason that the staged packet's admission finds first. -/
theorem upstreamAdmission : Obligations.UpstreamAdmission := fun s =>
  ⟨fun hnone => by change execSegmentation s = _; simp [execSegmentation, hnone], fun _ _ _ _ => segmented, fun _ _ _ _ => homelessDropped,
    fun _ _ _ _ _ => splitDropped, fun _ _ _ _ _ => tribDropped, fun _ _ _ _ _ => storeDropped, fun _ _ _ _ _ => limitDropped,
    fun _ _ _ _ hstaged hsome hsplit hon hroom hlimit hylim => yellowDropped hsome hsplit hon hroom hstaged hlimit hylim,
    fun _ _ _ _ _ => admitted, aged, notAged⟩

end Sys2Proof.Proofs.UpstreamAdmission
end

section
/-!
Timing wheels, gate lists and the barometer (chapter 07): O29.
-/
namespace Sys2Proof.Proofs.WheelsGatesBarometer
open Sys2Proof Sys2Proof.Machine Sys2Proof.Proofs.Frames Sys2Proof.Proofs.Rules Sys2Proof.Proofs.LineTimeEvents

set_option Elab.async false

/-! ### What an operation on the wheels changes (R156) -/

/-- The two states differ in the items on the wheels alone. -/
def wheelsOnly (s t : State) : Prop := t = { s with q := { s.q with fine := t.q.fine, coarse := t.q.coarse } }

theorem wheelsOnly.trans {s t u : State} (h : wheelsOnly s t) (h' : wheelsOnly t u) : wheelsOnly s u := by
  unfold wheelsOnly at *
  rw [h'.trans (by rw [h])]

theorem wheelsOnly_placeItem (k : WheelKind) (d : Instant) (s : State) : wheelsOnly s (placeItem k d s) := by
  unfold wheelsOnly placeItem
  dsimp only
  split <;> rfl

theorem wheelsOnly_unplace (k : WheelKind) (s : State) : wheelsOnly s (unplace k s) := rfl

theorem wheelsOnly.withPorts {s t u : State} (h : wheelsOnly t u) (ht : t = { s with
    ports := t.ports, q := { s.q with fine := t.q.fine, coarse := t.q.coarse } }) : u = { s with
      ports := u.ports, q := { s.q with fine := u.q.fine, coarse := u.q.coarse } } := by
  unfold wheelsOnly at h
  rw [h, ht]

theorem withEvents {s t u : State} (ht : t = { s with
    ports := t.ports, q := { s.q with fine := t.q.fine, coarse := t.q.coarse } })
    (h : u = { t with evc := u.evc, out := u.out }) : u = { s with
      ports := u.ports, q := { s.q with fine := u.q.fine, coarse := u.q.coarse }, evc := u.evc, out := u.out } := by
  rw [h, ht]

theorem wheelsOnly.keeps {β : Type} {F : State → β} {s t : State} (h : wheelsOnly s t)
    (hF : ∀ f c, F { s with q := { s.q with fine := f, coarse := c } } = F s) : F t = F s := by
  rw [h]
  exact hF _ _

@[simp] theorem placeItem_ports (k : WheelKind) (d : Instant) (s : State) : (placeItem k d s).ports = s.ports :=
  (wheelsOnly_placeItem k d s).keeps (F := State.ports) fun _ _ => rfl

@[simp] theorem placeItem_port (k : WheelKind) (d : Instant) (s : State) (p : Nat) : (placeItem k d s).port p = s.port p :=
  (wheelsOnly_placeItem k d s).keeps (F := fun s => s.port p) fun _ _ => rfl

@[simp] theorem placeItem_watch (k : WheelKind) (d : Instant) (s : State) : (placeItem k d s).q.watch = s.q.watch :=
  (wheelsOnly_placeItem k d s).keeps (F := fun s => s.q.watch) fun _ _ => rfl

@[simp] theorem placeItem_tab (k : WheelKind) (d : Instant) (s : State) : (placeItem k d s).q.tab = s.q.tab :=
  (wheelsOnly_placeItem k d s).keeps (F := fun s => s.q.tab) fun _ _ => rfl

theorem waits_of_mem {i : WheelItem} {s : State} (h : i ∈ s.q.fine ∨ i ∈ s.q.coarse) : waits i.kind s = true :=
  Bool.or_eq_true_iff.mpr (h.imp (fun h => List.any_eq_true.mpr ⟨i, h, beq_self_eq_true _⟩)
    fun h => List.any_eq_true.mpr ⟨i, h, beq_self_eq_true _⟩)

theorem placeItem_near {k : WheelKind} {d : Instant} {s : State} (h : 5 * d < 5 * switchTime s + coarseFifths) :
    (placeItem k d s).q.fine = s.q.fine.filter (fun i => i.kind != k) ++ [{ kind := k, due := d, slot := gridSlot d }] :=
  congrArg (fun s : State => s.q.fine) (if_pos h)

theorem placeItem_far {k : WheelKind} {d : Instant} {s : State} (h : ¬ 5 * d < 5 * switchTime s + coarseFifths) :
    (placeItem k d s).q.coarse = s.q.coarse.filter (fun i => i.kind != k) ++
      [{ kind := k, due := d, slot := min (coarseSlot d) (coarseSlot (switchTime s) + 8191) }] :=
  congrArg (fun s : State => s.q.coarse) (if_neg h)

theorem placeItem_mem (k : WheelKind) (d : Instant) (s : State) :
    ∃ n, { kind := k, due := d, slot := n } ∈ (placeItem k d s).q.fine ∨
      { kind := k, due := d, slot := n } ∈ (placeItem k d s).q.coarse := by
  by_cases hnear : 5 * d < 5 * switchTime s + coarseFifths
  · rw [placeItem_near hnear]
    exact ⟨_, .inl (List.mem_append_right _ (List.mem_singleton_self _))⟩
  · rw [placeItem_far hnear]
    exact ⟨_, .inr (List.mem_append_right _ (List.mem_singleton_self _))⟩

/-- An item that has been placed waits. -/
theorem waits_placeItem (k : WheelKind) (d : Instant) (s : State) : waits k (placeItem k d s) = true := by
  obtain ⟨n, hn⟩ := placeItem_mem k d s
  exact waits_of_mem hn

theorem waits_unplace (k : WheelKind) (s : State) : waits k (unplace k s) = false := by
  simp [waits, unplace]

/-! ### The wheels turn (R156, R157) -/

theorem coarseSlot_lt {t d : Instant} (h : ¬ 5 * d < 5 * t + coarseFifths) : coarseSlot t < min (coarseSlot d) (coarseSlot t + 8191) := by
  have hspan {c : Nat} (hc : 0 < c) (h : 5 * t + c ≤ 5 * d) : 5 * t / c < 5 * d / c := by
    rw [← Nat.succ_le_iff, Nat.succ_eq_add_one, ← Nat.add_div_right _ hc]
    exact Nat.div_le_div_right h
  exact Nat.lt_min.mpr ⟨hspan (Nat.two_pow_pos 35) (Nat.not_lt.mp h), Nat.lt_add_of_pos_right (Nat.succ_pos 8190)⟩

/-- What stays in the coarse wheel when an item is placed is later than line time's slot, or was there and is of another kind. -/
theorem placeItem_coarse {k : WheelKind} {d : Instant} {s : State} {i : WheelItem} (h : i ∈ (placeItem k d s).q.coarse) :
    coarseSlot (switchTime s) < i.slot ∨ i ∈ s.q.coarse ∧ i.kind ≠ k := by
  unfold placeItem at h
  dsimp only at h
  split at h
  · exact .inr (by simpa using h)
  case isFalse hfar =>
    rcases List.mem_append.mp h with hold | hnew
    · exact .inr (by simpa using hold)
    · rw [List.mem_singleton.mp hnew]
      exact .inl (coarseSlot_lt hfar)

theorem placeItem_fine {k : WheelKind} {d : Instant} {s : State} {i : WheelItem} (h : i ∈ (placeItem k d s).q.fine) :
    i = { kind := k, due := d, slot := gridSlot d } ∨ i ∈ s.q.fine ∧ i.kind ≠ k := by
  unfold placeItem at h
  dsimp only at h
  split at h
  · rcases List.mem_append.mp h with hold | hnew
    · exact .inr (by simpa using hold)
    · exact .inl (List.mem_singleton.mp hnew)
  · exact .inr (by simpa using h)

theorem placeItem_time (k : WheelKind) (d : Instant) (s : State) : switchTime (placeItem k d s) = switchTime s :=
  (wheelsOnly_placeItem k d s).keeps (F := switchTime) fun _ _ => rfl

/-- Of the items moved to the fine wheel none stays behind in the coarse one. -/
theorem moved_coarse {l : List WheelItem} {s : State} (h : ∀ i ∈ s.q.coarse, coarseSlot (switchTime s) < i.slot ∨ i ∈ l) :
    ∀ i ∈ (l.foldl (fun s i => placeItem i.kind i.due s) s).q.coarse, coarseSlot (switchTime s) < i.slot := by
  induction l generalizing s with
  | nil => simpa using h
  | cons a l ih =>
    rw [List.foldl_cons, ← placeItem_time a.kind a.due s]
    refine ih fun i hi => ?_
    rw [placeItem_time]
    rcases placeItem_coarse hi with hlate | ⟨hold, hkind⟩
    · exact .inl hlate
    · rcases h i hold with hlate | hmem
      · exact .inl hlate
      · rcases List.mem_cons.mp hmem with rfl | hmem
        · exact absurd rfl hkind
        · exact .inr hmem

theorem moved_wheelsOnly (l : List WheelItem) (s : State) : wheelsOnly s (l.foldl (fun s i => placeItem i.kind i.due s) s) := by
  induction l generalizing s with
  | nil => rfl
  | cons a l ih => exact (wheelsOnly_placeItem _ _ _).trans (ih _)

/-- A shaper that is out of tokens at `t` has them back after `t` (R158). -/
theorem lt_backAt {x : Shaper} {t : Instant} (hrate : 1 ≤ x.p.rate) (h : (x.credit t).conforms = false) : t < x.backAt := by
  have hceil {d : Nat} (hneg : x.tokens < 0) (hd : x.p.rate * d < x.tokens.natAbs) :
      x.at_ + d < x.backAt := by
    rw [Shaper.backAt, if_neg (Int.not_le.mpr hneg)]
    have : d < (x.tokens.natAbs + x.p.rate - 1) / x.p.rate := by
      rw [← Nat.succ_le_iff, Nat.le_div_iff_mul_le hrate, Nat.succ_mul, Nat.mul_comm]
      omega
    exact Nat.add_lt_add_left this _
  unfold Shaper.credit at h
  split at h
  case isTrue hpast =>
    have hneg : x.tokens < 0 := by simpa [Shaper.conforms] using h
    exact hpast.trans_lt (hceil (d := 0) hneg (by simpa using hneg.ne))
  case isFalse hpast =>
    have hneg : x.tokens + x.p.rate * ((t - x.at_ : Nat) : Int) < 0 := by
      have hburst : (0 : Int) ≤ x.p.burst * tokenByte := by
        unfold tokenByte
        omega
      have hmin : min (x.p.burst * tokenByte) (x.tokens + x.p.rate * ((t - x.at_ : Nat) : Int)) < 0 := by
        exact Int.not_le.mp (of_decide_eq_false h)
      exact (min_lt_iff.mp hmin).resolve_left (Int.not_lt.mpr hburst)
    have hcredit : x.p.rate * (t - x.at_) < x.tokens.natAbs := by
      have : ((x.p.rate * (t - x.at_) : Nat) : Int) < -x.tokens := by
        rw [Nat.cast_mul]
        linarith
      exact Int.ofNat_lt.mp (this.trans_le (by rw [Int.natCast_natAbs]; exact neg_le_abs _))
    have hback := hceil ((le_add_of_nonneg_right (by positivity)).trans_lt hneg) hcredit
    exact (Nat.add_sub_of_le (Nat.not_le.mp hpast).le).symm.trans_lt hback

/-- A grid slot that starts after `t` is a later one than the slot `t` lies in (R37). -/
theorem lt_gridSlot {t d : Nat} (h : t < d) : 5 * t / gridFifths < gridSlot d := by
  unfold gridSlot gridFifths
  omega

section Evaluate
variable {s : State} (hrate : ∀ k x, shaperOf s k = some x → 1 ≤ x.p.rate)

theorem wheelsOnly.rates {s t : State} (h : wheelsOnly s t) (hrate : ∀ k x, shaperOf s k = some x → 1 ≤ x.p.rate) :
    ∀ k x, shaperOf t k = some x → 1 ≤ x.p.rate := by
  intro k
  rw [h.keeps (F := fun s => shaperOf s k) fun _ _ => by cases k <;> rfl]
  exact hrate k

theorem evaluateItem_wheelsOnly (i : WheelItem) (s : State) : wheelsOnly s (evaluateItem i s) := by
  unfold evaluateItem
  dsimp only
  split
  · exact wheelsOnly_unplace _ _
  · split
    · exact wheelsOnly_unplace _ _
    · exact (wheelsOnly_unplace _ _).trans (wheelsOnly_placeItem _ _ _)

theorem evaluateItem_coarse {i j : WheelItem} (h : j ∈ (evaluateItem i s).q.coarse) :
    coarseSlot (switchTime s) < j.slot ∨ j ∈ s.q.coarse := by
  have hunplace (h : j ∈ (unplace i.kind s).q.coarse) : j ∈ s.q.coarse := List.mem_of_mem_filter h
  unfold evaluateItem at h
  dsimp only at h
  split at h
  · exact .inr (hunplace h)
  · split at h
    · exact .inr (hunplace h)
    · exact (placeItem_coarse h).imp id fun h => hunplace h.1

include hrate in
theorem evaluateItem_fine {i j : WheelItem} (h : j ∈ (evaluateItem i s).q.fine) :
    5 * switchTime s / gridFifths < j.slot ∨ j ∈ s.q.fine ∧ j.kind ≠ i.kind := by
  have hunplace (h : j ∈ (unplace i.kind s).q.fine) : j ∈ s.q.fine ∧ j.kind ≠ i.kind := by simpa [unplace] using h
  unfold evaluateItem at h
  dsimp only at h
  split at h
  · exact .inr (hunplace h)
  case h_2 x hx =>
    split at h
    · exact .inr (hunplace h)
    case isFalse hout =>
      rcases placeItem_fine h with rfl | ⟨hold, -⟩
      · exact .inl (lt_gridSlot (lt_backAt ((wheelsOnly_unplace i.kind s).rates hrate _ _ hx) (Bool.eq_false_iff.mpr hout)))
      · exact .inr (hunplace hold)

end Evaluate

/-- The items whose slot has come, evaluated one after the other. -/
theorem evaluated {l : List WheelItem} {s : State} (hrate : ∀ k x, shaperOf s k = some x → 1 ≤ x.p.rate)
    (hcoarse : ∀ i ∈ s.q.coarse, coarseSlot (switchTime s) < i.slot)
    (hfine : ∀ i ∈ s.q.fine, 5 * switchTime s / gridFifths < i.slot ∨ i.kind.hasRow = true ∨ i ∈ l) :
    wheelsOnly s (l.foldl (fun s i => evaluateItem i s) s) ∧
    (∀ i ∈ (l.foldl (fun s i => evaluateItem i s) s).q.coarse, coarseSlot (switchTime s) < i.slot) ∧
    ∀ i ∈ (l.foldl (fun s i => evaluateItem i s) s).q.fine, 5 * switchTime s / gridFifths < i.slot ∨ i.kind.hasRow = true := by
  induction l generalizing s with
  | nil => exact ⟨rfl, hcoarse, by simpa using hfine⟩
  | cons a l ih =>
    have hstep := evaluateItem_wheelsOnly a s
    have htime : switchTime (evaluateItem a s) = switchTime s := hstep.keeps (F := switchTime) fun _ _ => rfl
    obtain ⟨honly, hc, hf⟩ := ih (s := evaluateItem a s) (hstep.rates hrate)
      (fun i hi => by rw [htime]; exact (evaluateItem_coarse hi).elim id (hcoarse i))
      (fun i hi => by
        rw [htime]
        rcases evaluateItem_fine hrate hi with hlate | ⟨hold, hkind⟩
        · exact .inl hlate
        · refine (hfine i hold).imp id (Or.imp id fun hmem => ?_)
          exact (List.mem_cons.mp hmem).resolve_left fun h => hkind (by rw [h]))
    rw [htime] at hc hf
    exact ⟨hstep.trans honly, hc, hf⟩

theorem wheelTurned {s : State} (hrate : ∀ k x, shaperOf s k = some x → 1 ≤ x.p.rate) : nextWith .wheelSlot s fun t =>
    (∀ i ∈ t.q.coarse, coarseSlot (switchTime s) < i.slot) ∧
    (∀ i ∈ t.q.fine, 5 * switchTime s / gridFifths < i.slot ∨ i.kind.hasRow = true) ∧
    t = { s with q := { s.q with fine := t.q.fine, coarse := t.q.coarse } } := by
  have hmoved := moved_wheelsOnly (s.q.coarse.filter fun i => decide (i.slot ≤ coarseSlot (switchTime s))) s
  have htime := hmoved.keeps (F := switchTime) fun _ _ => rfl
  have hcoarse := moved_coarse (s := s) (l := s.q.coarse.filter fun i => decide (i.slot ≤ coarseSlot (switchTime s)))
    fun i hi => by
      by_cases hlate : coarseSlot (switchTime s) < i.slot
      · exact .inl hlate
      · exact .inr (List.mem_filter.mpr ⟨hi, by simpa using hlate⟩)
  have hexec : exec .wheelSlot s = execWheelSlot s := rfl
  unfold execWheelSlot at hexec
  dsimp only at hexec
  generalize List.foldl (fun (s : State) (i : WheelItem) => placeItem i.kind i.due s) s _ = u at *
  rw [← htime] at hcoarse
  obtain ⟨honly, hc, hf⟩ := evaluated (s := u) (l := List.insertionSort (fun a b : WheelItem => a.slot ≤ b.slot)
    (u.q.fine.filter fun i => decide (i.slot ≤ 5 * switchTime u / gridFifths) && !i.kind.hasRow)) (hmoved.rates hrate) hcoarse
    fun i hi => by
      by_cases hlate : 5 * switchTime u / gridFifths < i.slot
      · exact .inl hlate
      · by_cases hrow : i.kind.hasRow = true
        · exact .inr (.inl hrow)
        · exact .inr (.inr ((List.mem_insertionSort _).mpr (List.mem_filter.mpr ⟨hi, by simpa [hrow] using hlate⟩)))
  exact nextWith_of hexec ⟨fun i hi => htime ▸ hc i hi, fun i hi => htime ▸ hf i hi, hmoved.trans honly⟩

/-! ### Gate lists (R162, R163) -/

section Gates
variable {h : Hdr} {s : State} {p : Nat}

theorem gateListSet {g : GateList} (hr : runsNow h (.gateListSet p g) s) (hcheck : checkGateList p g s = .ok) :
    completes (.gateListSet h p g) h 0x070A s fun t =>
      t.port p = { s.port p with gateNext := some {
        list := g, s := (gateStart g (switchTime s)).1, late := (gateStart g (switchTime s)).2 } } ∧
      otherPorts p s t ∧ t = { takeUp h s with ports := t.ports, q := { s.q with fine := t.q.fine, coarse := t.q.coarse } } := by
  obtain ⟨x, hx⟩ := takeUp_cmd h s
  have hbody : ∃ d, doGateListSet p g { s with cmd := x } = okData d (putGateList p g (switchTime s) { s with cmd := x }) := by
    unfold doGateListSet
    rw [show checkGateList p g { s with cmd := x } = checkGateList p g s from rfl, hcheck]
    exact ⟨_, rfl⟩
  obtain ⟨d, hbody⟩ := hbody
  have honly : wheelsOnly (modPort p (fun v => { v with gateNext := some {
      list := g, s := (gateStart g (switchTime s)).1, late := (gateStart g (switchTime s)).2 } }) { s with cmd := x })
      (putGateList p g (switchTime s) { s with cmd := x }) := wheelsOnly_placeItem _ _ _
  refine completes_taken hx hr rfl rfl rfl hbody ⟨?_, fun m hm => ?_, ?_⟩
  · exact (placeItem_port _ _ _ _).trans (modPort_self _ _ _)
  · exact (placeItem_port _ _ _ _).trans (modPort_ne _ _ _ _ hm)
  · rw [show (putGateList p g (switchTime s) { s with cmd := x }).ports = _ from placeItem_ports _ _ _, hx]
    exact honly

section Running
variable {r : GateRun} (hvalid : switchValid s = true)
include hvalid

theorem regate_running (hrun : (s.port p).gate = some r) :
    regate p s = modPort p (fun v => { v with gates := gatesOf r.list (switchTime s), fellBack := false }) s := by
  unfold regate
  rw [hrun]
  exact if_pos hvalid

/-- The port once its waiting list runs, with the list's first change on the wheel. -/
def startedList (p : Nat) (r : GateRun) (s : State) : State :=
  placeItem (.gate p) (nextGate r.list (switchTime s)) (modPort p (fun v => { v with gates := gatesOf r.list (switchTime s), fellBack := false })
    (modPort p (fun v => { v with gate := some r, gateNext := none }) (unplace (.gateStart p) s)))

omit hvalid in
theorem startedList_port (p : Nat) (r : GateRun) (s : State) : (startedList p r s).port p =
    { s.port p with gate := some r, gateNext := none, gates := gatesOf r.list (switchTime s), fellBack := false } := by
  unfold startedList
  rw [placeItem_port, modPort_self, modPort_self]
  rfl

omit hvalid in
theorem startedList_port_ne {m : Nat} (r : GateRun) (s : State) (hm : m ≠ p) : (startedList p r s).port m = s.port m := by
  unfold startedList
  rw [placeItem_port, modPort_ne _ _ _ _ hm, modPort_ne _ _ _ _ hm]
  rfl

omit hvalid in
theorem startedList_frame (p : Nat) (r : GateRun) (s : State) : startedList p r s = { s with
    ports := (startedList p r s).ports
    q := { s.q with fine := (startedList p r s).q.fine, coarse := (startedList p r s).q.coarse } } := by
  have honly : wheelsOnly (modPort p (fun v => { v with gates := gatesOf r.list (switchTime s), fellBack := false })
      (modPort p (fun v => { v with gate := some r, gateNext := none }) (unplace (.gateStart p) s))) (startedList p r s) :=
    wheelsOnly_placeItem _ _ _
  exact honly.withPorts rfl

/-- The events and the output that report the start of a list. -/
def reportStart (p : Nat) (r : GateRun) (s : State) : State :=
  if r.late then raise 0xB5 (emit (.gateStarted p r.s r.late) (raise 0xB4 s)) else emit (.gateStarted p r.s r.late) (raise 0xB4 s)

omit hvalid in
theorem reportStart_frame (p : Nat) (r : GateRun) (s : State) :
    reportStart p r s = { s with evc := (reportStart p r s).evc, out := (reportStart p r s).out } := by
  unfold reportStart
  split <;> exact eq_merged (m := { evc := true, out := true }) (by simp)

omit hvalid in
theorem reportStart_port (p : Nat) (r : GateRun) (s : State) (m : Nat) : (reportStart p r s).port m = s.port m := by
  rw [reportStart_frame]
  rfl

omit hvalid in
theorem reportStart_waits (p : Nat) (r : GateRun) (s : State) (k : WheelKind) : waits k (reportStart p r s) = waits k s := by
  rw [reportStart_frame]
  rfl

omit hvalid in
theorem reportStart_out (p : Nat) (r : GateRun) (s : State) : .gateStarted p r.s r.late ∈ (reportStart p r s).out := by
  unfold reportStart
  split
  · exact mem_raise 0xB5 List.mem_cons_self
  · exact List.mem_cons_self

theorem gateListStart_exec (hnext : (s.port p).gateNext = some r)
    (hdue : r.s ≤ switchTime s) (hturn : wheelTurn (.gateStart p) s = true) :
    exec (.gateListStart p) s = .next (reportStart p r (startedList p r s)) := by
  have hregate : regate p (modPort p (fun v => { v with gate := some r, gateNext := none }) (unplace (.gateStart p) s)) =
      modPort p (fun v => { v with gates := gatesOf r.list (switchTime s), fellBack := false })
        (modPort p (fun v => { v with gate := some r, gateNext := none }) (unplace (.gateStart p) s)) :=
    regate_running (s := modPort p (fun v => { v with gate := some r, gateNext := none }) (unplace (.gateStart p) s)) hvalid
      (by rw [modPort_self])
  have hcond : (switchValid s && decide (r.s ≤ switchTime s) && wheelTurn (.gateStart p) s) = true := by
    rw [hvalid, decide_eq_true hdue, hturn]
    rfl
  change execGateListStart p s = _
  unfold execGateListStart
  rw [hnext]
  dsimp only
  rw [if_pos hcond, hregate]
  unfold reportStart startedList
  rfl

theorem gateListStarted (hnext : (s.port p).gateNext = some r)
    (hdue : r.s ≤ switchTime s) (hturn : wheelTurn (.gateStart p) s = true) : nextWith (.gateListStart p) s fun t =>
      t.port p = { s.port p with gate := some r, gateNext := none, gates := gatesOf r.list (switchTime s), fellBack := false } ∧
      .gateStarted p r.s r.late ∈ t.out ∧ waits (.gate p) t = true ∧ otherPorts p s t ∧
      t = { s with
        ports := t.ports, q := { s.q with fine := t.q.fine, coarse := t.q.coarse }, evc := t.evc, out := t.out } := by
  have hexec := gateListStart_exec hvalid hnext hdue hturn
  refine nextWith_of hexec ⟨?_, reportStart_out _ _ _, ?_, fun m hm => ?_, ?_⟩
  · rw [reportStart_port, startedList_port]
  · rw [reportStart_waits]
    exact waits_placeItem _ _ _
  · rw [reportStart_port, startedList_port_ne _ _ hm]
  · exact withEvents (startedList_frame p r s) (reportStart_frame p r (startedList p r s))

theorem gateChanged (hrun : (s.port p).gate = some r) (hturn : wheelTurn (.gate p) s = true) : nextWith (.gateEvent p) s fun t =>
      t.port p = { s.port p with gates := gatesOf r.list (switchTime s), fellBack := false } ∧ otherPorts p s t ∧
      waits (.gate p) t = true ∧
      t = { s with ports := t.ports, q := { s.q with fine := t.q.fine, coarse := t.q.coarse } } := by
  have hexec : exec (.gateEvent p) s = .next (placeItem (.gate p) (nextGate r.list (switchTime s))
      (modPort p (fun v => { v with gates := gatesOf r.list (switchTime s), fellBack := false }) s)) := by
    change execGateEvent p s = _
    unfold execGateEvent
    rw [hrun]
    dsimp only
    rw [if_pos (by rw [hvalid, hturn]; rfl), regate_running hvalid hrun]
  refine nextWith_of hexec ⟨?_, fun m hm => ?_, waits_placeItem _ _ _, ?_⟩
  · exact (placeItem_port _ _ _ _).trans (modPort_self _ _ _)
  · exact (placeItem_port _ _ _ _).trans (modPort_ne _ _ _ _ hm)
  · rw [placeItem_ports]
    exact wheelsOnly_placeItem _ _ _

end Running

theorem gateListWaits {r : GateRun} (hnext : (s.port p).gateNext = some r) (hdue : switchTime s < r.s) :
    exec (.gateListStart p) s = .next s := by
  change execGateListStart p s = _
  unfold execGateListStart
  rw [hnext]
  dsimp only
  rw [if_neg (by simp [hdue])]

end Gates
/-! ### The barometer (R166, R167) -/

section Barometer
variable {h : Hdr} {s : State} {i : Nat}

/-- The state with a watch slot set. -/
def setWatch (i : Nat) (v : Option Watch) (s : State) : State := modQ (fun q => { q with watch := Tbl.set none q.watch i v }) s

theorem setWatch_self (i : Nat) (v : Option Watch) (s : State) : Tbl.get none (setWatch i v s).q.watch i = v := Tbl.get_set_self _ _ _ _

theorem setWatch_ne {k : Nat} (i : Nat) (v : Option Watch) (s : State) (hk : k ≠ i) :
    Tbl.get none (setWatch i v s).q.watch k = Tbl.get none s.q.watch k := Tbl.get_set_ne _ _ _ hk

/-- A watch slot's settings are in range (R166). -/
abbrev watchOk (w : WatchParams) : Prop :=
  w.queue ≤ 65535 ∧ 1 ≤ w.period ∧ w.period ≤ 65535 ∧ 1 ≤ w.depthBase ∧ w.depthBase ≤ 16777215 ∧ 1 ≤ w.sojBase ∧ w.sojBase ≤ 16777215

variable (hi : i < 4096)
include hi

theorem watchSet {w : WatchParams} (hr : runsNow h (.barometerWatch i (some w)) s) (hok : watchOk w)
    (hport : w.queue < 256 → s.hasPort (w.queue / 8) = true) :
    completes (.barometerWatch h i (some w)) h 0x070C s fun t =>
        Tbl.get none t.q.watch i = some { p := w, due := nextSample w.period (switchTime s) } ∧
        (∀ k, k ≠ i → Tbl.get none t.q.watch k = Tbl.get none s.q.watch k) ∧ waits (.barometer i) t = true ∧
        t = { takeUp h s with q := { s.q with watch := t.q.watch, fine := t.q.fine, coarse := t.q.coarse } } := by
  obtain ⟨x, hx⟩ := takeUp_cmd h s
  have hbody : doBarometerWatch i (some w) { s with cmd := x } = okData [] (placeItem (.barometer i) (nextSample w.period (switchTime s))
      (setWatch i (some { p := w, due := nextSample w.period (switchTime s) }) { s with cmd := x })) := by
    unfold doBarometerWatch
    dsimp only
    rw [require_true (by rw [decide_eq_true hi, decide_eq_true hok]; rfl), require_true]
    · rfl
    · by_cases hq : w.queue < 256
      · simp [hq, show State.hasPort { s with cmd := x } (w.queue / 8) = true from hport hq]
      · simp [hq]
  refine completes_taken hx hr rfl rfl rfl hbody ⟨?_, fun k hk => ?_, waits_placeItem _ _ _, ?_⟩
  · rw [placeItem_watch]
    exact setWatch_self _ _ _
  · rw [placeItem_watch]
    exact setWatch_ne _ _ _ hk
  · rw [placeItem_watch, hx]
    exact wheelsOnly_placeItem _ _ _

theorem watchAbsent {w : WatchParams} (hr : runsNow h (.barometerWatch i (some w)) s) (hok : watchOk w)
    (hq : w.queue < 256) (hport : s.hasPort (w.queue / 8) = false) : failsWith (.barometerWatch h i (some w)) h 0x070C .unitAbsent s := by
  obtain ⟨x, hx⟩ := takeUp_cmd h s
  have hbody : doBarometerWatch i (some w) { s with cmd := x } = fail .unitAbsent { s with cmd := x } := by
    unfold doBarometerWatch
    dsimp only
    rw [require_true (by rw [decide_eq_true hi, decide_eq_true hok]; rfl), require_false]
    simp [hq, show State.hasPort { s with cmd := x } (w.queue / 8) = false from hport]
  exact failsWith_taken hx hr rfl rfl rfl hbody

theorem watchCleared (hr : runsNow h (.barometerWatch i none) s) : completes (.barometerWatch h i none) h 0x070C s fun t =>
    Tbl.get none t.q.watch i = none ∧ (∀ k, k ≠ i → Tbl.get none t.q.watch k = Tbl.get none s.q.watch k) ∧
    waits (.barometer i) t = false := by
  obtain ⟨x, hx⟩ := takeUp_cmd h s
  have hbody : doBarometerWatch i none { s with cmd := x } =
      okData [] (unplace (.barometer i) (setWatch i none { s with cmd := x })) := by
    unfold doBarometerWatch
    dsimp only
    rw [require_true (by rw [decide_eq_true hi]; rfl), require_true (ok := !false) rfl]
    rfl
  exact completes_taken hx hr rfl rfl rfl hbody ⟨setWatch_self i none s, fun k hk => setWatch_ne i none s hk, waits_unplace _ _⟩

variable {w : Watch} (hw : Tbl.get none s.q.watch i = some w)
include hw

theorem barometerRead (clear : Bool) (hr : runsNow h (.barometerRead i clear) s) :
    completes (.barometerRead h i clear) h 0x070D s fun t =>
      t = if clear then setWatch i (some { p := w.p, due := w.due }) (takeUp h s) else takeUp h s := by
  obtain ⟨x, hx⟩ := takeUp_cmd h s
  have hbody : ∃ d, doBarometerRead i clear { s with cmd := x } =
      okData d (if clear then setWatch i (some { p := w.p, due := w.due }) { s with cmd := x } else { s with cmd := x }) := by
    unfold doBarometerRead
    rw [require_true (decide_eq_true hi)]
    dsimp only
    rw [hw]
    exact ⟨_, rfl⟩
  obtain ⟨d, hbody⟩ := hbody
  exact completes_taken hx hr rfl rfl rfl hbody (by rw [hx])

omit hi

/-- The slot after a sample: its next one, depth and sojourn, the instant and the alarm. -/
def nextWatch (w : Watch) (due d j : Nat) (t : Instant) (alarm : Bool) : Watch :=
  { w with
    due := due, depth := addBin w.p.depthBase d w.depth, soj := addBin w.p.sojBase j w.soj, n := w.n + 1
    sumD := w.sumD + d, sumS := w.sumS + j, maxD := max w.maxD d, maxS := max w.maxS j
    first := if w.n = 0 then t else w.first, last := t, alarm := w.alarm || alarm }

/-- The sojourn is over the slot's alarm (R166). -/
def overAlarm (w : Watch) (s : State) : Bool := decide (0 < w.p.alarm ∧ w.p.alarm < (sampleOf w.p.queue s).2)

def sampled (w : Watch) (s : State) : Watch :=
  nextWatch w (w.due + us w.p.period) (sampleOf w.p.queue s).1 (sampleOf w.p.queue s).2 (switchTime s) (overAlarm w s)

omit hw in
theorem nextWatch_p (w : Watch) (due d j : Nat) (t : Instant) (alarm : Bool) : (nextWatch w due d j t alarm).p = w.p := rfl

omit hw in
theorem sampled_alarm (w : Watch) (s : State) : (sampled w s).alarm = true ↔
    w.alarm = true ∨ (0 < w.p.alarm ∧ w.p.alarm < (sampleOf w.p.queue s).2) :=
  (Bool.or_eq_true_iff).trans (or_congr_right decide_eq_true_iff)

/-- The state after a sample, before the alarm's event. -/
def sampledState (i : Nat) (w : Watch) (s : State) : State :=
  placeItem (.barometer i) (w.due + us w.p.period) (setWatch i (some (sampled w s)) s)

omit hw in
theorem sampledState_frame (i : Nat) (w : Watch) (s : State) : sampledState i w s = { s with q := (sampledState i w s).q } := by
  have honly {t u : State} (h : wheelsOnly t u) (ht : t = { s with q := t.q }) : u = { s with q := u.q } := by
    unfold wheelsOnly at h
    rw [h, ht]
  exact honly (wheelsOnly_placeItem _ _ _) rfl

theorem barometerSample_exec (hdue : w.due ≤ switchTime s) (hturn : wheelTurn (.barometer i) s = true) :
    exec (.barometerSample i) s =
      .next (if overAlarm w s then raiseOnce 0xB8 (sampledState i w s) else sampledState i w s) := by
  have hcond : ¬ (switchTime s < w.due ∨ (!wheelTurn (.barometer i) s) = true) := by simp [hdue, hturn]
  change execBarometerSample i s = _
  unfold execBarometerSample
  rw [hw]
  dsimp only
  rw [if_neg hcond]
  unfold sampledState setWatch sampled nextWatch overAlarm
  rfl

theorem barometerSampled (hdue : w.due ≤ switchTime s) (hturn : wheelTurn (.barometer i) s = true) :
    nextWith (.barometerSample i) s fun t =>
      Tbl.get none t.q.watch i = some (sampled w s) ∧
      (∀ k, k ≠ i → Tbl.get none t.q.watch k = Tbl.get none s.q.watch k) ∧ t.q.tab = s.q.tab ∧
      t = { s with clk := t.clk, q := t.q, evc := t.evc, out := t.out } := by
  have hexec := barometerSample_exec hw hdue hturn
  have hq : (if overAlarm w s then raiseOnce 0xB8 (sampledState i w s) else sampledState i w s).q = (sampledState i w s).q := by
    split
    · exact raiseOnce_q _ _
    · rfl
  have hwatch : (sampledState i w s).q.watch = (setWatch i (some (sampled w s)) s).q.watch := placeItem_watch _ _ _
  have hraise {t : State} (ht : t = { s with q := t.q }) (b : Bool) : (if b then raiseOnce 0xB8 t else t) = { s with
      clk := (if b then raiseOnce 0xB8 t else t).clk, q := (if b then raiseOnce 0xB8 t else t).q
      evc := (if b then raiseOnce 0xB8 t else t).evc, out := (if b then raiseOnce 0xB8 t else t).out } := by
    rw [ht]
    split <;> exact eq_merged (m := { clk := true, q := true, evc := true, out := true }) (by simp)
  refine nextWith_of hexec ⟨?_, fun k hk => ?_, ?_, hraise (sampledState_frame i w s) _⟩
  · rw [hq, hwatch]
    exact setWatch_self _ _ _
  · rw [hq, hwatch]
    exact setWatch_ne _ _ _ hk
  · rw [hq]
    exact placeItem_tab _ _ _

theorem barometerWaits (hdue : switchTime s < w.due) : exec (.barometerSample i) s = .next s := by
  change execBarometerSample i s = _
  unfold execBarometerSample
  rw [hw]
  dsimp only
  rw [if_pos (.inl hdue)]

end Barometer

/-- Settles O29: an item moved to the fine wheel leaves the coarse one, and a shaper still out of tokens waits past line time's slot;
a placed item waits, and one taken off does not. -/
theorem wheelsGatesBarometer : Obligations.WheelsGatesBarometer := by
  intro h s
  refine ⟨wheelTurned, fun p g => gateListSet, fun p r hn hv => gateListStarted hv hn, fun p r => gateListWaits,
    fun p r hg hv => gateChanged hv hg, fun i w hr hi hq hp hp' hd hd' hs hs' => watchSet hi hr ⟨hq, hp, hp', hd, hd', hs, hs'⟩,
    fun i w hr hi hq hp hp' hd hd' hs hs' => watchAbsent hi hr ⟨by omega, hp, hp', hd, hd', hs, hs'⟩ hq,
    fun i hr hi => watchCleared hi hr, fun i w hr hi hw => ?_, fun i w hr hi hw => barometerRead hi hw false hr,
    fun i w hw hdue hturn => ?_, fun i w => barometerWaits⟩
  · obtain ⟨d, t, hexec, rfl⟩ := barometerRead hi hw true hr
    refine ⟨d, _, hexec, setWatch_self i _ _, fun k hk => ?_, ?_⟩
    · exact (setWatch_ne i _ _ hk).trans (by rw [takeUp_eq])
    · obtain ⟨x, hx⟩ := takeUp_cmd h s
      rw [hx]
      rfl
  · obtain ⟨t, hexec, hself, hrest⟩ := barometerSampled hw hdue hturn
    exact ⟨t, hexec, ⟨_, hself, nextWatch_p _ _ _ _ _ _, rfl, rfl, rfl, rfl, rfl, rfl, rfl, sampled_alarm w s⟩, hrest⟩

end Sys2Proof.Proofs.WheelsGatesBarometer
end

section
/-!
Client egress (chapters 07 and 09): O30.
-/
namespace Sys2Proof.Proofs.ClientEgress
open Sys2Proof Sys2Proof.Machine Sys2Proof.Proofs.Frames Sys2Proof.Proofs.Rules Sys2Proof.Proofs.LineTimeEvents
open Sys2Proof.Proofs.Passes Sys2Proof.Proofs.Bursts Sys2Proof.Proofs.WheelsGatesBarometer

set_option Elab.async false

@[simp] theorem eligibleQs_ports (p : Nat) (s : State) : (eligibleQs p s).2.ports = s.ports :=
  ports_of_rest (m := { clk := true }) (by simp)

/-! ### What leaves the frame that a port sends as it is -/

/-- What a port sends and until when, whether it is up, and its mode. -/
def sending (v : Port) : Instant × Option Started × Bool × Option PortParams := (v.busy, v.started, v.up, v.cfg)

theorem sending_inj {v : Port} {a : Instant × Option Started × Bool × Option PortParams} :
    sending v = a ↔ v.busy = a.1 ∧ v.started = a.2.1 ∧ v.up = a.2.2.1 ∧ v.cfg = a.2.2.2 := by
  simp [sending, Prod.ext_iff]

/-- The step from `s` to `t` leaves every port but `p` as it is, and what `p` sends. -/
def quiet (p : Nat) (s t : State) : Prop := otherPorts p s t ∧ sending (t.port p) = sending (s.port p)

section Quiet
variable {p : Nat} {s t u : State}

theorem quiet.rfl' : quiet p s s := ⟨fun _ _ => rfl, rfl⟩

theorem quiet.trans (h : quiet p s t) (h' : quiet p t u) : quiet p s u :=
  ⟨fun m hm => (h'.1 m hm).trans (h.1 m hm), h'.2.trans h.2⟩

theorem port_of_ports (h : u.ports = t.ports) (m : Nat) : u.port m = t.port m := by
  unfold State.port
  rw [h]

theorem quiet.out (h : quiet p s t) (hports : u.ports = t.ports) : quiet p s u := by
  exact ⟨fun m hm => (port_of_ports hports m).trans (h.1 m hm), by rw [port_of_ports hports, h.2]⟩

theorem quiet.modPort (h : quiet p s t) {f : Port → Port} (hf : ∀ v, sending (f v) = sending v := by exact fun _ => rfl) :
    quiet p s (modPort p f t) :=
  ⟨fun m hm => (modPort_ne _ _ _ _ hm).trans (h.1 m hm), by rw [modPort_self, hf, h.2]⟩

theorem quiet_modStats (p : Nat) (g : PortStats → PortStats) (s : State) : quiet p s (modStats p g s) := quiet.rfl'.modPort

theorem quiet_foldl {α : Type} {f : State → α → State} (l : List α) (h : ∀ s a, quiet p s (f s a)) : quiet p s (l.foldl f s) := by
  induction l generalizing s with
  | nil => exact quiet.rfl'
  | cons a l ih => exact (h s a).trans ih

/-! ### The head of a queue (R165, R237) -/

/-- The state with a queue's frames replaced. -/
def setFrames (p q : Nat) (l : List EgFrame) (s : State) : State := modPort p (fun v => { v with queues := Tbl.set [] v.queues q l }) s

/-- What holds before a head is checked and stays when a head is discarded holds afterwards. -/
theorem headCheck_induct {q : Nat} {P : State → Prop} (hstep : ∀ s u f l g, P s → Tbl.get [] (s.port p).queues q = f :: l →
    (∀ c, (g c : PortStats).egAge = c.egAge) → u.ports = (modStats p g (setFrames p q l s)).ports → P u) (fuel : Nat) (h : P s) :
    P (headCheck p q fuel s) := by
  induction fuel generalizing s with
  | zero => exact h
  | succ fuel ih =>
    unfold headCheck
    split
    case h_1 => exact h
    case h_2 f l hqueue =>
      dsimp only
      split
      · exact ih (hstep s _ f l (fun c => { c with authFail := c.authFail + 1 }) h hqueue (fun _ => rfl)
          (by rw [traceEnd_ports, pmcDrop_ports]; rfl))
      · split
        · exact ih (hstep s _ f l (fun c => { c with egGate := Tbl.modify 0 c.egGate q (· + 1) }) h hqueue (fun _ => rfl)
            (by unfold dropEg; rw [raise_ports, dropPkt_ports]; rfl))
        · exact h

theorem quiet_discarded {q : Nat} {l : List EgFrame} {g : PortStats → PortStats} (h : u.ports = (modStats p g (setFrames p q l s)).ports) :
    quiet p s u :=
  (quiet.rfl'.modPort.trans (quiet_modStats p g _)).out h

theorem quiet_headCheck (p q fuel : Nat) (s : State) : quiet p s (headCheck p q fuel s) :=
  headCheck_induct (P := quiet p s) (fun _ _ _ _ _ h _ _ hu => h.trans (quiet_discarded hu)) fuel .rfl'

/-- What stays in a queue are its last frames, and no frame was discarded for its age. -/
theorem headCheck_queue (p q fuel : Nat) (s : State) :
    Tbl.get [] ((headCheck p q fuel s).port p).queues q <:+ Tbl.get [] (s.port p).queues q ∧
      ((headCheck p q fuel s).port p).stats.egAge = (s.port p).stats.egAge := by
  refine headCheck_induct (P := fun u => Tbl.get [] (u.port p).queues q <:+ Tbl.get [] (s.port p).queues q ∧
    (u.port p).stats.egAge = (s.port p).stats.egAge) ?_ fuel ⟨List.suffix_rfl, rfl⟩
  rintro s' u f l g ⟨hsuffix, hage⟩ hqueue hg hu
  rw [port_of_ports hu]
  unfold modStats setFrames
  rw [modPort_self, modPort_self]
  refine ⟨?_, (hg _).trans hage⟩
  rw [Tbl.get_set_self]
  exact (hqueue ▸ List.suffix_cons f l).trans hsuffix

/-- A head that can leave stays. -/
theorem headCheck_leavable {q : Nat} (fuel : Nat) (h : ∀ x l, Tbl.get [] (s.port p).queues q = x :: l →
    x.pkt.md.auth ≠ .fail ∧ (s.port p).tooLong q (frameLen x.pkt.bytes) = false) : headCheck p q fuel s = s := by
  cases fuel with
  | zero => rfl
  | succ fuel =>
    unfold headCheck
    split
    case h_1 => rfl
    case h_2 x l hqueue =>
      obtain ⟨hauth, hlong⟩ := h x l hqueue
      dsimp only
      rw [if_neg hauth, hlong, if_neg (by decide)]

theorem quiet_headChecks (p : Nat) (s : State) : quiet p s (headChecks p s) :=
  quiet_foldl _ fun _ _ => quiet_headCheck _ _ _ _

theorem quiet_creditPort (p : Nat) (s : State) : quiet p s (creditPort p s) := quiet.rfl'.modPort

/-! ### The start of a frame (R159, R194, R203) -/

theorem quiet_serveShaper (k : WheelKind) (p key len : Nat) (s : State) : quiet p s (serveShaper k p key len s) := by
  unfold serveShaper
  split
  · exact .rfl'
  · dsimp only
    split
    · exact quiet.rfl'.modPort
    · exact quiet.out quiet.rfl'.modPort (placeItem_ports ..)

theorem quiet_putStamp (p : Nat) (tag : BitVec 16) (i : Instant) (s : State) : quiet p s (putStamp p tag i s) := by
  unfold putStamp
  dsimp only
  split
  · exact quiet.out (quiet.modPort quiet.rfl'.modPort) (raiseOnce_ports ..)
  · exact quiet.out quiet.rfl'.modPort (syncTs_ports ..)

/-- The bytes of a frame as it leaves (R195). -/
def sentBytes (f : EgFrame) : List Byte := if f.csum then writeChecksums f.pkt.bytes else f.pkt.bytes

/-- The frame that a port sends once it has started. -/
def startedFrame (q : Nat) (f : EgFrame) (now : Instant) (v : Port) : Started :=
  { q := q, pkt := { f.pkt with bytes := sentBytes f }, ends := now + byteTime v.gbps (8 + frameLen (sentBytes f)) }

/-- The port once the frame has started, before its shapers are charged. -/
def startedPort (q : Nat) (f : EgFrame) (rest : List EgFrame) (now : Instant) (x : Started) (v : Port) : Port :=
  { v with
    queues := Tbl.set [] v.queues q rest, busy := now + byteTime v.gbps (frameLen (sentBytes f) + 20), idleFrom := now
    wakeAt := none, started := some x }

theorem quiet_startFrame (p q : Nat) (f : EgFrame) (rest : List EgFrame) (s : State) :
    quiet p (modPort p (startedPort q f rest s.clk.now (startedFrame q f s.clk.now (s.port p))) s) (startFrame p q f rest s) := by
  have hserve (len : Nat) (t : State) : quiet p t (serveShaper (.port p) p 8 len (serveShaper (.egressQ p q) p q len t)) :=
    (quiet_serveShaper _ _ _ _ _).trans (quiet_serveShaper _ _ _ _ _)
  have hstamp (b : Bool) (tag : BitVec 16) (i : Instant) (t : State) : quiet p t (if b then putStamp p tag i t else t) := by
    split
    · exact quiet_putStamp _ _ _ _
    · exact .rfl'
  have htrace (b : Bool) (k : Option Nat) (i j : Instant) (t : State) :
      quiet p t (if b then traceStageAt k 8 i (traceStageAt k 7 j t) else t) := by
    split
    · exact quiet.rfl'.out ((traceStageAt_ports ..).trans (traceStageAt_ports ..))
    · exact .rfl'
  unfold startFrame
  dsimp only
  exact ((hserve _ _).trans (hstamp _ _ _ _)).trans (htrace _ _ _ _ _)

theorem frameStarted {q : Nat} {f : EgFrame} {l : List Nat} {d : Tbl Int} {rest : List EgFrame}
    (hmay : ((headChecks p (creditPort p s)).port p).mayStart s.clk.now = true)
    (heligible : eligibleQs p (headChecks p (creditPort p s)) = (l, u)) (hchoose : chooseQ (u.port p) l = some (q, d))
    (hqueue : Tbl.get [] (u.port p).queues q = f :: rest) : nextWith (.egressFrameStart p) s fun t =>
        (t.port p).busy = s.clk.now + byteTime (s.port p).gbps (frameLen (sentBytes f) + 20) ∧
        (t.port p).started = some (startedFrame q f s.clk.now (s.port p)) ∧
        (t.port p).up = (s.port p).up ∧ (t.port p).cfg = (s.port p).cfg ∧ otherPorts p s t ∧
        t = { s with clk := t.clk, q := t.q, ports := t.ports, evc := t.evc, pmc := t.pmc, out := t.out } := by
  have hu : u = (eligibleQs p (headChecks p (creditPort p s))).2 := by rw [heligible]
  have hnow : (headChecks p (creditPort p s)).clk.now = s.clk.now := now_of_kept (by simp)
  have hunow : u.clk.now = s.clk.now := by
    rw [hu]
    exact now_of_kept (by simp)
  have hquiet : quiet p s u := by
    rw [hu]
    exact ((quiet_creditPort _ _).trans (quiet_headChecks _ _)).out (eligibleQs_ports _ _)
  have hexec : ∃ D : Tbl Int, exec (.egressFrameStart p) s =
      .next (headCheck p q rest.length (startFrame p q f rest (modPort p (fun v => { v with deficit := D }) u))) := by
    refine ⟨if (Tbl.get {} (u.port p).eg q : EgressQ).strict then d else charge d q (frameLen f.pkt.bytes), ?_⟩
    change execEgressFrameStart p s = _
    unfold execEgressFrameStart
    dsimp only
    rw [hnow, hmay, if_neg (by decide), heligible]
    dsimp only
    rw [hchoose]
    dsimp only
    rw [hqueue]
  obtain ⟨D, hexec⟩ := hexec
  obtain ⟨hothers, hsending⟩ := (quiet_startFrame p q f rest (modPort p (fun v => { v with deficit := D }) u)).trans
    (quiet_headCheck p q rest.length _)
  rw [modPort_self, modPort_self] at hsending
  obtain ⟨hbusy, hstarted, hup, hcfg⟩ := sending_inj.mp hsending
  obtain ⟨huothers, husending⟩ := hquiet
  obtain ⟨-, -, huup, hucfg⟩ := sending_inj.mp husending
  have hgbps : (u.port p).gbps = (s.port p).gbps := by
    unfold Port.gbps
    rw [show (u.port p).cfg = (s.port p).cfg from hucfg]
  refine nextWith_of hexec ⟨hbusy.trans ?_, hstarted.trans ?_, hup.trans huup, hcfg.trans hucfg, fun m hm => ?_, ?_⟩
  · change u.clk.now + byteTime (u.port p).gbps _ = _
    rw [hunow, hgbps]
  · change some (startedFrame q f u.clk.now { u.port p with deficit := D }) = _
    unfold startedFrame
    rw [hunow, ← hgbps]
    rfl
  · exact (hothers m hm).trans ((modPort_ne _ _ _ _ hm).trans ((modPort_ne _ _ _ _ hm).trans (huothers m hm)))
  · rw [hu]
    exact eq_merged (m := { clk := true, q := true, ports := true, evc := true, pmc := true, out := true }) (by simp)

theorem frameWaits (hmay : ((headChecks p (creditPort p s)).port p).mayStart s.clk.now = false) :
    exec (.egressFrameStart p) s = .next (headChecks p (creditPort p s)) := by
  have hnow : (headChecks p (creditPort p s)).clk.now = s.clk.now := now_of_kept (by simp)
  change execEgressFrameStart p s = _
  unfold execEgressFrameStart
  dsimp only
  rw [hnow, hmay, if_pos (by decide)]

/-! ### The end of a frame (R194, R237) -/

theorem quiet.ended (h : otherPorts p s t ∧ (t.port p).started = none) (hu : quiet p t u) :
    (u.port p).started = none ∧ otherPorts p s u :=
  ⟨(sending_inj.mp hu.2).2.1.trans h.2, fun m hm => (hu.1 m hm).trans (h.1 m hm)⟩

theorem frameAborted_quiet (p q : Nat) (b : List Byte) (g : PortStats → PortStats) (s : State) :
    quiet p s (frameAborted p q b g s) :=
  (quiet_modStats p g s).out (raiseOnce_ports ..)

theorem mem_raiseOnce {o : Output} (k : Nat) (h : o ∈ s.out) : o ∈ (raiseOnce k s).out := by
  unfold raiseOnce raiseOnceKey
  split
  · exact h
  · exact mem_raise k h

theorem frameAborted_out (p q : Nat) (b : List Byte) (g : PortStats → PortStats) (s : State) :
    Output.frame p q b true ∈ (frameAborted p q b g s).out := by
  unfold frameAborted
  exact mem_raiseOnce _ (List.mem_cons_self (a := Output.frame p q b true) (l := (modStats p g s).out))

section Ended
variable {x : Started} (hstop : otherPorts p s t ∧ (t.port p).started = none)
include hstop

theorem ended_aborted (g : PortStats → PortStats) (e : TraceEntry → TraceEntry) :
    ((traceEnd x.pkt.trace e (frameAborted p x.q x.pkt.bytes g t)).port p).started = none ∧
      otherPorts p s (traceEnd x.pkt.trace e (frameAborted p x.q x.pkt.bytes g t)) ∧
      Output.frame p x.q x.pkt.bytes true ∈ (traceEnd x.pkt.trace e (frameAborted p x.q x.pkt.bytes g t)).out := by
  obtain ⟨hnone, hothers⟩ := quiet.ended hstop ((frameAborted_quiet p x.q x.pkt.bytes g _).out (traceEnd_ports x.pkt.trace e _))
  exact ⟨hnone, hothers, (traceEnd_suffix x.pkt.trace e).mem (frameAborted_out ..)⟩

theorem ended_sent :
    ((traceEnd x.pkt.trace id (frameSent p x.q x.pkt.bytes t)).port p).started = none ∧
      otherPorts p s (traceEnd x.pkt.trace id (frameSent p x.q x.pkt.bytes t)) ∧
      Output.frame p x.q x.pkt.bytes false ∈ (traceEnd x.pkt.trace id (frameSent p x.q x.pkt.bytes t)).out := by
  have hsent : quiet p t (frameSent p x.q x.pkt.bytes t) := by
    unfold frameSent
    exact (quiet_modStats p _ t).out (emit_ports _ _)
  obtain ⟨hnone, hothers⟩ := quiet.ended hstop (hsent.out (traceEnd_ports x.pkt.trace id _))
  exact ⟨hnone, hothers, (traceEnd_suffix x.pkt.trace id (s := frameSent p x.q x.pkt.bytes t)).mem List.mem_cons_self⟩

end Ended

theorem endFrame_ends {x : Started} (hx : (s.port p).started = some x) (hends : x.ends ≤ s.clk.now) :
    ((endFrame p s).port p).started = none ∧ otherPorts p s (endFrame p s) ∧
      Output.frame p x.q x.pkt.bytes (x.pkt.md.auth == .fail || x.pkt.md.auth == .pending) ∈ (endFrame p s).out := by
  have hstop : otherPorts p s (modPort p (fun v => { v with started := none }) s) ∧
      ((modPort p (fun v => { v with started := none }) s).port p).started = none :=
    ⟨fun m hm => modPort_ne _ _ _ _ hm, by rw [modPort_self]⟩
  unfold endFrame
  rw [hx]
  dsimp only
  rw [if_neg (Nat.not_lt.mpr hends)]
  cases hauth : x.pkt.md.auth
  case fail => exact ended_aborted hstop _ _
  case pending => exact ended_aborted hstop _ _
  all_goals exact ended_sent hstop

/-! ### Frames that age (R269) -/

/-- A frame of a queue has waited more than 2 s. -/
def overAge (s : State) (f : EgFrame) : Bool := decide (f.at_ + sec 2 < switchTime s)

/-- The frames of a queue that have aged, and the others. -/
def agedFrames (p q : Nat) (s : State) : List EgFrame := (Tbl.get [] (s.port p).queues q).filter (overAge s)
def youngFrames (p q : Nat) (s : State) : List EgFrame := (Tbl.get [] (s.port p).queues q).filter fun f => !overAge s f

/-- The state with the aged frames counted and taken out of their queue. -/
def agedOut (p q : Nat) (s : State) : State :=
  modStats p (fun c => { c with egAge := Tbl.modify 0 c.egAge q (· + (agedFrames p q s).length) }) (setFrames p q (youngFrames p q s) s)

theorem agedOut_port (p q : Nat) (s : State) :
    Tbl.get [] ((agedOut p q s).port p).queues q = youngFrames p q s ∧
      Tbl.get 0 ((agedOut p q s).port p).stats.egAge q = Tbl.get 0 (s.port p).stats.egAge q + (agedFrames p q s).length := by
  unfold agedOut modStats setFrames
  rw [modPort_self, modPort_self]
  dsimp only
  rw [Tbl.get_set_self, Tbl.get_modify_self]
  exact ⟨rfl, rfl⟩

theorem quiet_agedOut (p q : Nat) (s : State) : quiet p s (agedOut p q s) := by
  unfold agedOut modStats setFrames
  exact quiet.rfl'.modPort.modPort

theorem egressAge_exec {q : Nat} (hold : ∃ f ∈ Tbl.get [] (s.port p).queues q, f.at_ + sec 2 < switchTime s) :
    exec (.egressAge p q) s = .next (headCheck p q (youngFrames p q s).length
      ((agedFrames p q s).foldl (fun s f => dropEg f s) (agedOut p q s))) := by
  have hsome : ¬ (agedFrames p q s).isEmpty = true := by
    obtain ⟨f, hf, hover⟩ := hold
    have hmem : f ∈ agedFrames p q s := List.mem_filter.mpr ⟨hf, decide_eq_true hover⟩
    exact fun h => List.not_mem_nil (List.isEmpty_iff.mp h ▸ hmem)
  exact congrArg Host.Outcome.next (if_neg hsome)

theorem egressAged {q : Nat} (hold : ∃ f ∈ Tbl.get [] (s.port p).queues q, f.at_ + sec 2 < switchTime s) :
    nextWith (.egressAge p q) s fun t =>
      Tbl.get 0 (t.port p).stats.egAge q = Tbl.get 0 (s.port p).stats.egAge q + (agedFrames p q s).length ∧
      (∀ f ∈ Tbl.get [] (t.port p).queues q, f ∈ Tbl.get [] (s.port p).queues q ∧ switchTime s ≤ f.at_ + sec 2) ∧
      otherPorts p s t ∧ t = { s with clk := t.clk, ports := t.ports, evc := t.evc, pmc := t.pmc, out := t.out } := by
  have hdrops : ((agedFrames p q s).foldl (fun s f => dropEg f s) (agedOut p q s)).ports = (agedOut p q s).ports :=
    foldl_keeps (F := State.ports) _ _ fun s f => dropPkt_ports _ _
  obtain ⟨hqueue, hcount⟩ := agedOut_port p q s
  have hframe : rest { clk := true, ports := true, evc := true, pmc := true, out := true } (agedOut p q s) =
      rest { clk := true, ports := true, evc := true, pmc := true, out := true } s := by
    unfold agedOut setFrames
    simp
  refine nextWith_of (egressAge_exec hold) ⟨?_, fun f hf => ?_, ?_, ?_⟩
  · rw [(headCheck_queue _ _ _ _).2, port_of_ports hdrops, hcount]
  · have hyoung := (headCheck_queue _ _ _ _).1.mem hf
    rw [port_of_ports hdrops, hqueue] at hyoung
    obtain ⟨hmem, hage⟩ := List.mem_filter.mp hyoung
    exact ⟨hmem, by simpa [overAge] using hage⟩
  · exact (((quiet_agedOut p q s).out hdrops).trans (quiet_headCheck _ _ _ _)).1
  · exact eq_merged (m := { clk := true, ports := true, evc := true, pmc := true, out := true }) (by simp [hframe])

theorem egressYoung {q : Nat} (hyoung : ∀ f ∈ Tbl.get [] (s.port p).queues q, switchTime s ≤ f.at_ + sec 2) :
    exec (.egressAge p q) s = .next s := by
  change execEgressAge p q s = _
  unfold execEgressAge
  dsimp only
  rw [if_pos]
  simpa using hyoung

/-! ### Frames of the host (R195, R196) -/

section Host
variable {f : HostFrame} (hport : f.port = p) (hhas : s.hasPort p = true) (hq : f.queue < 8)
include hport hhas hq

/-- The host's frame as it joins its queue. -/
def hostEg (f : HostFrame) (s : State) : EgFrame :=
  { pkt := { id := s.clk.draws, bytes := f.bytes, md := { port := f.port, tsReq := f.tsReq, tsTag := f.tsTag } }
    at_ := switchTime s, csum := f.csum }

/-- The state with one more packet named. -/
def named (s : State) : State := { s with clk := { s.clk with draws := s.clk.draws + 1 } }

theorem hostFrame_exec : exec (.hostFrameSend f) s = .next (egressAdmit p f.queue (hostEg f s) (named s)) := by
  change execHostFrameSend f s = _
  unfold execHostFrameSend
  dsimp only
  rw [if_pos (by rw [hport, hhas, decide_eq_true hq]; rfl), hport]
  unfold hostEg
  rw [hport]
  rfl

/-- A frame joins a queue of a port that is awake, and the head of that queue can leave (R159). -/
theorem hostFrameAdmitted (hup : (s.port p).up = true) (hawake : (s.port p).asleep = false)
    (hlimit : egressBytes (Tbl.get [] (s.port p).queues f.queue) + frameLen f.bytes ≤
      (Tbl.get {} (s.port p).eg f.queue : EgressQ).limit)
    (hpool : poolBytes s + frameLen f.bytes ≤ poolSize)
    (hhead : ∀ x l, Tbl.get [] (s.port p).queues f.queue = x :: l →
      x.pkt.md.auth ≠ .fail ∧ (s.port p).tooLong f.queue (frameLen x.pkt.bytes) = false)
    (hnew : Tbl.get [] (s.port p).queues f.queue = [] → (s.port p).tooLong f.queue (frameLen f.bytes) = false) :
    exec (.hostFrameSend f) s = .next (egressPush p f.queue (hostEg f s) (named s)) := by
  have hoffered : offered p (named s) = named s := by
    unfold offered wakePort
    rw [show (named s).port p = s.port p from rfl, hawake]
    exact ite_self _
  have hclient : (hostEg f s).pkt.md.down = false := by
    have hlanes : s.variant.lanes ≤ 32 := by cases s.variant <;> decide
    have hp : p < s.variant.lanes := of_decide_eq_true hhas
    exact decide_eq_false (by subst hport; exact Nat.not_le.mpr (hp.trans_le hlanes))
  have hpushed : (egressPush p f.queue (hostEg f s) (named s)).port p =
      { s.port p with queues := Tbl.modify [] (s.port p).queues f.queue (· ++ [hostEg f s]) } := modPort_self _ _ _
  rw [hostFrame_exec hport hhas hq]
  unfold egressAdmit
  dsimp only
  rw [hoffered, show (named s).port p = s.port p from rfl, show (hostEg f s).pkt.bytes = f.bytes from rfl, hup, if_neg (by decide), if_neg (Nat.not_lt.mpr hlimit),
    if_neg (c := (hostEg f s).pkt.md.colour = .yellow ∧ _) fun h => Colour.noConfusion h.1,
    show poolBytes (named s) = poolBytes s from rfl, if_neg (Nat.not_lt.mpr hpool), hclient, if_neg (by decide)]
  refine congrArg Host.Outcome.next (headCheck_leavable (s := egressPush p f.queue (hostEg f s) (named s)) 1 fun x l hxl => ?_)
  rw [hpushed] at hxl ⊢
  dsimp only at hxl
  rw [Tbl.get_modify_self] at hxl
  cases hl : Tbl.get [] (s.port p).queues f.queue with
  | nil =>
    rw [hl] at hxl
    obtain ⟨rfl, -⟩ := List.cons.inj hxl
    exact ⟨Auth.noConfusion, hnew hl⟩
  | cons y r =>
    rw [hl] at hxl
    obtain ⟨rfl, -⟩ := List.cons.inj hxl
    exact hhead _ _ hl

theorem hostFrameDropped (hdown : (s.port p).up = false) : nextWith (.hostFrameSend f) s fun t =>
    (t.port p).stats.portDown = (s.port p).stats.portDown + 1 ∧ (t.port p).queues = (s.port p).queues ∧ otherPorts p s t := by
  have hoffered : otherPorts p (named s) (offered p (named s)) ∧
      ((offered p (named s)).port p).stats = (s.port p).stats ∧ ((offered p (named s)).port p).queues = (s.port p).queues := by
    unfold offered wakePort
    split
    · split
      · have hports : (notePower (named s) (raise 0xCF (modPort p (fun v => { v with asleep := false }) (named s)))).ports =
            (modPort p (fun v => { v with asleep := false }) (named s)).ports := (notePower_ports ..).trans (raise_ports ..)
        refine ⟨fun m hm => (port_of_ports hports m).trans (modPort_ne _ _ _ _ hm), ?_, ?_⟩
        · rw [port_of_ports hports, modPort_self]
          rfl
        · rw [port_of_ports hports, modPort_self]
          rfl
      · exact ⟨fun _ _ => rfl, rfl, rfl⟩
    · exact ⟨fun _ _ => rfl, rfl, rfl⟩
  obtain ⟨hothers, hstats, hqueues⟩ := hoffered
  have hexec : exec (.hostFrameSend f) s =
      .next (dropEg (hostEg f s) (modStats p (fun c => { c with portDown := c.portDown + 1 }) (offered p (named s)))) := by
    rw [hostFrame_exec hport hhas hq]
    unfold egressAdmit
    dsimp only
    rw [show (named s).port p = s.port p from rfl, hdown, if_pos (by decide)]
  have hports := dropPkt_ports (hostEg f s).pkt (modStats p (fun c => { c with portDown := c.portDown + 1 }) (offered p (named s)))
  unfold dropEg at hexec
  refine nextWith_of hexec ⟨?_, ?_, fun m hm => ?_⟩
  · rw [port_of_ports hports]
    unfold modStats
    rw [modPort_self]
    exact congrArg (fun c : PortStats => c.portDown + 1) hstats
  · rw [port_of_ports hports]
    unfold modStats
    rw [modPort_self]
    exact hqueues
  · exact (port_of_ports hports m).trans ((modPort_ne _ _ _ _ hm).trans (hothers m hm))

end Host
end Quiet

/-- Settles O30: a frame that starts occupies its port until its last byte has left; a head that cannot leave is discarded before
and after it, which changes nothing of what the port sends. -/
theorem clientEgress : Obligations.ClientEgress := by
  intro s p
  refine ⟨fun l u q d f rest hmay heligible hchoose hqueue => ?_, frameWaits, fun f hport hhas hq hcfg hup hawake hlimit hpool hhead hnew => ?_,
    fun x hx => endFrame_ends hx, fun f hport hhas hq => hostFrameDropped hport hhas hq, fun q => egressAged, fun q => egressYoung⟩
  · obtain ⟨t, hexec, hbusy, hstarted, hrest⟩ := frameStarted hmay heligible hchoose hqueue
    exact ⟨t, hexec, hbusy, ⟨_, hstarted, rfl, rfl, rfl⟩, hrest⟩
  · have hpushed : (egressPush p f.queue (hostEg f s) (named s)).port p =
        { s.port p with queues := Tbl.modify [] (s.port p).queues f.queue (· ++ [hostEg f s]) } := modPort_self _ _ _
    refine nextWith_of (hostFrameAdmitted hport hhas hq hup hawake hlimit hpool hhead hnew)
      ⟨⟨hostEg f s, ?_, rfl, rfl, rfl, rfl, rfl⟩, fun k hk => ?_, fun m hm => modPort_ne _ _ _ _ hm, rfl⟩
    · rw [hpushed]
      dsimp only
      rw [Tbl.get_modify_self]
    · rw [hpushed]
      dsimp only
      rw [Tbl.get_modify_ne _ _ _ hk]

end Sys2Proof.Proofs.ClientEgress
end

section
/-!
Client lanes and their references (chapter 08): O31.
-/
namespace Sys2Proof.Proofs.Lanes
open Sys2Proof Sys2Proof.Machine Sys2Proof.Proofs.Frames Sys2Proof.Proofs.Rules Sys2Proof.Proofs.LineTimeEvents
open Sys2Proof.Proofs.RegistrationCommands Sys2Proof.Proofs.Passes

set_option Elab.async false

@[simp] theorem dropLanePorts_lanes (a0 : Nat) (s : State) : (dropLanePorts a0 s).lanes = s.lanes :=
  lanes_of_rest (m := { clk := true, ports := true, evc := true, pmc := true, out := true }) (by simp)

@[simp] theorem dropLanePorts_lane (n : Nat) (s : State) (m : Nat) : (dropLanePorts n s).lane m = s.lane m := by
  unfold State.lane
  rw [dropLanePorts_lanes]

/-! ### A port goes DOWN (R189) -/

theorem port_congr {s t : State} (h : t.ports = s.ports) (m : Nat) : t.port m = s.port m := by
  unfold State.port
  rw [h]

theorem leaveRxLpi_others (p : Nat) (s : State) : otherPorts p s (leaveRxLpi p s) := by
  intro m hm
  unfold leaveRxLpi
  split
  · rfl
  · rw [modStats, modPort_ne _ _ _ _ hm, modPort_ne _ _ _ _ hm]

theorem discardQueued_port (p : Nat) (s : State) : ∃ k, (discardQueued p s).ports =
    (modStats p (fun c => { c with portDown := c.portDown + k }) (modPort p (fun v => { v with queues := [], started := none }) s)).ports :=
  ⟨_, foldl_keeps (F := State.ports) _ _ fun s x => dropPkt_ports x s⟩

theorem discardQueued_others (p : Nat) (s : State) : otherPorts p s (discardQueued p s) := by
  obtain ⟨k, hk⟩ := discardQueued_port p s
  intro m hm
  rw [port_congr hk, modStats, modPort_ne _ _ _ _ hm, modPort_ne _ _ _ _ hm]

theorem discardQueued_up (p : Nat) (s : State) : ((discardQueued p s).port p).up = (s.port p).up := by
  obtain ⟨k, hk⟩ := discardQueued_port p s
  rw [port_congr hk, modStats, modPort_self, modPort_self]

theorem enterDown_others (p : Nat) (s : State) : otherPorts p s (enterDown p s) := by
  intro m hm
  unfold enterDown
  split
  · rfl
  · rw [raise_port, discardQueued_others p _ m hm, modPort_ne _ _ _ _ hm, leaveRxLpi_others p _ m hm, leaveLpi_others p _ m hm]

theorem enterDown_up (p : Nat) (s : State) : ((enterDown p s).port p).up = false := by
  unfold enterDown
  split
  case isTrue h => simpa using h
  case isFalse => rw [raise_port, discardQueued_up, modPort_self]

theorem portsOfLane_congr {s t : State} (n : Nat) (h : t.ports = s.ports) : portsOfLane n t = portsOfLane n s := by
  unfold portsOfLane State.port
  rw [h]

/-- The ports of a lane go DOWN, and no other. -/
theorem dropLanePorts_ports (n : Nat) (s : State) :
    (∀ p ∈ portsOfLane n s, ((dropLanePorts n s).port p).up = false) ∧
    ∀ p, p ∉ portsOfLane n s → (dropLanePorts n s).port p = s.port p := by
  refine ⟨fun p hp => forEach_mem (P := fun s => (s.port p).up = false) hp s (enterDown_up p) fun m s h => ?_, fun p hp => ?_⟩
  · by_cases hm : p = m
    · rw [hm, enterDown_up]
    · rw [enterDown_others m s p hm, h]
  · have hstay (l : List Nat) (s : State) (hl : p ∉ l) : (forEach l enterDown s).port p = s.port p := by
      induction l generalizing s with
      | nil => rfl
      | cons m l ih =>
        exact (ih _ (List.not_mem_of_not_mem_cons hl)).trans (enterDown_others m s p (List.ne_of_not_mem_cons hl))
    exact hstay _ s hp

/-! ### Lane events (R178, R179) -/

section Event
variable {s : State} {n : Nat} (hlane : n < s.variant.lanes) (hawake : s.pwr.asleep = false)

include hlane hawake in
/-- A lane event acts on a lane of the variant that meets its condition. -/
theorem onLane_runs {ok : Lane → Bool} (k : State → State) (hok : ok (s.lane n) = true) : onLane n ok k s = k s := by
  unfold onLane
  rw [if_pos (by rw [decide_eq_true hlane, hawake, hok]; rfl)]

theorem onLane_skips {ok : Lane → Bool} (k : State → State) (hok : ok (s.lane n) = false) : onLane n ok k s = s := by
  unfold onLane
  rw [if_neg (by simp [hok])]

/-- A loss on a lane takes its ports DOWN. -/
theorem laneLost {i : Instr} {f : Lane → Lane} {k : Nat}
    (hexec : exec i s = .next (raise k (dropLanePorts n (modLane n f s)))) : nextWith i s fun t =>
      t.lane n = f (s.lane n) ∧ otherLanes n s t ∧
      (∀ p ∈ portsOfLane n s, (t.port p).up = false) ∧ (∀ p, p ∉ portsOfLane n s → t.port p = s.port p) ∧
      t = { s with clk := t.clk, lanes := t.lanes, ports := t.ports, evc := t.evc, pmc := t.pmc, out := t.out } := by
  obtain ⟨hdown, hkeep⟩ := dropLanePorts_ports n (modLane n f s)
  rw [portsOfLane_congr n (show (modLane n f s).ports = s.ports from rfl)] at hdown hkeep
  refine nextWith_of hexec ⟨?_, fun m hm => ?_, fun p hp => ?_, fun p hp => ?_, ?_⟩
  · rw [raise_lane, dropLanePorts_lane, modLane_self]
  · rw [raise_lane, dropLanePorts_lane, modLane_ne _ _ _ _ hm]
  · rw [raise_port, hdown p hp]
  · rw [raise_port, hkeep p hp]
    rfl
  · exact eq_merged (m := { clk := true, lanes := true, ports := true, evc := true, pmc := true, out := true }) (by simp)

/-- An event that changes its lane alone. -/
theorem laneChanged {i : Instr} {f : Lane → Lane} (hexec : exec i s = .next (modLane n f s)) : nextWith i s fun t =>
    t.lane n = f (s.lane n) ∧ otherLanes n s t ∧ t = { s with lanes := t.lanes } :=
  nextWith_of hexec ⟨modLane_self _ _ _, fun _ hm => modLane_ne _ _ _ _ hm, rfl⟩

include hlane hawake

theorem laneLos (hsignal : (s.lane n).signal = true) : exec (.laneLos n) s = .next (raise 0xC0 (dropLanePorts n
    (modLane n (fun l => { l with signal := false, nLos := l.nLos + 1 }) s))) :=
  congrArg Host.Outcome.next (onLane_runs (ok := fun l => l.signal) hlane hawake _ hsignal)

theorem laneLol (hmode : (s.lane n).mode = .monitor) (hcdr : (s.lane n).cdr = true) : exec (.laneLol n) s =
    .next (raise 0xC1 (dropLanePorts n (modLane n (fun l => { l with cdr := false, nLol := l.nLol + 1 }) s))) :=
  congrArg Host.Outcome.next (onLane_runs (ok := fun l => l.mode == .monitor && l.cdr) hlane hawake _ (by rw [hmode, hcdr]; rfl))

section Align
variable {r : LaneRate} {multi : Bool} (hrate : laneRate n s = some (r, multi))
include hrate

theorem laneAlignLock {e : LockSeen} {l : Lane} (hmode : (s.lane n).mode = .monitor) (hlocks : (s.lane n).locks r multi e = some l) :
    exec (.laneAlignLock n e) s = .next (modLane n (fun l => (l.locks r multi e).getD l) s) := by
  change execLaneAlignLock n e s = _
  unfold execLaneAlignLock
  rw [hrate]
  exact congrArg Host.Outcome.next (onLane_runs hlane hawake _ (by rw [hmode, hlocks]; rfl))

theorem laneAlignLost {e : LossSeen} {l : Lane} (hmode : (s.lane n).mode = .monitor) (hloses : (s.lane n).loses r multi e = some l) :
    exec (.laneAlignLost n e) s = .next (raise 0xC2 (dropLanePorts n (modLane n (fun l => (l.loses r multi e).getD l) s))) := by
  change execLaneAlignLost n e s = _
  unfold execLaneAlignLost
  rw [hrate]
  exact congrArg Host.Outcome.next (onLane_runs hlane hawake _ (by rw [hmode, hloses]; rfl))

omit hlane hawake

theorem laneAlignLock_waits {e : LockSeen} (hlocks : (s.lane n).locks r multi e = none) : exec (.laneAlignLock n e) s = .next s := by
  change execLaneAlignLock n e s = _
  unfold execLaneAlignLock
  rw [hrate]
  exact congrArg Host.Outcome.next (onLane_skips _ (by rw [hlocks, Option.isSome_none, Bool.and_false]))

theorem laneAlignLost_stays {e : LossSeen} (hloses : (s.lane n).loses r multi e = none) : exec (.laneAlignLost n e) s = .next s := by
  change execLaneAlignLost n e s = _
  unfold execLaneAlignLost
  rw [hrate]
  exact congrArg Host.Outcome.next (onLane_skips _ (by rw [hloses, Option.isSome_none, Bool.and_false]))

end Align

theorem laneBerHigh (b : Bool) (hmode : (s.lane n).mode = .monitor) : nextWith (.laneBerHigh n b) s fun t =>
    t.lane n = { s.lane n with ber := b } ∧ otherLanes n s t ∧ t = { s with lanes := t.lanes, evc := t.evc, out := t.out } := by
  by_cases hber : (s.lane n).ber = b
  · have hexec : exec (.laneBerHigh n b) s = .next s :=
      congrArg Host.Outcome.next (onLane_skips _ (by rw [hmode, hber]; simp))
    exact nextWith_of hexec ⟨by rw [← hber], fun _ _ => rfl, rfl⟩
  · have hexec : exec (.laneBerHigh n b) s = .next (if b then raise 0xC3 (modLane n (fun l => { l with ber := b }) s)
        else modLane n (fun l => { l with ber := b }) s) :=
      congrArg Host.Outcome.next (onLane_runs (ok := fun l => l.mode == .monitor && l.ber != b) hlane hawake _ (by rw [hmode]; simpa using hber))
    refine nextWith_of hexec ?_
    split
    case isFalse => exact ⟨modLane_self _ _ _, fun _ hm => modLane_ne _ _ _ _ hm, rfl⟩
    case isTrue => exact ⟨(raise_lane _ _ _).trans (modLane_self _ _ _), fun m hm => (raise_lane _ _ _).trans (modLane_ne _ _ _ _ hm),
        eq_merged (m := { lanes := true, evc := true, out := true }) (by simp)⟩

theorem lanePatternLock {g : Bool} {w x e : Nat} (hmode : (s.lane n).mode ≠ .monitor) (hlock : (s.lane n).patLock ≠ g)
    (hgain : g = true → w = 0) (hloss : g = false → 64 ≤ w) : nextWith (.lanePatternLock n g w x e) s fun t =>
      t.lane n = { s.lane n with
        patLock := g, patBits := satAdd 48 (s.lane n).patBits x, patErrs := satAdd 48 (s.lane n).patErrs e } ∧
      otherLanes n s t ∧ t = { s with lanes := t.lanes, evc := t.evc, out := t.out } := by
  have hexec : exec (.lanePatternLock n g w x e) s =
      .next (raise 0xC4 (modLane n (fun l => ({ l with patLock := g } : Lane).compared x e) s)) := by
    refine congrArg Host.Outcome.next (onLane_runs (ok := fun l => l.mode != .monitor && l.patLock != g &&
      (if g then w == 0 else decide (64 ≤ w))) hlane hawake _ ?_)
    cases g
    · simp [hmode, hlock, hloss rfl]
    · simp [hmode, hlock, hgain rfl]
  exact nextWith_of hexec ⟨(raise_lane _ _ _).trans (modLane_self _ _ _), fun m hm => (raise_lane _ _ _).trans (modLane_ne _ _ _ _ hm),
    eq_merged (m := { lanes := true, evc := true, out := true }) (by simp)⟩

end Event

/-! ### Alignment found and lost (R175 to R177) -/

theorem headerValid_iff (y : BitVec 2) : headerValid y = true ↔ y = 1 ∨ y = 2 := by
  revert y
  decide

theorem not_headerValid (y : BitVec 2) : (!headerValid y) = (y == 0 || y == 3) := by
  revert y
  decide

section Alignment
variable {l : Lane} {multi : Bool} {r : LaneRate}

theorem locks_headers {x : List (BitVec 2)} (hblock : l.block = false) (hlen : x.length = 64) (hvalid : ∀ y ∈ x, y = 1 ∨ y = 2) :
    l.locks .g25 multi (.headers x) = some { l with block := true, align := !multi, skew := false } := by
  have hall : x.all headerValid = true := List.all_eq_true.mpr fun y hy => (headerValid_iff y).mpr (hvalid y hy)
  unfold Lane.locks
  dsimp only
  rw [if_pos ⟨rfl, by rw [hblock]; rfl, hlen, hall⟩]

theorem locks_badHeader {x : List (BitVec 2)} (hbad : ∃ y ∈ x, y = 0 ∨ y = 3) : l.locks r multi (.headers x) = none := by
  obtain ⟨y, hy, hval⟩ := hbad
  have hnot : headerValid y = false := by rcases hval with rfl | rfl <;> rfl
  unfold Lane.locks
  dsimp only
  rw [if_neg]
  rintro ⟨-, -, -, hall⟩
  exact Bool.false_ne_true (hnot.symm.trans (List.all_eq_true.mp hall y hy))

theorem locks_markers {a b : Nat} (halign : l.align = false) (hrate : r ≠ .g25 ∨ (multi = true ∧ l.block = true)) (ha : a ≤ 3) (hb : b ≤ 3) :
    l.locks r multi (.markers a b) = some { l with align := true, skew := false } := by
  unfold Lane.locks
  dsimp only
  rw [if_pos ⟨ha, hb, by rw [halign]; rfl, hrate⟩]

theorem locks_farMarker {a b : Nat} (hfar : 3 < a ∨ 3 < b) : l.locks r multi (.markers a b) = none := by
  unfold Lane.locks
  dsimp only
  rw [if_neg]
  rintro ⟨ha, hb, -⟩
  omega

theorem invalidHeaders (x : List (BitVec 2)) : (x.filter fun y => !headerValid y) = x.filter fun y => y == 0 || y == 3 :=
  congrArg (fun f => List.filter f x) (funext not_headerValid)

theorem loses_headers {x : List (BitVec 2)} (hblock : l.block = true) (hlen : x.length = 64)
    (hbad : 16 ≤ (x.filter fun y => y == 0 || y == 3).length) :
    l.loses .g25 multi (.headers x) = some { l with align := false, block := false, nAlign := l.nAlign + 1 } := by
  unfold Lane.loses
  dsimp only
  rw [invalidHeaders, if_pos ⟨rfl, hblock, hlen, hbad⟩]

theorem loses_fewBad {x : List (BitVec 2)} (hfew : (x.filter fun y => y == 0 || y == 3).length < 16) :
    l.loses r multi (.headers x) = none := by
  unfold Lane.loses
  dsimp only
  rw [invalidHeaders, if_neg fun h => absurd h.2.2.2 (Nat.not_le.mpr hfew)]

theorem loses_markers {a b c d : Nat} (halign : l.align = true) (hrate : r ≠ .g25 ∨ multi = true) (ha : 3 < a) (hb : 3 < b)
    (hc : 3 < c) (hd : 3 < d) : l.loses r multi (.markers [a, b, c, d]) = some { l with align := false, nAlign := l.nAlign + 1 } := by
  unfold Lane.loses
  dsimp only
  rw [if_pos ⟨halign, hrate, rfl, by simp [ha, hb, hc, hd]⟩]

theorem loses_marker {m : List Nat} (hnear : ∃ a ∈ m, a ≤ 3) : l.loses r multi (.markers m) = none := by
  obtain ⟨a, ha, hle⟩ := hnear
  unfold Lane.loses
  dsimp only
  rw [if_neg]
  rintro ⟨-, -, -, hall⟩
  exact Nat.not_lt.mpr hle (of_decide_eq_true (List.all_eq_true.mp hall a ha))

theorem loses_skew (ps : Nat) : l.loses r true (.skew ps) =
    if 180000 < ps then some { l with align := false, nAlign := l.nAlign + 1, skew := true } else none := by
  unfold Lane.loses
  dsimp only
  by_cases hskew : 180000 < ps
  · rw [if_pos ⟨rfl, hskew⟩, if_pos hskew]
  · rw [if_neg fun h => hskew h.2, if_neg hskew]

end Alignment

/-! ### References (R171, R172) -/

theorem get_foldl_set {α : Type} [DecidableEq α] (d v : α) (l : List Nat) (t : Tbl α) (k : Nat) :
    Tbl.get d (l.foldl (fun t q => Tbl.set d t q v) t) k = if k ∈ l then v else Tbl.get d t k := by
  induction l generalizing t with
  | nil => simp
  | cons q l ih =>
    rw [List.foldl_cons, ih]
    by_cases hk : k = q
    · rw [hk, Tbl.get_set_self, if_pos List.mem_cons_self, ite_self]
    · rw [Tbl.get_set_ne _ _ _ hk]
      simp [hk]

/-- Reference inputs are lost (R172). -/
theorem refFault {s : State} (hused : ∃ q, q < s.quads ∧ s.refs.quadRef q = .board0) : nextWith (.laneRefFault 0) s fun t =>
      (∀ q, q < s.quads → t.refs.quadRef q = (if s.refs.quadRef q = .board0 then .line else s.refs.quadRef q)) ∧
      (∀ k, k < 2 → t.refs.outRef k =
        (if s.refs.outEn.getLsbD k = true ∧ s.refs.outRef k = .board0 then .line else s.refs.outRef k)) ∧
      t.refs.lost.getLsbD 0 = true ∧ t.refs.outEn = s.refs.outEn ∧
      t = { s with refs := t.refs, evc := t.evc, out := t.out } := by
  have hsome : ((List.range s.quads).filter fun q => s.refs.quadRef q == RefSource.board0).isEmpty = false := by
    obtain ⟨q, hq, href⟩ := hused
    have hmem : q ∈ (List.range s.quads).filter fun q => s.refs.quadRef q == RefSource.board0 :=
      List.mem_filter.mpr ⟨List.mem_range.mpr hq, beq_iff_eq.mpr href⟩
    exact Bool.eq_false_iff.mpr fun h => List.not_mem_nil (List.isEmpty_iff.mp h ▸ hmem)
  have hexec : exec (.laneRefFault 0) s = .next (raise 0xC5 { s with refs := { s.refs with
      quad := ((List.range s.quads).filter fun q => s.refs.quadRef q == RefSource.board0).foldl
        (fun t q => Tbl.set .board0 t q .line) s.refs.quad
      out := ((List.range 2).filter fun n => s.refs.outEn.getLsbD n && s.refs.outRef n == RefSource.board0).foldl
        (fun t n => Tbl.set .board0 t n .line) s.refs.out
      lost := s.refs.lost ||| (1#2 <<< 0) } }) := by
    change execLaneRefFault 0 s = _
    unfold execLaneRefFault
    dsimp only
    rw [if_pos (rfl : (0 : Nat) = 0), hsome, if_neg (by simp)]
  refine nextWith_of hexec ⟨fun q hq => ?_, fun k hk => ?_, ?_, ?_, eq_merged (m := { refs := true, evc := true, out := true }) (by simp)⟩
  · rw [raise_refs]
    exact (get_foldl_set _ _ _ _ _).trans (if_congr (by simp [hq]) rfl rfl)
  · rw [raise_refs]
    exact (get_foldl_set _ _ _ _ _).trans (if_congr (by simp [hk]) rfl rfl)
  · rw [raise_refs]
    simp
  · rw [raise_refs]

/-! ### Commands on a lane (R178, R179, R186) -/

section Command
variable {h : Hdr} {s : State} {n : Nat} (hlane : n < s.variant.lanes)
include hlane

theorem withLane_runs (k : Body) (x : CmdChannel) : withLane n k { s with cmd := x } = k { s with cmd := x } := if_pos hlane

theorem laneConfigured {a b : Bool} {p : Nat} (hr : runsNow h (.laneConfig n a b p) s) (hp : p ≤ 15) :
    completes (.laneConfig h n a b p) h 0x0801 s fun t =>
      t.lane n = { s.lane n with txInv := a, rxInv := b, preset := p } ∧ otherLanes n s t ∧
      t = { takeUp h s with lanes := t.lanes } := by
  obtain ⟨x, hx⟩ := takeUp_cmd h s
  have hbody : doLaneConfig n a b p { s with cmd := x } = okData [a.toNat, b.toNat, p]
      (modLane n (fun l => { l with txInv := a, rxInv := b, preset := p }) { s with cmd := x }) :=
    (withLane_runs hlane _ x).trans (require_true (decide_eq_true hp))
  exact completes_taken hx hr rfl rfl rfl hbody
    ⟨modLane_self n _ { s with cmd := x }, fun m hm => modLane_ne m n _ { s with cmd := x } hm, by rw [hx]; rfl⟩

theorem laneConfig_range {a b : Bool} {p : Nat} (hr : runsNow h (.laneConfig n a b p) s) (hp : 15 < p) :
    failsWith (.laneConfig h n a b p) h 0x0801 .paramRange s := by
  obtain ⟨x, hx⟩ := takeUp_cmd h s
  have hbody : doLaneConfig n a b p { s with cmd := x } = fail .paramRange { s with cmd := x } :=
    (withLane_runs hlane _ x).trans (require_false (decide_eq_false (Nat.not_le.mpr hp)))
  exact failsWith_taken hx hr rfl rfl rfl hbody

theorem laneStatus (hr : runsNow h (.laneStatus n) s) : completes (.laneStatus h n) h 0x0803 s fun t =>
    t.lane n = { s.lane n with ppm := (t.lane n).ppm } ∧ otherLanes n s t ∧
    t = { takeUp h s with lanes := t.lanes, clk := { s.clk with draws := s.clk.draws + 2 } } := by
  obtain ⟨x, hx⟩ := takeUp_cmd h s
  have hbody : ∃ d v, doLaneStatus n { s with cmd := x } = okData d (modLane n (fun l => { l with ppm := v })
      { s with cmd := x, clk := { s.clk with draws := s.clk.draws + 2 } }) := ⟨_, _, withLane_runs hlane _ x⟩
  obtain ⟨d, v, hbody⟩ := hbody
  have hself := modLane_self n (fun l => { l with ppm := v }) { s with cmd := x, clk := { s.clk with draws := s.clk.draws + 2 } }
  exact completes_taken hx hr rfl rfl rfl hbody ⟨by rw [hself]; rfl, fun m hm => modLane_ne m n _ _ hm, by rw [hx]; rfl⟩

/-- lane.monitor.set out of a range error changes the mode. -/
theorem laneMonitor_body {m : LaneMode} (x : CmdChannel) (hrate : m = .ssprq → ∀ x, laneRate n s ≠ some (.g25, x)) :
    doLaneMonitorSet n m { s with cmd := x } = okData [laneModeCode m] (changeMode n m { s with cmd := x }) := by
  refine (withLane_runs hlane _ x).trans (require_true ?_)
  rw [Bool.not_eq_true', Bool.and_eq_false_iff]
  by_cases hm : m = .ssprq
  · refine .inr ?_
    rw [show laneRate n { s with cmd := x } = laneRate n s from rfl]
    match hv : laneRate n s with
    | none => rfl
    | some (r, y) => exact beq_eq_false_iff_ne.mpr fun hr => hrate hm y (hr ▸ hv)
  · exact .inl (beq_eq_false_iff_ne.mpr hm)

theorem laneMonitored (hr : runsNow h (.laneMonitorSet n .monitor) s) (hmode : (s.lane n).mode ≠ .monitor) :
    completes (.laneMonitorSet h n .monitor) h 0x0804 s fun t =>
      t.lane n = { s.lane n with mode := .monitor, align := false, block := false, patLock := false } ∧ otherLanes n s t ∧
      t = { takeUp h s with lanes := t.lanes } := by
  obtain ⟨x, hx⟩ := takeUp_cmd h s
  have hchange : changeMode n .monitor { s with cmd := x } =
      modLane n (fun l => { l with mode := .monitor, align := false, block := false, patLock := false }) { s with cmd := x } :=
    (if_neg hmode).trans (if_pos rfl)
  have hbody := (laneMonitor_body hlane (m := .monitor) x fun h => LaneMode.noConfusion h).trans (congrArg (okData _) hchange)
  exact completes_taken hx hr rfl rfl rfl hbody
    ⟨modLane_self n _ { s with cmd := x }, fun m hm => modLane_ne m n _ { s with cmd := x } hm, by rw [hx]; rfl⟩

theorem lanePattern {m : LaneMode} (hr : runsNow h (.laneMonitorSet n m) s) (hm : m ≠ .monitor) (hnew : m ≠ (s.lane n).mode)
    (hrate : m = .ssprq → ∀ x, laneRate n s ≠ some (.g25, x)) : completes (.laneMonitorSet h n m) h 0x0804 s fun t =>
      t.lane n = { s.lane n with mode := m, patLock := false } ∧ otherLanes n s t ∧
      (∀ p ∈ portsOfLane n s, (t.port p).up = false) ∧ (∀ p, p ∉ portsOfLane n s → t.port p = s.port p) ∧
      t = { takeUp h s with
        clk := t.clk, lanes := t.lanes, ports := t.ports, evc := t.evc, pmc := t.pmc, out := t.out } := by
  obtain ⟨x, hx⟩ := takeUp_cmd h s
  have hchange : changeMode n m { s with cmd := x } =
      dropLanePorts n (modLane n (fun l => { l with mode := m, patLock := false }) { s with cmd := x }) :=
    (if_neg hnew.symm).trans (if_neg hm)
  have hbody := (laneMonitor_body hlane x hrate).trans (congrArg (okData _) hchange)
  obtain ⟨hdown, hkeep⟩ := dropLanePorts_ports n (modLane n (fun l => { l with mode := m, patLock := false }) { s with cmd := x })
  refine completes_taken hx hr rfl rfl rfl hbody ⟨?_, fun k hk => ?_, hdown, hkeep, ?_⟩
  · rw [dropLanePorts_lane]
    exact modLane_self n _ { s with cmd := x }
  · rw [dropLanePorts_lane]
    exact modLane_ne k n _ { s with cmd := x } hk
  · rw [hx]
    exact eq_merged (m := { clk := true, lanes := true, ports := true, evc := true, pmc := true, out := true }) (by simp)

theorem laneMode_same {m : LaneMode} (hr : runsNow h (.laneMonitorSet n m) s) (hsame : m = (s.lane n).mode)
    (hrate : m = .ssprq → ∀ x, laneRate n s ≠ some (.g25, x)) :
    completes (.laneMonitorSet h n m) h 0x0804 s fun t => t = takeUp h s := by
  obtain ⟨x, hx⟩ := takeUp_cmd h s
  have hbody := (laneMonitor_body hlane x hrate).trans (congrArg (okData _) (if_pos (c := (s.lane n).mode = m) hsame.symm))
  exact completes_taken hx hr rfl rfl rfl hbody (by rw [hx])

theorem laneSsprq_range {y : Bool} (hr : runsNow h (.laneMonitorSet n .ssprq) s) (hrate : laneRate n s = some (.g25, y)) :
    failsWith (.laneMonitorSet h n .ssprq) h 0x0804 .paramRange s := by
  obtain ⟨x, hx⟩ := takeUp_cmd h s
  have hbody : doLaneMonitorSet n .ssprq { s with cmd := x } = fail .paramRange { s with cmd := x } := by
    refine (withLane_runs hlane _ x).trans (require_false ?_)
    rw [show laneRate n { s with cmd := x } = laneRate n s from rfl, hrate]
    rfl
  exact failsWith_taken hx hr rfl rfl rfl hbody

omit hlane in
/-- The pattern counters of a lane take up what was compared since, free values (log entry 3). -/
theorem comparePattern_lane (n : Nat) (u : State) :
    (comparePattern n u).lane n = { u.lane n with patBits := ((comparePattern n u).lane n).patBits, patErrs := ((comparePattern n u).lane n).patErrs } ∧
    ((u.lane n).patLock = false → (comparePattern n u).lane n = u.lane n) ∧ otherLanes n u (comparePattern n u) ∧
    comparePattern n u = { u with lanes := (comparePattern n u).lanes, clk := { u.clk with draws := u.clk.draws + 2 } } := by
  unfold comparePattern draw
  dsimp only
  split
  case isTrue hlock =>
    have hself (b e : Nat) (v : State) : (modLane n (Lane.compared b e) v).lane n = Lane.compared b e (v.lane n) := modLane_self _ _ _
    exact ⟨by rw [hself]; rfl, fun hunlock => absurd (hunlock.symm.trans hlock) Bool.false_ne_true, fun m hm => modLane_ne _ _ _ _ hm, rfl⟩
  case isFalse => exact ⟨rfl, fun _ => rfl, fun _ _ => rfl, rfl⟩

theorem lanePattern_body (clear : Bool) (x : CmdChannel) : ∃ d, doLanePatternRead n clear { s with cmd := x } = okData d
    (if clear then modLane n (fun l => { l with patBits := 0, patErrs := 0 }) (comparePattern n { s with cmd := x })
      else comparePattern n { s with cmd := x }) := ⟨_, withLane_runs hlane _ x⟩

theorem lanePatternRead (hr : runsNow h (.lanePatternRead n false) s) : completes (.lanePatternRead h n false) h 0x0805 s fun t =>
    t.lane n = { s.lane n with patBits := (t.lane n).patBits, patErrs := (t.lane n).patErrs } ∧
    ((s.lane n).patLock = false → t.lane n = s.lane n) ∧ otherLanes n s t ∧
    t = { takeUp h s with lanes := t.lanes, clk := { s.clk with draws := s.clk.draws + 2 } } := by
  obtain ⟨x, hx⟩ := takeUp_cmd h s
  obtain ⟨d, hbody⟩ := lanePattern_body hlane (s := s) false x
  exact completes_taken hx hr rfl rfl rfl hbody (by rw [hx]; exact comparePattern_lane n { s with cmd := x })

theorem lanePatternCleared (hr : runsNow h (.lanePatternRead n true) s) : completes (.lanePatternRead h n true) h 0x0805 s fun t =>
    t.lane n = { s.lane n with patBits := 0, patErrs := 0 } ∧ otherLanes n s t ∧
    t = { takeUp h s with lanes := t.lanes, clk := { s.clk with draws := s.clk.draws + 2 } } := by
  obtain ⟨x, hx⟩ := takeUp_cmd h s
  obtain ⟨d, hbody⟩ := lanePattern_body hlane (s := s) true x
  obtain ⟨hlaneq, -, hothers, hframe⟩ := comparePattern_lane n { s with cmd := x }
  have hself := modLane_self n (fun l => { l with patBits := 0, patErrs := 0 }) (comparePattern n { s with cmd := x })
  rw [if_pos rfl] at hbody
  refine completes_taken hx hr rfl rfl rfl hbody ⟨hself.trans ?_, fun m hm => (modLane_ne m n _ _ hm).trans (hothers m hm), ?_⟩
  · rw [hlaneq]
    rfl
  · rw [hx]
    unfold modLane setLane
    rw [hframe]

end Command

section Reference
variable {h : Hdr} {s : State}

/-- A board input is used again; what the quads and outputs use stays (R172). -/
theorem reselect_keeps (r : Refs) (src : RefSource) :
    (r.reselect src).quad = r.quad ∧ (r.reselect src).out = r.out ∧ (r.reselect src).outEn = r.outEn := by
  cases src <;> exact ⟨rfl, rfl, rfl⟩

theorem quadRefSet {q : Nat} {src : RefSource} (hr : runsNow h (.laneRefclkSet (.quad q src)) s) (hq : q < s.quads) :
    completes (.laneRefclkSet h (.quad q src)) h 0x0802 s fun t =>
      t.refs.quadRef q = src ∧ (∀ k, k ≠ q → t.refs.quadRef k = s.refs.quadRef k) ∧ t.refs.out = s.refs.out ∧
      t.refs.outEn = s.refs.outEn ∧ t = { takeUp h s with refs := t.refs } := by
  obtain ⟨x, hx⟩ := takeUp_cmd h s
  obtain ⟨hquad, hout, hen⟩ := reselect_keeps s.refs src
  have hbody : ∃ d, doLaneRefclkSet (.quad q src) { s with cmd := x } = okData d { s with
      cmd := x, refs := { s.refs.reselect src with quad := Tbl.set .board0 (s.refs.reselect src).quad q src } } :=
    ⟨_, if_neg (Nat.not_le.mpr hq)⟩
  obtain ⟨d, hbody⟩ := hbody
  refine completes_taken hx hr rfl rfl rfl hbody ⟨Tbl.get_set_self _ _ _ _, fun k hk => ?_, hout, hen, by rw [hx]⟩
  unfold Refs.quadRef
  dsimp only
  rw [Tbl.get_set_ne _ _ _ hk, hquad]

/-- The enable bits with bit `o` set to `en`. -/
theorem enableBit {o : Nat} (ho : o < 2) (w : BitVec 2) (en : Bool) :
    (if en then w ||| (1#2 <<< o) else w &&& ~~~(1#2 <<< o)).getLsbD o = en := by
  cases en <;> simp [ho]

theorem outputRefSet {o : Nat} {src : RefSource} {en : Bool} (hr : runsNow h (.laneRefclkSet (.output o src en)) s) (ho : o < 2)
    (hsrc : src ≠ .board1) : completes (.laneRefclkSet h (.output o src en)) h 0x0802 s fun t =>
      t.refs.outRef o = src ∧ t.refs.outEn.getLsbD o = en ∧ (∀ k, k ≠ o → t.refs.outRef k = s.refs.outRef k) ∧
      t.refs.quad = s.refs.quad ∧ t = { takeUp h s with refs := t.refs } := by
  obtain ⟨x, hx⟩ := takeUp_cmd h s
  obtain ⟨hquad, hout, hen⟩ := reselect_keeps s.refs src
  have hbody : ∃ d, doLaneRefclkSet (.output o src en) { s with cmd := x } = okData d { s with
      cmd := x, refs := { s.refs.reselect src with
        out := Tbl.set .board0 (s.refs.reselect src).out o src
        outEn := if en then (s.refs.reselect src).outEn ||| (1#2 <<< o) else (s.refs.reselect src).outEn &&& ~~~(1#2 <<< o) } } :=
    ⟨_, if_neg fun h => h.elim (Nat.not_le.mpr ho) hsrc⟩
  obtain ⟨d, hbody⟩ := hbody
  refine completes_taken hx hr rfl rfl rfl hbody ⟨Tbl.get_set_self _ _ _ _, enableBit ho _ en, fun k hk => ?_, hquad, by rw [hx]⟩
  unfold Refs.outRef
  dsimp only
  rw [Tbl.get_set_ne _ _ _ hk, hout]

end Reference

/-- Settles O31: a loss takes the lane's ports DOWN, one port after the other, and no other port; the rest of the lane events change
their lane alone. -/
theorem lanes : Obligations.Lanes := by
  refine ⟨fun h s n hlane _ => ⟨fun a b p => laneConfigured hlane, fun a b p => laneConfig_range hlane, laneStatus hlane,
      laneMonitored hlane, fun m => lanePattern hlane, fun m => laneMode_same hlane, fun x => laneSsprq_range hlane,
      lanePatternCleared hlane, lanePatternRead hlane, fun q src hr _ => quadRefSet hr, fun o src en => outputRefSet⟩,
    fun s n hlane hawake => ⟨fun hsignal => laneLost (laneLos hlane hawake hsignal),
      fun hsignal => congrArg Host.Outcome.next (onLane_skips _ hsignal),
      fun hmode hcdr => laneLost (laneLol hlane hawake hmode hcdr), fun r multi e hrate hmode => ⟨fun l hlocks => ?_,
        laneAlignLock_waits hrate⟩, fun l hblock => ⟨fun x hlen hvalid multi => locks_headers hblock hlen hvalid,
        fun x hbad r multi => locks_badHeader hbad⟩, fun l halign r multi a b hrate => ⟨locks_markers halign hrate, locks_farMarker⟩,
      fun r multi e hrate hmode => ⟨fun l hloses => ?_, laneAlignLost_stays hrate⟩,
      fun l multi => ⟨fun x => loses_headers, fun x hfew r => loses_fewBad hfew, fun a b c d r => loses_markers,
        fun m r => loses_marker, fun ps r => loses_skew ps⟩, laneBerHigh hlane hawake,
      fun g w x e => lanePatternLock hlane hawake, fun w x e hw => ?_, fun w x e hw => ?_,
      ?_, fun hmode => ?_, refFault⟩⟩
  · have hlock := laneChanged (laneAlignLock hlane hawake hrate hmode hlocks)
    rwa [hlocks] at hlock
  · have hlost := laneLost (laneAlignLost hlane hawake hrate hmode hloses)
    rwa [hloses] at hlost
  · exact congrArg Host.Outcome.next (onLane_skips _ (by simp [hw.ne']))
  · exact congrArg Host.Outcome.next (onLane_skips _ (by simp [hw]))
  · have hexec : exec (.laneSignalDetect n) s = .next (modLane n (fun l => { l with signal := true }) s) :=
      congrArg Host.Outcome.next (onLane_runs (ok := fun _ => true) hlane hawake _ rfl)
    exact laneChanged hexec
  · have hexec : exec (.laneCdrLock n) s = .next (modLane n (fun l => { l with cdr := true }) s) :=
      congrArg Host.Outcome.next (onLane_runs (ok := fun l => l.mode == .monitor) hlane hawake _ (by rw [hmode]; rfl))
    exact laneChanged hexec

end Sys2Proof.Proofs.Lanes
end

section
/-!
The die-to-die link (chapter 08), its split and rejoin: O32.
-/
namespace Sys2Proof.Proofs.DieLink
open Sys2Proof Sys2Proof.Machine Sys2Proof.Proofs.Frames Sys2Proof.Proofs.Rules Sys2Proof.Proofs.LineTimeEvents
open Sys2Proof.Proofs.CarrierEvents Sys2Proof.Proofs.RegistrationCommands

set_option Elab.async false

@[simp] theorem sendReply_die (a0 : Hdr) (a1 : Nat) (a2 : Ans) (s : State) : (sendReply a0 a1 a2 s).die = s.die :=
  die_of_rest (m := { clk := true, ports := true, cmd := true, evc := true, out := true }) (by simp)
@[simp] theorem answerRetrain_carriers (s : State) : (answerRetrain s).carriers = s.carriers :=
  carriers_of_rest (m := { clk := true, die := true, ports := true, cmd := true, evc := true, out := true }) (by simp)
@[simp] theorem answerRetrain_time (s : State) : (answerRetrain s).time = s.time :=
  time_of_rest (m := { clk := true, die := true, ports := true, cmd := true, evc := true, out := true }) (by simp)
@[simp] theorem answerRetrain_reg (s : State) : (answerRetrain s).reg = s.reg :=
  reg_of_rest (m := { clk := true, die := true, ports := true, cmd := true, evc := true, out := true }) (by simp)
@[simp] theorem answerRetrain_fuses (s : State) : (answerRetrain s).fuses = s.fuses :=
  fuses_of_rest (m := { clk := true, die := true, ports := true, cmd := true, evc := true, out := true }) (by simp)
@[simp] theorem releaseHeld_die (s : State) : (releaseHeld s).die = s.die :=
  die_of_rest (m := { evc := true, out := true }) (by simp)
@[simp] theorem releaseHeld_time (s : State) : (releaseHeld s).time = s.time :=
  time_of_rest (m := { evc := true, out := true }) (by simp)
@[simp] theorem releaseHeld_reg (s : State) : (releaseHeld s).reg = s.reg :=
  reg_of_rest (m := { evc := true, out := true }) (by simp)
@[simp] theorem releaseHeld_fuses (s : State) : (releaseHeld s).fuses = s.fuses :=
  fuses_of_rest (m := { evc := true, out := true }) (by simp)
@[simp] theorem dropEarly_die (a0 : Nat) (s : State) : (dropEarly a0 s).die = s.die :=
  die_of_rest (m := { carriers := true, out := true }) (by simp)
@[simp] theorem dropEarly_time (a0 : Nat) (s : State) : (dropEarly a0 s).time = s.time :=
  time_of_rest (m := { carriers := true, out := true }) (by simp)
@[simp] theorem dropEarly_reg (a0 : Nat) (s : State) : (dropEarly a0 s).reg = s.reg :=
  reg_of_rest (m := { carriers := true, out := true }) (by simp)
@[simp] theorem dropEarly_fuses (a0 : Nat) (s : State) : (dropEarly a0 s).fuses = s.fuses :=
  fuses_of_rest (m := { carriers := true, out := true }) (by simp)
@[simp] theorem realign_die (s : State) : (realign s).die = s.die :=
  die_of_rest (m := { time := true, trib := true, cls := true, q := true, ports := true, snaps := true, sec := true, groups := true, evc := true, pwr := true, out := true }) (by simp)
@[simp] theorem realign_reg (s : State) : (realign s).reg = s.reg :=
  reg_of_rest (m := { time := true, trib := true, cls := true, q := true, ports := true, snaps := true, sec := true, groups := true, evc := true, pwr := true, out := true }) (by simp)
@[simp] theorem realign_fuses (s : State) : (realign s).fuses = s.fuses :=
  fuses_of_rest (m := { time := true, trib := true, cls := true, q := true, ports := true, snaps := true, sec := true, groups := true, evc := true, pwr := true, out := true }) (by simp)
@[simp] theorem onInvalid_time (s : State) : (onInvalid s).time = s.time :=
  time_of_rest (m := { trib := true, cls := true, q := true, ports := true, snaps := true, sec := true, groups := true, evc := true, pwr := true, out := true }) (by simp)
@[simp] theorem regateAll_time (s : State) : (regateAll s).time = s.time :=
  time_of_rest (m := { ports := true, evc := true, out := true }) (by simp)

/-! ### Retrains and their answers (R184 to R186) -/

theorem answerRetrain_die (s : State) : (answerRetrain s).die = { s.die with waiter := [] } :=
  foldl_keeps (F := State.die) s.die.waiter (modDie (fun d => { d with waiter := [] }) s) fun s h => sendReply_die h _ _ s

/-- A retrain starts with a free number of flits in the retry buffer. -/
theorem startRetrain_die (s : State) : ∃ k, (startRetrain s).die = { s.die with retrain := true, retry := k } :=
  ⟨_, raise_die 0x19 _⟩

section Retrain
variable {h : Hdr} {s : State} {w : Bool} (hr : runsNow h (.dieRetrain w) s)
include hr

/-- The command joins those that wait for the retrain's end. -/
def waiting (h : Hdr) (w : Bool) (s : State) : State := modDie (fun d => { d with waiter := d.waiter ++ [h], widen := d.widen || w }) s

theorem dieRetrain_exec : exec (.dieRetrain h w) s = .next (keepOpen h (.dieRetrain w)
    (if s.die.retrain || s.die.split then waiting h w (takeUp h s) else startRetrain (waiting h w (takeUp h s)))) := by
  obtain ⟨x, hx⟩ := takeUp_cmd h s
  refine congrArg Host.Outcome.next (command_later hr ?_)
  rw [begun_plain rfl, hx]
  exact (apply_ite (Prod.mk none) _ _ _).symm

theorem dieRetrained (hsplit : s.die.split = false) : ∃ t,
    exec (.dieRetrain h w) s = .next (keepOpen h (.dieRetrain w) t) ∧ t.die.retrain = true ∧
    t.die.waiter = s.die.waiter ++ [h] ∧ t.die.widen = (s.die.widen || w) ∧ t.die.goodUp = s.die.goodUp ∧
    t.die.goodDown = s.die.goodDown ∧ t = { takeUp h s with clk := t.clk, die := t.die, evc := t.evc, out := t.out } := by
  have hexec := dieRetrain_exec hr
  rw [hsplit, Bool.or_false] at hexec
  have hdie : (waiting h w (takeUp h s)).die = { s.die with waiter := s.die.waiter ++ [h], widen := s.die.widen || w } := by
    rw [takeUp_eq]
    rfl
  cases hretrain : s.die.retrain with
  | true =>
    rw [hretrain, if_pos rfl] at hexec
    exact ⟨_, hexec, by rw [hdie]; exact hretrain, by rw [hdie], by rw [hdie], by rw [hdie], by rw [hdie], rfl⟩
  | false =>
    rw [hretrain, if_neg Bool.false_ne_true] at hexec
    obtain ⟨k, hk⟩ := startRetrain_die (waiting h w (takeUp h s))
    rw [hdie] at hk
    refine ⟨_, hexec, by rw [hk], by rw [hk], by rw [hk], by rw [hk], by rw [hk], ?_⟩
    unfold waiting modDie
    exact eq_merged (m := { clk := true, die := true, evc := true, out := true }) (by simp)

theorem dieRetrain_split (hsplit : s.die.split = true) :
    exec (.dieRetrain h w) s = .next (keepOpen h (.dieRetrain w) { takeUp h s with
      die := { s.die with waiter := s.die.waiter ++ [h], widen := s.die.widen || w } }) := by
  rw [dieRetrain_exec hr, hsplit, Bool.or_true, if_pos rfl]
  obtain ⟨x, hx⟩ := takeUp_cmd h s
  rw [hx]
  rfl

end Retrain

/-! ### The split (R181, R304) -/

/-- The link of a split. -/
def splitLink (d : DieLink) : DieLink :=
  { d with
    split := true, reported := false, retrain := false, widen := false, widthUp := 0, widthDown := 0
    goodUp := if d.goodUp = 0 ∨ d.goodDown = 0 then d.goodUp else 0
    goodDown := if d.goodUp = 0 ∨ d.goodDown = 0 then d.goodDown else 0
    nFailed := if d.goodUp = 0 ∨ d.goodDown = 0 then d.nFailed else d.nFailed + d.goodUp + d.goodDown }

/-- The switch die's line time in a split. -/
def splitTime (s : State) : TimeUnit := { s.time with aligned := false, copy := some (lineTime s), copyValid := timeValid s }

theorem splitDies_eq {s : State} (hsplit : s.die.split = false) : splitDies s = raise 0x2B (raise 0x1B
    { forEach s.carrierNums discardDrawn s with
      die := splitLink s.die, time := splitTime s
      pmc := { (forEach s.carrierNums discardDrawn s).pmc with splitLoss := true } }) := by
  unfold splitDies
  rw [hsplit, if_neg Bool.false_ne_true]
  rfl

theorem splitDies_die {s : State} (hsplit : s.die.split = false) : (splitDies s).die = splitLink s.die := by
  rw [splitDies_eq hsplit, raise_die, raise_die]

theorem splitDies_splits (s : State) (hsplit : s.die.split = false) :
    (splitDies s).die.split = true ∧ (splitDies s).die.widthUp = 0 ∧ (splitDies s).die.widthDown = 0 := by
  rw [splitDies_die hsplit]
  exact ⟨rfl, rfl, rfl⟩

theorem dieSplit {s : State} (hsplit : s.die.split = false) : nextWith .dieSplit s fun t =>
      t.die.split = true ∧ t.die.retrain = false ∧ t.die.widthUp = 0 ∧ t.die.widthDown = 0 ∧ t.time.aligned = false ∧
      t.time.copy = some (lineTime s) ∧ t.time.copyValid = timeValid s ∧
      (∀ n ∈ s.carrierNums, (t.carrier n).drawn = []) ∧ t.reg = s.reg ∧ t.ports = s.ports ∧ t.sec = s.sec ∧
      t = { s with
        time := t.time, carriers := t.carriers, q := t.q, die := t.die, evc := t.evc, pmc := t.pmc, out := t.out } := by
  have hexec : exec .dieSplit s = .next (splitDies s) := rfl
  have htime : (splitDies s).time = splitTime s := by rw [splitDies_eq hsplit, raise_time, raise_time]
  have hdrawn (n : Nat) (hn : n ∈ s.carrierNums) : ((splitDies s).carrier n).drawn = [] := by
    rw [splitDies_eq hsplit, raise_carrier, raise_carrier]
    refine forEach_mem (P := fun s => (s.carrier n).drawn = []) hn s (fun s => ?_) fun m s h => ?_
    · obtain ⟨r, b, hself⟩ := discardDrawn_self n s
      rw [hself]
    · by_cases hm : n = m
      · obtain ⟨r, b, hself⟩ := discardDrawn_self m s
        rw [hm, hself]
      · rw [discardDrawn_ne hm, h]
  have hframe : splitDies s = { s with
      time := (splitDies s).time, carriers := (splitDies s).carriers, q := (splitDies s).q, die := (splitDies s).die
      evc := (splitDies s).evc, pmc := (splitDies s).pmc, out := (splitDies s).out } :=
    eq_merged (m := { time := true, carriers := true, q := true, die := true, evc := true, pmc := true, out := true }) (by simp)
  refine nextWith_of hexec ⟨?_, ?_, ?_, ?_, ?_, ?_, ?_, hdrawn, by rw [hframe], by rw [hframe], by rw [hframe], hframe⟩
  · rw [splitDies_die hsplit]; rfl
  · rw [splitDies_die hsplit]; rfl
  · rw [splitDies_die hsplit]; rfl
  · rw [splitDies_die hsplit]; rfl
  · rw [htime]; rfl
  · rw [htime]; rfl
  · rw [htime]; rfl

/-! ### Lanes spared and lost (R183, R184) -/

/-- A free number of CRC errors, one at least, is counted on a lane (R183). -/
theorem laneErrors_eq (down : Bool) (lane : Nat) (s : State) : ∃ v, laneErrors down lane s = { s with
    clk := { s.clk with draws := s.clk.draws + 1 }
    die := { s.die with errs := Tbl.modify 0 s.die.errs (24 * down.toNat + lane) (· + 1 + v) } } := ⟨_, rfl⟩

/-- A lane of a direction is spared. -/
def sparedLink (down : Bool) (d : DieLink) : DieLink :=
  if down then { d with goodDown := d.goodDown - 1, nSpared := d.nSpared + 1 }
  else { d with goodUp := d.goodUp - 1, nSpared := d.nSpared + 1 }

section Lane
variable {s : State} {k : Nat} (hsplit : s.die.split = false) (hk : k < 24)
include hsplit hk

theorem laneSpared {down : Bool} (hspare : (if down then s.die.widthDown else s.die.widthUp) < if down then s.die.goodDown else s.die.goodUp) :
    nextWith (.dieLaneSpared down k) s fun t =>
      t.die = { sparedLink down s.die with errs := t.die.errs } ∧
      Tbl.get 0 s.die.errs (24 * down.toNat + k) < Tbl.get 0 t.die.errs (24 * down.toNat + k) ∧
      t = { s with clk := { s.clk with draws := s.clk.draws + 1 }, die := t.die, evc := t.evc, out := t.out } := by
  obtain ⟨v, hv⟩ := laneErrors_eq down k s
  have hexec : exec (.dieLaneSpared down k) s = .next (raise 0x18 (modDie (sparedLink down) (laneErrors down k s))) := by
    change execDieLaneSpared down k s = _
    unfold execDieLaneSpared
    dsimp only
    rw [if_neg (by simp [hsplit, hk, hspare])]
    rfl
  have hdie : (raise 0x18 (modDie (sparedLink down) (laneErrors down k s))).die =
      { sparedLink down s.die with errs := Tbl.modify 0 s.die.errs (24 * down.toNat + k) (· + 1 + v) } := by
    rw [raise_die, hv]
    cases down <;> rfl
  refine nextWith_of hexec ⟨by rw [hdie], ?_, ?_⟩
  · rw [hdie]
    dsimp only
    rw [Tbl.get_modify_self]
    omega
  · rw [hv]
    exact eq_merged (m := { die := true, evc := true, out := true })
      (s := { s with clk := { s.clk with draws := s.clk.draws + 1 } }) (by simp [modDie])

/-- The link once a lane is lost (R184). -/
def lostLink (down spare : Bool) (d : DieLink) : DieLink :=
  { d with
    goodUp := if down then d.goodUp else d.goodUp - 1, goodDown := if down then d.goodDown - 1 else d.goodDown
    nSpared := d.nSpared + spare.toNat, nFailed := d.nFailed + 1 }

/-- The good lanes of a direction, and whether a spare is among them. -/
def goodOf (down : Bool) (d : DieLink) : Nat := if down then d.goodDown else d.goodUp
def hasSpare (down : Bool) (d : DieLink) : Bool := decide ((if down then d.widthDown else d.widthUp) < goodOf down d)

/-- The state once a lane is lost, before the link retrains or splits. -/
def laneGone (down : Bool) (k : Nat) (s : State) : State :=
  if hasSpare down s.die then raise 0x18 (modDie (lostLink down true) (laneErrors down k s))
  else modDie (lostLink down false) (laneErrors down k s)

omit hsplit hk in
theorem laneGone_die (down : Bool) (k : Nat) (s : State) :
    ∃ e, (laneGone down k s).die = { lostLink down (hasSpare down s.die) s.die with errs := e } := by
  unfold laneGone
  split
  case isTrue h =>
    rw [raise_die, h]
    exact ⟨_, rfl⟩
  case isFalse h =>
    rw [Bool.eq_false_iff.mpr h]
    exact ⟨_, rfl⟩

omit hsplit hk in
theorem laneGone_frame (down : Bool) (k : Nat) (s : State) : rest { clk := true, die := true, evc := true, out := true } (laneGone down k s) =
    rest { clk := true, die := true, evc := true, out := true } s := by
  unfold laneGone
  split <;> simp

theorem dieLaneLoss_exec (down : Bool) : exec (.dieLaneLoss down k) s = .next
    (if goodOf down s.die ≤ 1 then splitDies (laneGone down k s)
      else if (laneGone down k s).die.retrain then laneGone down k s else startRetrain (laneGone down k s)) := by
  change execDieLaneLoss down k s = _
  unfold execDieLaneLoss
  dsimp only
  rw [if_neg (by simp [hsplit, hk])]
  unfold laneGone
  cases hspare : hasSpare down s.die with
  | true =>
    unfold hasSpare goodOf at hspare
    rw [hspare, if_pos rfl, if_pos rfl]
    rfl
  | false =>
    unfold hasSpare goodOf at hspare
    rw [hspare, if_neg Bool.false_ne_true, if_neg Bool.false_ne_true]
    rfl

theorem laneLost (hgood : 1 < s.die.goodUp) : nextWith (.dieLaneLoss false k) s fun t =>
      t.die.retrain = true ∧ t.die.split = false ∧ t.die.goodUp = s.die.goodUp - 1 ∧ t.die.goodDown = s.die.goodDown ∧
      t.die.nFailed = s.die.nFailed + 1 ∧
      t.die.nSpared = s.die.nSpared + (if s.die.widthUp < s.die.goodUp then 1 else 0) ∧ t.time = s.time ∧
      t.carriers = s.carriers ∧ t = { s with clk := t.clk, die := t.die, evc := t.evc, out := t.out } := by
  have hexec := dieLaneLoss_exec hsplit hk false
  rw [if_neg (show ¬ goodOf false s.die ≤ 1 from Nat.not_le.mpr hgood)] at hexec
  obtain ⟨e, hdie⟩ := laneGone_die false k s
  have hgone := laneGone_frame false k s
  have hspared : s.die.nSpared + (hasSpare false s.die).toNat = s.die.nSpared + (if s.die.widthUp < s.die.goodUp then 1 else 0) := by
    unfold hasSpare goodOf
    by_cases hwidth : s.die.widthUp < s.die.goodUp <;> simp [hwidth]
  have hframe {t : State} (ht : rest { clk := true, die := true, evc := true, out := true } t =
      rest { clk := true, die := true, evc := true, out := true } s) :
      t.time = s.time ∧ t.carriers = s.carriers ∧ t = { s with clk := t.clk, die := t.die, evc := t.evc, out := t.out } :=
    ⟨time_of_rest ht rfl, carriers_of_rest ht rfl, eq_merged ht⟩
  by_cases hon : (laneGone false k s).die.retrain = true
  · rw [if_pos hon] at hexec
    refine nextWith_of hexec ⟨hon, ?_, ?_, ?_, ?_, ?_, hframe hgone⟩ <;> rw [hdie]
    · exact hsplit
    · rfl
    · rfl
    · rfl
    · exact hspared
  · rw [if_neg hon] at hexec
    obtain ⟨r, hr⟩ := startRetrain_die (laneGone false k s)
    rw [hdie] at hr
    refine nextWith_of hexec ⟨?_, ?_, ?_, ?_, ?_, ?_, hframe (by simpa using hgone)⟩ <;> rw [hr]
    · exact hsplit
    · rfl
    · rfl
    · rfl
    · exact hspared

theorem lastLaneLost (d : Bool) (hgood : (if d then s.die.goodDown else s.die.goodUp) = 1) :
    nextWith (.dieLaneLoss d k) s fun t => t.die.split = true ∧ t.die.widthUp = 0 ∧ t.die.widthDown = 0 := by
  have hexec := dieLaneLoss_exec hsplit hk d
  rw [if_pos (show goodOf d s.die ≤ 1 from hgood.le)] at hexec
  obtain ⟨e, hdie⟩ := laneGone_die d k s
  exact nextWith_of hexec (splitDies_splits _ (by rw [hdie]; exact hsplit))

end Lane

/-! ### The end of a retrain and the rejoin (R184, R306) -/

/-- The link once it runs again with `x` and `y` good lanes (R181, R184). -/
def resumedLink (x y : Nat) (d : DieLink) : DieLink :=
  { d with
    goodUp := x, goodDown := y, widthUp := dieWidth x, widthDown := dieWidth y, retrain := false, widen := false, retry := 0 }

/-- The state once the link runs again, before the waiting commands are answered. -/
def resumed (x y : Nat) (s : State) : State :=
  if dieWidth x < 20 ∨ dieWidth y < 20 then raise 0x1A (modDie (resumedLink x y) s) else modDie (resumedLink x y) s

theorem resumed_die (x y : Nat) (s : State) : (resumed x y s).die = resumedLink x y s.die := by
  unfold resumed
  split
  · exact raise_die _ _
  · rfl

theorem resumed_frame (x y : Nat) (s : State) :
    rest { die := true, evc := true, out := true } (resumed x y s) = rest { die := true, evc := true, out := true } s := by
  unfold resumed
  split <;> simp

theorem retrained {s : State} {u d x y : Nat} (hretrain : s.die.retrain = true) (hx : x = min u (if s.die.widen then 24 else s.die.goodUp))
    (hy : y = min d (if s.die.widen then 24 else s.die.goodDown)) (hx0 : 0 < x) (hy0 : 0 < y) :
    nextWith (.dieRetrainComplete u d) s fun t =>
        t.die.retrain = false ∧ t.die.goodUp = x ∧ t.die.goodDown = y ∧ t.die.widthUp = dieWidth x ∧
        t.die.widthDown = dieWidth y ∧
        t.die.waiter = [] ∧ t.die.split = s.die.split ∧ t.carriers = s.carriers ∧ t.time = s.time := by
  have hup : (if s.die.widen then min u 24 else min u s.die.goodUp) = x := by rw [hx]; split <;> rfl
  have hdown : (if s.die.widen then min d 24 else min d s.die.goodDown) = y := by rw [hy]; split <;> rfl
  have hexec : exec (.dieRetrainComplete u d) s = .next (answerRetrain (resumed x y s)) := by
    change execDieRetrainComplete u d s = _
    unfold execDieRetrainComplete
    dsimp only
    rw [hretrain, if_neg (by decide), hup, hdown, if_neg (by omega)]
    rfl
  have hframe := resumed_frame x y s
  have hanswer := answerRetrain_die (resumed x y s)
  rw [resumed_die] at hanswer
  refine nextWith_of hexec ⟨?_, ?_, ?_, ?_, ?_, ?_, ?_, (answerRetrain_carriers _).trans (carriers_of_rest hframe),
    (answerRetrain_time _).trans (time_of_rest hframe)⟩ <;> rw [hanswer] <;> rfl

theorem retrain_idle {s : State} (u d : Nat) (hretrain : s.die.retrain = false) : exec (.dieRetrainComplete u d) s = .next s := by
  change execDieRetrainComplete u d s = _
  unfold execDieRetrainComplete
  rw [hretrain, if_pos (by decide)]

section Rejoin
variable {s : State} {u d : Nat}

theorem rejoin_whole (hsplit : s.die.split = false) : exec (.splitRetrainAttempt u d) s = .next s := by
  change execSplitRetrainAttempt u d s = _
  unfold execSplitRetrainAttempt
  rw [hsplit, if_pos (by decide)]

theorem rejoin_fails (hsplit : s.die.split = true) (hnone : u = 0 ∨ d = 0) : nextWith (.splitRetrainAttempt u d) s fun t =>
    t.die = { s.die with waiter := [] } ∧ t.time = s.time ∧ t.carriers = s.carriers := by
  have hexec : exec (.splitRetrainAttempt u d) s = .next (answerRetrain (raise 0x19 s)) := by
    change execSplitRetrainAttempt u d s = _
    unfold execSplitRetrainAttempt
    dsimp only
    rw [hsplit, if_neg (by decide), if_pos (by omega)]
  refine nextWith_of hexec ⟨?_, (answerRetrain_time _).trans (raise_time _ _), (answerRetrain_carriers _).trans (raise_carriers _ _)⟩
  rw [answerRetrain_die, raise_die]

/-- The link of the rejoined dies. -/
def rejoinedLink (x y : Nat) (d : DieLink) : DieLink :=
  { d with split := false, goodUp := x, goodDown := y, widthUp := dieWidth x, widthDown := dieWidth y, retry := 0, widen := false }

/-- The switch die's line time is the line die's again. -/
theorem realign_time (s : State) : (realign s).time = { s.time with copy := none, copyValid := false, aligned := true } := by
  unfold realign
  dsimp only
  split
  · exact onInvalid_time _
  · split
    · rfl
    · exact regateAll_time _

/-- The state once the held events and grants of the split are released. -/
def released (x y : Nat) (s : State) : State :=
  forEach (releaseHeld (realign (modDie (rejoinedLink x y) (raise 0x19 s)))).carrierNums dropEarly
    (releaseHeld (realign (modDie (rejoinedLink x y) (raise 0x19 s))))

theorem released_die (x y : Nat) (s : State) : (released x y s).die = rejoinedLink x y s.die := by
  unfold released
  rw [forEach_keeps (F := State.die) _ _ fun n s => dropEarly_die n s, releaseHeld_die, realign_die]
  exact congrArg (rejoinedLink x y) (raise_die _ _)

theorem released_time (x y : Nat) (s : State) :
    (released x y s).time = { s.time with copy := none, copyValid := false, aligned := true } := by
  unfold released
  rw [forEach_keeps (F := State.time) _ _ fun n s => dropEarly_time n s, releaseHeld_time, realign_time]
  exact congrArg (fun t : TimeUnit => { t with copy := none, copyValid := false, aligned := true }) (raise_time _ _)

theorem released_fuses (x y : Nat) (s : State) : (released x y s).fuses = s.fuses := by
  unfold released
  rw [forEach_keeps (F := State.fuses) _ _ fun n s => dropEarly_fuses n s, releaseHeld_fuses, realign_fuses]
  exact raise_fuses _ _

theorem released_reg (x y : Nat) (s : State) : (released x y s).reg = s.reg := by
  unfold released
  rw [forEach_keeps (F := State.reg) _ _ fun n s => dropEarly_reg n s, releaseHeld_reg, realign_reg]
  exact raise_reg _ _

theorem rejoined (hsplit : s.die.split = true) (hu : 0 < u) (hd : 0 < d) : nextWith (.splitRetrainAttempt u d) s fun t =>
      t.die.split = false ∧ t.die.goodUp = min u 24 ∧ t.die.goodDown = min d 24 ∧ t.die.widthUp = dieWidth (min u 24) ∧
      t.die.widthDown = dieWidth (min d 24) ∧ t.die.waiter = [] ∧ t.time.aligned = true ∧ t.time.copy = none ∧
      t.fuses = s.fuses ∧ t.reg = s.reg := by
  have hexec : ∃ v, rest { evc := true, out := true } v = rest { evc := true, out := true } (released (min u 24) (min d 24) s) ∧
      exec (.splitRetrainAttempt u d) s = .next (answerRetrain (raise 0x1D v)) := by
    by_cases hlow : dieWidth (min u 24) < 20 ∨ dieWidth (min d 24) < 20
    · refine ⟨raise 0x1A (released (min u 24) (min d 24) s), by simp, ?_⟩
      change execSplitRetrainAttempt u d s = _
      unfold execSplitRetrainAttempt
      dsimp only
      rw [hsplit, if_neg (by decide), if_neg (by omega), if_pos hlow]
      rfl
    · refine ⟨released (min u 24) (min d 24) s, rfl, ?_⟩
      change execSplitRetrainAttempt u d s = _
      unfold execSplitRetrainAttempt
      dsimp only
      rw [hsplit, if_neg (by decide), if_neg (by omega), if_neg hlow]
      rfl
  obtain ⟨v, hv, hexec⟩ := hexec
  have hdie : (answerRetrain (raise 0x1D v)).die = { rejoinedLink (min u 24) (min d 24) s.die with waiter := [] } := by
    rw [answerRetrain_die, raise_die, die_of_rest hv, released_die]
  have htime : (answerRetrain (raise 0x1D v)).time = { s.time with copy := none, copyValid := false, aligned := true } := by
    rw [answerRetrain_time, raise_time, time_of_rest hv, released_time]
  refine nextWith_of hexec ⟨?_, ?_, ?_, ?_, ?_, ?_, ?_, ?_, ?_, ?_⟩
  · rw [hdie]; rfl
  · rw [hdie]; rfl
  · rw [hdie]; rfl
  · rw [hdie]; rfl
  · rw [hdie]; rfl
  · rw [hdie]
  · rw [htime]
  · rw [htime]
  · rw [answerRetrain_fuses, raise_fuses, fuses_of_rest hv, released_fuses]
  · rw [answerRetrain_reg, raise_reg, reg_of_rest hv, released_reg]

end Rejoin

/-- Settles O32: each link event has one state of the link behind it, which raising events and answering the waiting commands
leave as it is. -/
theorem dieLink : Obligations.DieLink := by
  intro h s
  refine ⟨fun w hr => dieRetrained hr, fun w hr => dieRetrain_split hr, fun k hsplit hk hspare => ?_, fun k hsplit hk hspare => ?_,
    fun k hsplit hk => laneLost hsplit hk, fun d k hsplit hk => lastLaneLost hsplit hk d, fun u d x y => retrained,
    fun u d => retrain_idle u d, dieSplit, fun hsplit => ?_, fun u d => rejoined, fun u d => rejoin_fails, fun u d => rejoin_whole⟩
  · obtain ⟨t, hexec, hdie, herrs, hframe⟩ := laneSpared hsplit hk (down := false) hspare
    exact ⟨t, hexec, hdie, by simpa using herrs, hframe⟩
  · obtain ⟨t, hexec, hdie, herrs, hframe⟩ := laneSpared hsplit hk (down := true) hspare
    exact ⟨t, hexec, hdie, by simpa using herrs, hframe⟩
  · change Host.Outcome.next (splitDies s) = _
    unfold splitDies
    rw [hsplit, if_pos rfl]

end Sys2Proof.Proofs.DieLink
end

section
/-!
Commands on a client port (chapter 09): O33.
-/
namespace Sys2Proof.Proofs.PortCommands
open Sys2Proof Sys2Proof.Machine Sys2Proof.Proofs.Frames Sys2Proof.Proofs.Rules Sys2Proof.Proofs.LineTimeEvents
open Sys2Proof.Proofs.RegistrationCommands Sys2Proof.Proofs.Passes Sys2Proof.Proofs.Lanes

set_option Elab.async false

@[simp] theorem abortChanged_ports (s : State) : (abortChanged s).ports = s.ports :=
  ports_of_rest (m := { cls := true, sec := true, groups := true, evc := true, out := true }) (by simp)

@[simp] theorem enterDown_lanes (a0 : Nat) (s : State) : (enterDown a0 s).lanes = s.lanes :=
  lanes_of_rest (m := { clk := true, ports := true, evc := true, pmc := true, out := true }) (by simp)

/-! ### What the sending of a MAC's own frames leaves of a port (R200, R204) -/

section Keeps
variable {β : Type} {F : Port → β} (p m : Nat) (s : State)

theorem modPort_keeps {f : Port → Port} (hf : ∀ v, F (f v) = F v) : F ((modPort p f s).port m) = F (s.port m) := by
  by_cases h : m = p
  · rw [h, modPort_self, hf]
  · rw [modPort_ne _ _ _ _ h]

/-- `F` reads none of what the sending of a frame of the MAC's own changes. -/
def sendFree (F : Port → β) : Prop :=
  ∀ v l w st b, F { v with inLpi := l, wakeAt := w, stats := st, busy := b } = F v

variable (hF : sendFree F)
include hF

theorem leaveLpi_keeps : F ((leaveLpi p s).port m) = F (s.port m) := by
  unfold leaveLpi
  dsimp only
  split
  · rfl
  · unfold modStats
    rw [modPort_keeps p m _ fun v => hF v v.inLpi v.wakeAt _ v.busy, modPort_keeps p m _ fun v => hF v none _ v.stats v.busy]

theorem sendOwn_keeps (len : Nat) (out : Instant → Output) : F ((sendOwn p len out s).port m) = F (s.port m) := by
  rw [sendOwn_port, modPort_keeps p m _ fun v => hF v v.inLpi v.wakeAt v.stats _, leaveLpi_keeps p m s hF]

theorem sendPause_keeps (k : Nat) (time : BitVec 16) : F ((sendPause p k time s).port m) = F (s.port m) := by
  unfold sendPause
  split
  · rfl
  · unfold modStats
    rw [sendOwn_keeps p m _ hF, modPort_keeps p m _ fun v => hF v v.inLpi v.wakeAt _ v.busy]

variable (hxoff : ∀ v x, F { v with xoff := x } = F v)
include hxoff

theorem checkAccount_keeps (k : Nat) : F ((checkAccount p k s).port m) = F (s.port m) := by
  have hsend (t : BitVec 16) (g : Port → Tbl (Option Instant)) :
      F ((sendPause p k t (modPort p (fun v => { v with xoff := g v }) s)).port m) = F (s.port m) := by
    rw [sendPause_keeps p m _ hF, modPort_keeps p m _ fun v => hxoff v _]
  unfold checkAccount
  dsimp only
  split
  · split
    · exact hsend _ _
    · rfl
  · split
    · exact hsend _ _
    · rfl
  · rfl

theorem fifoChanged_keeps : F ((fifoChanged p s).port m) = F (s.port m) :=
  forEach_keeps (F := fun s => F (s.port m)) _ s fun k s => checkAccount_keeps p m s hF hxoff k

end Keeps

theorem leaveLpi_inLpi (p : Nat) (s : State) : ((leaveLpi p s).port p).inLpi = none := by
  unfold leaveLpi
  dsimp only
  split
  case h_1 h => exact h
  case h_2 => rw [modStats, modPort_self, modPort_self]

theorem leaveLpi_wakeAt {p : Nat} {s : State} {b : Instant} (h : (s.port p).inLpi = some b) :
    ((leaveLpi p s).port p).wakeAt = some (s.clk.now + us ((s.port p).tw.getD (s.port p).twDefault)) := by
  unfold leaveLpi
  dsimp only
  rw [h]
  dsimp only
  rw [modStats, modPort_self, modPort_self]

section Others
variable (p : Nat) (s : State)

theorem sendPause_others (k : Nat) (time : BitVec 16) : otherPorts p s (sendPause p k time s) := by
  intro m hm
  unfold sendPause modStats
  split
  · rfl
  · exact (sendOwn_others p 64 _ _ m hm).trans (modPort_ne _ _ _ _ hm)

theorem checkAccount_others (k : Nat) : otherPorts p s (checkAccount p k s) := by
  intro m hm
  unfold checkAccount
  dsimp only
  split
  · split
    · exact (sendPause_others p _ k _ m hm).trans (modPort_ne _ _ _ _ hm)
    · rfl
  · split
    · exact (sendPause_others p _ k _ m hm).trans (modPort_ne _ _ _ _ hm)
    · rfl
  · rfl

theorem fifoChanged_others : otherPorts p s (fifoChanged p s) := fun m hm =>
  forEach_keeps (F := fun s => s.port m) _ s fun k s => checkAccount_others p s k m hm

end Others

/-! ### A port that goes DOWN (R189) -/

theorem enterDown_cfg (p : Nat) (s : State) : ((enterDown p s).port p).cfg = (s.port p).cfg := by
  unfold enterDown
  split
  · rfl
  · obtain ⟨k, hk⟩ := discardQueued_port p (modPort p (fun v => { v with up := false, paused := [], xoff := [], wakeAt := none })
      (leaveRxLpi p (leaveLpi p s)))
    have hrx (s : State) : ((leaveRxLpi p s).port p).cfg = (s.port p).cfg := by
      unfold leaveRxLpi modStats
      split
      · rfl
      · rw [modPort_self, modPort_self]
    rw [raise_port, port_congr hk, modStats, modPort_self, modPort_self, modPort_self]
    exact (hrx _).trans (leaveLpi_keeps (F := Port.cfg) p p s fun _ _ _ _ _ => rfl)

/-- A sleeping port wakes; an awake one stays as it is (R208). -/
theorem wakePort_port (p : Nat) (s : State) :
    (wakePort p s).port p = { s.port p with asleep := false } ∧ otherPorts p s (wakePort p s) := by
  unfold wakePort
  split
  case isTrue =>
    have hports : (notePower s (raise 0xCF (modPort p (fun v => { v with asleep := false }) s))).ports =
        (modPort p (fun v => { v with asleep := false }) s).ports := (notePower_ports _ _).trans (raise_ports _ _)
    exact ⟨by rw [port_congr hports, modPort_self], fun m hm => by rw [port_congr hports, modPort_ne _ _ _ _ hm]⟩
  case isFalse h => exact ⟨by rw [← Bool.eq_false_iff.mpr h], fun _ _ => rfl⟩

/-! ### Commands (Table 9-5) -/

section Command
variable {h : Hdr} {s : State} {p : Nat} (hport : s.hasPort p = true)

include hport in
theorem withPort_runs (k : Body) (x : CmdChannel) : withPort p k { s with cmd := x } = k { s with cmd := x } := by
  unfold withPort portStatusOf
  rw [show State.hasPort { s with cmd := x } p = true from hport]
  rfl

/-- A command that changes its port alone. -/
theorem portChanged {i : Instr} {c : Cmd} {o : Nat} {x : CmdChannel} {d : List Nat} {f : Port → Port}
    (hx : takeUp h s = { s with cmd := x }) (hr : runsNow h c s) (he : exec i s = .next (command h c s)) (ho : Cmd.opcode c = o)
    (hs : secRelevant o = false) (hb : bodyOf h c { s with cmd := x } = okData d (modPort p f { s with cmd := x })) :
    completes i h o s fun t => t.port p = f (s.port p) ∧ otherPorts p s t ∧ t = { takeUp h s with ports := t.ports } :=
  completes_taken hx hr he ho hs hb ⟨modPort_self p f { s with cmd := x }, fun m hm => modPort_ne m p f { s with cmd := x } hm, by rw [hx]; rfl⟩

section Config
variable {c : PortParams} (hr : runsNow h (.portConfig p (some c)) s)
include hr

/-- The mode of a port is a new one (R188). -/
def sameMode (v : Port) (c : PortParams) : Bool :=
  match v.cfg with | some d => d.lanes == c.lanes && d.rate == c.rate && d.fec == c.fec | none => false

/-- The state with a port configured. -/
def configured (p : Nat) (c : PortParams) (s : State) : State :=
  modPort p (fun v => { v with cfg := some c, lpi := v.lpi && sameMode (s.port p) c, tw := if sameMode (s.port p) c then v.tw else none })
    (if sameMode (s.port p) c then s else enterDown p s)

omit hr in
theorem portConfig_body (x : CmdChannel) (hcheck : checkPortConfig p c s = .ok) : ∃ d,
    dropping (doPortConfig p (some c)) { s with cmd := x } =
      okData d (abortChanged (notePower { s with cmd := x } (configured p c { s with cmd := x }))) := by
  refine ⟨cfgWords ((configured p c { s with cmd := x }).port p), ?_⟩
  unfold dropping doPortConfig
  dsimp only
  rw [show checkPortConfig p c { s with cmd := x } = checkPortConfig p c s from rfl, hcheck]
  rfl

theorem portConfigured (hcheck : checkPortConfig p c s = .ok) : completes (.portConfig h p (some c)) h 0x0806 s fun t =>
    (t.port p).cfg = some c ∧ otherPorts p s t ∧
    (sameMode (s.port p) c = true → t.port p = { s.port p with cfg := some c }) ∧
    (sameMode (s.port p) c = false → (t.port p).up = false) ∧
    t = { takeUp h s with
      clk := t.clk, ports := t.ports, groups := t.groups, sec := t.sec, cls := t.cls, evc := t.evc, pmc := t.pmc
      out := t.out } := by
  obtain ⟨x, hx⟩ := takeUp_cmd h s
  obtain ⟨d, hbody⟩ := portConfig_body x hcheck
  have hports : (abortChanged (notePower { s with cmd := x } (configured p c { s with cmd := x }))).ports =
      (configured p c { s with cmd := x }).ports := (abortChanged_ports _).trans (notePower_ports _ _)
  refine completes_taken hx hr rfl rfl rfl hbody ⟨?_, fun m hm => ?_, fun hsame => ?_, fun hnew => ?_, ?_⟩
  · rw [port_congr hports, configured, modPort_self]
  · rw [port_congr hports, configured, modPort_ne _ _ _ _ hm]
    split
    · rfl
    · exact enterDown_others p { s with cmd := x } m hm
  · rw [port_congr hports, configured, modPort_self, show sameMode (State.port { s with cmd := x } p) c = true from hsame, if_pos rfl,
      Bool.and_true]
    rfl
  · rw [port_congr hports, configured, modPort_self, show sameMode (State.port { s with cmd := x } p) c = false from hnew,
      if_neg Bool.false_ne_true]
    exact enterDown_up p { s with cmd := x }
  · rw [hx]
    unfold configured
    split <;> exact eq_merged (m := { clk := true, ports := true, groups := true, sec := true, cls := true, evc := true, pmc := true, out := true }) (by simp)

theorem portConfig_inUse (hcheck : checkPortConfig p c s = .lanesInUse) (hgroups : groupsIn .committed s = []) :
    failsWith (.portConfig h p (some c)) h 0x0806 .lanesInUse s := by
  obtain ⟨x, hx⟩ := takeUp_cmd h s
  have habort : abortChanged { s with cmd := x } = { s with cmd := x } := by
    unfold abortChanged
    rw [show groupsIn .committed { s with cmd := x } = [] from hgroups]
    rfl
  have hbody : dropping (doPortConfig p (some c)) { s with cmd := x } = fail .lanesInUse { s with cmd := x } := by
    unfold dropping doPortConfig
    dsimp only
    rw [show checkPortConfig p c { s with cmd := x } = checkPortConfig p c s from rfl, hcheck]
    exact congrArg _ habort
  exact failsWith_taken hx hr rfl rfl rfl hbody

end Config

include hport

theorem portFreed (hr : runsNow h (.portConfig p none) s) : completes (.portConfig h p none) h 0x0806 s fun t =>
    (t.port p).cfg = none ∧ (t.port p).up = false ∧ otherPorts p s t ∧
    t = { takeUp h s with
      clk := t.clk, ports := t.ports, groups := t.groups, sec := t.sec, cls := t.cls, evc := t.evc, pmc := t.pmc
      out := t.out } := by
  obtain ⟨x, hx⟩ := takeUp_cmd h s
  have hbody : dropping (doPortConfig p none) { s with cmd := x } = okData [0] (abortChanged (notePower { s with cmd := x }
      (modPort p (fun v => { v with cfg := none, asleep := false, lpi := false, tw := none }) (enterDown p { s with cmd := x })))) := by
    unfold dropping doPortConfig
    dsimp only
    rw [withPort_runs hport]
    rfl
  have hports : (abortChanged (notePower { s with cmd := x }
      (modPort p (fun v => { v with cfg := none, asleep := false, lpi := false, tw := none }) (enterDown p { s with cmd := x })))).ports = _ :=
    (abortChanged_ports _).trans (notePower_ports _ _)
  refine completes_taken hx hr rfl rfl rfl hbody ⟨?_, ?_, fun m hm => ?_, ?_⟩
  · rw [port_congr hports, modPort_self]
  · rw [port_congr hports, modPort_self]
    exact enterDown_up p { s with cmd := x }
  · rw [port_congr hports, modPort_ne _ _ _ _ hm]
    exact enterDown_others p { s with cmd := x } m hm
  · rw [hx]
    exact eq_merged (m := { clk := true, ports := true, groups := true, sec := true, cls := true, evc := true, pmc := true, out := true }) (by simp)

theorem filterSet {f : FilterParams} (hr : runsNow h (.portFilterSet p f) s) (hf : ∀ x ∈ f.entries, x.1 < 64) :
    completes (.portFilterSet h p f) h 0x0808 s fun t =>
      t.port p = { s.port p with
        promisc := f.promisc, bcast := f.bcast, mcast := f.mcast
        filter := f.entries.foldl (fun t x => Tbl.set (0, false) t x.1 x.2) (s.port p).filter } ∧
      otherPorts p s t ∧ t = { takeUp h s with ports := t.ports } := by
  obtain ⟨x, hx⟩ := takeUp_cmd h s
  have hbody : ∃ d, doPortFilterSet p f { s with cmd := x } = okData d (modPort p (fun v => { v with
      promisc := f.promisc, bcast := f.bcast, mcast := f.mcast
      filter := f.entries.foldl (fun t x => Tbl.set (0, false) t x.1 x.2) v.filter }) { s with cmd := x }) := by
    unfold doPortFilterSet
    rw [withPort_runs hport, require_true (by simpa using hf)]
    exact ⟨_, rfl⟩
  obtain ⟨d, hbody⟩ := hbody
  exact portChanged hx hr rfl rfl rfl hbody

theorem pauseSet {x : PauseParams} (hr : runsNow h (.portPauseSet p x) s) (hok : pauseOk x = true) :
    completes (.portPauseSet h p x) h 0x0809 s fun t =>
      (t.port p).pause = x ∧ (t.port p).up = (s.port p).up ∧ (t.port p).fifo = (s.port p).fifo ∧
      ((s.port p).pause.mode ≠ x.mode → (t.port p).paused = []) ∧ otherPorts p s t ∧
      t = { takeUp h s with ports := t.ports, out := t.out } := by
  obtain ⟨y, hy⟩ := takeUp_cmd h s
  have hbody : ∃ d, doPortPauseSet p x { s with cmd := y } = okData d (fifoChanged p (modPort p (fun v => { v with
      pause := x, paused := if (s.port p).pause.mode == x.mode then v.paused else []
      xoff := if (s.port p).pause.mode == x.mode then v.xoff else [] }) { s with cmd := y })) := by
    unfold doPortPauseSet
    rw [withPort_runs hport, require_true hok]
    exact ⟨_, rfl⟩
  obtain ⟨d, hbody⟩ := hbody
  refine completes_taken hy hr rfl rfl rfl hbody ⟨?_, ?_, ?_, fun hmode => ?_, fun m hm => ?_, ?_⟩
  · rw [fifoChanged_keeps (F := Port.pause) _ _ _ (fun _ _ _ _ _ => rfl) fun _ _ => rfl, modPort_self]
  · rw [fifoChanged_keeps (F := Port.up) _ _ _ (fun _ _ _ _ _ => rfl) fun _ _ => rfl, modPort_self]
    rfl
  · rw [fifoChanged_keeps (F := Port.fifo) _ _ _ (fun _ _ _ _ _ => rfl) fun _ _ => rfl, modPort_self]
    rfl
  · rw [fifoChanged_keeps (F := Port.paused) _ _ _ (fun _ _ _ _ _ => rfl) fun _ _ => rfl, modPort_self]
    exact if_neg (by simpa using hmode)
  · exact (fifoChanged_others p _ m hm).trans (modPort_ne m p _ { s with cmd := y } hm)
  · rw [hy]
    exact eq_merged (m := { ports := true, out := true }) (by simp)

theorem pauseSet_range {x : PauseParams} (hr : runsNow h (.portPauseSet p x) s) (hok : pauseOk x = false) :
    failsWith (.portPauseSet h p x) h 0x0809 .paramRange s := by
  obtain ⟨y, hy⟩ := takeUp_cmd h s
  have hbody : doPortPauseSet p x { s with cmd := y } = fail .paramRange { s with cmd := y } := by
    unfold doPortPauseSet
    rw [withPort_runs hport, require_false hok]
  exact failsWith_taken hy hr rfl rfl rfl hbody

theorem tsConfigured {rx tx : Nat} (hr : runsNow h (.portTsConfig p rx tx) s) (hrx : rx ≤ 800) (htx : tx ≤ 800) :
    completes (.portTsConfig h p rx tx) h 0x080A s fun t =>
      t.port p = { s.port p with rxLat := rx, txLat := tx } ∧ otherPorts p s t ∧ t = { takeUp h s with ports := t.ports } := by
  obtain ⟨x, hx⟩ := takeUp_cmd h s
  have hbody : doPortTsConfig p rx tx { s with cmd := x } =
      okData [rx, tx] (modPort p (fun v => { v with rxLat := rx, txLat := tx }) { s with cmd := x }) := by
    unfold doPortTsConfig
    rw [withPort_runs hport, require_true (decide_eq_true ⟨hrx, htx⟩)]
  exact portChanged hx hr rfl rfl rfl hbody

theorem stampsRead {n : Nat} (hr : runsNow h (.portTsRead p n) s) (hlo : 1 ≤ n) (hhi : n ≤ 64) :
    completes (.portTsRead h p n) h 0x080B s fun t =>
      t.port p = { s.port p with stamps := (s.port p).stamps.drop n } ∧ otherPorts p s t ∧
      t = { takeUp h s with ports := t.ports, evc := t.evc, out := t.out } := by
  obtain ⟨x, hx⟩ := takeUp_cmd h s
  have hbody : ∃ d, doPortTsRead p n { s with cmd := x } = okData d
      (syncTs (modPort p (fun v => { v with stamps := (s.port p).stamps.drop n }) { s with cmd := x })) := by
    unfold doPortTsRead
    rw [withPort_runs hport, require_true (decide_eq_true ⟨hlo, hhi⟩)]
    exact ⟨_, rfl⟩
  obtain ⟨d, hbody⟩ := hbody
  have hports := syncTs_ports (modPort p (fun v => { v with stamps := (s.port p).stamps.drop n }) { s with cmd := x })
  refine completes_taken hx hr rfl rfl rfl hbody ⟨?_, fun m hm => ?_, ?_⟩
  · rw [port_congr hports, modPort_self]
    rfl
  · rw [port_congr hports]
    exact modPort_ne m p _ { s with cmd := x } hm
  · rw [hx]
    exact eq_merged (m := { ports := true, evc := true, out := true }) (by simp)

section Lpi
variable {e : Bool} {ih tw : Nat} (hr : runsNow h (.portLpiSet p e ih tw) s) (hlo : 1 ≤ ih) (hhi : ih ≤ 10000) (htw : tw ≤ 65535)
include hr hlo hhi htw

omit hr in
theorem lpi_body (hlpi : s.variant.lpi = true) (hmode : lpiMode (s.port p) = true) (x : CmdChannel) : ∃ d,
    doPortLpiSet p e ih tw { s with cmd := x } = okData d (modPort p (fun v => { v with
      lpi := e, idleHold := ih, rxTw := tw, tw := if e then v.tw else none, lldpAt := none })
      (if e then { s with cmd := x } else leaveLpi p { s with cmd := x })) := by
  unfold doPortLpiSet
  rw [if_neg (by rw [show State.hasPort { s with cmd := x } p = true from hport]; decide), if_neg (by omega),
    if_neg (by rw [show State.variant { s with cmd := x } = s.variant from rfl, hlpi]; decide),
    if_neg (by rw [show State.port { s with cmd := x } p = s.port p from rfl, hmode]; decide)]
  exact ⟨_, rfl⟩

theorem lpiUnsupported (hlpi : s.variant.lpi = true) (hmode : lpiMode (s.port p) = false) :
    failsWith (.portLpiSet h p e ih tw) h 0x080C .lpiUnsupported s := by
  obtain ⟨x, hx⟩ := takeUp_cmd h s
  have hbody : doPortLpiSet p e ih tw { s with cmd := x } = fail .lpiUnsupported { s with cmd := x } := by
    unfold doPortLpiSet
    rw [if_neg (by rw [show State.hasPort { s with cmd := x } p = true from hport]; decide), if_neg (by omega),
      if_neg (by rw [show State.variant { s with cmd := x } = s.variant from rfl, hlpi]; decide),
      if_pos (by rw [show State.port { s with cmd := x } p = s.port p from rfl, hmode]; rfl)]
  exact failsWith_taken hx hr rfl rfl rfl hbody

theorem lpiAbsent (hlpi : s.variant.lpi = false) : failsWith (.portLpiSet h p e ih tw) h 0x080C .unitAbsent s := by
  obtain ⟨x, hx⟩ := takeUp_cmd h s
  have hbody : doPortLpiSet p e ih tw { s with cmd := x } = fail .unitAbsent { s with cmd := x } := by
    unfold doPortLpiSet
    rw [if_neg (by rw [show State.hasPort { s with cmd := x } p = true from hport]; decide), if_neg (by omega),
      if_pos (by rw [show State.variant { s with cmd := x } = s.variant from rfl, hlpi]; rfl)]
  exact failsWith_taken hx hr rfl rfl rfl hbody

end Lpi

theorem lpiEnabled {ih tw : Nat} (hr : runsNow h (.portLpiSet p true ih tw) s) (hlo : 1 ≤ ih) (hhi : ih ≤ 10000) (htw : tw ≤ 65535)
    (hlpi : s.variant.lpi = true) (hmode : lpiMode (s.port p) = true) : completes (.portLpiSet h p true ih tw) h 0x080C s fun t =>
      t.port p = { s.port p with lpi := true, idleHold := ih, rxTw := tw, lldpAt := none } ∧ otherPorts p s t ∧
      t = { takeUp h s with ports := t.ports } := by
  obtain ⟨x, hx⟩ := takeUp_cmd h s
  obtain ⟨d, hbody⟩ := lpi_body hport hlo hhi htw hlpi hmode x
  exact portChanged hx hr rfl rfl rfl hbody

theorem lpiDisabled {ih tw : Nat} (hr : runsNow h (.portLpiSet p false ih tw) s) (hlo : 1 ≤ ih) (hhi : ih ≤ 10000) (htw : tw ≤ 65535)
    (hlpi : s.variant.lpi = true) (hmode : lpiMode (s.port p) = true) : completes (.portLpiSet h p false ih tw) h 0x080C s fun t =>
      (t.port p).lpi = false ∧ (t.port p).tw = none ∧ (t.port p).inLpi = none ∧ (t.port p).idleHold = ih ∧
      otherPorts p s t ∧ t = { takeUp h s with ports := t.ports } := by
  obtain ⟨x, hx⟩ := takeUp_cmd h s
  obtain ⟨d, hbody⟩ := lpi_body hport hlo hhi htw hlpi hmode x
  rw [if_neg Bool.false_ne_true] at hbody
  refine completes_taken hx hr rfl rfl rfl hbody ⟨?_, ?_, ?_, ?_, fun m hm => ?_, ?_⟩
  · rw [modPort_self]
  · rw [modPort_self]
    rfl
  · rw [modPort_self]
    exact leaveLpi_inLpi p { s with cmd := x }
  · rw [modPort_self]
  · exact (modPort_ne _ _ _ _ hm).trans (leaveLpi_others p { s with cmd := x } m hm)
  · rw [hx]
    exact eq_merged (m := { ports := true }) (by simp)

theorem statsRead (hr : runsNow h (.portStatsRead p false) s) :
    completes (.portStatsRead h p false) h 0x0810 s fun t => t = takeUp h s := by
  obtain ⟨x, hx⟩ := takeUp_cmd h s
  have hbody : doPortStatsRead p false { s with cmd := x } = okData (statWords (s.port p).stats) { s with cmd := x } := by
    unfold doPortStatsRead
    rw [withPort_runs hport]
    rfl
  exact completes_taken hx hr rfl rfl rfl hbody (by rw [hx])

theorem statsCleared (hr : runsNow h (.portStatsRead p true) s) : completes (.portStatsRead h p true) h 0x0810 s fun t =>
    t.port p = { s.port p with stats := {} } ∧ otherPorts p s t ∧ t = { takeUp h s with ports := t.ports } := by
  obtain ⟨x, hx⟩ := takeUp_cmd h s
  have hbody : doPortStatsRead p true { s with cmd := x } =
      okData (statWords (s.port p).stats) (modPort p (fun v => { v with stats := {} }) { s with cmd := x }) := by
    unfold doPortStatsRead
    rw [withPort_runs hport]
    rfl
  exact portChanged hx hr rfl rfl rfl hbody

/-! A port sleeps and wakes (R208). -/

omit hport in
theorem modLane_keeps {β : Type} {F : Lane → β} {f : Lane → Lane} (n m : Nat) (s : State) (hf : ∀ l, F (f l) = F l) :
    F ((modLane n f s).lane m) = F (s.lane m) := by
  by_cases h : m = n
  · rw [h, modLane_self, hf]
  · rw [modLane_ne _ _ _ _ h]

/-- The lanes of a port stop but for their signal detectors. -/
def stopLanes (l : List Nat) (s : State) : State :=
  forEach l (fun n => modLane n fun l => { l with cdr := false, align := false, patLock := false }) s

omit hport in
theorem stopLanes_lane (l : List Nat) (s : State) (n : Nat) :
    (n ∈ l → ((stopLanes l s).lane n).cdr = false ∧ ((stopLanes l s).lane n).align = false ∧
      ((stopLanes l s).lane n).mode = (s.lane n).mode) ∧ (n ∉ l → (stopLanes l s).lane n = s.lane n) := by
  refine ⟨fun hn => ⟨?_, ?_, ?_⟩, fun hn => ?_⟩
  · exact forEach_mem (P := fun s => (s.lane n).cdr = false) hn s (fun s => by rw [modLane_self]) fun m s h => by
      by_cases hm : n = m
      · rw [hm, modLane_self]
      · rw [modLane_ne _ _ _ _ hm, h]
  · exact forEach_mem (P := fun s => (s.lane n).align = false) hn s (fun s => by rw [modLane_self]) fun m s h => by
      by_cases hm : n = m
      · rw [hm, modLane_self]
      · rw [modLane_ne _ _ _ _ hm, h]
  · exact forEach_keeps (F := fun s => (s.lane n).mode) l s fun m s => modLane_keeps (F := Lane.mode) m n s fun _ => rfl
  · unfold stopLanes forEach
    induction l generalizing s with
    | nil => rfl
    | cons m l ih => exact (ih _ (List.not_mem_of_not_mem_cons hn)).trans (modLane_ne _ _ _ _ (List.ne_of_not_mem_cons hn))

omit hport in
theorem stopLanes_eq (l : List Nat) (s : State) : ∃ y, stopLanes l s = { s with lanes := y } := by
  unfold stopLanes forEach
  induction l generalizing s with
  | nil => exact ⟨s.lanes, rfl⟩
  | cons m l ih =>
    obtain ⟨y, hy⟩ := ih (modLane m (fun l => { l with cdr := false, align := false, patLock := false }) s)
    exact ⟨y, hy⟩

section Sleep
variable {w : Bool} (hcfg : (s.port p).cfg.isSome = true)
include hcfg

/-- The port asleep, its lanes stopped. -/
def slept (p : Nat) (w : Bool) (s : State) : State :=
  notePower s (modPort p (fun v => { v with asleep := true, wakeOnTx := w }) (stopLanes ((s.port p).laneNums p) (enterDown p s)))

theorem sleep_body (x : CmdChannel) : doPortSleep p true w { s with cmd := x } = okData [1] (slept p w { s with cmd := x }) := by
  unfold doPortSleep
  rw [withPort_runs hport, show State.port { s with cmd := x } p = s.port p from rfl, if_neg (by simpa [Option.isSome_iff_ne_none] using hcfg)]
  rfl

theorem portSlept (hr : runsNow h (.portSleep p true w) s) : completes (.portSleep h p true w) h 0x080D s fun t =>
      (t.port p).asleep = true ∧ (t.port p).wakeOnTx = w ∧ (t.port p).up = false ∧ (t.port p).cfg = (s.port p).cfg ∧
      (∀ n ∈ (s.port p).laneNums p, (t.lane n).cdr = false ∧ (t.lane n).align = false ∧ (t.lane n).mode = (s.lane n).mode) ∧
      (∀ n, n ∉ (s.port p).laneNums p → t.lane n = s.lane n) ∧ otherPorts p s t ∧
      t = { takeUp h s with
        clk := t.clk, lanes := t.lanes, ports := t.ports, evc := t.evc, pmc := t.pmc, out := t.out } := by
  obtain ⟨x, hx⟩ := takeUp_cmd h s
  obtain ⟨y, hy⟩ := stopLanes_eq ((s.port p).laneNums p) (enterDown p { s with cmd := x })
  have hself : (slept p w { s with cmd := x }).port p = { (enterDown p { s with cmd := x }).port p with asleep := true, wakeOnTx := w } := by
    unfold slept
    rw [port_congr (notePower_ports _ _), modPort_self, show State.port { s with cmd := x } p = s.port p from rfl, hy]
    rfl
  have hlane (n : Nat) : (slept p w { s with cmd := x }).lane n = (stopLanes ((s.port p).laneNums p) (enterDown p { s with cmd := x })).lane n := by
    unfold slept State.lane
    rw [notePower_lanes]
    rfl
  have hdown (n : Nat) : (enterDown p { s with cmd := x }).lane n = s.lane n := by
    unfold State.lane
    rw [enterDown_lanes]
  refine completes_taken hx hr rfl rfl rfl (sleep_body hport hcfg x) ⟨?_, ?_, ?_, ?_, fun n hn => ?_, fun n hn => ?_, fun m hm => ?_, ?_⟩
  · rw [hself]
  · rw [hself]
  · rw [hself]
    exact enterDown_up p { s with cmd := x }
  · rw [hself]
    exact enterDown_cfg p { s with cmd := x }
  · rw [hlane, ← hdown]
    exact (stopLanes_lane _ _ n).1 hn
  · rw [hlane, ← hdown]
    exact (stopLanes_lane _ _ n).2 hn
  · unfold slept
    rw [port_congr (notePower_ports _ _), modPort_ne _ _ _ _ hm, show State.port { s with cmd := x } p = s.port p from rfl, hy]
    exact enterDown_others p { s with cmd := x } m hm
  · rw [hx]
    have hstop : rest { clk := true, lanes := true, ports := true, evc := true, pmc := true, out := true }
        (stopLanes ((s.port p).laneNums p) (enterDown p { s with cmd := x })) =
        rest { clk := true, lanes := true, ports := true, evc := true, pmc := true, out := true } (enterDown p { s with cmd := x }) := by
      rw [hy]
      rfl
    unfold slept
    rw [show State.port { s with cmd := x } p = s.port p from rfl]
    exact eq_merged (m := { clk := true, lanes := true, ports := true, evc := true, pmc := true, out := true }) (by simp [hstop])

theorem portAwake (hr : runsNow h (.portSleep p false w) s) : completes (.portSleep h p false w) h 0x080D s fun t =>
    t.port p = { s.port p with asleep := false, wakeOnTx := w } ∧ otherPorts p s t ∧
    t = { takeUp h s with ports := t.ports, evc := t.evc, out := t.out } := by
  obtain ⟨x, hx⟩ := takeUp_cmd h s
  have hbody : doPortSleep p false w { s with cmd := x } =
      okData [0] (wakePort p (modPort p (fun v => { v with wakeOnTx := w }) { s with cmd := x })) := by
    unfold doPortSleep
    rw [withPort_runs hport, show State.port { s with cmd := x } p = s.port p from rfl, if_neg (by simpa [Option.isSome_iff_ne_none] using hcfg), if_neg Bool.false_ne_true]
  obtain ⟨hself, hothers⟩ := wakePort_port p (modPort p (fun v => { v with wakeOnTx := w }) { s with cmd := x })
  refine completes_taken hx hr rfl rfl rfl hbody ⟨?_, fun m hm => (hothers m hm).trans (modPort_ne m p _ { s with cmd := x } hm), ?_⟩
  · rw [hself, modPort_self]
    rfl
  · rw [hx]
    exact eq_merged (m := { ports := true, evc := true, out := true }) (by simp)

end Sleep

theorem sleep_unconfigured {y w : Bool} (hr : runsNow h (.portSleep p y w) s) (hcfg : (s.port p).cfg = none) :
    completes (.portSleep h p y w) h 0x080D s fun t => t = takeUp h s := by
  obtain ⟨x, hx⟩ := takeUp_cmd h s
  have hbody : doPortSleep p y w { s with cmd := x } = okData [0] { s with cmd := x } := by
    unfold doPortSleep
    rw [withPort_runs hport, show State.port { s with cmd := x } p = s.port p from rfl, hcfg]
    rfl
  exact completes_taken hx hr rfl rfl rfl hbody (by rw [hx])

end Command

/-- Settles O33: a command changes its port alone; a new mode, sleep and freeing go through the port's way DOWN. -/
theorem portCommands : Obligations.PortCommands := by
  intro h s p _ hport
  refine ⟨fun c hr hcheck => ?_, fun c hr => portConfig_inUse hr, portFreed hport, fun f => filterSet hport, fun x => pauseSet hport,
    fun x => pauseSet_range hport, fun rx tx => tsConfigured hport, fun n => stampsRead hport, fun ih tw => lpiEnabled hport,
    fun ih tw => lpiDisabled hport, fun e ih tw => lpiUnsupported hport, fun e ih tw => lpiAbsent hport,
    fun w hr hcfg => portSlept hport hcfg hr, fun w hr hcfg => portAwake hport hcfg hr, fun x w => sleep_unconfigured hport,
    statsCleared hport, statsRead hport⟩
  obtain ⟨d, t, hexec, hcfg, hothers, hsame, hnew, hframe⟩ := portConfigured hr hcheck
  refine ⟨d, t, hexec, hcfg, hothers, fun e he hlanes hrate hfec => hsame ?_, fun e he hdiff => hnew ?_, hframe⟩
  · simp [sameMode, he, hlanes, hrate, hfec]
  · simpa [sameMode, he, imp_iff_not_or, or_assoc] using hdiff

end Sys2Proof.Proofs.PortCommands
end

section
/-!
Reception of a frame (chapter 09): O34.
-/
namespace Sys2Proof.Proofs.FrameReception
open Sys2Proof Sys2Proof.Machine Sys2Proof.Proofs.Frames Sys2Proof.Proofs.Rules Sys2Proof.Proofs.LineTimeEvents
open Sys2Proof.Proofs.Passes Sys2Proof.Proofs.Lanes Sys2Proof.Proofs.PortCommands

set_option Elab.async false

/-! ### What the rows of Table 9-2 leave of the ports -/

/-- The other ports stay, and port `p` stays up or down in its mode. -/
def received (p : Nat) (s t : State) : Prop :=
  otherPorts p s t ∧ (t.port p).up = (s.port p).up ∧ (t.port p).cfg = (s.port p).cfg

section Received
variable {p : Nat} {s t u : State}

theorem received.refl : received p s s := ⟨fun _ _ => rfl, rfl, rfl⟩

theorem received.trans (h : received p s t) (h' : received p t u) : received p s u :=
  ⟨fun m hm => (h'.1 m hm).trans (h.1 m hm), h'.2.1.trans h.2.1, h'.2.2.trans h.2.2⟩

theorem received.out (h : received p s t) (hports : u.ports = t.ports) : received p s u :=
  ⟨fun m hm => (port_congr hports m).trans (h.1 m hm), by rw [port_congr hports, h.2.1], by rw [port_congr hports, h.2.2]⟩

theorem received.modPort (h : received p s t) {f : Port → Port} (hup : ∀ v, (f v).up = v.up := by exact fun _ => rfl)
    (hcfg : ∀ v, (f v).cfg = v.cfg := by exact fun _ => rfl) : received p s (modPort p f t) :=
  ⟨fun m hm => (modPort_ne _ _ _ _ hm).trans (h.1 m hm), by rw [modPort_self, hup, h.2.1], by rw [modPort_self, hcfg, h.2.2]⟩

theorem received.modStats (h : received p s t) (g : PortStats → PortStats) : received p s (modStats p g t) := h.modPort

theorem received.sendOwn (h : received p s t) (len : Nat) (out : Instant → Output) : received p s (sendOwn p len out t) :=
  h.trans ⟨sendOwn_others p len out t, sendOwn_keeps (F := Port.up) p p t (fun _ _ _ _ _ => rfl) len out,
    sendOwn_keeps (F := Port.cfg) p p t (fun _ _ _ _ _ => rfl) len out⟩

theorem received.fifoChanged (h : received p s t) : received p s (fifoChanged p t) :=
  h.trans ⟨fifoChanged_others p t, fifoChanged_keeps (F := Port.up) p p t (fun _ _ _ _ _ => rfl) fun _ _ => rfl,
    fifoChanged_keeps (F := Port.cfg) p p t (fun _ _ _ _ _ => rfl) fun _ _ => rfl⟩

theorem received.applyPause (h : received p s t) (l : List (Nat × Nat)) : received p s (applyPause p l t) := by
  unfold Machine.applyPause
  dsimp only
  split
  · exact (h.modPort).modStats _
  · exact h.modPort

theorem received.macControlFrame (h : received p s t) (b : List Byte) : received p s (macControlFrame p b t) := by
  unfold Machine.macControlFrame
  dsimp only
  split
  · exact h.modStats _
  · split
    · split
      · exact (h.modStats _).applyPause _
      · exact h.modStats _
    · split
      · split
        · exact (h.modStats _).applyPause _
        · exact h.modStats _
      · exact h.modStats _

theorem received.ptpFrame (h : received p s t) (b : List Byte) (rx : Instant) : received p s (ptpFrame p b rx t) := by
  unfold Machine.ptpFrame
  dsimp only
  split
  · exact received.out (h.modStats fun c => { c with toPtp := c.toPtp + 1 }) rfl
  · split
    · exact (h.modStats _).sendOwn _ _
    · exact h.modStats _

theorem received.lldpFrame (h : received p s t) (b : List Byte) : received p s (lldpFrame p b t) := by
  have hpartner {x : Nat × Nat} {c : Prop} [Decidable c] : received p s (if c then t else
      Machine.modPort p (fun v => { v with partnerTw := x, lldpAt := none }) t) := by
    split
    · exact h
    · exact h.modPort
  unfold Machine.lldpFrame
  split
  · exact h
  · dsimp only
    split
    · exact hpartner
    · exact (hpartner).modPort.out (raise_ports _ _)

theorem received.storeFrame (h : received p s t) (b : List Byte) (rx : Instant) : received p s (storeFrame p b rx t) := by
  unfold Machine.storeFrame
  dsimp only
  split
  · exact received.out ((h.out (u := modCls _ t) rfl).modStats _) (raiseOnce_ports _ _)
  · exact ((h.out (u := (newId t).2) rfl).modPort).fifoChanged

end Received

/-! ### The FIFO of a port under MAC control (R197) -/

theorem modStats_fifo (p : Nat) (g : PortStats → PortStats) (s : State) : ((modStats p g s).port p).fifo = (s.port p).fifo :=
  modPort_keeps (F := Port.fifo) p p s fun _ => rfl

theorem applyPause_fifo (p : Nat) (l : List (Nat × Nat)) (s : State) : ((applyPause p l s).port p).fifo = (s.port p).fifo := by
  have hpaused (x : Tbl Pause) : ((modPort p (fun v => { v with paused := x }) s).port p).fifo = (s.port p).fifo :=
    modPort_keeps (F := Port.fifo) p p s fun _ => rfl
  unfold applyPause
  dsimp only
  split
  · exact (modStats_fifo _ _ _).trans (hpaused _)
  · exact hpaused _

theorem macControlFrame_fifo (p : Nat) (b : List Byte) (s : State) : ((macControlFrame p b s).port p).fifo = (s.port p).fifo := by
  unfold macControlFrame
  dsimp only
  split
  · exact modStats_fifo _ _ _
  · split
    · split
      · rw [applyPause_fifo, modStats_fifo]
      · exact modStats_fifo _ _ _
    · split
      · split
        · rw [applyPause_fifo, modStats_fifo]
        · exact modStats_fifo _ _ _
      · exact modStats_fifo _ _ _

/-! ### The rows that apply first -/

/-- Counting a received frame changes its size bin and the counters of its kind (R209). -/
theorem countRx_eq (b : List Byte) (c : PortStats) : ∃ bins u m x bu bm bx, countRx b c =
    { c with rxBins := bins, rxUc := u, rxMc := m, rxBc := x, rxBytesUc := bu, rxBytesMc := bm, rxBytesBc := bx } := by
  unfold countRx
  dsimp only
  (repeat' split) <;> exact ⟨_, _, _, _, _, _, _, rfl⟩

theorem countRx_filtered (b : List Byte) (c : PortStats) : (countRx b c).filtered = c.filtered := by
  obtain ⟨_, _, _, _, _, _, _, h⟩ := countRx_eq b c
  rw [h]

theorem countRx_overrun (b : List Byte) (c : PortStats) : (countRx b c).overrun = c.overrun := by
  obtain ⟨_, _, _, _, _, _, _, h⟩ := countRx_eq b c
  rw [h]

section Rows
variable {s : State} {p : Nat} {f : RxFrame}

/-- What the MAC does with a frame that is whole, by the type it carries (Table 9-2). -/
def disposed (p : Nat) (f : RxFrame) (s : State) : State :=
  let v := s.port p
  let b := f.bytes
  let t : Ptp := Tbl.get {} s.tio.ptp p
  let u := modStats p (countRx b) s
  let rx := rxInstant v (frameLen b) f.sub u
  if be b 12 2 = 0x8808 then macControlFrame p b u
  else if innerType b = 0x88B5 && (v.cfg.map fun c => c.inband).getD false then
    modStats p (fun c => { c with toCmd := c.toCmd + 1 }) u
  else if be b 12 2 = 0x88F7 && t.en && dstOf b == t.addr then ptpFrame p b rx u
  else if be b 12 2 = 0x88CC && v.lpi && dstOf b == linkLocal then
    lldpFrame p b (modStats p (fun c => { c with toLldp := c.toLldp + 1 }) u)
  else if !v.accepts (dstOf b) then modStats p (fun c => { c with filtered := c.filtered + 1 }) u
  else storeFrame p b rx u

theorem received_disposed (p : Nat) (f : RxFrame) (s : State) : received p s (disposed p f s) := by
  have hcount : received p s (modStats p (countRx f.bytes) s) := received.refl.modStats _
  unfold disposed
  dsimp only
  split
  · exact hcount.macControlFrame _
  · split
    · exact hcount.modStats _
    · split
      · exact hcount.ptpFrame _ _
      · split
        · exact (hcount.modStats _).lldpFrame _
        · split
          · exact hcount.modStats _
          · exact hcount.storeFrame _ _

theorem disposed_frame (p : Nat) (f : RxFrame) (s : State) :
    rest { clk := true, tio := true, cls := true, ports := true, evc := true, out := true } (disposed p f s) =
      rest { clk := true, tio := true, cls := true, ports := true, evc := true, out := true } s := by
  unfold disposed
  dsimp only
  (repeat' split) <;> simp

theorem frameReceive_down (hup : (s.port p).up = false) : exec (.frameReceive p f) s = .next s := by
  change execFrameReceive p f s = _
  unfold execFrameReceive
  dsimp only
  rw [hup, if_pos (by decide)]

variable (hup : (s.port p).up = true)
include hup

/-- The outcome of a frame on a port that is UP, by its first rows. -/
theorem frameReceive_up : exec (.frameReceive p f) s = .next (
    if !f.fcsOk || f.pcsErr then raiseOnce 0xD0 (modStats p (fun c => { c with fcsErr := c.fcsErr + 1 }) s)
    else if frameLen f.bytes < 64 then modStats p (fun c => { c with runt := c.runt + 1 }) s
    else if (((s.port p).cfg.map fun c => c.maxFrame).getD 9600) < frameLen f.bytes then
      modStats p (fun c => { c with oversize := c.oversize + 1 }) s
    else disposed p f s) := by
  change execFrameReceive p f s = _
  unfold execFrameReceive
  dsimp only
  rw [hup, if_neg (by decide)]
  rfl

theorem frameReceived : nextWith (.frameReceive p f) s fun t =>
    otherPorts p s t ∧ (t.port p).up = true ∧ (t.port p).cfg = (s.port p).cfg ∧
    t = { s with clk := t.clk, tio := t.tio, cls := t.cls, ports := t.ports, evc := t.evc, out := t.out } := by
  have hgoal {t : State} (ht : received p s t)
      (hframe : rest { clk := true, tio := true, cls := true, ports := true, evc := true, out := true } t =
        rest { clk := true, tio := true, cls := true, ports := true, evc := true, out := true } s) :
      otherPorts p s t ∧ (t.port p).up = true ∧ (t.port p).cfg = (s.port p).cfg ∧
      t = { s with clk := t.clk, tio := t.tio, cls := t.cls, ports := t.ports, evc := t.evc, out := t.out } := by
    obtain ⟨hothers, hupt, hcfg⟩ := ht
    exact ⟨hothers, hupt.trans hup, hcfg, eq_merged hframe⟩
  refine nextWith_of (frameReceive_up hup) ?_
  split
  · exact hgoal (received.out (received.refl.modStats fun c => { c with fcsErr := c.fcsErr + 1 }) (raiseOnce_ports _ _)) (by simp)
  · split
    · exact hgoal (received.refl.modStats _) (by simp)
    · split
      · exact hgoal (received.refl.modStats _) (by simp)
      · exact hgoal (received_disposed p f s) (disposed_frame p f s)

theorem frameDamaged (hbad : f.fcsOk = false ∨ f.pcsErr = true) : nextWith (.frameReceive p f) s fun t =>
    t.port p = { s.port p with stats := { (s.port p).stats with fcsErr := (s.port p).stats.fcsErr + 1 } } ∧ t.cls = s.cls := by
  have hexec := frameReceive_up (f := f) hup
  rw [if_pos (by rcases hbad with hbad | hbad <;> simp [hbad])] at hexec
  refine nextWith_of hexec ⟨?_, raiseOnce_cls _ _⟩
  rw [raiseOnce_port, modStats, modPort_self]

variable (hfcs : f.fcsOk = true) (hpcs : f.pcsErr = false)
include hfcs hpcs

theorem frameRunt (hshort : frameLen f.bytes < 64) : nextWith (.frameReceive p f) s fun t =>
    t.port p = { s.port p with stats := { (s.port p).stats with runt := (s.port p).stats.runt + 1 } } ∧ t = { s with ports := t.ports } := by
  have hexec := frameReceive_up (f := f) hup
  rw [if_neg (by simp [hfcs, hpcs]), if_pos hshort] at hexec
  exact nextWith_of hexec ⟨modPort_self _ _ _, rfl⟩

variable (hlong : 64 ≤ frameLen f.bytes)
include hlong

theorem frameOversize {c : PortParams} (hcfg : (s.port p).cfg = some c) (hover : c.maxFrame < frameLen f.bytes) :
    nextWith (.frameReceive p f) s fun t =>
      t.port p = { s.port p with stats := { (s.port p).stats with oversize := (s.port p).stats.oversize + 1 } } ∧
      t = { s with ports := t.ports } := by
  have hexec := frameReceive_up (f := f) hup
  rw [if_neg (by simp [hfcs, hpcs]), if_neg (Nat.not_lt.mpr hlong), if_pos (by rw [hcfg]; exact hover)] at hexec
  exact nextWith_of hexec ⟨modPort_self _ _ _, rfl⟩

theorem frameWhole (hfits : frameLen f.bytes ≤ ((s.port p).cfg.map fun c => c.maxFrame).getD 9600) :
    exec (.frameReceive p f) s = .next (disposed p f s) := by
  rw [frameReceive_up hup, if_neg (by simp [hfcs, hpcs]), if_neg (Nat.not_lt.mpr hlong), if_neg (Nat.not_lt.mpr hfits)]

omit hup hfcs hpcs hlong in
theorem disposed_control (htype : be f.bytes 12 2 = 0x8808) :
    disposed p f s = macControlFrame p f.bytes (modStats p (countRx f.bytes) s) := by
  unfold disposed
  dsimp only
  rw [if_pos htype]

/-- A MAC control frame is never stored. -/
theorem frameControl (hfits : frameLen f.bytes ≤ 9600) (hcfg : (s.port p).cfg = none) (htype : be f.bytes 12 2 = 0x8808) :
    nextWith (.frameReceive p f) s fun t => (t.port p).fifo = (s.port p).fifo ∧ t = { s with ports := t.ports } := by
  have hexec := frameWhole hup hfcs hpcs hlong (by rw [hcfg, Option.map_none, Option.getD_none]; exact hfits)
  rw [disposed_control htype] at hexec
  have hframe {t : State} (ht : rest { ports := true } t = rest { ports := true } s) : t = { s with ports := t.ports } := eq_merged ht
  exact nextWith_of hexec ⟨(macControlFrame_fifo _ _ _).trans (modStats_fifo _ _ _), hframe (by simp)⟩

/-- The packet that a stored frame becomes (R191, R202). -/
def storedPkt (p : Nat) (b : List Byte) (rx : Instant) (s : State) : Pkt :=
  { id := s.clk.draws, bytes := b
    md := { port := p, l3 := (rxChecksums b).1, l4 := (rxChecksums b).2, rxTime := rx, rxValid := switchValid s, len := frameLen b } }

section Ordinary
variable {c : PortParams} (hcfg : (s.port p).cfg = some c) (hfits : frameLen f.bytes ≤ c.maxFrame)
  (hcontrol : be f.bytes 12 2 ≠ 0x8808) (hcmd : innerType f.bytes ≠ 0x88B5) (hptp : be f.bytes 12 2 ≠ 0x88F7)
  (hlldp : be f.bytes 12 2 ≠ 0x88CC)
include hcfg hfits hcontrol hcmd hptp hlldp

/-- A frame of no type of Table 9-2's own goes to the filter (R192). -/
theorem frameFiltered : exec (.frameReceive p f) s = .next (
    if !(s.port p).accepts (dstOf f.bytes) then
      modStats p (fun c => { c with filtered := c.filtered + 1 }) (modStats p (countRx f.bytes) s)
    else storeFrame p f.bytes (rxInstant (s.port p) (frameLen f.bytes) f.sub s) (modStats p (countRx f.bytes) s)) := by
  rw [frameWhole hup hfcs hpcs hlong (by rw [hcfg]; exact hfits)]
  unfold disposed
  dsimp only
  rw [if_neg hcontrol, if_neg (by simp [hcmd]), if_neg (by simp [hptp]), if_neg (by simp [hlldp])]
  rfl

theorem frameRefused (haccepts : (s.port p).accepts (dstOf f.bytes) = false) : nextWith (.frameReceive p f) s fun t =>
    (t.port p).stats.filtered = (s.port p).stats.filtered + 1 ∧ (t.port p).fifo = (s.port p).fifo ∧ t = { s with ports := t.ports } := by
  have hexec := frameFiltered hup hfcs hpcs hlong hcfg hfits hcontrol hcmd hptp hlldp
  rw [haccepts, if_pos (by decide)] at hexec
  refine nextWith_of hexec ⟨?_, (modStats_fifo _ _ _).trans (modStats_fifo _ _ _), rfl⟩
  rw [modStats, modPort_self, modStats, modPort_self]
  exact congrArg (· + 1) (countRx_filtered f.bytes (s.port p).stats)

variable (haccepts : (s.port p).accepts (dstOf f.bytes) = true)
include haccepts

theorem frameOverrun (hfull : 262144 < fifoBytes (s.port p).fifo + frameLen f.bytes) : nextWith (.frameReceive p f) s fun t =>
    (t.port p).stats.overrun = (s.port p).stats.overrun + 1 ∧ (t.port p).fifo = (s.port p).fifo ∧
    t.cls = { s.cls with nIngress := s.cls.nIngress + 1 } := by
  have hexec := frameFiltered hup hfcs hpcs hlong hcfg hfits hcontrol hcmd hptp hlldp
  rw [haccepts, if_neg (by decide)] at hexec
  unfold storeFrame at hexec
  dsimp only at hexec
  rw [modStats_fifo, if_pos hfull] at hexec
  refine nextWith_of hexec ⟨?_, ?_, raiseOnce_cls _ _⟩
  · have hcounted : ((modCls (fun c => { c with nIngress := c.nIngress + 1 }) (modStats p (countRx f.bytes) s)).port p).stats =
        countRx f.bytes (s.port p).stats := congrArg Port.stats (modPort_self p (fun v => { v with stats := countRx f.bytes v.stats }) s)
    rw [raiseOnce_port, modStats, modPort_self, hcounted, countRx_overrun]
  · rw [raiseOnce_port, modStats_fifo]
    exact modStats_fifo _ _ _

theorem frameStored (hroom : fifoBytes (s.port p).fifo + frameLen f.bytes ≤ 262144) : nextWith (.frameReceive p f) s fun t =>
    ∃ x, (t.port p).fifo = (s.port p).fifo ++ [x] ∧ x.bytes = f.bytes ∧ x.md.port = p ∧ x.md.len = frameLen f.bytes ∧
      x.md.rxTime = rxInstant (s.port p) (frameLen f.bytes) f.sub s ∧ x.md.rxValid = switchValid s := by
  have hexec := frameFiltered hup hfcs hpcs hlong hcfg hfits hcontrol hcmd hptp hlldp
  rw [haccepts, if_neg (by decide)] at hexec
  unfold storeFrame at hexec
  dsimp only at hexec
  rw [modStats_fifo, if_neg (Nat.not_lt.mpr hroom)] at hexec
  refine nextWith_of hexec ⟨storedPkt p f.bytes (rxInstant (s.port p) (frameLen f.bytes) f.sub s) (modStats p (countRx f.bytes) s), ?_,
    rfl, rfl, rfl, rfl, rfl⟩
  rw [fifoChanged_keeps (F := Port.fifo) _ _ _ (fun _ _ _ _ _ => rfl) fun _ _ => rfl, modPort_self]
  exact congrArg (· ++ [storedPkt p f.bytes (rxInstant (s.port p) (frameLen f.bytes) f.sub s) (modStats p (countRx f.bytes) s)])
    (modStats_fifo p (countRx f.bytes) s)

end Ordinary

end Rows

/-- Settles O34: the rows of Table 9-2 are tried in their order, and what takes the frame leaves the other ports, and whether its own
port is up. -/
theorem frameReception : Obligations.FrameReception := by
  intro s p f
  exact ⟨frameReceive_down, frameReceived, frameDamaged, frameRunt,
    fun c hup hfcs hpcs hlong => frameOversize hup hfcs hpcs hlong,
    fun c hup hfcs hpcs hlong => frameRefused hup hfcs hpcs hlong,
    fun c hup hfcs hpcs hlong => frameOverrun hup hfcs hpcs hlong,
    fun c hup hfcs hpcs hlong => frameStored hup hfcs hpcs hlong, frameControl⟩

end Sys2Proof.Proofs.FrameReception
end

section
/-!
Pause and the state of a port (chapter 09): O35.
-/
namespace Sys2Proof.Proofs.PortEvents
open Sys2Proof Sys2Proof.Machine Sys2Proof.Proofs.Frames Sys2Proof.Proofs.Rules Sys2Proof.Proofs.LineTimeEvents
open Sys2Proof.Proofs.Passes Sys2Proof.Proofs.Lanes Sys2Proof.Proofs.PortCommands

set_option Elab.async false

@[simp] theorem wakePort_pwr (a0 : Nat) (s : State) : (wakePort a0 s).pwr = s.pwr :=
  pwr_of_rest (m := { ports := true, evc := true, out := true }) (by simp)
@[simp] theorem eligibleQs_ports (p : Nat) (s : State) : (eligibleQs p s).2.ports = s.ports :=
  ports_of_rest (m := { clk := true }) (by simp)

/-- An event that changes its port alone. -/
theorem portChanged {i : Instr} {s : State} {p : Nat} {f : Port → Port} (hexec : exec i s = .next (modPort p f s)) :
    nextWith i s fun t => t.port p = f (s.port p) ∧ otherPorts p s t ∧ t = { s with ports := t.ports } :=
  nextWith_of hexec ⟨modPort_self _ _ _, fun _ hm => modPort_ne _ _ _ _ hm, rfl⟩

/-! ### Pause accounts (R198 to R200) -/

section Pause
variable {s : State} {p q : Nat}

/-- The port with a pause account set. -/
def setPause (q : Nat) (y : Pause) (v : Port) : Port := { v with paused := Tbl.set {} v.paused q y }

theorem setPause_port (q : Nat) (y : Pause) (v : Port) : Tbl.get {} (setPause q y v).paused q = y ∧
    (∀ k, k ≠ q → Tbl.get {} (setPause q y v).paused k = Tbl.get {} v.paused k) ∧ setPause q y v = { v with paused := (setPause q y v).paused } :=
  ⟨Tbl.get_set_self _ _ _ _, fun _ hk => Tbl.get_set_ne _ _ _ hk, rfl⟩

/-- An event that sets one pause account. -/
theorem pauseChanged {i : Instr} {y : Pause} (hexec : exec i s = .next (modPort p (setPause q y) s)) : nextWith i s fun t =>
    Tbl.get {} (t.port p).paused q = y ∧ (∀ k, k ≠ q → Tbl.get {} (t.port p).paused k = Tbl.get {} (s.port p).paused k) ∧
    t.port p = { s.port p with paused := (t.port p).paused } ∧ otherPorts p s t ∧ t = { s with ports := t.ports } := by
  obtain ⟨t, ht, hself, hrest⟩ := portChanged hexec
  refine ⟨t, ht, ?_, ?_, ?_, hrest⟩ <;> rw [hself]
  · exact (setPause_port q y _).1
  · exact (setPause_port q y _).2.1
  · exact (setPause_port q y _).2.2

theorem pauseExpired {u : Instant} (hx : (Tbl.get {} (s.port p).paused q : Pause).until_ = some u) (hu : u ≤ s.clk.now) :
    exec (.pauseTimerExpiry p q) s = .next
      (modPort p (setPause q { (Tbl.get {} (s.port p).paused q : Pause) with until_ := none, since := none }) s) := by
  change execPauseTimerExpiry p q s = _
  unfold execPauseTimerExpiry
  dsimp only
  rw [hx]
  dsimp only
  rw [if_pos hu]
  rfl

theorem pauseRuns {u : Instant} (hx : (Tbl.get {} (s.port p).paused q : Pause).until_ = some u) (hu : s.clk.now < u) :
    exec (.pauseTimerExpiry p q) s = .next s := by
  change execPauseTimerExpiry p q s = _
  unfold execPauseTimerExpiry
  dsimp only
  rw [hx]
  dsimp only
  rw [if_neg (Nat.not_le.mpr hu)]

theorem watchdogBarks {b u : Instant} (hsince : (Tbl.get {} (s.port p).paused q : Pause).since = some b)
    (hdue : b + ms (s.port p).pause.watchdog ≤ s.clk.now) (huntil : (Tbl.get {} (s.port p).paused q : Pause).until_ = some u)
    (hu : s.clk.now < u) : nextWith (.pauseWatchdog p q) s fun t =>
      Tbl.get {} (t.port p).paused q = { ignore := some (s.clk.now + ms (s.port p).pause.watchdog) } ∧
      (∀ k, k ≠ q → Tbl.get {} (t.port p).paused k = Tbl.get {} (s.port p).paused k) ∧
      t.port p = { s.port p with paused := (t.port p).paused } ∧ otherPorts p s t ∧
      t = { s with ports := t.ports, evc := t.evc, out := t.out } := by
  have hstopped : (Tbl.get {} (s.port p).paused q : Pause).stopped s.clk.now = true := by
    unfold Pause.stopped
    rw [huntil]
    exact decide_eq_true hu
  have hexec : exec (.pauseWatchdog p q) s = .next (raise 0xCB
      (modPort p (setPause q { ignore := some (s.clk.now + ms (s.port p).pause.watchdog) }) s)) := by
    change execPauseWatchdog p q s = _
    unfold execPauseWatchdog
    dsimp only
    rw [hsince]
    dsimp only
    rw [if_pos (by rw [decide_eq_true hdue, hstopped]; rfl)]
    rfl
  have hself := (raise_port 0xCB (modPort p (setPause q { ignore := some (s.clk.now + ms (s.port p).pause.watchdog) }) s) p).trans
    (modPort_self _ _ _)
  obtain ⟨hset, hothers, hpaused⟩ := setPause_port q { ignore := some (s.clk.now + ms (s.port p).pause.watchdog) } (s.port p)
  refine nextWith_of hexec ⟨?_, ?_, ?_, fun m hm => (raise_port _ _ _).trans (modPort_ne _ _ _ _ hm),
    eq_merged (m := { ports := true, evc := true, out := true }) (by simp)⟩ <;> rw [hself]
  · exact hset
  · exact hothers
  · exact hpaused

theorem watchdogWaits {b : Instant} (hsince : (Tbl.get {} (s.port p).paused q : Pause).since = some b)
    (hdue : s.clk.now < b + ms (s.port p).pause.watchdog) : exec (.pauseWatchdog p q) s = .next s := by
  change execPauseWatchdog p q s = _
  unfold execPauseWatchdog
  dsimp only
  rw [hsince]
  dsimp only
  rw [if_neg (by simp [hdue])]

theorem watchdogRecovers {u : Instant} (hx : (Tbl.get {} (s.port p).paused q : Pause).ignore = some u) (hu : u ≤ s.clk.now) :
    exec (.pauseWatchdogRecovery p q) s =
      .next (modPort p (setPause q { (Tbl.get {} (s.port p).paused q : Pause) with ignore := none }) s) := by
  change execPauseWatchdogRecovery p q s = _
  unfold execPauseWatchdogRecovery
  dsimp only
  rw [hx]
  dsimp only
  rw [if_pos hu]
  rfl

theorem watchdogIgnores {u : Instant} (hx : (Tbl.get {} (s.port p).paused q : Pause).ignore = some u) (hu : s.clk.now < u) :
    exec (.pauseWatchdogRecovery p q) s = .next s := by
  change execPauseWatchdogRecovery p q s = _
  unfold execPauseWatchdogRecovery
  dsimp only
  rw [hx]
  dsimp only
  rw [if_neg (Nat.not_le.mpr hu)]

/-- When a port's next frame can start does not depend on its counters, its XOFF accounts or its LLDP agent. -/
theorem nextStart_free (v : Port) (st : PortStats) (x : Tbl (Option Instant)) (l : Option Instant) (now : Instant) :
    ({ v with stats := st, xoff := x, lldpAt := l } : Port).nextStart now = v.nextStart now := rfl

/-- The port before its refresh is sent. -/
def refreshed (p q : Nat) (s : State) : State :=
  modPort p (fun v => { v with xoff := Tbl.set none v.xoff q (some (s.clk.now + v.halfPause)) }) s

theorem sendPause_sends (p q : Nat) (time : BitVec 16) (s : State) (hup : (s.port p).up = true) : (sendPause p q time s).out =
    .pauseFrame p ((s.port p).nextStart s.clk.now) (if q = 8 then 0xFF else 1 <<< q) time :: s.out := by
  unfold sendPause modStats
  dsimp only
  rw [hup, if_neg (by decide), sendOwn_out, modPort_self]
  exact congrArg (fun i => Output.pauseFrame p i _ time :: s.out)
    (nextStart_free (s.port p) _ (s.port p).xoff (s.port p).lldpAt s.clk.now)

theorem pauseRefreshed {due : Instant} (hxoff : Tbl.get none (s.port p).xoff q = some due) (hdue : due ≤ s.clk.now)
    (habove : (s.port p).xonAt q < (s.port p).account q) (hup : (s.port p).up = true) : nextWith (.pauseRefresh p q) s fun t =>
      t.out = .pauseFrame p ((s.port p).nextStart s.clk.now) (if q = 8 then 0xFF else 1 <<< q) (s.port p).pause.time :: s.out ∧
      Tbl.get none (t.port p).xoff q = some (s.clk.now + (s.port p).halfPause) ∧ otherPorts p s t ∧
      (t.port p).fifo = (s.port p).fifo ∧ t = { s with ports := t.ports, out := t.out } := by
  have hself : (refreshed p q s).port p = { s.port p with xoff := Tbl.set none (s.port p).xoff q (some (s.clk.now + (s.port p).halfPause)) } :=
    modPort_self _ _ _
  have hexec : exec (.pauseRefresh p q) s = .next (sendPause p q (s.port p).pause.time (refreshed p q s)) := by
    change execPauseRefresh p q s = _
    unfold execPauseRefresh
    dsimp only
    rw [hxoff]
    dsimp only
    rw [if_pos (by rw [decide_eq_true hdue, decide_eq_true habove]; rfl)]
    rfl
  refine nextWith_of hexec ⟨?_, ?_, fun m hm => (sendPause_others _ _ _ _ m hm).trans (modPort_ne _ _ _ _ hm), ?_, ?_⟩
  · rw [sendPause_sends _ _ _ _ (by rw [hself]; exact hup), hself]
    exact congrArg (fun i => Output.pauseFrame p i _ _ :: s.out) (nextStart_free (s.port p) (s.port p).stats _ (s.port p).lldpAt s.clk.now)
  · rw [sendPause_keeps (F := Port.xoff) _ _ _ fun _ _ _ _ _ => rfl, hself]
    dsimp only
    rw [Tbl.get_set_self]
  · rw [sendPause_keeps (F := Port.fifo) _ _ _ fun _ _ _ _ _ => rfl, hself]
  · unfold refreshed
    exact eq_merged (m := { ports := true, out := true }) (by simp)

theorem refreshWaits {due : Instant} (hxoff : Tbl.get none (s.port p).xoff q = some due) (hdue : s.clk.now < due) :
    exec (.pauseRefresh p q) s = .next s := by
  change execPauseRefresh p q s = _
  unfold execPauseRefresh
  dsimp only
  rw [hxoff]
  dsimp only
  rw [if_neg (by simp [hdue])]

end Pause

/-! ### UP and DOWN (R189) -/

section State
variable {s : State} {p : Nat}

theorem portUp (hcfg : (s.port p).cfg.isSome = true) (hup : (s.port p).up = false) (hawake : (s.port p).asleep = false)
    (hready : lanesReady p s = true) : nextWith (.portUp p) s fun t =>
      t.port p = { s.port p with up := true, localFault := false, remoteFault := false, idleFrom := s.clk.now } ∧
      otherPorts p s t ∧ t = { s with ports := t.ports, evc := t.evc, out := t.out } := by
  have hexec : exec (.portUp p) s = .next (raise 0xC8 (if (s.port p).localFault then emit (.remoteFault p false)
      (modPort p (fun v => { v with up := true, localFault := false, remoteFault := false, idleFrom := s.clk.now }) s)
      else modPort p (fun v => { v with up := true, localFault := false, remoteFault := false, idleFrom := s.clk.now }) s)) := by
    change execPortUp p s = _
    unfold execPortUp
    dsimp only
    rw [if_pos (by rw [hcfg, hup, hawake, hready]; rfl)]
  refine nextWith_of hexec ?_
  split
  · exact ⟨(raise_port _ _ _).trans ((emit_port _ _ _).trans (modPort_self _ _ _)),
      fun m hm => (raise_port _ _ _).trans ((emit_port _ _ _).trans (modPort_ne _ _ _ _ hm)),
      eq_merged (m := { ports := true, evc := true, out := true }) (by simp)⟩
  · exact ⟨(raise_port _ _ _).trans (modPort_self _ _ _), fun m hm => (raise_port _ _ _).trans (modPort_ne _ _ _ _ hm),
      eq_merged (m := { ports := true, evc := true, out := true }) (by simp)⟩

theorem portStays (h : lanesReady p s = false ∨ (s.port p).asleep = true ∨ (s.port p).cfg = none) : exec (.portUp p) s = .next s := by
  change execPortUp p s = _
  unfold execPortUp
  dsimp only
  rw [if_neg]
  rcases h with h | h | h <;> simp [h]

/-- `F` reads none of what a port's way DOWN changes. -/
def downFree {β : Type} (F : Port → β) : Prop :=
  ∀ v l w st r u pa x q sd, F { v with
    inLpi := l, wakeAt := w, stats := st, rxLpi := r, up := u, paused := pa, xoff := x, queues := q, started := sd } = F v

theorem enterDown_keeps {β : Type} {F : Port → β} (hF : downFree F) (p : Nat) (s : State) :
    F ((enterDown p s).port p) = F (s.port p) := by
  have hrx (s : State) : F ((leaveRxLpi p s).port p) = F (s.port p) := by
    unfold leaveRxLpi
    split
    · rfl
    · rw [modStats, modPort_self, modPort_self]
      exact hF (s.port p) (s.port p).inLpi (s.port p).wakeAt _ none (s.port p).up (s.port p).paused (s.port p).xoff
        (s.port p).queues (s.port p).started
  have hlpi : F ((leaveLpi p s).port p) = F (s.port p) := by
    unfold leaveLpi
    dsimp only
    split
    · rfl
    · rw [modStats, modPort_self, modPort_self]
      exact hF (s.port p) none _ _ (s.port p).rxLpi (s.port p).up (s.port p).paused (s.port p).xoff (s.port p).queues (s.port p).started
  unfold enterDown
  split
  · rfl
  · obtain ⟨k, hk⟩ := discardQueued_port p (modPort p (fun v => { v with up := false, paused := [], xoff := [], wakeAt := none })
      (leaveRxLpi p (leaveLpi p s)))
    rw [raise_port, port_congr hk, modStats, modPort_self, modPort_self, modPort_self]
    exact (hF ((leaveRxLpi p (leaveLpi p s)).port p) ((leaveRxLpi p (leaveLpi p s)).port p).inLpi none _
      ((leaveRxLpi p (leaveLpi p s)).port p).rxLpi false [] [] [] none).trans ((hrx _).trans hlpi)

theorem enterDown_stops (hup : (s.port p).up = true) : ((enterDown p s).port p).paused = [] ∧ ((enterDown p s).port p).queues = [] := by
  unfold enterDown
  rw [hup, if_neg (by decide)]
  obtain ⟨k, hk⟩ := discardQueued_port p (modPort p (fun v => { v with up := false, paused := [], xoff := [], wakeAt := none })
    (leaveRxLpi p (leaveLpi p s)))
  dsimp only
  rw [raise_port, port_congr hk, modStats, modPort_self, modPort_self, modPort_self]
  exact ⟨rfl, rfl⟩

/-- The port with the fault noted that it receives. -/
def faulted (r : Bool) (v : Port) : Port := if r then { v with remoteFault := true } else { v with localFault := true }

theorem portDown (r : Bool) (hcfg : (s.port p).cfg.isSome = true) : nextWith (.portDown p r) s fun t =>
    (t.port p).up = false ∧ (t.port p).cfg = (s.port p).cfg ∧ (if r then (t.port p).remoteFault else (t.port p).localFault) = true ∧
    ((s.port p).up = true → (t.port p).paused = [] ∧ (t.port p).queues = []) ∧ otherPorts p s t ∧
    t = { s with clk := t.clk, ports := t.ports, evc := t.evc, pmc := t.pmc, out := t.out } := by
  have hexec : ∃ u, u.ports = (modPort p (faulted r) s).ports ∧ rest { ports := true, evc := true, out := true } u =
      rest { ports := true, evc := true, out := true } s ∧ exec (.portDown p r) s = .next (enterDown p u) := by
    refine ⟨raise 0xCA (modPort p (faulted r) (if r || (s.port p).localFault then s else emit (.remoteFault p true) s)), ?_, ?_, ?_⟩
    · rw [raise_ports]
      split <;> rfl
    · split <;> simp
    · change execPortDown p r s = _
      unfold execPortDown
      rw [if_neg (by simpa [Option.isSome_iff_ne_none] using hcfg)]
      rfl
  obtain ⟨u, hports, hframe, hexec⟩ := hexec
  have hself : u.port p = faulted r (s.port p) := (port_congr hports p).trans (modPort_self _ _ _)
  have hcfg' : (faulted r (s.port p)).cfg = (s.port p).cfg := by cases r <;> rfl
  have hup' : (faulted r (s.port p)).up = (s.port p).up := by cases r <;> rfl
  refine nextWith_of hexec ⟨enterDown_up _ _, ?_, ?_, fun hup => enterDown_stops (by rw [hself, hup', hup]), fun m hm => ?_, ?_⟩
  · rw [enterDown_cfg, hself, hcfg']
  · rw [enterDown_keeps (F := Port.remoteFault) fun _ _ _ _ _ _ _ _ _ _ => rfl,
      enterDown_keeps (F := Port.localFault) fun _ _ _ _ _ _ _ _ _ _ => rfl, hself]
    cases r <;> rfl
  · exact (enterDown_others _ _ m hm).trans ((port_congr hports m).trans (modPort_ne _ _ _ _ hm))
  · have hwide : rest { clk := true, ports := true, evc := true, pmc := true, out := true } u =
        rest { clk := true, ports := true, evc := true, pmc := true, out := true } s := by
      rw [eq_merged hframe]
      rfl
    exact eq_merged (m := { clk := true, ports := true, evc := true, pmc := true, out := true }) (by simp [hwide])

/-! ### Low-power idle and LLDP (R205 to R207) -/

/-- With its queues empty a port has no eligible queue, and nothing is drawn. -/
theorem eligibleQs_none (hempty : ∀ k, Tbl.get [] (s.port p).queues k = []) : eligibleQs p s = ([], s) := by
  have hone (q : Nat) : eligibleQ p q s = (false, s) := by
    unfold eligibleQ
    rw [hempty q]
  unfold eligibleQs
  generalize List.range 8 = l
  induction l with
  | nil => rfl
  | cons q l ih =>
    rw [List.foldl_cons, hone]
    exact ih

theorem openingDue_none (v : Port) (hempty : ∀ k, Tbl.get [] v.queues k = []) (valid : Bool) (t : Instant) (tw : Nat) :
    openingDue v valid t tw = false := by
  unfold openingDue
  simp [hempty]

theorem creditPort_port (p : Nat) (s : State) : (creditPort p s).port p = (s.port p).credited (switchTime s) := modPort_self _ _ _

theorem lpiEntered {tw : Nat} (hlpi : (s.port p).lpi = true) (hup : (s.port p).up = true) (htw : (s.port p).tw = some tw)
    (hawake : (s.port p).isAwake s.clk.now = true) (hstarted : (s.port p).started = none) (hbusy : (s.port p).busy ≤ s.clk.now)
    (hidle : (s.port p).idleFrom + us (s.port p).idleHold ≤ s.clk.now) (hempty : ∀ k, Tbl.get [] (s.port p).queues k = []) :
    nextWith (.lpiEntry p) s fun t =>
      (t.port p).inLpi = some s.clk.now ∧ (t.port p).stats = { (s.port p).stats with lpiTx := (s.port p).stats.lpiTx + 1 } ∧
      (t.port p).up = true ∧ otherPorts p s t ∧ t = { s with clk := t.clk, ports := t.ports } := by
  have hcredit := creditPort_port p s
  have hexec : exec (.lpiEntry p) s = .next (modStats p (fun c => { c with lpiTx := c.lpiTx + 1 })
      (modPort p (fun v => { v with inLpi := some s.clk.now, wakeAt := none }) (creditPort p s))) := by
    change execLpiEntry p s = _
    unfold execLpiEntry
    rw [eligibleQs_none (s := creditPort p s) (by rw [hcredit]; exact hempty)]
    dsimp only
    rw [hcredit, show ((s.port p).credited (switchTime s)).tw = some tw from htw]
    dsimp only
    rw [openingDue_none ((s.port p).credited (switchTime s)) hempty, if_pos]
    · rfl
    · rw [show ((s.port p).credited (switchTime s)).lpi = true from hlpi, show ((s.port p).credited (switchTime s)).up = true from hup,
        show ((s.port p).credited (switchTime s)).isAwake (creditPort p s).clk.now = true from hawake,
        show ((s.port p).credited (switchTime s)).started = none from hstarted, decide_eq_true (show ((s.port p).credited (switchTime s)).busy ≤ (creditPort p s).clk.now from hbusy),
        decide_eq_true (show ((s.port p).credited (switchTime s)).idleFrom + us ((s.port p).credited (switchTime s)).idleHold ≤
          (creditPort p s).clk.now from hidle)]
      rfl
  have hself : (modStats p (fun c => { c with lpiTx := c.lpiTx + 1 }) (modPort p (fun v => { v with inLpi := some s.clk.now, wakeAt := none })
      (creditPort p s))).port p = { (s.port p).credited (switchTime s) with
        inLpi := some s.clk.now, wakeAt := none, stats := { (s.port p).stats with lpiTx := (s.port p).stats.lpiTx + 1 } } := by
    rw [modStats, modPort_self, modPort_self, hcredit]
    rfl
  refine nextWith_of hexec ⟨?_, ?_, ?_, fun m hm => (modPort_ne _ _ _ _ hm).trans ((modPort_ne _ _ _ _ hm).trans (modPort_ne _ _ _ _ hm)), rfl⟩ <;>
    rw [hself]
  exact hup

theorem lpiWoken {b : Instant} (hlpi : (s.port p).inLpi = some b) (helig : (eligibleQs p (creditPort p s)).1 ≠ []) :
    nextWith (.lpiWake p) s fun t =>
      (t.port p).inLpi = none ∧ (t.port p).wakeAt = some (s.clk.now + us ((s.port p).tw.getD (s.port p).twDefault)) ∧
      otherPorts p s t ∧ t = { s with clk := t.clk, ports := t.ports } := by
  have hports := eligibleQs_ports p (creditPort p s)
  have hself : (eligibleQs p (creditPort p s)).2.port p = (s.port p).credited (switchTime s) :=
    (port_congr hports p).trans (creditPort_port p s)
  have hnow : (eligibleQs p (creditPort p s)).2.clk.now = s.clk.now := now_of_kept (by simp)
  have hexec : exec (.lpiWake p) s = .next (leaveLpi p (eligibleQs p (creditPort p s)).2) := by
    change execLpiWake p s = _
    unfold execLpiWake
    dsimp only
    rw [if_pos]
    rw [Bool.or_eq_true]
    exact .inl (by simpa using helig)
  refine nextWith_of hexec ⟨leaveLpi_inLpi _ _, ?_, fun m hm => ?_, eq_merged (m := { clk := true, ports := true }) (by simp)⟩
  · rw [leaveLpi_wakeAt (b := b) (by rw [hself]; exact hlpi), hself, hnow]
    rfl
  · exact (leaveLpi_others _ _ m hm).trans ((port_congr hports m).trans (modPort_ne _ _ _ _ hm))

theorem lldpSent (hlpi : (s.port p).lpi = true) (hup : (s.port p).up = true)
    (hdue : ∀ b, (s.port p).lldpAt = some b → b + sec 30 ≤ s.clk.now) : nextWith (.lldpTransmit p) s fun t =>
      (t.port p).lldpAt = some s.clk.now ∧ (t.port p).inLpi = none ∧ (t.port p).fifo = (s.port p).fifo ∧
      t.out = .lldp p ((s.port p).nextStart s.clk.now) ((s.port p).lldpdu p) :: s.out ∧ otherPorts p s t ∧
      t = { s with ports := t.ports, out := t.out } := by
  have hexec : exec (.lldpTransmit p) s = .next (sendOwn p (max 64 (18 + ((s.port p).lldpdu p).length)) (fun t => .lldp p t ((s.port p).lldpdu p))
      (modPort p (fun v => { v with lldpAt := some s.clk.now }) s)) := by
    change execLldpTransmit p s = _
    unfold execLldpTransmit
    dsimp only
    rw [hlpi, hup, if_pos]
    rw [Bool.true_and, Bool.true_and]
    split
    case h_1 => rfl
    case h_2 b hat => exact decide_eq_true (hdue b hat)
  refine nextWith_of hexec ⟨?_, ?_, ?_, ?_, fun m hm => (sendOwn_others _ _ _ _ m hm).trans (modPort_ne _ _ _ _ hm),
    eq_merged (m := { ports := true, out := true }) (by simp)⟩
  · rw [sendOwn_keeps (F := Port.lldpAt) _ _ _ fun _ _ _ _ _ => rfl, modPort_self]
  · rw [sendOwn_port, modPort_self]
    exact leaveLpi_inLpi _ _
  · rw [sendOwn_keeps (F := Port.fifo) _ _ _ fun _ _ _ _ _ => rfl, modPort_self]
  · rw [sendOwn_out, modPort_self]
    exact congrArg (fun i => Output.lldp p i _ :: s.out) (nextStart_free (s.port p) (s.port p).stats (s.port p).xoff _ s.clk.now)

theorem lldpSilent (h : (s.port p).lpi = false ∨ (s.port p).up = false) : exec (.lldpTransmit p) s = .next s := by
  change execLldpTransmit p s = _
  unfold execLldpTransmit
  dsimp only
  rw [if_neg]
  rcases h with h | h <;> simp [h]

theorem partnerIdle (hup : (s.port p).up = true) (hmode : lpiMode (s.port p) = true) (hlpi : s.variant.lpi = true)
    (hnone : (s.port p).rxLpi = none) : nextWith (.partnerLpi p true) s fun t =>
      t.port p = { s.port p with
        rxLpi := some s.clk.now, stats := { (s.port p).stats with lpiRx := (s.port p).stats.lpiRx + 1 } } ∧
      otherPorts p s t ∧ t = { s with ports := t.ports } := by
  have hexec : exec (.partnerLpi p true) s = .next (modStats p (fun c => { c with lpiRx := c.lpiRx + 1 })
      (modPort p (fun v => { v with rxLpi := some s.clk.now }) s)) := by
    change execPartnerLpi p true s = _
    unfold execPartnerLpi
    dsimp only
    rw [hup, hmode, hlpi, if_neg (by decide), hnone]
  refine nextWith_of hexec ⟨?_, fun m hm => (modPort_ne _ _ _ _ hm).trans (modPort_ne _ _ _ _ hm), rfl⟩
  rw [modStats, modPort_self, modPort_self]

theorem partnerActive {b : Instant} (hup : (s.port p).up = true) (hmode : lpiMode (s.port p) = true) (hlpi : s.variant.lpi = true)
    (hsome : (s.port p).rxLpi = some b) : nextWith (.partnerLpi p false) s fun t =>
      (t.port p).rxLpi = none ∧ otherPorts p s t ∧
      (t.port p).stats.lpiRxUs = (s.port p).stats.lpiRxUs + (s.clk.now - b) / us 1 ∧ t = { s with ports := t.ports } := by
  have hexec : exec (.partnerLpi p false) s = .next (modStats p (fun c => { c with lpiRxUs := c.lpiRxUs + (s.clk.now - b) / us 1 })
      (modPort p (fun v => { v with rxLpi := none }) s)) := by
    change execPartnerLpi p false s = _
    unfold execPartnerLpi
    dsimp only
    rw [hup, hmode, hlpi, if_neg (by decide), hsome]
    dsimp only
    unfold leaveRxLpi
    rw [hsome]
  refine nextWith_of hexec ⟨?_, fun m hm => (modPort_ne _ _ _ _ hm).trans (modPort_ne _ _ _ _ hm), ?_, rfl⟩ <;>
    rw [modStats, modPort_self, modPort_self]

theorem wakeBy_awake (n : Nat) (h : s.pwr.asleep = false) : wakeBy n s = s := by
  unfold wakeBy startWake
  rw [h]
  exact ite_self _

theorem portWoken (hasleep : (s.port p).asleep = true) (hpwr : s.pwr.asleep = false) : nextWith (.portWake p) s fun t =>
    t.port p = { s.port p with asleep := false } ∧ otherPorts p s t ∧ t = { s with ports := t.ports, evc := t.evc, out := t.out } := by
  have hexec : exec (.portWake p) s = .next (wakePort p s) := by
    change execPortWake p s = _
    unfold execPortWake
    rw [if_pos hasleep, wakeBy_awake 2 (by rw [wakePort_pwr, hpwr])]
  obtain ⟨hself, hothers⟩ := wakePort_port p s
  exact nextWith_of hexec ⟨hself, hothers, eq_merged (m := { ports := true, evc := true, out := true }) (by simp)⟩

theorem portWake_awake (hawake : (s.port p).asleep = false) : exec (.portWake p) s = .next s := by
  change execPortWake p s = _
  unfold execPortWake
  rw [hawake, if_neg Bool.false_ne_true]

end State

/-- Settles O35: a pause event sets its account; a frame of the MAC's own leaves low-power idle and occupies the port, and changes
nothing else of it. -/
theorem portEvents : Obligations.PortEvents := by
  refine ⟨fun s p q x hx => ?_, fun s p => ⟨portUp, portStays, portDown, fun tw => lpiEntered, fun b => lpiWoken, lldpSent, lldpSilent,
    portWoken, portWake_awake, partnerIdle, fun b => partnerActive⟩⟩
  subst hx
  exact ⟨fun u hx hu => pauseChanged (pauseExpired hx hu), fun u => pauseRuns, fun b u => watchdogBarks, fun b => watchdogWaits,
    fun u hx hu => pauseChanged (watchdogRecovers hx hu), fun u => watchdogIgnores, fun due => pauseRefreshed, fun due => refreshWaits⟩

end Sys2Proof.Proofs.PortEvents
end

section
/-!
Snapshots of the port counters (chapter 09): O36.
-/
namespace Sys2Proof.Proofs.Snapshots
open Sys2Proof Sys2Proof.Machine Sys2Proof.Proofs.Frames Sys2Proof.Proofs.Rules

set_option Elab.async false



/-- The state with a snapshot buffer set. -/
def setSnap (k : Nat) (v : Snapshot) (s : State) : State := { s with snaps := Tbl.set .free s.snaps k v }

theorem setSnap_self (k : Nat) (v : Snapshot) (s : State) : Tbl.get .free (setSnap k v s).snaps k = v := Tbl.get_set_self _ _ _ _

theorem setSnap_ne {j : Nat} (k : Nat) (v : Snapshot) (s : State) (h : j ≠ k) :
    Tbl.get .free (setSnap k v s).snaps j = Tbl.get .free s.snaps j := Tbl.get_set_ne _ _ _ h

/-! ### Requests (R210) -/

section Request
variable {h : Hdr} {s : State} {i : Instant} {b : BitVec 32} (hr : runsNow h (.statsSnapshot i b) s)
  (hports : ∀ p ∈ bitmapPorts b, s.hasPort p = true)
include hr hports

omit hr in
theorem portsPresent (x : CmdChannel) : ((bitmapPorts b).any fun p => !State.hasPort { s with cmd := x } p) = false := by
  rw [List.any_eq_false]
  intro p hp
  rw [show State.hasPort { s with cmd := x } p = true from hports p hp]
  decide

theorem snapshot_instant (hbad : instantStatus i s ≠ .ok) : failsWith (.statsSnapshot h i b) h 0x080E (instantStatus i s) s := by
  obtain ⟨x, hx⟩ := takeUp_cmd h s
  have hbody : doStatsSnapshot i b { s with cmd := x } = fail (instantStatus i s) { s with cmd := x } := by
    unfold doStatsSnapshot
    rw [portsPresent hports x, if_neg Bool.false_ne_true, show instantStatus i { s with cmd := x } = instantStatus i s from rfl]
    split
    case h_1 hok => exact absurd hok hbad
    case h_2 => rfl
  exact failsWith_taken hx hr rfl rfl rfl hbody

variable (hok : instantStatus i s = .ok) (hnear : i ≤ switchTime s + coarseHorizon)
include hok hnear

omit hr in
/-- The request goes to the first free buffer. -/
theorem snapshot_body (x : CmdChannel) : doStatsSnapshot i b { s with cmd := x } =
    match (List.range 8).find? fun k => (Tbl.get .free s.snaps k : Snapshot) == .free with
    | none => fail .snapshotBusy { s with cmd := x }
    | some k => okData [k] (setSnap k (.pending i b) { s with cmd := x }) := by
  unfold doStatsSnapshot
  rw [portsPresent hports x, if_neg Bool.false_ne_true, show instantStatus i { s with cmd := x } = instantStatus i s from rfl, hok]
  dsimp only
  rw [if_neg (Nat.not_lt.mpr (show i ≤ switchTime { s with cmd := x } + coarseHorizon from hnear))]
  rfl

theorem snapshotTaken {k : Nat} (hk : k < 8) (hfree : Tbl.get .free s.snaps k = Snapshot.free)
    (hfirst : ∀ j, j < k → Tbl.get .free s.snaps j ≠ Snapshot.free) : completes (.statsSnapshot h i b) h 0x080E s fun t =>
      Tbl.get .free t.snaps k = .pending i b ∧
      (∀ j, j ≠ k → Tbl.get .free t.snaps j = Tbl.get .free s.snaps j) ∧ t = { takeUp h s with snaps := t.snaps } := by
  obtain ⟨x, hx⟩ := takeUp_cmd h s
  have hfind : ((List.range 8).find? fun k => (Tbl.get .free s.snaps k : Snapshot) == .free) = some k := by
    rw [List.find?_range_eq_some]
    exact ⟨by rw [hfree]; rfl, List.mem_range.mpr hk, fun j hj => by simpa using hfirst j hj⟩
  have hbody := snapshot_body hports hok hnear x
  rw [hfind] at hbody
  exact completes_taken hx hr rfl rfl rfl hbody ⟨setSnap_self _ _ _, fun j hj => setSnap_ne k _ { s with cmd := x } hj, by rw [hx]; rfl⟩

theorem snapshotBusy (hfull : ∀ j, j < 8 → Tbl.get .free s.snaps j ≠ Snapshot.free) :
    failsWith (.statsSnapshot h i b) h 0x080E .snapshotBusy s := by
  obtain ⟨x, hx⟩ := takeUp_cmd h s
  have hfind : ((List.range 8).find? fun k => (Tbl.get .free s.snaps k : Snapshot) == .free) = none :=
    List.find?_eq_none.mpr fun j hj => by simpa using hfull j (List.mem_range.mp hj)
  have hbody := snapshot_body hports hok hnear x
  rw [hfind] at hbody
  exact failsWith_taken hx hr rfl rfl rfl hbody

end Request

/-! ### Sampling (R37, R210) -/

section Due
variable {s : State} {k : Nat} {at_ : Instant} {b : BitVec 32} (hpending : Tbl.get .free s.snaps k = .pending at_ b)
include hpending

theorem snapshotSampled (hvalid : switchValid s = true) (hdue : at_ ≤ switchTime s) : nextWith (.snapshotDue k) s fun t =>
    Tbl.get .free t.snaps k = .taken at_ ((bitmapPorts b).map fun p => (p, (s.port p).stats)) ∧
    (∀ j, j ≠ k → Tbl.get .free t.snaps j = Tbl.get .free s.snaps j) ∧ t.ports = s.ports ∧
    t = { s with snaps := t.snaps, evc := t.evc, out := t.out } := by
  have hexec : exec (.snapshotDue k) s =
      .next (raise 0xD2 (setSnap k (.taken at_ ((bitmapPorts b).map fun p => (p, (s.port p).stats))) s)) := by
    change execSnapshotDue k s = _
    unfold execSnapshotDue
    rw [hpending]
    dsimp only
    rw [if_pos (by rw [hvalid, decide_eq_true hdue]; rfl)]
    rfl
  have hsnaps := raise_snaps 0xD2 (setSnap k (.taken at_ ((bitmapPorts b).map fun p => (p, (s.port p).stats))) s)
  refine nextWith_of hexec ⟨?_, fun j hj => ?_, raise_ports _ _, ?_⟩
  · rw [hsnaps, setSnap_self]
  · rw [hsnaps, setSnap_ne _ _ _ hj]
  · unfold setSnap
    exact eq_merged (m := { snaps := true, evc := true, out := true }) (by simp)

theorem snapshotWaits (hearly : switchTime s < at_) : exec (.snapshotDue k) s = .next s := by
  change execSnapshotDue k s = _
  unfold execSnapshotDue
  rw [hpending]
  dsimp only
  rw [if_neg (by simp [hearly])]

end Due

/-! ### Reads -/

/-- What stats.read answers of a buffer that holds `v`, and the state it leaves. -/
def readAnswer (k : Nat) (r : Bool) (v : Snapshot) (s : State) : Option Ans × State :=
  match v with
  | .free => fail .entryAbsent s
  | .pending _ _ => fail .notReady s
  | .failed why => fail why (if r then setSnap k .free s else s)
  | .taken at_ sets => okData ([secOf at_, nsOf at_, fracOf at_] ++ (sets.map fun x => x.1 :: statWords x.2).flatten)
      (if r then setSnap k .free s else s)

section Read
variable {h : Hdr} {s : State} {k : Nat} {r : Bool} (hr : runsNow h (.statsRead k r) s) (hk : k < 8)
include hr hk

omit hr in
theorem read_body {v : Snapshot} (x : CmdChannel) (hv : Tbl.get .free s.snaps k = v) :
    doStatsRead k r { s with cmd := x } = readAnswer k r v { s with cmd := x } := by
  subst hv
  exact require_true (decide_eq_true hk)

theorem readTaken {at_ : Instant} {l : List (Nat × PortStats)} (hv : Tbl.get .free s.snaps k = .taken at_ l) :
    completes (.statsRead h k r) h 0x080F s fun t =>
      Tbl.get .free t.snaps k = (if r then .free else .taken at_ l) ∧
      (∀ j, j ≠ k → Tbl.get .free t.snaps j = Tbl.get .free s.snaps j) ∧ t = { takeUp h s with snaps := t.snaps } := by
  obtain ⟨x, hx⟩ := takeUp_cmd h s
  have hbody := read_body (r := r) hk x hv
  refine completes_taken hx hr rfl rfl rfl hbody ?_
  rw [hx]
  split
  · exact ⟨setSnap_self _ _ _, fun j hj => setSnap_ne k _ { s with cmd := x } hj, rfl⟩
  · exact ⟨hv, fun _ _ => rfl, rfl⟩

theorem readFree (hv : Tbl.get .free s.snaps k = Snapshot.free) : failsWith (.statsRead h k r) h 0x080F .entryAbsent s := by
  obtain ⟨x, hx⟩ := takeUp_cmd h s
  exact failsWith_taken hx hr rfl rfl rfl (read_body (r := r) hk x hv)

theorem readPending {at_ : Instant} {b : BitVec 32} (hv : Tbl.get .free s.snaps k = .pending at_ b) :
    failsWith (.statsRead h k r) h 0x080F .notReady s := by
  obtain ⟨x, hx⟩ := takeUp_cmd h s
  exact failsWith_taken hx hr rfl rfl rfl (read_body (r := r) hk x hv)

end Read

theorem readFailed {h : Hdr} {s : State} {k : Nat} {why : Status} (hr : runsNow h (.statsRead k false) s) (hk : k < 8)
    (hv : Tbl.get .free s.snaps k = .failed why) : failsWith (.statsRead h k false) h 0x080F why s := by
  obtain ⟨x, hx⟩ := takeUp_cmd h s
  exact failsWith_taken hx hr rfl rfl rfl (read_body (r := false) hk x hv)

/-- Settles O36: a snapshot buffer goes from free to pending, taken and free again, and each operation touches one buffer. -/
theorem snapshots : Obligations.Snapshots := by
  intro h s
  exact ⟨fun i b k hr hports hok hnear => snapshotTaken hr hports hok hnear, fun i b hr hports hok hnear => snapshotBusy hr hports hok hnear,
    fun i b hr hports => snapshot_instant hr hports, fun k at_ b => snapshotSampled, fun k at_ b => snapshotWaits,
    fun k r at_ l hr hk => readTaken hr hk, fun k r => readFree, fun k r at_ b hr hk => readPending hr hk, fun k why => readFailed⟩

end Sys2Proof.Proofs.Snapshots
end

section
/-!
Associations and key agreement (chapter 10): what each operation does to the associations. O37, O38 and O39.
-/
namespace Sys2Proof.Proofs.Associations
open Sys2Proof Sys2Proof.Machine Sys2Proof.Proofs.Frames Sys2Proof.Proofs.Rules
open Sys2Proof.Proofs.LineTimeEvents Sys2Proof.Proofs.RegistrationCommands

set_option Elab.async false

@[simp] theorem answerAgreement_sec (a0 : Agreement) (a1 : Ans) (s : State) : (answerAgreement a0 a1 s).sec = s.sec :=
  sec_of_rest (m := { clk := true, ports := true, cmd := true, evc := true, out := true }) (by simp)
@[simp] theorem answerAgreement_assoc (a0 : Agreement) (a1 : Ans) (s : State) (i : Nat) : (answerAgreement a0 a1 s).assoc i = s.assoc i := by
  unfold State.assoc
  rw [show (answerAgreement a0 a1 s).sec = s.sec from sec_of_rest (m := { clk := true, ports := true, cmd := true, evc := true, out := true }) (by simp)]
@[simp] theorem answerAgreement_groups (a0 : Agreement) (a1 : Ans) (s : State) : (answerAgreement a0 a1 s).groups = s.groups :=
  groups_of_rest (m := { clk := true, ports := true, cmd := true, evc := true, out := true }) (by simp)
@[simp] theorem sendReply_sec (a0 : Hdr) (a1 : Nat) (a2 : Ans) (s : State) : (sendReply a0 a1 a2 s).sec = s.sec :=
  sec_of_rest (m := { clk := true, ports := true, cmd := true, evc := true, out := true }) (by simp)
@[simp] theorem failAgreement_fuses (a0 : Nat) (a1 : Status) (a2 : Bool) (s : State) : (failAgreement a0 a1 a2 s).fuses = s.fuses :=
  fuses_of_rest (m := { clk := true, q := true, ports := true, sec := true, cmd := true, evc := true, out := true }) (by simp)
@[simp] theorem failAgreement_reg (a0 : Nat) (a1 : Status) (a2 : Bool) (s : State) : (failAgreement a0 a1 a2 s).reg = s.reg :=
  reg_of_rest (m := { clk := true, q := true, ports := true, sec := true, cmd := true, evc := true, out := true }) (by simp)
@[simp] theorem failAgreement_carriers (a0 : Nat) (a1 : Status) (a2 : Bool) (s : State) : (failAgreement a0 a1 a2 s).carriers = s.carriers :=
  carriers_of_rest (m := { clk := true, q := true, ports := true, sec := true, cmd := true, evc := true, out := true }) (by simp)
@[simp] theorem failAgreement_groups (a0 : Nat) (a1 : Status) (a2 : Bool) (s : State) : (failAgreement a0 a1 a2 s).groups = s.groups :=
  groups_of_rest (m := { clk := true, q := true, ports := true, sec := true, cmd := true, evc := true, out := true }) (by simp)
@[simp] theorem failAgreements_fuses (a0 : Status) (s : State) : (failAgreements a0 s).fuses = s.fuses :=
  fuses_of_rest (m := { clk := true, q := true, ports := true, sec := true, cmd := true, evc := true, out := true }) (by simp)
@[simp] theorem failAgreements_reg (a0 : Status) (s : State) : (failAgreements a0 s).reg = s.reg :=
  reg_of_rest (m := { clk := true, q := true, ports := true, sec := true, cmd := true, evc := true, out := true }) (by simp)
@[simp] theorem sendMade_fuses (a0 : Nat) (a1 : Nat) (a2 : Nat) (a3 : Nat) (a4 : Nat) (s : State) : (sendMade a0 a1 a2 a3 a4 s).fuses = s.fuses :=
  fuses_of_rest (m := { clk := true, q := true, sec := true, evc := true, out := true }) (by simp)
@[simp] theorem sendMade_reg (a0 : Nat) (a1 : Nat) (a2 : Nat) (a3 : Nat) (a4 : Nat) (s : State) : (sendMade a0 a1 a2 a3 a4 s).reg = s.reg :=
  reg_of_rest (m := { clk := true, q := true, sec := true, evc := true, out := true }) (by simp)
@[simp] theorem sendMade_carriers (a0 : Nat) (a1 : Nat) (a2 : Nat) (a3 : Nat) (a4 : Nat) (s : State) : (sendMade a0 a1 a2 a3 a4 s).carriers = s.carriers :=
  carriers_of_rest (m := { clk := true, q := true, sec := true, evc := true, out := true }) (by simp)
@[simp] theorem sendMade_groups (a0 : Nat) (a1 : Nat) (a2 : Nat) (a3 : Nat) (a4 : Nat) (s : State) : (sendMade a0 a1 a2 a3 a4 s).groups = s.groups :=
  groups_of_rest (m := { clk := true, q := true, sec := true, evc := true, out := true }) (by simp)
@[simp] theorem sendMade_cmd (a0 : Nat) (a1 : Nat) (a2 : Nat) (a3 : Nat) (a4 : Nat) (s : State) : (sendMade a0 a1 a2 a3 a4 s).cmd = s.cmd :=
  cmd_of_rest (m := { clk := true, q := true, sec := true, evc := true, out := true }) (by simp)
@[simp] theorem sendMade_ports (a0 : Nat) (a1 : Nat) (a2 : Nat) (a3 : Nat) (a4 : Nat) (s : State) : (sendMade a0 a1 a2 a3 a4 s).ports = s.ports :=
  ports_of_rest (m := { clk := true, q := true, sec := true, evc := true, out := true }) (by simp)
@[simp] theorem sendMade_cls (a0 : Nat) (a1 : Nat) (a2 : Nat) (a3 : Nat) (a4 : Nat) (s : State) : (sendMade a0 a1 a2 a3 a4 s).cls = s.cls :=
  cls_of_rest (m := { clk := true, q := true, sec := true, evc := true, out := true }) (by simp)
@[simp] theorem sendMade_down (a0 : Nat) (a1 : Nat) (a2 : Nat) (a3 : Nat) (a4 : Nat) (s : State) : (sendMade a0 a1 a2 a3 a4 s).down = s.down :=
  down_of_rest (m := { clk := true, q := true, sec := true, evc := true, out := true }) (by simp)
@[simp] theorem startAgreement_fuses (a0 : Nat) (a1 : Nat) (a2 : Bool) (a3 : Hdr) (a4 : Nat) (a5 : Nat) (s : State) : (startAgreement a0 a1 a2 a3 a4 a5 s).fuses = s.fuses :=
  fuses_of_rest (m := { clk := true, q := true, sec := true, evc := true, out := true }) (by simp)
@[simp] theorem startAgreement_groups (a0 : Nat) (a1 : Nat) (a2 : Bool) (a3 : Hdr) (a4 : Nat) (a5 : Nat) (s : State) : (startAgreement a0 a1 a2 a3 a4 a5 s).groups = s.groups :=
  groups_of_rest (m := { clk := true, q := true, sec := true, evc := true, out := true }) (by simp)
@[simp] theorem abortChanged_fuses (s : State) : (abortChanged s).fuses = s.fuses :=
  fuses_of_rest (m := { cls := true, sec := true, groups := true, evc := true, out := true }) (by simp)
@[simp] theorem abortChanged_reg (s : State) : (abortChanged s).reg = s.reg :=
  reg_of_rest (m := { cls := true, sec := true, groups := true, evc := true, out := true }) (by simp)
@[simp] theorem abortChanged_carriers (s : State) : (abortChanged s).carriers = s.carriers :=
  carriers_of_rest (m := { cls := true, sec := true, groups := true, evc := true, out := true }) (by simp)
@[simp] theorem startWriteIn_assoc (s : State) (i : Nat) : (startWriteIn s).assoc i = s.assoc i := by
  unfold State.assoc
  rw [show (startWriteIn s).sec = s.sec from sec_of_rest (m := { cls := true, evc := true, out := true }) (by simp)]

/-- Where the table of associations stays, every association does. -/
theorem assoc_congr {s t : State} (h : t.sec.assocs = s.sec.assocs) (i : Nat) : t.assoc i = s.assoc i := by
  unfold State.assoc
  rw [h]

/-! ### Handshake messages (R225) -/

/-- A handshake message takes at most a packet number. -/
theorem sendHandshake_sec (kind idx gen peerNum : Nat) (s : State) :
    ∃ n, (sendHandshake kind idx gen peerNum s).sec = { s.sec with hsPn := n } := by
  unfold sendHandshake
  dsimp only
  split
  · exact ⟨s.sec.hsPn, raise_sec _ _⟩
  · split
    · exact ⟨s.sec.hsPn, rfl⟩
    · exact ⟨s.sec.hsPn + 1, rfl⟩

theorem sendMade_sec (seed kind idx gen peerNum : Nat) (s : State) :
    ∃ n, (sendMade seed kind idx gen peerNum s).sec = { s.sec with hsPn := n } :=
  sendHandshake_sec kind idx gen peerNum _

@[simp] theorem sendMade_assoc (seed kind idx gen peerNum : Nat) (s : State) (i : Nat) :
    (sendMade seed kind idx gen peerNum s).assoc i = s.assoc i := by
  obtain ⟨n, hn⟩ := sendMade_sec seed kind idx gen peerNum s
  exact assoc_congr (by rw [hn]) i

@[simp] theorem agreementFail_assoc (c : SecCause) (s : State) (i : Nat) : (agreementFail c s).assoc i = s.assoc i :=
  raise_assoc _ _ _

@[simp] theorem assocDown_assoc (c : SecCause) (s : State) (i : Nat) : (assocDown c s).assoc i = s.assoc i :=
  raise_assoc _ _ _

@[simp] theorem takeMsg_assoc (s : State) (i : Nat) : (takeMsg s).assoc i = s.assoc i := rfl

/-! ### An agreement begins (R222 step 1) -/

/-- The association of an agreement that begins. -/
theorem startAgreement_assoc (i gen : Nat) (rekey : Bool) (h : Hdr) (group bytes : Nat) (s : State) :
    ∃ g, (startAgreement i gen rekey h group bytes s).assoc i =
        { s.assoc i with agree := some g, state := if rekey then (s.assoc i).state else .agreeing } ∧
      g.initiator = true ∧ g.rekey = rekey ∧ g.gen = gen ∧ g.start = s.clk.now ∧ g.sent = 1 := by
  unfold startAgreement
  dsimp only
  exact ⟨_, by rw [sendMade_assoc, modAssoc_self]; rfl, rfl, rfl, rfl, rfl, rfl⟩

theorem startAgreement_others (i gen : Nat) (rekey : Bool) (h : Hdr) (group bytes : Nat) (s : State) :
    otherAssocs i s (startAgreement i gen rekey h group bytes s) := by
  intro m hm
  unfold startAgreement
  dsimp only
  rw [sendMade_assoc, modAssoc_ne _ _ _ _ hm]
  rfl

/-! ### An agreement fails (R222, R226) -/

/-- No agreement is left. -/
theorem failAgreement_agree (i : Nat) (st : Status) (b : Bool) (s : State) :
    ((failAgreement i st b s).assoc i).agree = none := by
  unfold failAgreement
  dsimp only
  split
  · assumption
  · rw [answerAgreement_assoc]
    split
    · rw [setAssoc_self]
    · split
      · split
        · rw [sendMade_assoc, setAssoc_self]
        · rw [setAssoc_self]
      · rw [setAssoc_self]

theorem failAgreement_others (i : Nat) (st : Status) (b : Bool) (s : State) :
    otherAssocs i s (failAgreement i st b s) := by
  intro m hm
  unfold failAgreement
  dsimp only
  split
  · rfl
  · rw [answerAgreement_assoc]
    split
    · rw [setAssoc_ne _ _ _ _ hm, agreementFail_assoc]
    · split
      · split
        · rw [sendMade_assoc, setAssoc_ne _ _ _ _ hm, agreementFail_assoc]
        · rw [setAssoc_ne _ _ _ _ hm, agreementFail_assoc]
      · rw [setAssoc_ne _ _ _ _ hm, agreementFail_assoc]

/-- Of the unit's own settings an agreement that fails touches the cause and the packet number of handshakes only. -/
theorem failAgreement_sec (i : Nat) (st : Status) (b : Bool) (s : State) :
    ∃ l c n, (failAgreement i st b s).sec = { s.sec with assocs := l, failCause := c, hsPn := n } := by
  have hfail : (agreementFail .failed s).sec = { s.sec with failCause := .failed } := raise_sec _ _
  unfold failAgreement
  dsimp only
  split
  · exact ⟨s.sec.assocs, s.sec.failCause, s.sec.hsPn, rfl⟩
  · rw [answerAgreement_sec]
    have hset (a : Assoc) : (setAssoc i a (agreementFail .failed s)).sec =
        { s.sec with assocs := Tbl.set {} (agreementFail .failed s).sec.assocs i a, failCause := .failed } :=
      congrArg (fun v : Security => { v with assocs := Tbl.set {} (agreementFail .failed s).sec.assocs i a }) hfail
    split
    · exact ⟨_, _, s.sec.hsPn, hset _⟩
    · split
      · split
        · obtain ⟨n, hn⟩ := sendMade_sec _ 4 i _ (s.assoc i).peerNum (setAssoc i {} (agreementFail .failed s))
          exact ⟨_, _, n, hn.trans (congrArg (fun v : Security => { v with hsPn := n }) (hset _))⟩
        · exact ⟨_, _, s.sec.hsPn, hset _⟩
      · exact ⟨_, _, s.sec.hsPn, hset _⟩

theorem failAgreements_rngOk (st : Status) (s : State) : (failAgreements st s).sec.rngOk = s.sec.rngOk := by
  refine forEach_keeps (F := fun s : State => s.sec.rngOk) _ s fun i s => ?_
  obtain ⟨l, c, n, h⟩ := failAgreement_sec i st false s
  rw [h]

/-- An association that is not FREE is among the held ones. -/
theorem mem_heldAssocs {i : Nat} {s : State} (h : (s.assoc i).state ≠ .free) : i ∈ heldAssocs s := by
  have hkey (l : Tbl Assoc) (hl : (Tbl.get {} l i).state ≠ .free) : i ∈ Tbl.keys l := by
    induction l with
    | nil => exact absurd rfl hl
    | cons x l ih =>
      obtain ⟨j, a⟩ := x
      rw [Tbl.get_cons] at hl
      by_cases hj : i = j
      · exact hj ▸ List.mem_cons_self
      · exact List.mem_cons_of_mem _ (ih (by simpa [hj] using hl))
  exact List.mem_filter.mpr ⟨hkey _ h, by simpa using h⟩

/-- Every agreement in progress fails. -/
theorem failAgreements_agree (st : Status) {s : State} {i : Nat} (h : (s.assoc i).state ≠ .free) :
    ((failAgreements st s).assoc i).agree = none := by
  refine forEach_mem (P := fun t => (t.assoc i).agree = none) (mem_heldAssocs h) s
    (fun t => failAgreement_agree i st false t) fun m t ht => ?_
  by_cases hm : i = m
  · exact hm ▸ failAgreement_agree _ st false t
  · rw [failAgreement_others m st false t i hm]
    exact ht

/-! ### Staged keys that are erased (R226, R265) -/

/-- An association without its staged key. -/
def withoutStaged (a : Assoc) : Assoc :=
  match a.staged with
  | none => a
  | some k => { a with staged := none, rx := a.rx.filter fun r => r.gen != k.gen }

theorem withoutStaged_staged (a : Assoc) : (withoutStaged a).staged = none := by
  unfold withoutStaged
  split
  · assumption
  · rfl

theorem withoutStaged_of_none {a : Assoc} (h : a.staged = none) : withoutStaged a = a := by
  unfold withoutStaged
  rw [h]

theorem eraseStagedKey_self (i : Nat) (s : State) : (eraseStagedKey i s).assoc i = withoutStaged (s.assoc i) :=
  modAssoc_self _ _ _

theorem eraseStagedKey_ne {i m : Nat} (h : m ≠ i) (s : State) : (eraseStagedKey i s).assoc m = s.assoc m :=
  modAssoc_ne _ _ _ _ h

/-- The change of a list that is erased first. -/
theorem eraseStagedKeys_cons (c : Staged) (l : List Staged) (s : State) : eraseStagedKeys (c :: l) s =
    eraseStagedKeys l (match c.cmd with | .secAssocRekey i => eraseStagedKey i s | _ => s) := rfl

/-- An association that no change of the list rekeys stays. -/
theorem eraseStagedKeys_others {l : List Staged} {i : Nat} (h : ∀ c ∈ l, c.cmd ≠ .secAssocRekey i) (s : State) :
    (eraseStagedKeys l s).assoc i = s.assoc i := by
  induction l generalizing s with
  | nil => rfl
  | cons c l ih =>
    rw [eraseStagedKeys_cons, ih fun d hd => h d (List.mem_cons_of_mem _ hd)]
    split
    · next j hj => exact eraseStagedKey_ne (fun he : i = j => h c List.mem_cons_self (he ▸ hj)) s
    · rfl

/-- Where an association has no staged key, erasing leaves none. -/
theorem eraseStagedKeys_none {l : List Staged} {i : Nat} {s : State} (h : (s.assoc i).staged = none) :
    (eraseStagedKeys l s).assoc i = s.assoc i := by
  induction l generalizing s with
  | nil => rfl
  | cons c l ih =>
    rw [eraseStagedKeys_cons]
    split
    · next j hj =>
      have hkeep : (eraseStagedKey j s).assoc i = s.assoc i := by
        by_cases he : i = j
        · rw [he, eraseStagedKey_self, withoutStaged_of_none (he ▸ h)]
        · exact eraseStagedKey_ne he s
      rw [ih (by rw [hkeep]; exact h), hkeep]
    · exact ih h

/-- An association that a change of the list rekeys has no staged key left. -/
theorem eraseStagedKeys_staged {l : List Staged} {i : Nat} (h : ∃ c ∈ l, c.cmd = .secAssocRekey i) (s : State) :
    ((eraseStagedKeys l s).assoc i).staged = none := by
  induction l generalizing s with
  | nil => simp at h
  | cons c l ih =>
    rw [eraseStagedKeys_cons]
    by_cases hl : ∃ d ∈ l, d.cmd = .secAssocRekey i
    · exact ih hl _
    · obtain ⟨d, hd, hi⟩ := h
      obtain rfl : d = c := by
        rcases List.mem_cons.mp hd with rfl | hd
        · rfl
        · exact absurd ⟨d, hd, hi⟩ hl
      rw [hi]
      dsimp only
      have hnone : ((eraseStagedKey i s).assoc i).staged = none := by
        rw [eraseStagedKey_self]
        exact withoutStaged_staged _
      rw [eraseStagedKeys_none hnone, hnone]

/-- What a group that aborts does to the associations: the staged keys of its changes go. -/
theorem abortGroup_assoc (g : Nat) (why : Status) (detail : Nat) (s : State) (i : Nat) :
    (abortGroup g why detail s).assoc i = (eraseStagedKeys (s.grp g).changes s).assoc i := by
  unfold abortGroup
  dsimp only
  (repeat' split) <;> simp only [raise_assoc] <;> rfl

theorem abortAndGo_assoc (g : Nat) (why : Status) (detail : Nat) (s : State) (i : Nat) :
    (abortAndGo g why detail s).assoc i = (eraseStagedKeys (s.grp g).changes s).assoc i :=
  (startWriteIn_assoc _ i).trans (abortGroup_assoc g why detail s i)

/-- A FREE association stays so while groups abort. -/
theorem abortChanged_free {i : Nat} {s : State} (h : s.assoc i = {}) : (abortChanged s).assoc i = {} := by
  unfold abortChanged forEach
  refine List.foldlRecOn (motive := fun t : State => t.assoc i = {}) _ _ h fun t ht g _ => ?_
  dsimp only
  split
  · split
    · exact ht
    · rw [abortAndGo_assoc, eraseStagedKeys_none (by rw [ht]), ht]
  · exact ht

/-! ### O37: the checks on a security-relevant command (R217, R218, R240, R247) -/

/-- A check that fails answers the command with its status. -/
theorem command_of_secCheck {h : Hdr} {c : Cmd} {s t : State} {st : Status}
    (hn : notReady (Cmd.opcode c) (takeUp h s) = false) (hc : secCheck h (Cmd.opcode c) (takeUp h s) = (some st, t)) :
    command h c s = sendReply h (Cmd.opcode c) { status := st } t := by
  unfold command run
  simp only [hn, hc, Bool.false_eq_true, if_false]

section SecCheck
variable {h : Hdr} {o : Nat} {s : State}

theorem secCheck_blank (hr : secRelevant o = true) (hl : s.fuses.lifecycle = .blank) :
    secCheck h o s = (some .securityFault, s) := by
  simp [secCheck, hr, hl]

theorem secCheck_unowned (hr : secRelevant o = true) (hl : s.fuses.lifecycle = .unowned) :
    secCheck h o s = (some .noOwner, s) := by
  simp [secCheck, hr, hl]

theorem secCheck_noSelfTest (hr : secRelevant o = true) (hl : s.fuses.lifecycle = .owned) (ht : s.sec.selfTest = false) :
    secCheck h o s = (some .securityFault, s) := by
  simp [secCheck, hr, hl, ht]

theorem secCheck_noToken (hr : secRelevant o = true) (hl : s.fuses.lifecycle = .owned) (ht : s.sec.selfTest = true)
    (hk : h.token = none) : secCheck h o s = (some .tokenInvalid, s) := by
  simp [secCheck, hr, hl, ht, hk]

theorem secCheck_token (hr : secRelevant o = true) (hl : s.fuses.lifecycle = .owned) (ht : s.sec.selfTest = true)
    {t : Token} (hk : h.token = some t) :
    secCheck h o s = (if tokenOk t o s then none else some .tokenInvalid, consume t.challenge s) := by
  simp [secCheck, hr, hl, ht, hk]

end SecCheck

/-- A challenge that is consumed stands no more. -/
theorem consume_challenges (c : Ident) (s : State) : ∀ x ∈ (consume c s).sec.challenges, x.1 ≠ c := fun x hx => by
  simpa using (List.mem_filter.mp hx).2

/-- Settles O37: each check of R247 in its order, and the challenge consumed whatever the verdict. -/
theorem tokenChecks : Obligations.TokenChecks := by
  intro h c s hr hn
  have hlife : (takeUp h s).fuses.lifecycle = s.fuses.lifecycle := by simp
  have htest : (takeUp h s).sec.selfTest = s.sec.selfTest := by simp
  refine ⟨fun hl => command_of_secCheck hn (secCheck_blank hr (hlife.trans hl)),
    fun hl => command_of_secCheck hn (secCheck_unowned hr (hlife.trans hl)),
    fun hl ht => command_of_secCheck hn (secCheck_noSelfTest hr (hlife.trans hl) (htest.trans ht)),
    fun hl ht hk => command_of_secCheck hn (secCheck_noToken hr (hlife.trans hl) (htest.trans ht) hk),
    fun t hl ht hk hok => command_of_secCheck hn ?_, fun t hl ht hk hok => ?_⟩
  · rw [secCheck_token hr (hlife.trans hl) (htest.trans ht) hk, tokenOk_takeUp, hok]
    rfl
  · have hbegun : begun h c s = consume t.challenge (takeUp h s) := by
      unfold begun
      rw [secCheck_token hr (hlife.trans hl) (htest.trans ht) hk]
    exact ⟨hbegun, hbegun ▸ consume_challenges t.challenge (takeUp h s)⟩

/-! ### O38: owner, challenges and security settings (R213, R216, R218, R240, R241, R243) -/

/-- sec.challenge keeps the last 8 challenges, the new one among them. -/
theorem challenges_length (l : List (Ident × Instant)) (x : Ident × Instant) :
    (l.drop (l.length - 7) ++ [x]).length ≤ 8 := by
  simp only [List.length_append, List.length_drop, List.length_singleton]
  omega

section SecuritySettings
variable {h : Hdr} {s : State}

theorem secChallenge_completes (hr : runsNow h .secChallenge s) (hrng : s.sec.rngOk = true) :
    completes (.secChallenge h) h 0x0903 s fun t =>
      (∃ c, t.sec.challenges = s.sec.challenges.drop (s.sec.challenges.length - 7) ++ [(c, s.clk.now)]) ∧
      t.sec.challenges.length ≤ 8 ∧
      t = { takeUp h s with
        clk := { s.clk with draws := s.clk.draws + 1 }, sec := { s.sec with challenges := t.sec.challenges } } := by
  obtain ⟨x, hx⟩ := takeUp_cmd h s
  have hbody : ∃ d c, doSecChallenge { s with cmd := x } = okData d { s with
      cmd := x, clk := { s.clk with draws := s.clk.draws + 1 }
      sec := { s.sec with
        challenges := s.sec.challenges.drop (s.sec.challenges.length - 7) ++ [(c, s.clk.now)] } } := by
    unfold doSecChallenge
    rw [if_neg (by simp [hrng])]
    exact ⟨_, _, rfl⟩
  obtain ⟨d, c, hbody⟩ := hbody
  exact completes_taken hx hr rfl rfl rfl hbody ⟨⟨c, rfl⟩, challenges_length _ _, by rw [hx]⟩

theorem secChallenge_noRng (hr : runsNow h .secChallenge s) (hrng : s.sec.rngOk = false) :
    failsWith (.secChallenge h) h 0x0903 .securityFault s := by
  obtain ⟨x, hx⟩ := takeUp_cmd h s
  refine failsWith_taken hx hr rfl rfl rfl ?_
  change doSecChallenge _ = _
  unfold doSecChallenge
  rw [if_pos (by simp [hrng])]
  rfl

variable {c : Ident} {d : Digest} {a b : Bool}

theorem secOwnerEnrol_completes (hr : runsNow h (.secOwnerEnrol c d true true) s) (hl : s.fuses.lifecycle ≠ .owned)
    (hc : ∃ x ∈ s.sec.challenges, x.1 = c) : completes (.secOwnerEnrol h c d true true) h 0x0904 s fun t =>
      t = { takeUp h s with
        fuses := { s.fuses with owner := some d, lifecycle := .owned },
        sec := { s.sec with challenges := s.sec.challenges.filter fun x => x.1 != c } } := by
  obtain ⟨x, hx⟩ := takeUp_cmd h s
  have hbody : doSecOwnerEnrol c d true true { s with cmd := x } = okData [d.toNat] { s with
      cmd := x, fuses := { s.fuses with owner := some d, lifecycle := .owned }
      sec := { s.sec with challenges := s.sec.challenges.filter fun x => x.1 != c } } := by
    unfold doSecOwnerEnrol
    dsimp only
    rw [if_neg hl, if_pos (by simpa using hc)]
    rfl
  exact completes_taken hx hr rfl rfl rfl hbody (by rw [hx])

theorem secOwnerEnrol_enrolled (hr : runsNow h (.secOwnerEnrol c d a b) s) (hl : s.fuses.lifecycle = .owned) :
    failsWith (.secOwnerEnrol h c d a b) h 0x0904 .ownerEnrolled s := by
  obtain ⟨x, hx⟩ := takeUp_cmd h s
  exact failsWith_taken hx hr rfl rfl rfl (if_pos hl)

theorem secOwnerEnrol_invalid (hr : runsNow h (.secOwnerEnrol c d a b) s) (hl : s.fuses.lifecycle ≠ .owned)
    (hbad : a = false ∨ b = false ∨ ∀ x ∈ s.sec.challenges, x.1 ≠ c) :
    exec (.secOwnerEnrol h c d a b) s = .next (sendReply h 0x0904 { status := .tokenInvalid } (consume c (takeUp h s))) := by
  obtain ⟨x, hx⟩ := takeUp_cmd h s
  rw [hx]
  refine fails_taken hx hr rfl rfl rfl ?_
  change doSecOwnerEnrol c d a b _ = _
  unfold doSecOwnerEnrol
  dsimp only
  rw [if_neg hl, if_neg ?_]
  · rfl
  · rcases hbad with rfl | rfl | hbad
    · simp
    · simp
    · simp only [Bool.and_eq_true, List.any_eq_true, beq_iff_eq]
      rintro ⟨⟨⟨y, hy, hyc⟩, -⟩, -⟩
      exact hbad y hy hyc

/-- R218: a challenge lapses 600 s after it was drawn. -/
theorem challengeLapse_next (s : State) : nextWith .challengeLapse s fun t =>
    (∀ x ∈ t.sec.challenges, x ∈ s.sec.challenges ∧ s.clk.now < x.2 + sec 600) ∧
    (∀ x ∈ s.sec.challenges, s.clk.now < x.2 + sec 600 → x ∈ t.sec.challenges) ∧
    t = { s with sec := { s.sec with challenges := t.sec.challenges } } :=
  nextWith_of (t := { s with sec := { s.sec with
      challenges := s.sec.challenges.filter fun c => decide (s.clk.now < c.2 + sec 600) } }) rfl
    ⟨fun x hx => by simpa using List.mem_filter.mp hx, fun x hx ht => List.mem_filter.mpr ⟨hx, by simpa using ht⟩, rfl⟩

variable {n : Nat} {e : Bool}

theorem secSidechannelSet_completes (hr : runsNow h (.secSidechannelSet n) s) (hn : n ≤ 2) :
    completes (.secSidechannelSet h n) h 0x090B s fun t =>
      t = { begun h (.secSidechannelSet n) s with sec := { (begun h (.secSidechannelSet n) s).sec with dmax := n } } :=
  completes_of hr rfl rfl
    (require_true (k := fun s => okData [n] (modSec (fun x => { x with dmax := n }) s)) (decide_eq_true hn)) rfl

theorem secSidechannelSet_range (hr : runsNow h (.secSidechannelSet n) s) (hn : 2 < n) :
    exec (.secSidechannelSet h n) s =
      .next (sendReply h 0x090B { status := .paramRange } (begun h (.secSidechannelSet n) s)) :=
  fails_begun hr rfl rfl (require_false (k := fun s => okData [n] (modSec (fun x => { x with dmax := n }) s))
    (decide_eq_false (Nat.not_le.mpr hn)))

theorem secCompatSet_completes (hr : runsNow h (.secCompatSet e) s) : completes (.secCompatSet h e) h 0x090D s fun t =>
    t = { begun h (.secCompatSet e) s with sec := { (begun h (.secCompatSet e) s).sec with compat := e } } :=
  completes_of (d := [e.toNat]) hr rfl rfl rfl rfl

/-- Once the peer associations are cleared, each reads as FREE. -/
theorem get_filter_zero (l : Tbl Assoc) {i : Nat} (hi : i ≠ 0) : Tbl.get {} (l.filter fun a => a.1 == 0) i = {} := by
  induction l with
  | nil => rfl
  | cons x l ih =>
    by_cases hx : x.1 = 0
    · rw [List.filter_cons_of_pos (by simpa using hx)]
      obtain ⟨j, a⟩ := x
      rw [Tbl.get_cons, if_neg (by rintro rfl; exact hi hx), ih]
    · rw [List.filter_cons_of_neg (by simpa using hx), ih]

/-- The device's state once its peer associations are cleared and the debug port unlocked (R241): agreements have failed with the
status, jobs that wait are answered. -/
def debugUnlocked (s : State) : State := (doSecDebugUnlock s).2

theorem debugUnlocked_sec (s : State) : (debugUnlocked s).sec = { (failAgreements .debugUnlocked s).sec with
    assocs := (failAgreements .debugUnlocked s).sec.assocs.filter fun a => a.1 == 0, suspended := [], unlocked := true } := by
  unfold debugUnlocked doSecDebugUnlock
  dsimp only [okNone]
  rw [raise_sec, modSec]
  dsimp only
  rw [raise_sec, foldl_keeps (F := fun s : State => s.sec) _ _ fun s j => sendReply_sec _ _ _ s]
  rfl

theorem rest_debugUnlocked {sc : Scope} (s : State)
    (hsc : sc.clk ∧ sc.q ∧ sc.ports ∧ sc.sec ∧ sc.cmd ∧ sc.evc ∧ sc.out) : rest sc (debugUnlocked s) = rest sc s := by
  simp only [debugUnlocked, doSecDebugUnlock, okNone]
  simp [hsc]

theorem secDebugUnlock_completes (hr : runsNow h .secDebugUnlock s) : completes (.secDebugUnlock h) h 0x090C s fun t =>
    t.sec.unlocked = true ∧ (∀ i, i ≠ 0 → t.assoc i = {}) ∧ t.sec.suspended = [] ∧ t.fuses = s.fuses ∧ t.reg = s.reg ∧
    t.carriers = s.carriers ∧ t.groups = s.groups := by
  obtain ⟨x, l, hx⟩ := begun_sec h .secDebugUnlock s
  refine completes_begun (d := []) (t := debugUnlocked { s with cmd := x, sec := { s.sec with challenges := l } })
    hx hr rfl rfl rfl ?_
  unfold State.assoc
  rw [debugUnlocked_sec]
  have hrest := rest_debugUnlocked (sc := {
    clk := true, q := true, ports := true, sec := true, cmd := true, evc := true, out := true })
    { s with cmd := x, sec := { s.sec with challenges := l } } (by simp)
  exact ⟨rfl, fun i hi => get_filter_zero _ hi, rfl, fuses_of_rest hrest, reg_of_rest hrest, carriers_of_rest hrest,
    groups_of_rest hrest⟩

/-- R240: with the generator failed, no agreement goes on. -/
theorem rngFail_next (s : State) : nextWith .rngFail s fun t =>
    t.sec.rngOk = false ∧ (∀ i, (s.assoc i).state ≠ .free → 1 ≤ i → (t.assoc i).agree = none) ∧ t.fuses = s.fuses ∧
    t.reg = s.reg ∧
    t = { s with
      clk := t.clk, q := t.q, ports := t.ports, sec := t.sec, cmd := t.cmd, evc := t.evc, out := t.out } := by
  refine nextWith_of (t := failAgreements .securityFault (raise 0xEA (modSec (fun x => { x with rngOk := false }) s))) rfl
    ⟨?_, fun i hi _ => failAgreements_agree _ ?_, by simp, by simp, ?_⟩
  · rw [failAgreements_rngOk, raise_sec]
    rfl
  · rw [raise_assoc]
    exact hi
  · exact eq_merged (m := {
      clk := true, q := true, ports := true, sec := true, cmd := true, evc := true, out := true }) (by simp)

end SecuritySettings

/-- Settles O38: the commands and events of the owner, the challenges and the settings, one lemma each. -/
theorem securitySettings : Obligations.SecuritySettings :=
  ⟨fun _ s => ⟨secChallenge_completes, secChallenge_noRng, fun _ _ => secOwnerEnrol_completes,
      fun _ _ _ _ => secOwnerEnrol_enrolled, fun _ _ _ _ => secOwnerEnrol_invalid, challengeLapse_next s⟩,
    fun _ s => ⟨fun _ => secSidechannelSet_completes, fun _ => secSidechannelSet_range, secDebugUnlock_completes,
      fun _ => secCompatSet_completes, rfl, rngFail_next s⟩⟩

/-! ### O39: the association commands (R220, R221, R226, R228, R238) -/

section AssociationCommands
variable {h : Hdr} {s : State} {i : Nat} {p : AssocParams} {n hold : Nat}

/-- The association of a command that is taken and checked is the one it finds. -/
theorem begun_assoc (h : Hdr) (c : Cmd) (s : State) (i : Nat) : (begun h c s).assoc i = s.assoc i := by
  obtain ⟨x, l, hx⟩ := begun_sec h c s
  rw [hx]
  rfl

theorem begun_now (h : Hdr) (c : Cmd) (s : State) : (begun h c s).clk = s.clk := by
  obtain ⟨x, l, hx⟩ := begun_sec h c s
  rw [hx]

theorem peerIndex_true (h1 : 1 ≤ i) (h2 : i ≤ 4095) : peerIndex i = true := decide_eq_true ⟨h1, h2⟩

/-- The parameters of sec.assoc.create are in range (R221). -/
theorem create_range (h1 : 1 ≤ i) (h2 : i ≤ 4095) (ht : p.trib ≤ 63) (hpeer : p.initiate = true → p.peerNum ≤ 63)
    (harm : p.initiate = false → 1 ≤ p.armTime ∧ p.armTime ≤ 86400) :
    ¬ (!peerIndex i || decide (63 < p.trib ∨ (p.initiate ∧ 63 < p.peerNum) ∨
      (!p.initiate ∧ (p.armTime < 1 ∨ 86400 < p.armTime)))) = true := by
  rw [peerIndex_true h1 h2]
  cases hi : p.initiate
  · have := harm hi
    simp
    omega
  · have := hpeer hi
    simp
    omega

/-- The association that a create command writes, before it is armed or its agreement begins (R221). -/
def createdAssoc (p : AssocParams) : Assoc := {
  peer := p.peer, peerNum := if p.initiate then p.peerNum else 0, suite := p.suite, trib := p.trib
  classMask := p.classMask }

section Create
variable (h1 : 1 ≤ i) (h2 : i ≤ 4095) (ht : p.trib ≤ 63) (hpeer : p.initiate = true → p.peerNum ≤ 63)
  (harm : p.initiate = false → 1 ≤ p.armTime ∧ p.armTime ≤ 86400) (hu : s.sec.unlocked = false)
include h1 h2 ht hpeer harm hu

theorem doSecAssocCreate_held (hf : (s.assoc i).state ≠ .free) : doSecAssocCreate h i p s = fail .assocState s := by
  unfold doSecAssocCreate
  rw [if_neg (create_range h1 h2 ht hpeer harm), if_neg (by simp [hu]), if_pos hf]

theorem doSecAssocCreate_arms (hf : (s.assoc i).state = .free) (hi : p.initiate = false) : doSecAssocCreate h i p s =
    okData [assocCode .armed, 0]
      (setAssoc i { createdAssoc p with state := .armed, armUntil := s.clk.now + sec p.armTime } s) := by
  unfold doSecAssocCreate
  rw [if_neg (create_range h1 h2 ht hpeer harm), if_neg (by simp [hu]), if_neg (not_not_intro hf)]
  dsimp only
  rw [if_neg (by simp [hi])]
  rfl

theorem doSecAssocCreate_initiates (hf : (s.assoc i).state = .free) (hi : p.initiate = true) (hrng : s.sec.rngOk = true) :
    ∃ g u, doSecAssocCreate h i p s = later (startAgreement i g false h 0 0 (setAssoc i (createdAssoc p) u)) ∧
      u = { s with clk := { s.clk with draws := s.clk.draws + 1 } } := by
  unfold doSecAssocCreate
  rw [if_neg (create_range h1 h2 ht hpeer harm), if_neg (by simp [hu]), if_neg (not_not_intro hf)]
  dsimp only
  rw [if_pos hi, if_neg (by simp [hrng])]
  exact ⟨_, _, rfl, rfl⟩

end Create

theorem secAssocCreate_arms (h1 : 1 ≤ i) (h2 : i ≤ 4095) (hr : runsNow h (.secAssocCreate i p) s) (hi : p.initiate = false)
    (ht : p.trib ≤ 63) (ha1 : 1 ≤ p.armTime) (ha2 : p.armTime ≤ 86400) (hu : s.sec.unlocked = false)
    (hf : (s.assoc i).state = .free) : completes (.secAssocCreate h i p) h 0x0905 s fun t =>
      t.assoc i = {
        state := .armed, peer := p.peer, suite := p.suite, trib := p.trib, classMask := p.classMask,
        armUntil := s.clk.now + sec p.armTime } ∧
      otherAssocs i s t ∧
      t = { begun h (.secAssocCreate i p) s with
        sec := { (begun h (.secAssocCreate i p) s).sec with assocs := t.sec.assocs } } := by
  have hassoc (m : Nat) := begun_assoc h (.secAssocCreate i p) s m
  refine completes_of hr rfl rfl (doSecAssocCreate_arms h1 h2 ht (fun hp => by simp [hi] at hp) (fun _ => ⟨ha1, ha2⟩) ?_
    (by rw [hassoc]; exact hf) hi) ⟨?_, fun m hm => ?_, rfl⟩
  · obtain ⟨x, l, hx⟩ := begun_sec h (.secAssocCreate i p) s
    rw [hx]
    exact hu
  · rw [setAssoc_self, begun_now]
    simp [createdAssoc, hi]
  · rw [setAssoc_ne _ _ _ _ hm, hassoc]

theorem secAssocCreate_initiates (h1 : 1 ≤ i) (h2 : i ≤ 4095) (hr : runsNow h (.secAssocCreate i p) s)
    (hi : p.initiate = true) (ht : p.trib ≤ 63) (hpeer : p.peerNum ≤ 63) (hu : s.sec.unlocked = false)
    (hf : (s.assoc i).state = .free) (hrng : s.sec.rngOk = true) :
    ∃ t, exec (.secAssocCreate h i p) s = .next (keepOpen h (.secAssocCreate i p) t) ∧ (t.assoc i).state = .agreeing ∧
      (t.assoc i).peer = p.peer ∧ (t.assoc i).peerNum = p.peerNum ∧ (t.assoc i).suite = p.suite ∧
      (∃ g, (t.assoc i).agree = some g ∧ g.initiator = true ∧ g.rekey = false ∧ g.start = s.clk.now ∧ g.sent = 1) ∧
      otherAssocs i s t ∧ t.groups = s.groups ∧ t.fuses = s.fuses := by
  have hassoc (m : Nat) := begun_assoc h (.secAssocCreate i p) s m
  obtain ⟨x, l, hx⟩ := begun_sec h (.secAssocCreate i p) s
  obtain ⟨gen, u, hbody, hu'⟩ := doSecAssocCreate_initiates (h := h) (s := begun h (.secAssocCreate i p) s) h1 h2 ht
    (fun _ => hpeer) (fun hp => by simp [hi] at hp) (by rw [hx]; exact hu) (by rw [hassoc]; exact hf) hi
    (by rw [hx]; exact hrng)
  obtain ⟨g, hg, hinit, hrekey, -, hstart, hsent⟩ :=
    startAgreement_assoc i gen false h 0 0 (setAssoc i (createdAssoc p) u)
  have hclk : u.clk.now = s.clk.now := by rw [hu', begun_now]
  refine ⟨_, congrArg Host.Outcome.next (command_later hr hbody), ?_⟩
  rw [hg, setAssoc_self]
  refine ⟨rfl, rfl, by simp [createdAssoc, hi], rfl, ⟨g, rfl, hinit, hrekey, hstart.trans hclk, hsent⟩, fun m hm => ?_, ?_, ?_⟩
  · rw [startAgreement_others _ _ _ _ _ _ _ m hm, setAssoc_ne _ _ _ _ hm, hu', ← hassoc]
    rfl
  · rw [startAgreement_groups, setAssoc_groups, hu', hx]
  · rw [startAgreement_fuses, setAssoc_fuses, hu', hx]

theorem secAssocCreate_held (h1 : 1 ≤ i) (h2 : i ≤ 4095) (hr : runsNow h (.secAssocCreate i p) s) (ht : p.trib ≤ 63)
    (hpeer : p.initiate = true → p.peerNum ≤ 63) (harm : p.initiate = false → 1 ≤ p.armTime ∧ p.armTime ≤ 86400)
    (hu : s.sec.unlocked = false) (hf : (s.assoc i).state ≠ .free) : exec (.secAssocCreate h i p) s =
      .next (sendReply h 0x0905 { status := .assocState } (begun h (.secAssocCreate i p) s)) := by
  obtain ⟨x, l, hx⟩ := begun_sec h (.secAssocCreate i p) s
  exact fails_begun hr rfl rfl (doSecAssocCreate_held h1 h2 ht hpeer harm (by rw [hx]; exact hu)
    (by rw [begun_assoc]; exact hf))

/-- The highest generation an association has had keys of (R226). -/
def topGen (a : Assoc) : Nat := max ((a.tx.map (·.gen)).getD 0) a.lastGen

theorem doSecAssocRekey_begins (h1 : 1 ≤ i) (h2 : i ≤ 4095) (ha : (s.assoc i).state = .active)
    (hg : (s.assoc i).agree = none) (hs : (s.assoc i).staged = none) (hgen : topGen (s.assoc i) < 2 ^ 32 - 1)
    (hrng : s.sec.rngOk = true) (group bytes : Nat) : doSecAssocRekey h i group bytes s =
      later (startAgreement i (topGen (s.assoc i) + 1) true h group bytes s) := by
  unfold topGen at hgen ⊢
  unfold doSecAssocRekey
  dsimp only
  rw [if_neg (by simp [peerIndex_true h1 h2]), if_neg (by simp [ha, hg, hs]), if_neg (Nat.not_le.mpr hgen),
    if_neg (by simp [hrng])]

theorem secAssocRekey_begins (h1 : 1 ≤ i) (h2 : i ≤ 4095) (hr : runsNow h (.secAssocRekey i) s)
    (ha : (s.assoc i).state = .active) (hg : (s.assoc i).agree = none) (hs : (s.assoc i).staged = none)
    (hgen : topGen (s.assoc i) < 2 ^ 32 - 1) (hrng : s.sec.rngOk = true) :
    ∃ t, exec (.secAssocRekey h i) s = .next (keepOpen h (.secAssocRekey i) t) ∧ (t.assoc i).state = .active ∧
      (t.assoc i).tx = (s.assoc i).tx ∧ (t.assoc i).pn = (s.assoc i).pn ∧
      (∃ g, (t.assoc i).agree = some g ∧ g.initiator = true ∧ g.rekey = true ∧ g.gen = topGen (s.assoc i) + 1) ∧
      otherAssocs i s t ∧ t.groups = s.groups := by
  have hassoc (m : Nat) := begun_assoc h (.secAssocRekey i) s m
  obtain ⟨x, l, hx⟩ := begun_sec h (.secAssocRekey i) s
  have hbody := doSecAssocRekey_begins (h := h) (s := begun h (.secAssocRekey i) s) h1 h2 (by rw [hassoc]; exact ha)
    (by rw [hassoc]; exact hg) (by rw [hassoc]; exact hs) (by rw [hassoc]; exact hgen) (by rw [hx]; exact hrng) 0 0
  obtain ⟨g, hassoc', hinit, hrekey, hgen', -, -⟩ := startAgreement_assoc i
    (topGen ((begun h (.secAssocRekey i) s).assoc i) + 1) true h 0 0 (begun h (.secAssocRekey i) s)
  refine ⟨_, congrArg Host.Outcome.next (command_later hr hbody), ?_⟩
  rw [hassoc', hassoc]
  refine ⟨ha, rfl, rfl, ⟨g, rfl, hinit, hrekey, by rw [hgen', hassoc]⟩, fun m hm => ?_, ?_⟩
  · rw [startAgreement_others _ _ _ _ _ _ _ m hm, hassoc]
  · rw [startAgreement_groups, hx]

/-- sec.assoc.delete leaves the index FREE. -/
theorem doSecAssocDelete_frees (h1 : 1 ≤ i) (h2 : i ≤ 4095) (hf : (s.assoc i).state ≠ .free) :
    ∃ t, doSecAssocDelete i s = okNone t ∧ t.assoc i = {} ∧ t.fuses = s.fuses ∧ t.reg = s.reg ∧ t.carriers = s.carriers := by
  unfold doSecAssocDelete
  rw [if_neg (by simp [peerIndex_true h1 h2]), if_neg hf]
  dsimp only
  refine ⟨_, rfl, by rw [assocDown_assoc, setAssoc_self], ?_⟩
  split
  · exact ⟨by simp [assocDown, modSec, draw], by simp [assocDown, modSec, draw], by simp [assocDown, modSec, draw]⟩
  · exact ⟨by simp [assocDown, modSec, draw], by simp [assocDown, modSec, draw], by simp [assocDown, modSec, draw]⟩

theorem secAssocDelete_completes (h1 : 1 ≤ i) (h2 : i ≤ 4095) (hr : runsNow h (.secAssocDelete i) s)
    (hf : (s.assoc i).state ≠ .free) : completes (.secAssocDelete h i) h 0x0907 s fun t =>
      t.assoc i = {} ∧ t.fuses = s.fuses ∧ t.reg = s.reg ∧ t.carriers = s.carriers := by
  obtain ⟨x, l, hx⟩ := begun_sec h (.secAssocDelete i) s
  obtain ⟨t, hbody, hfree, hfuses, hreg, hcar⟩ := doSecAssocDelete_frees (s := begun h (.secAssocDelete i) s) h1 h2
    (by rw [begun_assoc]; exact hf)
  rw [hx] at hfuses hreg hcar
  have hdrop : dropping (doSecAssocDelete i) (begun h (.secAssocDelete i) s) = okData [] (abortChanged t) := by
    unfold dropping
    rw [hbody]
    rfl
  exact completes_of hr rfl rfl hdrop ⟨abortChanged_free hfree, (abortChanged_fuses t).trans hfuses,
    (abortChanged_reg t).trans hreg, (abortChanged_carriers t).trans hcar⟩

theorem secAssocConfig_completes (h1 : 1 ≤ i) (h2 : i ≤ 4095) (hr : runsNow h (.secAssocConfig i n hold) s) (hn1 : 1 ≤ n)
    (hn2 : n ≤ 65535) (hh1 : 10 ≤ hold) (hh2 : hold ≤ 2000) (hf : (s.assoc i).state ≠ .free) :
    completes (.secAssocConfig h i n hold) h 0x0909 s fun t =>
      t.assoc i = { s.assoc i with threshold := n, oldHold := hold } ∧ otherAssocs i s t ∧
      t = { begun h (.secAssocConfig i n hold) s with
        sec := { (begun h (.secAssocConfig i n hold) s).sec with assocs := t.sec.assocs } } := by
  have hassoc (m : Nat) := begun_assoc h (.secAssocConfig i n hold) s m
  have hbody (u : State) (hu : (u.assoc i).state ≠ .free) : doSecAssocConfig i n hold u =
      okData [n, hold] (modAssoc i (fun a => { a with threshold := n, oldHold := hold }) u) := by
    unfold doSecAssocConfig
    rw [require_true (by simp [peerIndex_true h1 h2, hn1, hn2, hh1, hh2]), require_true (decide_eq_true hu)]
  refine completes_of hr rfl rfl (hbody _ (by rw [hassoc]; exact hf)) ⟨?_, fun m hm => ?_, rfl⟩
  · rw [modAssoc_self, hassoc]
  · rw [modAssoc_ne _ _ _ _ hm, hassoc]

theorem secAssocResume_completes (h1 : 1 ≤ i) (h2 : i ≤ 4095) (hr : runsNow h (.secAssocResume i) s)
    (ha : (s.assoc i).state = .active) : completes (.secAssocResume h i) h 0x090A s fun t =>
      t.assoc i = { s.assoc i with suspended := false, failCount := 0 } ∧ otherAssocs i s t ∧
      t = { begun h (.secAssocResume i) s with
        sec := { (begun h (.secAssocResume i) s).sec with assocs := t.sec.assocs } } := by
  have hassoc (m : Nat) := begun_assoc h (.secAssocResume i) s m
  have hbody (u : State) (hu : (u.assoc i).state = .active) : doSecAssocResume i u =
      okData [assocCode .active] (modAssoc i (fun a => { a with suspended := false, failCount := 0 }) u) := by
    unfold doSecAssocResume
    rw [require_true (peerIndex_true h1 h2), require_true (decide_eq_true hu)]
  refine completes_of hr rfl rfl (hbody _ (by rw [hassoc]; exact ha)) ⟨?_, fun m hm => ?_, rfl⟩
  · rw [modAssoc_self, hassoc]
  · rw [modAssoc_ne _ _ _ _ hm, hassoc]

end AssociationCommands

/-- Settles O39: the association commands of Table 10-11, one lemma each. -/
theorem associationCommands : Obligations.AssociationCommands := fun _ _ _ h1 h2 =>
  ⟨fun _ => secAssocCreate_arms h1 h2, fun _ => secAssocCreate_initiates h1 h2, fun _ => secAssocCreate_held h1 h2,
    secAssocRekey_begins h1 h2, secAssocDelete_completes h1 h2, fun _ _ => secAssocConfig_completes h1 h2,
    secAssocResume_completes h1 h2⟩

end Sys2Proof.Proofs.Associations
end

section
/-!
Host cipher jobs, sealing and unsealing (chapter 10): O40 and O41.
-/
namespace Sys2Proof.Proofs.Sealing
open Sys2Proof Sys2Proof.Machine Sys2Proof.Proofs.Frames Sys2Proof.Proofs.Rules Sys2Proof.Proofs.Associations
open Sys2Proof.Proofs.LineTimeEvents Sys2Proof.Proofs.RegistrationCommands

set_option Elab.async false

@[simp] theorem dropPkt_cls (a0 : Pkt) (s : State) : (dropPkt a0 s).cls = s.cls :=
  cls_of_rest (m := { clk := true, evc := true, pmc := true, out := true }) (by simp)
@[simp] theorem dropPkt_q (a0 : Pkt) (s : State) : (dropPkt a0 s).q = s.q :=
  q_of_rest (m := { clk := true, evc := true, pmc := true, out := true }) (by simp)
@[simp] theorem dropPkt_sec (a0 : Pkt) (s : State) : (dropPkt a0 s).sec = s.sec :=
  sec_of_rest (m := { clk := true, evc := true, pmc := true, out := true }) (by simp)
@[simp] theorem traceStage_sec (a0 : Option Nat) (a1 : Nat) (s : State) : (traceStage a0 a1 s).sec = s.sec :=
  sec_of_rest (m := { pmc := true }) (by simp)
@[simp] theorem traceStage_q (a0 : Option Nat) (a1 : Nat) (s : State) : (traceStage a0 a1 s).q = s.q :=
  q_of_rest (m := { pmc := true }) (by simp)
@[simp] theorem traceStage_cls (a0 : Option Nat) (a1 : Nat) (s : State) : (traceStage a0 a1 s).cls = s.cls :=
  cls_of_rest (m := { pmc := true }) (by simp)
@[simp] theorem pmcCount_sec (a0 : PmcEvent) (s : State) : (pmcCount a0 s).sec = s.sec :=
  sec_of_rest (m := { clk := true, evc := true, pmc := true, out := true }) (by simp)
@[simp] theorem pmcCount_cls (a0 : PmcEvent) (s : State) : (pmcCount a0 s).cls = s.cls :=
  cls_of_rest (m := { clk := true, evc := true, pmc := true, out := true }) (by simp)
@[simp] theorem stage_sec (a0 : Nat) (a1 : Colour) (a2 : QPkt) (s : State) : (stage a0 a1 a2 s).sec = s.sec :=
  sec_of_rest (m := { q := true }) (by simp)
@[simp] theorem stage_cls (a0 : Nat) (a1 : Colour) (a2 : QPkt) (s : State) : (stage a0 a1 a2 s).cls = s.cls :=
  cls_of_rest (m := { q := true }) (by simp)
@[simp] theorem takePn_q (a0 : Nat) (s : State) : (takePn a0 s).q = s.q :=
  q_of_rest (m := { sec := true, evc := true, out := true }) (by simp)
@[simp] theorem takePn_cls (a0 : Nat) (s : State) : (takePn a0 s).cls = s.cls :=
  cls_of_rest (m := { sec := true, evc := true, out := true }) (by simp)
@[simp] theorem unknownAssoc_cls (a0 : Nat) (s : State) : (unknownAssoc a0 s).cls = s.cls :=
  cls_of_rest (m := { carriers := true, evc := true, out := true }) (by simp)
@[simp] theorem unknownAssoc_sec (a0 : Nat) (s : State) : (unknownAssoc a0 s).sec = s.sec :=
  sec_of_rest (m := { carriers := true, evc := true, out := true }) (by simp)
@[simp] theorem releaseDma_sec (s : State) : (releaseDma s).sec = s.sec :=
  sec_of_rest (m := { cls := true, evc := true, pmc := true, out := true }) (by simp)
@[simp] theorem releaseDma_q (s : State) : (releaseDma s).q = s.q :=
  q_of_rest (m := { cls := true, evc := true, pmc := true, out := true }) (by simp)
@[simp] theorem headChecks_sec (a0 : Nat) (s : State) : (headChecks a0 s).sec = s.sec :=
  sec_of_rest (m := { clk := true, ports := true, evc := true, pmc := true, out := true }) (by simp)
@[simp] theorem headChecks_q (a0 : Nat) (s : State) : (headChecks a0 s).q = s.q :=
  q_of_rest (m := { clk := true, ports := true, evc := true, pmc := true, out := true }) (by simp)
@[simp] theorem tagEverywhere_sec (a0 : Nat) (a1 : Auth) (s : State) : (tagEverywhere a0 a1 s).sec = s.sec :=
  sec_of_rest (m := { cls := true, ports := true, eng := true }) (by simp)
@[simp] theorem tagEverywhere_q (a0 : Nat) (a1 : Auth) (s : State) : (tagEverywhere a0 a1 s).q = s.q :=
  q_of_rest (m := { cls := true, ports := true, eng := true }) (by simp)

/-! ### The next packet number (R232) -/

/-- Taking a packet number changes its association alone. -/
theorem takePn_sec (i : Nat) (s : State) : (takePn i s).sec = (setAssoc i { s.assoc i with
    pn := (s.assoc i).pn + 1
    exhausted := (s.assoc i).exhausted || decide (2 ^ 64 - 1 ≤ (s.assoc i).pn + 1) } s).sec := by
  unfold takePn
  dsimp only
  split <;> split <;> simp only [raise_sec]

theorem takePn_self (i : Nat) (s : State) : ((takePn i s).assoc i).pn = (s.assoc i).pn + 1 := by
  rw [assoc_congr (congrArg Security.assocs (takePn_sec i s)), setAssoc_self]

theorem takePn_others (i : Nat) (s : State) : otherAssocs i s (takePn i s) := fun m hm => by
  rw [assoc_congr (congrArg Security.assocs (takePn_sec i s)), setAssoc_ne _ _ _ _ hm]

/-! ### O40: host cipher jobs (R242, R243) -/

section Jobs
variable {h : Hdr} {s : State} {i a len : Nat} {x : Bool}

/-- The length limit of a job that is not urgent (R243). -/
theorem jobLimit_neg (hl : len ≤ 16384 ∨ (s.sec.compat = true ∧ len ≤ 1048576)) :
    ¬ (if (s.sec.compat && !false) = true then decide (1048576 < len) else decide (16384 < len)) = true := by
  cases hc : s.sec.compat
  · have : len ≤ 16384 := hl.elim id fun h => by simp [hc] at h
    simp
    omega
  · have : len ≤ 1048576 := hl.elim (fun h => by omega) And.right
    simp
    omega

section Body
variable (h1 : 1 ≤ i) (h2 : i ≤ 4095) (hlen : 1 ≤ len)
include h1 h2 hlen

omit hlen in
theorem doCipherJob_limit (hc : s.sec.compat = false) (hl : 16384 < len) :
    doCipherJob h x i len false s = fail .lengthLimit s := by
  unfold doCipherJob
  dsimp only
  rw [if_neg (by simp [peerIndex_true h1 h2]; omega), if_pos (by simp [hc, hl])]

theorem doCipherJob_refused (hl : len ≤ 16384) (hj : jobOk x i s = false) :
    doCipherJob h x i len false s = fail .assocState s := by
  unfold doCipherJob
  dsimp only
  rw [if_neg (by simp [peerIndex_true h1 h2]; omega), if_neg (jobLimit_neg (.inl hl)), if_pos (by simp [hj])]

/-- A job of at most 16,384 bytes runs at once. -/
theorem doCipherJob_short (hl : len ≤ 16384) (hj : jobOk x i s = true) : doCipherJob h x i len false s =
    endJob (startJob { hdr := h, isSeal := x, assoc := i, len := len, urgent := false } s).1
      (startJob { hdr := h, isSeal := x, assoc := i, len := len, urgent := false } s).2 := by
  unfold doCipherJob
  dsimp only
  rw [if_neg (by simp [peerIndex_true h1 h2]; omega), if_neg (jobLimit_neg (.inl hl)), if_neg (by simp [hj]),
    Bool.and_false, if_neg (by simp; omega)]

omit hlen in
/-- A longer one goes to cluster 19. -/
theorem doCipherJob_long (hc : s.sec.compat = true) (hl : 16384 < len) (hl2 : len ≤ 1048576) (hj : jobOk x i s = true) :
    doCipherJob h x i len false s =
      later (placeJob { hdr := h, isSeal := x, assoc := i, len := len, urgent := false } s) := by
  unfold doCipherJob
  dsimp only
  rw [if_neg (by simp [peerIndex_true h1 h2]; omega), if_neg (jobLimit_neg (.inr ⟨hc, hl2⟩)), if_neg (by simp [hj]),
    Bool.and_false, if_pos (by simp [hl])]

end Body

/-- A seal job of at most 16,384 bytes. -/
theorem cipherJob_seals (h1 : 1 ≤ i) (h2 : i ≤ 4095) (hlen : 1 ≤ len) (hr : runsNow h (.cipherJob true i a len false) s)
    (hl : len ≤ 16384) (hj : jobOk true i s = true) :
    ∃ t, exec (.cipherJob h true i a len false) s = .next (sendReply h 0x0910 { data := [len + 32, 1] } t) ∧
      (t.assoc i).pn = (s.assoc i).pn + 1 ∧ otherAssocs i s t ∧ t.sec.job = s.sec.job ∧ t.sec.jobs = s.sec.jobs ∧
      t = { takeUp h s with sec := t.sec, evc := t.evc, out := t.out } := by
  obtain ⟨y, hy⟩ := takeUp_cmd h s
  have hbody : doCipherJob h true i len false (takeUp h s) =
      (some { data := [len + 32, 1] }, emit (.job true ((takeUp h s).assoc i).pn true) (takePn i (takeUp h s))) :=
    doCipherJob_short h1 h2 hlen hl (by rw [hy]; exact hj)
  have hsec := takePn_sec i (takeUp h s)
  refine ⟨emit (.job true ((takeUp h s).assoc i).pn true) (takePn i (takeUp h s)),
    congrArg Host.Outcome.next (command_runs hr (by rw [begun_plain rfl]; exact hbody)), ?_, fun m hm => ?_,
    (congrArg Security.job hsec).trans (by rw [hy]; rfl), (congrArg Security.jobs hsec).trans (by rw [hy]; rfl), ?_⟩
  · rw [emit_assoc, takePn_self, hy]
    rfl
  · rw [emit_assoc, takePn_others _ _ m hm, hy]
    rfl
  · exact eq_merged (m := { sec := true, evc := true, out := true }) (by simp)

/-- An unseal job of at most 16,384 bytes. -/
theorem cipherJob_unseals (h1 : 1 ≤ i) (h2 : i ≤ 4095) (hlen : 1 ≤ len) (hr : runsNow h (.cipherJob false i a len false) s)
    (hl : len ≤ 16384) (hj : jobOk false i s = true) : completes (.cipherJob h false i a len false) h 0x0910 s fun t =>
      t = { takeUp h s with clk := { s.clk with draws := s.clk.draws + 1 }, out := t.out } := by
  obtain ⟨y, hy⟩ := takeUp_cmd h s
  have hbody : doCipherJob h false i len false { s with cmd := y } = _ := doCipherJob_short h1 h2 hlen hl hj
  exact completes_taken hy hr rfl rfl rfl hbody (by rw [hy]; rfl)

theorem cipherJob_refused (h1 : 1 ≤ i) (h2 : i ≤ 4095) (hlen : 1 ≤ len) (hr : runsNow h (.cipherJob x i a len false) s)
    (hl : len ≤ 16384) (hj : jobOk x i s = false) : failsWith (.cipherJob h x i a len false) h 0x0910 .assocState s := by
  obtain ⟨y, hy⟩ := takeUp_cmd h s
  exact failsWith_taken hy hr rfl rfl rfl (doCipherJob_refused (s := { s with cmd := y }) h1 h2 hlen hl hj)

theorem cipherJob_limit (h1 : 1 ≤ i) (h2 : i ≤ 4095) (hr : runsNow h (.cipherJob x i a len false) s)
    (hc : s.sec.compat = false) (hl : 16384 < len) : failsWith (.cipherJob h x i a len false) h 0x0910 .lengthLimit s := by
  obtain ⟨y, hy⟩ := takeUp_cmd h s
  exact failsWith_taken hy hr rfl rfl rfl (doCipherJob_limit (s := { s with cmd := y }) h1 h2 hc hl)

/-- A job that takes a free cluster 19 runs there; a seal job takes its packet number. -/
theorem placeJob_free (j : Job) (hf : s.sec.job = none) :
    (∃ k, (placeJob j s).sec.job = some k ∧ k.hdr = j.hdr ∧ k.len = j.len ∧ k.assoc = j.assoc ∧ k.isSeal = j.isSeal) ∧
      ((placeJob j s).assoc j.assoc).pn = (s.assoc j.assoc).pn + j.isSeal.toNat ∧ otherAssocs j.assoc s (placeJob j s) := by
  unfold placeJob startJob
  rw [hf]
  dsimp only
  split
  · next hseal =>
    rw [hseal]
    exact ⟨⟨_, rfl, rfl, rfl, rfl, rfl⟩, takePn_self _ _, takePn_others _ _⟩
  · next hseal =>
    rw [Bool.not_eq_true] at hseal
    rw [hseal]
    exact ⟨⟨j, rfl, rfl, rfl, rfl, hseal⟩, rfl, fun _ _ => rfl⟩

theorem cipherJob_long (h1 : 1 ≤ i) (h2 : i ≤ 4095) (hr : runsNow h (.cipherJob x i a len false) s)
    (hc : s.sec.compat = true) (hl : 16384 < len) (hl2 : len ≤ 1048576) (hj : jobOk x i s = true) (hf : s.sec.job = none) :
    ∃ t, exec (.cipherJob h x i a len false) s = .next (keepOpen h (.cipherJob x i a len false) t) ∧
      (∃ j, t.sec.job = some j ∧ j.hdr = h ∧ j.len = len ∧ j.assoc = i ∧ j.isSeal = x) ∧
      (t.assoc i).pn = (s.assoc i).pn + x.toNat ∧ otherAssocs i s t := by
  obtain ⟨y, hy⟩ := takeUp_cmd h s
  have hbody := doCipherJob_long (h := h) (s := { s with cmd := y }) h1 h2 hc hl hl2 hj
  refine ⟨_, congrArg Host.Outcome.next (command_later hr (by rw [begun_plain rfl, hy]; exact hbody)), ?_⟩
  exact placeJob_free (s := { s with cmd := y }) _ hf

end Jobs

/-- Settles O40: a short job, one that fails, one over the limit, and a long one. -/
theorem cipherJobs : Obligations.CipherJobs := fun _ _ _ _ _ h1 h2 hlen =>
  ⟨cipherJob_seals h1 h2 hlen, cipherJob_unseals h1 h2 hlen, fun _ => cipherJob_refused h1 h2 hlen,
    fun _ => cipherJob_limit h1 h2, fun _ => cipherJob_long h1 h2⟩

/-! ### O41, sealing (R232, R233, R238) -/

section Seal
variable {s : State} {p : Pkt} {l : List Pkt}

theorem sealPacket_waits (hq : s.cls.sealQ = p :: l) (hroom : stagingRoom (p.bytes.length + 32) s = false) :
    exec .sealPacket s = .next s := by
  change execSeal s = _
  unfold execSeal
  rw [hq]
  dsimp only
  rw [if_pos (by simp [hroom])]

/-- The state in which the oldest packet is sealed. -/
def sealTaken (l : List Pkt) (s : State) : State := { s with cls := { s.cls with sealQ := l } }

/-- A packet that a check of R233 turns away is dropped and counted. -/
theorem sealPacket_dropped {f : Queues → Queues} (hq : s.cls.sealQ = p :: l)
    (hroom : stagingRoom (p.bytes.length + 32) s = true)
    (hc : sealCheck p.md.assoc p.md.cls p.bytes.length s = some f) : nextWith .sealPacket s fun t =>
      t.cls = { s.cls with sealQ := l } ∧ t.q = f s.q ∧ t.sec = s.sec := by
  have hexec : exec .sealPacket s = .next (dropPkt p (modQ f (sealTaken l s))) := by
    change execSeal s = _
    unfold execSeal
    rw [hq]
    dsimp only
    rw [if_neg (by simp [hroom]), show sealCheck p.md.assoc p.md.cls p.bytes.length
      { s with cls := { s.cls with sealQ := l } } = some f from hc]
    rfl
  exact nextWith_of hexec ⟨dropPkt_cls _ _, dropPkt_q _ _, dropPkt_sec _ _⟩

/-- The sealed packet of a plaintext one (R231, R232). -/
def sealedPkt (p : Pkt) (key : Key) (a : Assoc) (at_ : Instant) : QPkt := {
  bytes := sealedBytes a.suite a.peerIdx key.name key.gen a.pn p.bytes, at_ := at_, trib := a.trib, dst := a.peerNum
  peer := a.peerIdx, assoc := p.md.assoc, cls := p.md.cls, trace := p.trace }

/-- A packet that is sealed goes to staging with the next packet number. -/
theorem sealPkt_stages {k : Nat} {key : Key} (htx : (s.assoc p.md.assoc).tx = some key) :
    ∃ at_, (sealPkt k p s).q =
        { s.q with staging := s.q.staging ++ [(k, p.md.colour, sealedPkt p key (s.assoc p.md.assoc) at_)] } ∧
      (sealPkt k p s).sec = (takePn p.md.assoc s).sec ∧ (sealPkt k p s).cls = s.cls := by
  unfold sealPkt
  dsimp only
  rw [htx]
  dsimp only
  generalize hu : pmcCount _ _ = u
  have hq : u.q = s.q := by simp [← hu]
  have hcls : u.cls = s.cls := by simp [← hu]
  have hsec : u.sec = (takePn p.md.assoc s).sec := by
    rw [← hu, pmcCount_sec, takePn_sec, takePn_sec]
    unfold State.assoc setAssoc
    simp
  refine ⟨switchTime u, ?_, by rw [traceStage_sec, stage_sec, hsec], by rw [traceStage_cls, stage_cls, hcls]⟩
  rw [traceStage_q, ← hq]
  rfl

theorem sealPacket_seals {k : Nat} {key : Key} (hq : s.cls.sealQ = p :: l)
    (hroom : stagingRoom (p.bytes.length + 32) s = true)
    (hc : sealCheck p.md.assoc p.md.cls p.bytes.length s = none)
    (hk : leafOf p.md.assoc p.md.cls p.md.flowGroup s = some k) (htx : (s.assoc p.md.assoc).tx = some key) :
    nextWith .sealPacket s fun t =>
      t.cls = { s.cls with sealQ := l } ∧ (t.assoc p.md.assoc).pn = (s.assoc p.md.assoc).pn + 1 ∧
      otherAssocs p.md.assoc s t ∧
      (∃ x : QPkt, t.q = { s.q with staging := s.q.staging ++ [(k, p.md.colour, x)] } ∧
        x.bytes = sealedBytes (s.assoc p.md.assoc).suite (s.assoc p.md.assoc).peerIdx key.name key.gen
          (s.assoc p.md.assoc).pn p.bytes ∧ x.cls = p.md.cls ∧ x.assoc = p.md.assoc) ∧
      t = { s with clk := t.clk, cls := t.cls, q := t.q, sec := t.sec, evc := t.evc, pmc := t.pmc, out := t.out } := by
  have hexec : exec .sealPacket s = .next (sealPkt k p (sealTaken l s)) := by
    change execSeal s = _
    unfold execSeal
    rw [hq]
    dsimp only
    rw [if_neg (by simp [hroom]), show sealCheck p.md.assoc p.md.cls p.bytes.length
      { s with cls := { s.cls with sealQ := l } } = none from hc, show leafOf p.md.assoc p.md.cls p.md.flowGroup
      { s with cls := { s.cls with sealQ := l } } = some k from hk]
    rfl
  obtain ⟨at_, hstage, hsec, hcls⟩ := sealPkt_stages (s := sealTaken l s) (k := k) htx
  refine nextWith_of hexec ⟨hcls, ?_, fun m hm => ?_, ⟨_, hstage, rfl, rfl, rfl⟩, ?_⟩
  · rw [assoc_congr (congrArg Security.assocs hsec)]
    exact takePn_self _ _
  · rw [assoc_congr (congrArg Security.assocs hsec)]
    exact takePn_others _ _ m hm
  · exact eq_merged (m := {
      clk := true, cls := true, q := true, sec := true, evc := true, pmc := true, out := true }) (by
        rw [rest_sealPkt _ _ _ (by simp)]; rfl)

end Seal

/-! ### O41, unsealing (R234 to R236) -/

section Unseal
variable {s : State} {x : Sealed} {l : List Sealed}

/-- The state in which the oldest reassembled packet is unsealed. -/
def unsealTaken (l : List Sealed) (s : State) : State := { s with down := { s.down with ready := l } }

/-- What becomes of the oldest reassembled packet (R225, R234). -/
def unsealed (x : Sealed) (s : State) : State :=
  if !holdsAssoc s x.assoc then unknownAssoc x.carrier s
  else if x.assoc = 0 then { s with sec := { s.sec with hsIn := s.sec.hsIn ++ [slice x.bytes 16 (x.bytes.length - 32)] } }
  else match unsealCheck x s with
    | .inl why => unsealDiscard x.assoc why s
    | .inr k => startUnseal x k s

theorem exec_unsealPacket (hq : s.down.ready = x :: l) : exec .unsealPacket s = .next (unsealed x (unsealTaken l s)) := by
  change execUnseal s = _
  unfold execUnseal
  rw [hq]
  rfl

theorem rest_unsealed {sc : Scope} (x : Sealed) (s : State)
    (hsc : sc.clk ∧ sc.carriers ∧ sc.cls ∧ sc.sec ∧ sc.evc ∧ sc.pmc ∧ sc.out) : rest sc (unsealed x s) = rest sc s := by
  simp only [unsealed]
  split
  · simp [hsc]
  · split
    · simp [hsc]
    · split <;> simp [hsc]

theorem unsealPacket_frame (hq : s.down.ready = x :: l) : nextWith .unsealPacket s fun t =>
    t.down = { s.down with ready := l } ∧
    t = { s with
      clk := t.clk, carriers := t.carriers, down := t.down, cls := t.cls, sec := t.sec, evc := t.evc, pmc := t.pmc
      out := t.out } := by
  have hframe (sc : Scope) (hsc : sc.clk ∧ sc.carriers ∧ sc.cls ∧ sc.sec ∧ sc.evc ∧ sc.pmc ∧ sc.out) :
      rest sc (unsealed x (unsealTaken l s)) = rest sc (unsealTaken l s) := rest_unsealed x _ hsc
  refine nextWith_of (exec_unsealPacket hq) ⟨down_of_rest (m := {
      clk := true, carriers := true, cls := true, sec := true, evc := true, pmc := true, out := true })
    (hframe _ (by simp)), ?_⟩
  exact eq_merged (m := {
    clk := true, carriers := true, down := true, cls := true, sec := true, evc := true, pmc := true, out := true })
    ((hframe _ (by simp)).trans rfl)

theorem holdsAssoc_taken (h0 : x.assoc ≠ 0) :
    holdsAssoc (unsealTaken l s) x.assoc = ((s.assoc x.assoc).state != .free) := if_neg h0

/-- The checks of R234 read the security unit only. -/
theorem unsealCheck_congr {t : State} (h : t.sec = s.sec) : unsealCheck x t = unsealCheck x s := by
  have hassoc : t.assoc x.assoc = s.assoc x.assoc := assoc_congr (congrArg Security.assocs h) _
  have hreplay (k : Key) (pn : Nat) : replayCheck k x.assoc pn t = replayCheck k x.assoc pn s := by
    unfold replayCheck
    rw [h]
  simp only [unsealCheck, hassoc, hreplay]

theorem unsealPacket_unknown (hq : s.down.ready = x :: l) (h0 : x.assoc ≠ 0) (hf : (s.assoc x.assoc).state = .free) :
    nextWith .unsealPacket s fun t =>
      t.carrier x.carrier = { s.carrier x.carrier with nUnknown := (s.carrier x.carrier).nUnknown + 1 } ∧
      otherCarriers x.carrier s t ∧ t.cls = s.cls ∧ t.sec = s.sec := by
  have hun : unsealed x (unsealTaken l s) = unknownAssoc x.carrier (unsealTaken l s) := by
    unfold unsealed
    rw [if_pos (by rw [holdsAssoc_taken h0]; simp [hf])]
  refine nextWith_of ((exec_unsealPacket hq).trans (congrArg _ hun)) ⟨?_, fun m hm => ?_, unknownAssoc_cls _ _, unknownAssoc_sec _ _⟩
  · unfold unknownAssoc
    rw [raise_carrier, modCarrier_self]
    rfl
  · unfold unknownAssoc
    rw [raise_carrier, modCarrier_ne _ _ _ _ hm]
    rfl

/-- A key passes the checks only for an ACTIVE association. -/
theorem active_of_unsealCheck {k : Key} (hc : unsealCheck x s = .inr k) : (s.assoc x.assoc).state = .active := by
  unfold unsealCheck at hc
  dsimp only at hc
  by_contra ha
  simp only [ha, if_false] at hc
  (repeat' split at hc) <;> simp at hc

/-- Unsealing starts: the plaintext enters the pipeline with its tag pending (R236). -/
theorem startUnseal_line (x : Sealed) (k : Key) (s : State) :
    (∃ p : Pkt, (startUnseal x k s).cls.line = s.cls.line ++ [p] ∧ p.md.assoc = x.assoc ∧ p.md.auth = .pending ∧
      p.md.port = 32 + x.carrier) ∧
    (startUnseal x k s).sec.unsealing.length = s.sec.unsealing.length + 1 ∧
    (startUnseal x k s).sec.assocs = s.sec.assocs := by
  unfold startUnseal
  dsimp only
  generalize hu : pmcCount _ _ = u
  have hcls : u.cls = s.cls := by rw [← hu, pmcCount_cls]; rfl
  have hsec : u.sec = s.sec := by rw [← hu, pmcCount_sec]; rfl
  rw [hcls, hsec]
  exact ⟨⟨_, rfl, rfl, rfl, rfl⟩, by simp, rfl⟩

theorem unsealPacket_starts {k : Key} (hq : s.down.ready = x :: l) (h0 : x.assoc ≠ 0) (hc : unsealCheck x s = .inr k) :
    nextWith .unsealPacket s fun t =>
      (∃ p : Pkt, t.cls.line = s.cls.line ++ [p] ∧ p.md.assoc = x.assoc ∧ p.md.auth = .pending ∧ p.md.port = 32 + x.carrier) ∧
      t.sec.unsealing.length = s.sec.unsealing.length + 1 ∧ t.sec.assocs = s.sec.assocs := by
  have hun : unsealed x (unsealTaken l s) = startUnseal x k (unsealTaken l s) := by
    have hact : (s.assoc x.assoc).state = .active := active_of_unsealCheck hc
    unfold unsealed
    rw [if_neg (by rw [holdsAssoc_taken h0]; simp [hact]), if_neg h0, unsealCheck_congr (s := s) (t := unsealTaken l s) rfl, hc]
  exact nextWith_of ((exec_unsealPacket hq).trans (congrArg _ hun)) (startUnseal_line x k (unsealTaken l s))

theorem unsealPacket_discards {r : Nat} (hq : s.down.ready = x :: l) (h0 : x.assoc ≠ 0) (hc : unsealCheck x s = .inl r)
    (hf : (s.assoc x.assoc).state ≠ .free) : nextWith .unsealPacket s fun t =>
      Tbl.get 0 (t.assoc x.assoc).discards r = Tbl.get 0 (s.assoc x.assoc).discards r + 1 ∧ otherAssocs x.assoc s t ∧
      t.cls = s.cls ∧ t.sec.unsealing = s.sec.unsealing := by
  have hun : unsealed x (unsealTaken l s) = raiseOnce 0xE8 (modAssoc x.assoc
      (fun a => { a with discards := Tbl.modify 0 a.discards r (· + 1) }) (unsealTaken l s)) := by
    unfold unsealed
    rw [if_neg (by rw [holdsAssoc_taken h0]; simp [hf]), if_neg h0, unsealCheck_congr (s := s) (t := unsealTaken l s) rfl, hc]
    dsimp only
    unfold unsealDiscard modHeld
    rw [if_neg (show ((unsealTaken l s).assoc x.assoc).state ≠ .free from hf)]
  refine nextWith_of ((exec_unsealPacket hq).trans (congrArg _ hun)) ⟨?_, fun m hm => ?_, by simp [unsealTaken], ?_⟩
  · rw [raiseOnce_assoc, modAssoc_self]
    dsimp only
    rw [Tbl.get_modify_self]
    rfl
  · rw [raiseOnce_assoc, modAssoc_ne _ _ _ _ hm]
    rfl
  · rw [raiseOnce_sec]
    rfl

end Unseal

/-! ### O41, the tag result (R235 to R238) -/

section Tag
variable {s : State} {id : Nat} {u : Unsealing}

/-- The state in which a tag result takes effect on its association. -/
def tagTaken (id : Nat) (s : State) : State :=
  { s with sec := { s.sec with unsealing := s.sec.unsealing.filter fun u => u.id != id } }

/-- The packets that wait for a tag result leave the security unit and the queues as they are. -/
theorem tagResult_next {ok : Bool} {v : State} (hu : s.sec.unsealing.find? (fun u => u.id == id) = some u)
    (hv : v = if ok then tagPassed u (tagTaken id s) else tagFailed u (tagTaken id s)) :
    ∃ t, exec (.tagResult id ok) s = .next t ∧ t.sec = v.sec ∧ t.q = v.q := by
  have hexec : exec (.tagResult id ok) s = .next (releaseDma
      (let w := tagEverywhere id (if ok then .pass else .fail) (traceStage (traceOf id v) 3 v)
       forEach (Tbl.keys w.ports) headChecks w)) := by
    change execTagResult id ok s = _
    unfold execTagResult
    rw [hu, hv]
    rfl
  refine ⟨_, hexec, ?_, ?_⟩
  · rw [releaseDma_sec]
    exact (forEach_keeps (F := fun s : State => s.sec) _ _ headChecks_sec).trans (by simp)
  · rw [releaseDma_q]
    exact (forEach_keeps (F := fun s : State => s.q) _ _ headChecks_q).trans (by simp)

theorem tagTaken_unsealing : ∀ v ∈ (tagTaken id s).sec.unsealing, v.id ≠ id := fun v hv => by
  simpa using (List.mem_filter.mp hv).2

/-- A number whose tag passes is marked, and its key comes into use (R225, R227, R235). -/
theorem tagPassed_held (hf : (s.assoc u.assoc).state ≠ .free) :
    ∃ o, tagPassed u s = modAssoc u.assoc (fun a => { a with
      rx := a.rx.map fun k => if k.gen = u.gen then k.mark u.pn else k, peerNum := u.src, oldUntil := o }) s := by
  unfold tagPassed modHeld
  rw [if_neg hf]
  exact ⟨_, rfl⟩

theorem tagResult_passes (hu : s.sec.unsealing.find? (fun u => u.id == id) = some u)
    (hf : (s.assoc u.assoc).state ≠ .free) : nextWith (.tagResult id true) s fun t =>
      (∀ v ∈ t.sec.unsealing, v.id ≠ id) ∧ (t.assoc u.assoc).peerNum = u.src ∧
      (t.assoc u.assoc).rx = (s.assoc u.assoc).rx.map (fun k => if k.gen = u.gen then k.mark u.pn else k) ∧
      (t.assoc u.assoc).failCount = (s.assoc u.assoc).failCount ∧ otherAssocs u.assoc s t ∧ t.q = s.q := by
  obtain ⟨o, ho⟩ := tagPassed_held (s := tagTaken id s) hf
  obtain ⟨t, hexec, hsec, hq⟩ := tagResult_next (ok := true) hu ho.symm
  have hassoc (m : Nat) := assoc_congr (congrArg Security.assocs hsec) m
  refine nextWith_of hexec ⟨?_, ?_, ?_, ?_, fun m hm => ?_, hq⟩
  · rw [hsec]
    exact tagTaken_unsealing
  · rw [hassoc, modAssoc_self]
  · rw [hassoc, modAssoc_self]
    rfl
  · rw [hassoc, modAssoc_self]
    rfl
  · rw [hassoc, modAssoc_ne _ _ _ _ hm]
    rfl

/-- A tag that fails is counted, and the association suspended at its threshold (R238). -/
theorem tagFailed_sec (hf : (s.assoc u.assoc).state ≠ .free) : (tagFailed u s).sec = (setAssoc u.assoc { s.assoc u.assoc with
      failCount := (s.assoc u.assoc).failCount + 1
      suspended := (s.assoc u.assoc).suspended ||
        decide ((s.assoc u.assoc).threshold ≤ (s.assoc u.assoc).failCount + 1) } s).sec := by
  have hset (a : Assoc) : (setAssoc u.assoc a (raiseOnce 0xE3 s)).sec = (setAssoc u.assoc a s).sec :=
    congrArg (fun v : Security => { v with assocs := Tbl.set {} v.assocs u.assoc a }) (raiseOnce_sec 0xE3 s)
  unfold tagFailed
  dsimp only
  rw [if_neg hf]
  split
  · rw [raise_sec, hset]
  · rw [hset]

theorem tagResult_fails (hu : s.sec.unsealing.find? (fun u => u.id == id) = some u)
    (hf : (s.assoc u.assoc).state ≠ .free) : nextWith (.tagResult id false) s fun t =>
      (∀ v ∈ t.sec.unsealing, v.id ≠ id) ∧ (t.assoc u.assoc).failCount = (s.assoc u.assoc).failCount + 1 ∧
      (t.assoc u.assoc).suspended = ((s.assoc u.assoc).suspended ||
        decide ((s.assoc u.assoc).threshold ≤ (s.assoc u.assoc).failCount + 1)) ∧
      (t.assoc u.assoc).rx = (s.assoc u.assoc).rx ∧ otherAssocs u.assoc s t ∧ t.q = s.q := by
  obtain ⟨t, hexec, hsec, hq⟩ := tagResult_next (ok := false) hu rfl
  have hsec' := hsec.trans (tagFailed_sec (s := tagTaken id s) hf)
  have hassoc (m : Nat) := assoc_congr (congrArg Security.assocs hsec') m
  refine nextWith_of hexec ⟨?_, ?_, ?_, ?_, fun m hm => ?_, hq.trans ?_⟩
  · rw [hsec']
    exact tagTaken_unsealing
  · rw [hassoc, setAssoc_self]
    rfl
  · rw [hassoc, setAssoc_self]
    rfl
  · rw [hassoc, setAssoc_self]
    rfl
  · rw [hassoc, setAssoc_ne _ _ _ _ hm]
    rfl
  · exact q_of_rest (m := { clk := true, sec := true, evc := true, out := true }) (rest_tagFailed u (tagTaken id s) (by simp))

end Tag

/-- Settles O41: sealing, unsealing and the tag result, one lemma for each of their branches. -/
theorem sealingAndUnsealing : Obligations.SealingAndUnsealing := fun _ =>
  ⟨fun _ _ => sealPacket_waits, fun _ _ _ => sealPacket_dropped, fun _ _ _ _ => sealPacket_seals,
    fun _ _ => unsealPacket_frame, fun _ _ => unsealPacket_unknown, fun _ _ _ => unsealPacket_starts,
    fun _ _ _ => unsealPacket_discards, fun _ _ => tagResult_passes, fun _ _ => tagResult_fails⟩

end Sys2Proof.Proofs.Sealing
end

section
/-!
Key agreement (chapter 10): O42.
-/
namespace Sys2Proof.Proofs.Agreements
open Sys2Proof Sys2Proof.Machine Sys2Proof.Proofs.Frames Sys2Proof.Proofs.Rules Sys2Proof.Proofs.Associations

set_option Elab.async false

@[simp] theorem agreementFail_cmd (a0 : SecCause) (s : State) : (agreementFail a0 s).cmd = s.cmd :=
  cmd_of_rest (m := { sec := true, evc := true, out := true }) (by simp)
@[simp] theorem agreementFail_groups (a0 : SecCause) (s : State) : (agreementFail a0 s).groups = s.groups :=
  groups_of_rest (m := { sec := true, evc := true, out := true }) (by simp)

/-! ### What a message does to the associations -/

@[simp] theorem armKey_self (i : Nat) (g : Agreement) (s : State) : (armKey i g s).assoc i = { s.assoc i with
    rx := armRx g.gen g.keyRx (s.assoc i).rx
    oldUntil := if (s.assoc i).rx.length ≤ 1 then (s.assoc i).oldUntil else none } := modAssoc_self _ _ _

theorem armKey_ne {i m : Nat} (h : m ≠ i) (g : Agreement) (s : State) : (armKey i g s).assoc m = s.assoc m :=
  modAssoc_ne _ _ _ _ h

/-- The association that answers a HELLO (R222 step 2, R224). -/
theorem answerHello_self (i : Nat) (m : HelloMsg) (s : State) :
    (∃ g, ((answerHello i m s).assoc i).agree = some g ∧ g.initiator = false ∧ g.gen = m.gen ∧
      g.peerNonce = some m.nonce) ∧
    ((answerHello i m s).assoc i).peerIdx = m.idx ∧ ((answerHello i m s).assoc i).peerNum = m.senderNum ∧
    ((answerHello i m s).assoc i).state = (if (s.assoc i).state = .active then .active else .agreeing) := by
  unfold answerHello
  dsimp only
  rw [sendMade_assoc, armKey_self, setAssoc_self]
  exact ⟨⟨_, rfl, rfl, rfl, rfl⟩, rfl, rfl, rfl⟩

theorem answerHello_others (i : Nat) (m : HelloMsg) (s : State) : otherAssocs i s (answerHello i m s) := by
  intro k hk
  unfold answerHello
  dsimp only
  rw [sendMade_assoc, armKey_ne hk, setAssoc_ne _ _ _ _ hk]
  rfl

/-- A first agreement succeeds (R222 steps 4 and 5). -/
theorem finishAgreement_first {i : Nat} {g : Agreement} {s : State} (hg : (s.assoc i).agree = some g)
    (hr : g.rekey = false) :
    (finishAgreement i s).assoc i = { s.assoc i with
      agree := none, lastGen := max (s.assoc i).lastGen g.gen, state := .active
      tx := some { name := g.keyTx, gen := g.gen }, pn := 1, conf := g.keyConf } ∧
    otherAssocs i s (finishAgreement i s) ∧ (finishAgreement i s).groups = s.groups := by
  unfold finishAgreement
  dsimp only
  rw [hg]
  dsimp only
  rw [if_pos (by simp [hr])]
  refine ⟨?_, fun m hm => ?_, ?_⟩
  · rw [answerAgreement_assoc, raise_assoc, modAssoc_self, setAssoc_self]
  · rw [answerAgreement_assoc, raise_assoc, modAssoc_ne _ _ _ _ hm, setAssoc_ne _ _ _ _ hm]
  · rw [answerAgreement_groups, raise_groups]
    rfl

/-! ### The messages (Table 10-5) -/

section Messages
variable {s : State}

theorem hello_taken {m : HelloMsg} {i : Nat} (hs : m.sigsOk = true) (hi : m.itemsOk = true) (hd : m.responder = s.sec.digest)
    (hf : helloFor m s = .take i) (hrng : s.sec.rngOk = true) : nextWith (.hello m) s fun t =>
      (∃ g, (t.assoc i).agree = some g ∧ g.initiator = false ∧ g.gen = m.gen ∧ g.peerNonce = some m.nonce) ∧
      (t.assoc i).peerIdx = m.idx ∧ (t.assoc i).peerNum = m.senderNum ∧
      (t.assoc i).state = (if (s.assoc i).state = .active then .active else .agreeing) ∧ otherAssocs i s t ∧
      t = { s with clk := t.clk, q := t.q, sec := t.sec, evc := t.evc, out := t.out } := by
  have hexec : exec (.hello m) s = .next (answerHello i m (takeMsg s)) := by
    change execHello m s = _
    unfold execHello
    dsimp only
    rw [if_neg (by simp [hs, hi, hd, takeMsg, modSec]), show helloFor m (takeMsg s) = .take i from hf]
    dsimp only
    rw [if_pos (show (takeMsg s).sec.rngOk = true from hrng)]
  obtain ⟨hg, hidx, hnum, hstate⟩ := answerHello_self i m (takeMsg s)
  exact nextWith_of hexec ⟨hg, hidx, hnum, hstate, answerHello_others i m (takeMsg s),
    eq_merged (m := { clk := true, q := true, sec := true, evc := true, out := true }) (by simp)⟩

theorem hello_unverified {m : HelloMsg} (hs : m.sigsOk = false) : nextWith (.hello m) s fun t =>
    t = { s with sec := { s.sec with hsIn := s.sec.hsIn.drop 1, nBadMsg := s.sec.nBadMsg + 1 } } := by
  have hexec : exec (.hello m) s = .next (badMsg (takeMsg s)) := by
    change execHello m s = _
    unfold execHello
    dsimp only
    rw [if_pos (by simp [hs])]
  exact nextWith_of hexec rfl

theorem reply_taken {m : ReplyMsg} {g : Agreement} (hg : (s.assoc m.idx).agree = some g) (hini : g.initiator = true)
    (hgen : g.gen = m.gen) (hrep : g.replied = false) (hi : m.itemsOk = true) (hs : m.sigsOk = true)
    (hp : m.sender = (s.assoc m.idx).peer) : nextWith (.reply m) s fun t =>
      (t.assoc m.idx).agree = some { g with replied := true } ∧ (t.assoc m.idx).peerIdx = m.peerIdx ∧
      (t.assoc m.idx).rx = armRx g.gen g.keyRx (s.assoc m.idx).rx ∧ (t.assoc m.idx).state = (s.assoc m.idx).state ∧
      otherAssocs m.idx s t ∧ t.fuses = s.fuses ∧ t.cmd = s.cmd := by
  have hexec : exec (.reply m) s = .next (sendMade g.seed 2 m.idx g.gen (s.assoc m.idx).peerNum
      (armKey m.idx g (setAssoc m.idx
        { s.assoc m.idx with agree := some { g with replied := true }, peerIdx := m.peerIdx } (takeMsg s)))) := by
    change execReply m s = _
    unfold execReply
    dsimp only
    rw [takeMsg_assoc, hg]
    dsimp only
    rw [if_neg (by simp [hini, hgen, hi]), if_neg (by simp [hs, hp]), if_neg (by simp [hrep])]
  refine nextWith_of hexec ?_
  rw [sendMade_assoc, armKey_self, setAssoc_self]
  refine ⟨rfl, rfl, rfl, rfl, fun k hk => ?_, ?_, ?_⟩
  · rw [sendMade_assoc, armKey_ne hk, setAssoc_ne _ _ _ _ hk, takeMsg_assoc]
  · rw [sendMade_fuses]
    rfl
  · rw [sendMade_cmd]
    rfl

theorem confirmI_taken {m : ConfirmMsg} {g : Agreement} (hg : (s.assoc m.idx).agree = some g) (hini : g.initiator = false)
    (hgen : g.gen = m.gen) (hr : g.rekey = false) (hh : m.hmacOk = true) : nextWith (.confirmI m) s fun t =>
      (t.assoc m.idx).state = .active ∧ (t.assoc m.idx).agree = none ∧ (t.assoc m.idx).pn = 1 ∧
      (t.assoc m.idx).tx = some { name := g.keyTx, gen := g.gen } ∧ otherAssocs m.idx s t ∧ t.groups = s.groups := by
  have hexec : exec (.confirmI m) s = .next (sendMade g.seed 3 m.idx g.gen (s.assoc m.idx).peerNum
      (finishAgreement m.idx (takeMsg s))) := by
    change execConfirmI m s = _
    unfold execConfirmI
    dsimp only
    rw [takeMsg_assoc, hg]
    dsimp only
    rw [if_neg (by simp [hini, hgen, hh])]
  obtain ⟨hself, hothers, hgroups⟩ := finishAgreement_first (s := takeMsg s) hg hr
  refine nextWith_of hexec ?_
  rw [sendMade_assoc, hself, sendMade_groups]
  exact ⟨rfl, rfl, rfl, rfl, fun k hk => (sendMade_assoc _ _ _ _ _ _ k).trans (hothers k hk), hgroups⟩

theorem confirmR_taken {m : ConfirmMsg} {g : Agreement} (hg : (s.assoc m.idx).agree = some g) (hini : g.initiator = true)
    (hrep : g.replied = true) (hgen : g.gen = m.gen) (hr : g.rekey = false) (hh : m.hmacOk = true) :
    nextWith (.confirmR m) s fun t =>
      (t.assoc m.idx).state = .active ∧ (t.assoc m.idx).agree = none ∧ (t.assoc m.idx).pn = 1 ∧
      (t.assoc m.idx).tx = some { name := g.keyTx, gen := g.gen } ∧ otherAssocs m.idx s t ∧ t.groups = s.groups := by
  have hexec : exec (.confirmR m) s = .next (finishAgreement m.idx (takeMsg s)) := by
    change execConfirmR m s = _
    unfold execConfirmR
    dsimp only
    rw [takeMsg_assoc, hg]
    dsimp only
    rw [if_neg (by simp [hini, hrep, hgen]), if_neg (by simp [hh])]
  obtain ⟨hself, hothers, hgroups⟩ := finishAgreement_first (s := takeMsg s) hg hr
  refine nextWith_of hexec ?_
  rw [hself]
  exact ⟨rfl, rfl, rfl, rfl, hothers, hgroups⟩

theorem close_active {m : ConfirmMsg} (ha : (s.assoc m.idx).state = .active) (hc : (s.assoc m.idx).closed = false)
    (hh : m.hmacOk = true) : nextWith (.close m) s fun t =>
      t.assoc m.idx = { s.assoc m.idx with closed := true } ∧ otherAssocs m.idx s t ∧
      t = { s with sec := t.sec, evc := t.evc, out := t.out } := by
  have hexec : exec (.close m) s = .next (assocDown .peerClosed
      (modAssoc m.idx (fun a => { a with closed := true }) (takeMsg s))) := by
    change execClose m s = _
    unfold execClose
    dsimp only
    rw [if_neg (by simp [hh]), takeMsg_assoc, ha]
    dsimp only
    rw [if_neg (by simp [hc])]
  refine nextWith_of hexec ⟨?_, fun k hk => ?_, eq_merged (m := { sec := true, evc := true, out := true }) (by simp)⟩
  · rw [assocDown_assoc, modAssoc_self, takeMsg_assoc]
  · rw [assocDown_assoc, modAssoc_ne _ _ _ _ hk, takeMsg_assoc]

theorem close_unverified {m : ConfirmMsg} (hh : m.hmacOk = false) : nextWith (.close m) s fun t =>
    t = { s with sec := { s.sec with hsIn := s.sec.hsIn.drop 1, nBadMsg := s.sec.nBadMsg + 1 } } := by
  have hexec : exec (.close m) s = .next (badMsg (takeMsg s)) := by
    change execClose m s = _
    unfold execClose
    dsimp only
    rw [if_pos (by simp [hh])]
  exact nextWith_of hexec rfl

end Messages

/-! ### The timers (R221, R222, R227) -/

/-- A responder's first agreement fails: the index is ARMED again. -/
theorem failAgreement_responder {i : Nat} {g : Agreement} {st : Status} {b : Bool} {s : State}
    (hg : (s.assoc i).agree = some g) (hr : g.rekey = false) (hi : g.initiator = false) (hh : g.hdr = none) :
    failAgreement i st b s =
      setAssoc i { s.assoc i with agree := none, rx := [], state := .armed, peerIdx := 0 } (agreementFail .failed s) := by
  unfold failAgreement
  dsimp only
  rw [hg]
  dsimp only
  rw [if_neg (by simp [hr]), if_neg (by simp [hi, hh]), answerAgreement, hh]

/-- An initiator's first agreement fails: the index is FREE. -/
theorem failAgreement_initiator {i : Nat} {g : Agreement} {st : Status} {b : Bool} {s : State}
    (hg : (s.assoc i).agree = some g) (hr : g.rekey = false) (hi : g.initiator = true) :
    (failAgreement i st b s).assoc i = {} := by
  unfold failAgreement
  dsimp only
  rw [hg]
  dsimp only
  rw [if_neg (by simp [hr]), if_pos (by simp [hi]), answerAgreement_assoc]
  split
  · rw [sendMade_assoc, setAssoc_self]
  · rw [setAssoc_self]

/-- A rekey that fails leaves the present keys (R226). -/
theorem failAgreement_rekey {i : Nat} {g : Agreement} {st : Status} {b : Bool} {s : State}
    (hg : (s.assoc i).agree = some g) (hr : g.rekey = true) :
    ∃ l, (failAgreement i st b s).assoc i = { s.assoc i with agree := none, rx := l } := by
  unfold failAgreement
  dsimp only
  rw [hg]
  dsimp only
  rw [if_pos hr, answerAgreement_assoc, setAssoc_self]
  exact ⟨_, rfl⟩

section Timers
variable {s : State} {i : Nat} {g : Agreement}

theorem helloRetry_sends (hg : (s.assoc i).agree = some g) (hini : g.initiator = true) (hrep : g.replied = false)
    (hsent : g.sent < 4) (hlast : g.lastSend + ms 400 ≤ s.clk.now) : nextWith (.helloRetry i) s fun t =>
      t.assoc i = { s.assoc i with agree := some { g with sent := g.sent + 1, lastSend := s.clk.now } } ∧
      otherAssocs i s t ∧ t = { s with clk := t.clk, q := t.q, sec := t.sec, evc := t.evc, out := t.out } := by
  have hexec : exec (.helloRetry i) s = .next (sendMade g.seed 0 i g.gen (s.assoc i).peerNum
      (modAssoc i (fun a => { a with agree := some { g with sent := g.sent + 1, lastSend := s.clk.now } }) s)) := by
    change execHelloRetry i s = _
    unfold execHelloRetry
    rw [hg]
    dsimp only
    rw [if_pos (by simp [hini, hrep, hsent, hlast])]
  refine nextWith_of hexec ⟨?_, fun k hk => ?_,
    eq_merged (m := { clk := true, q := true, sec := true, evc := true, out := true }) (by simp)⟩
  · rw [sendMade_assoc, modAssoc_self]
  · rw [sendMade_assoc, modAssoc_ne _ _ _ _ hk]

theorem confirmTimeout_arms (hg : (s.assoc i).agree = some g) (hini : g.initiator = false) (hh : g.hdr = none)
    (hr : g.rekey = false) (hlast : g.lastSend + ms 1500 ≤ s.clk.now) : nextWith (.confirmTimeout i) s fun t =>
      t.assoc i = { s.assoc i with agree := none, rx := [], state := .armed, peerIdx := 0 } ∧ otherAssocs i s t ∧
      t.cmd = s.cmd ∧ t.groups = s.groups := by
  have hexec : exec (.confirmTimeout i) s = .next (failAgreement i .peerTimeout false s) := by
    change execConfirmTimeout i s = _
    unfold execConfirmTimeout
    rw [hg]
    dsimp only
    rw [if_pos (by simp [hini, hlast])]
  refine nextWith_of (hexec.trans (congrArg _ (failAgreement_responder hg hr hini hh))) ⟨setAssoc_self _ _ _, fun k hk => ?_,
    agreementFail_cmd _ _, agreementFail_groups _ _⟩
  rw [setAssoc_ne _ _ _ _ hk, agreementFail_assoc]

/-- R222 step 5: 2 s after the command an initiator gives up. -/
theorem exec_peerTimeout (hg : (s.assoc i).agree = some g) (hini : g.initiator = true)
    (hstart : g.start + ms 2000 ≤ s.clk.now) :
    exec (.peerTimeout i) s = .next (failAgreement i .peerTimeout true s) := by
  change execPeerTimeout i s = _
  unfold execPeerTimeout
  rw [hg]
  dsimp only
  rw [if_pos (by simp [hini, hstart])]

theorem peerTimeout_first (hg : (s.assoc i).agree = some g) (hini : g.initiator = true) (hr : g.rekey = false)
    (hstart : g.start + ms 2000 ≤ s.clk.now) : nextWith (.peerTimeout i) s fun t =>
      t.assoc i = {} ∧ otherAssocs i s t ∧ t.groups = s.groups :=
  nextWith_of (exec_peerTimeout hg hini hstart)
    ⟨failAgreement_initiator hg hr hini, failAgreement_others _ _ _ _, failAgreement_groups _ _ _ _⟩

theorem peerTimeout_rekey (hg : (s.assoc i).agree = some g) (hini : g.initiator = true) (hr : g.rekey = true)
    (hstart : g.start + ms 2000 ≤ s.clk.now) : nextWith (.peerTimeout i) s fun t =>
      (t.assoc i).agree = none ∧ (t.assoc i).state = (s.assoc i).state ∧ (t.assoc i).tx = (s.assoc i).tx ∧
      (t.assoc i).pn = (s.assoc i).pn ∧ otherAssocs i s t ∧ t.groups = s.groups := by
  obtain ⟨l, hl⟩ := failAgreement_rekey (st := .peerTimeout) (b := true) hg hr
  refine nextWith_of (exec_peerTimeout hg hini hstart) ?_
  rw [hl]
  exact ⟨rfl, rfl, rfl, rfl, failAgreement_others _ _ _ _, failAgreement_groups _ _ _ _⟩

theorem armExpired_frees (ha : (s.assoc i).state = .armed) (hu : (s.assoc i).armUntil ≤ s.clk.now) :
    nextWith (.armExpired i) s fun t =>
      t.assoc i = {} ∧ otherAssocs i s t ∧ t = { s with sec := t.sec, evc := t.evc, out := t.out } := by
  have hexec : exec (.armExpired i) s = .next (agreementFail .armExpired (setAssoc i {} s)) := by
    change execArmExpired i s = _
    unfold execArmExpired
    dsimp only
    rw [if_pos ⟨ha, hu⟩]
  refine nextWith_of hexec ⟨?_, fun k hk => ?_, eq_merged (m := { sec := true, evc := true, out := true }) (by simp)⟩
  · rw [agreementFail_assoc, setAssoc_self]
  · rw [agreementFail_assoc, setAssoc_ne _ _ _ _ hk]

theorem oldKeyHold_ends {t0 : Instant} (ho : (s.assoc i).oldUntil = some t0) (ht : t0 ≤ s.clk.now) :
    nextWith (.oldKeyHold i) s fun t =>
      t.assoc i = { s.assoc i with
        rx := (s.assoc i).rx.filter (fun k => k.gen == (s.assoc i).rx.foldl (fun g k => max g k.gen) 0), oldUntil := none } ∧
      otherAssocs i s t ∧ t = { s with sec := { s.sec with assocs := t.sec.assocs } } := by
  have hexec : exec (.oldKeyHold i) s = .next (setAssoc i { s.assoc i with
      rx := (s.assoc i).rx.filter (fun k => k.gen == (s.assoc i).rx.foldl (fun g k => max g k.gen) 0)
      oldUntil := none } s) := by
    change execOldKeyHold i s = _
    unfold execOldKeyHold
    dsimp only
    rw [ho]
    dsimp only
    rw [if_neg (not_lt.mpr ht)]
  exact nextWith_of hexec ⟨setAssoc_self _ _ _, fun k hk => setAssoc_ne _ _ _ _ hk, rfl⟩

theorem oldKeyHold_waits {t0 : Instant} (ho : (s.assoc i).oldUntil = some t0) (ht : s.clk.now < t0) :
    exec (.oldKeyHold i) s = .next s := by
  change execOldKeyHold i s = _
  unfold execOldKeyHold
  dsimp only
  rw [ho]
  dsimp only
  rw [if_pos ht]

end Timers

/-- Settles O42: the messages of Table 10-5 and the timers, one lemma each. -/
theorem agreements : Obligations.Agreements :=
  ⟨fun _ => ⟨fun _ _ => hello_taken, fun _ => hello_unverified, fun _ _ => reply_taken, fun _ _ => confirmI_taken,
      fun _ _ => confirmR_taken, fun _ => close_active, fun _ => close_unverified⟩,
    fun _ _ => ⟨fun _ => helloRetry_sends, fun _ => confirmTimeout_arms, fun _ => peerTimeout_first,
      fun _ => peerTimeout_rekey, armExpired_frees, fun _ => oldKeyHold_ends, fun _ => oldKeyHold_waits⟩⟩

end Sys2Proof.Proofs.Agreements
end

section
/-!
The life of a commit group (chapter 11): O44.
-/
namespace Sys2Proof.Proofs.CommitGroups
open Sys2Proof Sys2Proof.Machine Sys2Proof.Proofs.Frames Sys2Proof.Proofs.Rules Sys2Proof.Proofs.WriteIn
open Sys2Proof.Proofs.CommitApply Sys2Proof.Proofs.Associations

set_option Elab.async false

@[simp] theorem startWriteIn_reg (s : State) : (startWriteIn s).reg = s.reg :=
  reg_of_rest (m := { cls := true, evc := true, out := true }) (by simp)
@[simp] theorem startWriteIn_q (s : State) : (startWriteIn s).q = s.q :=
  q_of_rest (m := { cls := true, evc := true, out := true }) (by simp)
@[simp] theorem switchGeneration_reg (s : State) : (switchGeneration s).reg = s.reg :=
  reg_of_rest (m := { cls := true, evc := true, out := true }) (by simp)
@[simp] theorem putCarrierGate_reg (a0 : Nat) (a1 : Instant) (a2 : GateParams) (s : State) : (putCarrierGate a0 a1 a2 s).reg = s.reg :=
  reg_of_rest (m := { carriers := true }) (by simp)
@[simp] theorem putTribPage_reg (a0 : Nat) (a1 : List TribEntry) (s : State) : (putTribPage a0 a1 s).reg = s.reg :=
  reg_of_rest (m := { trib := true }) (by simp)
@[simp] theorem swapPages_reg (a0 : Instant) (a1 : Nat) (s : State) : (swapPages a0 a1 s).reg = s.reg :=
  reg_of_rest (m := { trib := true, evc := true, out := true }) (by simp)
@[simp] theorem putQueueSet_reg (a0 : Nat) (a1 : QueueParams) (s : State) : (putQueueSet a0 a1 s).reg = s.reg :=
  reg_of_rest (m := { q := true }) (by simp)
@[simp] theorem putSchedNode_reg (a0 : Nat) (a1 : Option Nat) (a2 : Nat) (a3 : Option ShaperParams) (a4 : Bool) (s : State) : (putSchedNode a0 a1 a2 a3 a4 s).reg = s.reg :=
  reg_of_rest (m := { clk := true, q := true }) (by simp)
@[simp] theorem putEgress_reg (a0 : Nat) (a1 : List EgressQ) (a2 : Option ShaperParams) (s : State) : (putEgress a0 a1 a2 s).reg = s.reg :=
  reg_of_rest (m := { clk := true, q := true, ports := true }) (by simp)
@[simp] theorem putPolicer_reg (a0 : Nat) (a1 : PolicerParams) (a2 : Bool) (s : State) : (putPolicer a0 a1 a2 s).reg = s.reg :=
  reg_of_rest (m := { q := true }) (by simp)
@[simp] theorem putGateList_reg (p : Nat) (g : GateList) (c : Instant) (s : State) : (putGateList p g c s).reg = s.reg :=
  reg_of_rest (m := { q := true, ports := true }) (by simp)
@[simp] theorem commitRekey_reg (a0 : Nat) (s : State) : (commitRekey a0 s).reg = s.reg :=
  reg_of_rest (m := { sec := true, evc := true, out := true }) (by simp)
@[simp] theorem putClassification_reg (a0 : Bool × Bool) (a1 : Cmd) (s : State) : (putClassification a0 a1 s).reg = s.reg :=
  reg_of_rest (m := { cls := true, evc := true, out := true }) (by simp)

/-! ### Opening a group (R259) -/

section Open
variable {h : Hdr} {s : State} {n g : Nat}

/-- The groups that are OPEN or COMMITTED, which R259 limits to 32. -/
def liveGroups (s : State) : Nat :=
  (s.groups.filter fun (x : Nat × Group) => x.2.state == .open_ || x.2.state == .committed).length

/-- The lowest FREE number (R259). -/
def freeGroup (s : State) : Option Nat := ((List.range 256).drop 1).find? fun g => (s.grp g).state == .free

theorem groupNumbers : (List.range 256).drop 1 = List.range' 1 255 := by
  rw [List.range_eq_range', List.drop_range']

theorem freeGroup_some (h1 : 1 ≤ g) (h2 : g ≤ 255) (hf : (s.grp g).state = .free)
    (hl : ∀ k, 1 ≤ k → k < g → (s.grp k).state ≠ .free) : freeGroup s = some g := by
  unfold freeGroup
  rw [groupNumbers, List.find?_range'_eq_some]
  refine ⟨by simpa using hf, List.mem_range'_1.mpr ⟨h1, by omega⟩, fun k hk hkg => ?_⟩
  simpa using hl k hk hkg

theorem freeGroup_none (hl : ∀ k, 1 ≤ k → k ≤ 255 → (s.grp k).state ≠ .free) : freeGroup s = none := by
  unfold freeGroup
  rw [groupNumbers, List.find?_range'_eq_none]
  intro k hk hk2
  simpa using hl k hk (by omega)

theorem doCommitOpen_eq (h1 : 1 ≤ n) (h2 : n ≤ 3600) : doCommitOpen h n s = match freeGroup s with
    | none => fail .noGroup s
    | some g =>
      if 32 ≤ liveGroups s then fail .noGroup s
      else okData [g] (setGrp g { state := .open_, owner := h.transport, timeout := n, active := s.clk.now } s) := by
  unfold doCommitOpen
  rw [require_true (decide_eq_true ⟨h1, h2⟩)]
  rfl

theorem commitOpen_opens (hr : runsNow h (.commitOpen n) s) (h1 : 1 ≤ n) (h2 : n ≤ 3600) (hg1 : 1 ≤ g) (hg2 : g ≤ 255)
    (hf : (s.grp g).state = .free) (hl : ∀ k, 1 ≤ k → k < g → (s.grp k).state ≠ .free) (hlive : liveGroups s < 32) :
    ∃ t, exec (.commitOpen h n) s = .next (sendReply h 0x0A01 { data := [g] } t) ∧
      t.grp g = { state := .open_, owner := h.transport, timeout := n, active := s.clk.now } ∧ otherGroups g s t ∧
      t = { takeUp h s with groups := t.groups } := by
  have hbody : doCommitOpen h n (takeUp h s) = okData [g]
      (setGrp g { state := .open_, owner := h.transport, timeout := n, active := s.clk.now } (takeUp h s)) := by
    rw [doCommitOpen_eq h1 h2, freeGroup_some hg1 hg2 (by simpa using hf) (by simpa using hl)]
    dsimp only
    rw [if_neg (by simpa [liveGroups] using hlive), takeUp_clk]
  refine ⟨_, congrArg Host.Outcome.next (command_runs hr (by rw [begun_plain rfl]; exact hbody)), setGrp_self _ _ _,
    fun m hm => ?_, rfl⟩
  rw [setGrp_ne _ _ _ _ hm, takeUp_grp]

theorem commitOpen_none (hr : runsNow h (.commitOpen n) s) (h1 : 1 ≤ n) (h2 : n ≤ 3600)
    (hfull : 32 ≤ liveGroups s ∨ ∀ k, 1 ≤ k → k ≤ 255 → (s.grp k).state ≠ .free) :
    failsWith (.commitOpen h n) h 0x0A01 .noGroup s := by
  refine failsWith_plain hr rfl rfl rfl ((doCommitOpen_eq h1 h2).trans ?_)
  rcases hfull with hlive | hnone
  · split
    · rfl
    · exact if_pos (by simpa [liveGroups] using hlive)
  · rw [freeGroup_none (by simpa using hnone)]
    rfl

theorem commitOpen_range (hr : runsNow h (.commitOpen n) s) (hn : n = 0 ∨ 3600 < n) :
    failsWith (.commitOpen h n) h 0x0A01 .paramRange s := by
  have hbody : doCommitOpen h n (takeUp h s) = fail .paramRange (takeUp h s) := by
    unfold doCommitOpen
    exact require_false (decide_eq_false (by omega))
  exact failsWith_plain hr rfl rfl rfl hbody

end Open

/-! ### A group that aborts (R265, R266) -/

/-- Erasing staged keys changes associations alone. -/
theorem eraseStagedKeys_eq (l : List Staged) (s : State) :
    ∃ x, eraseStagedKeys l s = { s with sec := { s.sec with assocs := x } } := by
  induction l generalizing s with
  | nil => exact ⟨_, rfl⟩
  | cons c l ih =>
    rw [eraseStagedKeys_cons]
    split
    · next i hi =>
      obtain ⟨x, hx⟩ := ih (eraseStagedKey i s)
      exact ⟨x, hx⟩
    · exact ih s

/-- Group `g` once it has aborted for a reason. -/
def abortedGrp (g : Nat) (why : Status) (detail : Nat) (s : State) : Group := { s.grp g with
  state := .aborted, active := s.clk.now, locks := [], checked := false, abort := some (why, detail) }

/-- The state whose group has aborted, before its write-in ends and the event is raised. -/
def abortedState (g : Nat) (why : Status) (detail : Nat) (s : State) : State :=
  setGrp g (abortedGrp g why detail s) (eraseStagedKeys (s.grp g).changes s)

theorem releaseSlot_tablesOnly (s : State) : tablesOnly s (releaseSlot s) := .of_modCls rfl rfl

/-- The write-in of a group ends with it, its slot given back (R144). -/
theorem endWriteIn_tablesOnly (g : Nat) (s : State) : tablesOnly s (match s.cls.writeIn with
    | some w =>
      if w.group = g then
        let s := modCls (fun c => { c with writeIn := none }) s
        if w.started.isSome then releaseSlot s else s
      else s
    | none => s) := by
  split
  · split
    · dsimp only
      split
      · exact (tablesOnly.of_modCls rfl rfl).trans (releaseSlot_tablesOnly _)
      · exact .of_modCls rfl rfl
    · exact .refl s
  · exact .refl s

theorem abortGroup_tablesOnly (g : Nat) (why : Status) (detail : Nat) (s : State) :
    tablesOnly (abortedState g why detail s) (abortGroup g why detail s) := by
  have hclk : (eraseStagedKeys (s.grp g).changes s).clk = s.clk := by
    obtain ⟨x, hx⟩ := eraseStagedKeys_eq (s.grp g).changes s
    rw [hx]
  unfold abortGroup abortedState abortedGrp
  dsimp only
  rw [hclk]
  have hend := (endWriteIn_tablesOnly g (setGrp g (abortedGrp g why detail s)
    (eraseStagedKeys (s.grp g).changes s))).trans (.of_evOnly (raise_only 0xF3 _))
  split
  · exact hend.trans (.of_evOnly (raise_only _ _))
  · exact hend

/-- A group that aborts changes itself, the keys staged for its rekeys, and classification tables. -/
theorem abortAndGo_tablesOnly (g : Nat) (why : Status) (detail : Nat) (s : State) :
    tablesOnly (abortedState g why detail s) (abortAndGo g why detail s) :=
  (abortGroup_tablesOnly g why detail s).trans (startWriteIn_tablesOnly _)

section Abort
variable (g : Nat) (why : Status) (detail : Nat) (s : State)

theorem abortAndGo_self : (abortAndGo g why detail s).grp g = abortedGrp g why detail s := by
  rw [(abortAndGo_tablesOnly g why detail s).grp]
  exact setGrp_self _ _ _

theorem abortAndGo_others : otherGroups g s (abortAndGo g why detail s) := fun m hm => by
  obtain ⟨x, hx⟩ := eraseStagedKeys_eq (s.grp g).changes s
  rw [(abortAndGo_tablesOnly g why detail s).grp, abortedState, setGrp_ne _ _ _ _ hm, hx]
  rfl

theorem abortAndGo_curB : (abortAndGo g why detail s).cls.curB = s.cls.curB := by
  obtain ⟨x, hx⟩ := eraseStagedKeys_eq (s.grp g).changes s
  rw [(abortAndGo_tablesOnly g why detail s).2.1, abortedState, hx]
  rfl

theorem abortAndGo_gen : (abortAndGo g why detail s).cls.gen = s.cls.gen := by
  obtain ⟨x, hx⟩ := eraseStagedKeys_eq (s.grp g).changes s
  rw [(abortAndGo_tablesOnly g why detail s).2.2, abortedState, hx]
  rfl

/-- What a group that aborts leaves as it was. -/
theorem abortAndGo_frame : abortAndGo g why detail s = { s with
    groups := (abortAndGo g why detail s).groups
    sec := { s.sec with assocs := (abortAndGo g why detail s).sec.assocs }, cls := (abortAndGo g why detail s).cls
    evc := (abortAndGo g why detail s).evc, out := (abortAndGo g why detail s).out } := by
  obtain ⟨x, hx⟩ := eraseStagedKeys_eq (s.grp g).changes s
  have hframe := (abortAndGo_tablesOnly g why detail s).1
  generalize abortAndGo g why detail s = t at hframe ⊢
  rw [abortedState, hx] at hframe
  have hgroups : t.groups = Tbl.set {} s.groups g (abortedGrp g why detail s) := by rw [hframe]; rfl
  have hassocs : t.sec.assocs = x := by rw [hframe]; rfl
  rw [hgroups, hassocs]
  exact hframe

end Abort

section AbortCommand
variable {h : Hdr} {s : State} {g : Nat} {i : Instant}

theorem commitAbort_aborts (hr : runsNow h (.commitAbort g) s) (h1 : 1 ≤ g) (h2 : g ≤ 255)
    (hstate : (s.grp g).state = .open_ ∨ (s.grp g).state = .committed) (ho : (s.grp g).owner = h.transport)
    (hc : (s.grp g).checked = false) : completes (.commitAbort h g) h 0x0A03 s fun t =>
      t.grp g = { s.grp g with
        state := .aborted, active := s.clk.now, locks := [], checked := false, abort := some (.hostAbort, 0) } ∧
      otherGroups g s t ∧
      (∀ i, (∀ c ∈ (s.grp g).changes, c.cmd ≠ .secAssocRekey i) → t.assoc i = s.assoc i) ∧
      (∀ i, (∃ c ∈ (s.grp g).changes, c.cmd = .secAssocRekey i) → (t.assoc i).staged = none) ∧
      t.cls.curB = s.cls.curB ∧ t.cls.gen = s.cls.gen ∧
      t = { takeUp h s with
        groups := t.groups, sec := { s.sec with assocs := t.sec.assocs }, cls := t.cls, evc := t.evc, out := t.out } := by
  obtain ⟨x, hx⟩ := takeUp_cmd h s
  have hbody (u : State) (hu : u.grp g = s.grp g) : doCommitAbort h g u = okNone (abortAndGo g .hostAbort 0 u) := by
    unfold doCommitAbort
    rw [require_true (decide_eq_true ⟨h1, h2⟩)]
    dsimp only
    rw [if_neg ?_]
    rw [hu]
    rcases hstate with hstate | hstate <;> simp [hstate, ho, hc]
  have hself := abortAndGo_self g .hostAbort 0 { s with cmd := x }
  have hothers := abortAndGo_others g .hostAbort 0 { s with cmd := x }
  have hassoc := abortAndGo_assoc g .hostAbort 0 { s with cmd := x }
  have hcurB := abortAndGo_curB g .hostAbort 0 { s with cmd := x }
  have hgen := abortAndGo_gen g .hostAbort 0 { s with cmd := x }
  have hframe := abortAndGo_frame g .hostAbort 0 { s with cmd := x }
  have hrun := hbody { s with cmd := x } rfl
  generalize abortAndGo g .hostAbort 0 { s with cmd := x } = t at hself hothers hassoc hcurB hgen hframe hrun
  refine completes_taken (d := []) (t := t) hx hr rfl rfl rfl hrun ⟨hself, hothers, fun i hi => ?_, fun i hi => ?_, hcurB, hgen, ?_⟩
  · exact (hassoc i).trans (eraseStagedKeys_others hi _)
  · rw [hassoc]
    exact eraseStagedKeys_staged hi _
  · rw [hx]
    exact hframe

theorem commitAbort_refused (hr : runsNow h (.commitAbort g) s) (h1 : 1 ≤ g) (h2 : g ≤ 255)
    (hbad : ((s.grp g).state ≠ .open_ ∧ (s.grp g).state ≠ .committed) ∨ (s.grp g).owner ≠ h.transport ∨
      (s.grp g).checked = true) : failsWith (.commitAbort h g) h 0x0A03 .groupState s := by
  obtain ⟨x, hx⟩ := takeUp_cmd h s
  have hbody (u : State) (hu : u.grp g = s.grp g) : doCommitAbort h g u = fail .groupState u := by
    unfold doCommitAbort
    rw [require_true (decide_eq_true ⟨h1, h2⟩)]
    dsimp only
    rw [if_pos (by rw [hu]; exact hbad)]
  exact failsWith_taken hx hr rfl rfl rfl (hbody { s with cmd := x } rfl)

theorem commitApply_wrongSwap (hr : runsNow h (.commitApply g i) s) (h1 : 1 ≤ g) (h2 : g ≤ 255)
    (hs : (s.grp g).state = .open_) (ho : (s.grp g).owner = h.transport) (hi : instantStatus i s = .ok)
    (hfar : i ≤ switchTime s + sec 60) (hswap : wrongSwap (s.grp g).changes i = true) :
    failsWith (.commitApply h g i) h 0x0A02 .instantMisaligned s :=
  failsWith_of_applyStatus hr h1 h2 (by simp [applyStatus, hs, ho, hi, Nat.not_lt.mpr hfar, hswap]) (by decide)

end AbortCommand

/-! ### The check and the instant (R264, R265) -/

section Check
variable {s : State} {g : Nat}

theorem exec_check (he : (s.grp g).eff ≤ switchTime s + us 1) : exec (.commitReadinessCheck g) s = .next (checkGroup g s) :=
  congrArg Host.Outcome.next (if_pos he)

/-- The check is made once. -/
theorem checkGroup_checked (hc : (s.grp g).checked = true) : checkGroup g s = s := by
  unfold checkGroup
  exact if_pos (.inr hc)

theorem checkGroup_passes (hs : (s.grp g).state = .committed) (hc : (s.grp g).checked = false) (hr : readiness g s = none) :
    checkGroup g s = setGrp g { s.grp g with checked := true } s := by
  unfold checkGroup
  dsimp only
  rw [if_neg (by simp [hs, hc]), hr]

theorem checkGroup_aborts {why : Status} {k : Nat} (hs : (s.grp g).state = .committed) (hc : (s.grp g).checked = false)
    (hr : readiness g s = some (why, k)) : checkGroup g s = abortAndGo g why k s := by
  unfold checkGroup
  dsimp only
  rw [if_neg (by simp [hs, hc]), hr]

theorem readinessCheck_passes (hs : (s.grp g).state = .committed) (hc : (s.grp g).checked = false)
    (he : (s.grp g).eff ≤ switchTime s + us 1) (hr : readiness g s = none) :
    nextWith (.commitReadinessCheck g) s fun t =>
      t.grp g = { s.grp g with checked := true } ∧ otherGroups g s t ∧ t = { s with groups := t.groups } := by
  refine nextWith_of ((exec_check he).trans (congrArg _ (checkGroup_passes hs hc hr)))
    ⟨setGrp_self _ _ _, fun _ hm => setGrp_ne _ _ _ _ hm, rfl⟩

theorem readinessCheck_aborts {why : Status} {k : Nat} (hs : (s.grp g).state = .committed) (hc : (s.grp g).checked = false)
    (he : (s.grp g).eff ≤ switchTime s + us 1) (hr : readiness g s = some (why, k)) :
    nextWith (.commitReadinessCheck g) s fun t =>
      (t.grp g).state = .aborted ∧ (t.grp g).abort = some (why, k) ∧ (t.grp g).locks = [] ∧ otherGroups g s t ∧
      t.cls.curB = s.cls.curB ∧ t.cls.gen = s.cls.gen ∧
      t = { s with
        groups := t.groups, sec := { s.sec with assocs := t.sec.assocs }, cls := t.cls, evc := t.evc, out := t.out } := by
  refine nextWith_of ((exec_check he).trans (congrArg _ (checkGroup_aborts hs hc hr))) ?_
  rw [abortAndGo_self]
  exact ⟨rfl, rfl, rfl, abortAndGo_others _ _ _ _, abortAndGo_curB _ _ _ _, abortAndGo_gen _ _ _ _,
    abortAndGo_frame _ _ _ _⟩

theorem readinessCheck_waits (he : switchTime s + us 1 < (s.grp g).eff) : exec (.commitReadinessCheck g) s = .next s :=
  congrArg Host.Outcome.next (if_neg (not_le.mpr he))

theorem commitInstant_waits (h : (s.grp g).state ≠ .committed ∨ switchTime s < (s.grp g).eff) :
    exec (.commitInstant g) s = .next s :=
  congrArg Host.Outcome.next (if_pos h)

/-- At the effective instant of a group that has passed its check every block switches. -/
theorem exec_commitInstant (hs : (s.grp g).state = .committed) (hc : (s.grp g).checked = true)
    (he : (s.grp g).eff ≤ switchTime s) : exec (.commitInstant g) s = .next (commitGroup g s) := by
  change execCommitInstant g s = _
  unfold execCommitInstant
  dsimp only
  rw [if_neg (by simp [hs, he]), checkGroup_checked hc, if_pos hs]

/-- The last part of a commit: the group is DONE. -/
theorem commitGroup_done (g : Nat) (s : State) : ∃ u, tablesOnly
    (setGrp g { s.grp g with state := .done, active := u.clk.now, locks := [] } u) (commitGroup g s) := by
  unfold commitGroup
  exact ⟨_, (tablesOnly.of_evOnly (raise_only _ _)).trans (startWriteIn_tablesOnly _)⟩

/-! Of the registration a commit changes the discovery window at most (R14, R73). -/

/-- Between two states the registration differs in the discovery window at most. -/
def windowOnly (s t : State) : Prop := ∃ w, t.reg = { s.reg with window := w }

theorem windowOnly.of_eq {t : State} (h : t.reg = s.reg) : windowOnly s t := ⟨s.reg.window, h⟩

theorem windowOnly.trans {t u : State} (h : windowOnly s t) (k : windowOnly t u) : windowOnly s u := by
  obtain ⟨w, hw⟩ := h
  obtain ⟨v, hv⟩ := k
  exact ⟨v, by rw [hv, hw]⟩

theorem dropWindow_windowOnly (n : Nat) (s : State) : windowOnly s (dropWindow n s) := by
  unfold dropWindow
  split
  · split
    · exact ⟨none, rfl⟩
    · exact .of_eq rfl
  · exact .of_eq rfl

theorem putCarrierConfig_windowOnly (n : Nat) (p : CarrierParams) (s : State) : windowOnly s (putCarrierConfig n p s) := by
  have hset (u : State) (h : windowOnly s u) (c : Carrier) : windowOnly s
      (if (setCarrier n c u).time.rangedFrom = some n then rerange (setCarrier n c u) else setCarrier n c u) := by
    split
    · exact h.trans (.of_eq (by simp))
    · exact h.trans (.of_eq rfl)
  unfold putCarrierConfig
  dsimp only
  split
  · exact hset s (.of_eq rfl) _
  · exact hset _ (dropWindow_windowOnly n s) _

theorem commitCarrierConfig_windowOnly (n : Nat) (eff : Instant) (p : CarrierParams) (s : State) :
    windowOnly s (commitCarrierConfig n eff p s) := by
  unfold commitCarrierConfig
  dsimp only
  split
  · exact (dropWindow_windowOnly n s).trans (.of_eq rfl)
  · split
    · exact (windowOnly.of_eq (by simp)).trans ((dropWindow_windowOnly n (discardDrawn n s)).trans (.of_eq (by simp)))
    · split
      · exact putCarrierConfig_windowOnly n p s
      · split
        · exact (windowOnly.of_eq rfl).trans (putCarrierConfig_windowOnly n p _)
        · split
          · exact (windowOnly.of_eq rfl).trans (putCarrierConfig_windowOnly n p _)
          · exact (windowOnly.of_eq rfl).trans (putCarrierConfig_windowOnly n p _)

theorem applyStaged_windowOnly (eff : Instant) (sl : Bool × Bool) (c : Cmd) (s : State) :
    windowOnly s (applyStaged eff sl c s) := by
  unfold applyStaged
  split
  · exact commitCarrierConfig_windowOnly _ _ _ s
  all_goals exact .of_eq (by simp)

theorem commitGroup_windowOnly (g : Nat) (s : State) : windowOnly s (commitGroup g s) := by
  have hfold (l : List Cmd) (eff : Instant) : windowOnly s (l.foldl (fun s c => applyStaged eff s.cls.live c s) s) :=
    List.foldlRecOn (motive := fun t => windowOnly s t) l _ (.of_eq rfl) fun t ht c _ =>
      ht.trans (applyStaged_windowOnly _ _ c t)
  unfold commitGroup
  dsimp only
  refine windowOnly.trans (hfold ((inOrder (s.grp g).changes).filter fun c => !Cmd.classifies c) (s.grp g).eff) (.of_eq ?_)
  split
  · simp
  · simp

theorem commitInstant_done (hs : (s.grp g).state = .committed) (hc : (s.grp g).checked = true)
    (he : (s.grp g).eff ≤ switchTime s) : nextWith (.commitInstant g) s fun t =>
      (t.grp g).state = .done ∧ (t.grp g).locks = [] ∧ (t.grp g).changes = (s.grp g).changes ∧
      t.fuses = s.fuses ∧ t.lanes = s.lanes ∧ t.die = s.die ∧
      t = { s with
        clk := t.clk, time := t.time, tio := t.tio, carriers := t.carriers, reg := { s.reg with window := t.reg.window }
        trib := t.trib, cls := t.cls, q := t.q, ports := t.ports, snaps := t.snaps, sec := t.sec, groups := t.groups
        evc := t.evc, pmc := t.pmc, pwr := t.pwr, out := t.out } := by
  obtain ⟨u, hu⟩ := commitGroup_done g s
  have hreg : ({ s.reg with window := (commitGroup g s).reg.window } : Registration) = (commitGroup g s).reg := by
    obtain ⟨w, hw⟩ := commitGroup_windowOnly g s
    rw [hw]
  have hrest : rest { clk := true, time := true, tio := true, carriers := true, reg := true, trib := true, cls := true
                      q := true, ports := true, snaps := true, sec := true, groups := true, evc := true, pmc := true
                      pwr := true, out := true } (commitGroup g s) = rest _ s := rest_commitGroup g s (by simp)
  refine nextWith_of (exec_commitInstant hs hc he) ?_
  rw [hu.grp, setGrp_self, hreg]
  exact ⟨rfl, rfl, rfl, fuses_of_rest hrest, lanes_of_rest hrest, die_of_rest hrest, eq_merged hrest⟩

/-- A group with nothing staged ends and changes nothing else. -/
theorem commitGroup_empty (hch : (s.grp g).changes = []) : tablesOnly
    (setGrp g { s.grp g with state := .done, active := s.clk.now, locks := [] } s) (commitGroup g s) := by
  have heq : commitGroup g s = startWriteIn
      (raise 0xF2 (setGrp g { s.grp g with state := .done, active := s.clk.now, locks := [] } s)) := by
    unfold commitGroup
    dsimp only
    rw [hch]
    rfl
  rw [heq]
  exact (tablesOnly.of_evOnly (raise_only _ _)).trans (startWriteIn_tablesOnly _)

theorem commitInstant_empty (hs : (s.grp g).state = .committed) (hc : (s.grp g).checked = true)
    (he : (s.grp g).eff ≤ switchTime s) (hch : (s.grp g).changes = []) : nextWith (.commitInstant g) s fun t =>
      t.grp g = { s.grp g with state := .done, active := s.clk.now, locks := [] } ∧ otherGroups g s t ∧
      t.cls.curB = s.cls.curB ∧ t.cls.gen = s.cls.gen ∧
      t = { s with groups := t.groups, cls := t.cls, evc := t.evc, out := t.out } := by
  have hdone := commitGroup_empty hch
  refine nextWith_of (exec_commitInstant hs hc he) ⟨?_, fun m hm => ?_, hdone.2.1, hdone.2.2, ?_⟩
  · rw [hdone.grp, setGrp_self]
  · rw [hdone.grp, setGrp_ne _ _ _ _ hm]
  · rw [hdone.groups]
    exact hdone.1

theorem modQueue_self {q : Nat} {v : Queue} (f : Queue → Queue) (hv : s.queue q = some v) :
    (modQueue q f s).queue q = some (f v) := by
  unfold modQueue
  rw [hv]
  change Tbl.get none (Tbl.set none s.q.tab q (some (f v))) q = _
  rw [Tbl.get_set_self]

theorem modQueue_ne {q k : Nat} (f : Queue → Queue) (h : k ≠ q) : (modQueue q f s).queue k = s.queue k := by
  unfold modQueue
  split
  · next v _ =>
    change Tbl.get none (Tbl.set none s.q.tab q (some (f v))) k = _
    rw [Tbl.get_set_ne _ _ _ h]
    rfl
  · rfl

/-- A single staged queue.set takes effect. -/
theorem commitGroup_queueSet {c : Staged} {q : Nat} {p : QueueParams} (hch : (s.grp g).changes = [c])
    (hcmd : c.cmd = .queueSet q p) : (commitGroup g s).q = (putQueueSet q p s).q := by
  have horder : inOrder [c] = [.queueSet q p] := by simp [inOrder, hcmd]
  have heq : commitGroup g s = startWriteIn (raise 0xF2 (setGrp g { s.grp g with
      state := .done, active := (putQueueSet q p s).clk.now, locks := [] } (putQueueSet q p s))) := by
    unfold commitGroup
    dsimp only
    rw [hch, horder]
    simp only [List.any_cons, List.any_nil, hcmd]
    rfl
  rw [heq]
  simp

theorem commitInstant_queueSet {c : Staged} {q : Nat} {p : QueueParams} {v : Queue} (hs : (s.grp g).state = .committed)
    (hc : (s.grp g).checked = true) (he : (s.grp g).eff ≤ switchTime s) (hch : (s.grp g).changes = [c])
    (hcmd : c.cmd = .queueSet q p) (hv : s.queue q = some v) : nextWith (.commitInstant g) s fun t =>
      t.queue q = some { v with
        weight := p.weight.getD v.weight, limit := p.limit.getD v.limit, ylim := p.ylim.getD v.ylim,
        sojourn := p.maxSojourn.getD v.sojourn } ∧
      (∀ k, k ≠ q → t.queue k = s.queue k) := by
  have hq (k : Nat) : (commitGroup g s).queue k = (putQueueSet q p s).queue k := by
    unfold State.queue
    rw [commitGroup_queueSet hch hcmd]
  refine nextWith_of (exec_commitInstant hs hc he) ⟨?_, fun k hk => ?_⟩
  · rw [hq]
    exact modQueue_self _ hv
  · rw [hq]
    exact modQueue_ne _ hk

/-! ### The idle timeout, and the end (R259) -/

theorem groupLapsed_aborts (hs : (s.grp g).state = .open_) (ht : (s.grp g).active + sec (s.grp g).timeout ≤ s.clk.now) :
    nextWith (.groupLapsed g) s fun t =>
      t.grp g = { s.grp g with state := .aborted, active := s.clk.now, abort := some (.groupLapsed, 0) } ∧
      otherGroups g s t ∧
      (∀ i, (∀ c ∈ (s.grp g).changes, c.cmd ≠ .secAssocRekey i) → t.assoc i = s.assoc i) ∧
      t = { s with
        groups := t.groups, sec := { s.sec with assocs := t.sec.assocs }, evc := t.evc, out := t.out } := by
  obtain ⟨x, hx⟩ := eraseStagedKeys_eq (s.grp g).changes s
  have hothers {i : Nat} (h : ∀ c ∈ (s.grp g).changes, c.cmd ≠ .secAssocRekey i) := eraseStagedKeys_others h s
  have hexec : exec (.groupLapsed g) s = .next (raise 0xF4 (setGrp g
      { s.grp g with state := .aborted, active := s.clk.now, abort := some (.groupLapsed, 0) }
      (eraseStagedKeys (s.grp g).changes s))) := by
    refine congrArg Host.Outcome.next ((if_pos ⟨hs, ht⟩).trans ?_)
    unfold lapseGroup
    dsimp only
    rw [hx]
  rw [hx] at hexec hothers
  refine nextWith_of hexec ⟨?_, fun m hm => ?_, fun i hi => ?_, ?_⟩
  · rw [raise_grp, setGrp_self]
  · rw [raise_grp, setGrp_ne _ _ _ _ hm]
    rfl
  · rw [raise_assoc]
    exact hothers hi
  · have hsec (u : State) (y : Tbl Assoc) (hu : u.sec = { s.sec with assocs := y }) :
        ({ s.sec with assocs := u.sec.assocs } : Security) = u.sec := by rw [hu]
    rw [hsec _ x (raise_sec _ _)]
    exact eq_merged (m := { groups := true, sec := true, evc := true, out := true })
      ((rest_raise _ _ (by simp)).trans ((rest_setGrp _ _ _ (by simp)).trans rfl))

theorem groupFree_frees (hs : (s.grp g).state = .done ∨ (s.grp g).state = .aborted)
    (ht : (s.grp g).active + sec 10 ≤ s.clk.now) :
    nextWith (.groupFree g) s fun t => t.grp g = {} ∧ otherGroups g s t ∧ t = { s with groups := t.groups } :=
  nextWith_of (t := setGrp g {} s) (congrArg Host.Outcome.next (if_pos ⟨hs, ht⟩))
    ⟨setGrp_self _ _ _, fun _ hm => setGrp_ne _ _ _ _ hm, rfl⟩

theorem groupFree_waits (ht : s.clk.now < (s.grp g).active + sec 10) : exec (.groupFree g) s = .next s :=
  congrArg Host.Outcome.next (if_neg fun h => absurd h.2 (not_le.mpr ht))

end Check

/-- Settles O44: opening, aborting, the check, the instant and the end of a group, one lemma each. -/
theorem commitGroups : Obligations.CommitGroups :=
  ⟨fun _ _ => ⟨fun _ _ => commitOpen_opens, fun _ => commitOpen_none, fun _ => commitOpen_range, fun _ => commitAbort_aborts,
      fun _ => commitAbort_refused, fun _ _ => commitApply_wrongSwap⟩,
    fun _ _ => ⟨readinessCheck_passes, fun _ _ => readinessCheck_aborts, readinessCheck_waits, commitInstant_waits,
      commitInstant_done, commitInstant_empty, fun _ _ _ _ => commitInstant_queueSet, groupLapsed_aborts, groupFree_frees,
      groupFree_waits⟩⟩

end Sys2Proof.Proofs.CommitGroups
end

section
/-!
The command rings, the three transports and register writes (chapters 00, 11 and 15): O45, O46 and O47.
-/
namespace Sys2Proof.Proofs.Transports
open Sys2Proof Sys2Proof.Machine Sys2Proof.Proofs.Frames Sys2Proof.Proofs.Rules Sys2Proof.Proofs.Steps

set_option Elab.async false



/-! ### O47: register writes (R7, R8, R327) -/

section RegisterWrites
variable {s : State} {o : Nat} {v : Word}

theorem exec_registerWrite (h : o < 0x10000) (h4 : o % 4 = 0) (v : Word) (s : State) :
    exec (.registerWrite o v) s = putRegister o v s := by
  change execRegisterWrite o v s = _
  unfold execRegisterWrite
  rw [if_neg (Nat.not_le.mpr h), if_neg (not_not_intro h4)]

/-- An outcome is a next state that keeps fuses, local time and queue. -/
def AnswersKept (s : State) (x : Host.Outcome State Fault Refusal) : Prop := ∃ t, x = .next t ∧ kept t = kept s

theorem AnswersKept.of_kept {t : State} (h : kept t = kept s) : AnswersKept s (.next t) := ⟨t, rfl, h⟩

theorem AnswersKept.ite {c : Prop} [Decidable c] {x y : Host.Outcome State Fault Refusal} (hx : AnswersKept s x)
    (hy : AnswersKept s y) : AnswersKept s (if c then x else y) := by
  split
  · exact hx
  · exact hy

/-- A register that has a row of its own does what the row does; the others write their fields (R8). -/
theorem putRegister_kept (o : Nat) (v : Word) (s : State) : AnswersKept s (putRegister o v s) :=
  .ite (cmdSqTailWrite_kept v s) <|
  .ite (cmdRqHeadWrite_kept v s) <|
  .ite (aonVoteHostWrite_kept v s) <|
  .ite (aonWakeReq_kept v s) <|
  .ite (.of_kept (aonWrite_kept o v s)) <|
  .ite (.of_kept rfl) <|
  .ite (cmdCtrlEnWrite_kept v s) <|
  .ite (.of_kept (ringWrite_kept o v s)) <|
  .ite (evcPendingWrite_kept _ v s) <|
  .ite (evcMaskWrite_kept _ v s) <|
  .ite (evcComplete_kept _ v s) <|
  .ite (evcTrigger_kept v s) <|
  .ite (evcDiscard_kept v s) <|
  .ite (.of_kept (evcWrite_kept o v s)) <|
  .ite (.of_kept (tpReg_kept _ v s)) <|
  .ite (pmcFreezeWrite_kept v s) <|
  .ite (pmcCntWrite_kept _ _ v s) <|
  .ite (.of_kept (pmcWrite_kept o v s)) <|
  .of_kept rfl

theorem registerWrite_outside (h : 0x10000 ≤ o) : exec (.registerWrite o v) s = .fault (.outsideBar o) := if_pos h

theorem registerWrite_unaligned (h : o < 0x10000) (h4 : o % 4 ≠ 0) :
    exec (.registerWrite o v) s = .fault (.unalignedRegister o) :=
  (if_neg (Nat.not_le.mpr h)).trans (if_pos h4)

theorem registerWrite_answers (h : o < 0x10000) (h4 : o % 4 = 0) :
    ∃ t, exec (.registerWrite o v) s = .next t ∧ t.fuses = s.fuses ∧ t.pending = s.pending := by
  obtain ⟨t, ht, hkept⟩ := putRegister_kept o v s
  exact ⟨t, (exec_registerWrite h h4 v s).trans ht, (Prod.mk.inj hkept).1, (Prod.mk.inj (Prod.mk.inj hkept).2).2⟩

/-- In DOLDRUMS the other registers below the always-on ones ignore a write (R327). -/
theorem registerWrite_asleep (ha : s.pwr.asleep = true) (h1 : 0x1000 ≤ o) (h2 : o < 0x7000) (h4 : o % 4 = 0)
    (hsq : o ≠ 0x100C) (hrq : o ≠ 0x102C) : exec (.registerWrite o v) s = .next s := by
  rw [exec_registerWrite (by omega) h4]
  unfold putRegister
  rw [if_neg hsq, if_neg hrq, if_neg (by omega), if_neg (by omega), if_neg (by omega), if_pos ha]

/-- Out of DOLDRUMS a register that is neither always-on nor an index of the rings is written in its unit. -/
def putUnit (o : Nat) (v : Word) (s : State) : Host.Outcome State Fault Refusal :=
  if o = 0x1040 then execCmdCtrlEnWrite v s
  else if 0x1000 ≤ o ∧ o < 0x2000 then .next (ringWrite o v s)
  else if 0x2000 ≤ o ∧ o < 0x2020 then execEvcPendingWrite ((o - 0x2000) / 4) v s
  else if 0x2020 ≤ o ∧ o < 0x2040 then execEvcMaskWrite ((o - 0x2020) / 4) v s
  else if 0x2200 ≤ o ∧ o < 0x2300 ∧ o % 0x40 = 8 then execEvcComplete ((o - 0x2200) / 0x40) v s
  else if o = 0x2300 then execEvcTrigger v s
  else if o = 0x2304 then execEvcDiscard v s
  else if 0x2000 ≤ o ∧ o < 0x4000 then .next (evcWrite o v s)
  else if 0x4000 ≤ o ∧ o < 0x4100 then .next (tpReg ((o - 0x4000) / 4) v s)
  else if o = 0x5000 then execPmcFreezeWrite v s
  else if 0x5800 ≤ o ∧ o < 0x5A00 then execPmcCntWrite ((o - 0x5800) / 8) (o % 8 == 4) v s
  else if 0x5000 ≤ o ∧ o < 0x6000 then .next (pmcWrite o v s)
  else .next s

section Awake
variable (ha : s.pwr.asleep = false)
include ha

theorem registerWrite_unit (h : o < 0x7000) (h4 : o % 4 = 0) (hsq : o ≠ 0x100C) (hrq : o ≠ 0x102C) :
    exec (.registerWrite o v) s = putUnit o v s := by
  rw [exec_registerWrite (by omega) h4]
  unfold putRegister
  rw [if_neg hsq, if_neg hrq, if_neg (by omega), if_neg (by omega), if_neg (by omega), if_neg (by simp [ha])]
  rfl

theorem registerWrite_pending {k : Nat} (hk : k < 8) :
    exec (.registerWrite (0x2000 + 4 * k) v) s = exec (.evcPendingWrite k v) s := by
  rw [registerWrite_unit ha (by omega) (by omega) (by omega) (by omega)]
  unfold putUnit
  rw [if_neg (by omega), if_neg (by omega), if_pos (by omega), show (0x2000 + 4 * k - 0x2000) / 4 = k by omega]
  rfl

theorem registerWrite_mask {k : Nat} (hk : k < 8) :
    exec (.registerWrite (0x2020 + 4 * k) v) s = exec (.evcMaskWrite k v) s := by
  rw [registerWrite_unit ha (by omega) (by omega) (by omega) (by omega)]
  unfold putUnit
  rw [if_neg (by omega), if_neg (by omega), if_neg (by omega), if_pos (by omega),
    show (0x2020 + 4 * k - 0x2020) / 4 = k by omega]
  rfl

theorem registerWrite_complete {k : Nat} (hk : k < 4) :
    exec (.registerWrite (0x2208 + 0x40 * k) v) s = exec (.evcComplete k v) s := by
  rw [registerWrite_unit ha (by omega) (by omega) (by omega) (by omega)]
  unfold putUnit
  rw [if_neg (by omega), if_neg (by omega), if_neg (by omega), if_neg (by omega), if_pos (by omega),
    show (0x2208 + 0x40 * k - 0x2200) / 0x40 = k by omega]
  rfl

/-- The writes of the counters' words (R310). -/
theorem registerWrite_count {k : Nat} (h1 : 0x5800 ≤ o) (h2 : o < 0x5A00) (h4 : o % 4 = 0) (hk : (o - 0x5800) / 8 = k) :
    exec (.registerWrite o v) s = exec (.pmcCntWrite k (o % 8 == 4) v) s := by
  rw [registerWrite_unit ha (by omega) h4 (by omega) (by omega)]
  unfold putUnit
  rw [if_neg (by omega), if_neg (by omega), if_neg (by omega), if_neg (by omega), if_neg (by omega), if_neg (by omega),
    if_neg (by omega), if_neg (by omega), if_neg (by omega), if_neg (by omega), if_pos ⟨h1, h2⟩, hk]
  rfl

theorem registerWrite_countLo {k : Nat} (hk : k < 64) :
    exec (.registerWrite (0x5800 + 8 * k) v) s = exec (.pmcCntWrite k false v) s := by
  rw [registerWrite_count ha (by omega) (by omega) (by omega) (show (0x5800 + 8 * k - 0x5800) / 8 = k by omega),
    show (0x5800 + 8 * k) % 8 = 0 by omega]
  rfl

theorem registerWrite_countHi {k : Nat} (hk : k < 64) :
    exec (.registerWrite (0x5804 + 8 * k) v) s = exec (.pmcCntWrite k true v) s := by
  rw [registerWrite_count ha (by omega) (by omega) (by omega) (show (0x5804 + 8 * k - 0x5800) / 8 = k by omega),
    show (0x5804 + 8 * k) % 8 = 4 by omega]
  rfl

theorem registerWrite_cfg {n : Nat} (hn : n < 256) : exec (.registerWrite (0x2400 + 4 * n) v) s =
    .next (settleEvc s.evc { s with evc := { s.evc with
      cfg := Tbl.set {} s.evc.cfg n { bypass := v.getLsbD 7, target := v.toNat / 16 % 4, prio := v.toNat % 16 } } }) := by
  have hwrite : evcWrite (0x2400 + 4 * n) v s = putEvcCfg n v s := by
    unfold evcWrite targetReg
    rw [if_neg (by omega)]
    dsimp only
    rw [if_pos (by omega), show (0x2400 + 4 * n - 0x2400) / 4 = n by omega]
  rw [registerWrite_unit ha (by omega) (by omega) (by omega) (by omega)]
  unfold putUnit
  rw [if_neg (by omega), if_neg (by omega), if_neg (by omega), if_neg (by omega), if_neg (by omega), if_neg (by omega),
    if_neg (by omega), if_pos (by omega), hwrite]
  rfl

end Awake

end RegisterWrites

/-- Settles O47: writes outside BAR0, off a word boundary, in DOLDRUMS, and those that are rows of their own. -/
theorem registerWrites : Obligations.RegisterWrites := fun _ _ _ =>
  ⟨registerWrite_outside, registerWrite_unaligned, registerWrite_answers, rfl, rfl, rfl, rfl, registerWrite_asleep,
    fun ha => ⟨registerWrite_unit ha (by decide) rfl (by decide) (by decide),
      registerWrite_unit ha (by decide) rfl (by decide) (by decide),
      registerWrite_unit ha (by decide) rfl (by decide) (by decide),
      registerWrite_unit ha (by decide) rfl (by decide) (by decide),
      fun _ hk => ⟨registerWrite_pending ha hk, registerWrite_mask ha hk⟩, fun _ => registerWrite_complete ha,
      fun _ hk => ⟨registerWrite_countLo ha hk, registerWrite_countHi ha hk⟩, fun _ => registerWrite_cfg ha⟩⟩

/-! ### O45: the ring registers (R250, R252, R253, R327) -/

section Rings
variable {s : State} {v : Word}

/-- An error of the ring sets CFG_ERR with its cause (Table 11-3). -/
theorem ringError_cmd (k : Nat) (s : State) : (ringError k s).cmd = { s.cmd with cfgErr := true, errCause := k } :=
  raise_cmd _ _

theorem ringError_next (k : Nat) (s : State) : (ringError k s).cmd = { s.cmd with cfgErr := true, errCause := k } ∧
    ringError k s = { s with cmd := (ringError k s).cmd, evc := (ringError k s).evc, out := (ringError k s).out } :=
  ⟨ringError_cmd k s, eq_merged (m := { cmd := true, evc := true, out := true }) (by simp)⟩

theorem sqTail_takes (ha : s.pwr.asleep = false) (hv : v.toNat % 65536 < 2 ^ s.cmd.sqLog) :
    exec (.cmdSqTailWrite v) s = .next { s with cmd := { s.cmd with sqTail := v.toNat % 65536 } } :=
  congrArg Host.Outcome.next ((if_neg (by simp [ha])).trans (if_neg (Nat.not_le.mpr hv)))

theorem sqTail_ignored (ha : s.pwr.asleep = false) (hv : 2 ^ s.cmd.sqLog ≤ v.toNat % 65536) :
    nextWith (.cmdSqTailWrite v) s fun t =>
      t.cmd = { s.cmd with cfgErr := true, errCause := 2 } ∧ t = { s with cmd := t.cmd, evc := t.evc, out := t.out } :=
  nextWith_of (congrArg Host.Outcome.next ((if_neg (by simp [ha])).trans (if_pos hv))) (ringError_next 2 s)

/-- An enabled source starts the wake of a terminal in DOLDRUMS (R327). -/
theorem wakeBy_starts {bit : Nat} {s : State} (ha : s.pwr.asleep = true) (he : s.pwr.wakeEn.getLsbD bit = true)
    (hw : s.pwr.wake = none) : ∃ w, (wakeBy bit s).pwr.wake = some w ∧ w.step = 1 ∧ w.start = s.clk.now := by
  unfold wakeBy startWake
  rw [if_pos he, if_pos (by simp [ha, hw])]
  exact ⟨_, rfl, rfl, rfl⟩

theorem sqTail_latched (ha : s.pwr.asleep = true) : nextWith (.cmdSqTailWrite v) s fun t =>
    t.cmd = { s.cmd with latchTail := some (v.toNat % 65536) } ∧ (s.pwr.wakeEn.getLsbD 1 = false → t.pwr = s.pwr) ∧
    (s.pwr.wakeEn.getLsbD 1 = true → s.pwr.wake = none → ∃ w, t.pwr.wake = some w ∧ w.step = 1 ∧ w.start = s.clk.now) ∧
    t = { s with cmd := t.cmd, pwr := t.pwr } := by
  refine nextWith_of (congrArg Host.Outcome.next (if_pos ha)) ⟨?_, fun he => ?_, fun he hw => ?_, ?_⟩
  · exact cmd_of_rest (m := { pwr := true }) (rest_wakeBy 1 _ (by simp))
  · rw [wakeBy, if_neg]
    · rfl
    · exact fun h => absurd (h.symm.trans he) (by simp)
  · exact wakeBy_starts (s := modCmd _ s) ha he hw
  · exact eq_merged (m := { cmd := true, pwr := true }) (by simp)

theorem rqHead_takes (ha : s.pwr.asleep = false) (hv : v.toNat % 65536 < 2 ^ s.cmd.rqLog) :
    nextWith (.cmdRqHeadWrite v) s fun t =>
      t.cmd = { s.cmd with
        rqHead := v.toNat % 65536
        entries := s.cmd.entries.drop ((v.toNat % 65536 + 2 ^ s.cmd.rqLog - s.cmd.rqHead) % 2 ^ s.cmd.rqLog) } ∧
      t = { s with cmd := t.cmd, evc := t.evc, out := t.out } :=
  nextWith_of (congrArg Host.Outcome.next ((if_neg (by simp [ha])).trans (if_neg (Nat.not_le.mpr hv))))
    ⟨syncReply_cmd _, eq_merged (m := { cmd := true, evc := true, out := true }) (by simp)⟩

theorem rqHead_ignored (ha : s.pwr.asleep = false) (hv : 2 ^ s.cmd.rqLog ≤ v.toNat % 65536) :
    nextWith (.cmdRqHeadWrite v) s fun t =>
      t.cmd = { s.cmd with cfgErr := true, errCause := 2 } ∧ t = { s with cmd := t.cmd, evc := t.evc, out := t.out } :=
  nextWith_of (congrArg Host.Outcome.next ((if_neg (by simp [ha])).trans (if_pos hv))) (ringError_next 2 s)

theorem rqHead_latched (ha : s.pwr.asleep = true) : exec (.cmdRqHeadWrite v) s =
    .next { s with cmd := { s.cmd with latchHead := some (v.toNat % 65536) } } :=
  congrArg Host.Outcome.next (if_pos ha)

/-- CMD_CTRL_EN_WRITE out of DOLDRUMS. -/
theorem exec_ctrlEn (ha : s.pwr.asleep = false) : exec (.cmdCtrlEnWrite v) s = .next (
    if v.getLsbD 0 && !s.cmd.ready then ringError 3 s
    else if v.getLsbD 0 && !s.cmd.en then
      syncReply (modCmd (fun c => { c with
        en := true, sqTail := 0, sqHead := 0, rqHead := 0, rqTail := 0, phase := true, entries := [] }) s)
    else modCmd (fun c => { c with en := v.getLsbD 0 }) s) :=
  congrArg Host.Outcome.next (if_neg (by simp [ha]))

theorem ctrlEn_enables (ha : s.pwr.asleep = false) (hv : v.getLsbD 0 = true) (hr : s.cmd.ready = true)
    (he : s.cmd.en = false) : nextWith (.cmdCtrlEnWrite v) s fun t =>
      t.cmd = { s.cmd with
        en := true, sqTail := 0, sqHead := 0, rqHead := 0, rqTail := 0, phase := true, entries := [] } ∧
      t = { s with cmd := t.cmd, evc := t.evc, out := t.out } := by
  refine nextWith_of (exec_ctrlEn ha) ?_
  rw [if_neg (by simp [hr]), if_pos (by simp [hv, he])]
  exact ⟨syncReply_cmd _, eq_merged (m := { cmd := true, evc := true, out := true }) (by simp)⟩

theorem ctrlEn_early (ha : s.pwr.asleep = false) (hv : v.getLsbD 0 = true) (hr : s.cmd.ready = false) :
    nextWith (.cmdCtrlEnWrite v) s fun t =>
      t.cmd = { s.cmd with cfgErr := true, errCause := 3 } ∧ t = { s with cmd := t.cmd, evc := t.evc, out := t.out } := by
  refine nextWith_of (exec_ctrlEn ha) ?_
  rw [if_pos (by simp [hv, hr])]
  exact ringError_next 3 s

theorem ctrlEn_again (ha : s.pwr.asleep = false) (hv : v.getLsbD 0 = true) (hr : s.cmd.ready = true) (he : s.cmd.en = true) :
    exec (.cmdCtrlEnWrite v) s = .next s := by
  rw [exec_ctrlEn ha, if_neg (by simp [hr]), if_neg (by simp [he]), hv, ← he]
  rfl

theorem ctrlEn_stops (ha : s.pwr.asleep = false) (hv : v.getLsbD 0 = false) : exec (.cmdCtrlEnWrite v) s =
    .next { s with cmd := { s.cmd with en := false } } := by
  rw [exec_ctrlEn ha, hv]
  rfl

theorem ctrlEn_asleep (ha : s.pwr.asleep = true) : exec (.cmdCtrlEnWrite v) s = .next s :=
  congrArg Host.Outcome.next (if_pos ha)

/-- The base and size registers of the rings (Table 11-3). -/
def ringReg (o : Nat) : Prop :=
  o = 0x1000 ∨ o = 0x1004 ∨ o = 0x1008 ∨ o = 0x1020 ∨ o = 0x1024 ∨ o = 0x1028

theorem registerWrite_ring {o : Nat} (ho : ringReg o) (ha : s.pwr.asleep = false) :
    exec (.registerWrite o v) s = .next (putRingReg o v s) := by
  unfold ringReg at ho
  rw [registerWrite_unit ha (by omega) (by omega) (by omega) (by omega)]
  unfold putUnit ringWrite
  rw [if_neg (by omega), if_pos (by omega), if_pos ho]

theorem ringReg_refused {o : Nat} (ho : ringReg o) (ha : s.pwr.asleep = false)
    (hrun : s.cmd.en = true ∨ s.cmd.inFlight ≠ 0) : nextWith (.registerWrite o v) s fun t =>
      t.cmd = { s.cmd with cfgErr := true, errCause := 3 } ∧ t = { s with cmd := t.cmd, evc := t.evc, out := t.out } :=
  nextWith_of ((registerWrite_ring ho ha).trans (congrArg _ (if_pos hrun))) (ringError_next 3 s)

/-- The size registers take LOG2 from 4 to 16. -/
theorem ringSizes (ha : s.pwr.asleep = false) (he : s.cmd.en = false) (hf : s.cmd.inFlight = 0) (h4 : 4 ≤ v.toNat % 32)
    (h16 : v.toNat % 32 ≤ 16) :
    exec (.registerWrite 0x1008 v) s = .next { s with cmd := { s.cmd with sqLog := v.toNat % 32 } } ∧
    exec (.registerWrite 0x1028 v) s = .next { s with cmd := { s.cmd with rqLog := v.toNat % 32 } } := by
  have hfree : ¬ (s.cmd.en = true ∨ s.cmd.inFlight ≠ 0) := by simp [he, hf]
  have hlog : ¬ (v.toNat % 32 < 4 ∨ 16 < v.toNat % 32) := by omega
  constructor
  · rw [registerWrite_ring (by simp [ringReg]) ha]
    unfold putRingReg
    rw [if_neg hfree, if_neg (by decide), if_neg (by decide), if_neg (by decide), if_neg (by decide)]
    dsimp only
    rw [if_neg hlog, if_pos rfl]
    rfl
  · rw [registerWrite_ring (by simp [ringReg]) ha]
    unfold putRingReg
    rw [if_neg hfree, if_neg (by decide), if_neg (by decide), if_neg (by decide), if_neg (by decide)]
    dsimp only
    rw [if_neg hlog, if_neg (by decide)]
    rfl

end Rings

/-- Settles O45: the indices, the enable, and the base and size registers, one lemma for each case. -/
theorem ringRegisters : Obligations.RingRegisters := fun _ _ =>
  ⟨sqTail_takes, sqTail_ignored, sqTail_latched, rqHead_takes, rqHead_ignored, rqHead_latched, ctrlEn_enables, ctrlEn_early,
    ctrlEn_again, ctrlEn_stops, ctrlEn_asleep, fun _ => ringReg_refused, ringSizes⟩

/-! ### O46: the three transports (R247, R249, R251, R254, R255) -/

section Packets
variable {s : State} {p : Packet} {h : Hdr} {fits : Bool}

theorem packet_refused {st : Status} (hc : headerCheck p fits = some st) :
    packet h p fits s = refusePacket h p.opcode st s := by
  unfold packet
  rw [hc]

theorem packet_taken (hc : headerCheck p fits = none) : packet h p fits s = takePacket h p s := by
  unfold packet
  rw [hc]

/-- No stored reply answers the packet (R249). -/
def unrepeated (h : Hdr) (p : Packet) (s : State) : Prop :=
  ∀ k, replayKey h.transport = some k → ∀ x ∈ Tbl.get [] s.cmd.replay k, x.1 ≠ p.seq

/-- A packet that no stored reply answers is taken with the command it spells, or refused. -/
theorem takePacket_unrepeated (hu : unrepeated h p s) :
    (∀ c, Packet.command p = some c → takePacket h p s = startOrWait h c (takeUp h s)) ∧
      (Packet.command p = none →
        takePacket h p s = sendReply h p.opcode { status := .paramLength } (takeUp h s)) := by
  unfold takePacket
  cases hk : replayKey h.transport with
  | none => exact ⟨fun c hc => by rw [hc], fun hc => by rw [hc]⟩
  | some k =>
    have hfind : (Tbl.get [] s.cmd.replay k : List (BitVec 24 × Option Reply)).find?
        (fun (x : BitVec 24 × Option Reply) => x.1 == p.seq) = none :=
      List.find?_eq_none.mpr fun x hx => by simpa using hu k hk x hx
    dsimp only
    rw [hfind]
    exact ⟨fun c hc => by rw [hc], fun hc => by rw [hc]⟩

theorem takePacket_repeated {k : Nat} {r : Reply} (hk : replayKey h.transport = some k)
    (hr : ((Tbl.get [] s.cmd.replay k).find? fun x => x.1 == p.seq) = some (p.seq, some r)) :
    takePacket h p s = deliver h { r with replayed := true } s := by
  unfold takePacket
  rw [hk]
  dsimp only
  rw [hr]

theorem takeUp_wait (h : Hdr) (s : State) : (takeUp h s).cmd.wait = s.cmd.wait := by
  unfold takeUp
  cases h.transport <;> rfl

theorem startOrWait_starts {c : Cmd} (hb : blocked h c s.cmd.wait (takeUp h s) = false) :
    startOrWait h c (takeUp h s) = command h c s := by
  unfold startOrWait
  rw [takeUp_wait, if_neg (by simp [hb])]
  rfl

theorem startOrWait_waits {c : Cmd} (hb : blocked h c s.cmd.wait (takeUp h s) = true) :
    startOrWait h c (takeUp h s) = { takeUp h s with cmd := { (takeUp h s).cmd with wait := s.cmd.wait ++ [(h, c)] } } := by
  unfold startOrWait modCmd
  rw [takeUp_wait, if_pos hb]
  dsimp only
  rw [takeUp_wait]

end Packets

section Ring
variable {s u : State} {p : Packet} {e : SubEntry} {h : Hdr}

/-- The header of a packet fetched from the ring. -/
def ringHdr (e : SubEntry) (p : Packet) : Hdr := { hdrOf .ring p with cap := some e.rplCap }

/-- The state once the entry has been fetched (R251). -/
def fetched (s : State) : State := { s with cmd := { s.cmd with sqHead := (s.cmd.sqHead + 1) % 2 ^ s.cmd.sqLog } }

theorem fetch_stopped {x : Bool} (hm : mayFetch s = false) : exec (.ringSubmissionFetch e p x) s = .next s :=
  congrArg Host.Outcome.next (if_pos (by simp [hm]))

theorem fetch_packet (hm : mayFetch s = true) : exec (.ringSubmissionFetch e p false) s =
    .next (packet (ringHdr e p) p (decide (e.cmdLen = 16 + p.paramLen)) (fetched s)) :=
  congrArg Host.Outcome.next (if_neg (by simp [hm]))

theorem fetch_fails (hm : mayFetch s = true) : exec (.ringSubmissionFetch e p true) s =
    .next (refusePacket (ringHdr e p) p.opcode .dmaError (fetched s)) :=
  congrArg Host.Outcome.next (if_neg (by simp [hm]))

/-- The ring has no repeated SEQ. -/
theorem unrepeated_ring : unrepeated (ringHdr e p) p s := fun _ hk => absurd hk (by simp [ringHdr, hdrOf, replayKey])

theorem fetch_takes {c : Cmd} (hc : Packet.command p = some c) (hm : mayFetch s = true) (hh : h = ringHdr e p)
    (hu : u = fetched s) (hk : headerCheck p (decide (e.cmdLen = 16 + p.paramLen)) = none) :
    (blocked h c u.cmd.wait (takeUp h u) = false → exec (.ringSubmissionFetch e p false) s = .next (command h c u)) ∧
    (blocked h c u.cmd.wait (takeUp h u) = true → exec (.ringSubmissionFetch e p false) s = .next { takeUp h u with
      cmd := { (takeUp h u).cmd with wait := s.cmd.wait ++ [(h, c)] } }) := by
  subst hh hu
  have hexec : exec (.ringSubmissionFetch e p false) s =
      .next (startOrWait (ringHdr e p) c (takeUp (ringHdr e p) (fetched s))) := by
    rw [fetch_packet hm, packet_taken hk, (takePacket_unrepeated unrepeated_ring).1 c hc]
  exact ⟨fun hb => by rw [hexec, startOrWait_starts hb], fun hb => by rw [hexec, startOrWait_waits hb]; rfl⟩

theorem fetch_unspelt (hc : Packet.command p = none) (hm : mayFetch s = true) (hh : h = ringHdr e p) (hu : u = fetched s)
    (hk : headerCheck p (decide (e.cmdLen = 16 + p.paramLen)) = none) :
    exec (.ringSubmissionFetch e p false) s = .next (sendReply h p.opcode { status := .paramLength } (takeUp h u)) := by
  subst hh hu
  rw [fetch_packet hm, packet_taken hk, (takePacket_unrepeated unrepeated_ring).2 hc]

theorem fetch_refused {st : Status} (hm : mayFetch s = true) (hh : h = ringHdr e p)
    (hk : headerCheck p (decide (e.cmdLen = 16 + p.paramLen)) = some st) : exec (.ringSubmissionFetch e p false) s =
      .next (answer false h p.opcode { status := st } { s with cmd := { s.cmd with
        sqHead := (s.cmd.sqHead + 1) % 2 ^ s.cmd.sqLog, inFlight := s.cmd.inFlight + 1 } }) := by
  subst hh
  rw [fetch_packet hm, packet_refused hk]
  rfl

theorem fetch_dmaError (hm : mayFetch s = true) (hh : h = ringHdr e p) : exec (.ringSubmissionFetch e p true) s =
    .next (answer false h p.opcode { status := .dmaError } { s with cmd := { s.cmd with
      sqHead := (s.cmd.sqHead + 1) % 2 ^ s.cmd.sqLog, inFlight := s.cmd.inFlight + 1 } }) := by
  subst hh
  rw [fetch_fails hm]
  rfl

end Ring

section Spi
variable {s : State} {p : Packet}

theorem writeCmd_ignored (hr : cmdReady s = false) : nextWith (.writeCmd p) s fun t =>
    t.cmd = { s.cmd with spiIgnored := s.cmd.spiIgnored + 1 } ∧ t = { s with cmd := t.cmd, pwr := t.pwr } :=
  nextWith_of (congrArg Host.Outcome.next (if_pos (by simp [hr])))
    ⟨cmd_of_rest (m := { pwr := true }) (rest_wakeBy 3 _ (by simp)), eq_merged (m := { cmd := true, pwr := true }) (by simp)⟩

theorem writeCmd_packet (hr : cmdReady s = true) : exec (.writeCmd p) s =
    .next (packet (hdrOf .spi p) p (decide (16 + p.paramLen ≤ 65536)) s) :=
  congrArg Host.Outcome.next (if_neg (by simp [hr]))

theorem writeCmd_runs {c : Cmd} (hc : Packet.command p = some c) (hr : cmdReady s = true)
    (hk : headerCheck p (decide (16 + p.paramLen ≤ 65536)) = none) (hseq : ∀ x ∈ Tbl.get [] s.cmd.replay 0, x.1 ≠ p.seq)
    (hb : blocked (hdrOf .spi p) c s.cmd.wait (takeUp (hdrOf .spi p) s) = false) :
    exec (.writeCmd p) s = .next (command (hdrOf .spi p) c s) := by
  have hu : unrepeated (hdrOf .spi p) p s := fun k hk => by
    obtain rfl : 0 = k := by simpa [hdrOf, replayKey] using hk
    exact hseq
  rw [writeCmd_packet hr, packet_taken hk, (takePacket_unrepeated hu).1 c hc, startOrWait_starts hb]

theorem writeCmd_refused {st : Status} (hr : cmdReady s = true)
    (hk : headerCheck p (decide (16 + p.paramLen ≤ 65536)) = some st) :
    exec (.writeCmd p) s = .next (answer false (hdrOf .spi p) p.opcode { status := st } s) := by
  rw [writeCmd_packet hr, packet_refused hk]
  rfl

/-- A repeated SEQ gets the stored reply again, and the command does not run again (R249). -/
theorem writeCmd_repeated {r : Reply} (hr : cmdReady s = true)
    (hk : headerCheck p (decide (16 + p.paramLen ≤ 65536)) = none) (ht : r.transport = .spi)
    (hs : ((Tbl.get [] s.cmd.replay 0).find? fun x => x.1 == p.seq) = some (p.seq, some r)) :
    nextWith (.writeCmd p) s fun t =>
      t.cmd.spiReply = s.cmd.spiReply ++ [{ r with replayed := true }] ∧ t.cmd.replay = s.cmd.replay ∧
      t = { s with cmd := t.cmd } := by
  have hexec : exec (.writeCmd p) s = .next (deliver (hdrOf .spi p) { r with replayed := true } s) := by
    rw [writeCmd_packet hr, packet_taken hk, takePacket_repeated (k := 0) rfl hs]
  refine nextWith_of hexec ?_
  unfold deliver
  rw [ht]
  exact ⟨rfl, rfl, rfl⟩

theorem readReply_sends {r : Reply} {l : List Reply} (ha : s.pwr.asleep = false) (hs : s.cmd.spiReply = r :: l) :
    exec .readReply s = .next { s with cmd := { s.cmd with spiReply := l }, out := .reply r :: s.out } := by
  change execReadReply s = _
  unfold execReadReply
  rw [if_neg (by simp [ha]), hs]
  rfl

theorem readReply_none (hs : s.cmd.spiReply = []) : exec .readReply s = .next s := by
  change execReadReply s = _
  unfold execReadReply
  rw [hs]
  dsimp only
  rw [ite_self]

theorem readStatus_sends (s : State) : exec .readStatus s =
    .next { s with out := .status (BitVec.ofNat 8 ((cmdReady s).toNat +
      2 * (if s.cmd.spiReply = [] then 0 else 1) + 4 * s.dev.booting.toNat)) :: s.out } := by
  have hwait : (!s.cmd.spiReply.isEmpty).toNat = if s.cmd.spiReply = [] then 0 else 1 := by
    cases s.cmd.spiReply <;> rfl
  change execReadStatus s = _
  unfold execReadStatus
  rw [hwait]
  rfl

end Spi

section Inband
variable {s : State} {p : Packet} {n : Nat} {f : InbandReq}

theorem inband_runs {h : Hdr} {k : PortParams} {c : Cmd} (hc : Packet.command p = some c) (ha : s.pwr.asleep = false)
    (hup : (s.port n).up = true) (hcfg : (s.port n).cfg = some k) (hin : k.inband = true)
    (hh : h = { hdrOf (.inband n) p with src := f.src, dst := f.dst, vlan := f.vlan })
    (hk : headerCheck p (decide (16 + p.paramLen ≤ f.bytes)) = none)
    (hseq : ∀ x ∈ Tbl.get [] s.cmd.replay (1 + n), x.1 ≠ p.seq) (hb : blocked h c s.cmd.wait (takeUp h s) = false) :
    exec (.inbandCommandFrame n f p) s = .next (command h c s) := by
  have hexec : exec (.inbandCommandFrame n f p) s = .next (packet h p (decide (16 + p.paramLen ≤ f.bytes)) s) := by
    change execInbandCommandFrame n f p s = _
    unfold execInbandCommandFrame
    dsimp only
    rw [if_neg (by simp [ha, hup, hcfg, hin]), hh]
  have hu : unrepeated h p s := fun j hj => by
    obtain rfl : 1 + n = j := by simpa [hh, hdrOf, replayKey] using hj
    exact hseq
  rw [hexec, packet_taken hk, (takePacket_unrepeated hu).1 c hc, startOrWait_starts hb]

theorem inband_ignored (hoff : s.pwr.asleep = true ∨ (s.port n).up = false ∨ (s.port n).cfg = none) :
    exec (.inbandCommandFrame n f p) s = .next s := by
  change execInbandCommandFrame n f p s = _
  unfold execInbandCommandFrame
  dsimp only
  rw [if_pos ?_]
  rcases hoff with ha | hup | hcfg
  · simp [ha]
  · simp [hup]
  · simp [hcfg]

end Inband

/-- Settles O46: the ring, the SPI slave and the in-band frames, and a repeated SEQ, one lemma for each case. -/
theorem transports : Obligations.Transports :=
  ⟨fun s _ => ⟨fun _ _ => fetch_stopped, fun _ _ _ _ => fetch_takes, fun _ _ _ => fetch_unspelt,
      fun _ _ _ => fetch_refused, fun _ _ => fetch_dmaError, writeCmd_ignored, fun _ => writeCmd_runs,
      fun _ => writeCmd_refused, fun _ _ => readReply_sends, readReply_none, readStatus_sends s,
      fun _ _ _ _ _ => inband_runs, fun _ _ => inband_ignored⟩,
    fun _ _ _ => writeCmd_repeated⟩

end Sys2Proof.Proofs.Transports
end

section
/-!
Flow engines (chapter 12): O48 and O49.
-/
namespace Sys2Proof.Proofs.Engines
open Sys2Proof Sys2Proof.Machine Sys2Proof.Proofs.Frames Sys2Proof.Proofs.Rules

set_option Elab.async false

@[simp] theorem dropPkt_eng (a0 : Pkt) (s : State) : (dropPkt a0 s).eng = s.eng :=
  eng_of_rest (m := { clk := true, evc := true, pmc := true, out := true }) (by simp)
@[simp] theorem pmcDrop_eng (a0 : Meta) (s : State) : (pmcDrop a0 s).eng = s.eng :=
  eng_of_rest (m := { clk := true, evc := true, pmc := true, out := true }) (by simp)
@[simp] theorem traceEnd_eng (a0 : Option Nat) (a1 : TraceEntry → TraceEntry) (s : State) : (traceEnd a0 a1 s).eng = s.eng :=
  eng_of_rest (m := { evc := true, pmc := true, out := true }) (by simp)
@[simp] theorem retire_eng (a0 : Nat) (a1 : Nat) (a2 : Nat) (a3 : Run) (a4 : Bool) (a5 : Bool) (s : State) : (retire a0 a1 a2 a3 a4 a5 s).eng = s.eng :=
  eng_of_rest (m := { clk := true, evc := true, pmc := true, out := true }) (by simp)
@[simp] theorem terminal_eng (a0 : Action) (a1 : Act) (s : State) : (terminal a0 a1 s).eng = s.eng :=
  eng_of_rest (m := { clk := true, cls := true, ports := true, evc := true, pmc := true, out := true }) (by simp)


/-! ### O48: the engine commands (R280, R284, R285) -/

section EngineCommands
variable {h : Hdr} {s : State} {img : ProgImage} {limit k n : Nat}

theorem checkLoad_cmd (x : CmdChannel) : checkLoad img limit { s with cmd := x } = checkLoad img limit s := rfl

theorem programLoad_completes (hr : runsNow h (.engineProgramLoad img limit) s) (hc : checkLoad img limit s = .ok) :
    completes (.engineProgramLoad h img limit) h 0x0C01 s fun t =>
      Tbl.get none t.eng.progs img.program = some { img := img, limit := limit } ∧
      (∀ k, k ≠ img.program → Tbl.get none t.eng.progs k = Tbl.get none s.eng.progs k) ∧
      t = { takeUp h s with eng := { s.eng with progs := t.eng.progs } } := by
  obtain ⟨x, hx⟩ := takeUp_cmd h s
  have hbody : ∃ d, doEngineProgramLoad img limit { s with cmd := x } = okData d { s with
      cmd := x
      eng := { s.eng with progs := Tbl.set none s.eng.progs img.program (some { img := img, limit := limit }) } } := by
    unfold doEngineProgramLoad
    rw [checkLoad_cmd, hc]
    exact ⟨_, rfl⟩
  obtain ⟨d, hbody⟩ := hbody
  exact completes_taken hx hr rfl rfl rfl hbody
    ⟨by dsimp only; rw [Tbl.get_set_self], fun j hj => by dsimp only; rw [Tbl.get_set_ne _ _ _ hj], by rw [hx]⟩

theorem programLoad_fails (hr : runsNow h (.engineProgramLoad img limit) s) (hc : checkLoad img limit s ≠ .ok) :
    failsWith (.engineProgramLoad h img limit) h 0x0C01 (checkLoad img limit s) s := by
  obtain ⟨x, hx⟩ := takeUp_cmd h s
  refine failsWith_taken hx hr rfl rfl rfl ?_
  change doEngineProgramLoad img limit _ = _
  unfold doEngineProgramLoad
  rw [checkLoad_cmd]
  split
  · exact absurd ‹_› hc
  · rfl

/-- An image that fails a verdict of R284. -/
theorem checkLoad_invalid (hi : (img.magicOk && img.formatOk && img.abiOk && img.checkOk && img.legal) = false) :
    checkLoad img limit s = .actionInvalid := by
  unfold checkLoad
  dsimp only
  split
  · rfl
  · split
    · rfl
    · rw [if_pos]
      simp_all

theorem programLoad_invalid (hr : runsNow h (.engineProgramLoad img limit) s)
    (hi : (img.magicOk && img.formatOk && img.abiOk && img.checkOk && img.legal) = false) :
    failsWith (.engineProgramLoad h img limit) h 0x0C01 .actionInvalid s := by
  have hc := checkLoad_invalid (limit := limit) (s := s) hi
  have hfail := programLoad_fails hr (by rw [hc]; decide)
  rwa [hc] at hfail

theorem loaded_iff {k : Nat} : loaded k s = true ↔ Tbl.get none s.eng.progs k ≠ none := by
  unfold loaded
  exact Option.isSome_iff_ne_none

/-- The body of engine.program.unload for a number in range (R285). -/
theorem doEngineProgramUnload_eq (hk : k ≤ 4095) (s : State) : doEngineProgramUnload k s =
    if !loaded k s then fail .entryAbsent s
    else if named k s then fail .actionInvalid s
    else okData (spaceWords (modEng (fun e => { e with progs := Tbl.set none e.progs k none }) s))
      (modEng (fun e => { e with progs := Tbl.set none e.progs k none }) s) := by
  unfold doEngineProgramUnload
  rw [require_true (decide_eq_true hk)]

theorem programUnload_absent (hr : runsNow h (.engineProgramUnload k) s) (hk : k ≤ 4095)
    (hl : Tbl.get none s.eng.progs k = none) : failsWith (.engineProgramUnload h k) h 0x0C02 .entryAbsent s := by
  obtain ⟨x, hx⟩ := takeUp_cmd h s
  refine failsWith_taken hx hr rfl rfl rfl ((doEngineProgramUnload_eq hk _).trans (if_pos ?_))
  simp [loaded, hl]

theorem programUnload_named (hr : runsNow h (.engineProgramUnload k) s) (hk : k ≤ 4095)
    (hl : Tbl.get none s.eng.progs k ≠ none) (hn : named k s = true) :
    failsWith (.engineProgramUnload h k) h 0x0C02 .actionInvalid s := by
  obtain ⟨x, hx⟩ := takeUp_cmd h s
  have hld : loaded k { s with cmd := x } = true := loaded_iff.mpr hl
  exact failsWith_taken hx hr rfl rfl rfl
    ((doEngineProgramUnload_eq hk _).trans ((if_neg (by simp [hld])).trans (if_pos hn)))

theorem programUnload_completes (hr : runsNow h (.engineProgramUnload k) s) (hk : k ≤ 4095)
    (hl : Tbl.get none s.eng.progs k ≠ none) (hn : named k s = false) :
    completes (.engineProgramUnload h k) h 0x0C02 s fun t =>
      Tbl.get none t.eng.progs k = none ∧ (∀ j, j ≠ k → Tbl.get none t.eng.progs j = Tbl.get none s.eng.progs j) ∧
      t = { takeUp h s with eng := { s.eng with progs := t.eng.progs } } := by
  obtain ⟨x, hx⟩ := takeUp_cmd h s
  have hld : loaded k { s with cmd := x } = true := loaded_iff.mpr hl
  have hnm : named k { s with cmd := x } = false := hn
  exact completes_taken hx hr rfl rfl rfl
    ((doEngineProgramUnload_eq hk _).trans ((if_neg (by simp [hld])).trans (if_neg (by simp [hnm]))))
    ⟨by simp only [modEng]; rw [Tbl.get_set_self], fun j hj => by simp only [modEng]; rw [Tbl.get_set_ne _ _ _ hj],
      by rw [hx]; rfl⟩

/-- A command that names no lock and needs no token cannot be staged (R260). -/
theorem failsWith_notStageable {i : Instr} {c : Cmd} {o : Nat} (he : exec i s = .next (command h c s)) (ho : Cmd.opcode c = o)
    (hg : h.group ≠ 0) (hn : notReady o (takeUp h s) = false) (hs : secRelevant o = false) (hid : ¬ (0x0901 < o ∧ o ≤ 0x0910))
    (hl : Cmd.lock c = none) : failsWith i h o .notStageable s := by
  have hsec : secCheck h o (takeUp h s) = (none, takeUp h s) := by
    unfold secCheck
    rw [if_neg (by simp [hid]), if_pos (by simp [hs])]
  have hstage : stageCmd h c h.len (takeUp h s) = (some { status := .notStageable }, takeUp h s) := by
    unfold stageCmd
    dsimp only
    rw [hl]
    rfl
  unfold failsWith
  rw [he]
  unfold command run
  dsimp only
  rw [ho, if_neg (by simp [hn]), hsec]
  dsimp only
  rw [if_neg hg, hstage]

/-- Reading exception records pops them (R280). -/
theorem exceptionRead_up (hr : runsNow h (.engineExceptionRead false n) s) (h1 : 1 ≤ n) (h2 : n ≤ 64) :
    completes (.engineExceptionRead h false n) h 0x0C04 s fun t =>
      t.eng = { s.eng with exUp := s.eng.exUp.drop n } ∧ t = { takeUp h s with eng := t.eng, evc := t.evc, out := t.out } := by
  obtain ⟨x, hx⟩ := takeUp_cmd h s
  have hbody : ∃ d, doEngineExceptionRead false n { s with cmd := x } = okData d
      (syncEx (modEng (fun e => { e with exUp := s.eng.exUp.drop n }) { s with cmd := x })) := by
    unfold doEngineExceptionRead
    rw [require_true (decide_eq_true ⟨h1, h2⟩)]
    exact ⟨_, rfl⟩
  obtain ⟨d, hbody⟩ := hbody
  refine completes_taken hx hr rfl rfl rfl hbody ⟨syncEx_eng _, ?_⟩
  rw [hx]
  exact eq_merged (m := { eng := true, evc := true, out := true }) (by simp)

theorem exceptionRead_down (hr : runsNow h (.engineExceptionRead true n) s) (h1 : 1 ≤ n) (h2 : n ≤ 64) :
    completes (.engineExceptionRead h true n) h 0x0C04 s fun t =>
      t.eng = { s.eng with exDown := s.eng.exDown.drop n } ∧
      t = { takeUp h s with eng := t.eng, evc := t.evc, out := t.out } := by
  obtain ⟨x, hx⟩ := takeUp_cmd h s
  have hbody : ∃ d, doEngineExceptionRead true n { s with cmd := x } = okData d
      (syncEx (modEng (fun e => { e with exDown := s.eng.exDown.drop n }) { s with cmd := x })) := by
    unfold doEngineExceptionRead
    rw [require_true (decide_eq_true ⟨h1, h2⟩)]
    exact ⟨_, rfl⟩
  obtain ⟨d, hbody⟩ := hbody
  refine completes_taken hx hr rfl rfl rfl hbody ⟨syncEx_eng _, ?_⟩
  rw [hx]
  exact eq_merged (m := { eng := true, evc := true, out := true }) (by simp)

end EngineCommands

/-- Settles O48: loading, unloading, staging and the exception records, one lemma for each case. -/
theorem engineCommands : Obligations.EngineCommands := fun _ _ =>
  ⟨fun _ _ => programLoad_completes, fun _ _ => programLoad_invalid, fun _ _ => programLoad_fails,
    fun _ => programUnload_absent, fun _ => programUnload_named, fun _ => programUnload_completes,
    fun _ hg hn => failsWith_notStageable (c := .engineProgramUnload _) rfl rfl hg hn rfl (by decide) rfl,
    fun _ _ hg hn => failsWith_notStageable (c := .engineProgramLoad _ _) rfl rfl hg hn rfl (by decide) rfl,
    fun _ => exceptionRead_up, fun _ => exceptionRead_down⟩

/-! ### O49: dispatch (R272, R273, R276, R282, R302) -/

section Contexts
variable {s : State} {k j : Nat} {r : Option Run}

@[simp] theorem setCtx_self (k : Nat) (r : Option Run) (s : State) : (setCtx k r s).ctx k = r := Tbl.get_set_self _ _ _ _

theorem setCtx_ne (h : j ≠ k) (r : Option Run) (s : State) : (setCtx k r s).ctx j = s.ctx j := Tbl.get_set_ne _ _ _ h

/-- Contexts are what the engines hold. -/
theorem ctx_congr {t : State} (h : t.eng.ctxs = s.eng.ctxs) (k : Nat) : t.ctx k = s.ctx k := by
  unfold State.ctx
  rw [h]

end Contexts

section Dispatch
variable {s : State} {e c : Nat} {r : Run} {l : List Run}

theorem dispatch_up (hq : s.eng.dispUp = r :: l) (he : e < 64) (ho : e ∉ s.eng.out) (ht : s.clk.now < r.queued + us 2)
    (hc : ((List.range 8).find? fun c => (s.ctx (e * 8 + c)).isNone) = some c) : nextWith (.programDispatch false e) s fun t =>
      t.eng.dispUp = l ∧ t.ctx (e * 8 + c) = some { r with engine := e, start := s.clk.now } ∧
      (∀ k, k ≠ e * 8 + c → t.ctx k = s.ctx k) ∧
      t = { s with eng := { s.eng with dispUp := l, ctxs := t.eng.ctxs } } := by
  have hexec : exec (.programDispatch false e) s = .next (setCtx (e * 8 + c) (some { r with engine := e, start := s.clk.now })
      (modEng (fun x => { x with dispUp := l }) s)) := by
    change execProgramDispatch false e s = _
    unfold execProgramDispatch
    simp only [Bool.false_eq_true, if_false, Nat.add_zero]
    rw [hq]
    dsimp only
    rw [hc]
    dsimp only
    rw [if_neg (by simp [ho, he, ht])]
    rfl
  exact nextWith_of hexec ⟨rfl, setCtx_self _ _ _, fun k hk => setCtx_ne hk _ _, rfl⟩

theorem dispatch_down (hq : s.eng.dispDown = r :: l) (he : e < 64) (ho : e + 64 ∉ s.eng.out)
    (ht : s.clk.now < r.queued + us 2)
    (hc : ((List.range 8).find? fun c => (s.ctx ((e + 64) * 8 + c)).isNone) = some c) :
    nextWith (.programDispatch true e) s fun t =>
      t.eng.dispDown = l ∧ t.ctx ((e + 64) * 8 + c) = some { r with engine := e + 64, start := s.clk.now } ∧
      (∀ k, k ≠ (e + 64) * 8 + c → t.ctx k = s.ctx k) ∧
      t = { s with eng := { s.eng with dispDown := l, ctxs := t.eng.ctxs } } := by
  have hexec : exec (.programDispatch true e) s = .next (setCtx ((e + 64) * 8 + c)
      (some { r with engine := e + 64, start := s.clk.now }) (modEng (fun x => { x with dispDown := l }) s)) := by
    change execProgramDispatch true e s = _
    unfold execProgramDispatch
    simp only [if_true]
    rw [hq]
    dsimp only
    rw [hc]
    dsimp only
    rw [if_neg (by simp [ho, he, ht])]
    rfl
  exact nextWith_of hexec ⟨rfl, setCtx_self _ _ _, fun k hk => setCtx_ne hk _ _, rfl⟩

theorem dispatch_outOfService (ho : e ∈ s.eng.out) : exec (.programDispatch false e) s = .next s := by
  change execProgramDispatch false e s = _
  unfold execProgramDispatch
  simp only [Bool.false_eq_true, if_false, Nat.add_zero]
  split
  · rfl
  · split
    · rfl
    · rw [if_pos (.inr (.inl (by simpa using ho)))]

/-! The queues' packets older than 2 µs -/

/-- The packets that have waited less than 2 µs. -/
def young (now : Instant) (l : List Run) : List Run := l.filter fun r => decide (now < r.queued + us 2)

/-- The packets that have waited 2 µs. -/
def overdue (now : Instant) (l : List Run) : List Run := l.filter fun r => decide (r.queued + us 2 ≤ now)

theorem young_eq (now : Instant) (l : List Run) : (l.filter fun r => !decide (r.queued + us 2 ≤ now)) = young now l := by
  unfold young
  congr 1
  funext r
  rw [← decide_not, decide_eq_decide]
  exact not_le

theorem young_of_none {now : Instant} {l : List Run} (h : (overdue now l).isEmpty = true) : young now l = l := by
  unfold young overdue at *
  rw [List.isEmpty_iff, List.filter_eq_nil_iff] at h
  rw [List.filter_eq_self]
  intro r hr
  simpa using h r hr

theorem foldl_dropPkt_eng (l : List Run) (s : State) : (l.foldl (fun s r => dropPkt r.pkt s) s).eng = s.eng := by
  induction l generalizing s with
  | nil => rfl
  | cons r l ih => rw [List.foldl_cons, ih, dropPkt_eng]

theorem exec_dispatchTimeout (d : Bool) (s : State) : exec (.dispatchTimeout d) s = .next (
    let l := if d then s.eng.dispDown else s.eng.dispUp
    if (overdue s.clk.now l).isEmpty then s
    else raiseOnce 0xFA ((overdue s.clk.now l).foldl (fun s r => dropPkt r.pkt s)
      (modEng (fun x => { x with nOverrun := x.nOverrun + (overdue s.clk.now l).length })
        (modEng (fun x => if d then { x with dispDown := young s.clk.now l } else { x with dispUp := young s.clk.now l }) s)))) := by
  change execDispatchTimeout d s = _
  unfold execDispatchTimeout
  dsimp only
  rw [young_eq]
  rfl

theorem dispatchTimeout_up (s : State) : nextWith (.dispatchTimeout false) s fun t =>
    t.eng = { s.eng with
      dispUp := s.eng.dispUp.filter fun r => decide (s.clk.now < r.queued + us 2)
      nOverrun := s.eng.nOverrun + (s.eng.dispUp.filter fun r => decide (r.queued + us 2 ≤ s.clk.now)).length } ∧
    t = { s with clk := t.clk, eng := t.eng, evc := t.evc, pmc := t.pmc, out := t.out } := by
  refine nextWith_of (exec_dispatchTimeout false s) ?_
  change _ = { s.eng with
    dispUp := young s.clk.now s.eng.dispUp, nOverrun := s.eng.nOverrun + (overdue s.clk.now s.eng.dispUp).length } ∧ _
  dsimp only
  simp only [Bool.false_eq_true, if_false]
  split
  · next hnone => exact ⟨by rw [young_of_none hnone, List.isEmpty_iff.mp hnone]; rfl, rfl⟩
  · refine ⟨?_, eq_merged (m := { clk := true, eng := true, evc := true, pmc := true, out := true }) (by simp)⟩
    rw [raiseOnce_eng, foldl_dropPkt_eng]
    rfl

theorem dispatchTimeout_down (s : State) : nextWith (.dispatchTimeout true) s fun t =>
    t.eng = { s.eng with
      dispDown := s.eng.dispDown.filter fun r => decide (s.clk.now < r.queued + us 2)
      nOverrun := s.eng.nOverrun + (s.eng.dispDown.filter fun r => decide (r.queued + us 2 ≤ s.clk.now)).length } ∧
    t = { s with clk := t.clk, eng := t.eng, evc := t.evc, pmc := t.pmc, out := t.out } := by
  refine nextWith_of (exec_dispatchTimeout true s) ?_
  change _ = { s.eng with
    dispDown := young s.clk.now s.eng.dispDown, nOverrun := s.eng.nOverrun + (overdue s.clk.now s.eng.dispDown).length } ∧ _
  dsimp only
  simp only [if_true]
  split
  · next hnone => exact ⟨by rw [young_of_none hnone, List.isEmpty_iff.mp hnone]; rfl, rfl⟩
  · refine ⟨?_, eq_merged (m := { clk := true, eng := true, evc := true, pmc := true, out := true }) (by simp)⟩
    rw [raiseOnce_eng, foldl_dropPkt_eng]
    rfl

theorem waitAuth_returns {k : Nat} (hk : s.ctx k = some r) (hw : r.waiting = true) (ha : r.pkt.md.auth ≠ .pending) :
    nextWith (.waitAuth k) s fun t =>
      t.ctx k = some { r with waiting := false } ∧ (∀ j, j ≠ k → t.ctx j = s.ctx j) ∧
      t = { s with eng := { s.eng with ctxs := t.eng.ctxs } } := by
  have hexec : exec (.waitAuth k) s = .next (setCtx k (some { r with waiting := false }) s) := by
    change execWaitAuth k s = _
    unfold execWaitAuth
    rw [hk]
    dsimp only
    rw [if_pos (by simp [hw, ha])]
  exact nextWith_of hexec ⟨setCtx_self _ _ _, fun j hj => setCtx_ne hj _ _, rfl⟩

theorem waitAuth_waits {k : Nat} (hk : s.ctx k = some r) (ha : r.pkt.md.auth = .pending) :
    exec (.waitAuth k) s = .next s := by
  change execWaitAuth k s = _
  unfold execWaitAuth
  rw [hk]
  dsimp only
  rw [if_neg (by simp [ha])]

/-- Taking an engine off the list of those out of service. -/
theorem mem_filter_ne {l : List Nat} {y : Nat} (x : Nat) : x ∈ l.filter (fun e => e != y) ↔ x ∈ l ∧ x ≠ y := by
  simp [List.mem_filter]

theorem engineReload_next (he : e < 128) : nextWith (.engineReload e) s fun t =>
    (∀ x, x ∈ t.eng.out ↔ x ∈ s.eng.out ∧ x ≠ e) ∧ t = { s with eng := { s.eng with out := t.eng.out } } :=
  nextWith_of (congrArg Host.Outcome.next (if_pos he)) ⟨mem_filter_ne, rfl⟩

theorem engineRestart_line (he : e < 48) : nextWith (.engineRestart false e) s fun t =>
    (∀ x, x ∈ t.eng.out ↔ x ∈ s.eng.out ∧ x ≠ 256 + e) ∧ t = { s with eng := { s.eng with out := t.eng.out } } :=
  nextWith_of (congrArg Host.Outcome.next (if_pos he)) ⟨mem_filter_ne, rfl⟩

theorem engineRestart_control (he : e < 16) : nextWith (.engineRestart true e) s fun t =>
    (∀ x, x ∈ t.eng.out ↔ x ∈ s.eng.out ∧ x ≠ 512 + e) ∧ t = { s with eng := { s.eng with out := t.eng.out } } :=
  nextWith_of (congrArg Host.Outcome.next (if_pos he)) ⟨mem_filter_ne, rfl⟩

end Dispatch

/-! ### O49: runs (R274, R276 to R280) -/

section Exceptions
variable {s : State} {k j : Nat} {r : Run}

/-- An exception record with room in its FIFO (R280). -/
theorem putRecord_room {x : ExRecord} (hl : s.eng.exUp.length < 1024) : (putRecord false x s).eng =
    { s.eng with exUp := s.eng.exUp ++ [{ x with gap := s.eng.gapUp }], gapUp := false } := by
  unfold putRecord
  simp only [Bool.false_eq_true, if_false]
  rw [syncEx_eng, if_neg (not_le.mpr hl)]
  rfl

/-- One that finds the FIFO full is lost. -/
theorem putRecord_full {x : ExRecord} (hl : 1024 ≤ s.eng.exUp.length) : (putRecord false x s).eng =
    { s.eng with lostUp := satInc 16 s.eng.lostUp, gapUp := true } := by
  unfold putRecord
  simp only [Bool.false_eq_true, if_false]
  rw [syncEx_eng, if_pos hl]
  rfl

/-- A record touches no context and no count of drops. -/
theorem putRecord_counts (d : Bool) (x : ExRecord) (s : State) : (putRecord d x s).eng.ctxs = s.eng.ctxs ∧
    (putRecord d x s).eng.nException = s.eng.nException ∧ (putRecord d x s).eng.nAuthFail = s.eng.nAuthFail := by
  unfold putRecord
  dsimp only
  rw [syncEx_eng]
  cases d
  · simp only [Bool.false_eq_true, if_false]
    split <;> exact ⟨rfl, rfl, rfl⟩
  · simp only [if_true]
    split <;> exact ⟨rfl, rfl, rfl⟩

theorem countException_eng (k : Nat) (s : State) : ∃ p, (countException k s).eng = { s.eng with progs := p } := by
  unfold countException
  dsimp only
  split
  · exact ⟨_, rfl⟩
  · rw [apply_ite State.eng, raise_eng, ite_self]
    exact ⟨_, rfl⟩

/-- The record of a run that ends with an exception (R279, R280). -/
def exRecord (k code pc count : Nat) (r : Run) (s : State) : ExRecord := {
  code := code, gap := false, pending := r.pkt.md.auth == .pending, prog := r.prog, version := progVersion r.prog s
  engine := engineByte k, pass := r.pkt.md.pass, pc := pc, count := count, time := switchTime s, md := r.pkt.md
  bytes := r.pkt.bytes.take 64 }

/-- The engines once a run's record is kept. -/
def recorded (k code pc count : Nat) (r : Run) (s : State) : Machine.Engines :=
  (putRecord r.pkt.md.down (exRecord k code pc count r (setCtx k none s)) (setCtx k none s)).eng

/-- The engines after a run has ended with an exception (R279). -/
theorem runException_eng (k code pc count : Nat) (r : Run) (s : State) : ∃ p, (runException k code pc count r s).eng =
    if r.pkt.md.auth = .fail then
      { recorded k code pc count r s with progs := p, nAuthFail := (recorded k code pc count r s).nAuthFail + 1 }
    else { recorded k code pc count r s with progs := p, nException := (recorded k code pc count r s).nException + 1 } := by
  obtain ⟨p, hp⟩ := countException_eng r.prog
    (putRecord r.pkt.md.down (exRecord k code pc count r (setCtx k none s)) (setCtx k none s))
  refine ⟨p, ?_⟩
  unfold runException
  dsimp only
  split
  · rw [traceEnd_eng, pmcDrop_eng]
    exact congrArg (fun x : Machine.Engines => { x with nAuthFail := x.nAuthFail + 1 }) hp
  · rw [dropPkt_eng]
    exact congrArg (fun x : Machine.Engines => { x with nException := x.nException + 1 }) hp

/-- What is kept of the engines when a run ends with an exception: the other contexts, and all counts of drops but one. -/
structure Excepted (k : Nat) (r : Run) (s t : State) : Prop where
  self : t.ctx k = none
  others : ∀ j, j ≠ k → t.ctx j = s.ctx j
  counts : if r.pkt.md.auth = .fail then t.eng.nAuthFail = s.eng.nAuthFail + 1 ∧ t.eng.nException = s.eng.nException
    else t.eng.nException = s.eng.nException + 1 ∧ t.eng.nAuthFail = s.eng.nAuthFail

theorem Excepted.sum {t : State} (h : Excepted k r s t) :
    t.eng.nException + t.eng.nAuthFail = s.eng.nException + s.eng.nAuthFail + 1 := by
  have hcounts := h.counts
  split at hcounts <;> omega

theorem runException_excepted (k code pc count : Nat) (r : Run) (s : State) :
    Excepted k r s (runException k code pc count r s) := by
  obtain ⟨hctxs, hexc, hauth⟩ := putRecord_counts r.pkt.md.down (exRecord k code pc count r (setCtx k none s)) (setCtx k none s)
  obtain ⟨p, hp⟩ := runException_eng k code pc count r s
  have hself : (runException k code pc count r s).eng.ctxs = (setCtx k none s).eng.ctxs := by
    rw [hp]
    split <;> exact hctxs
  refine ⟨(ctx_congr hself k).trans (setCtx_self _ _ _), fun j hj => (ctx_congr hself j).trans (setCtx_ne hj _ _), ?_⟩
  rw [hp]
  split
  · exact ⟨congrArg (· + 1) hauth, hexc⟩
  · exact ⟨congrArg (· + 1) hexc, hauth⟩

/-- The upstream record of a run that ends with an exception. -/
theorem runException_room {code pc count : Nat} (hd : r.pkt.md.down = false) (hl : s.eng.exUp.length < 1024) :
    ∃ x, (runException k code pc count r s).eng.exUp = s.eng.exUp ++ [x] ∧ x.code = code ∧ x.prog = r.prog ∧ x.pc = pc ∧
      x.gap = s.eng.gapUp ∧ (runException k code pc count r s).eng.gapUp = false ∧
      (runException k code pc count r s).eng.lostUp = s.eng.lostUp ∧
      (runException k code pc count r s).eng.exDown = s.eng.exDown := by
  obtain ⟨p, hp⟩ := runException_eng k code pc count r s
  have hrec := putRecord_room (s := setCtx k none s) (x := exRecord k code pc count r (setCtx k none s)) hl
  unfold recorded at hp
  rw [hd, hrec] at hp
  rw [hp]
  split <;> exact ⟨_, rfl, rfl, rfl, rfl, rfl, rfl, rfl, rfl⟩

theorem runException_full {code pc count : Nat} (hd : r.pkt.md.down = false) (hl : 1024 ≤ s.eng.exUp.length) :
    (runException k code pc count r s).eng.exUp = s.eng.exUp ∧ (runException k code pc count r s).eng.gapUp = true ∧
      (runException k code pc count r s).eng.lostUp = satInc 16 s.eng.lostUp ∧
      (runException k code pc count r s).eng.exDown = s.eng.exDown := by
  obtain ⟨p, hp⟩ := runException_eng k code pc count r s
  have hrec := putRecord_full (s := setCtx k none s) (x := exRecord k code pc count r (setCtx k none s)) hl
  unfold recorded at hp
  rw [hd, hrec] at hp
  rw [hp]
  split <;> exact ⟨rfl, rfl, rfl, rfl⟩

theorem runException_frame (k code pc count : Nat) (r : Run) (s : State) :
    rest { clk := true, eng := true, evc := true, pmc := true, out := true } (runException k code pc count r s) =
      rest { clk := true, eng := true, evc := true, pmc := true, out := true } s := by simp

end Exceptions

section Runs
variable {s : State} {k i pc : Nat} {st : RunStep} {r : Run}

theorem callReturn_free (hk : s.ctx k = none) : exec (.callReturn k i pc st) s = .next s := by
  change execCallReturn k i pc st s = _
  unfold execCallReturn
  rw [hk]

theorem callReturn_waits (hk : s.ctx k = some r) (hw : r.waiting = true) : exec (.callReturn k i pc st) s = .next s := by
  change execCallReturn k i pc st s = _
  unfold execCallReturn
  rw [hk]
  dsimp only
  rw [if_pos hw]

/-- What the statement says of a run that ends with an exception at its limit of time or of instructions. -/
def limitReached (k pc : Nat) (r : Run) (s t : State) : Prop :=
  t.ctx k = none ∧ (∀ j, j ≠ k → t.ctx j = s.ctx j) ∧
  (if r.pkt.md.auth = .fail then t.eng.nAuthFail = s.eng.nAuthFail + 1 ∧ t.eng.nException = s.eng.nException
    else t.eng.nException = s.eng.nException + 1 ∧ t.eng.nAuthFail = s.eng.nAuthFail) ∧
  (r.pkt.md.down = false → s.eng.exUp.length < 1024 → ∃ x, t.eng.exUp = s.eng.exUp ++ [x] ∧
    x.code = (if r.start + us 6 ≤ s.clk.now then 2 else 1) ∧ x.prog = r.prog ∧ x.pc = pc ∧ x.gap = s.eng.gapUp ∧
    t.eng.gapUp = false ∧ t.eng.lostUp = s.eng.lostUp ∧ t.eng.exDown = s.eng.exDown) ∧
  (r.pkt.md.down = false → 1024 ≤ s.eng.exUp.length → t.eng.exUp = s.eng.exUp ∧ t.eng.gapUp = true ∧
    t.eng.lostUp = satInc 16 s.eng.lostUp ∧ t.eng.exDown = s.eng.exDown) ∧
  t = { s with clk := t.clk, eng := t.eng, evc := t.evc, pmc := t.pmc, out := t.out }

/-- A run that ends at a limit, from a state `u` in which its instructions may have been booked (R311). -/
theorem limitReached_of {u : State} {code count : Nat} (hu : u.eng = s.eng)
    (hrest : rest { clk := true, eng := true, evc := true, pmc := true, out := true } u =
      rest { clk := true, eng := true, evc := true, pmc := true, out := true } s)
    (hcode : code = if r.start + us 6 ≤ s.clk.now then 2 else 1) :
    limitReached k pc r s (runException k code pc count r u) := by
  obtain ⟨hself, hothers, hcounts⟩ := runException_excepted k code pc count r u
  rw [hu] at hcounts
  refine ⟨hself, fun j hj => (hothers j hj).trans (ctx_congr (congrArg _ hu) j), hcounts, fun hd hl => ?_, fun hd hl => ?_,
    eq_merged ((runException_frame k code pc count r u).trans hrest)⟩
  · have hroom := runException_room (k := k) (code := code) (pc := pc) (count := count) (s := u) hd (by rw [hu]; exact hl)
    rw [hu, hcode] at hroom
    rw [← hcode]
    rwa [← hcode] at hroom
  · have hfull := runException_full (k := k) (code := code) (pc := pc) (count := count) (s := u) hd (by rw [hu]; exact hl)
    rwa [hu] at hfull

theorem callReturn_limit (hk : s.ctx k = some r) (hw : r.waiting = false)
    (hlim : r.start + us 6 ≤ s.clk.now ∨ 512 < r.issued + i) : nextWith (.callReturn k i pc st) s (limitReached k pc r s) := by
  by_cases ht : r.start + us 6 ≤ s.clk.now
  · have hexec : exec (.callReturn k i pc st) s = .next (runException k 2 pc r.issued r s) := by
      change execCallReturn k i pc st s = _
      unfold execCallReturn
      rw [hk]
      dsimp only
      rw [if_neg (by simp [hw]), if_pos ht]
    exact nextWith_of hexec (limitReached_of rfl rfl (by rw [if_pos ht]))
  · have hover := hlim.resolve_left ht
    have hexec : exec (.callReturn k i pc st) s =
        .next (runException k 1 pc 512 r (retire k (512 - r.issued) pc r true false s)) := by
      change execCallReturn k i pc st s = _
      unfold execCallReturn
      rw [hk]
      dsimp only
      rw [if_neg (by simp [hw]), if_neg ht, if_pos (by split <;> omega)]
    exact nextWith_of hexec (limitReached_of (retire_eng _ _ _ _ _ _ _) (by simp) (by rw [if_neg ht]))

/-- The run of a context once its instructions up to a step are issued. -/
def issuedRun (r : Run) (i pc : Nat) : Run := { r with issued := r.issued + i + 1, pc := pc }

/-- A step whose instruction retires is taken, with its instructions booked and sampled (R311, R313). -/
theorem exec_callReturn (hk : s.ctx k = some r) (hw : r.waiting = false) (ht : s.clk.now < r.start + us 6)
    (hi : r.issued + i < 512) (hf : RunStep.faults st = false) : exec (.callReturn k i pc st) s =
      .next (runStep k pc (r.issued + i + 1) (issuedRun r i pc) st (setCtx k (some (issuedRun r i pc))
        (retire k (i + 1) pc r (RunStep.ends st) (RunStep.yields st) s))) := by
  change execCallReturn k i pc st s = _
  unfold execCallReturn
  rw [hk]
  dsimp only
  rw [if_neg (by simp [hw]), if_neg (not_le.mpr ht), hf]
  simp only [Bool.false_eq_true, if_false]
  rw [if_neg (by omega)]
  rfl

section Step
variable (hk : s.ctx k = some r) (hw : r.waiting = false) (ht : s.clk.now < r.start + us 6) (hi : r.issued + i < 512)

/-- The state in which the step of a run is taken. -/
def stepped (k i pc : Nat) (st : RunStep) (r : Run) (s : State) : State :=
  setCtx k (some (issuedRun r i pc)) (retire k (i + 1) pc r (RunStep.ends st) (RunStep.yields st) s)

theorem stepped_eng : (stepped k i pc st r s).eng = (setCtx k (some (issuedRun r i pc)) s).eng :=
  congrArg (fun e : Machine.Engines => { e with ctxs := Tbl.set none e.ctxs k (some (issuedRun r i pc)) })
    (retire_eng _ _ _ _ _ _ _)

theorem stepped_others {j : Nat} (hj : j ≠ k) : (stepped k i pc st r s).ctx j = s.ctx j :=
  (ctx_congr (congrArg _ stepped_eng) j).trans (setCtx_ne hj _ _)

theorem rest_stepped {sc : Scope} (hsc : sc.clk ∧ sc.eng ∧ sc.evc ∧ sc.pmc ∧ sc.out) :
    rest sc (stepped k i pc st r s) = rest sc s := by
  unfold stepped
  simp [hsc]

include hk hw ht hi

theorem callReturn_timeRead : nextWith (.callReturn k i pc .timeRead) s fun t =>
    (if r.calls < 16 then
      t.ctx k = some { r with issued := r.issued + i + 1, pc := pc, calls := r.calls + 1 } ∧
        t.eng = { s.eng with ctxs := t.eng.ctxs }
    else t.ctx k = none ∧ t.eng.nException + t.eng.nAuthFail = s.eng.nException + s.eng.nAuthFail + 1) ∧
    (∀ j, j ≠ k → t.ctx j = s.ctx j) ∧
    t = { s with clk := t.clk, eng := t.eng, evc := t.evc, pmc := t.pmc, out := t.out } := by
  have hexec := exec_callReturn (pc := pc) (st := .timeRead) hk hw ht hi rfl
  by_cases hc : r.calls < 16
  · have hcall : (issuedRun r i pc).call = some { issuedRun r i pc with calls := r.calls + 1 } :=
      if_neg (not_le.mpr hc)
    have hstep : exec (.callReturn k i pc .timeRead) s =
        .next (setCtx k (some { issuedRun r i pc with calls := r.calls + 1 }) (stepped k i pc .timeRead r s)) := by
      rw [hexec]
      unfold runStep
      dsimp only
      rw [hcall]
      rfl
    refine nextWith_of hstep ⟨?_, fun j hj => (setCtx_ne hj _ _).trans (stepped_others hj), ?_⟩
    · rw [if_pos hc]
      refine ⟨setCtx_self _ _ _, ?_⟩
      unfold setCtx modEng
      dsimp only
      rw [stepped_eng]
      rfl
    · exact eq_merged (m := { clk := true, eng := true, evc := true, pmc := true, out := true })
        ((rest_setCtx _ _ _ (by simp)).trans (rest_stepped (by simp)))
  · have hcall : (issuedRun r i pc).call = none := if_pos (not_lt.mp hc)
    have hstep : exec (.callReturn k i pc .timeRead) s =
        .next (runException k 5 pc (r.issued + i + 1) (issuedRun r i pc) (stepped k i pc .timeRead r s)) := by
      rw [hexec]
      unfold runStep
      dsimp only
      rw [hcall]
      rfl
    have hexc := runException_excepted k 5 pc (r.issued + i + 1) (issuedRun r i pc) (stepped k i pc .timeRead r s)
    refine nextWith_of hstep ⟨?_, fun j hj => (hexc.others j hj).trans (stepped_others hj), ?_⟩
    · rw [if_neg hc]
      have hsum := hexc.sum
      rw [stepped_eng] at hsum
      exact ⟨hexc.self, hsum⟩
    · exact eq_merged ((runException_frame _ _ _ _ _ _).trans (rest_stepped (by simp)))

theorem callReturn_waitAuth : nextWith (.callReturn k i pc .waitAuth) s fun t =>
    (r.calls < 16 → t.ctx k = some { r with
      issued := r.issued + i + 1, pc := pc, calls := r.calls + 1, waiting := r.pkt.md.auth == .pending }) ∧
    (∀ j, j ≠ k → t.ctx j = s.ctx j) ∧
    t = { s with clk := t.clk, eng := t.eng, evc := t.evc, pmc := t.pmc, out := t.out } := by
  have hexec := exec_callReturn (pc := pc) (st := .waitAuth) hk hw ht hi rfl
  by_cases hc : r.calls < 16
  · have hcall : (issuedRun r i pc).call = some { issuedRun r i pc with calls := r.calls + 1 } :=
      if_neg (not_le.mpr hc)
    have hstep : exec (.callReturn k i pc .waitAuth) s = .next (setCtx k (some { issuedRun r i pc with
        calls := r.calls + 1, waiting := r.pkt.md.auth == .pending }) (stepped k i pc .waitAuth r s)) := by
      rw [hexec]
      unfold runStep
      dsimp only
      rw [hcall]
      rfl
    refine nextWith_of hstep ⟨fun _ => setCtx_self _ _ _, fun j hj => (setCtx_ne hj _ _).trans (stepped_others hj), ?_⟩
    exact eq_merged (m := { clk := true, eng := true, evc := true, pmc := true, out := true })
      ((rest_setCtx _ _ _ (by simp)).trans (rest_stepped (by simp)))
  · have hcall : (issuedRun r i pc).call = none := if_pos (not_lt.mp hc)
    have hstep : exec (.callReturn k i pc .waitAuth) s =
        .next (runException k 5 pc (r.issued + i + 1) (issuedRun r i pc) (stepped k i pc .waitAuth r s)) := by
      rw [hexec]
      unfold runStep
      dsimp only
      rw [hcall]
      rfl
    have hexc := runException_excepted k 5 pc (r.issued + i + 1) (issuedRun r i pc) (stepped k i pc .waitAuth r s)
    exact nextWith_of hstep ⟨fun h => absurd h hc, fun j hj => (hexc.others j hj).trans (stepped_others hj),
      eq_merged ((runException_frame _ _ _ _ _ _).trans (rest_stepped (by simp)))⟩

theorem callReturn_exitSkip : nextWith (.callReturn k i pc .exitSkip) s fun t =>
    t.ctx k = none ∧ (∀ j, j ≠ k → t.ctx j = s.ctx j) ∧ t.eng.nException = s.eng.nException ∧
    t = { s with
      clk := t.clk, cls := t.cls, q := t.q, ports := t.ports, eng := t.eng, evc := t.evc, pmc := t.pmc, out := t.out } := by
  have heng : (terminal r.last (issuedRun r i pc).act (setCtx k none (stepped k i pc .exitSkip r s))).eng =
      (setCtx k none (stepped k i pc .exitSkip r s)).eng := terminal_eng _ _ _
  refine nextWith_of (exec_callReturn (pc := pc) (st := .exitSkip) hk hw ht hi rfl)
    ⟨(ctx_congr (congrArg _ heng) k).trans (setCtx_self _ _ _),
      fun j hj => (ctx_congr (congrArg _ heng) j).trans ((setCtx_ne hj _ _).trans (stepped_others hj)), ?_, ?_⟩
  · have hexc : (stepped k i pc .exitSkip r s).eng.nException = s.eng.nException := by
      rw [stepped_eng]
      rfl
    exact (congrArg Machine.Engines.nException heng).trans hexc
  · exact eq_merged (m := {
        clk := true, cls := true, q := true, ports := true, eng := true, evc := true, pmc := true, out := true })
      ((rest_runStep _ _ _ _ _ _ (by simp)).trans (rest_stepped (by simp)))

end Step

theorem timeException_ends (hk : s.ctx k = some r) (ht : r.start + us 6 ≤ s.clk.now) :
    nextWith (.programTimeException k) s fun t =>
      t.ctx k = none ∧ (∀ j, j ≠ k → t.ctx j = s.ctx j) ∧
      t.eng.nException + t.eng.nAuthFail = s.eng.nException + s.eng.nAuthFail + 1 ∧
      t = { s with clk := t.clk, eng := t.eng, evc := t.evc, pmc := t.pmc, out := t.out } := by
  have hexec : exec (.programTimeException k) s = .next (runException k 2 r.pc r.issued r s) := by
    change execProgramTimeException k s = _
    unfold execProgramTimeException
    rw [hk]
    dsimp only
    rw [if_pos ht]
  have hexc := runException_excepted k 2 r.pc r.issued r s
  exact nextWith_of hexec ⟨hexc.self, hexc.others, hexc.sum, eq_merged (runException_frame _ _ _ _ _ _)⟩

theorem timeException_waits (hk : s.ctx k = some r) (ht : s.clk.now < r.start + us 6) :
    exec (.programTimeException k) s = .next s := by
  change execProgramTimeException k s = _
  unfold execProgramTimeException
  rw [hk]
  dsimp only
  rw [if_neg (not_le.mpr ht)]

end Runs

/-- Settles O49: dispatch, engines that return, and the ways a run goes on or ends, one lemma each. -/
theorem engineRuns : Obligations.EngineRuns :=
  ⟨fun s => ⟨fun _ _ _ _ => dispatch_up, fun _ _ _ _ => dispatch_down, fun _ _ => dispatch_outOfService,
      dispatchTimeout_up s, dispatchTimeout_down s, fun _ _ => waitAuth_returns, fun _ _ => waitAuth_waits,
      fun _ => engineReload_next, fun _ => engineRestart_line, fun _ => engineRestart_control⟩,
    fun _ _ _ _ _ => ⟨callReturn_free, fun _ => callReturn_waits, fun _ => callReturn_limit, fun _ => callReturn_timeRead,
      fun _ => callReturn_waitAuth, fun _ => callReturn_exitSkip, fun _ => timeException_ends, fun _ => timeException_waits⟩⟩

end Sys2Proof.Proofs.Engines
end

section
/-!
The event controller's registers (R292 to R298): O50 and O51.
-/
namespace Sys2Proof.Proofs.EventRegisters
open Sys2Proof Sys2Proof.Machine Sys2Proof.Proofs.Rules

set_option Elab.async false

/-! ### Interrupt targets -/

/-- Only the targets of the event controller and what is sent differ. -/
def targetsOnly (s t : State) : Prop := t = { s with evc := { s.evc with targets := t.evc.targets }, out := t.out }

theorem targetsOnly.refl (s : State) : targetsOnly s s := rfl

theorem targetsOnly.trans {s t u : State} (h : targetsOnly s t) (k : targetsOnly t u) : targetsOnly s u := by
  unfold targetsOnly at *
  rw [k, h]

theorem targetsOnly_set (k : Nat) (g : Target) (s : State) : targetsOnly s { s with evc := s.evc.setTarget k g } := rfl

theorem targetsOnly_modTarget (k : Nat) (f : Target → Target) (s : State) : targetsOnly s (modTarget k f s) := rfl

section
variable {s t : State} (h : targetsOnly s t)
include h

theorem targetsOnly.pend : t.evc.pend = s.evc.pend := by
  unfold targetsOnly at h
  rw [h]

theorem targetsOnly.count : t.evc.count = s.evc.count := by
  unfold targetsOnly at h
  rw [h]

theorem targetsOnly.mask : t.evc.mask = s.evc.mask := by
  unfold targetsOnly at h
  rw [h]

theorem targetsOnly.cfg : t.evc.cfg = s.evc.cfg := by
  unfold targetsOnly at h
  rw [h]

theorem targetsOnly.evOnly : evOnly s t := by
  unfold targetsOnly at h
  unfold Machine.evOnly
  rw [h]

/-- Whether a target has an eligible source depends on its own stack alone (R293, R295). -/
theorem targetsOnly.anyEligible {k : Nat} (hs : (t.evc.target k).stack = (s.evc.target k).stack) :
    t.evc.anyEligible k = s.evc.anyEligible k := by
  have he : t.evc.eligible k = s.evc.eligible k := by
    funext n
    unfold Evc.eligible Evc.cfgOf Target.thresh
    rw [hs, h.cfg, h.pend, h.mask]
  simp only [Evc.anyEligible, Evc.candidates, h.cfg, he]

end

@[simp] theorem target_setTarget_self (e : Evc) (k : Nat) (g : Target) : (e.setTarget k g).target k = g :=
  Tbl.get_set_self _ _ _ _

theorem target_setTarget_ne (e : Evc) {k j : Nat} (g : Target) (h : j ≠ k) : (e.setTarget k g).target j = e.target j :=
  Tbl.get_set_ne _ _ _ h

@[simp] theorem modTarget_self (k : Nat) (f : Target → Target) (s : State) :
    (modTarget k f s).evc.target k = f (s.evc.target k) := target_setTarget_self _ _ _

theorem modTarget_ne {k j : Nat} (f : Target → Target) (s : State) (h : j ≠ k) :
    (modTarget k f s).evc.target j = s.evc.target j := target_setTarget_ne _ _ h

/-! What a message, a firing and a target's end do to the targets. -/

theorem sendMsix_targets (k : Nat) (s : State) : targetsOnly s (sendMsix k s) := by
  unfold sendMsix
  dsimp only
  split
  · exact .refl s
  · split <;> rfl

theorem sendMsix_ne {k j : Nat} (s : State) (h : j ≠ k) : (sendMsix k s).evc.target j = s.evc.target j := by
  unfold sendMsix
  dsimp only
  split
  · rfl
  · split
    · exact target_setTarget_ne _ _ h
    · rfl

/-- Of its target a message changes at most whether it is held (R296). -/
theorem sendMsix_self (k : Nat) (s : State) :
    ∃ b, (sendMsix k s).evc.target k = { s.evc.target k with vecHeld := b } := by
  unfold sendMsix
  dsimp only
  split
  · exact ⟨_, rfl⟩
  · split
    · exact ⟨true, target_setTarget_self _ _ _⟩
    · exact ⟨_, rfl⟩

theorem sendMsix_sent {k : Nat} {s : State} (ha : s.pwr.asleep = false) (hen : (s.evc.target k).msixEn = true)
    (hm : (s.evc.target k).vecMasked = false) : sendMsix k s = emit (.msix k) s := by
  simp [sendMsix, ha, hen, hm]

theorem fire_targets (k : Nat) (s : State) : targetsOnly s (fire k s) := by
  unfold fire
  dsimp only
  split
  · rfl
  · exact (targetsOnly_set k _ s).trans (sendMsix_targets k _)

theorem fire_ne {k j : Nat} (s : State) (h : j ≠ k) : (fire k s).evc.target j = s.evc.target j := by
  unfold fire
  dsimp only
  split
  · exact target_setTarget_ne _ _ h
  · exact (sendMsix_ne _ h).trans (target_setTarget_ne _ _ h)

/-- A firing ends the counting of arrivals, and its target is active if a source is eligible (R297). -/
theorem fire_self (k : Nat) (s : State) :
    ((fire k s).evc.target k).firstAt = none ∧ ((fire k s).evc.target k).arrivals = 0 ∧
    (s.evc.anyEligible k = true → ((fire k s).evc.target k).active = true) := by
  unfold fire
  dsimp only
  split
  next hempty =>
    simp only [Bool.and_eq_true, Bool.not_eq_true'] at hempty
    refine ⟨?_, ?_, fun h => absurd h (by simp [hempty.2])⟩ <;> dsimp only <;> rw [target_setTarget_self]
  next =>
    obtain ⟨b, hb⟩ := sendMsix_self k (modTarget k
      (fun g => { g with active := true, arrivals := 0, firstAt := none }) s)
    rw [modTarget_self] at hb
    unfold modTarget modEvc at hb
    rw [hb]
    exact ⟨rfl, rfl, fun _ => rfl⟩

theorem quiet_targets (k : Nat) (s : State) : targetsOnly s (quiet k s) := by
  unfold quiet
  dsimp only
  split <;> rfl

theorem quiet_ne {k j : Nat} (s : State) (h : j ≠ k) : (quiet k s).evc.target j = s.evc.target j := by
  unfold quiet
  dsimp only
  split
  · exact target_setTarget_ne _ _ h
  · rfl

theorem quiet_stack (k : Nat) (s : State) : ((quiet k s).evc.target k).stack = (s.evc.target k).stack := by
  unfold quiet
  dsimp only
  split
  · dsimp only
    rw [target_setTarget_self]
  · rfl

/-- A target with nothing in service and nothing eligible is inactive afterwards (R296). -/
theorem quiet_inactive {k : Nat} {s : State} (hs : (s.evc.target k).stack = []) (he : s.evc.anyEligible k = false) :
    ((quiet k s).evc.target k).active = false := by
  unfold quiet
  dsimp only
  split
  · dsimp only
    rw [target_setTarget_self]
  · next h => simpa [hs, he] using h

theorem quietAll_targets (s : State) : targetsOnly s (quietAll s) :=
  (((quiet_targets 0 s).trans (quiet_targets 1 _)).trans (quiet_targets 2 _)).trans (quiet_targets 3 _)

theorem arrive_targets (n : Nat) (s : State) : targetsOnly s (arrive n s) := by
  unfold arrive
  dsimp only
  split
  · exact .refl s
  · split
    · exact (targetsOnly_set _ _ s).trans (fire_targets _ _)
    · rfl

theorem nest_targets (e : Evc) (n : Nat) (s : State) : targetsOnly s (nest e n s) := by
  unfold nest
  dsimp only
  split
  · exact sendMsix_targets _ s
  · exact .refl s

theorem wakeTarget_targets (e : Evc) (s : State) (k : Nat) : targetsOnly s (wakeTarget e s k) := by
  unfold wakeTarget
  dsimp only
  split
  · exact .refl s
  · split
    · split
      · exact .refl s
      · exact sendMsix_targets k s
    · split
      · exact fire_targets k s
      · exact .refl s

/-- A fold of steps that change only targets changes only targets. -/
theorem foldl_targets {α : Type} {f : State → α → State} (hf : ∀ s a, targetsOnly s (f s a)) (l : List α) (s : State) :
    targetsOnly s (l.foldl f s) := by
  induction l generalizing s with
  | nil => exact .refl s
  | cons a l ih => exact (hf s a).trans (ih _)

theorem settleEvc_targets (e : Evc) (s : State) : targetsOnly s (settleEvc e s) :=
  (foldl_targets (wakeTarget_targets e) _ s).trans (quietAll_targets _)

/-! ### Pending and mask bits -/

theorem one_shl_getLsbD {n m : Nat} (hm : m < 256) : (1#256 <<< n).getLsbD m = decide (m = n) := by
  simp only [BitVec.getLsbD_shiftLeft, BitVec.getLsbD_one, hm, decide_true, Bool.true_and]
  by_cases h : m = n
  · simp [h]
  · simp [h]
    omega

/-- A pending bit set or cleared, and no other (R288). -/
theorem setPend_getLsbD (n : Nat) (b : Bool) (e : Evc) {m : Nat} (hm : m < 256) :
    (setPend n b e).pend.getLsbD m = if m = n then b else e.pend.getLsbD m := by
  cases b
  · simp only [setPend, Bool.false_eq_true, if_false, BitVec.getLsbD_and, BitVec.getLsbD_not, one_shl_getLsbD hm, hm]
    by_cases h : m = n <;> simp [h]
  · simp only [setPend, if_true, BitVec.getLsbD_or, one_shl_getLsbD hm]
    by_cases h : m = n <;> simp [h]

theorem setPend_ne (n : Nat) (b : Bool) (e : Evc) {m : Nat} (h : m ≠ n) :
    (setPend n b e).pend.getLsbD m = e.pend.getLsbD m := by
  by_cases hm : m < 256
  · rw [setPend_getLsbD n b e hm, if_neg h]
  · rw [BitVec.getLsbD_of_ge _ _ (not_lt.mp hm), BitVec.getLsbD_of_ge _ _ (not_lt.mp hm)]

/-- The pending bits of EDGE source `32 w + i` as word `v` has them (EVC_PENDING_WRITE). -/
def putPendBit (s : State) (w : Nat) (v : Word) (e : Evc) (i : Nat) : Evc :=
  if isLevel (32 * w + i) || !mayPend (32 * w + i) s then e else setPend (32 * w + i) (v.getLsbD i) e

theorem putPendBit_eq (s : State) (w : Nat) (v : Word) (e : Evc) (i : Nat) :
    putPendBit s w v e i = { e with pend := (putPendBit s w v e i).pend } := by
  unfold putPendBit
  split <;> rfl

theorem putPendBits_eq (s : State) (w : Nat) (v : Word) (l : List Nat) (e : Evc) :
    l.foldl (putPendBit s w v) e = { e with pend := (l.foldl (putPendBit s w v) e).pend } := by
  induction l generalizing e with
  | nil => rfl
  | cons i l ih =>
    rw [List.foldl_cons, ih, putPendBit_eq]

/-- The write reaches the bits of its word's EDGE sources among the first `j`, and no other. -/
theorem putPendBits_getLsbD (s : State) (w : Nat) (v : Word) (e : Evc) (j : Nat) {m : Nat} (hm : m < 256) :
    ((List.range j).foldl (putPendBit s w v) e).pend.getLsbD m =
      if 32 * w ≤ m ∧ m < 32 * w + j ∧ isLevel m = false ∧ mayPend m s = true then v.getLsbD (m - 32 * w)
      else e.pend.getLsbD m := by
  induction j with
  | zero =>
    rw [if_neg (by omega)]
    rfl
  | succ j ih =>
    rw [List.range_succ, List.foldl_append, List.foldl_cons, List.foldl_nil]
    generalize hx : (List.range j).foldl (putPendBit s w v) e = x at ih
    by_cases hmj : m = 32 * w + j
    · have hj : m - 32 * w = j := by omega
      rw [if_neg (by omega)] at ih
      unfold putPendBit
      rw [← hmj]
      by_cases hp : isLevel m = false ∧ mayPend m s = true
      · rw [if_neg (by simp [hp.1, hp.2]), setPend_getLsbD _ _ _ hm, if_pos rfl, if_pos ⟨by omega, by omega, hp⟩, hj]
      · rw [if_pos, ih, if_neg (fun h => hp h.2.2)]
        simp only [not_and, Bool.not_eq_true] at hp
        cases hl : isLevel m
        · simp [hp hl]
        · rfl
    · have hiff : (32 * w ≤ m ∧ m < 32 * w + (j + 1) ∧ isLevel m = false ∧ mayPend m s = true) ↔
          (32 * w ≤ m ∧ m < 32 * w + j ∧ isLevel m = false ∧ mayPend m s = true) := by
        constructor <;> (rintro ⟨a, b, c⟩; exact ⟨a, by omega, c⟩)
      rw [if_congr hiff rfl rfl, ← ih]
      unfold putPendBit
      split
      · rfl
      · exact setPend_ne _ _ _ hmj

/-- The 256-bit mask with word `w` replaced by `v` (EVC_MASK_WRITE). -/
def putMaskWord (x : BitVec 256) (w : Nat) (v : Word) : BitVec 256 :=
  (x &&& ~~~((0xFFFFFFFF#256) <<< (32 * w))) ||| (v.setWidth 256 <<< (32 * w))

theorem allOnes32_getLsbD (i : Nat) : (0xFFFFFFFF#256).getLsbD i = decide (i < 32) := by
  have h : (0xFFFFFFFF#256) = (BitVec.allOnes 32).setWidth 256 := by decide
  rw [h, BitVec.getLsbD_setWidth, BitVec.getLsbD_allOnes]
  by_cases hi : i < 32
  · simp [hi]
    omega
  · simp [hi]

theorem putMaskWord_getLsbD (x : BitVec 256) (w : Nat) (v : Word) {m : Nat} (hm : m < 256) :
    (putMaskWord x w v).getLsbD m = if m / 32 = w then v.getLsbD (m % 32) else x.getLsbD m := by
  unfold putMaskWord
  simp only [BitVec.getLsbD_or, BitVec.getLsbD_and, BitVec.getLsbD_not, BitVec.getLsbD_shiftLeft, allOnes32_getLsbD,
    BitVec.getLsbD_setWidth, hm, decide_true, Bool.true_and]
  by_cases hw : m / 32 = w
  · have h1 : ¬ m < 32 * w := by omega
    have h2 : m - 32 * w < 32 := by omega
    have h3 : m - 32 * w < 256 := by omega
    have h4 : m % 32 = m - 32 * w := by omega
    simp [hw, h1, h2, h3, h4]
  · by_cases h1 : m < 32 * w
    · simp [hw, h1]
    · have h2 : ¬ m - 32 * w < 32 := by omega
      have h3 : v.getLsbD (m - 32 * w) = false := BitVec.getLsbD_of_ge _ _ (by omega)
      simp [hw, h1, h2, h3]

/-! ### Claim and completion (R293 to R296) -/

/-- The counter and, for an EDGE source, the pending bit are cleared (R288, R294). -/
def cleared (n : Nat) (s : State) : State :=
  let s := modEvc (fun e => { e with count := Tbl.set 0 e.count n 0 }) s
  if isLevel n then s else modEvc (setPend n false) s

/-- What a claim does before the message of a source that is still eligible. -/
def claimed (k n p : Nat) (s : State) : State :=
  emit (.read (claimWord n p (Tbl.get 0 s.evc.count n)))
    (modTarget k (fun g => { g with stack := (n, p) :: g.stack, shown := none }) (cleared n s))

theorem claim_eq (k n p : Nat) (s : State) : claim k n p s =
    if ((claimed k n p s).evc.target k).active && (claimed k n p s).evc.anyEligible k then sendMsix k (claimed k n p s)
    else claimed k n p s := rfl

/-- A message may follow a step of the event controller: it leaves all but whether its target's message is held. -/
theorem maybe_sendMsix (b : Bool) (k : Nat) (s : State) :
    targetsOnly s (if b then sendMsix k s else s) ∧
    (∃ v, (if b then sendMsix k s else s).evc.target k = { s.evc.target k with vecHeld := v }) ∧
    (∀ j, j ≠ k → (if b then sendMsix k s else s).evc.target j = s.evc.target j) ∧
    s.out <:+ (if b then sendMsix k s else s).out := by
  cases b
  · exact ⟨.refl s, ⟨_, rfl⟩, fun _ _ => rfl, List.suffix_refl _⟩
  · exact ⟨sendMsix_targets k s, sendMsix_self k s, fun j => sendMsix_ne s, sendMsix_suffix k s⟩

/-- The pending bits after a claim or a discard: an EDGE source's is cleared (R288). -/
theorem cleared_pend (n : Nat) (s : State) : (cleared n s).evc.pend =
    if isLevel n then s.evc.pend else (setPend n false s.evc).pend := by
  unfold cleared
  cases isLevel n <;> rfl

theorem cleared_frame (n : Nat) (s : State) : (cleared n s).evc.mask = s.evc.mask ∧
    (cleared n s).evc.count = Tbl.set 0 s.evc.count n 0 ∧ evOnly s (cleared n s) := by
  unfold cleared
  cases isLevel n <;> exact ⟨rfl, rfl, rfl⟩

theorem cleared_target (n : Nat) (s : State) (j : Nat) : (cleared n s).evc.target j = s.evc.target j := by
  unfold cleared
  cases isLevel n <;> rfl

theorem claimed_pend (k n p : Nat) (s : State) {m : Nat} (hm : m < 256) :
    (claimed k n p s).evc.pend.getLsbD m = (s.evc.pend.getLsbD m && (m != n || isLevel n)) := by
  change (cleared n s).evc.pend.getLsbD m = _
  rw [cleared_pend]
  by_cases hl : isLevel n
  · simp [hl]
  · rw [if_neg hl, setPend_getLsbD n false _ hm]
    by_cases h : m = n <;> simp [h, hl]

theorem claimed_frame (k n p : Nat) (s : State) :
    (claimed k n p s).evc.mask = s.evc.mask ∧ (claimed k n p s).evc.count = Tbl.set 0 s.evc.count n 0 ∧
    evOnly s (claimed k n p s) := by
  obtain ⟨hmask, hcount, hframe⟩ := cleared_frame n s
  exact ⟨hmask, hcount, hframe.trans rfl⟩

theorem claimed_self (k n p : Nat) (s : State) :
    ((claimed k n p s).evc.target k) = { s.evc.target k with stack := (n, p) :: (s.evc.target k).stack, shown := none } := by
  unfold claimed
  rw [emit_evc, modTarget_self, cleared_target]

theorem claimed_ne {k j : Nat} (n p : Nat) (s : State) (h : j ≠ k) : (claimed k n p s).evc.target j = s.evc.target j := by
  unfold claimed
  rw [emit_evc, modTarget_ne _ _ h, cleared_target]

theorem claimed_read (k n p : Nat) (s : State) :
    .read (claimWord n p (Tbl.get 0 s.evc.count n)) ∈ (claimed k n p s).out := by
  unfold claimed
  exact List.mem_cons_self

section
variable {k : Nat} {s : State} (hk : k < 4) (ha : s.pwr.asleep = false)
include hk ha

theorem evcClaim_claims {n p : Nat} (hc : claimable k s = some (n, p)) : exec (.evcClaim k) s = .next (claim k n p s) := by
  change execEvcClaim k s = _
  unfold execEvcClaim
  rw [awakeRead_eq ha, if_neg (not_le.mpr hk), hc]

theorem evcClaim_takes {n p : Nat} (hc : claimable k s = some (n, p)) : nextWith (.evcClaim k) s fun t =>
    Tbl.get 0 t.evc.count n = 0 ∧ (∀ m, m ≠ n → Tbl.get 0 t.evc.count m = Tbl.get 0 s.evc.count m) ∧
    (t.evc.target k).stack = (n, p) :: (s.evc.target k).stack ∧ (t.evc.target k).shown = none ∧
    (∀ m, m < 256 → t.evc.pend.getLsbD m = (s.evc.pend.getLsbD m && (m != n || isLevel n))) ∧
    (∀ j, j ≠ k → t.evc.target j = s.evc.target j) ∧ t.evc.mask = s.evc.mask ∧
    .read (claimWord n p (Tbl.get 0 s.evc.count n)) ∈ t.out ∧ t = { s with evc := t.evc, out := t.out } := by
  have hexec := evcClaim_claims hk ha hc
  rw [claim_eq] at hexec
  obtain ⟨honly, ⟨v, hself⟩, hne, hout⟩ := maybe_sendMsix
    (((claimed k n p s).evc.target k).active && (claimed k n p s).evc.anyEligible k) k (claimed k n p s)
  obtain ⟨hmask, hcount, hframe⟩ := claimed_frame k n p s
  refine nextWith_of hexec ⟨?_, fun m hm => ?_, ?_, ?_, fun m hm => ?_, fun j hj => ?_, ?_, hout.mem (claimed_read k n p s),
    evOnly.trans hframe honly.evOnly⟩
  · rw [honly.count, hcount, Tbl.get_set_self]
  · rw [honly.count, hcount, Tbl.get_set_ne _ _ _ hm]
  · rw [hself, claimed_self]
  · rw [hself, claimed_self]
  · rw [honly.pend, claimed_pend k n p s hm]
  · rw [hne j hj, claimed_ne n p s hj]
  · rw [honly.mask, hmask]

theorem evcClaim_none (hc : claimable k s = none) :
    exec (.evcClaim k) s = .next { s with out := .read (claimWord 0x3FF 0 0) :: s.out } := by
  change execEvcClaim k s = _
  unfold execEvcClaim
  rw [awakeRead_eq ha, if_neg (not_le.mpr hk), hc]
  rfl

/-- Completion of the top in-service source (R295, R296). -/
theorem evcComplete_top {v : Word} {n p : Nat} {l : List (Nat × Nat)} (hs : (s.evc.target k).stack = (n, p) :: l)
    (hv : v.toNat % 256 = n) : nextWith (.evcComplete k v) s fun t =>
      (t.evc.target k).stack = l ∧ (∀ j, j ≠ k → t.evc.target j = s.evc.target j) ∧ t.evc.pend = s.evc.pend ∧
      t.evc.count = s.evc.count ∧ (l = [] → t.evc.anyEligible k = false → (t.evc.target k).active = false) ∧
      t = { s with evc := t.evc, out := t.out } := by
  generalize hx : modTarget k (fun g => { g with stack := l }) s = x
  have hexec : exec (.evcComplete k v) s =
      .next (quiet k (if (x.evc.target k).active && x.evc.anyEligible k then sendMsix k x else x)) := by
    change Host.Outcome.next (awake s (if 4 ≤ k then s else _)) = _
    rw [awake_eq ha, if_neg (not_le.mpr hk), hs]
    dsimp only
    rw [if_neg (not_not.mpr hv.symm), hx]
  have hxt : targetsOnly s x := hx ▸ targetsOnly_modTarget k _ s
  have hxs : (x.evc.target k).stack = l := by rw [← hx, modTarget_self]
  obtain ⟨honly, ⟨b, hself⟩, hne, -⟩ := maybe_sendMsix ((x.evc.target k).active && x.evc.anyEligible k) k x
  generalize (if (x.evc.target k).active && x.evc.anyEligible k then sendMsix k x else x) = y at hexec honly hself hne
  have hys : (y.evc.target k).stack = l := by rw [hself]; exact hxs
  have hall := (hxt.trans honly).trans (quiet_targets k y)
  refine nextWith_of hexec ⟨?_, fun j hj => ?_, hall.pend, hall.count, fun hl he => ?_, hall.evOnly⟩
  · rw [quiet_stack, hys]
  · rw [quiet_ne _ hj, hne j hj, ← hx, modTarget_ne _ _ hj]
  · rw [(quiet_targets k y).anyEligible (quiet_stack k y)] at he
    exact quiet_inactive (hys.trans hl) he

/-- A number that is not the top in-service source's sets the error bit (R295). -/
theorem evcComplete_bad {v : Word} (hv : ∀ n p l, (s.evc.target k).stack = (n, p) :: l → v.toNat % 256 ≠ n) :
    exec (.evcComplete k v) s = .next (modTarget k (fun g => { g with bad := true }) s) := by
  change Host.Outcome.next (awake s (if 4 ≤ k then s else _)) = _
  rw [awake_eq ha, if_neg (not_le.mpr hk)]
  cases hs : (s.evc.target k).stack with
  | nil => rfl
  | cons x l =>
    dsimp only
    rw [if_pos (hv x.1 x.2 l hs).symm]

end

theorem claimable_some {k n p : Nat} {s : State} (hs : s.evc.select k = some (n, p))
    (hle : ∀ x, (s.evc.target k).shown = some x → x.2 ≤ p) : claimable k s = some (n, p) := by
  unfold claimable
  rw [hs]
  cases hx : (s.evc.target k).shown with
  | none => rfl
  | some x => exact if_pos (hle x hx)

theorem claimable_none {k : Nat} {s : State} (hs : s.evc.select k = none) : claimable k s = none := by
  unfold claimable
  rw [hs]

theorem claimable_below {k n p : Nat} {x : Nat × Nat} {s : State} (hs : s.evc.select k = some (n, p))
    (hx : (s.evc.target k).shown = some x) (hlt : p < x.2) : claimable k s = none := by
  unfold claimable
  rw [hs, hx]
  exact if_neg (not_le.mpr hlt)

/-- Settles O50. -/
theorem claimAndComplete : Obligations.ClaimAndComplete := by
  intro s k hk ha
  refine ⟨fun n p hs hle => evcClaim_takes hk ha (claimable_some hs hle), fun hs => evcClaim_none hk ha (claimable_none hs),
    fun n p x hs hx hlt => evcClaim_none hk ha (claimable_below hs hx hlt),
    fun v n p l hs hv => evcComplete_top hk ha hs hv, fun v hv => ?_⟩
  exact nextWith_of (evcComplete_bad hk ha hv) ⟨modTarget_self k _ s, fun j hj => modTarget_ne _ s hj, rfl⟩

/-! ### Other writes (R288, R293, R296 to R298) -/

section
variable {s : State} (ha : s.pwr.asleep = false)
include ha

theorem evcTrigger_pends {v : Word} (hl : isLevel (v.toNat % 256) = false) (hp : mayPend (v.toNat % 256) s = true) :
    nextWith (.evcTrigger v) s fun t =>
      t.evc.pend.getLsbD (v.toNat % 256) = true ∧ 1 ≤ Tbl.get 0 t.evc.count (v.toNat % 256) ∧
      (∀ m, m ≠ v.toNat % 256 → t.evc.pend.getLsbD m = s.evc.pend.getLsbD m ∧
        Tbl.get 0 t.evc.count m = Tbl.get 0 s.evc.count m) ∧
      t.evc.mask = s.evc.mask ∧ t = { s with evc := t.evc, out := t.out } := by
  have hn : v.toNat % 256 < 256 := Nat.mod_lt _ (by decide)
  generalize hx : modEvc (fun e =>
    { setPend (v.toNat % 256) true e with count := Tbl.modify 0 e.count (v.toNat % 256) (max 1) }) s = x
  have hexec : exec (.evcTrigger v) s = .next (nest s.evc (v.toNat % 256) (arrive (v.toNat % 256) x)) := by
    change Host.Outcome.next (awake s (if isLevel (v.toNat % 256) || !mayPend (v.toNat % 256) s then s else _)) = _
    rw [awake_eq ha, if_neg (by simp [hl, hp]), hx]
  clear hl hp
  generalize v.toNat % 256 = n at hn hexec hx ⊢
  have honly := (arrive_targets n x).trans (nest_targets s.evc n _)
  have hpend : x.evc.pend = (setPend n true s.evc).pend := by rw [← hx]; rfl
  have hcount : x.evc.count = Tbl.modify 0 s.evc.count n (max 1) := by rw [← hx]; rfl
  have hframe : evOnly s x := by rw [← hx]; rfl
  have hmask : x.evc.mask = s.evc.mask := by rw [← hx]; rfl
  refine nextWith_of hexec ⟨?_, ?_, fun m hm => ⟨?_, ?_⟩, honly.mask.trans hmask, hframe.trans honly.evOnly⟩
  · rw [honly.pend, hpend, setPend_getLsbD n true _ hn, if_pos rfl]
  · rw [honly.count, hcount, Tbl.get_modify_self]
    exact le_max_left _ _
  · rw [honly.pend, hpend, setPend_ne _ _ _ hm]
  · rw [honly.count, hcount, Tbl.get_modify_ne _ _ _ hm]


theorem evcTrigger_ignored {v : Word} (h : isLevel (v.toNat % 256) = true ∨ mayPend (v.toNat % 256) s = false) :
    exec (.evcTrigger v) s = .next s := by
  change Host.Outcome.next (awake s (if isLevel (v.toNat % 256) || !mayPend (v.toNat % 256) s then s else _)) = _
  rw [awake_eq ha, if_pos (by rcases h with h | h <;> simp [h])]

theorem evcDiscard_clears (v : Word) : nextWith (.evcDiscard v) s fun t =>
    Tbl.get 0 t.evc.count (v.toNat % 256) = 0 ∧
    t.evc.pend.getLsbD (v.toNat % 256) = (isLevel (v.toNat % 256) && s.evc.pend.getLsbD (v.toNat % 256)) ∧
    (∀ m, m ≠ v.toNat % 256 → t.evc.pend.getLsbD m = s.evc.pend.getLsbD m ∧
      Tbl.get 0 t.evc.count m = Tbl.get 0 s.evc.count m) ∧
    t.evc.mask = s.evc.mask ∧ t = { s with evc := t.evc, out := t.out } := by
  have hn : v.toNat % 256 < 256 := Nat.mod_lt _ (by decide)
  have hexec : exec (.evcDiscard v) s = .next (if isLevel (v.toNat % 256) then cleared (v.toNat % 256) s
      else quietAll (cleared (v.toNat % 256) s)) := by
    change Host.Outcome.next (awake s _) = _
    rw [awake_eq ha]
    unfold cleared
    dsimp only
    cases hl : isLevel (v.toNat % 256) <;> simp
  generalize v.toNat % 256 = n at hn hexec ⊢
  have honly : targetsOnly (cleared n s) (if isLevel n then cleared n s else quietAll (cleared n s)) := by
    split
    · exact .refl _
    · exact quietAll_targets _
  obtain ⟨hmask, hcount, hframe⟩ := cleared_frame n s
  refine nextWith_of hexec ⟨?_, ?_, fun m hm => ⟨?_, ?_⟩, honly.mask.trans hmask, hframe.trans honly.evOnly⟩
  · rw [honly.count, hcount, Tbl.get_set_self]
  · rw [honly.pend, cleared_pend]
    cases isLevel n
    · rw [if_neg (by decide), setPend_getLsbD n false _ hn, if_pos rfl]
      rfl
    · rfl
  · rw [honly.pend, cleared_pend]
    split
    · rfl
    · exact setPend_ne _ _ _ hm
  · rw [honly.count, hcount, Tbl.get_set_ne _ _ _ hm]

theorem evcPendingWrite_puts {w : Nat} (hw : w < 8) (v : Word) : nextWith (.evcPendingWrite w v) s fun t =>
    (∀ m, m < 256 → t.evc.pend.getLsbD m =
      (if m / 32 = w ∧ isLevel m = false ∧ mayPend m s = true then v.getLsbD (m % 32) else s.evc.pend.getLsbD m)) ∧
    t.evc.count = s.evc.count ∧ t.evc.mask = s.evc.mask ∧ t = { s with evc := t.evc, out := t.out } := by
  generalize hx : ({ s with evc := (List.range 32).foldl (putPendBit s w v) s.evc } : State) = x
  have hexec : exec (.evcPendingWrite w v) s = .next (settleEvc s.evc x) := by
    change Host.Outcome.next (awake s (if 8 ≤ w then s else _)) = _
    rw [awake_eq ha, if_neg (not_le.mpr hw), ← hx]
    rfl
  have honly := settleEvc_targets s.evc x
  have hevc : x.evc = { s.evc with pend := ((List.range 32).foldl (putPendBit s w v) s.evc).pend } := by
    rw [← hx]
    exact putPendBits_eq s w v _ s.evc
  have hframe : evOnly s x := by rw [← hx]; rfl
  refine nextWith_of hexec ⟨fun m hm => ?_, ?_, ?_, hframe.trans honly.evOnly⟩
  · have hdiv : m / 32 = w ↔ 32 * w ≤ m ∧ m < 32 * w + 32 := by omega
    rw [honly.pend, hevc]
    dsimp only
    rw [putPendBits_getLsbD s w v s.evc 32 hm]
    by_cases hmw : m / 32 = w
    · have hmod : m % 32 = m - 32 * w := by omega
      simp only [hmw, hmod, (hdiv.mp hmw).1, (hdiv.mp hmw).2, true_and]
    · rw [if_neg (fun h => hmw (hdiv.mpr ⟨h.1, h.2.1⟩)), if_neg (fun h => hmw h.1)]
  · rw [honly.count, hevc]
  · rw [honly.mask, hevc]

theorem evcMaskWrite_puts {w : Nat} (hw : w < 8) (v : Word) : nextWith (.evcMaskWrite w v) s fun t =>
    (∀ m, m < 256 → t.evc.mask.getLsbD m = (if m / 32 = w then v.getLsbD (m % 32) else s.evc.mask.getLsbD m)) ∧
    t.evc.pend = s.evc.pend ∧ t.evc.count = s.evc.count ∧ t = { s with evc := t.evc, out := t.out } := by
  generalize hx : modEvc (fun e => { e with mask := putMaskWord e.mask w v }) s = x
  generalize hl : (List.range 32).filter (fun i =>
    s.evc.mask.getLsbD (32 * w + i) && !v.getLsbD i && s.evc.pend.getLsbD (32 * w + i)) = l
  have hexec : exec (.evcMaskWrite w v) s =
      .next (settleEvc s.evc (l.foldl (fun s i => arrive (32 * w + i) s) x)) := by
    change Host.Outcome.next (awake s (if 8 ≤ w then s else _)) = _
    rw [awake_eq ha, if_neg (not_le.mpr hw), ← hx, ← hl]
    rfl
  have honly := (foldl_targets (fun s i => arrive_targets (32 * w + i) s) l x).trans (settleEvc_targets s.evc _)
  have hframe : evOnly s x := by rw [← hx]; rfl
  have hmask : x.evc.mask = putMaskWord s.evc.mask w v := by rw [← hx]; rfl
  have hrest : x.evc.pend = s.evc.pend ∧ x.evc.count = s.evc.count := by rw [← hx]; exact ⟨rfl, rfl⟩
  refine nextWith_of hexec ⟨fun m hm => ?_, honly.pend.trans hrest.1, honly.count.trans hrest.2, hframe.trans honly.evOnly⟩
  rw [honly.mask, hmask, putMaskWord_getLsbD _ w v hm]

/-- A message that the vector's mask held is sent once at the unmask (R296). -/
theorem msixVectorUnmask_sends {k : Nat} (hk : k < 4) (hheld : (s.evc.target k).vecHeld = true)
    (hact : (s.evc.target k).active = true) (hen : (s.evc.target k).msixEn = true) :
    exec (.msixVectorUnmask k) s =
      .next (emit (.msix k) (modTarget k (fun g => { g with vecMasked := false, vecHeld := false }) s)) := by
  change Host.Outcome.next (if 4 ≤ k then s else if (s.evc.target k).vecHeld && (s.evc.target k).active then
    sendMsix k (modTarget k _ s) else _) = _
  rw [if_neg (not_le.mpr hk), if_pos (by rw [hheld, hact]; rfl), sendMsix_sent]
  · exact ha
  · rw [modTarget_self]
    exact hen
  · rw [modTarget_self]

end

section
variable {s : State} {k : Nat} {f : Instant} (hf : (s.evc.target k).firstAt = some f)
include hf

theorem coalescingTimer_fires (hk : k < 4) (hact : (s.evc.target k).active = false)
    (hdue : f + ns (100 * max (s.evc.target k).coalTime 1) ≤ s.clk.now) : exec (.coalescingTimer k) s = .next (fire k s) := by
  change Host.Outcome.next (match (s.evc.target k).firstAt with | none => s | some f => _) = _
  rw [hf]
  exact congrArg Host.Outcome.next (if_pos (by simp [hk, hact, hdue]))

theorem coalescingTimer_waits (hdue : s.clk.now < f + ns (100 * max (s.evc.target k).coalTime 1)) :
    exec (.coalescingTimer k) s = .next s := by
  change Host.Outcome.next (match (s.evc.target k).firstAt with | none => s | some f => _) = _
  rw [hf]
  exact congrArg Host.Outcome.next (if_neg (by simp [not_le.mpr hdue]))

end

/-- An unmask of a vector that holds no message its target may send changes the vector alone (R296). -/
theorem msixVectorUnmask_quiet {s : State} {k : Nat} (hk : k < 4)
    (h : (s.evc.target k).vecHeld = false ∨ (s.evc.target k).active = false ∨ (s.evc.target k).msixEn = false) :
    exec (.msixVectorUnmask k) s = .next (modTarget k (fun g => { g with vecMasked := false, vecHeld := false }) s) := by
  change Host.Outcome.next (if 4 ≤ k then s else if (s.evc.target k).vecHeld && (s.evc.target k).active then
    sendMsix k (modTarget k _ s) else _) = _
  rw [if_neg (not_le.mpr hk)]
  rcases h with h | h | h
  · rw [h]
    rfl
  · rw [h, Bool.and_false]
    rfl
  · have hno : sendMsix k (modTarget k (fun g => { g with vecMasked := false, vecHeld := false }) s) =
        modTarget k (fun g => { g with vecMasked := false, vecHeld := false }) s := by
      simp [sendMsix, h]
    rw [hno, ite_self]

/-- Settles O51. -/
theorem eventWrites : Obligations.EventWrites := by
  intro s v ha
  refine ⟨evcTrigger_pends ha, evcTrigger_ignored ha, evcDiscard_clears ha v, fun w hw => evcPendingWrite_puts ha hw v,
    fun w hw => evcMaskWrite_puts ha hw v, fun k f hk hact hf hdue => ?_, fun k f hf hlt => coalescingTimer_waits hf hlt,
    fun k hk hheld hact hen => ?_, fun k hk h => ?_⟩
  · obtain ⟨hfirst, harr, hon⟩ := fire_self k s
    exact nextWith_of (coalescingTimer_fires hf hk hact hdue)
      ⟨hfirst, harr, hon, (fire_targets k s).pend, fun j hj => fire_ne s hj, (fire_targets k s).evOnly⟩
  · exact nextWith_of (msixVectorUnmask_sends ha hk hheld hact hen)
      ⟨rfl, by rw [emit_evc, modTarget_self], fun j hj => by rw [emit_evc, modTarget_ne _ _ hj], rfl⟩
  · exact nextWith_of (msixVectorUnmask_quiet hk h) ⟨modTarget_self k _ s, rfl⟩

end Sys2Proof.Proofs.EventRegisters
end

section
/-!
The integrity log, the scrubber, and the performance counters (R292, R299 to R318): O52 and O53.
-/
namespace Sys2Proof.Proofs.IntegrityAndCounters
open Sys2Proof Sys2Proof.Machine Sys2Proof.Proofs.Frames Sys2Proof.Proofs.Rules Sys2Proof.Proofs.EventRegisters

set_option Elab.async false

/-! ### Raising leaves the integrity log (R288 to R290, R303) -/

/-- Of the event controller only what raising and the LEVEL conditions change differs. -/
def raisedOnly (s t : State) : Prop := t.evc = { s.evc with
  pend := t.evc.pend, count := t.evc.count, targets := t.evc.targets, held := t.evc.held }

theorem raisedOnly.refl (s : State) : raisedOnly s s := rfl

theorem raisedOnly.trans {s t u : State} (h : raisedOnly s t) (k : raisedOnly t u) : raisedOnly s u := by
  unfold raisedOnly at *
  rw [k, h]

theorem raisedOnly_of_targets {s t : State} (h : targetsOnly s t) : raisedOnly s t := by
  unfold targetsOnly at h
  unfold raisedOnly
  rw [h]

section
variable {s t : State} (h : raisedOnly s t)
include h

theorem raisedOnly.log : t.evc.log = s.evc.log := by
  unfold raisedOnly at h
  rw [h]

theorem raisedOnly.popped : t.evc.popped = s.evc.popped := by
  unfold raisedOnly at h
  rw [h]

theorem raisedOnly.corrected : t.evc.corrected = s.evc.corrected := by
  unfold raisedOnly at h
  rw [h]

theorem raisedOnly.gapNext : t.evc.gapNext = s.evc.gapNext := by
  unfold raisedOnly at h
  rw [h]

end

theorem land_raised (n : Nat) (s : State) : raisedOnly s (land n s) := by
  unfold land
  dsimp only
  split
  · rfl
  · exact raisedOnly.trans (t := { s with evc := countUp n (setPend n true s.evc) }) rfl
      (raisedOnly_of_targets ((arrive_targets n _).trans (nest_targets s.evc n _)))

theorem raiseOn_raised (line : Bool) (n : Nat) (s : State) : raisedOnly s (raiseOn line n s) := by
  unfold raiseOn
  split
  · exact .refl s
  · split
    · rfl
    · exact land_raised n s

theorem setLevel_raised (n : Nat) (c : Bool) (s : State) : raisedOnly s (setLevel n c s) := by
  unfold setLevel
  split
  · exact .refl s
  · split
    · exact .refl s
    · split
      · exact land_raised n s
      · exact raisedOnly.trans (t := { s with evc := setPend n false s.evc }) rfl
          (raisedOnly_of_targets (quietAll_targets _))

theorem syncLog_raised (s : State) : raisedOnly s (syncLog s) := setLevel_raised _ _ s

theorem quiet_out (k : Nat) (s : State) : (quiet k s).out = s.out := by
  unfold quiet
  dsimp only
  split <;> rfl

theorem setLevel_suffix (n : Nat) (c : Bool) (s : State) : s.out <:+ (setLevel n c s).out := by
  unfold setLevel
  split
  · exact List.suffix_refl _
  · split
    · exact List.suffix_refl _
    · split
      · exact land_suffix n s
      · simp only [quietAll, quiet_out]
        exact List.suffix_refl _

theorem syncLog_suffix (s : State) : s.out <:+ (syncLog s).out := setLevel_suffix _ _ s

/-! ### The log's reads (R292, R303) -/

section
variable {s : State} (ha : s.pwr.asleep = false)
include ha

theorem evcIntegPop_cons {x : IntegEntry} {l : List IntegEntry} (hl : s.evc.log = x :: l) :
    exec .evcIntegPop s =
      .next (syncLog (emit (.read (integWord x)) (modEvc (fun e => { e with log := l, popped := x }) s))) := by
  change Host.Outcome.next (awakeRead s _) = _
  rw [awakeRead_eq ha, hl]

theorem evcIntegPop_nil (hl : s.evc.log = []) : exec .evcIntegPop s =
    .next { s with evc := { s.evc with popped := {} }, out := .read (integWord {}) :: s.out } := by
  change Host.Outcome.next (awakeRead s _) = _
  rw [awakeRead_eq ha, hl]
  rfl

theorem evcIntegLostRead_clears : exec .evcIntegLostRead s =
    .next { s with evc := { s.evc with lost := 0 }, out := .read (integStat s) :: s.out } := by
  change Host.Outcome.next (awakeRead s _) = _
  rw [awakeRead_eq ha]
  rfl

theorem evcIntegCorrRead_clears : exec .evcIntegCorrRead s = .next { s with
    evc := { s.evc with corrected := 0 }, out := .read (BitVec.ofNat 32 s.evc.corrected) :: s.out } := by
  change Host.Outcome.next (awakeRead s _) = _
  rw [awakeRead_eq ha]
  rfl

end

/-! ### What the scrubber finds (R299 to R303) -/

theorem pushLog_corrected (e : IntegEntry) (s : State) : (pushLog e s).evc.corrected = s.evc.corrected := by
  unfold pushLog
  split
  · exact (raiseOn_raised false 0x14 _).corrected
  · exact (syncLog_raised _).corrected

theorem logFinding_corrected (f : Finding) (s : State) : (logFinding f s).evc.corrected = s.evc.corrected := by
  unfold logFinding
  dsimp only
  split
  · split <;> rfl
  · exact pushLog_corrected _ s

theorem oncePerSecond_corrected (key : Nat) {f : State → State} (hf : ∀ t, (f t).evc.corrected = t.evc.corrected) (s : State) :
    (oncePerSecond key f s).evc.corrected = s.evc.corrected := by
  unfold oncePerSecond
  dsimp only
  split
  · rfl
  · exact hf _

/-- A corrected error is counted once (R300), whatever is raised and logged with it. -/
theorem correctedError_corrected (f : Finding) (s : State) :
    (correctedError f s).evc.corrected = satInc 32 s.evc.corrected := by
  unfold correctedError
  rw [oncePerSecond_corrected _ (logFinding_corrected f),
    oncePerSecond_corrected _ (fun t => (raiseOn_raised f.lineDie 0x10 t).corrected)]
  rfl

/-- An entry that the log has room for stands at its end, with GAP if entries were lost before it. -/
theorem logFinding_log {f : Finding} {s : State} (hline : f.lineDie = false) (hroom : s.evc.log.length < 256) :
    (logFinding f s).evc.log = s.evc.log ++ [{
      kind := f.kind, lineDie := false, unit := f.unit, index := f.index
      time := switchTime s, valid := switchValid s, gap := s.evc.gapNext }] := by
  simp only [logFinding, hline, Bool.false_and, Bool.false_eq_true, if_false, pushLog, if_neg (not_le.mpr hroom)]
  exact (syncLog_raised _).log

theorem shadowGroups_nil {s : State} (h : s.groups = []) : shadowGroups s = [] := by
  simp [shadowGroups, groupsIn, h]

theorem placeError_unit {f : Finding} {s : State} (h : s.groups = []) : placeError f s = unitOutcome f s := by
  unfold placeError
  rw [shadowGroups_nil h]

/-- Raising and logging a finding touches the event controller and what is sent, nothing else. -/
theorem found_only (n : Nat) (f : Finding) (s : State) : evOnly s (logFinding f (raiseOn f.lineDie n s)) :=
  eq_merged (m := { evc := true, out := true }) (by simp)

/-- An uncorrectable error or a residue mismatch with no group open: raised, logged, and the outcome of its unit (Table 13-6). -/
theorem scrub_found {f : Finding} {s : State} {n : Nat} (hk : (f.kind = 2 ∧ n = 0x11) ∨ (f.kind = 5 ∧ n = 0x12))
    (hg : s.groups = []) : exec (.scrub f) s = .next (unitOutcome f (logFinding f (raiseOn f.lineDie n s))) := by
  have hgroups : (logFinding f (raiseOn f.lineDie n s)).groups = [] := (found_only n f s).groups.trans hg
  rw [← placeError_unit hgroups]
  change Host.Outcome.next (if f.kind = 1 ∨ f.kind = 3 then _ else _) = _
  rcases hk with ⟨hk, rfl⟩ | ⟨hk, rfl⟩ <;> simp [hk]

theorem scrub_corrected {f : Finding} (s : State) (hk : f.kind = 1 ∨ f.kind = 3) :
    exec (.scrub f) s = .next (correctedError f s) := congrArg Host.Outcome.next (if_pos hk)

theorem scrub_nothing {f : Finding} (s : State) (hk : f.kind = 0 ∨ 5 < f.kind) : exec (.scrub f) s = .next s := by
  change Host.Outcome.next (if f.kind = 1 ∨ f.kind = 3 then _ else _) = _
  rw [if_neg (by omega), if_neg (by omega), if_neg (by omega)]

/-- A mismatch of the counters' residue is noted and logged (R303, R310). -/
theorem scrub_counters {f : Finding} {s : State} (hk : f.kind = 5) (hu : f.unit = 0x20) (hline : f.lineDie = false)
    (hroom : s.evc.log.length < 256) (hg : s.groups = []) : nextWith (.scrub f) s fun t =>
      t.pmc = { s.pmc with residue := true } ∧
      (∃ e, t.evc.log = s.evc.log ++ [e] ∧ e.kind = 5 ∧ e.lineDie = false ∧ e.unit = 0x20 ∧ e.index = f.index ∧
        e.time = switchTime s ∧ e.valid = switchValid s ∧ e.gap = s.evc.gapNext) ∧
      t = { s with evc := t.evc, pmc := t.pmc, out := t.out } := by
  have hexec := scrub_found (.inr ⟨hk, rfl⟩) hg
  have honly := found_only 0x12 f s
  have hraised := raiseOn_raised f.lineDie 0x12 s
  have hfirst := raiseOn_only f.lineDie 0x12 s
  have hlog := logFinding_log (s := raiseOn f.lineDie 0x12 s) hline (by rw [hraised.log]; exact hroom)
  rw [hraised.log, hraised.gapNext] at hlog
  have hunit : unitOutcome f (logFinding f (raiseOn f.lineDie 0x12 s)) =
      modPmc (fun p => { p with residue := true }) (logFinding f (raiseOn f.lineDie 0x12 s)) := by
    simp only [unitOutcome, hu]
  rw [hunit] at hexec
  refine nextWith_of hexec ⟨?_, ⟨_, hlog, hk, rfl, hu, rfl, ?_, ?_, rfl⟩, ?_⟩
  · simp only [modPmc, honly.pmc]
  · dsimp only
    unfold evOnly at hfirst
    rw [hfirst]
    rfl
  · dsimp only
    unfold evOnly at hfirst
    rw [hfirst]
    rfl
  · unfold evOnly at honly
    rw [honly]
    rfl

/-- An uncorrectable error in the ternary table breaks the entry it is in (Table 13-6). -/
theorem scrub_ternary {f : Finding} {s : State} (hk : f.kind = 2) (hu : f.unit = 0x03) (hg : s.groups = []) :
    nextWith (.scrub f) s fun t =>
      (∀ e ∈ t.cls.tern, e.index = f.index → e.broken = true) ∧ t.cls.flows = s.cls.flows ∧
      t = { s with cls := { s.cls with tern := t.cls.tern }, evc := t.evc, out := t.out } := by
  have hexec := scrub_found (.inl ⟨hk, rfl⟩) hg
  have honly := found_only 0x11 f s
  have hunit : unitOutcome f (logFinding f (raiseOn f.lineDie 0x11 s)) = modCls (fun c => { c with
      tern := c.tern.map fun e => if e.index = f.index then { e with broken := true } else e })
        (logFinding f (raiseOn f.lineDie 0x11 s)) := by
    simp only [unitOutcome, hu]
  rw [hunit] at hexec
  refine nextWith_of hexec ⟨fun e he hi => ?_, ?_, ?_⟩
  · obtain ⟨d, -, rfl⟩ := List.mem_map.mp he
    by_cases hd : d.index = f.index
    · rw [if_pos hd]
    · rw [if_neg hd] at hi
      exact absurd hi hd
  · simp only [modCls, honly.cls]
  · unfold evOnly at honly
    rw [honly]
    rfl

/-- The first failed update of line time is noted; the next tick repeats it (Table 13-6). -/
theorem scrub_lineTime {f : Finding} {s : State} (hk : f.kind = 5) (hu : f.unit = 0x24) (hm : s.time.mismatch = none)
    (hg : s.groups = []) : nextWith (.scrub f) s fun t =>
      t.time = { s.time with mismatch := some s.clk.now } ∧ t = { s with time := t.time, evc := t.evc, out := t.out } := by
  have hexec := scrub_found (.inr ⟨hk, rfl⟩) hg
  have honly := found_only 0x12 f s
  generalize logFinding f (raiseOn f.lineDie 0x12 s) = x at hexec honly
  have hunit : unitOutcome f x = { x with time := { x.time with mismatch := some x.clk.now } } := by
    simp only [unitOutcome, hu, timeMismatch, honly.time, hm]
  rw [hunit] at hexec
  refine nextWith_of hexec ⟨by simp only [honly.time, honly.clk], ?_⟩
  unfold evOnly at honly
  rw [honly]

/-- Settles O52. -/
theorem integrityLog : Obligations.IntegrityLog := by
  intro s ha
  refine ⟨fun x l hl => ?_, evcIntegPop_nil ha, evcIntegLostRead_clears ha, evcIntegCorrRead_clears ha, fun f hk => ?_,
    fun f hk hu hline hroom hg => scrub_counters hk hu hline hroom hg, fun f hk hu _ hg => scrub_ternary hk hu hg,
    fun f hk hu hm hg => scrub_lineTime hk hu hm hg, fun f => scrub_nothing s⟩
  · have hr := syncLog_raised (emit (.read (integWord x)) (modEvc (fun e => { e with log := l, popped := x }) s))
    refine nextWith_of (evcIntegPop_cons ha hl) ⟨hr.log, hr.popped, ?_, ?_⟩
    · refine (syncLog_suffix (emit (.read (integWord x)) _)).mem ?_
      exact List.mem_cons_self
    · exact evOnly.trans (t := emit (.read (integWord x)) (modEvc (fun e => { e with log := l, popped := x }) s)) rfl
        (syncLog_only _)
  · exact nextWith_of (scrub_corrected s hk) ⟨correctedError_corrected f s,
      eq_merged (m := { clk := true, evc := true, out := true }) (by simp)⟩

/-! ### The counters' registers (R307, R308, R310) -/

/-- What a read of a counter's low half latches (R310). -/
def latched (n : Nat) (p : Pmc) : Tbl Nat :=
  if n % 2 = 0 ∧ p.chain (n + 1) then Tbl.set 0 (Tbl.set 0 p.latch n (p.count n)) (n + 1) (p.count (n + 1))
  else Tbl.set 0 p.latch n (p.count n)

theorem latched_self (n : Nat) (p : Pmc) : Tbl.get 0 (latched n p) n = p.count n := by
  unfold latched
  split
  · rw [Tbl.get_set_ne _ _ _ (by omega), Tbl.get_set_self]
  · rw [Tbl.get_set_self]

theorem latched_pair {n : Nat} {p : Pmc} (he : n % 2 = 0) (hc : p.chain (n + 1) = true) :
    Tbl.get 0 (latched n p) (n + 1) = p.count (n + 1) := by
  unfold latched
  rw [if_pos ⟨he, hc⟩, Tbl.get_set_self]

theorem latched_ne {n m : Nat} (p : Pmc) (h : m ≠ n) (h' : m ≠ n + 1) : Tbl.get 0 (latched n p) m = Tbl.get 0 p.latch m := by
  unfold latched
  split
  · rw [Tbl.get_set_ne _ _ _ h', Tbl.get_set_ne _ _ _ h]
  · rw [Tbl.get_set_ne _ _ _ h]

/-- A counter with one of its words replaced (R310). -/
def putHalf (hi : Bool) (v : Word) (c : Nat) : Nat :=
  if hi then v.toNat % 65536 * 2 ^ 32 + c % 2 ^ 32 else c / 2 ^ 32 * 2 ^ 32 + v.toNat

section
variable {s : State} {n : Nat} (hn : n < 64)
include hn

theorem pmcCntLoRead_latches (ha : s.pwr.asleep = false) (hc : s.pmc.chain n = false) : exec (.pmcCntLoRead n) s =
    .next { s with
      pmc := { s.pmc with latch := latched n s.pmc, latchTime := switchTime s }
      out := .read (BitVec.ofNat 32 (s.pmc.count n)) :: s.out } := by
  change Host.Outcome.next (awakeRead s (if 64 ≤ n then s else _)) = _
  rw [awakeRead_eq ha, if_neg (not_le.mpr hn), ← latched_self n s.pmc]
  dsimp only
  rw [hc]
  rfl

theorem pmcCntLoRead_chained (ha : s.pwr.asleep = false) (hc : s.pmc.chain n = true) : exec (.pmcCntLoRead n) s =
    .next { s with out := .read (BitVec.ofNat 32 (Tbl.get 0 s.pmc.latch n)) :: s.out } := by
  change Host.Outcome.next (awakeRead s (if 64 ≤ n then s else _)) = _
  rw [awakeRead_eq ha, if_neg (not_le.mpr hn)]
  dsimp only
  rw [hc]
  rfl

theorem pmcCntWrite_puts (hi : Bool) (v : Word) (ha : s.pwr.asleep = false) : exec (.pmcCntWrite n hi v) s =
    .next (modPmc (fun p => { p with cnt := Tbl.set 0 p.cnt n (putHalf hi v (s.pmc.count n)) }) s) := by
  change Host.Outcome.next (awake s (if 64 ≤ n then s else _)) = _
  rw [awake_eq ha, if_neg (not_le.mpr hn)]
  rfl

end

/-- A counter that comes to 2^48 goes on from 0, with its overflow bit (R307). -/
theorem pmcAddOne_wraps {n : Nat} {s : State} (h : s.pmc.count n < 2 ^ 48) :
    pmcAddOne n (2 ^ 48 - s.pmc.count n) s = pmcWrapped n { s with pmc := { s.pmc with cnt := Tbl.set 0 s.pmc.cnt n 0 } } := by
  have hv : Tbl.get 0 s.pmc.cnt n + (2 ^ 48 - s.pmc.count n) = 2 ^ 48 := Nat.add_sub_of_le h.le
  unfold pmcAddOne
  dsimp only
  rw [hv, if_neg (lt_irrefl _), Nat.mod_self]

theorem pmcWrapped_pmc (n : Nat) (s : State) : (pmcWrapped n s).pmc = { s.pmc with ovf := s.pmc.ovf ||| (1#64 <<< n) } := by
  unfold pmcWrapped
  dsimp only
  split
  · exact (raise_only 0xFC _).pmc
  · rfl

theorem pmcCounterWrap_wraps {n : Nat} {s : State} (hn : n < 64) (hen : s.pmc.en n = true) (hfr : s.pmc.freeze = false)
    (hc : s.pmc.chain (n + 1) = false) (hlt : s.pmc.count n < 2 ^ 48) : exec (.pmcCounterWrap n) s =
      .next (pmcWrapped n { s with pmc := { s.pmc with cnt := Tbl.set 0 s.pmc.cnt n 0 } }) := by
  rw [← pmcAddOne_wraps hlt]
  have hgo : ¬ (decide (64 ≤ n) || !s.pmc.en n || s.pmc.freeze) = true := by simp [hen, hfr, hn]
  have hadd : pmcAdd n (2 ^ 48 - s.pmc.count n) s = pmcAddOne n (2 ^ 48 - s.pmc.count n) s := by
    unfold pmcAdd
    rw [if_neg (by simp [hc])]
  rw [← hadd]
  exact congrArg Host.Outcome.next (if_neg hgo)

theorem pmcCounterWrap_idle {n : Nat} {s : State} (h : s.pmc.en n = false ∨ s.pmc.freeze = true) :
    exec (.pmcCounterWrap n) s = .next s := by
  have hstop : (decide (64 ≤ n) || !s.pmc.en n || s.pmc.freeze) = true := by
    rcases h with h | h <;> simp [h]
  exact congrArg Host.Outcome.next (if_pos hstop)

/-! ### pmc.config (R308, R318) -/

/-- One address range of pmc.config. -/
def putRange (s : State) (r : Nat × Word × Word) : State :=
  modPmc (fun p => { p with abase := Tbl.set 0 p.abase r.1 r.2.1, alimit := Tbl.set 0 p.alimit r.1 r.2.2 }) s

theorem putRanges_frame (l : List (Nat × Word × Word)) (s : State) : l.foldl putRange s = { s with pmc := { s.pmc with
    abase := (l.foldl putRange s).pmc.abase, alimit := (l.foldl putRange s).pmc.alimit } } := by
  induction l generalizing s with
  | nil => rfl
  | cons r l ih =>
    rw [List.foldl_cons, ih]
    rfl

theorem putRanges_ne {k : Nat} (l : List (Nat × Word × Word)) (s : State) (h : ∀ x ∈ l, x.1 ≠ k) :
    Tbl.get 0 (l.foldl putRange s).pmc.abase k = Tbl.get 0 s.pmc.abase k ∧
    Tbl.get 0 (l.foldl putRange s).pmc.alimit k = Tbl.get 0 s.pmc.alimit k := by
  induction l generalizing s with
  | nil => exact ⟨rfl, rfl⟩
  | cons r l ih =>
    have hr : k ≠ r.1 := (h r List.mem_cons_self).symm
    obtain ⟨hb, hl⟩ := ih (putRange s r) (fun x hx => h x (List.mem_cons_of_mem _ hx))
    exact ⟨hb.trans (Tbl.get_set_ne _ _ _ hr), hl.trans (Tbl.get_set_ne _ _ _ hr)⟩

/-- The counter's selection and filter as pmc.config writes them. -/
def putConfig (n : Nat) (ev fl : Word) (s : State) : State := modPmc (fun p => putFilt n fl (putEvsel n ev p)) s

theorem pmcConfig_done {n : Nat} {ev fl : Word} {r : List (Nat × Word × Word)} (hn : n < 64) (hr : ∀ x ∈ r, x.1 < 8)
    (s : State) : ∃ d, doPmcConfig n ev fl r s = okData d (r.foldl putRange (putConfig n ev fl s)) := by
  have hok : (decide (n < 64) && r.all fun x => decide (x.1 < 8)) = true := by simpa [hn] using hr
  exact ⟨_, require_true hok⟩

section
variable {h : Hdr} {s : State}

theorem pmcConfig_runs {n : Nat} {ev fl : Word} {r : List (Nat × Word × Word)} (hn : n < 64) (hr : ∀ x ∈ r, x.1 < 8)
    (hrun : runsNow h (.pmcConfig n ev fl r) s) : completes (.pmcConfig h n ev fl r) h 0x0D01 s fun t =>
      t.pmc.evselOf n = evselBits n ev ∧ t.pmc.filtOf n = filtBits fl ∧
      (∀ m, m ≠ n → t.pmc.evselOf m = s.pmc.evselOf m ∧ t.pmc.filtOf m = s.pmc.filtOf m) ∧
      (∀ x, r = [x] → Tbl.get 0 t.pmc.abase x.1 = x.2.1 ∧ Tbl.get 0 t.pmc.alimit x.1 = x.2.2) ∧
      (∀ k, (∀ x ∈ r, x.1 ≠ k) → Tbl.get 0 t.pmc.abase k = Tbl.get 0 s.pmc.abase k ∧
        Tbl.get 0 t.pmc.alimit k = Tbl.get 0 s.pmc.alimit k) ∧
      t = { takeUp h s with pmc := { s.pmc with
        evsel := t.pmc.evsel, filt := t.pmc.filt, abase := t.pmc.abase, alimit := t.pmc.alimit } } := by
  obtain ⟨x, hx⟩ := takeUp_cmd h s
  obtain ⟨d, hbody⟩ := pmcConfig_done (ev := ev) (fl := fl) hn hr { s with cmd := x }
  have hframe := putRanges_frame r (putConfig n ev fl { s with cmd := x })
  have hranges := fun k => putRanges_ne (k := k) r (putConfig n ev fl { s with cmd := x })
  have hone : ∀ y, r = [y] → Tbl.get 0 (r.foldl putRange (putConfig n ev fl { s with cmd := x })).pmc.abase y.1 = y.2.1 ∧
      Tbl.get 0 (r.foldl putRange (putConfig n ev fl { s with cmd := x })).pmc.alimit y.1 = y.2.2 := by
    rintro y rfl
    exact ⟨Tbl.get_set_self _ _ _ _, Tbl.get_set_self _ _ _ _⟩
  generalize r.foldl putRange (putConfig n ev fl { s with cmd := x }) = t at hbody hframe hranges hone
  have hevsel : t.pmc.evsel = Tbl.set 0 s.pmc.evsel n (evselBits n ev) := by rw [hframe]; rfl
  have hfilt : t.pmc.filt = Tbl.set filtReset s.pmc.filt n (filtBits fl) := by rw [hframe]; rfl
  refine completes_taken hx hrun rfl rfl rfl hbody ⟨?_, ?_, fun m hm => ⟨?_, ?_⟩, hone, fun k hk => hranges k hk, ?_⟩
  · rw [Pmc.evselOf, hevsel, Tbl.get_set_self]
  · rw [Pmc.filtOf, hfilt, Tbl.get_set_self]
  · rw [Pmc.evselOf, hevsel, Tbl.get_set_ne _ _ _ hm]
    rfl
  · rw [Pmc.filtOf, hfilt, Tbl.get_set_ne _ _ _ hm]
    rfl
  · rw [hx, hframe]
    rfl

theorem pmcConfig_range {m : Nat} {ev fl : Word} {r : List (Nat × Word × Word)} (hm : 64 ≤ m)
    (hrun : runsNow h (.pmcConfig m ev fl r) s) : failsWith (.pmcConfig h m ev fl r) h 0x0D01 .paramRange s := by
  obtain ⟨x, hx⟩ := takeUp_cmd h s
  have hbad : (decide (m < 64) && r.all fun x => decide (x.1 < 8)) = false := by simp [not_lt.mpr hm]
  have hbody : doPmcConfig m ev fl r { s with cmd := x } = fail .paramRange { s with cmd := x } := require_false hbad
  exact failsWith_taken hx hrun rfl rfl rfl hbody

/-! ### Sampling and tracing (R313 to R318) -/

/-- The parameters of sample.config are within their ranges. -/
theorem sampleConfig_runs {p : SampleParams} (hlo : 256 ≤ p.period) (hhi : p.period ≤ 16777216) (hw : 1 ≤ p.watermark)
    (hw' : p.watermark ≤ 4096) (hrun : runsNow h (.sampleConfig p) s) : completes (.sampleConfig h p) h 0x0D02 s fun t =>
      t.samp p.down = { s.samp p.down with p := p, left := [] } ∧ t.samp (!p.down) = s.samp (!p.down) ∧
      t.pmc.trace = s.pmc.trace ∧ t.pmc.cnt = s.pmc.cnt ∧ t = { takeUp h s with pmc := t.pmc } := by
  obtain ⟨x, hx⟩ := takeUp_cmd h s
  have hbody : ∃ d, doSampleConfig p { s with cmd := x } =
      okData d (setSamp p.down { s.samp p.down with p := p, left := [] } { s with cmd := x }) :=
    ⟨_, require_true (by simp [hlo, hhi, hw, hw'])⟩
  obtain ⟨d, hbody⟩ := hbody
  refine completes_taken hx hrun rfl rfl rfl hbody ⟨?_, ?_, ?_, ?_, by rw [hx]; rfl⟩ <;> cases p.down <;> rfl

theorem sampleConfig_range {p : SampleParams}
    (hp : p.period < 256 ∨ 16777216 < p.period ∨ p.watermark = 0 ∨ 4096 < p.watermark)
    (hrun : runsNow h (.sampleConfig p) s) : failsWith (.sampleConfig h p) h 0x0D02 .paramRange s := by
  obtain ⟨x, hx⟩ := takeUp_cmd h s
  have hbody : doSampleConfig p { s with cmd := x } = fail .paramRange { s with cmd := x } :=
    require_false (decide_eq_false (by omega))
  exact failsWith_taken hx hrun rfl rfl rfl hbody

/-- The state that trace.config leaves (R315, R316). -/
def traceConfigured (p : TraceParams) (s : State) : State :=
  modTrace (fun t => { t with
    p := p, stopped := false
    gen := if p.enable then BitVec.ofNat 32 (draw s).1 else t.gen, nextId := if p.enable then 0 else t.nextId }) (draw s).2

section
variable {p : TraceParams} (hk : p.k ≤ 24) (hw : 1 ≤ p.watermark) (hw' : p.watermark ≤ 65536)
  (ha : ∀ a, p.assoc = some a → a ≤ 4095)
include hk hw hw' ha

theorem traceConfig_present {s : State} (hp : portsPresent p.ports s = true) :
    ∃ d, doTraceConfig p s = okData d (traceConfigured p s) := by
  refine ⟨_, (require_true ?_).trans (require_true hp)⟩
  cases hp : p.assoc with
  | none => simp [hk, hw, hw']
  | some a => simp [hk, hw, hw', ha a hp]

theorem traceConfig_absent {s : State} (hp : portsPresent p.ports s = false) :
    doTraceConfig p s = fail .unitAbsent s := by
  refine (require_true ?_).trans (require_false hp)
  cases hp : p.assoc with
  | none => simp [hk, hw, hw']
  | some a => simp [hk, hw, hw', ha a hp]

theorem traceConfig_runs (hp : portsPresent p.ports s = true) (hrun : runsNow h (.traceConfig p) s) :
    completes (.traceConfig h p) h 0x0D03 s fun t =>
      t.pmc.trace = { s.pmc.trace with
        p := p, stopped := false, gen := t.pmc.trace.gen
        nextId := if p.enable then 0 else s.pmc.trace.nextId } ∧
      (p.enable = false → t.pmc.trace.gen = s.pmc.trace.gen) ∧
      t = { takeUp h s with
        clk := { s.clk with draws := s.clk.draws + 1 }, pmc := { s.pmc with trace := t.pmc.trace } } := by
  obtain ⟨x, hx⟩ := takeUp_cmd h s
  obtain ⟨d, hbody⟩ := traceConfig_present (s := { s with cmd := x }) hk hw hw' ha hp
  refine completes_taken hx hrun rfl rfl rfl hbody ⟨rfl, fun he => ?_, by rw [hx]; rfl⟩
  simp only [traceConfigured, modTrace, he, Bool.false_eq_true, if_false]
  rfl

theorem traceConfig_fails (hp : portsPresent p.ports s = false) (hrun : runsNow h (.traceConfig p) s) :
    failsWith (.traceConfig h p) h 0x0D03 .unitAbsent s := by
  obtain ⟨x, hx⟩ := takeUp_cmd h s
  have hbody := traceConfig_absent (s := { s with cmd := x }) hk hw hw' ha hp
  exact failsWith_taken hx hrun rfl rfl rfl hbody

end

theorem traceRead_range {sel : TraceSel} {n : Nat} (hn : n = 0 ∨ 64 < n) (hrun : runsNow h (.traceRead sel n) s) :
    failsWith (.traceRead h sel n) h 0x0D04 .paramRange s := by
  obtain ⟨x, hx⟩ := takeUp_cmd h s
  have hbody : doTraceRead sel n { s with cmd := x } = fail .paramRange { s with cmd := x } :=
    require_false (decide_eq_false (by omega))
  exact failsWith_taken hx hrun rfl rfl rfl hbody

section
variable {n : Nat} (hlo : 1 ≤ n) (hhi : n ≤ 64)
include hlo hhi

/-- The oldest trace records leave the buffer, and a stopped tagging goes on once one has left. -/
theorem traceRead_trace (hrun : runsNow h (.traceRead .trace n) s) : completes (.traceRead h .trace n) h 0x0D04 s fun t =>
    t.pmc.trace.done = s.pmc.trace.done.drop n ∧ t.pmc.trace.open_ = s.pmc.trace.open_ ∧
    (s.pmc.trace.done ≠ [] → t.pmc.trace.stopped = false ∧ t.pmc.trace.gapNext = false) ∧
    t = { takeUp h s with pmc := { s.pmc with trace := t.pmc.trace } } := by
  obtain ⟨x, hx⟩ := takeUp_cmd h s
  generalize hl : markGap s.pmc.trace.gapNext (s.pmc.trace.done.take n) = l
  have hbody : ∃ d, doTraceRead .trace n { s with cmd := x } = okData d (modTrace (fun t => { t with
      done := t.done.drop n, gapNext := t.gapNext && l.isEmpty, stopped := t.stopped && l.isEmpty }) { s with cmd := x }) := by
    rw [← hl]
    exact ⟨_, require_true (decide_eq_true ⟨hlo, hhi⟩)⟩
  obtain ⟨d, hbody⟩ := hbody
  refine completes_taken hx hrun rfl rfl rfl hbody ⟨rfl, rfl, fun hne => ?_, by rw [hx]; rfl⟩
  have hnil : l.isEmpty = false := by
    rw [← hl]
    obtain ⟨e, t, ht⟩ := List.exists_cons_of_ne_nil hne
    obtain ⟨k, rfl⟩ := Nat.exists_eq_succ_of_ne_zero (Nat.one_le_iff_ne_zero.mp hlo)
    rw [ht]
    rfl
  simp only [modTrace, hnil, Bool.and_false, and_self]

/-- The oldest samples leave their buffer. -/
theorem traceRead_samples {sel : TraceSel} {down : Bool}
    (hsel : (sel = .sampleUp ∧ down = false) ∨ (sel = .sampleDown ∧ down = true)) (x : CmdChannel) :
    ∃ d, doTraceRead sel n { s with cmd := x } =
      okData d (setSamp down { s.samp down with buf := (s.samp down).buf.drop n } { s with cmd := x }) := by
  rcases hsel with ⟨rfl, rfl⟩ | ⟨rfl, rfl⟩ <;> exact ⟨_, require_true (decide_eq_true ⟨hlo, hhi⟩)⟩

theorem traceRead_sampleUp (hrun : runsNow h (.traceRead .sampleUp n) s) :
    completes (.traceRead h .sampleUp n) h 0x0D04 s fun t =>
      t.samp false = { s.samp false with buf := (s.samp false).buf.drop n } ∧ t.samp true = s.samp true ∧
      t.pmc.trace = s.pmc.trace ∧ t = { takeUp h s with pmc := t.pmc } := by
  obtain ⟨x, hx⟩ := takeUp_cmd h s
  obtain ⟨d, hbody⟩ := traceRead_samples (s := s) hlo hhi (.inl ⟨rfl, rfl⟩) x
  exact completes_taken hx hrun rfl rfl rfl hbody ⟨rfl, rfl, rfl, by rw [hx]; rfl⟩

theorem traceRead_sampleDown (hrun : runsNow h (.traceRead .sampleDown n) s) :
    completes (.traceRead h .sampleDown n) h 0x0D04 s fun t =>
      t.samp true = { s.samp true with buf := (s.samp true).buf.drop n } ∧ t.samp false = s.samp false ∧
      t.pmc.trace = s.pmc.trace ∧ t = { takeUp h s with pmc := t.pmc } := by
  obtain ⟨x, hx⟩ := takeUp_cmd h s
  obtain ⟨d, hbody⟩ := traceRead_samples (s := s) hlo hhi (.inr ⟨rfl, rfl⟩) x
  exact completes_taken hx hrun rfl rfl rfl hbody ⟨rfl, rfl, rfl, by rw [hx]; rfl⟩

end

end

/-- Settles O53. -/
theorem countersAndTracing : Obligations.CountersAndTracing := by
  refine ⟨fun h s n hn => ⟨fun ha hc => ?_, pmcCntLoRead_chained hn, fun hi v ha => ?_, fun v ha => ?_, fun v ha => ?_,
      fun hen hfr hc _ hlt => ?_, pmcCounterWrap_idle, fun ev fl r hrun hr => pmcConfig_runs hn hr hrun,
      fun m ev fl r hm => pmcConfig_range hm⟩,
    fun h s => ⟨fun p hrun hlo hhi hw hw' => sampleConfig_runs hlo hhi hw hw' hrun, fun p hrun hp => sampleConfig_range hp hrun,
      fun p hrun hk hw hw' ha hp => traceConfig_runs hk hw hw' ha hp hrun,
      fun p hrun hk hw hw' ha hp => traceConfig_fails hk hw hw' ha hp hrun,
      fun n hrun hlo hhi => traceRead_trace hlo hhi hrun, fun n hrun hlo hhi => traceRead_sampleUp hlo hhi hrun,
      fun n hrun hlo hhi => traceRead_sampleDown hlo hhi hrun, fun x n hrun hn => traceRead_range hn hrun⟩⟩
  · exact nextWith_of (pmcCntLoRead_latches hn ha hc)
      ⟨latched_self n _, fun he hp => latched_pair he hp, fun m hm hm' => latched_ne _ hm hm', rfl, rfl⟩
  · exact nextWith_of (pmcCntWrite_puts hn hi v ha)
      ⟨Tbl.get_set_self _ _ _ _, fun m hm => Tbl.get_set_ne _ _ _ hm, rfl⟩
  · exact congrArg Host.Outcome.next (awake_eq ha _)
  · exact congrArg Host.Outcome.next (if_pos ha)
  · refine nextWith_of (pmcCounterWrap_wraps hn hen hfr hc hlt) ?_
    have hpmc := pmcWrapped_pmc n { s with pmc := { s.pmc with cnt := Tbl.set 0 s.pmc.cnt n 0 } }
    refine ⟨?_, ?_, fun m hm => ?_, eq_merged (s := s) (m := { pmc := true, evc := true, out := true }) ?_⟩
    · rw [hpmc]
      dsimp only [Pmc.count]
      rw [Tbl.get_set_self]
    · rw [hpmc]
      simp [hn]
    · rw [hpmc]
      dsimp only [Pmc.count]
      rw [Tbl.get_set_ne _ _ _ hm]
    · rw [rest_pmcWrapped _ _ (by decide)]
      rfl

end Sys2Proof.Proofs.IntegrityAndCounters
end

section
/-!
Device commands, votes and scheduled power changes (chapters 11 and 15): O54.
-/
namespace Sys2Proof.Proofs.PowerCommands
open Sys2Proof Sys2Proof.Machine Sys2Proof.Proofs.Frames Sys2Proof.Proofs.Rules Sys2Proof.Proofs.LineTimeEvents
open Sys2Proof.Proofs.CarrierEvents Sys2Proof.Proofs.RegistrationCommands

set_option Elab.async false

@[simp] theorem syncAll_cls (s : State) : (syncAll s).cls = s.cls :=
  cls_of_rest (m := { evc := true, out := true }) (by simp)
@[simp] theorem syncAll_groups (s : State) : (syncAll s).groups = s.groups :=
  groups_of_rest (m := { evc := true, out := true }) (by simp)
@[simp] theorem losePipe_time (s : State) : (losePipe s).time = s.time :=
  time_of_rest (m := { clk := true, down := true, cls := true, q := true, lanes := true, ports := true, snaps := true, sec := true, cmd := true, eng := true, evc := true, pmc := true, out := true }) (by simp)
@[simp] theorem losePipe_pwr (s : State) : (losePipe s).pwr = s.pwr :=
  pwr_of_rest (m := { clk := true, down := true, cls := true, q := true, lanes := true, ports := true, snaps := true, sec := true, cmd := true, eng := true, evc := true, pmc := true, out := true }) (by simp)
@[simp] theorem loseLineBuffers_cls (s : State) : (loseLineBuffers s).cls = s.cls :=
  cls_of_rest (m := { tio := true, down := true, mch := true, evc := true, out := true }) (by simp)
@[simp] theorem loseLineBuffers_pwr (s : State) : (loseLineBuffers s).pwr = s.pwr :=
  pwr_of_rest (m := { tio := true, down := true, mch := true, evc := true, out := true }) (by simp)
@[simp] theorem loseLineBuffers_time (s : State) : (loseLineBuffers s).time = s.time :=
  time_of_rest (m := { tio := true, down := true, mch := true, evc := true, out := true }) (by simp)
@[simp] theorem loseLineBuffers_cmd (s : State) : (loseLineBuffers s).cmd = s.cmd :=
  cmd_of_rest (m := { tio := true, down := true, mch := true, evc := true, out := true }) (by simp)
@[simp] theorem loseDoldrums_pwr (s : State) : (loseDoldrums s).pwr = s.pwr :=
  pwr_of_rest (m := { clk := true, tio := true, carriers := true, down := true, mch := true, cls := true, q := true, lanes := true, die := true, ports := true, snaps := true, sec := true, cmd := true, groups := true, eng := true, evc := true, pmc := true, out := true }) (by simp)
@[simp] theorem finishCommands_time (s : State) : (finishCommands s).time = s.time :=
  time_of_rest (m := { clk := true, die := true, ports := true, sec := true, cmd := true, evc := true, out := true }) (by simp)
@[simp] theorem finishCommands_pwr (s : State) : (finishCommands s).pwr = s.pwr :=
  pwr_of_rest (m := { clk := true, die := true, ports := true, sec := true, cmd := true, evc := true, out := true }) (by simp)
@[simp] theorem finishCommands_cls (s : State) : (finishCommands s).cls = s.cls :=
  cls_of_rest (m := { clk := true, die := true, ports := true, sec := true, cmd := true, evc := true, out := true }) (by simp)
@[simp] theorem abortGroup_time (a0 : Nat) (a1 : Status) (a2 : Nat) (s : State) : (abortGroup a0 a1 a2 s).time = s.time :=
  time_of_rest (m := { cls := true, sec := true, groups := true, evc := true, out := true }) (by simp)
@[simp] theorem abortGroup_pwr (a0 : Nat) (a1 : Status) (a2 : Nat) (s : State) : (abortGroup a0 a1 a2 s).pwr = s.pwr :=
  pwr_of_rest (m := { cls := true, sec := true, groups := true, evc := true, out := true }) (by simp)
@[simp] theorem lapseGroup_time (a0 : Nat) (s : State) : (lapseGroup a0 s).time = s.time :=
  time_of_rest (m := { sec := true, groups := true, evc := true, out := true }) (by simp)
@[simp] theorem lapseGroup_pwr (a0 : Nat) (s : State) : (lapseGroup a0 s).pwr = s.pwr :=
  pwr_of_rest (m := { sec := true, groups := true, evc := true, out := true }) (by simp)
@[simp] theorem lapseGroup_cls (a0 : Nat) (s : State) : (lapseGroup a0 s).cls = s.cls :=
  cls_of_rest (m := { sec := true, groups := true, evc := true, out := true }) (by simp)
@[simp] theorem allLasersOff_time (s : State) : (allLasersOff s).time = s.time :=
  time_of_rest (m := { out := true }) (by simp)
@[simp] theorem allLasersOff_pwr (s : State) : (allLasersOff s).pwr = s.pwr :=
  pwr_of_rest (m := { out := true }) (by simp)
@[simp] theorem allLasersOff_cls (s : State) : (allLasersOff s).cls = s.cls :=
  cls_of_rest (m := { out := true }) (by simp)
@[simp] theorem startDisable_pwr (a0 : Nat) (s : State) : (startDisable a0 s).pwr = s.pwr :=
  pwr_of_rest (m := { carriers := true, q := true, evc := true, pmc := true, out := true }) (by simp)
@[simp] theorem dropJobs_cls (s : State) : (dropJobs s).cls = s.cls :=
  cls_of_rest (m := { clk := true, ports := true, sec := true, cmd := true, evc := true, out := true }) (by simp)
@[simp] theorem enterDown_cls (a0 : Nat) (s : State) : (enterDown a0 s).cls = s.cls :=
  cls_of_rest (m := { clk := true, ports := true, evc := true, pmc := true, out := true }) (by simp)
@[simp] theorem rewatch_cls (s : State) : (rewatch s).cls = s.cls :=
  cls_of_rest (m := { q := true }) (by simp)
@[simp] theorem eraseStagedKeys_cls (l : List Staged) (s : State) : (eraseStagedKeys l s).cls = s.cls :=
  cls_of_rest (m := { sec := true }) (by simp)
/-! ### device.reset and device.fw.load (R257, R334, R339) -/

section
variable {h : Hdr} {s : State}

theorem deviceReset_warm (hrun : runsNow h (.deviceReset .warm) s) : completes (.deviceReset h .warm) h 0x0103 s fun t =>
    t = { takeUp h s with dev := { s.dev with resetDue := some (.warm, s.clk.now + ms 1) } } := by
  obtain ⟨x, hx⟩ := takeUp_cmd h s
  have hbody : doDeviceReset .warm { s with cmd := x } =
      okNone { s with cmd := x, dev := { s.dev with resetDue := some (.warm, s.clk.now + ms 1) } } := rfl
  exact completes_taken hx hrun rfl rfl rfl hbody (by rw [hx])

theorem deviceReset_domain {d : Nat} (hrun : runsNow h (.deviceReset (.domain d)) s)
    (hd : d = 2 ∨ d = 4 ∨ d = 5 ∨ (6 ≤ d ∧ d ≤ 13 ∧ s.hasCarrier ((d - 6) % 4) = true)) :
    completes (.deviceReset h (.domain d)) h 0x0103 s fun t =>
      t = { takeUp h s with dev := { s.dev with resetDue := some (.domain d, s.clk.now + ms 1) } } := by
  obtain ⟨x, hx⟩ := takeUp_cmd h s
  have hbody : doDeviceReset (.domain d) { s with cmd := x } =
      okNone { s with cmd := x, dev := { s.dev with resetDue := some (.domain d, s.clk.now + ms 1) } } := by
    have hhere : ¬ (6 ≤ d ∧ !State.hasCarrier { s with cmd := x } ((d - 6) % 4)) := by
      rintro ⟨hlo, habs⟩
      obtain hd | hd | hd | ⟨-, -, hd⟩ := hd
      · omega
      · omega
      · omega
      · rw [show State.hasCarrier { s with cmd := x } ((d - 6) % 4) = true from hd] at habs
        exact absurd habs (by decide)
    simp only [doDeviceReset]
    rw [if_neg (by omega), if_neg hhere]
  exact completes_taken hx hrun rfl rfl rfl hbody (by rw [hx])

theorem deviceReset_range {d : Nat} (hrun : runsNow h (.deviceReset (.domain d)) s) (hd : d = 0 ∨ d = 1 ∨ d = 3 ∨ 13 < d) :
    failsWith (.deviceReset h (.domain d)) h 0x0103 .paramRange s := by
  obtain ⟨x, hx⟩ := takeUp_cmd h s
  have hbody : doDeviceReset (.domain d) { s with cmd := x } = fail .paramRange { s with cmd := x } := by
    simp only [doDeviceReset]
    rw [if_pos hd]
  exact failsWith_taken hx hrun rfl rfl rfl hbody

section
variable {o n : Nat} (hn : n ≤ 65000) (ho : o + n ≤ 8388608)
include hn ho

theorem fwLoad_chunk (hrun : runsNow h (.deviceFwLoad o n none) s) : completes (.deviceFwLoad h o n none) h 0x0104 s fun t =>
    t = { takeUp h s with dev := { s.dev with fwBytes := (if o = 0 then 0 else s.dev.fwBytes) + n } } := by
  obtain ⟨x, hx⟩ := takeUp_cmd h s
  have hbody : doDeviceFwLoad o n none { s with cmd := x } = okData [(if o = 0 then 0 else s.dev.fwBytes) + n]
      { s with cmd := x, dev := { s.dev with fwBytes := (if o = 0 then 0 else s.dev.fwBytes) + n } } :=
    require_true (decide_eq_true ⟨hn, ho⟩)
  exact completes_taken hx hrun rfl rfl rfl hbody (by rw [hx])

variable {i : FwImage}

/-- What the last chunk does, by the image's verdict and by whether the boot waits in recovery (R339). -/
theorem fwLoad_last (x : CmdChannel) : ∃ d, doDeviceFwLoad o n (some i) { s with cmd := x } = okData d (
    if imageValid i s = false then { s with cmd := x, dev := { s.dev with fwBytes := 0 } }
    else if s.dev.bootStage = 15 then { s with
      cmd := x, fuses := { s.fuses with minSec := max s.fuses.minSec i.secVersion }
      dev := { s.dev with
        fwBytes := 0, slots := s.dev.slots.set (loadSlot s) (some i), booted := some (i.version, loadSlot s), bootStage := 5 } }
    else { s with
      cmd := x, dev := { s.dev with fwBytes := 0, slots := s.dev.slots.set (loadSlot s) (some i) } }) := by
  have hgo : doDeviceFwLoad o n (some i) { s with cmd := x } = _ := require_true (decide_eq_true ⟨hn, ho⟩)
  have hvalid : imageValid i { s with cmd := x, dev := { s.dev with fwBytes := 0 } } = imageValid i s := rfl
  rw [hgo]
  dsimp only
  rw [hvalid]
  cases hv : imageValid i s
  · exact ⟨_, rfl⟩
  · by_cases hb : s.dev.bootStage = 15
    · rw [if_neg (show ¬ (!true) = true by decide), if_neg (show ¬ true = false by decide), if_pos hb]
      exact ⟨_, if_pos (beq_iff_eq.mpr hb)⟩
    · rw [if_neg (show ¬ (!true) = true by decide), if_neg (show ¬ true = false by decide), if_neg hb]
      exact ⟨_, if_neg (mt beq_iff_eq.mp hb)⟩

theorem fwLoad_invalid (hrun : runsNow h (.deviceFwLoad o n (some i)) s) (hv : imageValid i s = false) :
    completes (.deviceFwLoad h o n (some i)) h 0x0104 s fun t =>
      t = { takeUp h s with dev := { s.dev with fwBytes := 0 } } := by
  obtain ⟨x, hx⟩ := takeUp_cmd h s
  obtain ⟨d, hbody⟩ := fwLoad_last (s := s) (i := i) hn ho x
  rw [if_pos hv] at hbody
  exact completes_taken hx hrun rfl rfl rfl hbody (by rw [hx])

theorem fwLoad_written (hrun : runsNow h (.deviceFwLoad o n (some i)) s) (hv : imageValid i s = true)
    (hb : s.dev.bootStage ≠ 15) : completes (.deviceFwLoad h o n (some i)) h 0x0104 s fun t =>
      t = { takeUp h s with dev := { s.dev with fwBytes := 0, slots := s.dev.slots.set (loadSlot s) (some i) } } := by
  obtain ⟨x, hx⟩ := takeUp_cmd h s
  obtain ⟨d, hbody⟩ := fwLoad_last (s := s) (i := i) hn ho x
  rw [if_neg (ne_of_eq_of_ne hv (by decide)), if_neg hb] at hbody
  exact completes_taken hx hrun rfl rfl rfl hbody (by rw [hx])

theorem fwLoad_recovered (hrun : runsNow h (.deviceFwLoad o n (some i)) s) (hv : imageValid i s = true)
    (hb : s.dev.bootStage = 15) : completes (.deviceFwLoad h o n (some i)) h 0x0104 s fun t =>
      t = { takeUp h s with
        fuses := { s.fuses with minSec := max s.fuses.minSec i.secVersion }
        dev := { s.dev with
          fwBytes := 0, slots := s.dev.slots.set (loadSlot s) (some i), booted := some (i.version, loadSlot s), bootStage := 5 } } := by
  obtain ⟨x, hx⟩ := takeUp_cmd h s
  obtain ⟨d, hbody⟩ := fwLoad_last (s := s) (i := i) hn ho x
  rw [if_neg (ne_of_eq_of_ne hv (by decide)), if_pos hb] at hbody
  exact completes_taken hx hrun rfl rfl rfl hbody (by rw [hx])

end
end

/-! ### The host's vote and schedule (R321, R325) -/

/-- With no group COMMITTED the vote alone changes, and power.state may be raised. -/
theorem putHostVote_eq {s : State} (w : Word) (hg : groupsIn .committed s = []) :
    putHostVote w s = notePower s (modPwr (fun p => { p with hostVote := w }) s) := by
  have hnone : groupsIn .committed (notePower s (modPwr (fun p => { p with hostVote := w }) s)) = [] := by
    unfold groupsIn
    rw [notePower_groups]
    exact hg
  unfold putHostVote
  dsimp only
  split
  · unfold abortStaging
    rw [hnone]
    rfl
  · rfl

theorem putHostVote_pwr {s : State} (w : Word) (hg : groupsIn .committed s = []) :
    (putHostVote w s).pwr = { s.pwr with hostVote := w } ∧
    putHostVote w s = { s with pwr := (putHostVote w s).pwr, evc := (putHostVote w s).evc, out := (putHostVote w s).out } := by
  rw [putHostVote_eq w hg]
  have honly := notePower_only s (modPwr (fun p => { p with hostVote := w }) s)
  refine ⟨honly.pwr, ?_⟩
  unfold evOnly at honly
  rw [honly]
  rfl

theorem instantStatus_cmd (i : Instant) (s : State) (x : CmdChannel) : instantStatus i { s with cmd := x } = instantStatus i s := rfl

section
variable {h : Hdr} {s : State} {y : PowerState} {i : Instant} {b : BitVec 4} {w : Option Instant}

theorem powerVote_runs {v : Word} (hrun : runsNow h (.powerVote v) s) (hg : groupsIn .committed s = []) :
    completes (.powerVote h v) h 0x0B02 s fun t =>
      t.pwr = { s.pwr with hostVote := v } ∧ t = { takeUp h s with pwr := t.pwr, evc := t.evc, out := t.out } := by
  obtain ⟨x, hx⟩ := takeUp_cmd h s
  obtain ⟨hpwr, hframe⟩ := putHostVote_pwr (s := { s with cmd := x }) v hg
  have hbody : ∃ d, doPowerVote v { s with cmd := x } = okData d (putHostVote v { s with cmd := x }) := ⟨_, rfl⟩
  obtain ⟨d, hbody⟩ := hbody
  exact completes_taken hx hrun rfl rfl rfl hbody ⟨hpwr, by rw [hx]; exact hframe⟩

section
variable (hrun : runsNow h (.powerSchedule y i b w) s) (hhere : ∀ n ∈ bitmapCarriers b, s.hasCarrier n = true)
include hrun hhere

omit hrun in
theorem powerSchedule_here (x : CmdChannel) :
    ¬ ((bitmapCarriers b).any fun n => !State.hasCarrier { s with cmd := x } n) = true := by
  simp only [List.any_eq_true, not_exists, not_and]
  intro n hn
  rw [show State.hasCarrier { s with cmd := x } n = true from hhere n hn]
  decide

theorem powerSchedule_runs (hi : instantStatus i s = .ok) (hoff : y = .lull ∨ y = .doldrums → s.reg.state = .off) :
    completes (.powerSchedule h y i b w) h 0x0B03 s fun t =>
      t = { takeUp h s with pwr := { s.pwr with sched := some { target := y, at_ := i, carriers := b, wakeAt := w } } } := by
  obtain ⟨x, hx⟩ := takeUp_cmd h s
  have hbody : doPowerSchedule y i b w { s with cmd := x } = okData (instantWords i) { s with
      cmd := x, pwr := { s.pwr with sched := some { target := y, at_ := i, carriers := b, wakeAt := w } } } := by
    unfold doPowerSchedule
    rw [if_neg (powerSchedule_here hhere x), instantStatus_cmd, hi]
    exact if_neg fun hy => hy.2 (hoff hy.1)
  exact completes_taken hx hrun rfl rfl rfl hbody (by rw [hx])

theorem powerSchedule_registered (hi : instantStatus i s = .ok) (hy : y = .lull ∨ y = .doldrums) (hreg : s.reg.state ≠ .off) :
    failsWith (.powerSchedule h y i b w) h 0x0B03 .regNotOff s := by
  obtain ⟨x, hx⟩ := takeUp_cmd h s
  have hbody : doPowerSchedule y i b w { s with cmd := x } = fail .regNotOff { s with cmd := x } := by
    unfold doPowerSchedule
    rw [if_neg (powerSchedule_here hhere x), instantStatus_cmd, hi]
    exact if_pos ⟨hy, hreg⟩
  exact failsWith_taken hx hrun rfl rfl rfl hbody

theorem powerSchedule_instant (hi : instantStatus i s ≠ .ok) :
    failsWith (.powerSchedule h y i b w) h 0x0B03 (instantStatus i s) s := by
  obtain ⟨x, hx⟩ := takeUp_cmd h s
  have hbody : doPowerSchedule y i b w { s with cmd := x } = fail (instantStatus i s) { s with cmd := x } := by
    unfold doPowerSchedule
    rw [if_neg (powerSchedule_here hhere x), instantStatus_cmd]
    unfold instantStatus at hi ⊢
    by_cases hv : switchValid s
    · by_cases hp : i < switchTime s + us 10
      · simp only [hv, hp, Bool.not_true, Bool.false_eq_true, if_false, if_true]
      · simp [hv, hp] at hi
    · simp only [hv, Bool.not_false, if_true]
  exact failsWith_taken hx hrun rfl rfl rfl hbody

end
end

/-! ### POWER_SCHEDULE_DUE (R325, R326) -/

section
variable {s : State} {c : Sched} (hc : s.pwr.sched = some c)
include hc

theorem powerScheduleDue_waits (h : s.pwr.asleep = true ∨ switchTime s < c.at_) : exec .powerScheduleDue s = .next s := by
  have hstop : (s.pwr.asleep || decide (switchTime s < c.at_)) = true := by
    rcases h with h | h <;> simp [h]
  change execPowerScheduleDue s = _
  unfold execPowerScheduleDue
  rw [hc]
  exact congrArg Host.Outcome.next (if_pos hstop)

variable (ha : s.pwr.asleep = false) (hdue : c.at_ ≤ switchTime s)
include ha hdue

/-- The change is blocked (R325): the voters that hold it are its outcome. -/
theorem powerScheduleDue_blocked (hb : blockers c.target s ≠ [])
    (hlate : blockers c.target s ≠ [8] ∨ c.at_ + sec 2 ≤ switchTime s) : exec .powerScheduleDue s =
      .next (raise 0x07 (modPwr (fun p => { p with
        sched := none
        outcome := .blocked (BitVec.ofNat 9 ((blockers c.target s).foldl (fun a v => a + 2 ^ v) 0)) }) s)) := by
  have hgo : ¬ (s.pwr.asleep || decide (switchTime s < c.at_)) = true := by simp [ha, hdue]
  have hwait : ¬ (blockers c.target s = [8] ∧ switchTime s < c.at_ + sec 2) := by
    rintro ⟨h8, hlt⟩
    rcases hlate with h | h
    · exact h h8
    · exact absurd hlt (not_lt.mpr h)
  change execPowerScheduleDue s = _
  unfold execPowerScheduleDue
  rw [hc]
  dsimp only
  rw [if_neg hgo, if_neg hwait, if_pos hb]

/-- The change acts (R325), reported first. -/
theorem powerScheduleDue_acts (hb : blockers c.target s = []) : exec .powerScheduleDue s =
    .next (applyPower c (raise 0x07 (modPwr (fun p => { p with sched := none, outcome := .ok }) s))) := by
  have hgo : ¬ (s.pwr.asleep || decide (switchTime s < c.at_)) = true := by simp [ha, hdue]
  have hwait : ¬ (blockers c.target s = [8] ∧ switchTime s < c.at_ + sec 2) := by simp [hb]
  change execPowerScheduleDue s = _
  unfold execPowerScheduleDue
  rw [hc]
  dsimp only
  rw [if_neg hgo, if_neg hwait, if_neg (not_not.mpr hb)]

end

/-! ### TRIM (R71, R325) -/

/-- A carrier being disabled holds no grant. -/
def disabled (n : Nat) (s : State) : Prop :=
  (s.carrier n).state ≠ .off → (s.carrier n).disabling = true ∧ (s.carrier n).held = []

theorem startDisable_self (n : Nat) (s : State) : disabled n (startDisable n s) := by
  unfold startDisable disabled
  split
  next h => exact fun hne => absurd h hne
  next =>
    intro _
    obtain ⟨r, b, hself⟩ := discardDrawn_self n (modCarrier n (fun c => { c with disabling := true }) s)
    simp [dropHeld, hself]

theorem startDisable_ne {n m : Nat} (h : m ≠ n) (s : State) : (startDisable n s).carrier m = s.carrier m := by
  unfold startDisable
  split
  · rfl
  · simp [dropHeld, modCarrier_ne _ _ _ _ h, discardDrawn_ne h]

theorem startDisable_state (n m : Nat) (s : State) : ((startDisable n s).carrier m).state = (s.carrier m).state := by
  by_cases h : m = n
  · subst h
    unfold startDisable
    split
    · rfl
    · obtain ⟨r, b, hself⟩ := discardDrawn_self m (modCarrier m (fun c => { c with disabling := true }) s)
      simp [dropHeld, hself]
  · rw [startDisable_ne h]

theorem startDisable_disabled {n : Nat} (m : Nat) {s : State} (h : disabled n s) : disabled n (startDisable m s) := by
  by_cases hm : n = m
  · subst hm
    exact startDisable_self n s
  · unfold disabled
    rw [startDisable_ne hm]
    exact h

/-- FW votes TRIM and the named carriers are disabled. -/
theorem applyPower_trim {c : Sched} (ht : c.target = .trim) (s : State) : applyPower c s =
    notePower (forEach (bitmapCarriers c.carriers) startDisable s)
      (modPwr (fun p => { p with fw := some .trim }) (forEach (bitmapCarriers c.carriers) startDisable s)) := by
  simp only [applyPower, ht]

theorem trim_runs {c : Sched} (ht : c.target = .trim) (s : State) :
    (applyPower c s).pwr = { s.pwr with fw := some .trim } ∧
    (∀ n ∈ bitmapCarriers c.carriers, (s.carrier n).state ≠ .off →
      ((applyPower c s).carrier n).disabling = true ∧ ((applyPower c s).carrier n).held = []) := by
  rw [applyPower_trim ht]
  generalize hx : forEach (bitmapCarriers c.carriers) startDisable s = x
  have hpwr : x.pwr = s.pwr := hx ▸ forEach_keeps (F := State.pwr) _ s startDisable_pwr
  have honly := notePower_only x (modPwr (fun p => { p with fw := some .trim }) x)
  refine ⟨by rw [honly.pwr, modPwr, hpwr], fun n hn hne => ?_⟩
  have hcar : (notePower x (modPwr (fun p => { p with fw := some .trim }) x)).carrier n = x.carrier n := by
    unfold State.carrier
    rw [honly.carriers]
    rfl
  have hstate : (x.carrier n).state = (s.carrier n).state :=
    hx ▸ forEach_keeps (F := fun s => (s.carrier n).state) _ s fun m s => startDisable_state m n s
  have hdone : disabled n x := hx ▸ forEach_mem hn s (startDisable_self n) fun m s h => startDisable_disabled m h
  rw [hcar]
  exact hdone (by rw [hstate]; exact hne)

/-! ### DOLDRUMS (R326, R357) -/

theorem lineTime_of {s t : State} (htime : t.time = s.time) (hnow : t.clk.now = s.clk.now)
    (hasleep : t.pwr.asleep = s.pwr.asleep) (hhold : t.pwr.holdTime = s.pwr.holdTime) : lineTime t = lineTime s := by
  simp only [lineTime, received, downDelay, slewLeft, htime, hnow, hasleep, hhold]

theorem abortGroup_curB (g : Nat) (why : Status) (k : Nat) (s : State) : (abortGroup g why k s).cls.curB = s.cls.curB := by
  unfold abortGroup
  dsimp only
  generalize hx : setGrp g _ (eraseStagedKeys _ s) = x
  have hcls : x.cls = s.cls := by rw [← hx, setGrp_cls, eraseStagedKeys_cls]
  cases hw : x.cls.writeIn with
  | none => split <;> simp [hcls]
  | some w => (repeat' split) <;> simp [hcls, releaseSlot, modCls]

/-- The first steps of R326: commands in progress are answered, groups end, and every laser is off. -/
def wound (s : State) : State :=
  allLasersOff (forEach (groupsIn .open_ (forEach (groupsIn .committed s) (fun g => abortGroup g .blockNotReady 0)
      (finishCommands s))) lapseGroup
    (forEach (groupsIn .committed s) (fun g => abortGroup g .blockNotReady 0) (finishCommands s)))

theorem wound_frame (s : State) : (wound s).time = s.time ∧ (wound s).pwr = s.pwr ∧ (wound s).cls.curB = s.cls.curB ∧
    (wound s).clk.now = s.clk.now := by
  unfold wound
  refine ⟨?_, ?_, ?_, ?_⟩
  · rw [allLasersOff_time, forEach_keeps (F := State.time) _ _ lapseGroup_time,
      forEach_keeps (F := State.time) _ _ fun g s => abortGroup_time g _ _ s, finishCommands_time]
  · rw [allLasersOff_pwr, forEach_keeps (F := State.pwr) _ _ lapseGroup_pwr,
      forEach_keeps (F := State.pwr) _ _ fun g s => abortGroup_pwr g _ _ s, finishCommands_pwr]
  · rw [allLasersOff_cls, forEach_keeps (F := State.cls) _ _ lapseGroup_cls,
      forEach_keeps (F := fun s => s.cls.curB) _ _ fun g s => abortGroup_curB g _ _ s, finishCommands_cls]
  · rw [now_of_kept (allLasersOff_kept _), forEach_keeps (F := fun s => s.clk.now) _ _ fun g s => now_of_kept (lapseGroup_kept g s),
      forEach_keeps (F := fun s => s.clk.now) _ _ fun g s => now_of_kept (abortGroup_kept g _ _ s),
      now_of_kept (finishCommands_kept s)]

theorem losePipe_curB (s : State) : (losePipe s).cls.curB = s.cls.curB := by
  unfold losePipe
  dsimp only
  rw [rewatch_cls, syncAll_cls, dropJobs_cls, forEach_keeps (F := State.cls) _ _ enterDown_cls]

theorem loseDoldrums_frame (s : State) : (loseDoldrums s).groups = [] ∧ (loseDoldrums s).cls.curB = s.cls.curB := by
  simp [loseDoldrums, losePipe_curB]

/-- What DOLDRUMS is entered with. -/
theorem enterDoldrums_fields (w : Option Instant) (s : State) :
    (enterDoldrums w s).time = { (enterDoldrums w s).time with aligned := false } ∧
    (enterDoldrums w s).pwr = { s.pwr with
      asleep := true, fw := some .doldrums, wakeAt := w, retValid := BitVec.allOnes 16
      bankCrc := (enterDoldrums w s).pwr.bankCrc, ruined := 0, holdTime := lineTime s, holdValid := Servo.holds s.time.servo
      vreq := s.pwr.vreq &&& 0x10#5 } ∧
    (enterDoldrums w s).cmd.ready = false ∧ (enterDoldrums w s).groups = [] ∧
    (enterDoldrums w s).cls.curB = s.cls.curB := by
  obtain ⟨htime, hpwr, hcurB, hnow⟩ := wound_frame s
  obtain ⟨hgroups, hlost⟩ := loseDoldrums_frame (wound s)
  have hline : lineTime (wound s) = lineTime s := lineTime_of htime hnow (by rw [hpwr]) (by rw [hpwr])
  have honly : ∃ y, evOnly y (enterDoldrums w s) ∧ y.time.aligned = false ∧ y.cmd.ready = false ∧
      y.groups = (loseDoldrums (wound s)).groups ∧ y.cls = (loseDoldrums (wound s)).cls ∧
      y.pwr = { (loseDoldrums (wound s)).pwr with
        asleep := true, fw := some .doldrums, wakeAt := w, retValid := BitVec.allOnes 16, bankCrc := y.pwr.bankCrc
        ruined := 0, holdTime := lineTime (wound s), holdValid := Servo.holds (wound s).time.servo
        vreq := (loseDoldrums (wound s)).pwr.vreq &&& 0x10#5 } := ⟨_, notePower_only s _, rfl, rfl, rfl, rfl, rfl⟩
  obtain ⟨y, honly, haligned, hready, hyg, hyc, hyp⟩ := honly
  rw [loseDoldrums_pwr, hpwr, hline, htime] at hyp
  refine ⟨?_, ?_, ?_, ?_, ?_⟩
  · rw [honly.time]
    simp only [← haligned]
  · rw [honly.pwr]
    exact hyp
  · rw [honly.cmd, hready]
  · rw [honly.groups, hyg, hgroups]
  · rw [honly.cls, hyc, hlost, hcurB]

theorem aligned_false {x : TimeUnit} (h : x = { x with aligned := false }) : x.aligned = false := by
  rw [h]

/-- Settles O54. -/
theorem deviceAndPower : Obligations.DeviceAndPower := by
  refine ⟨fun h s => ⟨deviceReset_warm, fun d hrun hd => deviceReset_domain hrun hd, fun d hrun hd => deviceReset_range hrun hd,
      fun o n hrun hn ho => fwLoad_chunk hn ho hrun, fun o n i hrun hn ho hv => fwLoad_invalid hn ho hrun hv,
      fun o n i hrun hn ho hv hb => fwLoad_written hn ho hrun hv hb, fun o n i hrun hn ho hv hb => fwLoad_recovered hn ho hrun hv hb,
      fun w hrun hg => powerVote_runs hrun hg, fun w hg => nextWith_of rfl (putHostVote_pwr w hg),
      fun x i b w hrun hhere hi hoff => powerSchedule_runs hrun hhere hi hoff,
      fun x i b w hrun hhere hi hy hreg => powerSchedule_registered hrun hhere hi hy hreg,
      fun x i b w hrun hhere hi => powerSchedule_instant hrun hhere hi⟩,
    fun s c => ⟨fun hc => ?_, fun hc h => powerScheduleDue_waits hc h, fun hc ha hdue hb hlate => ?_,
      fun hc ha hdue hb ht => ?_, fun hc ha hdue hb ht => ?_⟩⟩
  · change execPowerScheduleDue s = _
    unfold execPowerScheduleDue
    rw [hc]
  · refine nextWith_of (powerScheduleDue_blocked hc ha hdue hb hlate) ⟨raise_pwr _ _, ?_⟩
    exact eq_merged (m := { pwr := true, evc := true, out := true }) (by simp)
  · have hexec := powerScheduleDue_acts hc ha hdue hb
    generalize hx : raise 0x07 (modPwr (fun p => { p with sched := none, outcome := .ok }) s) = x at hexec
    have hxpwr : x.pwr = { s.pwr with sched := none, outcome := .ok } := hx ▸ raise_pwr _ _
    have hxcar : x.carrier = s.carrier := by
      funext n
      rw [← hx, raise_carrier]
      rfl
    have hframe : applyPower c x = { s with
        carriers := (applyPower c x).carriers, q := (applyPower c x).q, evc := (applyPower c x).evc
        pmc := (applyPower c x).pmc, pwr := (applyPower c x).pwr, out := (applyPower c x).out } := by
      rw [← hx, applyPower_trim ht]
      exact eq_merged (m := { carriers := true, q := true, evc := true, pmc := true, pwr := true, out := true }) (by simp)
    obtain ⟨hpwr, hoff⟩ := trim_runs ht x
    refine nextWith_of hexec ⟨by rw [hpwr, hxpwr], ?_, ?_, fun n hn hne => hoff n hn (by rw [hxcar]; exact hne), hframe⟩
    · rw [hframe]
    · rw [hframe]
  · have hexec := powerScheduleDue_acts hc ha hdue hb
    generalize hx : raise 0x07 (modPwr (fun p => { p with sched := none, outcome := .ok }) s) = x at hexec
    have hrest : rest { evc := true, out := true, pwr := true } x = rest { evc := true, out := true, pwr := true } s := by
      rw [← hx]
      simp
    have hxpwr : x.pwr = { s.pwr with sched := none, outcome := .ok } := hx ▸ raise_pwr _ _
    have hxtime : x.time = s.time := time_of_rest hrest
    have hline : lineTime x = lineTime s :=
      lineTime_of hxtime (by rw [clk_of_rest hrest]) (by rw [hxpwr]) (by rw [hxpwr])
    have happly : applyPower c x = enterDoldrums c.wakeAt x := by simp only [applyPower, ht]
    have hkept := enterDoldrums_kept c.wakeAt x
    rw [happly] at hexec
    obtain ⟨htime, hpwr, hready, hgroups, hcurB⟩ := enterDoldrums_fields c.wakeAt x
    rw [hxpwr, hline, hxtime] at hpwr
    have hfuses : (enterDoldrums c.wakeAt x).fuses = s.fuses := by rw [fuses_kept, hkept, ← fuses_kept, fuses_of_rest hrest]
    have hnow : (enterDoldrums c.wakeAt x).clk.now = s.clk.now := by rw [now_of_kept hkept, clk_of_rest hrest]
    have hcur : (enterDoldrums c.wakeAt x).cls.curB = s.cls.curB := by rw [hcurB, cls_of_rest hrest]
    refine nextWith_of hexec ?_
    rw [hpwr]
    exact ⟨rfl, rfl, rfl, rfl, rfl, rfl, rfl, rfl, rfl, hready, hgroups, aligned_false htime, hfuses, hnow, hcur⟩

end Sys2Proof.Proofs.PowerCommands
end

section
/-!
Resets (chapters 15 and 16): O55.
-/
namespace Sys2Proof.Proofs.Resets
open Sys2Proof Sys2Proof.Machine Sys2Proof.Proofs.Frames Sys2Proof.Proofs.Rules

set_option Elab.async false

@[simp] theorem stopBursts_fuses (a0 : Bool) (s : State) : (stopBursts a0 s).fuses = s.fuses :=
  fuses_of_rest (m := { carriers := true, out := true }) (by simp)
@[simp] theorem stopBursts_dev (a0 : Bool) (s : State) : (stopBursts a0 s).dev = s.dev :=
  dev_of_rest (m := { carriers := true, out := true }) (by simp)
@[simp] theorem stopBursts_clk (a0 : Bool) (s : State) : (stopBursts a0 s).clk = s.clk :=
  clk_of_rest (m := { carriers := true, out := true }) (by simp)
@[simp] theorem stopBursts_time (a0 : Bool) (s : State) : (stopBursts a0 s).time = s.time :=
  time_of_rest (m := { carriers := true, out := true }) (by simp)
@[simp] theorem stopBursts_reg (a0 : Bool) (s : State) : (stopBursts a0 s).reg = s.reg :=
  reg_of_rest (m := { carriers := true, out := true }) (by simp)
@[simp] theorem stopBursts_sec (a0 : Bool) (s : State) : (stopBursts a0 s).sec = s.sec :=
  sec_of_rest (m := { carriers := true, out := true }) (by simp)
@[simp] theorem stopBursts_pwr (a0 : Bool) (s : State) : (stopBursts a0 s).pwr = s.pwr :=
  pwr_of_rest (m := { carriers := true, out := true }) (by simp)
@[simp] theorem stopBursts_pending (a0 : Bool) (s : State) : (stopBursts a0 s).pending = s.pending :=
  pending_of_rest (m := { carriers := true, out := true }) (by simp)
/-! ### What a reset keeps (Tables 15-8 and 15-9) -/

/-- What the resets of both dies keep of a state, whatever its bursts in flight (R334 to R336). -/
theorem survivors_stopped (ramp : Bool) (s : State) : survivors (stopBursts ramp s) = { survivors s with
    carriers := (survivors (stopBursts ramp s)).carriers, clk := (survivors (stopBursts ramp s)).clk
    out := (stopBursts ramp s).out } := by
  unfold survivors
  rw [stopBursts_fuses, stopBursts_dev, stopBursts_time, stopBursts_reg, stopBursts_sec, stopBursts_pwr, stopBursts_pending]

theorem survivors_now (ramp : Bool) (s : State) : (survivors (stopBursts ramp s)).clk.now = s.clk.now := by
  change (stopBursts ramp s).clk.now = s.clk.now
  rw [stopBursts_clk]

/-- A warm reset clears everything but the survivors and records its cause (R334). -/
theorem warmReset_only (cause : Nat) (s : State) : evOnly { survivors s with
    carriers := (survivors (stopBursts true s)).carriers, clk := (survivors (stopBursts true s)).clk
    out := (stopBursts true s).out, dev := { (survivors s).dev with resetAt := s.clk.now }
    pwr := { (survivors s).pwr with cause := cause, warmCount := satInc 16 s.pwr.warmCount } } (warmReset cause s) := by
  have hx : ({ survivors (stopBursts true s) with
      dev := { (survivors (stopBursts true s)).dev with resetAt := (survivors (stopBursts true s)).clk.now }
      pwr := { (survivors (stopBursts true s)).pwr with
        cause := cause, warmCount := satInc 16 (survivors (stopBursts true s)).pwr.warmCount } } : State) = { survivors s with
    carriers := (survivors (stopBursts true s)).carriers, clk := (survivors (stopBursts true s)).clk
    out := (stopBursts true s).out, dev := { (survivors s).dev with resetAt := s.clk.now }
    pwr := { (survivors s).pwr with cause := cause, warmCount := satInc 16 s.pwr.warmCount } } := by
    rw [survivors_now, survivors_stopped]
    rfl
  rw [← hx]
  exact syncWarn_only _

/-- The state after a warm reset, part by part. -/
theorem warmReset_fields (cause : Nat) (s : State) :
    (warmReset cause s).fuses = s.fuses ∧ (warmReset cause s).dev = { (survivors s).dev with resetAt := s.clk.now } ∧
    (warmReset cause s).pwr = { (survivors s).pwr with cause := cause, warmCount := satInc 16 s.pwr.warmCount } ∧
    (warmReset cause s).reg = s.reg.persistent ∧ (warmReset cause s).cmd = {} ∧ (warmReset cause s).q = {} ∧
    (warmReset cause s).cls = {} ∧ (warmReset cause s).ports = [] ∧ (warmReset cause s).groups = [] ∧
    (warmReset cause s).sec.assocs = [] ∧ (warmReset cause s).time.servo = .free ∧ (warmReset cause s).pending = s.pending ∧
    (warmReset cause s).clk.now = s.clk.now := by
  have honly := warmReset_only cause s
  have hnow : (warmReset cause s).clk.now = s.clk.now := (congrArg Clock.now honly.clk).trans (survivors_now true s)
  exact ⟨honly.fuses, honly.dev, honly.pwr, honly.reg, honly.cmd, honly.q, honly.cls, honly.ports, honly.groups,
    congrArg Security.assocs honly.sec, congrArg TimeUnit.servo honly.time, honly.pending, hnow⟩

/-! ### The reset events (R334, R335, R349, R350) -/

section
variable {s : State}

theorem porstAssert_clears : nextWith .porstAssert s fun t => t = { State.reset with
    fuses := s.fuses, dev := { State.reset.dev with slots := s.dev.slots }
    clk := { State.reset.clk with draws := s.clk.draws }, time := { State.reset.time with refOk := s.time.refOk }
    pwr := { State.reset.pwr with warn := s.pwr.warn, trip := s.pwr.trip, porst := true }, out := t.out
    pending := s.pending } := by
  refine ⟨_, rfl, ?_⟩
  dsimp only
  rw [stopBursts_fuses, stopBursts_dev, stopBursts_clk, stopBursts_time, stopBursts_pwr, stopBursts_pending]
  rfl

theorem resetN_held (h : s.pwr.porst = true) :
    exec .resetNAssert s = .next { s with pwr := { s.pwr with resetN := true } } := congrArg Host.Outcome.next (if_pos h)

theorem resetN_resets (h : s.pwr.porst = false) :
    exec .resetNAssert s = .next (modPwr (fun p => { p with resetN := true }) (warmReset 2 s)) :=
  congrArg Host.Outcome.next (if_neg (by simp [h]))

theorem watchdogReset_resets (h : s.cmd.ready = true) : exec .watchdogReset s = .next (warmReset 4 s) :=
  congrArg Host.Outcome.next (if_pos h)

theorem watchdogReset_idle (h : s.cmd.ready = false) : exec .watchdogReset s = .next s :=
  congrArg Host.Outcome.next (if_neg (by simp [h]))

section
variable {k : ResetKind} {i : Instant} (hd : s.dev.resetDue = some (k, i))
include hd

theorem commandReset_waits (hi : s.clk.now < i) : exec .commandResetStart s = .next s := by
  change execCommandResetStart s = _
  unfold execCommandResetStart
  rw [hd]
  exact congrArg Host.Outcome.next (if_pos hi)

end

theorem commandReset_warm {i : Instant} (hd : s.dev.resetDue = some (.warm, i)) (hi : i ≤ s.clk.now) :
    exec .commandResetStart s = .next (warmReset 3 { s with dev := { s.dev with resetDue := none } }) := by
  change execCommandResetStart s = _
  unfold execCommandResetStart
  rw [hd]
  exact congrArg Host.Outcome.next (if_neg (not_lt.mpr hi))

theorem commandReset_domain {d : Nat} {i : Instant} (hd : s.dev.resetDue = some (.domain d, i)) (hi : i ≤ s.clk.now) :
    exec .commandResetStart s = .next (domainReset d { s with dev := { s.dev with resetDue := none } }) := by
  change execCommandResetStart s = _
  unfold execCommandResetStart
  rw [hd]
  exact congrArg Host.Outcome.next (if_neg (not_lt.mpr hi))

/-- The reset of D2D is a retrain (R334). -/
theorem domainReset_d2d (hr : s.die.retrain = false) (hs : s.die.split = false) : domainReset 4 s = startRetrain { s with
    dev := { s.dev with resetAt := s.clk.now }, pwr := { s.pwr with cause := 5, domain := 4 } } := by
  unfold domainReset
  simp [hr, hs]

theorem startRetrain_frame (s : State) : (startRetrain s).die = { s.die with retrain := true, retry := (startRetrain s).die.retry } ∧
    evOnly { s with clk := { s.clk with draws := s.clk.draws + 1 }, die := (startRetrain s).die } (startRetrain s) := by
  have hdie : (startRetrain s).die = { s.die with retrain := true, retry := (draw s).1 % 4097 } :=
    raise_die 0x19 (modDie (fun d => { d with retrain := true, retry := (draw s).1 % 4097 }) (draw s).2)
  rw [hdie]
  exact ⟨rfl, raise_only 0x19 (modDie (fun d => { d with retrain := true, retry := (draw s).1 % 4097 }) (draw s).2)⟩

/-- What a hardware stop leaves (R352): the survivors, every regulator request withdrawn, the holdover counter at line time. -/
theorem hardwareStop_stops (hs : s.pwr.stop = false) (hp : s.pwr.porst = false) : nextWith .hardwareStop s fun t =>
    t.fuses = s.fuses ∧ t.pwr.stop = true ∧ t.pwr.vreq = 0 ∧ t.pwr.holdTime = lineTime s ∧ t.pwr.wakeEn = s.pwr.wakeEn ∧
    t.cmd = {} ∧ t.q = {} ∧ t.ports = [] ∧ t.reg = s.reg.persistent ∧ (∀ d, d ≠ 0 → t.level d = 0) := by
  have hgo : ¬ (s.pwr.stop || s.pwr.porst) = true := by simp [hs, hp]
  refine nextWith_of (congrArg Host.Outcome.next (if_neg hgo)) ⟨?_, rfl, rfl, rfl, ?_, rfl, rfl, rfl, ?_, fun d hd => ?_⟩
  · exact stopBursts_fuses true s
  · change (stopBursts true s).pwr.wakeEn = _
    rw [stopBursts_pwr]
  · exact congrArg Registration.persistent (stopBursts_reg true s)
  · unfold State.level
    rw [if_neg hd]
    exact if_pos rfl

theorem hardwareStop_idle (h : s.pwr.stop = true ∨ s.pwr.porst = true) : exec .hardwareStop s = .next s :=
  congrArg Host.Outcome.next (if_pos (by rcases h with h | h <;> simp [h]))

end

/-- Settles O55. -/
theorem resets : Obligations.Resets := by
  intro s
  refine ⟨porstAssert_clears, resetN_held, fun hp => ?_, fun hr => ?_, watchdogReset_idle, fun i hd hi => ?_,
    fun k i hd hi => commandReset_waits hd hi, fun i hd hi hr hs => ?_, hardwareStop_stops, hardwareStop_idle⟩
  · obtain ⟨hfuses, hdev, hpwr, hreg, hcmd, hq, hcls, hports, hgroups, hassocs, hservo, hpending, hnow⟩ := warmReset_fields 2 s
    refine nextWith_of (resetN_resets hp) ⟨hfuses, ?_, ?_, ?_, hnow, ?_, ?_, rfl, ?_, ?_, ?_, ?_, hreg, hcmd, hq, hcls, hports,
      hgroups, hassocs, hservo, hpending⟩ <;> simp only [modPwr, hdev, hpwr] <;> rfl
  · obtain ⟨hfuses, hdev, hpwr, hreg, hcmd, hq, hcls, hports, hgroups, hassocs, hservo, hpending, hnow⟩ := warmReset_fields 4 s
    refine nextWith_of (watchdogReset_resets hr) ⟨hfuses, ?_, ?_, ?_, hreg, hcmd, hq, hgroups, hassocs⟩ <;>
      simp only [hdev, hpwr] <;> rfl
  · obtain ⟨hfuses, hdev, hpwr, hreg, hcmd, hq, hcls, hports, hgroups, hassocs, hservo, hpending, hnow⟩ :=
      warmReset_fields 3 { s with dev := { s.dev with resetDue := none } }
    refine nextWith_of (commandReset_warm hd hi) ⟨hfuses, ?_, ?_, ?_, ?_, hreg, hcmd, hq, hgroups, hassocs⟩ <;>
      simp only [hdev, hpwr] <;> rfl
  · have hexec := commandReset_domain hd hi
    rw [domainReset_d2d (s := { s with dev := { s.dev with resetDue := none } }) hr hs] at hexec
    obtain ⟨hdie, honly⟩ := startRetrain_frame { s with
      dev := { s.dev with resetDue := none, resetAt := s.clk.now }, pwr := { s.pwr with cause := 5, domain := 4 } }
    refine nextWith_of hexec ⟨hdie, honly.dev, honly.pwr, ?_⟩
    have hdev := honly.dev
    have hpwr := honly.pwr
    unfold evOnly at honly
    rw [hdev, hpwr]
    exact honly

end Sys2Proof.Proofs.Resets
end

section
/-!
Boot (chapters 10 and 15): O56.
-/
namespace Sys2Proof.Proofs.Boot
open Sys2Proof Sys2Proof.Machine Sys2Proof.Proofs.Frames Sys2Proof.Proofs.Rules

set_option Elab.async false

/-! ### BOOT_START (R337, R348) -/

section
variable {s : State}

theorem bootStart_starts (hb : s.dev.booting = false) (hstage : s.dev.bootStage = 0) (hstop : s.pwr.stop = false)
    (ha : s.pwr.asleep = false) : nextWith .bootStart s fun t =>
      t.dev = { s.dev with booting := true, bootStage := if s.pwr.cause = 1 then 1 else 2 } ∧
      t.pwr = { s.pwr with porst := false, resetN := false, vreq := s.pwr.vreq ||| 1#5 } ∧
      t = { s with dev := t.dev, pwr := t.pwr, evc := t.evc, out := t.out } := by
  have hgo : ¬ (s.dev.booting || s.dev.bootStage != 0 || s.pwr.stop || s.pwr.asleep) = true := by
    simp [hb, hstage, hstop, ha]
  have honly := syncWarn_only { s with
    dev := { s.dev with booting := true, bootStage := if s.pwr.cause = 1 then 1 else 2 }
    pwr := { s.pwr with porst := false, resetN := false, vreq := s.pwr.vreq ||| 1#5 } }
  refine nextWith_of (congrArg Host.Outcome.next (if_neg hgo)) ⟨honly.dev, honly.pwr, ?_⟩
  rw [honly.dev, honly.pwr]
  exact honly

theorem bootStart_idle (h : s.dev.booting = true ∨ s.dev.bootStage ≠ 0) : exec .bootStart s = .next s := by
  have hstop : (s.dev.booting || s.dev.bootStage != 0 || s.pwr.stop || s.pwr.asleep) = true := by
    rcases h with h | h <;> simp [h]
  exact congrArg Host.Outcome.next (if_pos hstop)

/-! ### The choice of an image (R338) -/

theorem mem_validSlots {k : Nat} {i : FwImage} :
    (k, i) ∈ validSlots s ↔ s.dev.slots[k]? = some (some i) ∧ imageValid i s = true := by
  unfold validSlots
  rw [List.mem_filter, List.mem_filterMap]
  refine and_congr_left fun _ => ⟨?_, fun h => ?_⟩
  · rintro ⟨⟨x, j⟩, hmem, hx⟩
    cases x with
    | none => exact absurd hx (by simp)
    | some y =>
      obtain ⟨rfl, rfl⟩ := Prod.mk.inj (Option.some.inj hx)
      exact List.mem_zipIdx_iff_getElem?.mp hmem
  · exact ⟨(some i, k), List.mem_zipIdx_iff_getElem?.mpr h, rfl⟩

/-- Of two valid images the one that is booted: the later only with a higher version. -/
def newer (a : Option (Nat × FwImage)) (x : Nat × FwImage) : Option (Nat × FwImage) :=
  match a with
  | none => some x
  | some y => if y.2.version < x.2.version then some x else some y

theorem chooseImage_eq (s : State) : chooseImage s = (validSlots s).foldl newer none := rfl

/-- The image kept so far and those still to come hold the one chosen, and none of them is of a higher version. -/
theorem foldl_newer (l : List (Nat × FwImage)) (a : Option (Nat × FwImage)) {y : Nat × FwImage} (h : l.foldl newer a = some y) :
    (y ∈ l ∨ a = some y) ∧ (∀ x ∈ l, x.2.version ≤ y.2.version) ∧ ∀ x, a = some x → x.2.version ≤ y.2.version := by
  induction l generalizing a with
  | nil => exact ⟨.inr h, by simp, fun x hx => (Option.some.inj (hx.symm.trans h)) ▸ le_rfl⟩
  | cons z l ih =>
    obtain ⟨hmem, hall, hacc⟩ := ih (newer a z) h
    cases a with
    | none =>
      have hz := hacc z rfl
      refine ⟨.inl ?_, fun x hx => ?_, by simp⟩
      · rcases hmem with hmem | hmem
        · exact List.mem_cons_of_mem _ hmem
        · exact Option.some.inj hmem ▸ List.mem_cons_self
      · rcases List.mem_cons.mp hx with rfl | hx
        · exact hz
        · exact hall x hx
    | some x0 =>
      by_cases hlt : x0.2.version < z.2.version
      · rw [show newer (some x0) z = some z from if_pos hlt] at hmem hacc
        have hz := hacc z rfl
        refine ⟨.inl ?_, fun x hx => ?_, fun x hx => ?_⟩
        · rcases hmem with hmem | hmem
          · exact List.mem_cons_of_mem _ hmem
          · exact Option.some.inj hmem ▸ List.mem_cons_self
        · rcases List.mem_cons.mp hx with rfl | hx
          · exact hz
          · exact hall x hx
        · exact Option.some.inj hx ▸ hlt.le.trans hz
      · rw [show newer (some x0) z = some x0 from if_neg hlt] at hmem hacc
        have hx0 := hacc x0 rfl
        refine ⟨hmem.imp_left (List.mem_cons_of_mem _), fun x hx => ?_, hacc⟩
        rcases List.mem_cons.mp hx with rfl | hx
        · exact (not_lt.mp hlt).trans hx0
        · exact hall x hx

/-- The image chosen is valid, in its slot, and of no lower version than another valid one (R338). -/
theorem chooseImage_spec {k : Nat} {i : FwImage} (h : chooseImage s = some (k, i)) : imageValid i s = true ∧
    s.dev.slots[k]? = some (some i) ∧
    ∀ (j : Nat) (x : FwImage), s.dev.slots[j]? = some (some x) → imageValid x s = true → x.version ≤ i.version := by
  obtain ⟨hmem, hall, -⟩ := foldl_newer _ _ ((chooseImage_eq s).symm.trans h)
  obtain ⟨hslot, hvalid⟩ := mem_validSlots.mp (hmem.resolve_right (by simp))
  exact ⟨hvalid, hslot, fun j x hj hx => hall (j, x) (mem_validSlots.mpr ⟨hj, hx⟩)⟩

/-! ### BOOT_STAGE_COMPLETE (R214, R215, R337 to R340) -/

variable {r : StageResult}

theorem bootStage_idle (h : s.dev.booting = false ∨ s.dev.bootStopped = true) : exec (.bootStageComplete r) s = .next s := by
  have hstop : (!s.dev.booting || s.dev.bootStopped) = true := by rcases h with h | h <;> simp [h]
  exact congrArg Host.Outcome.next (if_pos hstop)

section
variable (hb : s.dev.booting = true) (hs : s.dev.bootStopped = false)
include hb hs

theorem bootStage_fails (hok : r.ok = false) (hstage : s.dev.bootStage ≠ 15) :
    exec (.bootStageComplete r) s = .next { s with dev := { s.dev with bootStopped := true } } := by
  change execBootStageComplete r s = _
  unfold execBootStageComplete
  rw [if_neg (by simp [hb, hs]), if_pos (by simp [hok]), if_neg hstage]
  rfl

variable (hok : r.ok = true)
include hok

theorem bootStage_seed (hstage : s.dev.bootStage = 1) : exec (.bootStageComplete r) s = .next (seedStage r s) := by
  change execBootStageComplete r s = _
  unfold execBootStageComplete
  rw [if_neg (by simp [hb, hs]), if_neg (by simp [hok])]
  simp only [hstage]

theorem bootStage_selfTest (hstage : s.dev.bootStage = 2) : exec (.bootStageComplete r) s = .next (selfTestStage r s) := by
  change execBootStageComplete r s = _
  unfold execBootStageComplete
  rw [if_neg (by simp [hb, hs]), if_neg (by simp [hok])]
  simp only [hstage]

theorem bootStage_hbm (hstage : s.dev.bootStage = 5) : exec (.bootStageComplete r) s = .next (toStage 6 s) := by
  change execBootStageComplete r s = _
  unfold execBootStageComplete
  rw [if_neg (by simp [hb, hs]), if_neg (by simp [hok])]
  simp only [hstage]

theorem bootStage_ready (hstage : s.dev.bootStage = 7) : exec (.bootStageComplete r) s = .next (becomeReady s) := by
  change execBootStageComplete r s = _
  unfold execBootStageComplete
  rw [if_neg (by simp [hb, hs]), if_neg (by simp [hok])]
  simp only [hstage]

section
variable {u : State} (hstage : s.dev.bootStage = 4)
  (hu : u = if r.images = [] then s else { s with dev := { s.dev with slots := (r.images ++ [none, none]).take 2 } })
include hstage hu

/-- LOAD with no valid image waits in recovery (R339). -/
theorem bootStage_recovery (hc : chooseImage u = none) :
    exec (.bootStageComplete r) s = .next { u with dev := { u.dev with bootStage := 15 } } := by
  change execBootStageComplete r s = _
  unfold execBootStageComplete
  rw [if_neg (by simp [hb, hs]), if_neg (by simp [hok])]
  dsimp only
  rw [← hu]
  simp only [hstage, hc]

theorem bootStage_load {k : Nat} {i : FwImage} (hc : chooseImage u = some (k, i)) :
    exec (.bootStageComplete r) s = .next (toStage 5 (bootImage k i u)) := by
  change execBootStageComplete r s = _
  unfold execBootStageComplete
  rw [if_neg (by simp [hb, hs]), if_neg (by simp [hok])]
  dsimp only
  rw [← hu]
  simp only [hstage, hc]

end
end

/-- A stage that needs no rail begins. -/
theorem toStage_plain {k : Nat} (h6 : k ≠ 6) (h7 : k ≠ 7) (s : State) : toStage k s = { s with dev := { s.dev with bootStage := k } } := by
  unfold toStage
  rw [if_neg h6, if_neg h7]
  dsimp only
  rw [show s.pwr.vreq ||| 0 = s.pwr.vreq from BitVec.or_zero]

/-- A seed bank is programmed and the device leaves BLANK (R214). -/
theorem seedStage_programs (hrng : s.sec.rngOk = true) (hseed : r.seedOk = true) (hnone : (seedOf s.fuses.seedBanks).isSome = false)
    (hbank : s.fuses.seedBanks.findIdx? (· == .unused) = some 0) : seedStage r s = { s with
      fuses := { s.fuses with
        seedBanks := s.fuses.seedBanks.set 0 (.valid (draw s).1)
        lifecycle := if s.fuses.lifecycle = .blank then .unowned else s.fuses.lifecycle }
      clk := { s.clk with draws := s.clk.draws + 1 }, dev := { s.dev with bootStage := 2 } } := by
  have hgo : ¬ (!s.sec.rngOk) = true := by simp [hrng]
  unfold seedStage
  dsimp only
  rw [if_neg (by simp [hnone]), hbank]
  dsimp only
  rw [if_neg hgo, if_pos hseed, toStage_plain (by decide) (by decide)]
  by_cases hl : s.fuses.lifecycle = .blank
  · simp only [draw, hl, if_true]
  · simp only [draw, hl, if_false]

/-- The security block after SELF_TEST: its verdict, and the identity if a seed is valid (R215, R240). -/
def tested (r : StageResult) (s : State) : Security :=
  match seedOf s.fuses.seedBanks with
  | none => { s.sec with selfTest := r.selfTest }
  | some v => { s.sec with
      derived := true, digest := Config.sha384 ((Config.identityKeys v).1 ++ (Config.identityKeys v).2), selfTest := r.selfTest }

theorem selfTestStage_frame (r : StageResult) (s : State) : (selfTestStage r s).sec = tested r s ∧
    (selfTestStage r s).dev = { s.dev with bootStage := 3 } ∧
    selfTestStage r s = { s with
      sec := (selfTestStage r s).sec, dev := (selfTestStage r s).dev, evc := (selfTestStage r s).evc
      out := (selfTestStage r s).out } := by
  have hx : selfTestStage r s = { (if r.selfTest then ({ s with sec := tested r s } : State) else raise 0xEB { s with sec := tested r s })
      with dev := { s.dev with bootStage := 3 } } := by
    unfold selfTestStage tested
    dsimp only
    rw [toStage_plain (by decide) (by decide)]
    cases r.selfTest <;> cases seedOf s.fuses.seedBanks <;> simp [modSec]
  rw [hx]
  cases r.selfTest
  · have honly := raise_only 0xEB { s with sec := tested r s }
    refine ⟨honly.sec, rfl, ?_⟩
    dsimp only
    rw [if_neg (by decide), honly.sec]
    unfold evOnly at honly
    rw [honly]
  · exact ⟨rfl, rfl, rfl⟩

/-- READY (R330, R337): firmware runs and FW votes ACTIVE; events alone follow. -/
theorem becomeReady_only (s : State) : evOnly { s with
    cmd := { s.cmd with ready := true }, dev := { s.dev with bootStage := 8, booting := false, fwCopy := true }
    time := { s.time with aligned := true }
    pwr := { s.pwr with fw := some .active, vreq := s.pwr.vreq ||| 0x08#5, failDue := false } } (becomeReady s) := by
  unfold becomeReady
  dsimp only
  refine .trans (raise_only 0x00 _) (.trans ?_ (notePower_only s _))
  split
  · split
    · exact (raise_only 0x04 _).trans (raise_only 0x08 _)
    · exact raise_only 0x08 _
  · split
    · exact raise_only 0x04 _
    · exact .refl _

end

/-- Settles O56. -/
theorem boot : Obligations.Boot := by
  intro s r
  refine ⟨bootStart_starts, bootStart_idle, bootStage_idle, bootStage_fails, fun hb hs hok hstage hrng hseed hnone hbank => ?_,
    fun hb hs hok hstage => ?_, fun u hb hs hok hstage hu => ⟨bootStage_recovery hb hs hok hstage hu, fun k i hc => ?_⟩,
    fun k i => chooseImage_spec, fun hb hs hok hstage => bootStage_hbm hb hs hok hstage, fun hb hs hok hstage => ?_⟩
  · have hexec := bootStage_seed hb hs hok hstage
    rw [seedStage_programs hrng hseed hnone hbank] at hexec
    exact nextWith_of hexec ⟨⟨_, rfl⟩, rfl, rfl, rfl, rfl⟩
  · obtain ⟨hsec, hdev, hframe⟩ := selfTestStage_frame r s
    refine nextWith_of (bootStage_selfTest hb hs hok hstage) ⟨?_, hdev, ?_, fun hseed => ?_, hframe⟩
    · rw [hsec, tested]
      split <;> rfl
    · rw [hsec, tested]
      split <;> rfl
    · obtain ⟨v, hv⟩ := Option.isSome_iff_exists.mp hseed
      rw [hsec, tested, hv]
  · have hexec := bootStage_load hb hs hok hstage hu hc
    have hfuses : u.fuses = s.fuses := by
      rw [hu]
      split <;> rfl
    rw [toStage_plain (by decide) (by decide)] at hexec
    rw [hexec, ← hfuses]
    rfl
  · have honly := becomeReady_only s
    refine nextWith_of (bootStage_ready hb hs hok hstage) ⟨?_, ?_, ?_, ?_, ?_, ?_, honly.fuses, ?_⟩
    · rw [honly.cmd]
    · rw [honly.dev]
    · rw [honly.dev]
    · rw [honly.time]
    · rw [honly.pwr]
    · rw [honly.pwr]
    · unfold evOnly at honly
      rw [honly]

end Sys2Proof.Proofs.Boot
end

section
/-!
Waking from DOLDRUMS (chapter 15): O57.
-/
namespace Sys2Proof.Proofs.Waking
open Sys2Proof Sys2Proof.Machine Sys2Proof.Proofs.Frames Sys2Proof.Proofs.Rules Sys2Proof.Proofs.LineTimeEvents
open Sys2Proof.Proofs.RegistrationCommands Sys2Proof.Proofs.PowerCommands Sys2Proof.Proofs.Transports

set_option Elab.async false

@[simp] theorem regateAll_pwr (s : State) : (regateAll s).pwr = s.pwr :=
  pwr_of_rest (m := { ports := true, evc := true, out := true }) (by simp)
@[simp] theorem regateAll_cmd (s : State) : (regateAll s).cmd = s.cmd :=
  cmd_of_rest (m := { ports := true, evc := true, out := true }) (by simp)
@[simp] theorem holdOutputs_pwr (s : State) : (holdOutputs s).pwr = s.pwr :=
  pwr_of_rest (m := { tio := true }) (by simp)

@[simp] theorem noteTime_time (s : State) (s1 : State) : (noteTime s s1).time = s1.time :=
  time_of_rest (m := { clk := true, tio := true, trib := true, cls := true, q := true, ports := true, snaps := true, sec := true, groups := true, evc := true, pwr := true, out := true }) (by simp)
@[simp] theorem noteTime_reg (s : State) (s1 : State) : (noteTime s s1).reg = s1.reg :=
  reg_of_rest (m := { clk := true, tio := true, trib := true, cls := true, q := true, ports := true, snaps := true, sec := true, groups := true, evc := true, pwr := true, out := true }) (by simp)
@[simp] theorem noteTime_fuses (s : State) (s1 : State) : (noteTime s s1).fuses = s1.fuses :=
  fuses_of_rest (m := { clk := true, tio := true, trib := true, cls := true, q := true, ports := true, snaps := true, sec := true, groups := true, evc := true, pwr := true, out := true }) (by simp)
@[simp] theorem noteTime_carriers (s : State) (s1 : State) : (noteTime s s1).carriers = s1.carriers :=
  carriers_of_rest (m := { clk := true, tio := true, trib := true, cls := true, q := true, ports := true, snaps := true, sec := true, groups := true, evc := true, pwr := true, out := true }) (by simp)
@[simp] theorem resumeServo_cmd (a0 : Bool) (a1 : Nat) (s : State) (s1 : State) : (resumeServo a0 a1 s s1).cmd = s1.cmd :=
  cmd_of_rest (m := { clk := true, time := true, tio := true, trib := true, cls := true, q := true, ports := true, snaps := true, sec := true, groups := true, evc := true, pwr := true, out := true }) (by simp)
@[simp] theorem loseBank_pwr (a0 : Nat) (s : State) : (loseBank a0 s).pwr = s.pwr :=
  pwr_of_rest (m := { clk := true, time := true, tio := true, carriers := true, reg := true, down := true, mch := true, trib := true, cls := true, q := true, lanes := true, refs := true, ports := true, sec := true, cmd := true, eng := true, evc := true, pmc := true, out := true }) (by simp)
@[simp] theorem applyLatched_pwr (s : State) : (applyLatched s).pwr = s.pwr :=
  pwr_of_rest (m := { cmd := true, evc := true, out := true }) (by simp)
@[simp] theorem wakeTargets_pwr (s : State) : (wakeTargets s).pwr = s.pwr :=
  pwr_of_rest (m := { evc := true, out := true }) (by simp)
@[simp] theorem wakeTargets_cmd (s : State) : (wakeTargets s).cmd = s.cmd :=
  cmd_of_rest (m := { evc := true, out := true }) (by simp)
@[simp] theorem loseKeys_cmd (a0 : Nat) (s : State) : (loseKeys a0 s).cmd = s.cmd :=
  cmd_of_rest (m := { sec := true, evc := true, out := true }) (by simp)
@[simp] theorem integrityFlush_cmd (a0 : Nat) (s : State) : (integrityFlush a0 s).cmd = s.cmd :=
  cmd_of_rest (m := { clk := true, q := true, evc := true, pmc := true, out := true }) (by simp)

@[simp] theorem loseLineSettings_cmd (s : State) : (loseLineSettings s).cmd = s.cmd :=
  cmd_of_rest (m := { time := true, tio := true, carriers := true, reg := true, down := true, mch := true, trib := true, evc := true, out := true }) (by simp)
@[simp] theorem loseSwitchSettings_cmd (s : State) : (loseSwitchSettings s).cmd = s.cmd :=
  cmd_of_rest (m := { cls := true, q := true, lanes := true, refs := true, ports := true, evc := true, out := true }) (by simp)

/-! ### What line time's validity does to the power manager (R33, R325) -/

/-- Only the scheduled change and its outcome may differ in the power manager: an invalid line time fails what is pending. -/
def schedOnly (p q : Power) : Prop := q = { p with sched := q.sched, outcome := q.outcome }

theorem schedOnly.refl (p : Power) : schedOnly p p := rfl

theorem onInvalid_pwr (s : State) : schedOnly s.pwr (onInvalid s).pwr := by
  have habort : (forEach (groupsIn .committed s) (fun g => abortGroup g .timeInvalid 0) s).pwr = s.pwr :=
    forEach_keeps (F := State.pwr) _ s fun g s => abortGroup_pwr g _ _ s
  unfold onInvalid
  dsimp only
  rw [regateAll_pwr, forEach_keeps (F := State.pwr) _ _ fun p s => modPort_pwr p _ s]
  dsimp only
  rw [habort]
  cases hs : s.pwr.sched with
  | none =>
    exact .refl _
  | some c =>
    dsimp only
    rw [raise_pwr]
    rfl

theorem noteTime_pwr (s0 s : State) : schedOnly s.pwr (noteTime s0 s).pwr := by
  unfold noteTime
  dsimp only
  split
  · exact .refl _
  · split
    · split
      · rw [holdOutputs_pwr]
        exact .refl _
      · rw [raise_pwr]
        dsimp only
        rw [holdOutputs_pwr]
        exact .refl _
    · split
      · rw [regateAll_pwr, holdOutputs_pwr]
        exact .refl _
      · have h := onInvalid_pwr (raise 0x23 (holdOutputs { s with clk := { s.clk with validChanges := s.clk.validChanges + 1 } }))
        rw [raise_pwr, holdOutputs_pwr] at h
        exact h

theorem noteTime_pwr_of {s0 s : State} {p : Power} (h : s.pwr = p) : schedOnly p (noteTime s0 s).pwr := h ▸ noteTime_pwr s0 s

theorem resumeServo_pwr (valid : Bool) (e : Nat) (s0 s : State) : schedOnly s.pwr (resumeServo valid e s0 s).pwr := by
  unfold resumeServo
  dsimp only
  cases valid
  · exact noteTime_pwr s0 _
  · exact noteTime_pwr_of ((setFlag_pwr _ _).trans (raise_pwr _ _))

/-! ### A wake's start and its steps (R327, R330) -/

section
variable {s : State}

/-- A wake begins with step 1 (R327). -/
theorem startWake_starts (ha : s.pwr.asleep = true) (hw : s.pwr.wake = none) : startWake s = { s with
    pwr := { s.pwr with
      wake := some { step := 1, start := s.clk.now, since := s.clk.now }, wakeFail := false, changing := true
      vreq := s.pwr.vreq ||| 1#5 } } := by
  unfold startWake
  rw [if_pos (by simp [ha, hw])]

theorem aonWakeReq_idle {v : Word} (h : s.pwr.asleep = false ∨ v.getLsbD 0 = false) : exec (.aonWakeReq v) s = .next s := by
  change Host.Outcome.next (if v.getLsbD 0 then startWake s else s) = _
  rcases h with h | h
  · rw [show startWake s = s from if_neg (by simp [h]), ite_self]
  · rw [if_neg (by rw [h]; decide)]

theorem wakeRequest_awake (x : WakeSource) (ha : s.pwr.asleep = false) : exec (.wakeRequest x) s = .next s :=
  congrArg Host.Outcome.next (if_pos (by simp [ha]))

theorem wakeRequest_request (ha : s.pwr.asleep = true) : exec (.wakeRequest .request) s = .next (startWake s) :=
  congrArg Host.Outcome.next (if_neg (by simp [ha]))

theorem wakeRequest_schedule {i : Instant} (ha : s.pwr.asleep = true) (hw : s.pwr.wake = none) (hi : s.pwr.wakeAt = some i)
    (hdue : i ≤ s.pwr.holdTime) (hen : s.pwr.wakeEn.getLsbD 0 = true) :
    exec (.wakeRequest .schedule) s = .next (startWake (modPwr (fun p => { p with wakeAt := none }) s)) := by
  have hgo : (decide (i ≤ s.pwr.holdTime) && s.pwr.wakeEn.getLsbD 0 && s.pwr.wake.isNone) = true := by simp [hdue, hen, hw]
  change execWakeRequest .schedule s = _
  unfold execWakeRequest
  rw [if_neg (by simp [ha])]
  dsimp only
  rw [hi]
  exact congrArg Host.Outcome.next (if_pos hgo)

theorem wakeRequest_spi (ha : s.pwr.asleep = true) (hen : s.pwr.wakeEn.getLsbD 3 = false) :
    exec (.wakeRequest .spi) s = .next s := by
  change execWakeRequest .spi s = _
  unfold execWakeRequest
  rw [if_neg (by simp [ha])]
  exact congrArg Host.Outcome.next (if_neg (by rw [hen]; decide))

theorem wakeStepReady_none (r : StepReport) (hw : s.pwr.wake = none) : exec (.wakeStepReady r) s = .next s := by
  change execWakeStepReady r s = _
  unfold execWakeStepReady
  rw [hw]

theorem wakeStepTimeout_none (c : Nat) (hw : s.pwr.wake = none) : exec (.wakeStepTimeout c) s = .next s := by
  change execWakeStepTimeout c s = _
  unfold execWakeStepTimeout
  rw [hw]

section
variable {w : Wake} (hw : s.pwr.wake = some w)
include hw

theorem wakeStepReady_early (r : StepReport) (hlt : s.clk.now < w.since) : exec (.wakeStepReady r) s = .next s := by
  change execWakeStepReady r s = _
  unfold execWakeStepReady
  rw [hw]
  exact congrArg Host.Outcome.next (if_pos hlt)

section
variable (r : StepReport) (hge : w.since ≤ s.clk.now)
include hge

/-- A step whose ready signal does nothing but begin the next. -/
theorem wakeStepReady_plain (h3 : w.step ≠ 3) (h4 : w.step ≠ 4) (h6 : w.step ≠ 6) (h9 : w.step ≠ 9) (h10 : w.step ≠ 10) :
    exec (.wakeStepReady r) s = .next (nextWakeStep w s) := by
  change execWakeStepReady r s = _
  unfold execWakeStepReady
  rw [hw]
  dsimp only
  rw [if_neg (not_lt.mpr hge), if_neg h3, if_neg h4, if_neg h6, if_neg h9, if_neg h10]

theorem wakeStepReady_ctrl (h3 : w.step = 3) : exec (.wakeStepReady r) s = .next (nextWakeStep w
    (if s.pwr.failDue then raise 0x08 (modPwr (fun p => { p with failDue := false }) s) else s)) := by
  change execWakeStepReady r s = _
  unfold execWakeStepReady
  rw [hw]
  dsimp only
  rw [if_neg (not_lt.mpr hge), if_pos h3]

theorem wakeStepReady_banks (h4 : w.step = 4) : exec (.wakeStepReady r) s = .next (
    nextWakeStep { w with lost := (r.badBanks ||| s.pwr.ruined) &&& s.pwr.retValid } (modPwr (fun p => { p with
      retLost := p.retLost ||| ((r.badBanks ||| s.pwr.ruined) &&& s.pwr.retValid)
      retValid := p.retValid &&& ~~~((r.badBanks ||| s.pwr.ruined) &&& s.pwr.retValid), ruined := 0 }) s)) := by
  change execWakeStepReady r s = _
  unfold execWakeStepReady
  rw [hw]
  dsimp only
  rw [if_neg (not_lt.mpr hge), if_neg (by omega), if_pos h4]

theorem wakeStepReady_copy (h6 : w.step = 6) (hr : w.retry = false) (hc : s.dev.fwCopy = true) :
    exec (.wakeStepReady r) s = .next (nextWakeStep w s) := by
  change execWakeStepReady r s = _
  unfold execWakeStepReady
  rw [hw]
  dsimp only
  rw [if_neg (not_lt.mpr hge), if_neg (by omega), if_neg (by omega), if_pos h6, if_neg (by simp [hr]), if_pos hc]

theorem wakeStepReady_flash {k : Nat} {i : FwImage} (h6 : w.step = 6) (hr : w.retry = true) (hc : chooseImage s = some (k, i)) :
    exec (.wakeStepReady r) s = .next (nextWakeStep w (bootImage k i s)) := by
  change execWakeStepReady r s = _
  unfold execWakeStepReady
  rw [hw]
  dsimp only
  rw [if_neg (not_lt.mpr hge), if_neg (by omega), if_neg (by omega), if_pos h6, if_pos hr, hc]

theorem wakeStepReady_link (h9 : w.step = 9) (hup : 0 < r.lanesUp) (hdown : 0 < r.lanesDown) :
    exec (.wakeStepReady r) s = .next (nextWakeStep w (modDie (fun x => { x with
      goodUp := min r.lanesUp 24, goodDown := min r.lanesDown 24, widthUp := dieWidth (min r.lanesUp 24)
      widthDown := dieWidth (min r.lanesDown 24) }) s)) := by
  change execWakeStepReady r s = _
  unfold execWakeStepReady
  rw [hw]
  dsimp only
  rw [if_neg (not_lt.mpr hge), if_neg (by omega), if_neg (by omega), if_neg (by omega), if_pos h9, if_neg (by omega)]

theorem wakeStepReady_done (h10 : w.step = 10) : exec (.wakeStepReady r) s = .next (wakeDone w s) := by
  change execWakeStepReady r s = _
  unfold execWakeStepReady
  rw [hw]
  dsimp only
  rw [if_neg (not_lt.mpr hge), if_neg (by omega), if_neg (by omega), if_neg (by omega), if_neg (by omega), if_pos h10]

end

/-! A step's time is over (R330, R331). -/

theorem wakeStepTimeout_early (c : Nat) (hlt : s.clk.now < w.since + stepTimeout w.step w.retry) :
    exec (.wakeStepTimeout c) s = .next s := by
  change execWakeStepTimeout c s = _
  unfold execWakeStepTimeout
  rw [hw]
  exact congrArg Host.Outcome.next (if_pos hlt)

section
variable (c : Nat) (hge : w.since + stepTimeout w.step w.retry ≤ s.clk.now)
include hge

theorem wakeStepTimeout_retries (hr : w.retry = false) : exec (.wakeStepTimeout c) s = .next { s with pwr := { s.pwr with
    wake := some { w with retry := true, since := s.clk.now + ms 1 }, vreq := s.pwr.vreq &&& ~~~stepRails w.step } } := by
  change execWakeStepTimeout c s = _
  unfold execWakeStepTimeout
  rw [hw]
  dsimp only
  rw [if_neg (not_lt.mpr hge), if_pos (by simp [hr])]
  rfl

/-- The power manager of a wake that has failed at a step (R331). -/
def wakeFailed (w : Wake) (c : Nat) (p : Power) : Power := { p with
  wake := none, changing := false, wakeFail := true, failStep := w.step, failCause := wakeCause w.step c
  failDue := true, vreq := p.vreq &&& 0x10#5, holdValid := p.holdValid && w.step != 2 && w.step != 8 }

theorem wakeStepTimeout_fails (hr : w.retry = true) :
    exec (.wakeStepTimeout c) s = .next (noteTime s (modPwr (wakeFailed w c) s)) := by
  change execWakeStepTimeout c s = _
  unfold execWakeStepTimeout
  rw [hw]
  dsimp only
  rw [if_neg (not_lt.mpr hge), if_neg (by simp [hr])]
  rfl

end
end

/-! ### What each step leaves -/

theorem nextWakeStep_eq (w : Wake) (s : State) {v : BitVec 5} (hv : stepRails w.step ||| stepRails (w.step + 1) = v) :
    nextWakeStep w s = { s with pwr := { s.pwr with
      wake := some { w with step := w.step + 1, retry := false, since := s.clk.now }, vreq := s.pwr.vreq ||| v } } := by
  unfold nextWakeStep modPwr
  dsimp only
  rw [← hv, BitVec.or_assoc]

/-- The steps whose next one requests no regulator. -/
theorem stepRails_plain {k : Nat} (h : k = 1 ∨ k = 2 ∨ k = 5 ∨ k = 7 ∨ k = 8) : stepRails k ||| stepRails (k + 1) = stepRails k := by
  rcases h with rfl | rfl | rfl | rfl | rfl <;> decide

end

/-! ### The end of a wake (R330, R333) -/

theorem loseControlSettings_ready (s : State) : (loseControlSettings s).cmd.ready = s.cmd.ready := rfl

theorem loseBank_ready (b : Nat) (s : State) : (loseBank b s).cmd.ready = s.cmd.ready := by
  unfold loseBank
  split
  · rfl
  split
  · rw [forEach_keeps (F := State.cmd) _ _ loseKeys_cmd]
  split
  · rw [loseLineSettings_cmd]
  split
  · rw [loseSwitchSettings_cmd]
  split
  · rfl
  split
  · rw [loseControlSettings_ready, forEach_keeps (F := State.cmd) _ _ loseKeys_cmd]
  · exact congrArg CmdChannel.ready (forEach_keeps (F := State.cmd) _ s integrityFlush_cmd)

theorem putRqHead_ready (v : Nat) (s : State) : (putRqHead v s).cmd.ready = s.cmd.ready := by
  unfold putRqHead
  split
  · rw [ringError_cmd]
  · rw [syncReply_cmd]
    rfl

theorem putSqTail_ready (v : Nat) (s : State) : (putSqTail v s).cmd.ready = s.cmd.ready := by
  unfold putSqTail
  split
  · rw [ringError_cmd]
  · rfl

theorem applyLatched_ready (s : State) : (applyLatched s).cmd.ready = s.cmd.ready := by
  unfold applyLatched
  cases s.cmd.latchHead <;> cases s.cmd.latchTail <;> simp only [putSqTail_ready, putRqHead_ready] <;> rfl

/-- The terminal as CTRL takes it over at the end of a wake: awake, FW votes ACTIVE (R330, R357). -/
def awoken (w : Wake) (s : State) : State := { s with
  cmd := { s.cmd with ready := true }
  time := { s.time with rx := ((s.pwr.holdTime : Int) - downDelay s).toNat * 65536, aligned := true }
  pwr := { s.pwr with
    asleep := false, changing := false, wake := none, fw := some .active, holdValid := false
    lastUs := min ((s.clk.now - w.start) / us 10) 0xFFFE } }

theorem wakeDone_eq (w : Wake) (s : State) : wakeDone w s = wakeTargets (notePower s (
    let u := raise 0x00 (regateAll (applyLatched (forEach ((List.range 16).filter fun b => w.lost.getLsbD b) loseBank
      (resumeServo s.pwr.holdValid (carried s) s (awoken w s)))))
    if w.lost = 0 then u else raise 0x09 u)) := rfl

theorem wakeDone_pwr (w : Wake) (s : State) : schedOnly (awoken w s).pwr (wakeDone w s).pwr := by
  have h := resumeServo_pwr s.pwr.holdValid (carried s) s (awoken w s)
  have hpwr : (wakeDone w s).pwr = (resumeServo s.pwr.holdValid (carried s) s (awoken w s)).pwr := by
    rw [wakeDone_eq, wakeTargets_pwr, notePower_pwr]
    dsimp only
    rw [apply_ite State.pwr, raise_pwr 0x09, ite_self, raise_pwr, regateAll_pwr, applyLatched_pwr,
      forEach_keeps (F := State.pwr) _ _ loseBank_pwr]
  rw [hpwr]
  exact h

theorem wakeDone_ready (w : Wake) (s : State) : (wakeDone w s).cmd.ready = true := by
  rw [wakeDone_eq, wakeTargets_cmd, notePower_cmd]
  dsimp only
  rw [apply_ite State.cmd, raise_cmd 0x09, ite_self, raise_cmd, regateAll_cmd, applyLatched_ready,
    forEach_keeps (F := fun s => s.cmd.ready) _ _ loseBank_ready, resumeServo_cmd]
  rfl

/-- Settles O57. -/
theorem waking : Obligations.Waking := by
  intro s w
  refine ⟨fun v ha hw hv => ?_, fun v h => aonWakeReq_idle h, fun x ha => wakeRequest_awake x ha, fun ha hw => ?_,
    fun i ha hw hi hdue hen => ?_, wakeRequest_spi, fun r hw => wakeStepReady_none r hw,
    fun r hw hlt => wakeStepReady_early hw r hlt, fun r hw hge hk => ?_, fun r hw hge h3 => ?_, fun r hw hge h6 hr hc => ?_,
    fun r k i hw hge h6 hr hc => ?_, fun r hw hge h4 => ?_, fun r hw hge h9 hup hdown => ?_, fun r hw hge h10 => ?_,
    fun c hw => wakeStepTimeout_none c hw, fun c hw hlt => wakeStepTimeout_early hw c hlt,
    fun c hw hge hr => wakeStepTimeout_retries hw c hge hr, fun c hw hge hr => ?_, nextWith_of rfl ⟨rfl, rfl, rfl⟩⟩
  · exact (congrArg Host.Outcome.next (if_pos hv)).trans (congrArg Host.Outcome.next (startWake_starts ha hw))
  · rw [wakeRequest_request ha, startWake_starts ha hw]
  · have hexec := wakeRequest_schedule ha hw hi hdue hen
    rw [startWake_starts (s := modPwr (fun p => { p with wakeAt := none }) s) ha hw] at hexec
    exact nextWith_of hexec ⟨rfl, rfl, rfl⟩
  · rw [wakeStepReady_plain hw r hge (by omega) (by omega) (by omega) (by omega) (by omega),
      nextWakeStep_eq w s (stepRails_plain hk)]
  · have hexec := wakeStepReady_ctrl hw r hge h3
    generalize hx : (if s.pwr.failDue then raise 0x08 (modPwr (fun p => { p with failDue := false }) s) else s) = x at hexec
    have honly : evOnly { s with pwr := { s.pwr with failDue := false } } x := by
      rw [← hx]
      by_cases hf : s.pwr.failDue
      · rw [if_pos hf]
        exact raise_only 0x08 _
      · rw [if_neg hf, ← eq_false_of_ne_true hf]
        exact .refl s
    rw [nextWakeStep_eq w x (v := 0#5) (by rw [h3]; decide)] at hexec
    refine nextWith_of hexec ⟨?_, ?_⟩
    · dsimp only
      rw [honly.pwr, honly.clk, h3, BitVec.or_zero]
    · unfold evOnly at honly
      rw [honly]
  · rw [wakeStepReady_copy hw r hge h6 hr hc, nextWakeStep_eq w s (v := 0x06#5) (by rw [h6]; decide), h6]
  · rw [wakeStepReady_flash hw r hge h6 hr hc, nextWakeStep_eq w _ (v := 0x06#5) (by rw [h6]; decide), h6]
    rfl
  · have hexec := wakeStepReady_banks hw r hge h4
    refine nextWith_of hexec ⟨?_, rfl, rfl, rfl⟩
    rw [nextWakeStep_eq _ _ (v := 0#5) (by dsimp only; rw [h4]; decide), h4]
    rfl
  · have hexec := wakeStepReady_link hw r hge h9 hup hdown
    rw [nextWakeStep_eq w _ (v := 0x08#5) (by rw [h9]; decide), h9] at hexec
    exact nextWith_of hexec ⟨rfl, rfl, rfl⟩
  · have hpwr := wakeDone_pwr w s
    have hkept := wakeDone_kept w s
    unfold schedOnly at hpwr
    have hfuses : (wakeDone w s).fuses = s.fuses := by rw [fuses_kept, hkept, ← fuses_kept]
    refine nextWith_of (wakeStepReady_done hw r hge h10) ?_
    rw [hpwr]
    exact ⟨rfl, rfl, rfl, rfl, wakeDone_ready w s, hfuses, now_of_kept hkept⟩
  · have hpwr := noteTime_pwr s (modPwr (wakeFailed w c) s)
    unfold schedOnly at hpwr
    have hhold : w.step = 2 ∨ w.step = 8 → (wakeFailed w c s.pwr).holdValid = false := by
      rintro (h | h) <;> simp [wakeFailed, h]
    refine nextWith_of (wakeStepTimeout_fails hw c hge hr) ?_
    rw [hpwr]
    exact ⟨rfl, rfl, rfl, rfl, rfl, rfl, rfl, hhold, rfl, noteTime_fuses _ _, noteTime_reg _ _, noteTime_time _ _⟩

end Sys2Proof.Proofs.Waking
end

section
/-!
Pins and faults (chapter 16): O58.
-/
namespace Sys2Proof.Proofs.Pins
open Sys2Proof Sys2Proof.Machine Sys2Proof.Proofs.Frames Sys2Proof.Proofs.Rules Sys2Proof.Proofs.RegistrationCommands
open Sys2Proof.Proofs.EventRegisters Sys2Proof.Proofs.PowerCommands Sys2Proof.Proofs.Resets Sys2Proof.Proofs.Waking
open Sys2Proof.Proofs.Associations

set_option Elab.async false

@[simp] theorem setLink_sec (a0 : Nat) (a1 : Nat) (a2 : Nat) (s : State) : (setLink a0 a1 a2 s).sec = s.sec :=
  sec_of_rest (m := { dev := true, evc := true, out := true }) (by simp)
@[simp] theorem leaveTo_pwr (a0 : RegState) (s : State) : (leaveTo a0 s).pwr = s.pwr :=
  pwr_of_rest (m := { clk := true, carriers := true, reg := true, q := true, evc := true, pmc := true, out := true }) (by simp)
@[simp] theorem discardDrawn_pwr (a0 : Nat) (s : State) : (discardDrawn a0 s).pwr = s.pwr :=
  pwr_of_rest (m := { carriers := true, q := true, evc := true, pmc := true, out := true }) (by simp)
@[simp] theorem dropHeld_pwr (a0 : Nat) (s : State) : (dropHeld a0 s).pwr = s.pwr :=
  pwr_of_rest (m := { carriers := true }) (by simp)
@[simp] theorem runDuty_pwr (a0 : Nat) (a1 : Nat) (s : State) : (runDuty a0 a1 s).pwr = s.pwr :=
  pwr_of_rest (m := { out := true }) (by simp)
@[simp] theorem loseLineSettings_pwr (s : State) : (loseLineSettings s).pwr = s.pwr :=
  pwr_of_rest (m := { time := true, tio := true, carriers := true, reg := true, down := true, mch := true, trib := true, evc := true, out := true }) (by simp)
@[simp] theorem abortStaging_pwr (p : Cmd → Bool) (s : State) : (abortStaging p s).pwr = s.pwr :=
  pwr_of_rest (m := { cls := true, sec := true, groups := true, evc := true, out := true }) (by simp)
@[simp] theorem loseHbm_pwr (s : State) : (loseHbm s).pwr = s.pwr :=
  pwr_of_rest (m := { dev := true, cls := true, q := true }) (by simp)
@[simp] theorem loseHbm_reg (s : State) : (loseHbm s).reg = s.reg :=
  reg_of_rest (m := { dev := true, cls := true, q := true }) (by simp)
@[simp] theorem loseHbm_sec (s : State) : (loseHbm s).sec = s.sec :=
  sec_of_rest (m := { dev := true, cls := true, q := true }) (by simp)

@[simp] theorem onInvalid_tio (s : State) : (onInvalid s).tio = s.tio :=
  tio_of_rest (m := { trib := true, cls := true, q := true, ports := true, snaps := true, sec := true, groups := true, evc := true, pwr := true, out := true }) (by simp)
@[simp] theorem regateAll_tio (s : State) : (regateAll s).tio = s.tio :=
  tio_of_rest (m := { ports := true, evc := true, out := true }) (by simp)
@[simp] theorem noteStep_pwr (s : State) : (noteStep s).pwr = s.pwr :=
  pwr_of_rest (m := { tio := true, ports := true, evc := true, out := true }) (by simp)
/-! ### The PCIe link (R2, R180, R351) -/

/-- Raising a source of this variant outside the line die sets its pending bit (R288). -/
theorem raise_pends {n : Nat} {s : State} (hn : n < 256) (hs : isSource n = true) (hv : sourcePresent s.fuses.variant n = true)
    (hl : isLineSource n = false) : (raise n s).evc.pend.getLsbD n = true := by
  have hpend : (setPend n true s.evc).pend.getLsbD n = true := by rw [setPend_getLsbD n true _ hn, if_pos rfl]
  have hland : (land n s).evc.pend.getLsbD n = true := by
    unfold land
    dsimp only
    split
    · exact hpend
    · rw [((arrive_targets n _).trans (nest_targets s.evc n _)).pend]
      exact hpend
  unfold raise raiseOn
  rw [if_neg (by simp [hs, hv]), if_neg (by simp [hl])]
  exact hland

theorem setLink_frame (a b c : Nat) (s : State) :
    (setLink a b c s).dev = { s.dev with linkWidth := a, linkRate := b, linkState := c } ∧
    ((setLink a b c s).dev ≠ s.dev → (setLink a b c s).evc.pend.getLsbD 0x1C = true) ∧
    setLink a b c s = { s with dev := (setLink a b c s).dev, evc := (setLink a b c s).evc, out := (setLink a b c s).out } := by
  unfold setLink
  dsimp only
  split
  next h => exact ⟨h.symm, fun hne => absurd rfl hne, rfl⟩
  next h =>
    have honly := raise_only 0x1C { s with dev := { s.dev with linkWidth := a, linkRate := b, linkState := c } }
    refine ⟨honly.dev, fun _ => raise_pends (by decide) (by decide) (by cases s.fuses.variant <;> decide) (by decide), ?_⟩
    rw [honly.dev]
    exact honly

section
variable {s : State}

theorem pcieLinkChange_sets {a b c : Nat} (ha : a ≤ 2 ∨ a = 4 ∨ a = 8) (hb : b ≤ 5) (hc : c ≤ 5) :
    exec (.pcieLinkChange a b c) s = .next (setLink a b c s) := congrArg Host.Outcome.next (if_pos ⟨ha, hb, hc⟩)

theorem pciePerst_idle (hj : s.sec.job = none) : exec .pciePerstAssert s = .next (setLink 0 0 0 s) := by
  change execPciePerstAssert s = _
  unfold execPciePerstAssert
  dsimp only
  rw [setLink_sec, hj]

theorem pciePerst_fails {j : Job} (hj : s.sec.job = some j) : exec .pciePerstAssert s = .next (nextJob (sendReply j.hdr 0x0910
    { status := .dmaError } (modSec (fun x => { x with job := none }) (setLink 0 0 0 s)))) := by
  change execPciePerstAssert s = _
  unfold execPciePerstAssert
  dsimp only
  rw [setLink_sec, hj]

/-- With no job waiting the associations stay: one that was suspended goes on. -/
theorem nextJob_assocs (h : s.sec.jobs = []) : (nextJob s).sec.assocs = s.sec.assocs := by
  unfold nextJob
  rw [h, List.find?_nil]
  cases s.sec.suspended <;> rfl

/-! ### The reference clock (R36) -/

/-- What the loss of the reference sets: its flags and its events. -/
def refLost (s : State) : State :=
  raise 0xC5 (raise 0x29 (setFlag 4 { s with time := { s.time with refOk := false, refHeld := true } }))

theorem refLost_rest (s : State) : (refLost s).time = { s.time with refOk := false, refHeld := true } ∧
    (refLost s).tio = { s.tio with flags := s.tio.flags ||| (1#6 <<< 4) } ∧ (refLost s).pwr = s.pwr ∧ (refLost s).reg = s.reg ∧
    (refLost s).carriers = s.carriers ∧ (refLost s).fuses = s.fuses ∧ (refLost s).clk = s.clk := by
  unfold refLost
  simp only [raise_time, raise_tio, raise_pwr, raise_reg, raise_carriers, raise_fuses, raise_clk]
  exact ⟨rfl, rfl, rfl, rfl, rfl, rfl, rfl⟩

theorem noteTime_flags (s0 s : State) : (noteTime s0 s).tio.flags = s.tio.flags := by
  unfold noteTime
  dsimp only
  split
  · rfl
  · split
    · split
      · rfl
      · rw [raise_tio]
        rfl
    · split
      · rw [regateAll_tio]
        rfl
      · rw [onInvalid_tio, raise_tio]
        rfl

theorem ocxoFail_awake (ha : s.pwr.asleep = false) : exec .ocxoFail s = .next (enterFree (refLost s)) :=
  congrArg Host.Outcome.next (if_neg (by simp [ha]))

theorem ocxoFail_asleep (ha : s.pwr.asleep = true) : exec .ocxoFail s =
    .next (startWake (noteTime s (modPwr (fun p => { p with holdValid := false }) (refLost s)))) :=
  congrArg Host.Outcome.next (if_pos ha)

/-! ### Supply faults (R349) -/

theorem supply_of_schedOnly {p q : Power} (h : schedOnly p q) : q.supply = p.supply := by
  unfold schedOnly at h
  rw [h]

theorem noteTime_supply (s0 s : State) : (noteTime s0 s).pwr.supply = s.pwr.supply := supply_of_schedOnly (noteTime_pwr s0 s)

theorem applyDown_supply (d : Int) (s : State) : (applyDown d s).pwr.supply = s.pwr.supply := by
  unfold applyDown
  cases s.time.dDown with
  | none => exact noteTime_supply _ _
  | some old =>
    dsimp only
    split
    · rfl
    · split
      · rfl
      · rw [noteStep_pwr]

theorem retime_supply (s : State) : (retime s).pwr.supply = s.pwr.supply := by
  unfold retime
  dsimp only
  split
  · rfl
  · split
    · split
      · exact (applyDown_supply _ _).trans (congrArg Power.supply (raise_pwr _ _))
      · rw [raise_pwr]
    · rw [raise_pwr]

theorem turnOff_supply (n : Nat) (s : State) : (turnOff n s).pwr.supply = s.pwr.supply := by
  simp only [turnOff, enterCarrier, notePower_pwr, retime_supply, modCarrier_pwr, runDuty_pwr, dropHeld_pwr, discardDrawn_pwr]

/-- A carrier that is not OFF is turned off. -/
def darken (n : Nat) (s : State) : State := if (s.carrier n).state = .off then s else turnOff n s

theorem darken_supply (n : Nat) (s : State) : (darken n s).pwr.supply = s.pwr.supply := by
  unfold darken
  split
  · rfl
  · exact turnOff_supply n s

theorem holdLine_supply (s : State) : (holdLine s).pwr.supply = s.pwr.supply := by
  unfold holdLine
  dsimp only
  rw [supply_of_schedOnly (resumeServo_pwr _ _ _ _)]
  dsimp only
  rw [loseLineSettings_pwr, loseLineBuffers_pwr]
  refine (forEach_keeps (F := fun s => s.pwr.supply) _ _ darken_supply).trans ?_
  split
  · rfl
  · rw [leaveTo_pwr]

/-- What the domains lose that a rail feeds, the core rail's apart (R349). -/
def railLost (x : Rail) (s : State) : State :=
  if railBit x = 1 then holdLine s
  else if railBit x = 2 then forEach s.carrierNums darken s
  else if railBit x = 3 then losePipe (abortStaging (fun c => stagedDomain c == 2) s)
  else loseHbm s

theorem railLost_supply (x : Rail) (s : State) : (railLost x s).pwr.supply = s.pwr.supply := by
  unfold railLost
  split
  · exact holdLine_supply s
  · split
    · exact forEach_keeps (F := fun s => s.pwr.supply) _ _ darken_supply
    · split
      · rw [losePipe_pwr, abortStaging_pwr]
      · rw [loseHbm_pwr]

/-- A supply fault is latched. -/
def latchSupply (x : Rail) (s : State) : State := modPwr (fun p => { p with supply := p.supply ||| (1#5 <<< railBit x) }) s

theorem supplyFault_idle {x : Rail} (h : s.pwr.vreq.getLsbD (railBit x) = false ∨ s.pwr.wake.isSome = true ∨
    s.pwr.supply.getLsbD (railBit x) = true) : exec (.supplyFault x) s = .next s := by
  have hstop : (!s.pwr.vreq.getLsbD (railBit x) || s.pwr.wake.isSome || s.pwr.supply.getLsbD (railBit x) || s.pwr.stop) = true := by
    obtain h | h | h := h <;> simp only [h, Bool.not_false, Bool.true_or, Bool.or_true]
  exact congrArg Host.Outcome.next (if_pos hstop)

section
variable {x : Rail} (hv : s.pwr.vreq.getLsbD (railBit x) = true) (hw : s.pwr.wake = none)
  (hs : s.pwr.supply.getLsbD (railBit x) = false) (hstop : s.pwr.stop = false)
include hv hw hs hstop

theorem supplyFault_core (hx : railBit x = 0) : exec (.supplyFault x) s = .next (latchSupply x { survivors (stopBursts false s)
    with pwr := { (survivors (stopBursts false s)).pwr with supply := s.pwr.supply, wakeFail := s.pwr.wakeFail } }) := by
  have hgo : ¬ (!s.pwr.vreq.getLsbD (railBit x) || s.pwr.wake.isSome || s.pwr.supply.getLsbD (railBit x) || s.pwr.stop) = true := by
    rw [hv, hw, hs, hstop]
    decide
  exact congrArg Host.Outcome.next ((if_neg hgo).trans (if_pos hx))

theorem supplyFault_rail (hx : railBit x ≠ 0) : exec (.supplyFault x) s = .next (
    if s.pwr.asleep then notePower s (latchSupply x (railLost x (stopBursts false s)))
    else raise 0x03 (notePower s (latchSupply x (railLost x (stopBursts false s))))) := by
  have hgo : ¬ (!s.pwr.vreq.getLsbD (railBit x) || s.pwr.wake.isSome || s.pwr.supply.getLsbD (railBit x) || s.pwr.stop) = true := by
    rw [hv, hw, hs, hstop]
    decide
  exact congrArg Host.Outcome.next ((if_neg hgo).trans (if_neg hx))

/-- After a fault of another rail than the core's only events follow what the rail takes. -/
theorem supplyFault_only (hx : railBit x ≠ 0) : ∃ t, exec (.supplyFault x) s = .next t ∧
    evOnly (latchSupply x (railLost x (stopBursts false s))) t := by
  refine ⟨_, supplyFault_rail hv hw hs hstop hx, ?_⟩
  split
  · exact notePower_only s _
  · exact (notePower_only s _).trans (raise_only 0x03 _)

theorem supplyFault_latches : ∃ t, exec (.supplyFault x) s = .next t ∧ t.pwr.supply = s.pwr.supply ||| (1#5 <<< railBit x) := by
  by_cases hx : railBit x = 0
  · exact ⟨_, supplyFault_core hv hw hs hstop hx, rfl⟩
  · obtain ⟨t, hexec, honly⟩ := supplyFault_only hv hw hs hstop hx
    refine ⟨t, hexec, ?_⟩
    rw [honly.pwr]
    simp only [latchSupply, modPwr, railLost_supply, stopBursts_pwr]

end

/-! ### Thermal limits (R352) -/

theorem thermalWarn_frame (d a : Bool) (s : State) : ∃ t, exec (.thermalWarn d a) s = .next t ∧
    evOnly (modPwr (fun p => { p with
      warn := if a then p.warn ||| (1#2 <<< d.toNat) else p.warn &&& ~~~(1#2 <<< d.toNat) }) s) t := by
  refine ⟨_, rfl, ?_⟩
  refine evOnly.trans ?_ (syncWarn_only _)
  generalize modPwr _ s = x
  split
  · exact holdRising_only 0x01 _
  · exact .refl _

/-- One bit of the warnings follows, the other stays. -/
theorem warnBit_getLsbD (x : BitVec 2) (d a : Bool) (k : Nat) :
    (if a then x ||| (1#2 <<< d.toNat) else x &&& ~~~(1#2 <<< d.toNat)).getLsbD k =
      if k = d.toNat then a else x.getLsbD k := by
  by_cases hk : k < 2
  · have h2 : ∀ k < 2, (if a then x ||| (1#2 <<< d.toNat) else x &&& ~~~(1#2 <<< d.toNat)).getLsbD k =
        if k = d.toNat then a else x.getLsbD k := by
      revert x d a
      decide
    exact h2 k hk
  · have hd : d.toNat < 2 := d.toNat_lt
    rw [BitVec.getLsbD_of_ge _ _ (not_lt.mp hk), BitVec.getLsbD_of_ge _ _ (not_lt.mp hk), if_neg (show k ≠ d.toNat by omega)]

/-- The carriers that a thermal trip disables: all but the time carrier. -/
def tripped (s : State) : List Nat := s.carrierNums.filter fun n => s.time.carrier != some n

theorem thermalTrip_disables {d : Bool} (hd : s.pwr.trip.getLsbD d.toNat = false) : exec (.thermalTrip d) s =
    .next (forEach (tripped s) startDisable
      (raiseOn d 0x02 (modPwr (fun p => { p with trip := p.trip ||| (1#2 <<< d.toNat) }) s))) := by
  have hsame : tripped (raiseOn d 0x02 (modPwr (fun p => { p with trip := p.trip ||| (1#2 <<< d.toNat) }) s)) = tripped s := by
    unfold tripped State.carrierNums State.variant
    rw [raiseOn_time, raiseOn_fuses]
    rfl
  rw [← hsame]
  exact congrArg Host.Outcome.next (if_neg (by rw [hd]; decide))

end

/-- Settles O58. -/
theorem pinsAndFaults : Obligations.PinsAndFaults := by
  intro s
  refine ⟨fun a b c ha hb hc => nextWith_of (pcieLinkChange_sets ha hb hc) (setLink_frame a b c s), fun hj => ?_, fun j hj => ?_,
    fun ha => ?_, fun ha hw => ?_, fun x h => supplyFault_idle h, fun x hv hw hs hstop => ?_, fun x hv hw hs hstop hx => ?_,
    fun d a => ?_, fun d hd => ?_, fun d hd => congrArg Host.Outcome.next (if_pos hd), rfl⟩
  · obtain ⟨hdev, -, hframe⟩ := setLink_frame 0 0 0 s
    exact nextWith_of (pciePerst_idle hj) ⟨hdev, hframe⟩
  · have hexec := pciePerst_fails hj
    have hframe : nextJob (sendReply j.hdr 0x0910 { status := .dmaError } (modSec (fun x => { x with job := none })
        (setLink 0 0 0 s))) = _ := eq_merged (s := s)
      (m := { dev := true, clk := true, ports := true, sec := true, cmd := true, evc := true, out := true }) (by simp)
    have hassocs : s.sec.jobs = [] → (nextJob (sendReply j.hdr 0x0910 { status := .dmaError } (modSec (fun x => { x with job := none })
        (setLink 0 0 0 s)))).sec.assocs = s.sec.assocs := by
      intro hjobs
      rw [nextJob_assocs]
      · rw [sendReply_sec, modSec, setLink_sec]
      · rw [sendReply_sec, modSec, setLink_sec]
        exact hjobs
    have hdev : (nextJob (sendReply j.hdr 0x0910 { status := .dmaError } (modSec (fun x => { x with job := none })
        (setLink 0 0 0 s)))).dev = { s.dev with linkWidth := 0, linkRate := 0, linkState := 0 } :=
      (dev_of_rest (m := { clk := true, ports := true, sec := true, cmd := true, evc := true, out := true })
        (s := setLink 0 0 0 s) (by simp)).trans (setLink_frame 0 0 0 s).1
    generalize nextJob _ = t at hexec hframe hassocs hdev
    exact nextWith_of hexec ⟨hdev, hassocs, by rw [hframe]; rfl, by rw [hframe]; rfl, by rw [hframe]; rfl, by rw [hframe]; rfl, hframe⟩
  · obtain ⟨htime, htio, -, hreg, hcarriers, hfuses, -⟩ := refLost_rest s
    have hfree : (enterFree (refLost s)).time = { (refLost s).time with
        servo := .free, holdover := none, beyond := false, phaseOk := none, stampAt := none, slew := none } := noteTime_time _ _
    refine nextWith_of (ocxoFail_awake ha) ⟨?_, ?_, ?_, ?_, ?_, ?_, ?_, ?_⟩
    · rw [hfree, htime]
    · rw [hfree, htime]
    · rw [hfree]
    · rw [hfree]
    · refine (congrArg (BitVec.getLsbD · 4) (noteTime_flags (refLost s) _)).trans ?_
      dsimp only
      rw [htio]
      simp
    · exact (noteTime_reg _ _).trans hreg
    · exact (noteTime_carriers _ _).trans hcarriers
    · exact (noteTime_fuses _ _).trans hfuses
  · obtain ⟨htime, -, hpwr, hreg, -, hfuses, hclk⟩ := refLost_rest s
    have hexec := ocxoFail_asleep ha
    generalize hx : noteTime s (modPwr (fun p => { p with holdValid := false }) (refLost s)) = x at hexec
    have hxpwr : schedOnly { s.pwr with holdValid := false } x.pwr := hx ▸ noteTime_pwr_of (by rw [modPwr, hpwr])
    have hxtime : x.time = { s.time with refOk := false, refHeld := true } := hx ▸ (noteTime_time _ _).trans htime
    have hxreg : x.reg = s.reg := hx ▸ (noteTime_reg _ _).trans hreg
    have hxfuses : x.fuses = s.fuses := hx ▸ (noteTime_fuses _ _).trans hfuses
    have hxnow : x.clk.now = s.clk.now := by
      rw [← hx, now_of_kept (noteTime_kept _ _)]
      exact congrArg Clock.now hclk
    unfold schedOnly at hxpwr
    rw [startWake_starts (by rw [hxpwr]; exact ha) (by rw [hxpwr]; exact hw), hxnow] at hexec
    exact nextWith_of hexec ⟨by rw [hxtime], by rw [hxpwr], rfl, hxreg, hxfuses⟩
  · obtain ⟨t, hexec, hsupply⟩ := supplyFault_latches hv hw hs hstop
    obtain ⟨u, hexec', hkept⟩ := Steps.supplyFault_kept x s
    obtain rfl : u = t := Host.Outcome.next.inj (hexec'.symm.trans hexec)
    exact nextWith_of hexec ⟨hsupply, by rw [fuses_kept, hkept, ← fuses_kept], by rw [pending_kept, hkept, ← pending_kept]⟩
  · subst hx
    obtain ⟨t, hexec, honly⟩ := supplyFault_only hv hw hs hstop (by decide)
    have hlost : railLost .hbm (stopBursts false s) = loseHbm (stopBursts false s) := rfl
    rw [hlost] at honly
    refine nextWith_of hexec ⟨?_, by rw [honly.cls]; rfl, by rw [honly.cls]; rfl, by rw [honly.q]; rfl, by rw [honly.q]; rfl,
      by rw [honly.dev]; rfl, ?_, ?_⟩
    · have hoff : t.pwr.heldOff 3 = true := by
        rw [honly.pwr]
        simp [latchSupply, modPwr, Power.heldOff, railBit]
      unfold State.level
      rw [if_neg (by decide), if_pos (by rw [hoff, Bool.or_true])]
    · exact honly.reg.trans (stopBursts_reg false s)
    · exact honly.sec.trans (stopBursts_sec false s)
  · obtain ⟨t, hexec, honly⟩ := thermalWarn_frame d a s
    have hwarn : t.pwr = { s.pwr with
        warn := if a then s.pwr.warn ||| (1#2 <<< d.toNat) else s.pwr.warn &&& ~~~(1#2 <<< d.toNat) } := honly.pwr
    refine nextWith_of hexec ⟨?_, fun k hk => ?_, ?_⟩
    · rw [hwarn]
      exact (warnBit_getLsbD _ d a _).trans (if_pos rfl)
    · rw [hwarn]
      exact (warnBit_getLsbD _ d a k).trans (if_neg hk)
    · unfold evOnly at honly
      rw [honly]
      rfl
  · have hexec := thermalTrip_disables hd
    generalize hx : raiseOn d 0x02 (modPwr (fun p => { p with trip := p.trip ||| (1#2 <<< d.toNat) }) s) = x at hexec
    have honly : evOnly (modPwr (fun p => { p with trip := p.trip ||| (1#2 <<< d.toNat) }) s) x := hx ▸ raiseOn_only d 0x02 _
    have hcar : ∀ n, x.carrier n = s.carrier n := fun n => by
      unfold State.carrier
      rw [honly.carriers]
      rfl
    have hpwr : (forEach (tripped s) startDisable x).pwr = x.pwr := forEach_keeps (F := State.pwr) _ x startDisable_pwr
    refine nextWith_of hexec ⟨hpwr.trans honly.pwr, fun n hn htc hne => ?_, fun n htc => ?_, ?_⟩
    · have hmem : n ∈ tripped s := List.mem_filter.mpr ⟨hn, by simpa using htc⟩
      have hstate : ((forEach (tripped s) startDisable x).carrier n).state = (s.carrier n).state :=
        (forEach_keeps (F := fun s => (s.carrier n).state) _ x fun m s => startDisable_state m n s).trans (by rw [hcar])
      have hdone : disabled n (forEach (tripped s) startDisable x) :=
        forEach_mem hmem x (startDisable_self n) fun m s h => startDisable_disabled m h
      exact hdone (by rw [hstate]; exact hne)
    · rw [← hcar n]
      refine List.foldlRecOn (motive := fun t : State => t.carrier n = x.carrier n) (tripped s) _ rfl fun t ht m hm => ?_
      have hne : n ≠ m := by
        rintro rfl
        exact absurd (List.mem_filter.mp hm).2 (by simp [htc])
      exact (startDisable_ne hne t).trans ht
    · rw [← hx]
      exact eq_merged (m := { carriers := true, q := true, evc := true, pmc := true, pwr := true, out := true }) (by simp)

end Sys2Proof.Proofs.Pins
end

section
/-!
Every row: what the commands that only read answer, and that no row is turned away. O59 and O60.
-/
namespace Sys2Proof.Proofs.Rows
open Sys2Proof Sys2Proof.Machine Sys2Proof.Proofs.Rules Sys2Proof.Proofs.Steps

set_option Elab.async false

/-! ### Every row answers (R247, R256) -/

/-- The row of a Palgil command answers what its body answers at once, in the state the body leaves. -/
theorem runsAs_of_palgil {i : Instr} {h : Hdr} {c : Cmd} (hi : i.palgil = some (h, c)) : runsAs i h c := by
  intro s u a hrun hbody
  rw [exec_of_palgil hi]
  obtain ⟨hg, hn, hs⟩ := hrun
  unfold begun at hbody
  simp only [command, run, hn, Bool.false_eq_true, if_false, hg, if_true]
  cases hk : secCheck h (Cmd.opcode c) (takeUp h s) with
  | mk st s1 =>
    rw [hk] at hs hbody
    simp only at hs hbody
    subst hs
    simp only [hbody]

/-- Every row answers a next state, but a register write outside BAR0 or off a word boundary (R7). -/
theorem answers_inside {i : Instr} (hi : ∀ o v, i = .registerWrite o v → o < 0x10000 ∧ o % 4 = 0) : answers i := by
  intro s
  rcases exec_cases i with honward | ⟨-, hreset⟩ | ⟨o, v, hwrite, hbad, -⟩
  · obtain ⟨t, hexec, -⟩ := honward s
    exact ⟨t, hexec⟩
  · obtain ⟨t, hexec, -⟩ := hreset s
    exact ⟨t, hexec⟩
  · obtain ⟨hin, hword⟩ := hi o v hwrite
    omega

/-- Settles O60: the statement lists the rows, and each is its own command's, or one that is always inside BAR0. -/
theorem rowsAnswer : Obligations.RowsAnswer := by
  refine ⟨fun h => ?_, ?_⟩
  · and_intros <;> intros <;> exact runsAs_of_palgil rfl
  · and_intros <;> intros <;> refine answers_inside ?_ <;> rintro _ _ ⟨⟩ <;> exact ⟨‹_›, ‹_›⟩

/-! ### Commands that only read -/

section
variable {i : Instr} {h : Hdr} {c : Cmd} {o : Nat} {s t : State} {x : CmdChannel} {d : List Nat} {f : State → List Nat}

/-- The answer of a row whose command is not security-relevant and succeeds. -/
theorem exec_ok (hx : takeUp h s = { s with cmd := x }) (hr : runsNow h c s) (he : exec i s = .next (command h c s))
    (ho : Cmd.opcode c = o) (hs : secRelevant o = false) (hb : bodyOf h c { s with cmd := x } = (some { data := d }, t)) :
    exec i s = .next (sendReply h o { data := d } t) := by
  rw [he, command_runs hr (by rw [begun_plain (by rw [ho]; exact hs), hx]; exact hb), ho]

/-- A command that answers with what it reads. -/
theorem reads_of (hx : takeUp h s = { s with cmd := x }) (hr : runsNow h c s) (he : exec i s = .next (command h c s))
    (ho : Cmd.opcode c = o) (hs : secRelevant o = false)
    (hb : bodyOf h c { s with cmd := x } = okData (f { s with cmd := x }) { s with cmd := x }) : reads i h o s f := by
  unfold reads
  rw [hx]
  exact exec_ok hx hr he ho hs hb

end

section
variable {h : Hdr} {s : State} (x : CmdChannel)

/-- An upstream leaf queue's counts, or its absence. -/
theorem queueStatus_leaf {q : Nat} (hlo : 256 ≤ q) (hhi : q ≤ 65535) {v : Queue} (hq : s.queue q = some v) :
    doQueueStatus q { s with cmd := x } = okData (([0, 1, 2, 3].map fun n => listCells (Tbl.get [] v.lists n)) ++
      [v.nTrib, v.nStore, v.nLimit, v.nYellow, v.nAge, v.nFlush, v.cFlush, v.nIntegrity, v.nSession]) { s with cmd := x } := by
  unfold doQueueStatus
  rw [if_neg (not_lt.mpr hhi), if_neg (not_lt.mpr hlo), show State.queue { s with cmd := x } q = some v from hq]

theorem queueStatus_absent {q : Nat} (hlo : 256 ≤ q) (hhi : q ≤ 65535) (hq : s.queue q = none) :
    doQueueStatus q { s with cmd := x } = fail .entryAbsent { s with cmd := x } := by
  unfold doQueueStatus
  rw [if_neg (not_lt.mpr hhi), if_neg (not_lt.mpr hlo), show State.queue { s with cmd := x } q = none from hq]

/-- An egress queue's counts. -/
theorem queueStatus_egress {p k : Nat} (hp : p < 32) (hk : k < 8) (hport : s.hasPort p = true) :
    doQueueStatus (8 * p + k) { s with cmd := x } = okData
      [egressBytes (Tbl.get [] (s.port p).queues k), Tbl.get 0 (s.port p).stats.egLimit k, Tbl.get 0 (s.port p).stats.egYellow k,
        Tbl.get 0 (s.port p).stats.egPool k, Tbl.get 0 (s.port p).stats.egAge k, Tbl.get 0 (s.port p).stats.egGate k]
      { s with cmd := x } := by
  have hdiv : (8 * p + k) / 8 = p := by omega
  have hmod : (8 * p + k) % 8 = k := by omega
  unfold doQueueStatus
  rw [if_neg (by omega), if_pos (by omega), hdiv, hmod]
  exact require_true hport

theorem portStatusOf_here {p : Nat} (hport : s.hasPort p = true) : portStatusOf p { s with cmd := x } = .ok := if_pos hport

theorem portStatusOf_absent {p : Nat} (hp : p < 32) (hport : s.hasPort p = false) :
    portStatusOf p { s with cmd := x } = .unitAbsent :=
  (if_neg (by rw [show State.hasPort { s with cmd := x } p = false from hport]; decide)).trans (if_pos (.inl hp))

theorem gateStatus_body {p : Nat} (hport : s.hasPort p = true) : doGateStatus p { s with cmd := x } = okData
    (gateListWords (s.port p).gate ++ gateListWords (s.port p).gateNext ++
      [(s.port p).stats.egGate.foldl (fun a x => a + x.2) 0]) { s with cmd := x } := by
  unfold doGateStatus
  rw [portStatusOf_here x hport]
  rfl

theorem withPort_here {p : Nat} (hport : s.hasPort p = true) (k : Body) : withPort p k { s with cmd := x } = k { s with cmd := x } := by
  unfold withPort
  rw [portStatusOf_here x hport]

theorem withPort_absent {p : Nat} (hp : p < 32) (hport : s.hasPort p = false) (k : Body) :
    withPort p k { s with cmd := x } = fail .unitAbsent { s with cmd := x } := by
  unfold withPort
  rw [portStatusOf_absent x hp hport]

theorem withCarrier_absent {n : Nat} (hn : n < 4) (hc : s.hasCarrier n = false) (k : Body) :
    withCarrier n k { s with cmd := x } = fail .unitAbsent { s with cmd := x } := by
  have hno : State.noUnit { s with cmd := x } n 4 = .unitAbsent := if_pos (.inl hn)
  rw [← hno]
  exact require_false hc

theorem secIdentity_body {v : Nat} (hv : seedOf s.fuses.seedBanks = some v) : doSecIdentity { s with cmd := x } =
    okData (((Config.identityKeys v).1 ++ (Config.identityKeys v).2).map (·.toNat)) { s with cmd := x } := by
  unfold doSecIdentity
  dsimp only
  rw [hv]

theorem secIdentity_lost (hv : seedOf s.fuses.seedBanks = none) :
    doSecIdentity { s with cmd := x } = fail .securityFault { s with cmd := x } := by
  unfold doSecIdentity
  dsimp only
  rw [hv]

end

/-! The CRC errors that die.status counts (R183). -/

/-- One lane's errors since they were last counted. -/
def countLane (s : State) (k : Nat) : State := modDie (fun d => { d with errs := Tbl.modify 0 d.errs k (· + (draw s).1) }) (draw s).2

theorem countCrc_eq (s : State) : countCrc s = (List.range 48).foldl countLane s := rfl

/-- Counting lanes draws once for each and changes the error counts alone, none of which falls. -/
theorem countLanes_frame (l : List Nat) (s : State) : l.foldl countLane s = { s with
    clk := { s.clk with draws := s.clk.draws + l.length }, die := { s.die with errs := (l.foldl countLane s).die.errs } } ∧
    ∀ k, Tbl.get 0 s.die.errs k ≤ Tbl.get 0 (l.foldl countLane s).die.errs k := by
  induction l generalizing s with
  | nil => exact ⟨rfl, fun _ => le_rfl⟩
  | cons j l ih =>
    obtain ⟨hframe, hle⟩ := ih (countLane s j)
    refine ⟨?_, fun k => le_trans ?_ (hle k)⟩
    · rw [List.foldl_cons, hframe, List.length_cons, Nat.add_comm l.length 1, ← Nat.add_assoc]
      rfl
    · unfold countLane modDie
      dsimp only
      by_cases hk : k = j
      · rw [hk, Tbl.get_modify_self]
        exact Nat.le_add_right _ _
      · rw [Tbl.get_modify_ne _ _ _ hk]
        exact le_rfl

theorem countCrc_frame (s : State) : countCrc s = { s with
    clk := { s.clk with draws := s.clk.draws + 48 }, die := { s.die with errs := (countCrc s).die.errs } } ∧
    ∀ k, Tbl.get 0 s.die.errs k ≤ Tbl.get 0 (countCrc s).die.errs k := by
  have h := countLanes_frame (List.range 48) s
  rw [List.length_range] at h
  rw [countCrc_eq]
  exact h

theorem countCrc_die (s : State) : (countCrc s).die = { s.die with errs := (countCrc s).die.errs } := by
  have h := (countCrc_frame s).1
  generalize countCrc s = t at h ⊢
  rw [h]

theorem dieStatus_split {s : State} (x : CmdChannel) (hsplit : s.die.split = true) : doDieStatus { s with cmd := x } = okData
    ([s.die.widthUp, s.die.widthDown, s.die.goodUp, s.die.goodDown, s.die.nSpared, s.die.nFailed] ++
      ((List.range 48).map fun k => Tbl.get 0 s.die.errs k) ++ [s.die.nRetrain, s.die.nOverrun]) { s with cmd := x } := by
  unfold doDieStatus
  dsimp only
  rw [if_pos hsplit]

theorem dieStatus_counts {s : State} (x : CmdChannel) (hsplit : s.die.split = false) : doDieStatus { s with cmd := x } = okData
    ([s.die.widthUp, s.die.widthDown, s.die.goodUp, s.die.goodDown, s.die.nSpared, s.die.nFailed] ++
      ((List.range 48).map fun k => Tbl.get 0 (countCrc { s with cmd := x }).die.errs k) ++ [s.die.nRetrain, s.die.nOverrun])
    (countCrc { s with cmd := x }) := by
  have hdie := countCrc_die { s with cmd := x }
  unfold doDieStatus
  dsimp only
  rw [if_neg (by rw [hsplit]; decide), hdie]

/-! The status commands of each chapter. -/

section
variable (h : Hdr) (s : State)

theorem carrierReads {n : Nat} (hc : s.hasCarrier n = true) :
    (runsNow h (.carrierStatus n) s → reads (.carrierStatus h n) h 0x0304 s fun s =>
      [carrierCode (s.carrier n).state, ((s.carrier n).slot.map (· + 1)).getD 0, Prof.code (s.carrier n).profile,
        (s.carrier n).hasHint.toNat, causeCode (s.carrier n).lastFault, (s.carrier n).nDropped, (s.carrier n).attempts]) ∧
    (runsNow h (.grantStats n) s → reads (.grantStats h n) h 0x0407 s fun s =>
      [(s.carrier n).held.length, (s.carrier n).nEmitted, (s.carrier n).nLate, (s.carrier n).nInvalid, (s.carrier n).nDropped,
        (s.carrier n).nDiscarded, ((s.carrier n).standing.filter fun g => !g.ended s (s.carrier n)).length]) ∧
    (runsNow h (.forecastRead n) s → reads (.forecastRead h n) h 0x0409 s fun s => (s.carrier n).report.map (·.toNat)) ∧
    (runsNow h (.frameStatus n) s → reads (.frameStatus h n) h 0x0501 s fun s =>
      [((s.carrier n).state == .locked || (s.carrier n).state == .mismatch).toNat, (s.carrier n).hunt.length,
        (s.carrier n).nAbsent, (s.carrier n).nTagFail, (s.carrier n).nSfOk, (s.carrier n).nSfBad, (s.carrier n).nSfUnver]) ∧
    (runsNow h (.cellStats n) s → reads (.cellStats h n) h 0x0502 s fun s =>
      [(s.carrier n).nHec, (s.carrier n).nCalm, (s.carrier n).nFiltered, (s.carrier n).nTrib, (s.carrier n).nUnknown,
        (s.carrier n).nTruncated, (s.carrier n).nOrphan, (s.carrier n).nOversize, (s.carrier n).nTimedOut,
        (s.carrier n).nRemainder]) := by
  obtain ⟨x, hx⟩ := takeUp_cmd h s
  exact ⟨fun hr => reads_of hx hr rfl rfl rfl (require_true hc), fun hr => reads_of hx hr rfl rfl rfl (require_true hc),
    fun hr => reads_of hx hr rfl rfl rfl (require_true hc), fun hr => reads_of hx hr rfl rfl rfl (require_true hc),
    fun hr => reads_of hx hr rfl rfl rfl (require_true hc)⟩

end

/-- Settles O59. -/
theorem statusReads : Obligations.StatusReads := by
  intro h s
  obtain ⟨x, hx⟩ := takeUp_cmd h s
  refine ⟨fun hr => reads_of hx hr rfl rfl rfl rfl, fun n hn hc => ?_,
    fun n hn hc hr => failsWith_taken hx hr rfl rfl rfl (withCarrier_absent x hn hc _),
    fun hr => reads_of hx hr rfl rfl rfl rfl,
    fun k hk hr => reads_of hx hr rfl rfl rfl (require_true (decide_eq_true hk)),
    fun a ht hr => reads_of hx hr rfl rfl rfl (require_true ht), fun a ht hr => failsWith_taken hx hr rfl rfl rfl (require_false ht),
    fun ht hr => reads_of hx hr rfl rfl rfl (require_true ht), fun hr => reads_of hx hr rfl rfl rfl rfl,
    fun q v hlo hhi hq hr => reads_of hx hr rfl rfl rfl (queueStatus_leaf x hlo hhi hq),
    fun q hlo hhi hq hr => failsWith_taken hx hr rfl rfl rfl (queueStatus_absent x hlo hhi hq),
    fun p hp hport => ⟨fun k hk hr => reads_of hx hr rfl rfl rfl (queueStatus_egress x hp hk hport),
      fun hr => reads_of hx hr rfl rfl rfl (gateStatus_body x hport), fun hr => reads_of hx hr rfl rfl rfl (withPort_here x hport _)⟩,
    fun p hp hport hr => failsWith_taken hx hr rfl rfl rfl (withPort_absent x hp hport _),
    fun hr => reads_of hx hr rfl rfl rfl rfl, fun hr hsplit => reads_of hx hr rfl rfl rfl (dieStatus_split x hsplit),
    fun hr hsplit => ?_, fun hr => reads_of hx hr rfl rfl rfl rfl,
    fun v hv hr => reads_of hx hr rfl rfl rfl (secIdentity_body x hv),
    fun hv hr => failsWith_taken hx hr rfl rfl rfl (secIdentity_lost x hv),
    fun i hi hr => reads_of hx hr rfl rfl rfl (if_neg (not_lt.mpr hi)), fun hr => reads_of hx hr rfl rfl rfl rfl,
    fun hr => reads_of hx hr rfl rfl rfl rfl,
    fun b hb hr => reads_of hx hr rfl rfl rfl (require_true (decide_eq_true hb)),
    fun b hb hr => failsWith_taken hx hr rfl rfl rfl (require_false (decide_eq_false (not_le.mpr hb))),
    fun g hlo hhi hr => reads_of hx hr rfl rfl rfl (require_true (decide_eq_true ⟨hlo, hhi⟩)),
    fun hr => reads_of hx hr rfl rfl rfl rfl, fun hr => reads_of hx hr rfl rfl rfl rfl,
    fun hr => reads_of hx hr rfl rfl rfl rfl⟩
  · obtain ⟨hstatus, hgrants, hforecast, hframe, hcells⟩ := carrierReads h s hc
    refine ⟨hstatus, fun hr => reads_of hx hr rfl rfl rfl ?_, hgrants, hforecast, hframe, hcells⟩
    change doCarrierMonitor n { s with cmd := x } = _
    unfold doCarrierMonitor withCarrier
    rw [require_true (show State.hasCarrier { s with cmd := x } n = true from hc)]
    cases (State.carrier { s with cmd := x } n).monitor <;> rfl
  · obtain ⟨hframe, hle⟩ := countCrc_frame { s with cmd := x }
    refine ⟨countCrc { s with cmd := x }, exec_ok hx hr rfl rfl rfl (dieStatus_counts x hsplit), hle, ?_⟩
    rw [hx]
    exact hframe

end Sys2Proof.Proofs.Rows
end
